-- ==== Sys2Proof/Word.lean ====
section
/-! DEFINITION. The word types of the part (01 R5, R31): bytes, 64-bit register words, 64-byte lines, and the
bounded numbers of its agents (R15, R17, R18, R36, R370). -/

namespace Sys2Proof

/-- A byte (R5). -/
abbrev Byte := BitVec 8
/-- A 64-bit register or memory word (R5, R39). -/
abbrev Word := BitVec 64
/-- A 64-byte cache line, byte 0 in bits 7..0 (R5, R151). -/
abbrev Line := BitVec 512
/-- A 52-bit physical address (R14). -/
abbrev PA := BitVec 52
/-- A mesh stop, numbered 12 y + x (R15, R36). -/
abbrev Stop := Fin 120
/-- A cluster tile; its slice, engine, queue, DMA engine and Negative store carry its number (R17). -/
abbrev Tile := Fin 96
/-- A processor of the Dwemon instruction set: the engine of tile 0 to 95, or 96, the Ward (R82, R290). -/
abbrev Dwe := Fin 97
/-- A physical core, 4 c + k (R17). -/
abbrev CoreId := Fin 384
/-- An architectural hart (R17). -/
abbrev HartId := Fin 384
/-- A memory controller (R18). -/
abbrev McId := Fin 16
/-- A fabric port (R18). -/
abbrev PortId := Fin 8
/-- A link of a fabric port (R37). -/
abbrev LinkId := Fin 4
/-- A Ward mailbox (R85). -/
abbrev Mbx := Fin 32
/-- An isolation class (glossary, R66). -/
abbrev Cls := Fin 16
/-- A tenant ID (R72). -/
abbrev Tenant := Fin 4096
/-- A memory key index (R79). -/
abbrev KeyIx := Fin 4096
/-- An interrupt source (R363). -/
abbrev Source := Fin 32768
/-- A DMA channel of an engine (R361). -/
abbrev Chan := Fin 16
/-- A general register of a Dwemon engine (R252) or of a hart. -/
abbrev Reg := Fin 32

end Sys2Proof
end

