-- ==== Sys2Proof/Syntax.lean ====
section
/-! DEFINITION. The commands of the part: what a request, a flit and a message carry, and one constructor for each row
of spec/opcode_table.json. -/

namespace Sys2Proof

/-- The path by which a requester reaches a page or memory (R46 PATH). -/
inductive Path where
  | hart | engine | dma | fabric | ward | bmc | safelight
  deriving DecidableEq, Repr

/-- The code of a path in PG_FAULT_INFO (R46). -/
def Path.code : Path → Nat
  | .hart => 0 | .engine => 1 | .dma => 2 | .fabric => 3 | .ward => 4 | .bmc => 5 | .safelight => 6

/-- Who makes a request: path, tenant, class, privilege field (R68) and the number PG_FAULT_INFO.REQ shows (R46). -/
structure Requester where
  path : Path
  tenant : Tenant
  cls : Cls
  priv : Fin 8
  req : Nat
  deriving DecidableEq, Repr

/-- Kind of an access (R39). -/
inductive AccKind where
  | load | store | amo | lrsc | cbo | fetch
  deriving DecidableEq, Repr

/-- An access to a register page (R39, R46, R63): `issued` is its issue time in aclk, `tag` the requester's own name for it. -/
structure PageReq where
  who : Requester
  addr : PA
  kind : AccKind
  size : Nat
  data : Word
  issued : Nat
  tag : Nat
  deriving DecidableEq, Repr

/-- Whether an access writes. -/
def AccKind.writes : AccKind → Bool
  | .store => true | .amo => true | .lrsc => true | .cbo => true | .load => false | .fetch => false

/-- The four planes of the mesh (R147). -/
inductive Plane where
  | req | rsp | snp | bulk
  deriving DecidableEq, Repr

/-- Index of a plane (R147). -/
def Plane.ix : Plane → Nat
  | .req => 0 | .rsp => 1 | .snp => 2 | .bulk => 3

/-- A message of the mesh: the header of R151 and the payload fields of a flit that carries an address; `data` is a
line or write data, `detail` the operation detail of the serving agent's chapter. -/
structure Flit where
  plane : Plane
  dst : Stop
  dport : Fin 8
  src : Stop
  sport : Fin 8
  cls : Cls
  op : Fin 32
  part : Fin 4
  tag : Fin 2048
  poison : Bool
  count : Fin 65
  addr : PA
  tenant : Tenant
  key : KeyIx
  priv : Fin 8
  detail : Word
  data : Line
  deriving DecidableEq, Repr

/-- Size of a hart's or an engine's memory access in bytes. -/
inductive MemSize where
  | b | h | w | d | q
  deriving DecidableEq, Repr

/-- Bytes of an access. -/
def MemSize.bytes : MemSize → Nat
  | .b => 1 | .h => 2 | .w => 4 | .d => 8 | .q => 16

/-- Operations of an AMO (the A extension of R105, with Zacas and Zabha as R105 lists them). -/
inductive AmoOp where
  | swap | add | xor | and | or | min | max | minu | maxu | cas
  deriving DecidableEq, Repr

/-- An array error: which word or line, and how bad it is. -/
inductive ArrayError where
  | corrected (line : Nat)
  | data (line : Nat)
  | tag (line : Nat)
  deriving DecidableEq, Repr

/-- A range of device memory that a type 2 or 3 device offers (R397, R402): 256 MiB units, and whether it is HDM-DB. -/
structure HdmRange where
  units : Nat
  hdmdb : Bool
  deriving DecidableEq, Repr

/-- What stands behind a link as training and enumeration find it (R388, R402, R411): Flit mode, width and rate codes, CXL, device
type, requester IDs of its functions, the base registers of each (requester ID, bytes), its memory ranges, and whether IDE is
configured for the link. -/
structure Partner where
  flitMode : Bool
  width : Fin 6
  rate : Fin 5
  cxl : Bool
  devType : Fin 4
  functions : List (BitVec 16)
  bars : List (BitVec 16 × Nat)
  ranges : List HdmRange
  ide : Bool
  deriving DecidableEq, Repr

/-- A memory request of a device (R395, R396): port, link, requester ID, PASID, address and whether it is marked translated, its
direction, length in bytes and data, whether the data is poisoned, and the device's tag. -/
structure Inbound where
  port : PortId
  link : LinkId
  rid : BitVec 16
  pasid : Option (BitVec 20)
  addr : Word
  translated : Bool
  write : Bool
  len : Nat
  data : List Byte
  poison : Bool
  tag : Nat
  deriving DecidableEq, Repr

/-- D2H requests of CXL.cache (R399); `other` stands for every one that would leave a copy in the device. -/
inductive D2hOp where
  | rdCurr | wrCur | itoMWr | woWrInv | woWrInvF | other
  deriving DecidableEq, Repr

/-- Kinds of message a port hands to a link (R392-R401). -/
inductive FabKind where
  | completion | prgResponse | atsInvalidate | atsTranslation | posted | request | bisnpResponse
  deriving DecidableEq, Repr

/-- An authenticated firmware and configuration image (R486, R487, R490): which copy, AUTO_BOLT, TCT entries, register settings
(CORE_RESETVEC, HOLDRST, MC_ILV, MC_MAP, carve-outs, shares, bolts), memory keys, and the hart firmware with its offset in the
boot channel's join region. -/
structure BootImage where
  backup : Bool
  autoBolt : Bool
  tct : List (Tenant × Word)
  settings : List (PA × Word)
  keys : List (KeyIx × BitVec 512)
  offset : Nat
  firmware : List Line
  deriving DecidableEq, Repr

/-- The commands of the part, one for each row of the table; each names its rule. -/
inductive Instr where
  /-- REGISTER_WRITE (R534): A page register write with no behaviour of its own is checked for kind, world, writer, readiness and value, then performed or refused with one fault bit. -/
  | registerWrite (p : PageReq)
  /-- PG_FAULT_CLEAR (R46): A W1C write to PG_FAULT clears fault bits and clears PG_FAULT_INFO once no access bit is left set. -/
  | pgFaultClear (p : PageReq)
  /-- PG_STATUS_READ (R43): A mesh read of PG_STATUS returns it and clears LOST; a Ward root read clears WLOST. -/
  | pgStatusRead (p : PageReq)
  /-- PAGE_REQUEST_ARRIVAL (R56): A mesh page request reaches a Hinge and joins its class queue, or is refused if the queue is full. -/
  | pageRequestArrival (p : PageReq)
  /-- KEYWAY_ROOT_REQUEST (R59): The Ward, the BMC through the Ward, or Safelight issues a page access through the keyway root. -/
  | keywayRootRequest (p : PageReq)
  /-- HINGE_TURN (R56): At the start of a Hinge turn, the oldest access of that turn's class or of the root is performed, or discarded if stale. -/
  | hingeTurn (n : Stop)
  /-- PAGE_ACCESS_TIMEOUT (R63): With no response 50,000 aclk after issue, the requester completes the page access with an error. -/
  | pageAccessTimeout (p : PageReq)
  /-- IO_RESPONSE (R58): The response of a page or I/O-region access reaches the core and the access retires. -/
  | ioResponse (h : HartId) (f : Option Flit)
  /-- POWER_REQUEST (R449): A write of PG_POWER.REQ sets the deepest allowed state, or is held while the stop's hold count is nonzero. -/
  | powerRequest (p : PageReq)
  /-- HELD_REQUEST_PROCEEDS (R54): When the hold count reaches zero, the latest waiting power or reset request is performed and HOLD clears. -/
  | heldRequestProceeds (n : Stop)
  /-- KW_HOLD_WRITE (R99): A Ward root write changes a stop's hold count; mesh writes are refused. -/
  | kwHoldWrite (p : PageReq)
  /-- CORE_DOMAIN_RESET (R484): PG_RESET.GO on a CORE page discards the open epoch, drains L1D, runs BIST and restarts the hart at CORE_RESETVEC. -/
  | coreDomainReset (p : PageReq)
  /-- CLUSTER_DOMAIN_RESET (R484): PG_RESET.GO on the CLUSTER page writes back and invalidates the L2, runs BIST and restarts each hart on its own core. -/
  | clusterDomainReset (p : PageReq)
  /-- DWEMON_DOMAIN_RESET (R484): PG_RESET.GO on the DWEMON page fails any running task, scrubs DMEM and returns the DWEMON page to defaults. -/
  | dwemonDomainReset (p : PageReq)
  /-- MC_DOMAIN_RESET (R484): PG_RESET.GO on MC page 0 performs journaled and queued writes, poisons held reads, enters self-refresh and resets the controller. -/
  | mcDomainReset (p : PageReq)
  /-- FP_DOMAIN_RESET (R484): PG_RESET.GO on a fabric port page 0 departs every link, resets the port's registers except BIFUR and reprocesses each link as an arrival. -/
  | fpDomainReset (p : PageReq)
  /-- FP_LINK_RESET (R49): PG_RESET.GO on a link page departs that link alone and processes it as an arrival. -/
  | fpLinkReset (p : PageReq)
  /-- DOMAIN_RESET_DONE (R484): A domain reset ends, ACTIVE clears and READY returns to 1. -/
  | domainResetDone (n : Stop) (b : BitVec 8)
  /-- HOLDRST_CLEAR (R49): A write of PG_RESET.HOLDRST to 0 lets the block start its work. -/
  | holdrstClear (p : PageReq)
  /-- XNRTENANT_WRITE (R116): A CSR write of xnrtenant sets the hart's tenant and class or raises illegal-instruction, closing the epoch and flushing prediction if set. -/
  | xnrtenantWrite (h : HartId) (value : Word) (insn : BitVec 32)
  /-- XNRCTL_WRITE (R117): An M-mode CSR write of xnrctl sets epoch limits, TASK.SUBMIT permissions and hart sharing controls. -/
  | xnrctlWrite (h : HartId) (value : Word) (insn : BitVec 32)
  /-- TCT_APPLY_EDGE (R74): At the apply edge, every TCT replica applies the pending TCT entry or TCT_APERTURE write. -/
  | tctApplyEdge
  /-- WARD_MBX_IN_WRITE (R86): A write of a mailbox IN register by its user is performed, or refused while STATE is PENDING or BUSY. -/
  | wardMbxInWrite (p : PageReq)
  /-- WARD_MBX_DOORBELL (R87): A doorbell write sets STATE to PENDING with its SEQ, or is ignored and sets REJECT while a request is outstanding. -/
  | wardMbxDoorbell (p : PageReq)
  /-- MBX_ACKNOWLEDGE (R88): The Ward takes a PENDING mailbox request, sets STATE to BUSY and serves its command. -/
  | mbxAcknowledge (b : Mbx)
  /-- MBX_FIXED_COMPLETION (R88): For MBX8 to MBX23, STATE becomes DONE at the doorbell edge plus the command's fixed time, with RESULT and interrupt. -/
  | mbxFixedCompletion (b : Mbx)
  /-- INFO (R89): Returns the part serial, Ward firmware version and BOLT_CTL. -/
  | info (b : Mbx)
  /-- OTP_PROVISION (R83): Writes one unwritten OTP key slot before bolting. -/
  | otpProvision (b : Mbx)
  /-- BOLT_NOW (R96): Sets BOLT_CTL.BOLT, making every RWB field read-only until cold reset. -/
  | boltNow (b : Mbx)
  /-- TENANT_SET (R75): Writes a TCT entry after the Ward's checks and returns its apply edge. -/
  | tenantSet (b : Mbx)
  /-- TENANT_CLEAR (R76): Clears a tenant's VALID, SUSPEND, TASK_OK and DMA_OK unless it is in use, and returns the apply edge. -/
  | tenantClear (b : Mbx)
  /-- APERTURE_SET (R73): Writes a TCT_APERTURE entry, refusing a DMA_MAX of 0 that a DMA tenant uses. -/
  | apertureSet (b : Mbx)
  /-- CTX_BASE (R77): Writes TCT_CTXBASE, locating the tenant context table. -/
  | ctxBase (b : Mbx)
  /-- KEY_GEN (R81): Flushes lines of a key index and loads a fresh TRNG key at that index into all 16 controllers. -/
  | keyGen (b : Mbx)
  /-- KEY_IMPORT (R89): Unwraps an XTS key pair under a WRAP slot and loads it at a key index in all controllers. -/
  | keyImport (b : Mbx)
  /-- KEY_ERASE (R81): Flushes lines of a key index no VALID entry names and erases that key. -/
  | keyErase (b : Mbx)
  /-- SCHED_LOAD (R167): Checks a schedule image in eight steps and, if it passes, writes the shadow tables and chooses a swap edge. -/
  | schedLoad (b : Mbx)
  /-- PAGE_READ (R60): Performs a page read on the BMC's behalf as a normal-world access and returns the value. -/
  | pageRead (b : Mbx)
  /-- PAGE_WRITE (R60): Performs a page write on the BMC's behalf as a normal-world access. -/
  | pageWrite (b : Mbx)
  /-- HOLD_RELEASE (R101): Asks the Ward to clear a stop's hold count, which it does or refuses with DENIED. -/
  | holdRelease (b : Mbx) (consent : Bool)
  /-- SL_NONCE (R104): Returns a single-use 48-byte nonce for a Safelight grant. -/
  | slNonce (b : Mbx)
  /-- SL_GRANT (R104): Verifies a signed Safelight grant request and activates the grant with its expiry. -/
  | slGrant (b : Mbx)
  /-- SL_GRANT_END (R103): When the timebase reaches SL_GRANT_EXPIRY, the active Safelight grant ends. -/
  | slGrantEnd
  /-- LOG_READ (R416): Returns the central log record with the given sequence number. -/
  | logRead (b : Mbx)
  /-- MBX_ASSIGN (R89): Enables or disables one of MBX8 to MBX23 and assigns its tenant. -/
  | mbxAssign (b : Mbx)
  /-- SPDM (R91): Serves one SPDM 1.3 responder message and returns one SPDM message. -/
  | spdm (b : Mbx) (reply : List Word)
  /-- WARD_RESET (R84): The Ward alone resets, keeping bolts, TCT, keys, KW_HOLD and mailboxes, and returning BUSY mailboxes to PENDING. -/
  | wardReset
  /-- WARD_WATCHDOG_EXPIRY (R442): The Ward's watchdog expires and the always-on domain resets the Ward alone. -/
  | wardWatchdogExpiry
  /-- WARD_RESTART_FAILURE (R442): The Ward has not restarted 100 ms after a watchdog reset, or the watchdog expired three times in 1 s; ERROR_N[1] falls and DEV_HEALTH becomes REPLACE. -/
  | wardRestartFailure
  /-- WARD_PERIODIC_RESET (R442): After a Ward failure, the always-on domain resets the Ward again every 10 s. -/
  | wardPeriodicReset
  /-- BOLT (R93): A write of 1 to BOLT_CTL.BOLT freezes every RWB field of the part until cold reset. -/
  | bolt (p : PageReq)
  /-- PB_FLUSH (R111): Clears all prediction state of the hart after older instructions retire, in 32 ccyc. -/
  | pbFlush (h : HartId) (insn : BitVec 32)
  /-- PB_BAR (R112): Advances the hart's prediction epoch by 1, flushing on the wrap from 15 to 0. -/
  | pbBar (h : HartId) (insn : BitVec 32)
  /-- TASK_SUBMIT (R114): Reads a descriptor after earlier epochs commit, checks it and offers it to the cluster's task queue, writing the status to rd. -/
  | taskSubmit (h : HartId) (insn : BitVec 32)
  /-- CORE_INJECT (R119): Injects one chosen error into the core's next epoch. -/
  | coreInject (p : PageReq)
  /-- MTIMECMP_WRITE (R120): A write of CORE_MTIMECMP or CORE_MTIMECMP1 sets the hart's M timer compare from its register access. -/
  | mtimecmpWrite (p : PageReq)
  /-- MTIMECMP_REACHED (R120): The timebase reaches a hart's compare value and mip.MTIP becomes 1. -/
  | mtimecmpReached (h : HartId)
  /-- TRAP_ENTRY (R122): A recognised interrupt or exception abandons unretired work, closes the epoch and fetches the handler exactly 31 ccyc later. -/
  | trapEntry (h : HartId) (exc : Option (Fin 64)) (tval : Word)
  /-- EPOCH_CLOSE (R124): An epoch closes on its instruction or cycle limit, a fence, AMO, I/O access, serialising write, trap or full buffer. -/
  | epochClose (h : HartId) (cause : Fin 8)
  /-- EPOCH_CHECK_CLEAR (R126): The checkers clear a closed epoch and its buffered lines are written into L1D in 6 ccyc, becoming visible together. -/
  | epochCheckClear (h : HartId) (check : Fin 7)
  /-- LOAD (R130): A hart load reads its youngest value from unretired stores, the epoch buffer or the cache hierarchy, through the fill shadow on a miss. -/
  | load (h : HartId) (rd : Reg) (rs1 : Reg) (off : BitVec 12) (size : MemSize) (sx : Bool) (fp : Bool)
  /-- STORE (R125): A hart store retires into the epoch store buffer once its line is held E or M, closing the epoch if the buffer is full. -/
  | store (h : HartId) (rs2 : Reg) (rs1 : Reg) (off : BitVec 12) (size : MemSize) (fp : Bool)
  /-- FILL_ARRIVAL (R134): A line filled for an unretired load arrives in the fill shadow. -/
  | fillArrival (f : Flit)
  /-- FENCE (R131): A hart FENCE closes the epoch and may hold younger accesses until the epoch commits. -/
  | fence (h : HartId) (pred : BitVec 4) (succ : BitVec 4) (tso : Bool)
  /-- FENCE_I (R131): Closes the epoch, flushes the front end and refetches in 40 ccyc. -/
  | fenceI (h : HartId)
  /-- AMO (R131): An AMO is performed at the head of the reorder buffer after earlier epochs commit, as its own epoch. -/
  | amo (h : HartId) (rd : Reg) (rs1 : Reg) (rs2 : Reg) (op : AmoOp) (size : MemSize) (aqrl : BitVec 2)
  /-- LR (R131): An LR is performed as its own epoch and reserves its 64-byte line. -/
  | lr (h : HartId) (rd : Reg) (rs1 : Reg) (size : MemSize) (aqrl : BitVec 2)
  /-- SC (R131): An SC is performed as its own epoch against the reservation. -/
  | sc (h : HartId) (rd : Reg) (rs1 : Reg) (rs2 : Reg) (size : MemSize) (aqrl : BitVec 2)
  /-- LR_SNOOP_DEFER_END (R106): A snoop to a reserved line, deferred up to 64 ccyc after the LR retires, is served. -/
  | lrSnoopDeferEnd (h : HartId)
  /-- IO_REGION_ACCESS (R131): An I/O-region load or store is issued at the head of the reorder buffer after earlier epochs commit. -/
  | ioRegionAccess (h : HartId) (rd : Reg) (rs1 : Reg) (off : BitVec 12) (size : MemSize) (sx : Bool) (write : Bool)
  /-- WFI (R451): WFI with no interrupt pending closes the core's shutter, after the epoch commits, into the deepest allowed state. -/
  | wfi (h : HartId)
  /-- PAUSE (R106): The hart's PAUSE holds issue for 64 ccyc. -/
  | pause (h : HartId)
  /-- WRS_STO (R106): WRS.STO waits until its reservation is lost or 4,096 ccyc pass. -/
  | wrsSto (h : HartId)
  /-- CBO_CLEAN (R143): After its epoch commits, writes back any dirty copy of the line across the coherence domain. -/
  | cboClean (h : HartId) (rs1 : Reg)
  /-- CBO_FLUSH (R143): After its epoch commits, writes back any dirty copy and invalidates every copy. -/
  | cboFlush (h : HartId) (rs1 : Reg)
  /-- CBO_INVAL (R143): Performs CBO.FLUSH, or invalidates every copy discarding dirty data, as CBIE selects. -/
  | cboInval (h : HartId) (rs1 : Reg)
  /-- CBO_ZERO (R144): Obtains ownership by BLANK and writes 64 zero bytes as a store. -/
  | cboZero (h : HartId) (rs1 : Reg)
  /-- PREFETCH_R (R143): Fills the line into the cluster L2. -/
  | prefetchR (h : HartId) (rs1 : Reg) (off : BitVec 12)
  /-- PREFETCH_I (R143): Fills the line into the cluster L2 for instruction use. -/
  | prefetchI (h : HartId) (rs1 : Reg) (off : BitVec 12)
  /-- PREFETCH_W (R143): Fills the line into the cluster L2 with ownership. -/
  | prefetchW (h : HartId) (rs1 : Reg) (off : BitVec 12)
  /-- FLIT_PRESENT (R159): A port presents a flit to its stop's injection queue for its plane and class. -/
  | flitPresent (f : Flit)
  /-- FLIT_INJECT (R159): In a usable slot, the stop injects the oldest flit of the slot's class whose destination the entry admits. -/
  | flitInject (n : Stop) (plane : Plane)
  /-- FLIT_HOP (R153): A flit crosses a hop; the receiver corrects it or finds it uncorrectable. -/
  | flitHop (f : Flit) (dest : Stop) (errs : Fin 77)
  /-- LINK_RETRY_SEND (R173): 24 mclk after the first send, the sender resends its copy on the retry lane, or holds it a period. -/
  | linkRetrySend (n : Stop) (dir : Fin 4) (plane : Plane)
  /-- LINK_REPAIR (R175): At the next period start, failing wires are replaced by spares or the link is marked FAILED. -/
  | linkRepair (n : Stop) (dir : Fin 4) (plane : Plane) (wires : Nat)
  /-- FAILED_LINK_RESOLVE (R435): The Ward completes the request of a discarded flit with ERROR and poisons any carried line. -/
  | failedLinkResolve (f : Flit)
  /-- FLIT_EJECT (R150): A flit reaches its destination stop and is accepted, bounced if its ingress queue is full, or discarded for a bad port or op. -/
  | flitEject (f : Flit)
  /-- BOUNCE_RECEIVED (R150): A BOUNCE reaches the sender, which presents the message again. -/
  | bounceReceived (f : Flit)
  /-- SCHED_SWAP_PAUSE (R169): At the first period start at or after the swap edge, every stop stops injecting. -/
  | schedSwapPause
  /-- SCHED_SWAP (R169): At a period start with no flit in flight, the tables swap and injection resumes under the new generation. -/
  | schedSwap
  /-- SLICE_RD (R187): A tracked RD enters its class lane and is served from the slice or memory, with snoops as the line state needs. -/
  | sliceRd (f : Flit)
  /-- SLICE_RDOWN (R187): A tracked RDOWN is served with ownership after invalidating other copies. -/
  | sliceRdown (f : Flit)
  /-- SLICE_UPGRADE (R188): UPGRADE is answered exactly as RDOWN, with a whole line. -/
  | sliceUpgrade (f : Flit)
  /-- SLICE_PREFETCH (R187): A PREFETCH request is served as RD or RDOWN by its kind. -/
  | slicePrefetch (f : Flit)
  /-- SLICE_BLANK (R201): A BLANK allocates the line as zeros in state M without reading memory. -/
  | sliceBlank (f : Flit)
  /-- SLICE_WRLINE (R187): A cluster WRLINE writes its line DIRTY in the slice and updates the line state. -/
  | sliceWrline (f : Flit)
  /-- SLICE_CMO_CLEAN (R187): A CMO CLEAN writes back dirty data and downgrades the owner. -/
  | sliceCmoClean (f : Flit)
  /-- SLICE_CMO_FLUSH (R187): A CMO FLUSH writes back dirty data and invalidates every copy. -/
  | sliceCmoFlush (f : Flit)
  /-- SLICE_CMO_INVAL (R187): A CMO INVAL invalidates every copy, discarding or writing back dirty data as CBIE gives. -/
  | sliceCmoInval (f : Flit)
  /-- SLICE_UNTRACKED_READ (R187): An untracked read delivers data without leaving a recorded copy. -/
  | sliceUntrackedRead (f : Flit)
  /-- SLICE_UNTRACKED_WRITE (R187): An untracked write is performed on the slice copy after invalidating others. -/
  | sliceUntrackedWrite (f : Flit)
  /-- SLICE_ATOMIC (R273): A BATOMIC AADD or ACAS is performed at the home slice and the old value returned. -/
  | sliceAtomic (f : Flit)
  /-- BISNP (R210): A back-invalidate snoop from a fabric port is handled as a FLUSH of the line and answered. -/
  | bisnp (f : Flit)
  /-- SNOOP_RESPONSE (R189): A snoop response arrives at the slice; on the last, the slice forwards data, modifies its copy or continues as a miss. -/
  | snoopResponse (f : Flit)
  /-- SLICE_FILL_ARRIVAL (R195): A fill arrives at the slice, is written 8 mclk later, and the lock ends with waiting requests re-entering. -/
  | sliceFillArrival (f : Flit)
  /-- SNPINV (R190): A cluster handles SNPINV, invalidating its copy and answering with its line map. -/
  | snpinv (f : Flit)
  /-- SNPSHARE (R187): A cluster handles SNPSHARE, answering SNPDATA and downgrading, or SNPRSP. -/
  | snpshare (f : Flit)
  /-- SNPCLEAN (R187): A cluster handles SNPCLEAN, returning dirty data and going M to E or O to S. -/
  | snpclean (f : Flit)
  /-- SLICE_ENABLE (R202): A write of SLC_CTL.EN enables the slice, or is refused with NOINIT until INVALL has completed. -/
  | sliceEnable (p : PageReq)
  /-- SLC_MASK_WRITE (R197): A write of a class way mask is performed or refused for an empty mask or a secure-way addition. -/
  | slcMaskWrite (p : PageReq)
  /-- SLC_LATCH_WRITE (R199): A write of SLC_LATCH latches ways or changes OWNER and empties the affected ways. -/
  | slcLatchWrite (p : PageReq)
  /-- LATCH_EMPTY_DONE (R199): Emptying of latched ways completes after 4,096 mclk and the writebacks, and BUSY clears. -/
  | latchEmptyDone (c : Tile)
  /-- MAINT_INV (R204): SLC_MAINT operation INV snoops, invalidates and discards the lines of its scope. -/
  | maintInv (p : PageReq)
  /-- MAINT_CLEAN (R204): SLC_MAINT operation CLEAN writes back the dirty lines of its scope. -/
  | maintClean (p : PageReq)
  /-- MAINT_FLUSH (R204): SLC_MAINT operation FLUSH writes back and invalidates the lines of its scope. -/
  | maintFlush (p : PageReq)
  /-- MAINT_BLANK (R204): SLC_MAINT operation BLANK allocates the lines of its scope as zeros. -/
  | maintBlank (p : PageReq)
  /-- INVALL (R202): SLC_MAINT operation INVALL invalidates every line and directory entry of a disabled slice in 4,128 mclk. -/
  | invall (p : PageReq)
  /-- LATCH_FILL (R200): SLC_MAINT operation LATCH-FILL places a line in an empty latched way of its set, or ends FULL. -/
  | latchFill (p : PageReq)
  /-- MAINT_DONE (R206): A maintenance operation ends, STAT.BUSY clears and RESULT and LINES are written. -/
  | maintDone (c : Tile) (k : Cls)
  /-- SLICE_ARRAY_ERROR (R211): A slice array error is corrected, poisons a data line, or freezes the slice for a tag or directory error. -/
  | sliceArrayError (c : Tile) (err : ArrayError)
  /-- SLICE_RETIRE (R213): The Ward holds a slice's buckets, drains and walks the slice, reassigns its buckets and retires it. -/
  | sliceRetire (c : Tile)
  /-- HOME_MAP_APPLY (R212): At an apply edge every replica applies a HOME_MAP write, setting or clearing HOLD. -/
  | homeMapApply
  /-- SLICE_RETIRE_WALK (R213): Once the slice holds no request of its buckets, it walks every set writing back and invalidating their lines. -/
  | sliceRetireWalk (c : Tile)
  /-- MC_READ (R229): A read enters a controller, is checked and decoded, and waits for its class window. -/
  | mcRead (f : Flit)
  /-- MC_WRITE (R228): A write takes a journal entry of its class and is answered with ACK 4 dclk later, or waits for an entry. -/
  | mcWrite (f : Flit)
  /-- MC_COMMAND_ISSUE (R227): In a class window the subchannel issues the next ACT, RD, WR or PRE of that class's requests. -/
  | mcCommandIssue (m : McId) (sub : Fin 2) (win : Nat)
  /-- MC_READ_DATA (R237): Read data returns and is decoded: delivered, corrected, poisoned, or uncorrectable and freezing the channel. -/
  | mcReadData (m : McId) (tag : Fin 2048)
  /-- ALERT_N (R240): The controller samples ALERT_n low for a CA parity error and freezes. -/
  | alertN (m : McId) (sub : Fin 2)
  /-- FREEZE_SELF_REFRESH (R240): 64 dclk after a freeze, the controller clears CA parity status, issues PREab and SRE and suspends the frame. -/
  | freezeSelfRefresh (m : McId)
  /-- FREEZE_RETRY (R242): MODE RETRY replays the journal and re-presents held reads, then restarts the frame. -/
  | freezeRetry (p : PageReq)
  /-- FREEZE_POISON (R242): MODE POISON replays the journal and completes held reads with poison. -/
  | freezePoison (p : PageReq)
  /-- FREEZE_RETIRE (R242): MODE RETIRE poisons held reads, drops journaled writes and retires the channel. -/
  | freezeRetire (p : PageReq)
  /-- FREEZE_TIMEOUT (R243): With no release within MC_FREEZE.TIMEOUT aclk, the controller releases itself in POISON mode. -/
  | freezeTimeout (m : McId)
  /-- MC_FRAME_START (R224): A command-window frame starts, applying accepted MC_WINSHARE changes. -/
  | mcFrameStart (m : McId)
  /-- MAINT_WINDOW (R230): A maintenance window applies armed PHY delays, refreshes and runs MR4, scrub, ZQ and MPC commands. -/
  | maintWindow (m : McId) (hot : Bool)
  /-- SELF_REFRESH_ENTRY (R231): After IDLE × 1,024 dclk with no request, the controller enters self-refresh at the next maintenance window. -/
  | selfRefreshEntry (m : McId)
  /-- MC_START (R233): A write of MC_CTL.START is checked and, if accepted, starts ZQ calibration and schedules frame 0. -/
  | mcStart (p : PageReq)
  /-- MC_FRAME0 (R233): Frame 0 begins and pages 0, 1 and 3 become READY. -/
  | mcFrame0 (m : McId)
  /-- PHY_APPLY (R234): A write of PHY_CTL.APPLY arms every shadow delay of the subchannel. -/
  | phyApply (p : PageReq)
  /-- MC_PAT_RUN (R248): MC_PAT_CTL.GO starts a pattern write, read-and-compare, or both. -/
  | mcPatRun (p : PageReq)
  /-- MC_PAT_DONE (R248): A pattern run ends and MC_PAT_RESULT shows DONE and lane errors. -/
  | mcPatDone (m : McId) (lanes : BitVec 40)
  /-- MRW (R248): MC_MPC KIND MRW writes a DRAM mode register. -/
  | mrw (p : PageReq)
  /-- MRR (R248): MC_MPC KIND MRR reads a DRAM mode register into MC_MRR0 and MC_MRR1. -/
  | mrr (p : PageReq)
  /-- MPC (R248): MC_MPC KIND MPC issues a DRAM MPC command. -/
  | mpc (p : PageReq)
  /-- MC_ECC_WRITE (R236): A write of MC_ECC marks or unmarks a failed device of a slot, refused on x8 DIMMs. -/
  | mcEccWrite (p : PageReq)
  /-- INJECT_SYMBOL (R249): MC_INJECT kind 1 stores the next write to a line with one symbol in error. -/
  | injectSymbol (p : PageReq)
  /-- INJECT_DEVICE (R249): MC_INJECT kind 2 stores the next write to a line with one whole device in error. -/
  | injectDevice (p : PageReq)
  /-- INJECT_UNCORRECTABLE (R249): MC_INJECT kind 3 stores the next write to a line with nine symbols in error. -/
  | injectUncorrectable (p : PageReq)
  /-- INJECT_CA_PARITY (R249): MC_INJECT kind 4 injects a CA parity error on the next command. -/
  | injectCaParity (p : PageReq)
  /-- MIRROR_RESYNC_DONE (R246): The copy from the partner ends and the released channel takes reads back. -/
  | mirrorResyncDone (m : McId)
  /-- ADD (R266): rd = ra + rb. -/
  | add (e : Dwe) (rd : Reg) (ra : Reg) (rb : Reg)
  /-- SUB (R266): rd = ra − rb. -/
  | sub (e : Dwe) (rd : Reg) (ra : Reg) (rb : Reg)
  /-- AND (R266): rd = ra & rb. -/
  | and (e : Dwe) (rd : Reg) (ra : Reg) (rb : Reg)
  /-- OR (R266): rd = ra | rb. -/
  | or (e : Dwe) (rd : Reg) (ra : Reg) (rb : Reg)
  /-- XOR (R266): rd = ra ^ rb. -/
  | xor (e : Dwe) (rd : Reg) (ra : Reg) (rb : Reg)
  /-- SLL (R266): Shift left by rb[5:0]. -/
  | sll (e : Dwe) (rd : Reg) (ra : Reg) (rb : Reg)
  /-- SRL (R266): Shift right with zero fill by rb[5:0]. -/
  | srl (e : Dwe) (rd : Reg) (ra : Reg) (rb : Reg)
  /-- SRA (R266): Shift right with sign fill by rb[5:0]. -/
  | sra (e : Dwe) (rd : Reg) (ra : Reg) (rb : Reg)
  /-- SLT (R266): Signed set-less-than. -/
  | slt (e : Dwe) (rd : Reg) (ra : Reg) (rb : Reg)
  /-- SLTU (R266): Unsigned set-less-than. -/
  | sltu (e : Dwe) (rd : Reg) (ra : Reg) (rb : Reg)
  /-- MIN (R266): Signed minimum. -/
  | min (e : Dwe) (rd : Reg) (ra : Reg) (rb : Reg)
  /-- MAX (R266): Signed maximum. -/
  | max (e : Dwe) (rd : Reg) (ra : Reg) (rb : Reg)
  /-- MINU (R266): Unsigned minimum. -/
  | minu (e : Dwe) (rd : Reg) (ra : Reg) (rb : Reg)
  /-- MAXU (R266): Unsigned maximum. -/
  | maxu (e : Dwe) (rd : Reg) (ra : Reg) (rb : Reg)
  /-- CTZ (R266): Counts trailing zero bits of ra. -/
  | ctz (e : Dwe) (rd : Reg) (ra : Reg)
  /-- POPC (R266): Counts the 1 bits of ra. -/
  | popc (e : Dwe) (rd : Reg) (ra : Reg)
  /-- ADDI (R267): rd = ra + sext(imm16). -/
  | addi (e : Dwe) (rd : Reg) (ra : Reg) (imm : BitVec 16)
  /-- ANDI (R267): rd = ra & zext(imm16). -/
  | andi (e : Dwe) (rd : Reg) (ra : Reg) (imm : BitVec 16)
  /-- ORI (R267): rd = ra | zext(imm16). -/
  | ori (e : Dwe) (rd : Reg) (ra : Reg) (imm : BitVec 16)
  /-- XORI (R267): rd = ra ^ zext(imm16). -/
  | xori (e : Dwe) (rd : Reg) (ra : Reg) (imm : BitVec 16)
  /-- SLTI (R267): Signed set-less-than immediate. -/
  | slti (e : Dwe) (rd : Reg) (ra : Reg) (imm : BitVec 16)
  /-- SLTIU (R267): Unsigned set-less-than immediate. -/
  | sltiu (e : Dwe) (rd : Reg) (ra : Reg) (imm : BitVec 16)
  /-- SLLI (R267): Shift left by an immediate amount. -/
  | slli (e : Dwe) (rd : Reg) (ra : Reg) (sh : BitVec 6)
  /-- SRLI (R267): Shift right with zero fill by an immediate amount. -/
  | srli (e : Dwe) (rd : Reg) (ra : Reg) (sh : BitVec 6)
  /-- SRAI (R267): Shift right with sign fill by an immediate amount. -/
  | srai (e : Dwe) (rd : Reg) (ra : Reg) (sh : BitVec 6)
  /-- LUI (R267): rd = sext(imm16 << 16). -/
  | lui (e : Dwe) (rd : Reg) (imm : BitVec 16)
  /-- SHORI (R267): rd = (ra << 16) | zext(imm16). -/
  | shori (e : Dwe) (rd : Reg) (ra : Reg) (imm : BitVec 16)
  /-- MUL (R268): Low 64 bits of ra × rb, 3 cycles pipelined. -/
  | mul (e : Dwe) (rd : Reg) (ra : Reg) (rb : Reg)
  /-- MULH (R268): High 64 bits of the signed product. -/
  | mulh (e : Dwe) (rd : Reg) (ra : Reg) (rb : Reg)
  /-- MULHU (R268): High 64 bits of the unsigned product. -/
  | mulhu (e : Dwe) (rd : Reg) (ra : Reg) (rb : Reg)
  /-- DIV (R268): Signed quotient in 34 cycles, with fixed special cases. -/
  | div (e : Dwe) (rd : Reg) (ra : Reg) (rb : Reg)
  /-- DIVU (R268): Unsigned quotient in 34 cycles. -/
  | divu (e : Dwe) (rd : Reg) (ra : Reg) (rb : Reg)
  /-- REM (R268): Signed remainder in 34 cycles. -/
  | rem (e : Dwe) (rd : Reg) (ra : Reg) (rb : Reg)
  /-- REMU (R268): Unsigned remainder in 34 cycles. -/
  | remu (e : Dwe) (rd : Reg) (ra : Reg) (rb : Reg)
  /-- LB (R269): Loads a sign-extended byte. -/
  | lb (e : Dwe) (rd : Reg) (ra : Reg) (imm : BitVec 16)
  /-- LBU (R269): Loads a zero-extended byte. -/
  | lbu (e : Dwe) (rd : Reg) (ra : Reg) (imm : BitVec 16)
  /-- LH (R269): Loads a sign-extended halfword. -/
  | lh (e : Dwe) (rd : Reg) (ra : Reg) (imm : BitVec 16)
  /-- LHU (R269): Loads a zero-extended halfword. -/
  | lhu (e : Dwe) (rd : Reg) (ra : Reg) (imm : BitVec 16)
  /-- LW (R269): Loads a sign-extended word. -/
  | lw (e : Dwe) (rd : Reg) (ra : Reg) (imm : BitVec 16)
  /-- LWU (R269): Loads a zero-extended word. -/
  | lwu (e : Dwe) (rd : Reg) (ra : Reg) (imm : BitVec 16)
  /-- LD (R269): Loads a doubleword. -/
  | ld (e : Dwe) (rd : Reg) (ra : Reg) (imm : BitVec 16)
  /-- SB (R269): Stores a byte into the store buffer. -/
  | sb (e : Dwe) (rs : Reg) (ra : Reg) (imm : BitVec 16)
  /-- SH (R269): Stores a halfword into the store buffer. -/
  | sh (e : Dwe) (rs : Reg) (ra : Reg) (imm : BitVec 16)
  /-- SW (R269): Stores a word into the store buffer. -/
  | sw (e : Dwe) (rs : Reg) (ra : Reg) (imm : BitVec 16)
  /-- SD (R269): Stores a doubleword into the store buffer, clearing its DMEM poison flag. -/
  | sd (e : Dwe) (rs : Reg) (ra : Reg) (imm : BitVec 16)
  /-- DE_SYSTEM_REPLY (R269): The reply to an engine's system load or atomic arrives and the waiting instruction leaves M. -/
  | deSystemReply (f : Flit)
  /-- LEQ (R271): Compares each lane of a DMEM line with rb and returns the match mask. -/
  | leq (e : Dwe) (rd : Reg) (ra : Reg) (rb : Reg) (cmp : Fin 4) (width : Fin 4)
  /-- LSCAN (R271): Compares each lane of a DMEM line with rb and returns the first matching lane index. -/
  | lscan (e : Dwe) (rd : Reg) (ra : Reg) (rb : Reg) (cmp : Fin 4) (width : Fin 4)
  /-- CRC32C (R272): Steps a CRC32C over 1 to 8 bytes of rb. -/
  | crc32c (e : Dwe) (rd : Reg) (ra : Reg) (rb : Reg) (n : Fin 4)
  /-- CRC64 (R272): Steps a CRC64 over 1 to 8 bytes of rb. -/
  | crc64 (e : Dwe) (rd : Reg) (ra : Reg) (rb : Reg) (n : Fin 4)
  /-- HMIX (R272): Mixes ra and rb into a 64-bit hash in 4 cycles. -/
  | hmix (e : Dwe) (rd : Reg) (ra : Reg) (rb : Reg)
  /-- AADD (R273): Drains the store buffer and adds rb to system memory at the home, returning the old value. -/
  | aadd (e : Dwe) (rd : Reg) (ra : Reg) (rb : Reg) (w32 : Bool)
  /-- ACAS (R273): Drains the store buffer and compares-and-swaps system memory at the home. -/
  | acas (e : Dwe) (rd : Reg) (ra : Reg) (rb : Reg) (w32 : Bool)
  /-- LGET (R274): Issues a stream entry reading a system line into a DMEM line. -/
  | lget (e : Dwe) (ra : Reg) (rb : Reg)
  /-- LPUT (R274): Issues a stream entry writing a DMEM line to a system line. -/
  | lput (e : Dwe) (ra : Reg) (rb : Reg)
  /-- LBLANK (R274): Issues a stream entry allocating a system line as zeros. -/
  | lblank (e : Dwe) (ra : Reg)
  /-- STREAM_ENTRY_COMPLETE (R275): A stream entry completes on its data or BACK, recording any failure in DE_STRMERR. -/
  | streamEntryComplete (f : Flit)
  /-- SYNC (R276): Waits until at most n stream entries are outstanding. -/
  | sync (e : Dwe) (n : Fin 64)
  /-- TSPAWN (R279): Checks a DMEM descriptor and offers it to the engine's own deque, writing the status. -/
  | tspawn (e : Dwe) (rd : Reg) (ra : Reg)
  /-- TDONE (R279): Fences, syncs and ends the task with its completion status. -/
  | tdone (e : Dwe) (ra : Reg)
  /-- JOIN (R279): Adds rb to a join counter and posts its continuation when it reaches zero. -/
  | join (e : Dwe) (rd : Reg) (ra : Reg) (rb : Reg)
  /-- WAIT (R281): Stops issue until any interrupt is pending. -/
  | wait (e : Dwe)
  /-- DE_FENCE (R281): The engine FENCE drains the store buffer and waits for atomics and stream entries. -/
  | deFence (e : Dwe)
  /-- IBAR (R308): Drains the store buffer, discards F and D and refetches. -/
  | ibar (e : Dwe)
  /-- PFLUSH (R281): Empties the return stack and target cache. -/
  | pflush (e : Dwe)
  /-- PBAR (R281): Advances the engine's prediction epoch. -/
  | pbar (e : Dwe)
  /-- IRET (R305): Returns from the current shadow level, or tail-chains to a qualifying interrupt. -/
  | iret (e : Dwe)
  /-- BREAK (R281): Raises BREAK, or halts the engine for debug when DE_CTL.DEBUG = 1. -/
  | brk (e : Dwe)
  /-- SRD (R282): Reads an engine control register, raising ILLEGAL where not allowed. -/
  | srd (e : Dwe) (rd : Reg) (cr : BitVec 12)
  /-- SWR (R282): Writes an engine control register in handler context, raising ILLEGAL where not allowed. -/
  | swr (e : Dwe) (ra : Reg) (cr : BitVec 12)
  /-- BEQ (R263): Branches when ra is zero. -/
  | beq (e : Dwe) (ra : Reg) (a : Bool) (p : Bool) (disp : BitVec 15)
  /-- BNE (R263): Branches when ra is nonzero. -/
  | bne (e : Dwe) (ra : Reg) (a : Bool) (p : Bool) (disp : BitVec 15)
  /-- BLT (R263): Branches when ra is negative. -/
  | blt (e : Dwe) (ra : Reg) (a : Bool) (p : Bool) (disp : BitVec 15)
  /-- BGE (R263): Branches when ra is not negative. -/
  | bge (e : Dwe) (ra : Reg) (a : Bool) (p : Bool) (disp : BitVec 15)
  /-- BGT (R263): Branches when ra is positive. -/
  | bgt (e : Dwe) (ra : Reg) (a : Bool) (p : Bool) (disp : BitVec 15)
  /-- BLE (R263): Branches when ra is not positive. -/
  | ble (e : Dwe) (ra : Reg) (a : Bool) (p : Bool) (disp : BitVec 15)
  /-- BODD (R263): Branches when ra[0] is 1. -/
  | bodd (e : Dwe) (ra : Reg) (a : Bool) (p : Bool) (disp : BitVec 15)
  /-- BEVEN (R263): Branches when ra[0] is 0. -/
  | beven (e : Dwe) (ra : Reg) (a : Bool) (p : Bool) (disp : BitVec 15)
  /-- J (R262): Jumps to PC + 4 × disp with one delay slot. -/
  | j (e : Dwe) (a : Bool) (disp : BitVec 25)
  /-- JL (R262): Jumps and links PC + 8 into g31, pushing the return stack. -/
  | jl (e : Dwe) (a : Bool) (disp : BitVec 25)
  /-- JR (R262): Jumps to ra with prediction from the return stack or target cache. -/
  | jr (e : Dwe) (ra : Reg) (a : Bool)
  /-- JLR (R262): Jumps to ra and links PC + 8 into rd. -/
  | jlr (e : Dwe) (rd : Reg) (ra : Reg) (a : Bool)
  /-- STORE_BUFFER_DRAIN (R297): The oldest store-buffer entry drains when its port is free. -/
  | storeBufferDrain (e : Dwe)
  /-- SYSTEM_STORE_REPLY (R283): A drained system store is answered; an ERROR reply records a failure in DE_STRMERR. -/
  | systemStoreReply (f : Flit)
  /-- TASK_EXCEPTION (R280): An exception in task context ends the task with status 0x8100 + cause. -/
  | taskException (e : Tile) (cause : Fin 9) (tval : Word)
  /-- ENGINE_HALT (R286): An exception in handler context halts the engine with record 0x6001. -/
  | engineHalt (e : Dwe) (cause : Fin 9) (tval : Word)
  /-- IMEM_POISON_FETCH (R303): An uncorrectable IMEM word is not executed and raises POISON. -/
  | imemPoisonFetch (e : Dwe)
  /-- DE_INTERRUPT_ENTRY (R299): A sampled interrupt saves PC and status at the next shadow level and fetches the vector 7 cycles later. -/
  | deInterruptEntry (e : Dwe)
  /-- DE_TIMER (R284): The timebase reaches DE_TIMECMP and TIMER becomes pending. -/
  | deTimer (e : Dwe)
  /-- DE_CLAIM (R376): A read of DE_CLAIM claims the engine's router delivery and sends a claim notice. -/
  | deClaim (e : Dwe) (rd : Reg)
  /-- DE_EOI (R377): A write of DE_EOI ends service of a source and sends a notice to the router. -/
  | deEoi (e : Dwe) (ra : Reg)
  /-- ENGINE_NOTICE_ARRIVAL (R376): An engine's claim or EOI notice reaches the router, which applies ACTIVE and RUNPRI changes. -/
  | engineNoticeArrival (f : Flit)
  /-- DE_HCTX_WRITE (R289): A write of DE_HCTX sets handler-context tenant and class, refused for a secure class or invalid tenant. -/
  | deHctxWrite (p : PageReq)
  /-- DE_HALT_RESUME (R289): A write of DE_HALT.RESUME returns a halted engine to IDLE, discarding shadow levels. -/
  | deHaltResume (p : PageReq)
  /-- ENGINE_MEMORY_ACCESS (R258): An outside access to an engine's IMEM or DMEM window is checked and performed between engine accesses. -/
  | engineMemoryAccess (p : PageReq) (line : Line)
  /-- DMEM_SCRUB (R309): DMEM is written to zero line by line in 2,048 mclk on a class change, after a secure task, or after reset. -/
  | dmemScrub (e : Tile)
  /-- SCRUB_DONE (R310): A DMEM scrub ends; DMEM has no owner class and pending interrupts may be sampled. -/
  | scrubDone (e : Tile)
  /-- ENGINE_FAULT (R337): An uncorrected engine error halts the engine with record 0x6002 and fails its running task. -/
  | engineFault (e : Tile)
  /-- TASK_DOORBELL (R316): A 64-byte write to a task doorbell is checked and pushed, or its completion record written DENIED or FULL. -/
  | taskDoorbell (f : Flit)
  /-- TASK_DISPATCH (R323): An idle engine chooses a class and task, rechecks it and starts the kernel 38 mclk after the offer. -/
  | taskDispatch (e : Tile)
  /-- TASK_COMPLETE (R327): The BACK of a completion write reaches the queue and the task is complete. -/
  | taskComplete (f : Flit)
  /-- JOIN_DECREMENT (R329): After a completion the queue decrements the join counter and reads the continuation on reaching zero. -/
  | joinDecrement (f : Flit)
  /-- CONTINUATION_READ (R329): The continuation descriptor arrives, is checked and offered, or its record written. -/
  | continuationRead (f : Flit)
  /-- SPILL_WRITE_ACK (R330): The BACK of a spill write arrives, making that ring entry readable. -/
  | spillWriteAck (f : Flit)
  /-- SPILL_REFILL (R330): While the class holds few entries, the queue reads the spill entry at HEAD. -/
  | spillRefill (c : Tile) (k : Cls)
  /-- REFILL_ARRIVAL (R331): A refilled descriptor arrives and is pushed at the bottom, or discarded if poisoned. -/
  | refillArrival (f : Flit)
  /-- STEAL_ROUND (R332): An idle engine with no entries sends STEALs to its victims one at a time. -/
  | stealRound (c : Tile)
  /-- STEAL_BACKOFF_END (R332): BACKOFF periods after a failed round, a new steal round starts. -/
  | stealBackoffEnd (c : Tile)
  /-- STEAL (R334): A victim answers a STEAL by removing up to half its stealable entries, or EMPTY. -/
  | steal (f : Flit)
  /-- STEALRSP (R335): A STEALRSP arrives at the thief, which starts or places the descriptor and returns BACK. -/
  | stealrsp (f : Flit)
  /-- STEAL_BACK (R335): A BACK reaches the victim, which drops its copy of the stolen descriptor. -/
  | stealBack (f : Flit)
  /-- STEAL_COPY_TIMEOUT (R335): A stolen copy without BACK after 1,536 mclk is pushed back with record 0x6012. -/
  | stealCopyTimeout (c : Tile) (tag : Fin 2048)
  /-- DMA_DOORBELL (R348): A write of DMA_DOORBELL sets TAIL and starts an IDLE channel, or is refused. -/
  | dmaDoorbell (p : PageReq)
  /-- DMA_CONTEXT_ARRIVAL (R350): The tenant context entry arrives and the channel translates and reads the HEAD descriptor. -/
  | dmaContextArrival (f : Flit)
  /-- DMA_DESCRIPTOR_ARRIVAL (R350): A descriptor arrives and is decoded, refused as bad, or found not owned. -/
  | dmaDescriptorArrival (f : Flit)
  /-- DMA_COPY (R345): Descriptor op COPY reads source lines and writes destination lines. -/
  | dmaCopy (c : Tile) (ch : Chan)
  /-- DMA_FILL (R345): Descriptor op FILL writes lines of the repeated pattern. -/
  | dmaFill (c : Tile) (ch : Chan)
  /-- DMA_BLANK (R345): Descriptor op BLANK issues untracked BLANKs line by line. -/
  | dmaBlank (c : Tile) (ch : Chan)
  /-- DMA_CRC (R345): Descriptor op CRC reads lines and folds their bytes into a CRC. -/
  | dmaCrc (c : Tile) (ch : Chan)
  /-- DMA_BURST_START (R351): When credit reaches 256 × b, the channel starts a burst of b lines. -/
  | dmaBurstStart (c : Tile) (ch : Chan)
  /-- DMA_READ_DATA (R345): Read data for a channel arrives and its line is written on. -/
  | dmaReadData (f : Flit)
  /-- DMA_WRITE_ACK (R347): A channel write is answered, possibly completing a descriptor or a pause. -/
  | dmaWriteAck (f : Flit)
  /-- DMA_DESCRIPTOR_COMPLETE (R347): A descriptor is written back, raises its completion source and advances HEAD. -/
  | dmaDescriptorComplete (c : Tile) (ch : Chan)
  /-- DMA_BUS_ERROR (R353): A bus error halts the channel, or every channel of the engine in SERVICE mode. -/
  | dmaBusError (c : Tile) (ch : Chan)
  /-- DMA_PAUSE (R356): A write of DMA_CH_RUN.PAUSE moves a RUN channel to PAUSING, or resumes a PAUSED one when cleared. -/
  | dmaPause (p : PageReq)
  /-- DMA_RESUME (R358): A write of RESUME continues a HALTED channel from its exact state. -/
  | dmaResume (p : PageReq)
  /-- DMA_ABORT (R358): A write of ABORT writes the descriptor back ABORTED and returns the channel to IDLE. -/
  | dmaAbort (p : PageReq)
  /-- DMA_MODE_WRITE (R354): A write of DMA_CTL.MODE selects BRINGUP or SERVICE, refused while channels run or classes differ. -/
  | dmaModeWrite (p : PageReq)
  /-- WIRED_SOURCE_EVENT (R364): A wired source edge or level gives one event, setting PEND or OVERRUN. -/
  | wiredSourceEvent (x : Source)
  /-- IRQ_DOORBELL (R367): A doorbell write to a domain is accepted as a source event or refused. -/
  | irqDoorbell (f : Flit)
  /-- ROUTING_DECISION (R374): The class lane decides an item in 6 mclk, presenting it, displacing a less urgent one, or letting it wait. -/
  | routingDecision (x : Source)
  /-- IRQ (R380): An SNP IRQ flit at the target's stop sets or clears its presentation line. -/
  | irq (f : Flit)
  /-- TGT_CLAIM (R376): A read of TGT_CLAIM claims the presented item, making it ACTIVE, or returns none. -/
  | tgtClaim (p : PageReq)
  /-- TGT_EOI (R377): A write of TGT_EOI clears ACTIVE of a source or sets BADEOI. -/
  | tgtEoi (p : PageReq)
  /-- IRT_PEND_CLEAR (R369): A write of 1 to an IRT_PEND bit clears PEND and withdraws a hart or Ward presentation. -/
  | irtPendClear (p : PageReq)
  /-- DOMAIN_DISABLE (R369): A write of DOM_CTL.EN = 0 clears PEND and ACTIVE of every source of the domain. -/
  | domainDisable (p : PageReq)
  /-- TGT_CTL_WRITE (R379): A write of TGT_CTL changes a target's enable, tenant or threshold and re-decides its items. -/
  | tgtCtlWrite (p : PageReq)
  /-- PRESENTATION_WITHDRAW (R379): 6 to 12 mclk after a change makes it invalid, a presentation is withdrawn and its item decided again. -/
  | presentationWithdraw (x : Source)
  /-- EDGE_CAPTURE (R382): While clocks are stopped, an edge-capture cell latches a wired source and requests wake. -/
  | edgeCapture (x : Source)
  /-- EDGE_CAPTURE_PRESENT (R382): A latched cell presents its event to the router's lane once mclk runs. -/
  | edgeCapturePresent (x : Source)
  /-- LINK_ARRIVAL (R402): On presence, L0 from Detect or FM_BIND, the Ward trains, enumerates and assigns windows and functions. -/
  | linkArrival (p : PortId) (l : LinkId) (partner : Partner)
  /-- PLANNED_DEPARTURE (R404): FM_UNBIND or DEPART holds, flushes and takes down the link without losing writes. -/
  | plannedDeparture (p : PortId) (l : LinkId)
  /-- RELEASE (R404): A write of FP_LNK_CTL.RELEASE tells the Ward software has stopped using what was named. -/
  | release (p : PageReq)
  /-- RELEASE_TIMEOUT (R404): With no RELEASE within 10 s, the Ward continues the departure or DCD release. -/
  | releaseTimeout (p : PortId) (l : LinkId)
  /-- SURPRISE_DEPARTURE (R405): A link leaving L0, losing presence or hitting DPC is marked GONE and its requests completed within 1 µs. -/
  | surpriseDeparture (p : PortId) (l : LinkId) (dpc : Bool)
  /-- SURPRISE_INV_DONE (R405): The INV over a departed link's windows completes and the link is set DOWN. -/
  | surpriseInvDone (p : PortId) (l : LinkId)
  /-- DPC_CLEAR (R406): Software clears a DPC trigger with the partner present, and a new arrival follows. -/
  | dpcClear (p : PageReq)
  /-- DCD_EVENT (R398): A dynamic capacity device reports an added or released extent to the Ward. -/
  | dcdEvent (p : PortId) (l : LinkId) (add : Bool) (win : Fin 16) (range : HdmRange)
  /-- INBOUND_REQUEST (R395): A fabric request is matched to a function entry, translated and served, or refused. -/
  | inboundRequest (r : Inbound)
  /-- D2H_REQUEST (R399): A CXL.cache D2H request is served untracked or refused with a completion error. -/
  | d2hRequest (r : Inbound) (op : D2hOp)
  /-- ATS_TRANSLATION_REQUEST (R400): A translation request is answered from the tenant's context entry. -/
  | atsTranslationRequest (r : Inbound)
  /-- PAGE_REQUEST (R401): A PRI page request is written to the FP_PRQ ring, or answered Response Failure when full. -/
  | pageRequest (r : Inbound) (group : BitVec 9) (last : Bool) (read : Bool)
  /-- FP_PRGRESP (R401): A write of FP_PRGRESP sends a page request group response. -/
  | fpPrgresp (p : PageReq)
  /-- FP_ATSINV (R400): FP_ATSINV.GO sends an ATS invalidation to a function. -/
  | fpAtsinv (p : PageReq)
  /-- ATS_INV_DONE (R400): A function completes an ATS invalidation and RESULT becomes DONE. -/
  | atsInvDone (p : PortId)
  /-- ATS_INV_TIMEOUT (R400): With no completion in 100 ms, RESULT becomes TIMEOUT with record 0x8061. -/
  | atsInvTimeout (p : PortId)
  /-- OUTBOUND_COMPLETION_TIMEOUT (R393): A non-posted request without completion 1 ms after the pins completes with ERROR. -/
  | outboundCompletionTimeout (f : Flit)
  /-- FP_EVENT_READ (R410): A read of FP_EVENT removes and returns the oldest queued port event. -/
  | fpEventRead (p : PageReq)
  /-- FM_BIND (R407): Fabric-manager message that binds a logical device to a link and starts an arrival. -/
  | fmBind (p : PortId) (l : LinkId) (device : Nat) (seq : BitVec 16)
  /-- FM_UNBIND (R407): Fabric-manager message that starts a planned departure. -/
  | fmUnbind (p : PortId) (l : LinkId) (seq : BitVec 16)
  /-- FM_IDE_KEY (R407): Fabric-manager message that unwraps and installs an IDE stream key. -/
  | fmIdeKey (p : PortId) (l : LinkId) (stream : Nat) (slot : Nat) (wrapped : BitVec 640) (seq : BitVec 16)
  /-- FM_STATUS (R407): Fabric-manager message that returns FP_LNK_STATUS of a port's links. -/
  | fmStatus (p : PortId) (opcode : BitVec 16) (seq : BitVec 16)
  /-- PERST_RELEASE (R524): 100 ms after a link's power and clock are good, the Ward raises FPp_PERST_N. -/
  | perstRelease (p : PortId) (l : LinkId)
  /-- CORE_FAULT (R423): A checker error fences the core, discards epochs, drains L1D and starts a reprint. -/
  | coreFault (k : CoreId) (epoch : Nat) (checker : Fin 6)
  /-- REPRINT (R425): The hart's Negative is read and loaded onto the chosen core, or the hart is parked. -/
  | reprint (h : HartId) (readable : Bool)
  /-- HART_MOVE (R428): The Ward copies a parked hart's Negative to another cluster and reprints it there. -/
  | hartMove (h : HartId)
  /-- FENCED_CORE_BIST (R430): The Ward's domain reset of a fenced core ends its BIST, making it idle or retired. -/
  | fencedCoreBist (k : CoreId) (pass : Bool)
  /-- HART_SWITCH (R426): A turn ends and a shared core switches harts in 142 cycles. -/
  | hartSwitch (k : CoreId)
  /-- RAS_RETIRE_CORE (R437): RAS_REQ kind 1 retires a core. -/
  | rasRetireCore (p : PageReq)
  /-- RAS_RETIRE_CLUSTER (R438): RAS_REQ kind 2 retires a cluster, parking and moving its harts. -/
  | rasRetireCluster (p : PageReq)
  /-- RAS_RETIRE_SLICE (R437): RAS_REQ kind 3 retires a slice. -/
  | rasRetireSlice (p : PageReq)
  /-- RAS_RETIRE_ENGINE (R437): RAS_REQ kind 4 retires a Dwemon engine, offering its deque elsewhere. -/
  | rasRetireEngine (p : PageReq)
  /-- RAS_MOVE_HART (R428): RAS_REQ kind 5 moves a parked hart. -/
  | rasMoveHart (p : PageReq)
  /-- LOG_RECORD (R416): A reported error record enters the central log with the next sequence number. -/
  | logRecord
  /-- COALESCED_REPORT (R415): A coalesced corrected record is reported again at most once per 25,000 aclk while COUNT rises. -/
  | coalescedReport (n : Stop) (b : BitVec 8)
  /-- PLDM_RESEND (R440): Every 1 s without a BMC response, the Ward resends the PLDM event. -/
  | pldmResend
  /-- RAS_LOG_ACK_WRITE (R443): A write of RAS_LOG_ACK acknowledges records, letting ERROR_N rise. -/
  | rasLogAckWrite (p : PageReq)
  /-- CL_NEG_DATA_ACCESS (R445): A Ward access of CL_NEG_DATA reads or writes the Negative store word at ADDR and advances ADDR. -/
  | clNegDataAccess (p : PageReq)
  /-- CORE_ENTRY (R455): A core runs its C1, C2 or C3 entry sequence after WFI, to the deepest allowed state. -/
  | coreEntry (k : CoreId)
  /-- CLUSTER_ENTRY (R457): An idle cluster runs its K1 or K2 entry sequence. -/
  | clusterEntry (c : Tile)
  /-- PACKAGE_SLEEP_ENTRY (R459): With ARM set and the part idle, package sleep entry runs from Ward consent to stopping mclk. -/
  | packageSleepEntry (consent : Bool)
  /-- WAKE_EVENT (R454): A wake event abandons an entry at its next abort point or starts the exit sequence. -/
  | wakeEvent (k : CoreId)
  /-- C1_EXIT (R450): A core in C1 resumes execution 20 ns after its wake event. -/
  | c1Exit (k : CoreId)
  /-- C2_EXIT (R461): A C2 exit completes, the wake list is applied and the hart is awake. -/
  | c2Exit (k : CoreId)
  /-- C3_EXIT (R461): A C3 exit completes, the hart is restored from its Negative and is awake. -/
  | c3Exit (k : CoreId)
  /-- K1_EXIT (R461): A cluster's K1 exit completes. -/
  | k1Exit (c : Tile)
  /-- K2_EXIT (R461): A cluster's K2 exit completes with the L2 invalidated. -/
  | k2Exit (c : Tile)
  /-- PACKAGE_SLEEP_EXIT (R461): Package exit completes, the mesh restarts in slot 0 and channels leave self-refresh. -/
  | packageSleepExit
  /-- PWR_PKG_WRITE (R458): A write of PWR_PKG.ARM arms or disarms package sleep. -/
  | pwrPkgWrite (p : PageReq)
  /-- DVFS_TRANSITION (R464): A change of a core's effective point starts a 150-aclk transition. -/
  | dvfsTransition (k : CoreId)
  /-- DVFS_TRANSITION_END (R464): A transition ends and the latest waiting point, if any, is applied. -/
  | dvfsTransitionEnd (k : CoreId)
  /-- VIN_CORE_WARNING (R466): VIN_CORE falls below its warning level and core, cluster and mesh clocks stretch. -/
  | vinCoreWarning
  /-- STRETCH_END (R467): After 25 aclk of VIN_CORE at or above 1.64 V, the stretch ends on a grid edge. -/
  | stretchEnd (mv : BitVec 16)
  /-- VDD_AON_WARNING (R467): VDD_AON falls below its warning level, raising source 1,730. -/
  | vddAonWarning
  /-- VDD_AON_RECOVERY (R467): VDD_AON recovers and record 0x9002 is logged. -/
  | vddAonRecovery (mv : BitVec 16)
  /-- THERMAL_SAMPLE (R468): Every 25 aclk each sensor is sampled and THM_SENSE updated. -/
  | thermalSample (readings : List Word)
  /-- THERMAL_CAP_REVIEW (R469): Every 2,500 aclk each die's cap is lowered or raised by one point. -/
  | thermalCapReview
  /-- PROCHOT_ASSERT (R471): The board drives PROCHOT_N low and every core is capped at PROCHOT_FREQ. -/
  | prochotAssert
  /-- COLD_RESET (R481): PWRGOOD low, a reset-level rail crossing or power-up resets every block. -/
  | coldReset (cause : Fin 3)
  /-- WARM_RESET (R483): RESET_N low for 25 aclk or PWR_RESET.WARM stops issue, drains journals to self-refresh and resets outside AON. -/
  | warmReset (pin : Bool)
  /-- PWR_RESET_WARD (R497): A write of PWR_RESET.WARD resets the Ward alone. -/
  | pwrResetWard (p : PageReq)
  /-- REFCLK_SYS_LOSS (R521): No REFCLK_SYS edge for 1 µs puts the part in cold reset. -/
  | refclkSysLoss
  /-- BOOT_AON (R485): Stage 0 starts aclk and the timebase, arms supervisors, reads fuses and samples SOCKET_ID and TEST_MODE. -/
  | bootAon (socket : Fin 16) (test : Bool)
  /-- BOOT_ROM (R485): Stage 1 boots the Ward from mask ROM and brings up the keyway. -/
  | bootRom
  /-- BOOT_AUTH (R486): Stage 2 reads and authenticates the firmware and configuration image. -/
  | bootAuth (image : Option BootImage)
  /-- BOOT_MESH (R485): Stage 3 loads the schedule, starts the mesh, enables slices and applies image settings. -/
  | bootMesh
  /-- CHANNEL_TRAINING_DONE (R488): A channel's training ends and zeroing starts, or the channel is retired after two failures. -/
  | channelTrainingDone (m : McId) (pass : Bool)
  /-- CHANNEL_ZEROING_DONE (R488): A channel's zeroing ends and the Ward writes START. -/
  | channelZeroingDone (m : McId)
  /-- CLUSTER_BIST_DONE (R489): A cluster's BIST passes and it sets READY, starting its harts if released, or it is retired. -/
  | clusterBistDone (c : Tile) (pass : Bool)
  /-- BOOT_CHANNEL_READY (R490): The first READY channel receives the firmware, the part bolts if set, and clusters are released. -/
  | bootChannelReady
  /-- HASH_OPEN (R492): At the apply edge after all 16 channels are READY, MC_HASH.OPEN is set everywhere. -/
  | hashOpen
  /-- BOOT_TIMEOUT (R491): No image authenticates or no channel is READY within 10 s, and boot ends FAILED. -/
  | bootTimeout
  /-- ENEC (R527): I3C CCC enabling target events. -/
  | enec (value : Word)
  /-- DISEC (R527): I3C CCC disabling target events. -/
  | disec (value : Word)
  /-- RSTDAA (R527): I3C CCC resetting the dynamic address. -/
  | rstdaa (value : Word)
  /-- SETDASA (R527): I3C CCC assigning a dynamic address from the static address. -/
  | setdasa (value : Word)
  /-- SETAASA (R527): I3C CCC setting the static address as dynamic address. -/
  | setaasa (value : Word)
  /-- ENTDAA (R527): I3C CCC for dynamic address assignment. -/
  | entdaa (value : Word)
  /-- SETMWL (R527): I3C CCC setting the maximum write length. -/
  | setmwl (value : Word)
  /-- SETMRL (R527): I3C CCC setting the maximum read length. -/
  | setmrl (value : Word)
  /-- GETMWL (R527): I3C CCC returning the maximum write length. -/
  | getmwl (value : Word)
  /-- GETMRL (R527): I3C CCC returning the maximum read length. -/
  | getmrl (value : Word)
  /-- GETPID (R527): I3C CCC returning the provisional ID. -/
  | getpid (value : Word)
  /-- GETBCR (R527): I3C CCC returning BCR 0x06. -/
  | getbcr (value : Word)
  /-- GETDCR (R527): I3C CCC returning DCR 0x00. -/
  | getdcr (value : Word)
  /-- GETSTATUS (R527): I3C CCC returning target status. -/
  | getstatus (value : Word)
  /-- RSTACT (R527): I3C CCC setting the target reset action. -/
  | rstact (value : Word)
  /-- MCTP_CONTROL_MESSAGE (R528): An MCTP control message from the BMC is served. -/
  | mctpControlMessage (msg : List Byte)
  /-- PLDM_MESSAGE (R528): A PLDM message from the BMC, including its response to a health event, is received. -/
  | pldmMessage (msg : List Byte)
  /-- MCTP_SPDM_MESSAGE (R528): An SPDM message over MCTP is served as command SPDM on MBX24 to MBX27. -/
  | mctpSpdmMessage (msg : List Byte)
  /-- BMC_MBX_REQUEST (R529): A vendor-defined REQUEST fills a BMC mailbox and is answered DONE, REJECTED or DENIED. -/
  | bmcMbxRequest (msg : List Byte)
  /-- EXTEST (R530): JTAG instruction selecting boundary scan for external test. -/
  | extest (value : Nat)
  /-- SAMPLE_PRELOAD (R530): JTAG instruction sampling or preloading the boundary scan. -/
  | samplePreload (value : Nat)
  /-- IDCODE (R530): JTAG instruction selecting the 32-bit IDCODE 0x2938_443B. -/
  | idcode (value : Nat)
  /-- CLAMP (R530): JTAG instruction clamping outputs with bypass selected. -/
  | clamp (value : Nat)
  /-- HIGHZ (R530): JTAG instruction placing outputs in high impedance. -/
  | highz (value : Nat)
  /-- DTMCS (R530): JTAG instruction selecting the RISC-V DTM control register. -/
  | dtmcs (value : Nat)
  /-- DMI (R530): JTAG instruction selecting the RISC-V debug module interface. -/
  | dmi (value : Nat)
  /-- SL_ADDR (R530): An Update-DR of SL_ADDR starts a Safelight page access through the keyway root. -/
  | slAddr (value : Nat)
  /-- SL_DATA (R530): JTAG instruction selecting SL_DATA, the data and status of a Safelight access. -/
  | slData (value : Nat)
  /-- BYPASS (R530): JTAG instruction selecting the 1-bit bypass register. -/
  | bypass (value : Nat)
  /-- PROCHOT_RELEASE (R471): The board stops driving PROCHOT_N low, lifting the PROCHOT_FREQ cap so that each core's effective point rises. -/
  | prochotRelease
  /-- WRITE_JOURNAL_RELEASE (R241): 128 dclk after its WR command a write leaves the journal, freeing an entry of its class that a waiting write takes and is ACKed for (R228). -/
  | writeJournalRelease (m : McId)
  /-- L2_ARRAY_ERROR (R437): An error in a cluster L2 array is corrected (0x4030), poisons a line (0x4031) or, for a tag, is uncorrectable (0x4032) and leads to retirement of the cluster. -/
  | l2ArrayError (c : Tile) (err : ArrayError)
  /-- INBOUND_COMPLETION (R393): A completion or CXL.mem data from a fabric partner arrives at the port's pins for an outbound non-posted request and is forwarded to its requester or home. -/
  | inboundCompletion (f : Flit)
  /-- AER_ERROR (R408): A link reports an AER correctable error (for example FEC or replay, record 0x8001) or an uncorrectable one, raising source 1,664 + 8p + 1 or + 2. -/
  | aerError (p : PortId) (l : LinkId) (uncorrectable : Bool) (rid : BitVec 16) (status : BitVec 32)
  /-- IDE_INTEGRITY_CHECK_FAILED (R409): A received IDE flit fails its integrity check, logs 0x8050 and the link is handled as a surprise departure. -/
  | ideIntegrityCheckFailed (p : PortId) (l : LinkId)
  /-- TAP_RESET (R530): TRST_N low, or the TMS reset sequence, resets the TAP, which then selects IDCODE. -/
  | tapReset
  deriving DecidableEq, Repr

end Sys2Proof
end

