-- ==== Sys2Proof/Config.lean ====
section
/-! DEFINITION. What an implementation fixes and the manual does not give: every constant here is opaque, so nothing
can evaluate it or prove a value of it. -/

namespace Sys2Proof.Config

/-- The value a place holds where the manual leaves it undefined: draw n, of width w. -/
opaque freeValue (w : Nat) : Nat → BitVec w
/-- Fused PWR_VF entry of n x 100 MHz (R479). -/
opaque fusedVf : Nat → Word

/-- The 16 check symbols of a line as stored: the manual names RS(80,64) over GF(2^8) and no polynomial (R235). -/
opaque codeSymbols : BitVec 512 → BitVec 128

/-- ROWMASK (bits 21..12) and COLMASK (bits 11..0) that the image of uniform-24 may hold for entry 96 x stop + 24 x plane + slot: the
manual does not list them (R158, R164). -/
opaque uniformMask : Nat → BitVec 22

/-- Whether a mask whose set moves one column and one row each reel position admits every stop within 60 positions (R164, R165). -/
def covers (w : BitVec 22) : Bool :=
  (List.range 12).all (fun x => (List.range 10).all (fun y => (List.range 60).any (fun r =>
    w.getLsbD ((x + 60 - r) % 12) && w.getLsbD (12 + (y + 60 - r) % 10))))

/-- The masks of uniform-24 (R164): any that reach every stop within a reel; a mask that does not is no mask of the image, and every column
and row stands in its place. -/
def uniform24 (i : Nat) : BitVec 22 := if covers (uniformMask i) then uniformMask i else BitVec.ofNat 22 (2 ^ 22 - 1)

/-- The six check symbols of a flit's 70 other bytes: the manual names RS(76,70) over GF(2^8) and no polynomial (R153). -/
opaque checkSymbols : BitVec 560 → BitVec 48

/-- What a fabric partner holds at an address at a mclk (R394): the part does not store window memory. -/
opaque partnerLine : Nat → Nat → Line
/-- A byte of the Ward's mask ROM of 128 KiB, whose contents the manual does not give (R31, R82). -/
opaque romByte : Nat → Byte

/-- The part serial (R89). -/
opaque partSerial : Word
/-- The version of the Ward's firmware (R89). -/
opaque wardVersion : Word

end Sys2Proof.Config
end

