-- ==== Sys2Proof/Machine/Bits.lean ====
section
/-! DEFINITION. Bit fields of words (R4), sparse tables in one canonical form, byte order (R5) and first-in
first-out lists: the plain data operations every block uses. -/

namespace Sys2Proof.Machine

/-- Bits hi..lo of a number (R4). -/
def bits (w hi lo : Nat) : Nat := (w >>> lo) % 2 ^ (hi + 1 - lo)

/-- The number with bits hi..lo replaced by the low bits of `v` (R4). -/
def putBits (w hi lo v : Nat) : Nat :=
  w - (bits w hi lo) <<< lo + (v % 2 ^ (hi + 1 - lo)) <<< lo

/-- Bit `n` of a number (R4). -/
def bitN (w n : Nat) : Bool := w.testBit n

/-- 1 for true, 0 for false. -/
def b01 (b : Bool) : Nat := if b then 1 else 0

/-- Two's complement value of the low `n` bits of `w`. -/
def signedN (n w : Nat) : Int :=
  if w % 2 ^ n < 2 ^ (n - 1) then (w % 2 ^ n : Nat) else (w % 2 ^ n : Nat) - (2 ^ n : Nat)

/-- A number as a 64-bit word (R5). -/
def w64 (n : Nat) : Word := BitVec.ofNat 64 n

/-- A sparse table: keys rise, and no entry holds the default. -/
abbrev Tab (α : Type) := List (Nat × α)

/-- The entry at `k`, or the default `d`. -/
def Tab.get {α : Type} (d : α) : Tab α → Nat → α
  | [], _ => d
  | (j, v) :: t, k => if j = k then v else Tab.get d t k

/-- The entry at `k`, if one is listed. -/
def Tab.at? {α : Type} : Tab α → Nat → Option α
  | [], _ => none
  | (j, v) :: t, k => if j = k then some v else Tab.at? t k

/-- Insert or replace the entry at `k`, keeping keys rising. -/
def Tab.ins {α : Type} (k : Nat) (v : α) : Tab α → Tab α
  | [] => [(k, v)]
  | (j, u) :: t => if k < j then (k, v) :: (j, u) :: t else if j = k then (k, v) :: t else (j, u) :: Tab.ins k v t

/-- Remove the entry at `k`. -/
def Tab.del {α : Type} (k : Nat) (t : Tab α) : Tab α := t.filter (fun e => e.1 != k)

/-- Write `v` at `k` in a table whose unlisted keys hold `d`: writing the default removes the entry. -/
def Tab.set {α : Type} [DecidableEq α] (d : α) (t : Tab α) (k : Nat) (v : α) : Tab α :=
  if v = d then Tab.del k t else Tab.ins k v t

/-- Keys rise strictly, all above `b` (a bound, `none` for no bound). -/
def Tab.risingFrom {α : Type} : Option Nat → Tab α → Bool
  | _, [] => true
  | b, (j, _) :: t => (match b with | none => true | some m => decide (m < j)) && Tab.risingFrom (some j) t

/-- The canonical form: keys rise strictly and no entry holds the default of its key. -/
def Tab.wf {α : Type} [DecidableEq α] (d : Nat → α) (t : Tab α) : Bool :=
  Tab.risingFrom none t && t.all (fun e => decide (e.2 ≠ d e.1))

/-- Remove the first element that satisfies `p`; the element found, and the rest. -/
def takeFirst {α : Type} (p : α → Bool) : List α → Option (α × List α)
  | [] => none
  | a :: t => if p a then some (a, t) else
      match takeFirst p t with
      | none => none
      | some (b, r) => some (b, a :: r)

/-- a / b rounded up. -/
def ceilDiv (a b : Nat) : Nat := (a + b - 1) / b

/-- Replace the first element that satisfies `p`. -/
def mapFirst {α : Type} (p : α → Bool) (f : α → α) : List α → List α
  | [] => []
  | a :: t => if p a then f a :: t else a :: mapFirst p f t

/-- Word `i` (64 bits, little endian, R5) of a line. -/
def lineWord (l : Line) (i : Nat) : Word := (l >>> (64 * i)).setWidth 64

/-- The line with word `i` replaced (R5). -/
def setLineWord (l : Line) (i : Nat) (w : Word) : Line :=
  BitVec.ofNat 512 (putBits l.toNat (64 * i + 63) (64 * i) w.toNat)

/-- A line made of 64-bit words, word 0 at the lowest address (R5). -/
def lineOfWords : List Word → Line
  | [] => 0
  | w :: t => BitVec.ofNat 512 (w.toNat + (lineOfWords t).toNat <<< 64)

/-- The bytes of a number, lowest first (R5). -/
def leBytes : Nat → Nat → List Byte
  | 0, _ => []
  | n + 1, v => BitVec.ofNat 8 v :: leBytes n (v >>> 8)

/-- The number whose bytes, lowest first, are given (R5). -/
def leValue : List Byte → Nat
  | [] => 0
  | b :: t => b.toNat + 256 * leValue t

/-- Replace bytes `off`.. of a line by the low `n` bytes of `v`. -/
def lineMerge (l : Line) (off n : Nat) (v : Nat) : Line :=
  BitVec.ofNat 512 (putBits l.toNat (8 * (off + n) - 1) (8 * off) v)

/-- The numbers of the set bits among the low `n` bits of `w`, rising. -/
def setBits (n w : Nat) : List Nat := (List.range n).filter (fun i => w.testBit i)

/-- How many of the low `n` bits of `w` are set. -/
def popCount (n w : Nat) : Nat := (setBits n w).length

end Sys2Proof.Machine
end

