-- ==== Sys2Proof/Machine/Geometry.lean ====
section
/-! DEFINITION. The grid, the numbering of its agents and the address map (01 R14-R21, 02 R31-R38). -/

namespace Sys2Proof.Machine

/-- Column of a stop (R15, R36). -/
def stopX (n : Nat) : Nat := n % 12
/-- Row of a stop (R15, R36). -/
def stopY (n : Nat) : Nat := n / 12
/-- The stop at (x, y) (R36). -/
def stopAt (x y : Nat) : Nat := 12 * y + x
/-- The stop of cluster tile c: (c mod 12, c div 12 + 1) (R17). -/
def tileStop (c : Nat) : Nat := c + 12
/-- The tile at a stop of rows 1 to 8 (R15, R17). -/
def stopTile? (n : Nat) : Option Nat := if 12 ≤ n ∧ n < 108 then some (n - 12) else none
/-- The stop of memory controller m (R18). -/
def mcStop (m : Nat) : Nat :=
  if m < 4 then stopAt m 0 else if m < 8 then stopAt (m + 4) 0 else if m < 12 then stopAt (m - 8) 9 else stopAt (m - 4) 9
/-- The controller at a stop (R18). -/
def stopMc? (n : Nat) : Option Nat := (List.range 16).find? (fun m => mcStop m == n)
/-- The stop of fabric port p (R18). -/
def fpStop (p : Nat) : Nat := if p < 4 then stopAt (p + 4) 0 else stopAt p 9
/-- The fabric port at a stop (R18). -/
def stopFp? (n : Nat) : Option Nat := (List.range 8).find? (fun p => fpStop p == n)
/-- Stop of the always-on and power block (R19). -/
def aonStop : Nat := stopAt 4 0
/-- Stop of the interrupt router (R19). -/
def irtStop : Nat := stopAt 5 0
/-- Stop of the Ward gateway (R19). -/
def wardStop : Nat := stopAt 6 0

/-- Die of a stop: 0 A, 1 B, 2 C, 3 D, 4 IO0, 5 IO1 (R15, R480). -/
def dieOf (n : Nat) : Nat :=
  if stopY n = 0 then 4 else if stopY n = 9 then 5
  else (if stopY n ≤ 4 then 0 else 2) + (if stopX n ≤ 5 then 0 else 1)

/-- Whether the hop between two adjacent stops crosses a die boundary (R20). -/
def crossesDie (a b : Nat) : Bool := dieOf a != dieOf b

/-- Direction of a hop: 0 N, 1 E, 2 S, 3 W (R16, R176). -/
def neighbour (n d : Nat) : Option Nat :=
  let x := stopX n
  let y := stopY n
  match d with
  | 0 => if y = 0 then none else some (stopAt x (y - 1))
  | 1 => if x = 11 then none else some (stopAt (x + 1) y)
  | 2 => if y = 9 then none else some (stopAt x (y + 1))
  | _ => if x = 0 then none else some (stopAt (x - 1) y)

/-- The next direction of the X-first route from `n` to `d`; none at the destination (R154). -/
def routeDir (n d : Nat) : Option Nat :=
  if stopX n < stopX d then some 1 else if stopX d < stopX n then some 3
  else if stopY n < stopY d then some 2 else if stopY d < stopY n then some 0 else none

/-- The stops after `n` on the X-first route to `d`, at most `fuel` of them (R154). -/
def routeFrom : Nat → Nat → Nat → List Nat
  | 0, _, _ => []
  | fuel + 1, n, d =>
    match routeDir n d with
    | none => []
    | some dir =>
      match neighbour n dir with
      | none => []
      | some m => m :: routeFrom fuel m d

/-- The X-first route, source excluded, destination included (R154). -/
def route (n d : Nat) : List Nat := routeFrom 20 n d

/-- Cost of one hop in mclk: 1, or 4 over a die boundary (R154). -/
def hopCost (a b : Nat) : Nat := if crossesDie a b then 4 else 1

/-- The cost of the hops of a path that starts at `n` (R154). -/
def pathCost : Nat → List Nat → Nat
  | _, [] => 0
  | n, m :: t => hopCost n m + pathCost m t

/-- H: hops plus 3 for each die boundary crossed (R155). -/
def pathH (n d : Nat) : Nat := pathCost n (route n d)

/-- The local ports a stop has: 0 Hinge; at a tile 1 cluster, 2 slice and directory, 3 engine and task queue, 4 DMA;
at an edge stop 1 the first agent and, at three stops, 2 the second agent (R152, R18, R19). -/
def stopPorts (n : Nat) : Nat :=
  if (stopTile? n).isSome then 5 else if n == aonStop || n == irtStop || n == wardStop then 3 else 2

/-- What an address of the map holds (R31). -/
inductive Region where
  | rom | keyway | ecam | target | doorbell | engine | dram | fabricMem | fabricMmio | unmapped
  deriving DecidableEq, Repr

/-- The range of R31 an address falls in (domain pages beyond 255, engine windows beyond 95 and holes in a window
are settled by `engineOffset`, R34, and `pageAt`, R35). -/
def region (a : Nat) : Region :=
  if a < 0x40000 then .rom
  else if a < 0x40000000 then .unmapped
  else if a < 0x80000000 then .keyway
  else if a < 0xC0000000 then .ecam
  else if a < 0xC8000000 then .target
  else if a < 0xC8100000 then .doorbell
  else if a < 0xD0000000 then .unmapped
  else if a < 0xE0000000 then .engine
  else if a < 0x1000000000 then .unmapped
  else if a < 0x41000000000 then .dram
  else if a < 0x100000000000 then .unmapped
  else if a < 0x8000000000000 then .fabricMem
  else if a < 0x10000000000000 then .fabricMmio
  else .unmapped

/-- Whether a region is fabric window memory. -/
def Region.isFabricMem : Region → Bool
  | .fabricMem => true
  | _ => false

/-- First address of local DRAM (R31). -/
def dramBase : Nat := 0x1000000000

/-- What an engine window's offset holds (R34). -/
inductive EngineArea where
  | taskDoorbell | imem | dmem
  deriving DecidableEq, Repr

/-- The engine, the area and the offset in it of an address of the engine windows (R34); none where unmapped. -/
def engineArea? (a : Nat) : Option (Nat × EngineArea × Nat) :=
  let e := bits a 27 20
  let o := bits a 19 0
  if region a ≠ .engine ∨ 96 ≤ e then none
  else if o < 0x1000 then some (e, .taskDoorbell, o)
  else if 0x40000 ≤ o ∧ o < 0x50000 then some (e, .imem, o - 0x40000)
  else if 0x80000 ≤ o ∧ o < 0xA0000 then some (e, .dmem, o - 0x80000)
  else none

/-- Address of the task doorbell of cluster c's queue (R34). -/
def taskDoorbellAddr (c : Nat) : Nat := 0xD0000000 + c <<< 20
/-- Address of domain d's doorbell page (R31). -/
def domainDoorbellAddr (d : Nat) : Nat := 0xC8000000 + d <<< 12

end Sys2Proof.Machine
end

