-- ==== Sys2Proof/Machine/RegNames.lean ====
section
/-! DEFINITION. The manual's register fields by name: REG_FIELD is field FIELD of register REG (01 naming of
registers): the register's offset in its page, the field's bits, and the distance between instances. -/

namespace Sys2Proof.Machine

/-- A field of a register page: offset, bits hi..lo, distance between the register's instances. -/
structure Field where
  off : Nat
  hi : Nat
  lo : Nat
  stride : Nat
  deriving DecidableEq, Repr

/-- Instance `i` of the field's register. -/
def Field.nth (f : Field) (i : Nat) : Field := ⟨f.off + f.stride * i, f.hi, f.lo, f.stride⟩

/-- The field of class `k` where a pair of registers holds one byte a class (R215, R226, R249, R340). -/
def Field.ofClass (f : Field) (k : Nat) : Field := ⟨f.off + 8 * (k / 8), f.hi + 8 * (k % 8), f.lo + 8 * (k % 8), f.stride⟩

namespace R

/-- PG_ID, R42. -/
def PG_ID : Field := ⟨0x0, 63, 0, 0x8⟩
def PG_ID_TYPE : Field := ⟨0x0, 63, 52, 0x8⟩
def PG_ID_INST : Field := ⟨0x0, 51, 40, 0x8⟩
def PG_ID_MAJOR : Field := ⟨0x0, 39, 32, 0x8⟩
def PG_ID_MINOR : Field := ⟨0x0, 31, 24, 0x8⟩
def PG_ID_PAGE : Field := ⟨0x0, 23, 16, 0x8⟩
/-- PG_STATUS, R43. -/
def PG_STATUS : Field := ⟨0x8, 63, 0, 0x8⟩
def PG_STATUS_WLOST : Field := ⟨0x8, 8, 8, 0x8⟩
def PG_STATUS_HOLD : Field := ⟨0x8, 7, 7, 0x8⟩
def PG_STATUS_SECURE : Field := ⟨0x8, 6, 6, 0x8⟩
def PG_STATUS_RETIRED : Field := ⟨0x8, 5, 5, 0x8⟩
def PG_STATUS_DEGRADED : Field := ⟨0x8, 4, 4, 0x8⟩
def PG_STATUS_FROZEN : Field := ⟨0x8, 3, 3, 0x8⟩
def PG_STATUS_BUSY : Field := ⟨0x8, 2, 2, 0x8⟩
def PG_STATUS_LOST : Field := ⟨0x8, 1, 1, 0x8⟩
def PG_STATUS_READY : Field := ⟨0x8, 0, 0, 0x8⟩
/-- PG_FAULT, R45. -/
def PG_FAULT : Field := ⟨0x10, 63, 0, 0x8⟩
def PG_FAULT_ACCESS : Field := ⟨0x10, 6, 6, 0x8⟩
def PG_FAULT_TIMEOUT : Field := ⟨0x10, 5, 5, 0x8⟩
def PG_FAULT_NOINIT : Field := ⟨0x10, 4, 4, 0x8⟩
def PG_FAULT_LOCKED : Field := ⟨0x10, 3, 3, 0x8⟩
def PG_FAULT_UNCORR : Field := ⟨0x10, 2, 2, 0x8⟩
def PG_FAULT_DEFER : Field := ⟨0x10, 1, 1, 0x8⟩
def PG_FAULT_CORR : Field := ⟨0x10, 0, 0, 0x8⟩
/-- PG_FAULT_INFO, R46. -/
def PG_FAULT_INFO : Field := ⟨0x18, 63, 0, 0x8⟩
def PG_FAULT_INFO_BIT : Field := ⟨0x18, 63, 60, 0x8⟩
def PG_FAULT_INFO_PATH : Field := ⟨0x18, 59, 56, 0x8⟩
def PG_FAULT_INFO_TENANT : Field := ⟨0x18, 55, 44, 0x8⟩
def PG_FAULT_INFO_CLASS : Field := ⟨0x18, 43, 40, 0x8⟩
def PG_FAULT_INFO_REQ : Field := ⟨0x18, 39, 24, 0x8⟩
def PG_FAULT_INFO_OFFSET : Field := ⟨0x18, 11, 3, 0x8⟩
def PG_FAULT_INFO_WRITE : Field := ⟨0x18, 2, 2, 0x8⟩
def PG_FAULT_INFO_VALID : Field := ⟨0x18, 1, 1, 0x8⟩
def PG_FAULT_INFO_OVER : Field := ⟨0x18, 0, 0, 0x8⟩
/-- PG_BOLT, R47. -/
def PG_BOLT : Field := ⟨0x20, 63, 0, 0x8⟩
def PG_BOLT_BOLTED : Field := ⟨0x20, 63, 63, 0x8⟩
def PG_BOLT_WORLD : Field := ⟨0x20, 62, 62, 0x8⟩
def PG_BOLT_OWNER : Field := ⟨0x20, 27, 16, 0x8⟩
def PG_BOLT_CLASS : Field := ⟨0x20, 15, 12, 0x8⟩
/-- PG_POWER, R48. -/
def PG_POWER : Field := ⟨0x28, 63, 0, 0x8⟩
def PG_POWER_REQ : Field := ⟨0x28, 15, 12, 0x8⟩
def PG_POWER_CUR : Field := ⟨0x28, 11, 8, 0x8⟩
def PG_POWER_PEND : Field := ⟨0x28, 0, 0, 0x8⟩
/-- PG_RESET, R49. -/
def PG_RESET : Field := ⟨0x30, 63, 0, 0x8⟩
def PG_RESET_HOLDRST : Field := ⟨0x30, 8, 8, 0x8⟩
def PG_RESET_ACTIVE : Field := ⟨0x30, 1, 1, 0x8⟩
def PG_RESET_GO : Field := ⟨0x30, 0, 0, 0x8⟩
/-- PG_CNT_BASE, R50. -/
def PG_CNT_BASE : Field := ⟨0x38, 63, 0, 0x8⟩
def PG_CNT_BASE_ADDR : Field := ⟨0x38, 51, 3, 0x8⟩
/-- PG_REC_NEW, R51. -/
def PG_REC_NEW : Field := ⟨0x40, 63, 0, 0x8⟩
/-- PG_REC_OLD, R51. -/
def PG_REC_OLD : Field := ⟨0x60, 63, 0, 0x8⟩
/-- KW_PRESENT, R64. -/
def KW_PRESENT : Field := ⟨0x100, 63, 0, 0x8⟩
/-- KW_STALE, R64. -/
def KW_STALE : Field := ⟨0x120, 63, 0, 0x8⟩
def KW_STALE_COUNT : Field := ⟨0x120, 47, 0, 0x8⟩
/-- KW_HOLD, R99. -/
def KW_HOLD : Field := ⟨0x128, 63, 0, 0x8⟩
def KW_HOLD_COUNT : Field := ⟨0x128, 7, 0, 0x8⟩
/-- TCT_ENTRY, R72. -/
def TCT_ENTRY : Field := ⟨0x100, 63, 0, 0x8⟩
def TCT_ENTRY_VALID : Field := ⟨0x100, 63, 63, 0x8⟩
def TCT_ENTRY_SUSPEND : Field := ⟨0x100, 62, 62, 0x8⟩
def TCT_ENTRY_TASK_OK : Field := ⟨0x100, 61, 61, 0x8⟩
def TCT_ENTRY_DMA_OK : Field := ⟨0x100, 60, 60, 0x8⟩
def TCT_ENTRY_APERTURE : Field := ⟨0x100, 33, 28, 0x8⟩
def TCT_ENTRY_KEY : Field := ⟨0x100, 27, 16, 0x8⟩
def TCT_ENTRY_CLASS : Field := ⟨0x100, 3, 0, 0x8⟩
/-- TCT_SYNC, R73. -/
def TCT_SYNC : Field := ⟨0x900, 63, 0, 0x8⟩
def TCT_SYNC_PEND : Field := ⟨0x900, 63, 63, 0x8⟩
def TCT_SYNC_EDGE : Field := ⟨0x900, 62, 0, 0x8⟩
/-- TCT_CTXBASE, R73. -/
def TCT_CTXBASE : Field := ⟨0x908, 63, 0, 0x8⟩
def TCT_CTXBASE_BASE : Field := ⟨0x908, 51, 18, 0x8⟩
def TCT_CTXBASE_EN : Field := ⟨0x908, 0, 0, 0x8⟩
/-- TCT_APERTURE, R73. -/
def TCT_APERTURE : Field := ⟨0xa00, 63, 0, 0x8⟩
def TCT_APERTURE_DMA_MAX : Field := ⟨0xa00, 63, 56, 0x8⟩
def TCT_APERTURE_PRI_MAX : Field := ⟨0xa00, 55, 53, 0x8⟩
/-- WARD_MBX_STATUS, R85. -/
def WARD_MBX_STATUS : Field := ⟨0x100, 63, 0, 0x8⟩
def WARD_MBX_STATUS_STATE : Field := ⟨0x100, 63, 60, 0x8⟩
def WARD_MBX_STATUS_REJECT : Field := ⟨0x100, 59, 59, 0x8⟩
def WARD_MBX_STATUS_RESULT : Field := ⟨0x100, 47, 32, 0x8⟩
def WARD_MBX_STATUS_SEQ : Field := ⟨0x100, 15, 0, 0x8⟩
/-- WARD_MBX_DOORBELL, R85. -/
def WARD_MBX_DOORBELL : Field := ⟨0x108, 63, 0, 0x8⟩
def WARD_MBX_DOORBELL_SEQ : Field := ⟨0x108, 15, 0, 0x8⟩
/-- WARD_MBX_ASSIGN, R85. -/
def WARD_MBX_ASSIGN : Field := ⟨0x110, 63, 0, 0x8⟩
def WARD_MBX_ASSIGN_EN : Field := ⟨0x110, 63, 63, 0x8⟩
def WARD_MBX_ASSIGN_USER : Field := ⟨0x110, 62, 60, 0x8⟩
def WARD_MBX_ASSIGN_TENANT : Field := ⟨0x110, 27, 16, 0x8⟩
/-- WARD_MBX_IN, R85. -/
def WARD_MBX_IN : Field := ⟨0x200, 63, 0, 0x8⟩
/-- WARD_MBX_OUT, R85. -/
def WARD_MBX_OUT : Field := ⟨0x300, 63, 0, 0x8⟩
/-- BOLT_CTL, R93. -/
def BOLT_CTL : Field := ⟨0x100, 63, 0, 0x8⟩
def BOLT_CTL_BOLT : Field := ⟨0x100, 0, 0, 0x8⟩
/-- BOLT_SLOTCLASS, R93. -/
def BOLT_SLOTCLASS : Field := ⟨0x108, 63, 0, 0x8⟩
def BOLT_SLOTCLASS_C15 : Field := ⟨0x108, 15, 15, 0x8⟩
def BOLT_SLOTCLASS_CLASS : Field := ⟨0x108, 14, 0, 0x8⟩
/-- BOLT_DOMAIN, R92. -/
def BOLT_DOMAIN : Field := ⟨0x110, 63, 0, 0x8⟩
/-- BOLT_FP, R92. -/
def BOLT_FP : Field := ⟨0x140, 63, 0, 0x8⟩
def BOLT_FP_LINK : Field := ⟨0x140, 3, 0, 0x8⟩
/-- BOLT_CARVE_BASE, R93. -/
def BOLT_CARVE_BASE : Field := ⟨0x100, 63, 0, 0x10⟩
def BOLT_CARVE_BASE_EN : Field := ⟨0x100, 63, 63, 0x10⟩
def BOLT_CARVE_BASE_BASE : Field := ⟨0x100, 51, 16, 0x10⟩
/-- BOLT_CARVE_LIMIT, R93. -/
def BOLT_CARVE_LIMIT : Field := ⟨0x108, 63, 0, 0x10⟩
def BOLT_CARVE_LIMIT_LIMIT : Field := ⟨0x108, 51, 16, 0x10⟩
/-- SL_GRANT, R103. -/
def SL_GRANT : Field := ⟨0x100, 63, 0, 0x8⟩
def SL_GRANT_ACTIVE : Field := ⟨0x100, 63, 63, 0x8⟩
def SL_GRANT_WRITE : Field := ⟨0x100, 62, 62, 0x8⟩
def SL_GRANT_GRANT_ID : Field := ⟨0x100, 15, 0, 0x8⟩
/-- SL_GRANT_EXPIRY, R103. -/
def SL_GRANT_EXPIRY : Field := ⟨0x108, 63, 0, 0x8⟩
/-- CORE_RESETVEC, R119. -/
def CORE_RESETVEC : Field := ⟨0x100, 63, 0, 0x8⟩
def CORE_RESETVEC_ADDR : Field := ⟨0x100, 51, 2, 0x8⟩
/-- CORE_RUN, R119. -/
def CORE_RUN : Field := ⟨0x108, 63, 0, 0x8⟩
def CORE_RUN_SHARED : Field := ⟨0x108, 63, 63, 0x8⟩
def CORE_RUN_FENCED : Field := ⟨0x108, 62, 62, 0x8⟩
def CORE_RUN_HART1 : Field := ⟨0x108, 31, 16, 0x8⟩
def CORE_RUN_HART0 : Field := ⟨0x108, 15, 0, 0x8⟩
/-- CORE_EPOCH, R119. -/
def CORE_EPOCH : Field := ⟨0x110, 63, 0, 0x8⟩
def CORE_EPOCH_LAST : Field := ⟨0x110, 62, 60, 0x8⟩
def CORE_EPOCH_COMMITS : Field := ⟨0x110, 47, 0, 0x8⟩
/-- CORE_INJECT, R119. -/
def CORE_INJECT : Field := ⟨0x118, 63, 0, 0x8⟩
def CORE_INJECT_KIND : Field := ⟨0x118, 3, 0, 0x8⟩
/-- CORE_MTIMECMP, R120. -/
def CORE_MTIMECMP : Field := ⟨0x120, 63, 0, 0x8⟩
/-- CORE_MTIMECMP1, R120. -/
def CORE_MTIMECMP1 : Field := ⟨0x128, 63, 0, 0x8⟩
/-- MS_SLOT, R158. -/
def MS_SLOT : Field := ⟨0x100, 63, 0, 0x8⟩
def MS_SLOT_VALID : Field := ⟨0x100, 63, 63, 0x8⟩
def MS_SLOT_CLASS : Field := ⟨0x100, 59, 56, 0x8⟩
def MS_SLOT_CSTEP : Field := ⟨0x100, 55, 52, 0x8⟩
def MS_SLOT_RSTEP : Field := ⟨0x100, 51, 48, 0x8⟩
def MS_SLOT_ROWMASK : Field := ⟨0x100, 21, 12, 0x8⟩
def MS_SLOT_COLMASK : Field := ⟨0x100, 11, 0, 0x8⟩
/-- MS_SLOTNOW, R176. -/
def MS_SLOTNOW : Field := ⟨0x400, 63, 0, 0x8⟩
def MS_SLOTNOW_PERIOD : Field := ⟨0x400, 63, 16, 0x8⟩
def MS_SLOTNOW_REELPOS : Field := ⟨0x400, 13, 8, 0x8⟩
def MS_SLOTNOW_SLOT : Field := ⟨0x400, 4, 0, 0x8⟩
/-- MS_SCHED, R176. -/
def MS_SCHED : Field := ⟨0x408, 63, 0, 0x8⟩
def MS_SCHED_REEL : Field := ⟨0x408, 30, 24, 0x8⟩
def MS_SCHED_PAUSED : Field := ⟨0x408, 16, 16, 0x8⟩
def MS_SCHED_GEN : Field := ⟨0x408, 15, 0, 0x8⟩
/-- MS_RETRY, R176. -/
def MS_RETRY : Field := ⟨0x410, 63, 0, 0x8⟩
def MS_RETRY_LIMIT : Field := ⟨0x410, 63, 56, 0x8⟩
def MS_RETRY_COUNT : Field := ⟨0x410, 47, 0, 0x8⟩
/-- MS_CORR, R176. -/
def MS_CORR : Field := ⟨0x418, 63, 0, 0x8⟩
def MS_CORR_COUNT : Field := ⟨0x418, 47, 0, 0x8⟩
/-- MS_LINK, R176. -/
def MS_LINK : Field := ⟨0x420, 63, 0, 0x8⟩
/-- SLC_CTL, R215. -/
def SLC_CTL : Field := ⟨0x100, 63, 0, 0x8⟩
def SLC_CTL_INITED : Field := ⟨0x100, 1, 1, 0x8⟩
def SLC_CTL_EN : Field := ⟨0x100, 0, 0, 0x8⟩
/-- SLC_LATCH, R215. -/
def SLC_LATCH : Field := ⟨0x108, 63, 0, 0x8⟩
def SLC_LATCH_OWNER : Field := ⟨0x108, 19, 16, 0x8⟩
def SLC_LATCH_WAYS : Field := ⟨0x108, 11, 0, 0x8⟩
/-- SLC_FILLSHARE, R215. -/
def SLC_FILLSHARE : Field := ⟨0x110, 63, 0, 0x8⟩
/-- SLC_MASK, R215. -/
def SLC_MASK : Field := ⟨0x140, 63, 0, 0x8⟩
def SLC_MASK_WAYS : Field := ⟨0x140, 11, 0, 0x8⟩
/-- SLC_MAINT_CMD, R216. -/
def SLC_MAINT_CMD : Field := ⟨0x200, 63, 0, 0x40⟩
def SLC_MAINT_CMD_SCOPE : Field := ⟨0x200, 7, 4, 0x40⟩
def SLC_MAINT_CMD_OP : Field := ⟨0x200, 3, 0, 0x40⟩
/-- SLC_MAINT_ADDR, R216. -/
def SLC_MAINT_ADDR : Field := ⟨0x208, 63, 0, 0x40⟩
def SLC_MAINT_ADDR_ADDR : Field := ⟨0x208, 51, 6, 0x40⟩
/-- SLC_MAINT_LEN, R216. -/
def SLC_MAINT_LEN : Field := ⟨0x210, 63, 0, 0x40⟩
def SLC_MAINT_LEN_LEN : Field := ⟨0x210, 39, 6, 0x40⟩
/-- SLC_MAINT_SETWAY, R216. -/
def SLC_MAINT_SETWAY : Field := ⟨0x218, 63, 0, 0x40⟩
def SLC_MAINT_SETWAY_WAY : Field := ⟨0x218, 19, 16, 0x40⟩
def SLC_MAINT_SETWAY_SET : Field := ⟨0x218, 11, 0, 0x40⟩
/-- SLC_MAINT_STAT, R216. -/
def SLC_MAINT_STAT : Field := ⟨0x220, 63, 0, 0x40⟩
def SLC_MAINT_STAT_BUSY : Field := ⟨0x220, 63, 63, 0x40⟩
def SLC_MAINT_STAT_RESULT : Field := ⟨0x220, 62, 60, 0x40⟩
def SLC_MAINT_STAT_LINES : Field := ⟨0x220, 47, 0, 0x40⟩
/-- DIR_HOMEMAP, R217. -/
def DIR_HOMEMAP : Field := ⟨0x100, 63, 0, 0x8⟩
/-- DIR_HOMED, R217. -/
def DIR_HOMED : Field := ⟨0x300, 63, 0, 0x8⟩
def DIR_HOMED_GEN : Field := ⟨0x300, 31, 16, 0x8⟩
def DIR_HOMED_COUNT : Field := ⟨0x300, 8, 0, 0x8⟩
/-- MC_CTL, R247. -/
def MC_CTL : Field := ⟨0x100, 63, 0, 0x8⟩
def MC_CTL_FAIL : Field := ⟨0x100, 15, 8, 0x8⟩
def MC_CTL_STARTED : Field := ⟨0x100, 1, 1, 0x8⟩
def MC_CTL_START : Field := ⟨0x100, 0, 0, 0x8⟩
/-- MC_CFG, R247. -/
def MC_CFG : Field := ⟨0x108, 63, 0, 0x8⟩
def MC_CFG_WIDTH : Field := ⟨0x108, 63, 63, 0x8⟩
def MC_CFG_DENSITY : Field := ⟨0x108, 62, 61, 0x8⟩
def MC_CFG_RANKS : Field := ⟨0x108, 60, 60, 0x8⟩
def MC_CFG_STACK : Field := ⟨0x108, 59, 58, 0x8⟩
def MC_CFG_SPEED : Field := ⟨0x108, 57, 55, 0x8⟩
/-- MC_ILV, R247. -/
def MC_ILV : Field := ⟨0x110, 63, 0, 0x8⟩
def MC_ILV_MODE : Field := ⟨0x110, 63, 63, 0x8⟩
def MC_ILV_MIRROR : Field := ⟨0x110, 62, 62, 0x8⟩
def MC_ILV_JOIN : Field := ⟨0x110, 48, 40, 0x8⟩
/-- MC_MAP, R247. -/
def MC_MAP : Field := ⟨0x118, 63, 0, 0x8⟩
def MC_MAP_ORDER : Field := ⟨0x118, 1, 0, 0x8⟩
/-- MC_TIM0, R247. -/
def MC_TIM0 : Field := ⟨0x120, 63, 0, 0x8⟩
def MC_TIM0_CL : Field := ⟨0x120, 63, 56, 0x8⟩
def MC_TIM0_CWL : Field := ⟨0x120, 55, 48, 0x8⟩
def MC_TIM0_RCD : Field := ⟨0x120, 47, 40, 0x8⟩
def MC_TIM0_RP : Field := ⟨0x120, 39, 32, 0x8⟩
def MC_TIM0_RAS : Field := ⟨0x120, 31, 24, 0x8⟩
def MC_TIM0_WR : Field := ⟨0x120, 23, 16, 0x8⟩
def MC_TIM0_RTP : Field := ⟨0x120, 15, 8, 0x8⟩
/-- MC_TIM1, R247. -/
def MC_TIM1 : Field := ⟨0x128, 63, 0, 0x8⟩
def MC_TIM1_CCD_S : Field := ⟨0x128, 63, 56, 0x8⟩
def MC_TIM1_CCD_L : Field := ⟨0x128, 55, 48, 0x8⟩
def MC_TIM1_RRD_S : Field := ⟨0x128, 47, 40, 0x8⟩
def MC_TIM1_RRD_L : Field := ⟨0x128, 39, 32, 0x8⟩
def MC_TIM1_FAW : Field := ⟨0x128, 31, 24, 0x8⟩
def MC_TIM1_WTR_S : Field := ⟨0x128, 23, 16, 0x8⟩
def MC_TIM1_WTR_L : Field := ⟨0x128, 15, 8, 0x8⟩
def MC_TIM1_RTRS : Field := ⟨0x128, 7, 0, 0x8⟩
/-- MC_WIN, R247. -/
def MC_WIN : Field := ⟨0x130, 63, 0, 0x8⟩
def MC_WIN_LEN : Field := ⟨0x130, 63, 48, 0x8⟩
def MC_WIN_LAST : Field := ⟨0x130, 47, 32, 0x8⟩
def MC_WIN_MLEN : Field := ⟨0x130, 31, 16, 0x8⟩
/-- MC_REF, R247. -/
def MC_REF : Field := ⟨0x138, 63, 0, 0x8⟩
def MC_REF_MODE : Field := ⟨0x138, 63, 63, 0x8⟩
def MC_REF_PERWIN : Field := ⟨0x138, 55, 52, 0x8⟩
def MC_REF_TRFC : Field := ⟨0x138, 47, 32, 0x8⟩
def MC_REF_TREFI : Field := ⟨0x138, 31, 16, 0x8⟩
/-- MC_PAT_CTL, R248. -/
def MC_PAT_CTL : Field := ⟨0x200, 63, 0, 0x8⟩
def MC_PAT_CTL_GO : Field := ⟨0x200, 63, 63, 0x8⟩
def MC_PAT_CTL_BUSY : Field := ⟨0x200, 62, 62, 0x8⟩
def MC_PAT_CTL_OP : Field := ⟨0x200, 61, 60, 0x8⟩
def MC_PAT_CTL_PATTERN : Field := ⟨0x200, 59, 58, 0x8⟩
def MC_PAT_CTL_SUB : Field := ⟨0x200, 57, 57, 0x8⟩
def MC_PAT_CTL_RANK : Field := ⟨0x200, 56, 56, 0x8⟩
def MC_PAT_CTL_CID : Field := ⟨0x200, 55, 54, 0x8⟩
def MC_PAT_CTL_COUNT : Field := ⟨0x200, 47, 32, 0x8⟩
def MC_PAT_CTL_START : Field := ⟨0x200, 30, 0, 0x8⟩
/-- MC_PAT_RESULT, R248. -/
def MC_PAT_RESULT : Field := ⟨0x210, 63, 0, 0x8⟩
def MC_PAT_RESULT_DONE : Field := ⟨0x210, 63, 63, 0x8⟩
def MC_PAT_RESULT_LANEERR : Field := ⟨0x210, 39, 0, 0x8⟩
/-- MC_MPC, R248. -/
def MC_MPC : Field := ⟨0x218, 63, 0, 0x8⟩
def MC_MPC_GO : Field := ⟨0x218, 63, 63, 0x8⟩
def MC_MPC_BUSY : Field := ⟨0x218, 62, 62, 0x8⟩
def MC_MPC_KIND : Field := ⟨0x218, 61, 60, 0x8⟩
def MC_MPC_SUB : Field := ⟨0x218, 59, 59, 0x8⟩
def MC_MPC_RANK : Field := ⟨0x218, 58, 58, 0x8⟩
def MC_MPC_CID : Field := ⟨0x218, 57, 56, 0x8⟩
def MC_MPC_PDA : Field := ⟨0x218, 55, 55, 0x8⟩
def MC_MPC_DEV : Field := ⟨0x218, 54, 51, 0x8⟩
def MC_MPC_OPC : Field := ⟨0x218, 47, 40, 0x8⟩
def MC_MPC_DATA : Field := ⟨0x218, 39, 32, 0x8⟩
/-- MC_PAT_USER, R248. -/
def MC_PAT_USER : Field := ⟨0x208, 63, 0, 0x8⟩
/-- MC_MRR, R248. -/
def MC_MRR : Field := ⟨0x220, 63, 0, 0x8⟩
/-- MC_HASH, R249. -/
def MC_HASH : Field := ⟨0x100, 63, 0, 0x8⟩
def MC_HASH_OPEN : Field := ⟨0x100, 0, 0, 0x8⟩
/-- MC_WINSHARE, R249. -/
def MC_WINSHARE : Field := ⟨0x108, 63, 0, 0x8⟩
/-- MC_BGMASK, R249. -/
def MC_BGMASK : Field := ⟨0x118, 63, 0, 0x8⟩
/-- MC_FRAMENOW, R249. -/
def MC_FRAMENOW : Field := ⟨0x128, 63, 0, 0x8⟩
def MC_FRAMENOW_FRAME : Field := ⟨0x128, 63, 16, 0x8⟩
def MC_FRAMENOW_OFFSET : Field := ⟨0x128, 15, 0, 0x8⟩
/-- MC_SR, R249. -/
def MC_SR : Field := ⟨0x130, 63, 0, 0x8⟩
def MC_SR_IN_SR : Field := ⟨0x130, 63, 63, 0x8⟩
def MC_SR_IDLE : Field := ⟨0x130, 15, 0, 0x8⟩
/-- MC_SCRUB, R249. -/
def MC_SCRUB : Field := ⟨0x138, 63, 0, 0x8⟩
def MC_SCRUB_EN : Field := ⟨0x138, 63, 63, 0x8⟩
def MC_SCRUB_PERIOD : Field := ⟨0x138, 55, 48, 0x8⟩
def MC_SCRUB_PASSES : Field := ⟨0x138, 47, 32, 0x8⟩
def MC_SCRUB_POS : Field := ⟨0x138, 30, 0, 0x8⟩
/-- MC_ECC, R249. -/
def MC_ECC : Field := ⟨0x140, 63, 0, 0x8⟩
/-- MC_FREEZE, R249. -/
def MC_FREEZE : Field := ⟨0x148, 63, 0, 0x8⟩
def MC_FREEZE_TIMEOUT : Field := ⟨0x148, 31, 0, 0x8⟩
/-- MC_FREEZE_CTL, R249. -/
def MC_FREEZE_CTL : Field := ⟨0x150, 63, 0, 0x8⟩
def MC_FREEZE_CTL_MODE : Field := ⟨0x150, 1, 0, 0x8⟩
/-- MC_INJECT, R249. -/
def MC_INJECT : Field := ⟨0x158, 63, 0, 0x8⟩
def MC_INJECT_ARM : Field := ⟨0x158, 63, 63, 0x8⟩
def MC_INJECT_KIND : Field := ⟨0x158, 62, 60, 0x8⟩
def MC_INJECT_ADDR : Field := ⟨0x158, 51, 6, 0x8⟩
/-- MC_MIRROR, R249. -/
def MC_MIRROR : Field := ⟨0x160, 63, 0, 0x8⟩
def MC_MIRROR_RESYNC : Field := ⟨0x160, 63, 63, 0x8⟩
def MC_MIRROR_OVERFLOW : Field := ⟨0x160, 62, 62, 0x8⟩
def MC_MIRROR_LIST : Field := ⟨0x160, 12, 0, 0x8⟩
/-- MC_FF_STATUS, R250. -/
def MC_FF_STATUS : Field := ⟨0x100, 63, 0, 0x8⟩
def MC_FF_STATUS_VALID : Field := ⟨0x100, 63, 63, 0x8⟩
def MC_FF_STATUS_CAUSE : Field := ⟨0x100, 62, 61, 0x8⟩
def MC_FF_STATUS_LAST : Field := ⟨0x100, 60, 59, 0x8⟩
def MC_FF_STATUS_TIMEDOUT : Field := ⟨0x100, 58, 58, 0x8⟩
def MC_FF_STATUS_COUNT : Field := ⟨0x100, 47, 32, 0x8⟩
def MC_FF_STATUS_DROPPED : Field := ⟨0x100, 31, 0, 0x8⟩
/-- MC_FF_ADDR, R250. -/
def MC_FF_ADDR : Field := ⟨0x110, 63, 0, 0x8⟩
def MC_FF_ADDR_ADDR : Field := ⟨0x110, 51, 6, 0x8⟩
def MC_FF_ADDR_SUB : Field := ⟨0x110, 5, 5, 0x8⟩
/-- MC_JRNL, R250. -/
def MC_JRNL : Field := ⟨0x128, 63, 0, 0x8⟩
def MC_JRNL_WRITES : Field := ⟨0x128, 40, 32, 0x8⟩
def MC_JRNL_READS : Field := ⟨0x128, 22, 16, 0x8⟩
def MC_JRNL_CMDS : Field := ⟨0x128, 6, 0, 0x8⟩
/-- MC_FF_CMD, R250. -/
def MC_FF_CMD : Field := ⟨0x200, 63, 0, 0x8⟩
def MC_FF_CMD_DCLK : Field := ⟨0x200, 63, 40, 0x8⟩
def MC_FF_CMD_SUB : Field := ⟨0x200, 39, 39, 0x8⟩
def MC_FF_CMD_RANK : Field := ⟨0x200, 38, 38, 0x8⟩
def MC_FF_CMD_CID : Field := ⟨0x200, 37, 36, 0x8⟩
def MC_FF_CMD_KIND : Field := ⟨0x200, 35, 32, 0x8⟩
def MC_FF_CMD_BG : Field := ⟨0x200, 31, 29, 0x8⟩
def MC_FF_CMD_BANK : Field := ⟨0x200, 28, 27, 0x8⟩
def MC_FF_CMD_CLASS_TAG : Field := ⟨0x200, 26, 18, 0x8⟩
def MC_FF_CMD_ARG : Field := ⟨0x200, 17, 0, 0x8⟩
/-- MC_FF_TIME, R250. -/
def MC_FF_TIME : Field := ⟨0x108, 63, 0, 0x8⟩
/-- MC_FF_SYND, R250. -/
def MC_FF_SYND : Field := ⟨0x118, 63, 0, 0x8⟩
/-- PHY_CTL, R251. -/
def PHY_CTL : Field := ⟨0x100, 63, 0, 0x8⟩
def PHY_CTL_PEND : Field := ⟨0x100, 1, 1, 0x8⟩
def PHY_CTL_APPLY : Field := ⟨0x100, 0, 0, 0x8⟩
/-- PHY_LANE, R251. -/
def PHY_LANE : Field := ⟨0x200, 63, 0, 0x8⟩
def PHY_LANE_VREF : Field := ⟨0x200, 23, 16, 0x8⟩
def PHY_LANE_TXDLY : Field := ⟨0x200, 15, 8, 0x8⟩
def PHY_LANE_RXDLY : Field := ⟨0x200, 7, 0, 0x8⟩
/-- PHY_DQS, R251. -/
def PHY_DQS : Field := ⟨0x400, 63, 0, 0x8⟩
def PHY_DQS_RDEN_C : Field := ⟨0x400, 23, 16, 0x8⟩
def PHY_DQS_RDEN_F : Field := ⟨0x400, 15, 8, 0x8⟩
def PHY_DQS_TXDLY : Field := ⟨0x400, 7, 0, 0x8⟩
/-- PHY_CA, R251. -/
def PHY_CA : Field := ⟨0x500, 63, 0, 0x8⟩
def PHY_CA_DLY : Field := ⟨0x500, 7, 0, 0x8⟩
/-- PHY_CS, R251. -/
def PHY_CS : Field := ⟨0x580, 63, 0, 0x8⟩
def PHY_CS_DLY : Field := ⟨0x580, 7, 0, 0x8⟩
/-- DE_CTL, R289. -/
def DE_CTL : Field := ⟨0x100, 63, 0, 0x8⟩
def DE_CTL_DEBUG : Field := ⟨0x100, 1, 1, 0x8⟩
def DE_CTL_EN : Field := ⟨0x100, 0, 0, 0x8⟩
/-- DE_STATE, R289. -/
def DE_STATE : Field := ⟨0x108, 63, 0, 0x8⟩
def DE_STATE_STATE : Field := ⟨0x108, 63, 60, 0x8⟩
def DE_STATE_CLASS : Field := ⟨0x108, 59, 56, 0x8⟩
def DE_STATE_TENANT : Field := ⟨0x108, 55, 44, 0x8⟩
def DE_STATE_HALTPC : Field := ⟨0x108, 15, 2, 0x8⟩
/-- DE_HCTX, R289. -/
def DE_HCTX : Field := ⟨0x110, 63, 0, 0x8⟩
def DE_HCTX_CLASS : Field := ⟨0x110, 15, 12, 0x8⟩
def DE_HCTX_TENANT : Field := ⟨0x110, 11, 0, 0x8⟩
/-- DE_HALT, R289. -/
def DE_HALT : Field := ⟨0x118, 63, 0, 0x8⟩
def DE_HALT_RESUME : Field := ⟨0x118, 63, 63, 0x8⟩
def DE_HALT_CAUSE : Field := ⟨0x118, 7, 0, 0x8⟩
/-- TQ_CTL, R340. -/
def TQ_CTL : Field := ⟨0x100, 63, 0, 0x8⟩
def TQ_CTL_STEAL_EN : Field := ⟨0x100, 1, 1, 0x8⟩
def TQ_CTL_EN : Field := ⟨0x100, 0, 0, 0x8⟩
/-- TQ_ALLOW, R340. -/
def TQ_ALLOW : Field := ⟨0x108, 63, 0, 0x8⟩
def TQ_ALLOW_CLASSES : Field := ⟨0x108, 15, 0, 0x8⟩
/-- TQ_SHARE, R340. -/
def TQ_SHARE : Field := ⟨0x110, 63, 0, 0x8⟩
/-- TQ_COUNT, R340. -/
def TQ_COUNT : Field := ⟨0x120, 63, 0, 0x8⟩
/-- TQ_STEAL, R340. -/
def TQ_STEAL : Field := ⟨0x130, 63, 0, 0x8⟩
def TQ_STEAL_BACKOFF : Field := ⟨0x130, 63, 56, 0x8⟩
def TQ_STEAL_TAKEN : Field := ⟨0x130, 47, 0, 0x8⟩
/-- TQ_STEALGRP0, R340. -/
def TQ_STEALGRP0 : Field := ⟨0x138, 63, 0, 0x8⟩
/-- TQ_STEALGRP1, R340. -/
def TQ_STEALGRP1 : Field := ⟨0x140, 63, 0, 0x8⟩
def TQ_STEALGRP1_MEMBERS : Field := ⟨0x140, 31, 0, 0x8⟩
/-- TQ_RUNNING, R340. -/
def TQ_RUNNING : Field := ⟨0x148, 63, 0, 0x8⟩
def TQ_RUNNING_VALID : Field := ⟨0x148, 63, 63, 0x8⟩
def TQ_RUNNING_TENANT : Field := ⟨0x148, 47, 36, 0x8⟩
def TQ_RUNNING_CLASS : Field := ⟨0x148, 35, 32, 0x8⟩
def TQ_RUNNING_TAG : Field := ⟨0x148, 31, 0, 0x8⟩
/-- TQ_REISSUE, R340. -/
def TQ_REISSUE : Field := ⟨0x150, 63, 0, 0x8⟩
def TQ_REISSUE_COUNT : Field := ⟨0x150, 47, 0, 0x8⟩
/-- TQ_SPILL_BASE, R341. -/
def TQ_SPILL_BASE : Field := ⟨0x200, 63, 0, 0x20⟩
def TQ_SPILL_BASE_BASE : Field := ⟨0x200, 51, 6, 0x20⟩
/-- TQ_SPILL_CTL, R341. -/
def TQ_SPILL_CTL : Field := ⟨0x208, 63, 0, 0x20⟩
def TQ_SPILL_CTL_EN : Field := ⟨0x208, 63, 63, 0x20⟩
def TQ_SPILL_CTL_KEY : Field := ⟨0x208, 27, 16, 0x20⟩
def TQ_SPILL_CTL_LOG : Field := ⟨0x208, 4, 0, 0x20⟩
/-- TQ_SPILL_HEAD, R341. -/
def TQ_SPILL_HEAD : Field := ⟨0x210, 63, 0, 0x20⟩
def TQ_SPILL_HEAD_INDEX : Field := ⟨0x210, 31, 0, 0x20⟩
/-- TQ_SPILL_TAIL, R341. -/
def TQ_SPILL_TAIL : Field := ⟨0x218, 63, 0, 0x20⟩
def TQ_SPILL_TAIL_INDEX : Field := ⟨0x218, 31, 0, 0x20⟩
/-- DMA_CTL, R361. -/
def DMA_CTL : Field := ⟨0x100, 63, 0, 0x8⟩
def DMA_CTL_SCLASS : Field := ⟨0x100, 7, 4, 0x8⟩
def DMA_CTL_MODE : Field := ⟨0x100, 0, 0, 0x8⟩
/-- DMA_ENG_ERR, R361. -/
def DMA_ENG_ERR : Field := ⟨0x108, 63, 0, 0x8⟩
def DMA_ENG_ERR_VALID : Field := ⟨0x108, 63, 63, 0x8⟩
def DMA_ENG_ERR_WRITE : Field := ⟨0x108, 62, 62, 0x8⟩
def DMA_ENG_ERR_OVER : Field := ⟨0x108, 61, 61, 0x8⟩
def DMA_ENG_ERR_ADDR : Field := ⟨0x108, 51, 0, 0x8⟩
/-- DMA_CH_CTL, R362. -/
def DMA_CH_CTL : Field := ⟨0x100, 63, 0, 0x8⟩
def DMA_CH_CTL_EN : Field := ⟨0x100, 63, 63, 0x8⟩
def DMA_CH_CTL_SHARE : Field := ⟨0x100, 56, 48, 0x8⟩
def DMA_CH_CTL_BURST : Field := ⟨0x100, 44, 40, 0x8⟩
def DMA_CH_CTL_LOG : Field := ⟨0x100, 36, 32, 0x8⟩
/-- DMA_CH_TENANT, R362. -/
def DMA_CH_TENANT : Field := ⟨0x108, 63, 0, 0x8⟩
def DMA_CH_TENANT_TENANT : Field := ⟨0x108, 11, 0, 0x8⟩
/-- DMA_CH_RINGBASE, R362. -/
def DMA_CH_RINGBASE : Field := ⟨0x110, 63, 0, 0x8⟩
def DMA_CH_RINGBASE_BASE : Field := ⟨0x110, 63, 5, 0x8⟩
/-- DMA_DOORBELL, R362. -/
def DMA_DOORBELL : Field := ⟨0x118, 63, 0, 0x8⟩
def DMA_DOORBELL_TAIL : Field := ⟨0x118, 15, 0, 0x8⟩
/-- DMA_CH_STATUS, R362. -/
def DMA_CH_STATUS : Field := ⟨0x120, 63, 0, 0x8⟩
def DMA_CH_STATUS_STATE : Field := ⟨0x120, 63, 60, 0x8⟩
def DMA_CH_STATUS_CAUSE : Field := ⟨0x120, 59, 56, 0x8⟩
def DMA_CH_STATUS_NOTOWN : Field := ⟨0x120, 55, 55, 0x8⟩
def DMA_CH_STATUS_TAIL : Field := ⟨0x120, 31, 16, 0x8⟩
def DMA_CH_STATUS_HEAD : Field := ⟨0x120, 15, 0, 0x8⟩
/-- DMA_CH_REM, R362. -/
def DMA_CH_REM : Field := ⟨0x128, 63, 0, 0x8⟩
def DMA_CH_REM_REM : Field := ⟨0x128, 24, 0, 0x8⟩
/-- DMA_CH_SRC, R362. -/
def DMA_CH_SRC : Field := ⟨0x130, 63, 0, 0x8⟩
/-- DMA_CH_ERR, R362. -/
def DMA_CH_ERR : Field := ⟨0x148, 63, 0, 0x8⟩
def DMA_CH_ERR_VALID : Field := ⟨0x148, 63, 63, 0x8⟩
def DMA_CH_ERR_WRITE : Field := ⟨0x148, 62, 62, 0x8⟩
def DMA_CH_ERR_KIND : Field := ⟨0x148, 61, 60, 0x8⟩
def DMA_CH_ERR_ADDR : Field := ⟨0x148, 57, 0, 0x8⟩
/-- DMA_CH_RUN, R362. -/
def DMA_CH_RUN : Field := ⟨0x150, 63, 0, 0x8⟩
def DMA_CH_RUN_ABORT : Field := ⟨0x150, 2, 2, 0x8⟩
def DMA_CH_RUN_RESUME : Field := ⟨0x150, 1, 1, 0x8⟩
def DMA_CH_RUN_PAUSE : Field := ⟨0x150, 0, 0, 0x8⟩
/-- DMA_CH_IRQ, R362. -/
def DMA_CH_IRQ : Field := ⟨0x158, 63, 0, 0x8⟩
def DMA_CH_IRQ_DONE_EN : Field := ⟨0x158, 63, 63, 0x8⟩
def DMA_CH_IRQ_ERR_EN : Field := ⟨0x158, 62, 62, 0x8⟩
def DMA_CH_IRQ_DOMAIN : Field := ⟨0x158, 55, 48, 0x8⟩
def DMA_CH_IRQ_ERRSRC : Field := ⟨0x158, 46, 32, 0x8⟩
def DMA_CH_IRQ_DONESRC : Field := ⟨0x158, 14, 0, 0x8⟩
/-- DMA_CH_DONE, R362. -/
def DMA_CH_DONE : Field := ⟨0x160, 63, 0, 0x8⟩
def DMA_CH_DONE_COUNT : Field := ⟨0x160, 47, 0, 0x8⟩
/-- DMA_CH_DST, R362. -/
def DMA_CH_DST : Field := ⟨0x138, 63, 0, 0x8⟩
/-- DMA_CH_CRC, R362. -/
def DMA_CH_CRC : Field := ⟨0x140, 63, 0, 0x8⟩
/-- IRT_REFUSED, R386. -/
def IRT_REFUSED : Field := ⟨0x100, 63, 0, 0x8⟩
def IRT_REFUSED_COUNT : Field := ⟨0x100, 47, 0, 0x8⟩
/-- DOM_CTL, R386. -/
def DOM_CTL : Field := ⟨0x100, 63, 0, 0x10⟩
def DOM_CTL_EN : Field := ⟨0x100, 63, 63, 0x10⟩
def DOM_CTL_SECURE : Field := ⟨0x100, 62, 62, 0x10⟩
def DOM_CTL_ANYTEN : Field := ⟨0x100, 61, 61, 0x10⟩
def DOM_CTL_SCAN : Field := ⟨0x100, 60, 60, 0x10⟩
def DOM_CTL_CLASS : Field := ⟨0x100, 59, 56, 0x10⟩
def DOM_CTL_OWNER : Field := ⟨0x100, 55, 44, 0x10⟩
def DOM_CTL_G : Field := ⟨0x100, 43, 40, 0x10⟩
def DOM_CTL_SPRI : Field := ⟨0x100, 39, 32, 0x10⟩
def DOM_CTL_SSET : Field := ⟨0x100, 31, 23, 0x10⟩
/-- DOM_RANGE, R386. -/
def DOM_RANGE : Field := ⟨0x108, 63, 0, 0x10⟩
def DOM_RANGE_BASE : Field := ⟨0x108, 62, 48, 0x10⟩
def DOM_RANGE_COUNT : Field := ⟨0x108, 15, 0, 0x10⟩
/-- IRT_PEND, R386. -/
def IRT_PEND : Field := ⟨0x100, 63, 0, 0x8⟩
/-- TS_CTL, R386. -/
def TS_CTL : Field := ⟨0x100, 63, 0, 0x40⟩
def TS_CTL_KIND : Field := ⟨0x100, 63, 62, 0x40⟩
def TS_CTL_LEVEL : Field := ⟨0x100, 61, 58, 0x40⟩
def TS_CTL_ROUTE_WAKE : Field := ⟨0x100, 57, 57, 0x40⟩
def TS_CTL_CLASS : Field := ⟨0x100, 51, 48, 0x40⟩
def TS_CTL_RR : Field := ⟨0x100, 15, 0, 0x40⟩
/-- TS_MASK, R386. -/
def TS_MASK : Field := ⟨0x108, 63, 0, 0x40⟩
/-- SRC, R386. -/
def SRC : Field := ⟨0x100, 63, 0, 0x8⟩
/-- TGT_CTL, R387. -/
def TGT_CTL : Field := ⟨0x100, 63, 0, 0x8⟩
def TGT_CTL_EN : Field := ⟨0x100, 63, 63, 0x8⟩
def TGT_CTL_TENANT : Field := ⟨0x100, 59, 48, 0x8⟩
def TGT_CTL_THRESH : Field := ⟨0x100, 7, 0, 0x8⟩
/-- TGT_STATE, R387. -/
def TGT_STATE : Field := ⟨0x108, 63, 0, 0x8⟩
def TGT_STATE_AWAKE : Field := ⟨0x108, 63, 63, 0x8⟩
def TGT_STATE_PVALID : Field := ⟨0x108, 62, 62, 0x8⟩
def TGT_STATE_PSCAN : Field := ⟨0x108, 61, 61, 0x8⟩
def TGT_STATE_BADEOI : Field := ⟨0x108, 60, 60, 0x8⟩
def TGT_STATE_PSRC : Field := ⟨0x108, 46, 32, 0x8⟩
def TGT_STATE_PPRI : Field := ⟨0x108, 15, 8, 0x8⟩
def TGT_STATE_RUNPRI : Field := ⟨0x108, 7, 0, 0x8⟩
/-- TGT_CLAIM, R387. -/
def TGT_CLAIM : Field := ⟨0x110, 63, 0, 0x8⟩
def TGT_CLAIM_VALID : Field := ⟨0x110, 63, 63, 0x8⟩
def TGT_CLAIM_SCAN : Field := ⟨0x110, 62, 62, 0x8⟩
def TGT_CLAIM_PRI : Field := ⟨0x110, 47, 40, 0x8⟩
def TGT_CLAIM_SOURCE : Field := ⟨0x110, 14, 0, 0x8⟩
/-- TGT_EOI, R387. -/
def TGT_EOI : Field := ⟨0x118, 63, 0, 0x8⟩
def TGT_EOI_SOURCE : Field := ⟨0x118, 14, 0, 0x8⟩
/-- FP_CTL, R410. -/
def FP_CTL : Field := ⟨0x100, 63, 0, 0x8⟩
def FP_CTL_BIFUR : Field := ⟨0x100, 1, 0, 0x8⟩
/-- FP_EVENT, R410. -/
def FP_EVENT : Field := ⟨0x108, 63, 0, 0x8⟩
def FP_EVENT_VALID : Field := ⟨0x108, 63, 63, 0x8⟩
def FP_EVENT_OVER : Field := ⟨0x108, 62, 62, 0x8⟩
def FP_EVENT_KIND : Field := ⟨0x108, 61, 58, 0x8⟩
def FP_EVENT_LINK : Field := ⟨0x108, 57, 56, 0x8⟩
def FP_EVENT_WIN : Field := ⟨0x108, 55, 52, 0x8⟩
def FP_EVENT_RID : Field := ⟨0x108, 31, 16, 0x8⟩
/-- FP_ATSINV, R410. -/
def FP_ATSINV : Field := ⟨0x110, 63, 0, 0x8⟩
def FP_ATSINV_GO : Field := ⟨0x110, 63, 63, 0x8⟩
def FP_ATSINV_BUSY : Field := ⟨0x110, 62, 62, 0x8⟩
def FP_ATSINV_RESULT : Field := ⟨0x110, 61, 60, 0x8⟩
def FP_ATSINV_LINK : Field := ⟨0x110, 59, 58, 0x8⟩
def FP_ATSINV_PV : Field := ⟨0x110, 57, 57, 0x8⟩
def FP_ATSINV_PASID : Field := ⟨0x110, 56, 37, 0x8⟩
def FP_ATSINV_RID : Field := ⟨0x110, 15, 0, 0x8⟩
/-- FP_ATSINV_ADDR, R410. -/
def FP_ATSINV_ADDR : Field := ⟨0x118, 63, 0, 0x8⟩
def FP_ATSINV_ADDR_ADDR : Field := ⟨0x118, 63, 12, 0x8⟩
def FP_ATSINV_ADDR_SIZE : Field := ⟨0x118, 5, 0, 0x8⟩
/-- FP_PRQ, R410. -/
def FP_PRQ : Field := ⟨0x120, 63, 0, 0x8⟩
def FP_PRQ_EN : Field := ⟨0x120, 63, 63, 0x8⟩
def FP_PRQ_FULL : Field := ⟨0x120, 62, 62, 0x8⟩
def FP_PRQ_BASE : Field := ⟨0x120, 51, 12, 0x8⟩
def FP_PRQ_LOG : Field := ⟨0x120, 4, 0, 0x8⟩
/-- FP_PRGRESP, R410. -/
def FP_PRGRESP : Field := ⟨0x138, 63, 0, 0x8⟩
def FP_PRGRESP_CODE : Field := ⟨0x138, 63, 60, 0x8⟩
def FP_PRGRESP_PRGI : Field := ⟨0x138, 59, 51, 0x8⟩
def FP_PRGRESP_LINK : Field := ⟨0x138, 50, 49, 0x8⟩
def FP_PRGRESP_PV : Field := ⟨0x138, 48, 48, 0x8⟩
def FP_PRGRESP_PASID : Field := ⟨0x138, 47, 28, 0x8⟩
def FP_PRGRESP_RID : Field := ⟨0x138, 15, 0, 0x8⟩
/-- FP_WIN_BASE, R410. -/
def FP_WIN_BASE : Field := ⟨0x200, 63, 0, 0x10⟩
def FP_WIN_BASE_EN : Field := ⟨0x200, 63, 63, 0x10⟩
def FP_WIN_BASE_GONE : Field := ⟨0x200, 62, 62, 0x10⟩
def FP_WIN_BASE_HOLD : Field := ⟨0x200, 61, 61, 0x10⟩
def FP_WIN_BASE_HDMDB : Field := ⟨0x200, 60, 60, 0x10⟩
def FP_WIN_BASE_LINK : Field := ⟨0x200, 59, 58, 0x10⟩
def FP_WIN_BASE_BASE : Field := ⟨0x200, 51, 28, 0x10⟩
/-- FP_WIN_LIMIT, R410. -/
def FP_WIN_LIMIT : Field := ⟨0x208, 63, 0, 0x10⟩
def FP_WIN_LIMIT_LIMIT : Field := ⟨0x208, 51, 28, 0x10⟩
/-- FP_PRQ_HEAD, R410. -/
def FP_PRQ_HEAD : Field := ⟨0x128, 63, 0, 0x8⟩
def FP_PRQ_HEAD_INDEX : Field := ⟨0x128, 31, 0, 0x8⟩
/-- FP_PRQ_TAIL, R410. -/
def FP_PRQ_TAIL : Field := ⟨0x130, 63, 0, 0x8⟩
def FP_PRQ_TAIL_INDEX : Field := ⟨0x130, 31, 0, 0x8⟩
/-- FP_LNK_STATUS, R411. -/
def FP_LNK_STATUS : Field := ⟨0x100, 63, 0, 0x8⟩
def FP_LNK_STATUS_STATE : Field := ⟨0x100, 63, 61, 0x8⟩
def FP_LNK_STATUS_WIDTH : Field := ⟨0x100, 60, 58, 0x8⟩
def FP_LNK_STATUS_RATE : Field := ⟨0x100, 57, 55, 0x8⟩
def FP_LNK_STATUS_PRESENT : Field := ⟨0x100, 54, 54, 0x8⟩
def FP_LNK_STATUS_CXL : Field := ⟨0x100, 53, 53, 0x8⟩
def FP_LNK_STATUS_DEVTYPE : Field := ⟨0x100, 52, 51, 0x8⟩
/-- FP_LNK_CTL, R411. -/
def FP_LNK_CTL : Field := ⟨0x108, 63, 0, 0x8⟩
def FP_LNK_CTL_CLASS : Field := ⟨0x108, 11, 8, 0x8⟩
def FP_LNK_CTL_RELEASE : Field := ⟨0x108, 1, 1, 0x8⟩
def FP_LNK_CTL_DEPART : Field := ⟨0x108, 0, 0, 0x8⟩
/-- FP_FN, R411. -/
def FP_FN : Field := ⟨0x400, 63, 0, 0x8⟩
def FP_FN_VALID : Field := ⟨0x400, 63, 63, 0x8⟩
def FP_FN_ATS : Field := ⟨0x400, 62, 62, 0x8⟩
def FP_FN_PRI : Field := ⟨0x400, 61, 61, 0x8⟩
def FP_FN_PV : Field := ⟨0x400, 60, 60, 0x8⟩
def FP_FN_PASID : Field := ⟨0x400, 59, 40, 0x8⟩
def FP_FN_TENANT : Field := ⟨0x400, 39, 28, 0x8⟩
def FP_FN_RID : Field := ⟨0x400, 15, 0, 0x8⟩
/-- RAS_HEALTH, R443. -/
def RAS_HEALTH : Field := ⟨0x100, 63, 0, 0x8⟩
def RAS_HEALTH_SEQ : Field := ⟨0x100, 63, 32, 0x8⟩
def RAS_HEALTH_PLDMPEND : Field := ⟨0x100, 3, 3, 0x8⟩
def RAS_HEALTH_SERVICE : Field := ⟨0x100, 2, 2, 0x8⟩
def RAS_HEALTH_STATE : Field := ⟨0x100, 1, 0, 0x8⟩
/-- RAS_POLICY, R443. -/
def RAS_POLICY : Field := ⟨0x108, 63, 0, 0x8⟩
def RAS_POLICY_SLC_CE : Field := ⟨0x108, 63, 48, 0x8⟩
def RAS_POLICY_DE_MAX : Field := ⟨0x108, 47, 40, 0x8⟩
def RAS_POLICY_SLC_MAX : Field := ⟨0x108, 39, 32, 0x8⟩
def RAS_POLICY_MC_MAX : Field := ⟨0x108, 31, 28, 0x8⟩
def RAS_POLICY_CL_MAX : Field := ⟨0x108, 27, 24, 0x8⟩
def RAS_POLICY_DE_RETIRE : Field := ⟨0x108, 23, 20, 0x8⟩
def RAS_POLICY_CORE_RETIRE : Field := ⟨0x108, 19, 16, 0x8⟩
def RAS_POLICY_MIGRATE : Field := ⟨0x108, 1, 1, 0x8⟩
def RAS_POLICY_XSHARE : Field := ⟨0x108, 0, 0, 0x8⟩
/-- RAS_LOG_SEQ, R443. -/
def RAS_LOG_SEQ : Field := ⟨0x110, 63, 0, 0x8⟩
def RAS_LOG_SEQ_NEXT : Field := ⟨0x110, 31, 0, 0x8⟩
/-- RAS_LOG_ACK, R443. -/
def RAS_LOG_ACK : Field := ⟨0x118, 63, 0, 0x8⟩
def RAS_LOG_ACK_ACK : Field := ⟨0x118, 31, 0, 0x8⟩
/-- RAS_LOG_STAT, R443. -/
def RAS_LOG_STAT : Field := ⟨0x120, 63, 0, 0x8⟩
def RAS_LOG_STAT_CONT : Field := ⟨0x120, 63, 63, 0x8⟩
def RAS_LOG_STAT_FATAL : Field := ⟨0x120, 62, 62, 0x8⟩
def RAS_LOG_STAT_OVERWRITTEN : Field := ⟨0x120, 47, 0, 0x8⟩
/-- RAS_REQ, R443. -/
def RAS_REQ : Field := ⟨0x128, 63, 0, 0x8⟩
def RAS_REQ_KIND : Field := ⟨0x128, 63, 60, 0x8⟩
def RAS_REQ_NUMBER : Field := ⟨0x128, 15, 0, 0x8⟩
/-- RAS_REQ_STAT, R443. -/
def RAS_REQ_STAT : Field := ⟨0x130, 63, 0, 0x8⟩
def RAS_REQ_STAT_BUSY : Field := ⟨0x130, 63, 63, 0x8⟩
def RAS_REQ_STAT_RESULT : Field := ⟨0x130, 62, 60, 0x8⟩
def RAS_REQ_STAT_KIND : Field := ⟨0x130, 59, 56, 0x8⟩
def RAS_REQ_STAT_NUMBER : Field := ⟨0x130, 15, 0, 0x8⟩
/-- RAS_FATAL, R443. -/
def RAS_FATAL : Field := ⟨0x140, 63, 0, 0x8⟩
/-- CL_NEG_SLOT, R445. -/
def CL_NEG_SLOT : Field := ⟨0x100, 63, 0, 0x8⟩
def CL_NEG_SLOT_VALID : Field := ⟨0x100, 63, 63, 0x8⟩
def CL_NEG_SLOT_PARKED : Field := ⟨0x100, 62, 62, 0x8⟩
def CL_NEG_SLOT_LOST : Field := ⟨0x100, 61, 61, 0x8⟩
def CL_NEG_SLOT_HART : Field := ⟨0x100, 15, 0, 0x8⟩
/-- CL_NEG_ADDR, R445. -/
def CL_NEG_ADDR : Field := ⟨0x140, 63, 0, 0x8⟩
def CL_NEG_ADDR_ADDR : Field := ⟨0x140, 15, 3, 0x8⟩
/-- CL_NEG_DATA, R445. -/
def CL_NEG_DATA : Field := ⟨0x148, 63, 0, 0x8⟩
/-- AON_TIME, R476. -/
def AON_TIME : Field := ⟨0x100, 63, 0, 0x8⟩
/-- AON_SUPPLY, R476. -/
def AON_SUPPLY : Field := ⟨0x108, 63, 0, 0x8⟩
def AON_SUPPLY_VIN_WARN : Field := ⟨0x108, 63, 63, 0x8⟩
def AON_SUPPLY_AON_WARN : Field := ⟨0x108, 62, 62, 0x8⟩
def AON_SUPPLY_STRETCH : Field := ⟨0x108, 61, 61, 0x8⟩
def AON_SUPPLY_AONDIPS : Field := ⟨0x108, 47, 32, 0x8⟩
def AON_SUPPLY_VINDIPS : Field := ⟨0x108, 31, 0, 0x8⟩
/-- AON_RESETCAUSE, R496. -/
def AON_RESETCAUSE : Field := ⟨0x110, 63, 0, 0x8⟩
def AON_RESETCAUSE_WARMS : Field := ⟨0x110, 47, 32, 0x8⟩
def AON_RESETCAUSE_WARDS : Field := ⟨0x110, 31, 16, 0x8⟩
def AON_RESETCAUSE_COLD_PWRGOOD : Field := ⟨0x110, 7, 7, 0x8⟩
def AON_RESETCAUSE_COLD_VIN : Field := ⟨0x110, 6, 6, 0x8⟩
def AON_RESETCAUSE_COLD_AON : Field := ⟨0x110, 5, 5, 0x8⟩
def AON_RESETCAUSE_WARM_PIN : Field := ⟨0x110, 4, 4, 0x8⟩
def AON_RESETCAUSE_WARM_SW : Field := ⟨0x110, 3, 3, 0x8⟩
def AON_RESETCAUSE_WARD_WDOG : Field := ⟨0x110, 2, 2, 0x8⟩
def AON_RESETCAUSE_WARD_SW : Field := ⟨0x110, 1, 1, 0x8⟩
/-- PWR_PKG, R477. -/
def PWR_PKG : Field := ⟨0x100, 63, 0, 0x8⟩
def PWR_PKG_ARM : Field := ⟨0x100, 63, 63, 0x8⟩
def PWR_PKG_ASLEEP : Field := ⟨0x100, 62, 62, 0x8⟩
def PWR_PKG_RESULT : Field := ⟨0x100, 61, 60, 0x8⟩
def PWR_PKG_STEP : Field := ⟨0x100, 59, 56, 0x8⟩
/-- PWR_SEQ, R478. -/
def PWR_SEQ : Field := ⟨0x108, 63, 0, 0x8⟩
def PWR_SEQ_RAMP : Field := ⟨0x108, 59, 48, 0x8⟩
def PWR_SEQ_BIAS : Field := ⟨0x108, 47, 36, 0x8⟩
def PWR_SEQ_CLK : Field := ⟨0x108, 35, 24, 0x8⟩
def PWR_SEQ_RST : Field := ⟨0x108, 23, 12, 0x8⟩
def PWR_SEQ_RESTORE : Field := ⟨0x108, 11, 0, 0x8⟩
/-- PWR_FREQ, R479. -/
def PWR_FREQ : Field := ⟨0x200, 63, 0, 0x8⟩
def PWR_FREQ_PEND : Field := ⟨0x200, 32, 32, 0x8⟩
def PWR_FREQ_CAP : Field := ⟨0x200, 31, 24, 0x8⟩
def PWR_FREQ_CUR : Field := ⟨0x200, 15, 8, 0x8⟩
def PWR_FREQ_REQ : Field := ⟨0x200, 7, 0, 0x8⟩
/-- PWR_VF, R479. -/
def PWR_VF : Field := ⟨0xe00, 63, 0, 0x8⟩
def PWR_VF_ASSIST : Field := ⟨0xe00, 18, 18, 0x8⟩
def PWR_VF_BIAS : Field := ⟨0xe00, 17, 16, 0x8⟩
def PWR_VF_MV : Field := ⟨0xe00, 15, 0, 0x8⟩
/-- PWR_RESET, R497. -/
def PWR_RESET : Field := ⟨0x130, 63, 0, 0x8⟩
def PWR_RESET_WARM : Field := ⟨0x130, 1, 1, 0x8⟩
def PWR_RESET_WARD : Field := ⟨0x130, 0, 0, 0x8⟩
/-- PWR_BOOT, R497. -/
def PWR_BOOT : Field := ⟨0x138, 63, 0, 0x8⟩
def PWR_BOOT_STAGE : Field := ⟨0x138, 63, 60, 0x8⟩
def PWR_BOOT_IMAGE : Field := ⟨0x138, 59, 58, 0x8⟩
def PWR_BOOT_RELEASED : Field := ⟨0x138, 57, 57, 0x8⟩
def PWR_BOOT_OPEN : Field := ⟨0x138, 56, 56, 0x8⟩
def PWR_BOOT_BOOTCH : Field := ⟨0x138, 55, 52, 0x8⟩
def PWR_BOOT_MCREADY : Field := ⟨0x138, 47, 32, 0x8⟩
def PWR_BOOT_CLREADY : Field := ⟨0x138, 6, 0, 0x8⟩
/-- THM_CTL, R480. -/
def THM_CTL : Field := ⟨0x100, 63, 0, 0x8⟩
def THM_CTL_THROTTLE : Field := ⟨0x100, 63, 56, 0x8⟩
def THM_CTL_ALERT : Field := ⟨0x100, 55, 48, 0x8⟩
def THM_CTL_PROCHOT_FREQ : Field := ⟨0x100, 47, 40, 0x8⟩
/-- THM_STATUS, R480. -/
def THM_STATUS : Field := ⟨0x108, 63, 0, 0x8⟩
def THM_STATUS_TRIPPED : Field := ⟨0x108, 63, 63, 0x8⟩
def THM_STATUS_PROCHOT_IN : Field := ⟨0x108, 62, 62, 0x8⟩
def THM_STATUS_PROCHOT_OUT : Field := ⟨0x108, 61, 61, 0x8⟩
def THM_STATUS_TRIPLOGGED : Field := ⟨0x108, 60, 60, 0x8⟩
def THM_STATUS_HOTDIE : Field := ⟨0x108, 59, 54, 0x8⟩
def THM_STATUS_TRIPSENSOR : Field := ⟨0x108, 47, 32, 0x8⟩
def THM_STATUS_MAXT : Field := ⟨0x108, 15, 0, 0x8⟩
/-- THM_CAP, R480. -/
def THM_CAP : Field := ⟨0x110, 63, 0, 0x8⟩
/-- THM_SENSE, R480. -/
def THM_SENSE : Field := ⟨0x200, 63, 0, 0x8⟩
def THM_SENSE_VALID : Field := ⟨0x200, 63, 63, 0x8⟩
def THM_SENSE_TEMP : Field := ⟨0x200, 15, 0, 0x8⟩
/-- CNT_CTL, R506. -/
def CNT_CTL : Field := ⟨0xe00, 63, 0, 0x8⟩
def CNT_CTL_FREEZE : Field := ⟨0xe00, 0, 0, 0x8⟩
/-- CNT_STATUS, R506. -/
def CNT_STATUS : Field := ⟨0xe08, 63, 0, 0x8⟩
def CNT_STATUS_BLIND : Field := ⟨0xe08, 15, 8, 0x8⟩
def CNT_STATUS_OVF : Field := ⟨0xe08, 7, 0, 0x8⟩
/-- CNT_SEL, R506. -/
def CNT_SEL : Field := ⟨0xe40, 63, 0, 0x10⟩
def CNT_SEL_EN : Field := ⟨0xe40, 63, 63, 0x10⟩
def CNT_SEL_OVFIRQ : Field := ⟨0xe40, 62, 62, 0x10⟩
def CNT_SEL_CLASSEN : Field := ⟨0xe40, 56, 56, 0x10⟩
def CNT_SEL_CLASS : Field := ⟨0xe40, 55, 52, 0x10⟩
def CNT_SEL_CMASK : Field := ⟨0xe40, 27, 24, 0x10⟩
def CNT_SEL_EDGE : Field := ⟨0xe40, 23, 23, 0x10⟩
def CNT_SEL_UMASK : Field := ⟨0xe40, 15, 8, 0x10⟩
def CNT_SEL_EVENT : Field := ⟨0xe40, 7, 0, 0x10⟩
/-- CNT_VAL, R506. -/
def CNT_VAL : Field := ⟨0xe48, 63, 0, 0x10⟩
def CNT_VAL_COUNT : Field := ⟨0xe48, 47, 0, 0x10⟩
/-- BOLT_DMACH, R92. -/
def BOLT_DMACH : Field := ⟨0x100, 63, 0, 0x8⟩
/-- BOLT_SRC, R92. -/
def BOLT_SRC : Field := ⟨0x100, 63, 0, 0x8⟩
/-- RAS_CORE_RET, R444. -/
def RAS_CORE_RET : Field := ⟨0x100, 63, 0, 0x8⟩
/-- RAS_CL_RET, R444. -/
def RAS_CL_RET : Field := ⟨0x130, 63, 0, 0x8⟩
/-- RAS_SLC_RET, R444. -/
def RAS_SLC_RET : Field := ⟨0x140, 63, 0, 0x8⟩
/-- RAS_DE_RET, R444. -/
def RAS_DE_RET : Field := ⟨0x150, 63, 0, 0x8⟩
/-- RAS_MC_RET, R444. -/
def RAS_MC_RET : Field := ⟨0x160, 63, 0, 0x8⟩
def RAS_MC_RET_MAP : Field := ⟨0x160, 15, 0, 0x8⟩
/-- RAS_PARK, R444. -/
def RAS_PARK : Field := ⟨0x180, 63, 0, 0x8⟩
/-- IRT_OVR, R386. -/
def IRT_OVR : Field := ⟨0x100, 63, 0, 0x8⟩
-- fields that repeat inside one register
def SLC_FILLSHARE_SHARE : Field := ⟨0x110, 5, 0, 8⟩
def MC_WINSHARE_SHARE : Field := ⟨0x108, 5, 0, 8⟩
def MC_BGMASK_MASK : Field := ⟨0x118, 7, 0, 8⟩
def TQ_SHARE_SHARE : Field := ⟨0x110, 7, 0, 8⟩
/-- FAILED of plane p, direction d in MS_LINK (R176). -/
def MS_LINK_FAILED (p d : Nat) : Field := ⟨0x420 + 8 * p, 16 * d + 15, 16 * d + 15, 8⟩
/-- SPARES of plane p, direction d in MS_LINK (R176). -/
def MS_LINK_SPARES (p d : Nat) : Field := ⟨0x420 + 8 * p, 16 * d + 14, 16 * d + 11, 8⟩
/-- AUTO of MC_ECC (R236, R249). -/
def MC_ECC_AUTO : Field := ⟨0x140, 63, 63, 8⟩
/-- THRESH of MC_ECC (R236, R249). -/
def MC_ECC_THRESH : Field := ⟨0x140, 55, 48, 8⟩
/-- VALID of slot k in MC_ECC (R249). -/
def MC_ECC_VALID (k : Nat) : Field := ⟨0x140, 5 * k + 4, 5 * k + 4, 8⟩
/-- DEV of slot k in MC_ECC (R249). -/
def MC_ECC_DEV (k : Nat) : Field := ⟨0x140, 5 * k + 3, 5 * k, 8⟩
/-- CAP of die d in THM_CAP (R480). -/
def THM_CAP_CAP (d : Nat) : Field := ⟨0x110, 8 * d + 7, 8 * d, 8⟩

end R

end Sys2Proof.Machine
end

