-- ==== Sys2Proof/Machine/RegTable.lean ====
section
/-! DEFINITION. The register field tables of the manual, one row per register: its offset in the page, how many
instances it has and how far apart, and every field with its bits, access code (R9) and reset value (R11). A field
whose reset value the manual gives by position (Per page, Per stop ...) is listed with 0 here and computed in Reg.lean. -/

namespace Sys2Proof.Machine

/-- The access codes of R9. -/
inductive Acc where
  | rw | ro | w1c | w1s | rc | wo | rwb
  deriving DecidableEq, Repr

/-- One row of a field table: bits hi..lo, access code, reset value (R4, R9, R11). -/
structure FieldRow where
  hi : Nat
  lo : Nat
  acc : Acc
  reset : Nat
  deriving DecidableEq, Repr

/-- One register of a page: offset, number of instances, distance between them, fields. -/
structure RegRow where
  off : Nat
  count : Nat
  stride : Nat
  fields : List FieldRow
  deriving DecidableEq, Repr

/-- The whole register is one field of this access code and reset value. -/
def allBits (acc : Acc) (reset : Nat) : List FieldRow := [⟨63, 0, acc, reset⟩]

/-- The common header (R42-R51). -/
def headerRegs : List RegRow := [
  -- PG_ID (R42)
  ⟨0x0, 1, 0x8, [⟨63, 52, .ro, 0⟩, ⟨51, 40, .ro, 0⟩, ⟨39, 32, .ro, 2⟩, ⟨31, 24, .ro, 0⟩, ⟨23, 16, .ro, 0⟩]⟩,
  -- PG_STATUS (R43)
  ⟨0x8, 1, 0x8, [⟨8, 8, .rc, 0⟩, ⟨7, 7, .ro, 0⟩, ⟨6, 6, .ro, 0⟩, ⟨5, 5, .ro, 0⟩, ⟨4, 4, .ro, 0⟩, ⟨3, 3, .ro, 0⟩, ⟨2, 2, .ro, 0⟩, ⟨1, 1, .rc, 0⟩, ⟨0, 0, .ro, 0⟩]⟩,
  -- PG_FAULT (R45)
  ⟨0x10, 1, 0x8, [⟨6, 6, .w1c, 0⟩, ⟨5, 5, .w1c, 0⟩, ⟨4, 4, .w1c, 0⟩, ⟨3, 3, .w1c, 0⟩, ⟨2, 2, .w1c, 0⟩, ⟨1, 1, .w1c, 0⟩, ⟨0, 0, .w1c, 0⟩]⟩,
  -- PG_FAULT_INFO (R46)
  ⟨0x18, 1, 0x8, [⟨63, 60, .ro, 0⟩, ⟨59, 56, .ro, 0⟩, ⟨55, 44, .ro, 0⟩, ⟨43, 40, .ro, 0⟩, ⟨39, 24, .ro, 0⟩, ⟨11, 3, .ro, 0⟩, ⟨2, 2, .ro, 0⟩, ⟨1, 1, .ro, 0⟩, ⟨0, 0, .ro, 0⟩]⟩,
  -- PG_BOLT (R47)
  ⟨0x20, 1, 0x8, [⟨63, 63, .ro, 0⟩, ⟨62, 62, .rwb, 0⟩, ⟨27, 16, .rwb, 0⟩, ⟨15, 12, .rwb, 0⟩]⟩,
  -- PG_POWER (R48)
  ⟨0x28, 1, 0x8, [⟨15, 12, .rw, 0⟩, ⟨11, 8, .ro, 0⟩, ⟨0, 0, .ro, 0⟩]⟩,
  -- PG_RESET (R49)
  ⟨0x30, 1, 0x8, [⟨8, 8, .rw, 0⟩, ⟨1, 1, .ro, 0⟩, ⟨0, 0, .wo, 0⟩]⟩,
  -- PG_CNT_BASE (R50)
  ⟨0x38, 1, 0x8, [⟨51, 3, .ro, 0⟩]⟩,
  -- PG_REC_NEW (R51)
  ⟨0x40, 4, 0x8, [⟨63, 0, .ro, 0⟩]⟩,
  -- PG_REC_OLD (R51)
  ⟨0x60, 4, 0x8, [⟨63, 0, .ro, 0⟩]⟩]

/-- Block-specific registers of block HINGE. -/
def hingeRegs : List RegRow := [
  -- KW_PRESENT (R64)
  ⟨0x100, 4, 0x8, [⟨63, 0, .ro, 0⟩]⟩,
  -- KW_STALE (R64)
  ⟨0x120, 1, 0x8, [⟨47, 0, .ro, 0⟩]⟩,
  -- KW_HOLD (R99)
  ⟨0x128, 1, 0x8, [⟨7, 0, .rw, 0⟩]⟩]

/-- Block-specific registers of block TCT. -/
def tctRegs : List RegRow := [
  -- TCT_ENTRY (R72)
  ⟨0x100, 256, 0x8, [⟨63, 63, .rw, 0⟩, ⟨62, 62, .rw, 0⟩, ⟨61, 61, .rw, 0⟩, ⟨60, 60, .rw, 0⟩, ⟨33, 28, .rw, 0⟩, ⟨27, 16, .rw, 0⟩, ⟨3, 0, .rw, 0⟩]⟩]

/-- Block-specific registers of block TCT0. -/
def tct0Regs : List RegRow := [
  -- TCT_SYNC (R73)
  ⟨0x900, 1, 0x8, [⟨63, 63, .ro, 0⟩, ⟨62, 0, .ro, 0⟩]⟩,
  -- TCT_CTXBASE (R73)
  ⟨0x908, 1, 0x8, [⟨51, 18, .rw, 0⟩, ⟨0, 0, .rw, 0⟩]⟩,
  -- TCT_APERTURE (R73)
  ⟨0xa00, 64, 0x8, [⟨63, 56, .rw, 0⟩, ⟨55, 53, .rw, 0⟩]⟩]

/-- Block-specific registers of block MBX. -/
def mbxRegs : List RegRow := [
  -- WARD_MBX_STATUS (R85)
  ⟨0x100, 1, 0x8, [⟨63, 60, .ro, 0⟩, ⟨59, 59, .w1c, 0⟩, ⟨47, 32, .ro, 0⟩, ⟨15, 0, .ro, 0⟩]⟩,
  -- WARD_MBX_DOORBELL (R85)
  ⟨0x108, 1, 0x8, [⟨15, 0, .wo, 0⟩]⟩,
  -- WARD_MBX_ASSIGN (R85)
  ⟨0x110, 1, 0x8, [⟨63, 63, .ro, 0⟩, ⟨62, 60, .ro, 0⟩, ⟨27, 16, .ro, 0⟩]⟩,
  -- WARD_MBX_IN (R85)
  ⟨0x200, 32, 0x8, [⟨63, 0, .rw, 0⟩]⟩,
  -- WARD_MBX_OUT (R85)
  ⟨0x300, 32, 0x8, [⟨63, 0, .ro, 0⟩]⟩]

/-- Block-specific registers of block BOLT0. -/
def bolt0Regs : List RegRow := [
  -- BOLT_CTL (R93)
  ⟨0x100, 1, 0x8, [⟨0, 0, .w1s, 0⟩]⟩,
  -- BOLT_SLOTCLASS (R93)
  ⟨0x108, 1, 0x8, [⟨15, 15, .ro, 1⟩, ⟨14, 0, .rwb, 0⟩]⟩,
  -- BOLT_DOMAIN (R92)
  ⟨0x110, 4, 0x8, [⟨63, 0, .rwb, 0⟩]⟩,
  -- BOLT_FP (R92)
  ⟨0x140, 8, 0x8, [⟨3, 0, .rwb, 0⟩]⟩]

/-- Block-specific registers of block BOLT45. -/
def bolt45Regs : List RegRow := [
  -- BOLT_CARVE_BASE (R93)
  ⟨0x100, 128, 0x10, [⟨63, 63, .rwb, 0⟩, ⟨51, 16, .rwb, 0⟩]⟩,
  -- BOLT_CARVE_LIMIT (R93)
  ⟨0x108, 128, 0x10, [⟨51, 16, .rwb, 0⟩]⟩]

/-- Block-specific registers of block BOLT6. -/
def bolt6Regs : List RegRow := [
  -- SL_GRANT (R103)
  ⟨0x100, 1, 0x8, [⟨63, 63, .rw, 0⟩, ⟨62, 62, .rw, 0⟩, ⟨15, 0, .rw, 0⟩]⟩,
  -- SL_GRANT_EXPIRY (R103)
  ⟨0x108, 1, 0x8, [⟨63, 0, .rw, 0⟩]⟩]

/-- Block-specific registers of block CORE. -/
def coreRegs : List RegRow := [
  -- CORE_RESETVEC (R119)
  ⟨0x100, 1, 0x8, [⟨51, 2, .rw, 0⟩]⟩,
  -- CORE_RUN (R119)
  ⟨0x108, 1, 0x8, [⟨63, 63, .ro, 0⟩, ⟨62, 62, .ro, 0⟩, ⟨31, 16, .ro, 0⟩, ⟨15, 0, .ro, 0⟩]⟩,
  -- CORE_EPOCH (R119)
  ⟨0x110, 1, 0x8, [⟨62, 60, .ro, 0⟩, ⟨47, 0, .ro, 0⟩]⟩,
  -- CORE_INJECT (R119)
  ⟨0x118, 1, 0x8, [⟨3, 0, .wo, 0⟩]⟩,
  -- CORE_MTIMECMP (R120)
  ⟨0x120, 1, 0x8, [⟨63, 0, .rw, 0xffffffffffffffff⟩]⟩,
  -- CORE_MTIMECMP1 (R120)
  ⟨0x128, 1, 0x8, [⟨63, 0, .rw, 0xffffffffffffffff⟩]⟩]

/-- Block-specific registers of block MESHSTOP. -/
def meshstopRegs : List RegRow := [
  -- MS_SLOT (R158)
  ⟨0x100, 96, 0x8, [⟨63, 63, .ro, 1⟩, ⟨59, 56, .ro, 0⟩, ⟨55, 52, .ro, 0⟩, ⟨51, 48, .ro, 0⟩, ⟨21, 12, .ro, 0⟩, ⟨11, 0, .ro, 0⟩]⟩,
  -- MS_SLOTNOW (R176)
  ⟨0x400, 1, 0x8, [⟨63, 16, .ro, 0⟩, ⟨13, 8, .ro, 0⟩, ⟨4, 0, .ro, 0⟩]⟩,
  -- MS_SCHED (R176)
  ⟨0x408, 1, 0x8, [⟨30, 24, .ro, 0x3c⟩, ⟨16, 16, .ro, 0⟩, ⟨15, 0, .ro, 0⟩]⟩,
  -- MS_RETRY (R176)
  ⟨0x410, 1, 0x8, [⟨63, 56, .rwb, 8⟩, ⟨47, 0, .ro, 0⟩]⟩,
  -- MS_CORR (R176)
  ⟨0x418, 1, 0x8, [⟨47, 0, .ro, 0⟩]⟩,
  -- MS_LINK (R176)
  ⟨0x420, 4, 0x8, [⟨15, 15, .ro, 0⟩, ⟨31, 31, .ro, 0⟩, ⟨47, 47, .ro, 0⟩, ⟨63, 63, .ro, 0⟩, ⟨14, 11, .ro, 0⟩, ⟨30, 27, .ro, 0⟩, ⟨46, 43, .ro, 0⟩, ⟨62, 59, .ro, 0⟩]⟩]

/-- Block-specific registers of block SLICE. -/
def sliceRegs : List RegRow := [
  -- SLC_CTL (R215)
  ⟨0x100, 1, 0x8, [⟨1, 1, .ro, 0⟩, ⟨0, 0, .rw, 0⟩]⟩,
  -- SLC_LATCH (R215)
  ⟨0x108, 1, 0x8, [⟨19, 16, .rw, 0⟩, ⟨11, 0, .rw, 0⟩]⟩,
  -- SLC_FILLSHARE (R215)
  ⟨0x110, 2, 0x8, [⟨5, 0, .rw, 1⟩, ⟨13, 8, .rw, 1⟩, ⟨21, 16, .rw, 1⟩, ⟨29, 24, .rw, 1⟩, ⟨37, 32, .rw, 1⟩, ⟨45, 40, .rw, 1⟩, ⟨53, 48, .rw, 1⟩, ⟨61, 56, .rw, 1⟩]⟩,
  -- SLC_MASK (R215)
  ⟨0x140, 16, 0x8, [⟨11, 0, .rw, 0xfff⟩]⟩,
  -- SLC_MAINT_CMD (R216)
  ⟨0x200, 16, 0x40, [⟨7, 4, .wo, 0⟩, ⟨3, 0, .wo, 0⟩]⟩,
  -- SLC_MAINT_ADDR (R216)
  ⟨0x208, 16, 0x40, [⟨51, 6, .rw, 0⟩]⟩,
  -- SLC_MAINT_LEN (R216)
  ⟨0x210, 16, 0x40, [⟨39, 6, .rw, 0⟩]⟩,
  -- SLC_MAINT_SETWAY (R216)
  ⟨0x218, 16, 0x40, [⟨19, 16, .rw, 0⟩, ⟨11, 0, .rw, 0⟩]⟩,
  -- SLC_MAINT_STAT (R216)
  ⟨0x220, 16, 0x40, [⟨63, 63, .ro, 0⟩, ⟨62, 60, .ro, 0⟩, ⟨47, 0, .ro, 0⟩]⟩]

/-- Block-specific registers of block DIRECTORY. -/
def directoryRegs : List RegRow := [
  -- DIR_HOMEMAP (R217)
  ⟨0x100, 48, 0x8, [⟨7, 7, .ro, 0⟩, ⟨15, 15, .ro, 0⟩, ⟨23, 23, .ro, 0⟩, ⟨31, 31, .ro, 0⟩, ⟨39, 39, .ro, 0⟩, ⟨47, 47, .ro, 0⟩, ⟨55, 55, .ro, 0⟩, ⟨63, 63, .ro, 0⟩, ⟨6, 0, .ro, 0⟩, ⟨14, 8, .ro, 0⟩, ⟨22, 16, .ro, 0⟩, ⟨30, 24, .ro, 0⟩, ⟨38, 32, .ro, 0⟩, ⟨46, 40, .ro, 0⟩, ⟨54, 48, .ro, 0⟩, ⟨62, 56, .ro, 0⟩]⟩,
  -- DIR_HOMED (R217)
  ⟨0x300, 1, 0x8, [⟨31, 16, .ro, 0⟩, ⟨8, 0, .ro, 4⟩]⟩]

/-- Block-specific registers of block MC2. -/
def mc2Regs : List RegRow := [
  -- MC_CTL (R247)
  ⟨0x100, 1, 0x8, [⟨15, 8, .ro, 0⟩, ⟨1, 1, .ro, 0⟩, ⟨0, 0, .w1s, 0⟩]⟩,
  -- MC_CFG (R247)
  ⟨0x108, 1, 0x8, [⟨63, 63, .rw, 0⟩, ⟨62, 61, .rw, 0⟩, ⟨60, 60, .rw, 0⟩, ⟨59, 58, .rw, 0⟩, ⟨57, 55, .rw, 0⟩]⟩,
  -- MC_ILV (R247)
  ⟨0x110, 1, 0x8, [⟨63, 63, .rw, 0⟩, ⟨62, 62, .rw, 0⟩, ⟨48, 40, .rw, 4⟩]⟩,
  -- MC_MAP (R247)
  ⟨0x118, 1, 0x8, [⟨1, 0, .rw, 0⟩]⟩,
  -- MC_TIM0 (R247)
  ⟨0x120, 1, 0x8, [⟨63, 56, .rw, 0x14⟩, ⟨55, 48, .rw, 0x13⟩, ⟨47, 40, .rw, 0x14⟩, ⟨39, 32, .rw, 0x14⟩, ⟨31, 24, .rw, 0x27⟩, ⟨23, 16, .rw, 0x24⟩, ⟨15, 8, .rw, 9⟩]⟩,
  -- MC_TIM1 (R247)
  ⟨0x128, 1, 0x8, [⟨63, 56, .rw, 4⟩, ⟨55, 48, .rw, 6⟩, ⟨47, 40, .rw, 4⟩, ⟨39, 32, .rw, 6⟩, ⟨31, 24, .rw, 0x10⟩, ⟨23, 16, .rw, 3⟩, ⟨15, 8, .rw, 0xc⟩, ⟨7, 0, .rw, 1⟩]⟩,
  -- MC_WIN (R247)
  ⟨0x130, 1, 0x8, [⟨63, 48, .rw, 0xec⟩, ⟨47, 32, .rw, 0x9c⟩, ⟨31, 16, .rw, 0x1a8⟩]⟩,
  -- MC_REF (R247)
  ⟨0x138, 1, 0x8, [⟨63, 63, .rw, 0⟩, ⟨55, 52, .rw, 1⟩, ⟨47, 32, .rw, 0x162⟩, ⟨31, 16, .rw, 0x1248⟩]⟩,
  -- MC_PAT_CTL (R248)
  ⟨0x200, 1, 0x8, [⟨63, 63, .w1s, 0⟩, ⟨62, 62, .ro, 0⟩, ⟨61, 60, .rw, 0⟩, ⟨59, 58, .rw, 0⟩, ⟨57, 57, .rw, 0⟩, ⟨56, 56, .rw, 0⟩, ⟨55, 54, .rw, 0⟩, ⟨47, 32, .rw, 0⟩, ⟨30, 0, .rw, 0⟩]⟩,
  -- MC_PAT_RESULT (R248)
  ⟨0x210, 1, 0x8, [⟨63, 63, .ro, 0⟩, ⟨39, 0, .ro, 0⟩]⟩,
  -- MC_MPC (R248)
  ⟨0x218, 1, 0x8, [⟨63, 63, .w1s, 0⟩, ⟨62, 62, .ro, 0⟩, ⟨61, 60, .rw, 0⟩, ⟨59, 59, .rw, 0⟩, ⟨58, 58, .rw, 0⟩, ⟨57, 56, .rw, 0⟩, ⟨55, 55, .rw, 0⟩, ⟨54, 51, .rw, 0⟩, ⟨47, 40, .rw, 0⟩, ⟨39, 32, .rw, 0⟩]⟩,
  -- MC_PAT_USER (R248)
  ⟨0x208, 1, 0x8, [⟨63, 0, .rw, 0⟩]⟩,
  -- MC_MRR (R248)
  ⟨0x220, 2, 0x8, [⟨63, 0, .ro, 0⟩]⟩]

/-- Block-specific registers of block MC0. -/
def mc0Regs : List RegRow := [
  -- MC_HASH (R249)
  ⟨0x100, 1, 0x8, [⟨0, 0, .rw, 0⟩]⟩,
  -- MC_WINSHARE (R249)
  ⟨0x108, 2, 0x8, [⟨5, 0, .rw, 1⟩, ⟨13, 8, .rw, 1⟩, ⟨21, 16, .rw, 1⟩, ⟨29, 24, .rw, 1⟩, ⟨37, 32, .rw, 1⟩, ⟨45, 40, .rw, 1⟩, ⟨53, 48, .rw, 1⟩, ⟨61, 56, .rw, 1⟩]⟩,
  -- MC_BGMASK (R249)
  ⟨0x118, 2, 0x8, [⟨7, 0, .rw, 0xff⟩, ⟨15, 8, .rw, 0xff⟩, ⟨23, 16, .rw, 0xff⟩, ⟨31, 24, .rw, 0xff⟩, ⟨39, 32, .rw, 0xff⟩, ⟨47, 40, .rw, 0xff⟩, ⟨55, 48, .rw, 0xff⟩, ⟨63, 56, .rw, 0xff⟩]⟩,
  -- MC_FRAMENOW (R249)
  ⟨0x128, 1, 0x8, [⟨63, 16, .ro, 0⟩, ⟨15, 0, .ro, 0⟩]⟩,
  -- MC_SR (R249)
  ⟨0x130, 1, 0x8, [⟨63, 63, .ro, 0⟩, ⟨15, 0, .rw, 0⟩]⟩,
  -- MC_SCRUB (R249)
  ⟨0x138, 1, 0x8, [⟨63, 63, .rw, 1⟩, ⟨55, 48, .rw, 0x18⟩, ⟨47, 32, .ro, 0⟩, ⟨30, 0, .ro, 0⟩]⟩,
  -- MC_ECC (R249)
  ⟨0x140, 1, 0x8, [⟨63, 63, .rw, 1⟩, ⟨55, 48, .rw, 16⟩, ⟨4, 4, .rw, 0⟩, ⟨9, 9, .rw, 0⟩, ⟨14, 14, .rw, 0⟩, ⟨19, 19, .rw, 0⟩, ⟨3, 0, .rw, 0⟩, ⟨8, 5, .rw, 0⟩, ⟨13, 10, .rw, 0⟩, ⟨18, 15, .rw, 0⟩]⟩,
  -- MC_FREEZE (R249)
  ⟨0x148, 1, 0x8, [⟨31, 0, .rw, 0x3d090⟩]⟩,
  -- MC_FREEZE_CTL (R249)
  ⟨0x150, 1, 0x8, [⟨1, 0, .wo, 0⟩]⟩,
  -- MC_INJECT (R249)
  ⟨0x158, 1, 0x8, [⟨63, 63, .wo, 0⟩, ⟨62, 60, .wo, 0⟩, ⟨51, 6, .wo, 0⟩]⟩,
  -- MC_MIRROR (R249)
  ⟨0x160, 1, 0x8, [⟨63, 63, .ro, 0⟩, ⟨62, 62, .ro, 0⟩, ⟨12, 0, .ro, 0⟩]⟩]

/-- Block-specific registers of block MC1. -/
def mc1Regs : List RegRow := [
  -- MC_FF_STATUS (R250)
  ⟨0x100, 1, 0x8, [⟨63, 63, .ro, 0⟩, ⟨62, 61, .ro, 0⟩, ⟨60, 59, .ro, 0⟩, ⟨58, 58, .ro, 0⟩, ⟨47, 32, .ro, 0⟩, ⟨31, 0, .ro, 0⟩]⟩,
  -- MC_FF_ADDR (R250)
  ⟨0x110, 1, 0x8, [⟨51, 6, .ro, 0⟩, ⟨5, 5, .ro, 0⟩]⟩,
  -- MC_JRNL (R250)
  ⟨0x128, 1, 0x8, [⟨40, 32, .ro, 0⟩, ⟨22, 16, .ro, 0⟩, ⟨6, 0, .ro, 0⟩]⟩,
  -- MC_FF_CMD (R250)
  ⟨0x200, 64, 0x8, [⟨63, 40, .ro, 0⟩, ⟨39, 39, .ro, 0⟩, ⟨38, 38, .ro, 0⟩, ⟨37, 36, .ro, 0⟩, ⟨35, 32, .ro, 0⟩, ⟨31, 29, .ro, 0⟩, ⟨28, 27, .ro, 0⟩, ⟨26, 18, .ro, 0⟩, ⟨17, 0, .ro, 0⟩]⟩,
  -- MC_FF_TIME (R250)
  ⟨0x108, 1, 0x8, [⟨63, 0, .ro, 0⟩]⟩,
  -- MC_FF_SYND (R250)
  ⟨0x118, 2, 0x8, [⟨63, 0, .ro, 0⟩]⟩]

/-- Block-specific registers of block DDRPHY. -/
def ddrphyRegs : List RegRow := [
  -- PHY_CTL (R251)
  ⟨0x100, 1, 0x8, [⟨1, 1, .ro, 0⟩, ⟨0, 0, .w1s, 0⟩]⟩,
  -- PHY_LANE (R251)
  ⟨0x200, 40, 0x8, [⟨23, 16, .rw, 0x3c⟩, ⟨15, 8, .rw, 0⟩, ⟨7, 0, .rw, 0x20⟩]⟩,
  -- PHY_DQS (R251)
  ⟨0x400, 10, 0x8, [⟨23, 16, .rw, 0⟩, ⟨15, 8, .rw, 0⟩, ⟨7, 0, .rw, 0⟩]⟩,
  -- PHY_CA (R251)
  ⟨0x500, 14, 0x8, [⟨7, 0, .rw, 0⟩]⟩,
  -- PHY_CS (R251)
  ⟨0x580, 2, 0x8, [⟨7, 0, .rw, 0⟩]⟩]

/-- Block-specific registers of block DWEMON. -/
def dwemonRegs : List RegRow := [
  -- DE_CTL (R289)
  ⟨0x100, 1, 0x8, [⟨1, 1, .rw, 0⟩, ⟨0, 0, .rw, 0⟩]⟩,
  -- DE_STATE (R289)
  ⟨0x108, 1, 0x8, [⟨63, 60, .ro, 0⟩, ⟨59, 56, .ro, 0⟩, ⟨55, 44, .ro, 0⟩, ⟨15, 2, .ro, 0⟩]⟩,
  -- DE_HCTX (R289)
  ⟨0x110, 1, 0x8, [⟨15, 12, .rw, 0⟩, ⟨11, 0, .rw, 0⟩]⟩,
  -- DE_HALT (R289)
  ⟨0x118, 1, 0x8, [⟨63, 63, .wo, 0⟩, ⟨7, 0, .ro, 0⟩]⟩]

/-- Block-specific registers of block TASKQ. -/
def taskqRegs : List RegRow := [
  -- TQ_CTL (R340)
  ⟨0x100, 1, 0x8, [⟨1, 1, .rw, 1⟩, ⟨0, 0, .rw, 0⟩]⟩,
  -- TQ_ALLOW (R340)
  ⟨0x108, 1, 0x8, [⟨15, 0, .rw, 1⟩]⟩,
  -- TQ_SHARE (R340)
  ⟨0x110, 2, 0x8, [⟨7, 0, .rw, 1⟩, ⟨15, 8, .rw, 1⟩, ⟨23, 16, .rw, 1⟩, ⟨31, 24, .rw, 1⟩, ⟨39, 32, .rw, 1⟩, ⟨47, 40, .rw, 1⟩, ⟨55, 48, .rw, 1⟩, ⟨63, 56, .rw, 1⟩]⟩,
  -- TQ_COUNT (R340)
  ⟨0x120, 2, 0x8, [⟨7, 0, .ro, 0⟩, ⟨15, 8, .ro, 0⟩, ⟨23, 16, .ro, 0⟩, ⟨31, 24, .ro, 0⟩, ⟨39, 32, .ro, 0⟩, ⟨47, 40, .ro, 0⟩, ⟨55, 48, .ro, 0⟩, ⟨63, 56, .ro, 0⟩]⟩,
  -- TQ_STEAL (R340)
  ⟨0x130, 1, 0x8, [⟨63, 56, .rw, 4⟩, ⟨47, 0, .ro, 0⟩]⟩,
  -- TQ_STEALGRP0 (R340)
  ⟨0x138, 1, 0x8, [⟨63, 0, .rw, 0⟩]⟩,
  -- TQ_STEALGRP1 (R340)
  ⟨0x140, 1, 0x8, [⟨31, 0, .rw, 0⟩]⟩,
  -- TQ_RUNNING (R340)
  ⟨0x148, 1, 0x8, [⟨63, 63, .ro, 0⟩, ⟨47, 36, .ro, 0⟩, ⟨35, 32, .ro, 0⟩, ⟨31, 0, .ro, 0⟩]⟩,
  -- TQ_REISSUE (R340)
  ⟨0x150, 1, 0x8, [⟨47, 0, .ro, 0⟩]⟩,
  -- TQ_SPILL_BASE (R341)
  ⟨0x200, 16, 0x20, [⟨51, 6, .rw, 0⟩]⟩,
  -- TQ_SPILL_CTL (R341)
  ⟨0x208, 16, 0x20, [⟨63, 63, .rw, 0⟩, ⟨27, 16, .rw, 0⟩, ⟨4, 0, .rw, 4⟩]⟩,
  -- TQ_SPILL_HEAD (R341)
  ⟨0x210, 16, 0x20, [⟨31, 0, .ro, 0⟩]⟩,
  -- TQ_SPILL_TAIL (R341)
  ⟨0x218, 16, 0x20, [⟨31, 0, .ro, 0⟩]⟩]

/-- Block-specific registers of block DMA. -/
def dmaRegs : List RegRow := [
  -- DMA_CTL (R361)
  ⟨0x100, 1, 0x8, [⟨7, 4, .ro, 0⟩, ⟨0, 0, .rw, 0⟩]⟩,
  -- DMA_ENG_ERR (R361)
  ⟨0x108, 1, 0x8, [⟨63, 63, .w1c, 0⟩, ⟨62, 62, .ro, 0⟩, ⟨61, 61, .ro, 0⟩, ⟨51, 0, .ro, 0⟩]⟩]

/-- Block-specific registers of block DMACH. -/
def dmachRegs : List RegRow := [
  -- DMA_CH_CTL (R362)
  ⟨0x100, 1, 0x8, [⟨63, 63, .rw, 0⟩, ⟨56, 48, .rw, 0x10⟩, ⟨44, 40, .rw, 0x10⟩, ⟨36, 32, .rw, 4⟩]⟩,
  -- DMA_CH_TENANT (R362)
  ⟨0x108, 1, 0x8, [⟨11, 0, .rw, 0⟩]⟩,
  -- DMA_CH_RINGBASE (R362)
  ⟨0x110, 1, 0x8, [⟨63, 5, .rw, 0⟩]⟩,
  -- DMA_DOORBELL (R362)
  ⟨0x118, 1, 0x8, [⟨15, 0, .wo, 0⟩]⟩,
  -- DMA_CH_STATUS (R362)
  ⟨0x120, 1, 0x8, [⟨63, 60, .ro, 0⟩, ⟨59, 56, .ro, 0⟩, ⟨55, 55, .ro, 0⟩, ⟨31, 16, .ro, 0⟩, ⟨15, 0, .ro, 0⟩]⟩,
  -- DMA_CH_REM (R362)
  ⟨0x128, 1, 0x8, [⟨24, 0, .ro, 0⟩]⟩,
  -- DMA_CH_SRC (R362)
  ⟨0x130, 1, 0x8, [⟨63, 0, .ro, 0⟩]⟩,
  -- DMA_CH_ERR (R362)
  ⟨0x148, 1, 0x8, [⟨63, 63, .w1c, 0⟩, ⟨62, 62, .ro, 0⟩, ⟨61, 60, .ro, 0⟩, ⟨57, 0, .ro, 0⟩]⟩,
  -- DMA_CH_RUN (R362)
  ⟨0x150, 1, 0x8, [⟨2, 2, .wo, 0⟩, ⟨1, 1, .wo, 0⟩, ⟨0, 0, .rw, 0⟩]⟩,
  -- DMA_CH_IRQ (R362)
  ⟨0x158, 1, 0x8, [⟨63, 63, .rw, 0⟩, ⟨62, 62, .rw, 0⟩, ⟨55, 48, .rw, 0⟩, ⟨46, 32, .rw, 0⟩, ⟨14, 0, .rw, 0⟩]⟩,
  -- DMA_CH_DONE (R362)
  ⟨0x160, 1, 0x8, [⟨47, 0, .ro, 0⟩]⟩,
  -- DMA_CH_DST (R362)
  ⟨0x138, 1, 0x8, [⟨63, 0, .ro, 0⟩]⟩,
  -- DMA_CH_CRC (R362)
  ⟨0x140, 1, 0x8, [⟨63, 0, .ro, 0⟩]⟩]

/-- Block-specific registers of block IRT0. -/
def irt0Regs : List RegRow := [
  -- IRT_REFUSED (R386)
  ⟨0x100, 1, 0x8, [⟨47, 0, .ro, 0⟩]⟩]

/-- Block-specific registers of block IRTDOM. -/
def irtdomRegs : List RegRow := [
  -- DOM_CTL (R386)
  ⟨0x100, 128, 0x10, [⟨63, 63, .rw, 0⟩, ⟨62, 62, .ro, 0⟩, ⟨61, 61, .rw, 0⟩, ⟨60, 60, .ro, 0⟩, ⟨59, 56, .ro, 0⟩, ⟨55, 44, .rw, 0⟩, ⟨43, 40, .rw, 8⟩, ⟨39, 32, .rw, 0xff⟩, ⟨31, 23, .rw, 0⟩]⟩,
  -- DOM_RANGE (R386)
  ⟨0x108, 128, 0x10, [⟨62, 48, .rw, 0⟩, ⟨15, 0, .rw, 0⟩]⟩]

/-- Block-specific registers of block IRTPEND. -/
def irtpendRegs : List RegRow := [
  -- IRT_PEND (R386)
  ⟨0x100, 256, 0x8, [⟨63, 0, .w1c, 0⟩]⟩]

/-- Block-specific registers of block IRTTS. -/
def irttsRegs : List RegRow := [
  -- TS_CTL (R386)
  ⟨0x100, 32, 0x40, [⟨63, 62, .rw, 0⟩, ⟨61, 58, .rw, 0⟩, ⟨57, 57, .rw, 0⟩, ⟨51, 48, .rw, 0⟩, ⟨15, 0, .ro, 0⟩]⟩,
  -- TS_MASK0 to TS_MASK5 (R386)
  ⟨0x108, 32, 0x40, [⟨63, 0, .rw, 0⟩]⟩,
  ⟨0x110, 32, 0x40, [⟨63, 0, .rw, 0⟩]⟩,
  ⟨0x118, 32, 0x40, [⟨63, 0, .rw, 0⟩]⟩,
  ⟨0x120, 32, 0x40, [⟨63, 0, .rw, 0⟩]⟩,
  ⟨0x128, 32, 0x40, [⟨63, 0, .rw, 0⟩]⟩,
  ⟨0x130, 32, 0x40, [⟨63, 0, .rw, 0⟩]⟩]

/-- Block-specific registers of block IRTSRC. -/
def irtsrcRegs : List RegRow := [
  -- SRC (R386)
  ⟨0x100, 480, 0x8, [⟨31, 31, .rw, 0⟩, ⟨30, 30, .rw, 0⟩, ⟨29, 29, .ro, 0⟩, ⟨28, 28, .ro, 0⟩, ⟨25, 17, .rw, 0⟩, ⟨15, 8, .rw, 0xff⟩, ⟨63, 63, .rw, 0⟩, ⟨62, 62, .rw, 0⟩, ⟨61, 61, .ro, 0⟩, ⟨60, 60, .ro, 0⟩, ⟨57, 49, .rw, 0⟩, ⟨47, 40, .rw, 0xff⟩]⟩]

/-- Block-specific registers of block IRT_TARGET. -/
def irttargetRegs : List RegRow := [
  -- TGT_CTL (R387)
  ⟨0x100, 1, 0x8, [⟨63, 63, .rw, 0⟩, ⟨59, 48, .rw, 0⟩, ⟨7, 0, .rw, 0xff⟩]⟩,
  -- TGT_STATE (R387)
  ⟨0x108, 1, 0x8, [⟨63, 63, .ro, 0⟩, ⟨62, 62, .ro, 0⟩, ⟨61, 61, .ro, 0⟩, ⟨60, 60, .w1c, 0⟩, ⟨46, 32, .ro, 0⟩, ⟨15, 8, .ro, 0⟩, ⟨7, 0, .ro, 0xff⟩]⟩,
  -- TGT_CLAIM (R387)
  ⟨0x110, 1, 0x8, [⟨63, 63, .rc, 0⟩, ⟨62, 62, .rc, 0⟩, ⟨47, 40, .rc, 0⟩, ⟨14, 0, .rc, 0x7fff⟩]⟩,
  -- TGT_EOI (R387)
  ⟨0x118, 1, 0x8, [⟨14, 0, .wo, 0⟩]⟩]

/-- Block-specific registers of block FP0. -/
def fp0Regs : List RegRow := [
  -- FP_CTL (R410)
  ⟨0x100, 1, 0x8, [⟨1, 0, .rwb, 0⟩]⟩,
  -- FP_EVENT (R410)
  ⟨0x108, 1, 0x8, [⟨63, 63, .rc, 0⟩, ⟨62, 62, .rc, 0⟩, ⟨61, 58, .rc, 0⟩, ⟨57, 56, .rc, 0⟩, ⟨55, 52, .rc, 0⟩, ⟨31, 16, .rc, 0⟩]⟩,
  -- FP_ATSINV (R410)
  ⟨0x110, 1, 0x8, [⟨63, 63, .w1s, 0⟩, ⟨62, 62, .ro, 0⟩, ⟨61, 60, .ro, 0⟩, ⟨59, 58, .rw, 0⟩, ⟨57, 57, .rw, 0⟩, ⟨56, 37, .rw, 0⟩, ⟨15, 0, .rw, 0⟩]⟩,
  -- FP_ATSINV_ADDR (R410)
  ⟨0x118, 1, 0x8, [⟨63, 12, .rw, 0⟩, ⟨5, 0, .rw, 0⟩]⟩,
  -- FP_PRQ (R410)
  ⟨0x120, 1, 0x8, [⟨63, 63, .rw, 0⟩, ⟨62, 62, .w1c, 0⟩, ⟨51, 12, .rw, 0⟩, ⟨4, 0, .rw, 4⟩]⟩,
  -- FP_PRGRESP (R410)
  ⟨0x138, 1, 0x8, [⟨63, 60, .wo, 0⟩, ⟨59, 51, .wo, 0⟩, ⟨50, 49, .wo, 0⟩, ⟨48, 48, .wo, 0⟩, ⟨47, 28, .wo, 0⟩, ⟨15, 0, .wo, 0⟩]⟩,
  -- FP_WIN_BASE (R410)
  ⟨0x200, 16, 0x10, [⟨63, 63, .ro, 0⟩, ⟨62, 62, .ro, 0⟩, ⟨61, 61, .ro, 0⟩, ⟨60, 60, .ro, 0⟩, ⟨59, 58, .ro, 0⟩, ⟨51, 28, .ro, 0⟩]⟩,
  -- FP_WIN_LIMIT (R410)
  ⟨0x208, 16, 0x10, [⟨51, 28, .ro, 0⟩]⟩,
  -- FP_PRQ_HEAD (R410)
  ⟨0x128, 1, 0x8, [⟨31, 0, .rw, 0⟩]⟩,
  -- FP_PRQ_TAIL (R410)
  ⟨0x130, 1, 0x8, [⟨31, 0, .ro, 0⟩]⟩]

/-- Block-specific registers of block FPL. -/
def fplRegs : List RegRow := [
  -- FP_LNK_STATUS (R411)
  ⟨0x100, 1, 0x8, [⟨63, 61, .ro, 0⟩, ⟨60, 58, .ro, 0⟩, ⟨57, 55, .ro, 0⟩, ⟨54, 54, .ro, 0⟩, ⟨53, 53, .ro, 0⟩, ⟨52, 51, .ro, 0⟩]⟩,
  -- FP_LNK_CTL (R411)
  ⟨0x108, 1, 0x8, [⟨11, 8, .rw, 0⟩, ⟨1, 1, .w1s, 0⟩, ⟨0, 0, .w1s, 0⟩]⟩,
  -- FP_FN (R411)
  ⟨0x400, 256, 0x8, [⟨63, 63, .rw, 0⟩, ⟨62, 62, .rw, 0⟩, ⟨61, 61, .rw, 0⟩, ⟨60, 60, .rw, 0⟩, ⟨59, 40, .rw, 0⟩, ⟨39, 28, .rw, 0⟩, ⟨15, 0, .rw, 0⟩]⟩]

/-- Block-specific registers of block RAS0. -/
def ras0Regs : List RegRow := [
  -- RAS_HEALTH (R443)
  ⟨0x100, 1, 0x8, [⟨63, 32, .ro, 0⟩, ⟨3, 3, .ro, 0⟩, ⟨2, 2, .ro, 0⟩, ⟨1, 0, .ro, 0⟩]⟩,
  -- RAS_POLICY (R443)
  ⟨0x108, 1, 0x8, [⟨63, 48, .rwb, 0x400⟩, ⟨47, 40, .rwb, 8⟩, ⟨39, 32, .rwb, 4⟩, ⟨31, 28, .rwb, 1⟩, ⟨27, 24, .rwb, 2⟩, ⟨23, 20, .rwb, 2⟩, ⟨19, 16, .rwb, 2⟩, ⟨1, 1, .rwb, 1⟩, ⟨0, 0, .rwb, 0⟩]⟩,
  -- RAS_LOG_SEQ (R443)
  ⟨0x110, 1, 0x8, [⟨31, 0, .ro, 0⟩]⟩,
  -- RAS_LOG_ACK (R443)
  ⟨0x118, 1, 0x8, [⟨31, 0, .rw, 0⟩]⟩,
  -- RAS_LOG_STAT (R443)
  ⟨0x120, 1, 0x8, [⟨63, 63, .ro, 0⟩, ⟨62, 62, .ro, 0⟩, ⟨47, 0, .ro, 0⟩]⟩,
  -- RAS_REQ (R443)
  ⟨0x128, 1, 0x8, [⟨63, 60, .wo, 0⟩, ⟨15, 0, .wo, 0⟩]⟩,
  -- RAS_REQ_STAT (R443)
  ⟨0x130, 1, 0x8, [⟨63, 63, .ro, 0⟩, ⟨62, 60, .ro, 0⟩, ⟨59, 56, .ro, 0⟩, ⟨15, 0, .ro, 0⟩]⟩,
  -- RAS_FATAL (R443)
  ⟨0x140, 4, 0x8, [⟨63, 0, .ro, 0⟩]⟩]

/-- Block-specific registers of block NEG. -/
def negRegs : List RegRow := [
  -- CL_NEG_SLOT (R445)
  ⟨0x100, 8, 0x8, [⟨63, 63, .ro, 0⟩, ⟨62, 62, .ro, 0⟩, ⟨61, 61, .ro, 0⟩, ⟨15, 0, .ro, 0⟩]⟩,
  -- CL_NEG_ADDR (R445)
  ⟨0x140, 1, 0x8, [⟨15, 3, .rw, 0⟩]⟩,
  -- CL_NEG_DATA (R445)
  ⟨0x148, 1, 0x8, [⟨63, 0, .rw, 0⟩]⟩]

/-- Block-specific registers of block AON. -/
def aonRegs : List RegRow := [
  -- AON_TIME (R476)
  ⟨0x100, 1, 0x8, [⟨63, 0, .ro, 0⟩]⟩,
  -- AON_SUPPLY (R476)
  ⟨0x108, 1, 0x8, [⟨63, 63, .ro, 0⟩, ⟨62, 62, .ro, 0⟩, ⟨61, 61, .ro, 0⟩, ⟨47, 32, .ro, 0⟩, ⟨31, 0, .ro, 0⟩]⟩,
  -- AON_RESETCAUSE (R496)
  ⟨0x110, 1, 0x8, [⟨47, 32, .ro, 0⟩, ⟨31, 16, .ro, 0⟩, ⟨7, 7, .w1c, 0⟩, ⟨6, 6, .w1c, 0⟩, ⟨5, 5, .w1c, 0⟩, ⟨4, 4, .w1c, 0⟩, ⟨3, 3, .w1c, 0⟩, ⟨2, 2, .w1c, 0⟩, ⟨1, 1, .w1c, 0⟩]⟩]

/-- Block-specific registers of block PWR. -/
def pwrRegs : List RegRow := [
  -- PWR_PKG (R477)
  ⟨0x100, 1, 0x8, [⟨63, 63, .rw, 0⟩, ⟨62, 62, .ro, 0⟩, ⟨61, 60, .ro, 0⟩, ⟨59, 56, .ro, 0⟩]⟩,
  -- PWR_SEQ (R478)
  ⟨0x108, 5, 0x8, [⟨59, 48, .rwb, 0⟩, ⟨47, 36, .rwb, 0⟩, ⟨35, 24, .rwb, 0⟩, ⟨23, 12, .rwb, 0⟩, ⟨11, 0, .rwb, 0⟩]⟩,
  -- PWR_FREQ (R479)
  ⟨0x200, 384, 0x8, [⟨32, 32, .ro, 0⟩, ⟨31, 24, .ro, 0x24⟩, ⟨15, 8, .ro, 0x1a⟩, ⟨7, 0, .rw, 0x1a⟩]⟩,
  -- PWR_VF (R479)
  ⟨0xe00, 29, 0x8, [⟨18, 18, .ro, 0⟩, ⟨17, 16, .ro, 0⟩, ⟨15, 0, .ro, 0⟩]⟩,
  -- PWR_RESET (R497)
  ⟨0x130, 1, 0x8, [⟨1, 1, .wo, 0⟩, ⟨0, 0, .wo, 0⟩]⟩,
  -- PWR_BOOT (R497)
  ⟨0x138, 1, 0x8, [⟨63, 60, .ro, 0⟩, ⟨59, 58, .ro, 0⟩, ⟨57, 57, .ro, 0⟩, ⟨56, 56, .ro, 0⟩, ⟨55, 52, .ro, 0⟩, ⟨47, 32, .ro, 0⟩, ⟨6, 0, .ro, 0⟩]⟩]

/-- Block-specific registers of block THERM. -/
def thermRegs : List RegRow := [
  -- THM_CTL (R480)
  ⟨0x100, 1, 0x8, [⟨63, 56, .rwb, 0x64⟩, ⟨55, 48, .rw, 0x5f⟩, ⟨47, 40, .rwb, 8⟩]⟩,
  -- THM_STATUS (R480)
  ⟨0x108, 1, 0x8, [⟨63, 63, .ro, 0⟩, ⟨62, 62, .ro, 0⟩, ⟨61, 61, .ro, 0⟩, ⟨60, 60, .w1s, 0⟩, ⟨59, 54, .ro, 0⟩, ⟨47, 32, .ro, 0⟩, ⟨15, 0, .ro, 0⟩]⟩,
  -- THM_CAP (R480)
  ⟨0x110, 1, 0x8, [⟨7, 0, .ro, 0x24⟩, ⟨15, 8, .ro, 0x24⟩, ⟨23, 16, .ro, 0x24⟩, ⟨31, 24, .ro, 0x24⟩, ⟨39, 32, .ro, 0x24⟩, ⟨47, 40, .ro, 0x24⟩]⟩,
  -- THM_SENSE (R480)
  ⟨0x200, 120, 0x8, [⟨63, 63, .ro, 0⟩, ⟨15, 0, .ro, 0⟩]⟩]

/-- Block-specific registers of block CNT. -/
def cntRegs : List RegRow := [
  -- CNT_CTL (R506)
  ⟨0xe00, 1, 0x8, [⟨0, 0, .rw, 0⟩]⟩,
  -- CNT_STATUS (R506)
  ⟨0xe08, 1, 0x8, [⟨15, 8, .w1c, 0⟩, ⟨7, 0, .w1c, 0⟩]⟩,
  -- CNT_SEL (R506)
  ⟨0xe40, 8, 0x10, [⟨63, 63, .rw, 0⟩, ⟨62, 62, .rw, 0⟩, ⟨56, 56, .rw, 0⟩, ⟨55, 52, .rw, 0⟩, ⟨27, 24, .rw, 0⟩, ⟨23, 23, .rw, 0⟩, ⟨15, 8, .rw, 0⟩, ⟨7, 0, .rw, 0⟩]⟩,
  -- CNT_VAL (R506)
  ⟨0xe48, 8, 0x10, [⟨47, 0, .rw, 0⟩]⟩]

/-- Block-specific registers of block BOLT1. -/
def bolt1Regs : List RegRow := [
  -- BOLT_DMACH (R92)
  ⟨0x100, 24, 0x8, [⟨63, 0, .rwb, 0⟩]⟩]

/-- Block-specific registers of block BOLT23. -/
def bolt23Regs : List RegRow := [
  -- BOLT_SRC (R92)
  ⟨0x100, 256, 0x8, [⟨63, 0, .rwb, 0⟩]⟩]

/-- Block-specific registers of block RAS1. -/
def ras1Regs : List RegRow := [
  -- RAS_CORE_RET (R444)
  ⟨0x100, 6, 0x8, [⟨63, 0, .ro, 0⟩]⟩,
  -- RAS_CL_RET (R444)
  ⟨0x130, 2, 0x8, [⟨63, 0, .ro, 0⟩]⟩,
  -- RAS_SLC_RET (R444)
  ⟨0x140, 2, 0x8, [⟨63, 0, .ro, 0⟩]⟩,
  -- RAS_DE_RET (R444)
  ⟨0x150, 2, 0x8, [⟨63, 0, .ro, 0⟩]⟩,
  -- RAS_MC_RET (R444)
  ⟨0x160, 1, 0x8, [⟨15, 0, .ro, 0⟩]⟩,
  -- RAS_PARK (R444)
  ⟨0x180, 6, 0x8, [⟨63, 0, .ro, 0⟩]⟩]

/-- Block-specific registers of block IRTOVR. -/
def irtovrRegs : List RegRow := [
  -- IRT_OVR (R386)
  ⟨0x100, 256, 0x8, [⟨63, 0, .w1c, 0⟩]⟩]

end Sys2Proof.Machine
end

