-- ==== Sys2Proof/Machine/Reg.lean ====
section
/-! DEFINITION. Where each register page lies (02 R35-R38), what kind of page it is, and the value every register of
it holds after cold reset (R11 and the rules of each block). -/

namespace Sys2Proof.Machine

/-- The kinds of register page, each with a layout of its own (R36-R38, R92, R384). -/
inductive PageKind where
  | hinge | cluster | neg | core | slice | directory | dwemon | taskq | dma | dmach | meshstop
  | mc0 | mc1 | mc2 | mc3 | phy | fp0 | fpl | aon | pwr | therm | safelight
  | irt0 | irtDom | irtPend | irtOvr | irtSets | irtSrc | irtHdr
  | mbx | tct0 | tct | sched | bolt0 | bolt1 | boltSrc | boltCarve | bolt6 | bolt7 | ras0 | ras1 | rasHdr
  | target
  deriving DecidableEq, Repr

/-- A page: its address, kind, block type code (R41), instance and page index (R36-R38). -/
structure Page where
  base : Nat
  kind : PageKind
  type : Nat
  inst : Nat
  page : Nat
  deriving DecidableEq, Repr

/-- Address of block b's page at stop n (R35). -/
def pageBase (n b : Nat) : Nat := 0x40000000 + stopY n <<< 24 + stopX n <<< 20 + b <<< 12

/-- Address of target page i (R31). -/
def targetBase (i : Nat) : Nat := 0xC0000000 + i <<< 12

/-- PG_ID.INST of a target page, packed (R38). -/
def targetInst (i : Nat) : Option Nat :=
  if i < 6144 then (if i % 16 ≤ 8 then some (9 * (i / 16) + i % 16) else none)
  else if i < 6240 then some (3456 + (i - 6144))
  else if i = 6240 then some 3552 else none

/-- Kind, type, instance and page index of block b at a cluster tile (R36). -/
def tileBlock (c b : Nat) : Option (PageKind × Nat × Nat × Nat) :=
  if b = 0x00 then some (.hinge, 0x001, tileStop c, 0)
  else if b = 0x01 then some (.cluster, 0x002, c, 0)
  else if 0x02 ≤ b ∧ b ≤ 0x05 then some (.core, 0x003, 4 * c + (b - 2), 0)
  else if b = 0x08 then some (.slice, 0x004, c, 0)
  else if b = 0x09 then some (.directory, 0x005, c, 0)
  else if b = 0x0A then some (.dwemon, 0x006, c, 0)
  else if b = 0x0B then some (.taskq, 0x007, c, 0)
  else if b = 0x0C then some (.dma, 0x008, c, 0)
  else if 0x10 ≤ b ∧ b ≤ 0x1F then some (.dmach, 0x009, 16 * c + (b - 0x10), 0)
  else if b = 0x20 then some (.meshstop, 0x00A, tileStop c, 0)
  else if b = 0x21 then some (.neg, 0x002, c, 1)
  else none

/-- Kind of the page of IRT block b (R384). -/
def irtBlock (b : Nat) : PageKind :=
  if b = 0x40 then .irt0 else if b ≤ 0x42 then .irtDom else if b ≤ 0x44 then .irtPend else if b ≤ 0x46 then .irtOvr
  else if b = 0x47 then .irtHdr else if b ≤ 0x57 then .irtSets else if b ≤ 0x7A then .irtSrc else .irtHdr

/-- Kind of the page of block b, from 0x40 to 0x8F, at the Ward's stop (R37, R92). -/
def wardBlock (b : Nat) : Option (PageKind × Nat × Nat × Nat) :=
  if 0x40 ≤ b ∧ b ≤ 0x5F then some (.mbx, 0x030, b - 0x40, 0)
  else if b = 0x60 then some (.tct0, 0x035, 0, 0)
  else if 0x61 ≤ b ∧ b ≤ 0x6F then some (.tct, 0x035, 0, b - 0x60)
  else if b = 0x70 then some (.sched, 0x036, 0, 0)
  else if b = 0x80 then some (.bolt0, 0x037, 0, 0)
  else if b = 0x81 then some (.bolt1, 0x037, 0, 1)
  else if b = 0x82 ∨ b = 0x83 then some (.boltSrc, 0x037, 0, b - 0x80)
  else if b = 0x84 ∨ b = 0x85 then some (.boltCarve, 0x037, 0, b - 0x80)
  else if b = 0x86 then some (.bolt6, 0x037, 0, 6)
  else if b = 0x87 then some (.bolt7, 0x037, 0, 7)
  else if b = 0x88 then some (.ras0, 0x038, 0, 0)
  else if b = 0x89 then some (.ras1, 0x038, 0, 1)
  else if 0x8A ≤ b ∧ b ≤ 0x8F then some (.rasHdr, 0x038, 0, b - 0x88)
  else none

/-- Kind, type, instance and page index of block b at an edge stop (R37). -/
def edgeBlock (n b : Nat) : Option (PageKind × Nat × Nat × Nat) :=
  if b = 0x00 then some (.hinge, 0x001, n, 0)
  else if b = 0x20 then some (.meshstop, 0x00A, n, 0)
  else if 0x10 ≤ b ∧ b ≤ 0x15 then
    match stopMc? n, stopFp? n with
    | some m, _ =>
      if b = 0x10 then some (.mc0, 0x010, m, 0) else if b = 0x11 then some (.mc1, 0x010, m, 1)
      else if b = 0x12 then some (.mc2, 0x010, m, 2) else if b = 0x13 then some (.mc3, 0x010, m, 3)
      else some (.phy, 0x011, 2 * m + (b - 0x14), 0)
    | none, some p =>
      if b = 0x10 then some (.fp0, 0x018, p, 0)
      else if b ≤ 0x14 then some (.fpl, 0x018, p, b - 0x10) else none
    | none, none => none
  else if n = aonStop then
    if b = 0x40 then some (.aon, 0x031, 0, 0) else if b = 0x41 then some (.pwr, 0x032, 0, 0)
    else if b = 0x42 then some (.therm, 0x033, 0, 0) else if b = 0x43 then some (.safelight, 0x034, 0, 0) else none
  else if n = irtStop then
    if 0x40 ≤ b ∧ b ≤ 0x7F then some (irtBlock b, 0x020, 0, b - 0x40) else none
  else if n = wardStop then wardBlock b
  else none

/-- The block at index b of stop n, if a page is there (R36, R37). -/
def blockAt (n b : Nat) : Option (PageKind × Nat × Nat × Nat) :=
  match stopTile? n with
  | some c => tileBlock c b
  | none => if n < 120 then edgeBlock n b else none

/-- The page an address lies in (R35, R38); none where no page is. -/
def pageAt (a : Nat) : Option Page :=
  match region a with
  | .keyway =>
    let y := bits a 29 24
    let x := bits a 23 20
    if 10 ≤ y ∨ 12 ≤ x then none
    else match blockAt (stopAt x y) (bits a 19 12) with
      | some (k, t, i, p) => some ⟨pageBase (stopAt x y) (bits a 19 12), k, t, i, p⟩
      | none => none
  | .target =>
    match targetInst (bits a 26 12) with
    | some i => some ⟨targetBase (bits a 26 12), .target, 0x021, i, 0⟩
    | none => none
  | _ => none

/-- Bit j of KW_PRESENTn: block 64 n + j has a page at the stop (R64). -/
def presentMap (stop n : Nat) : Nat :=
  (List.range 64).foldl (fun m j => if (blockAt stop (64 * n + j)).isSome then m + 2 ^ j else m) 0

/-- Whether a page carries uncore counters, and how many (R505, R506). -/
def counterCount : PageKind → Nat
  | .meshstop => 4 | .slice => 8 | .mc3 => 8 | .dma => 4 | .dwemon => 4 | .fp0 => 8 | _ => 0

/-- Block-specific registers by kind of page. -/
def blockRegs : PageKind → List RegRow
  | .hinge => hingeRegs | .neg => negRegs | .core => coreRegs | .slice => sliceRegs
  | .directory => directoryRegs | .dwemon => dwemonRegs | .taskq => taskqRegs | .dma => dmaRegs | .dmach => dmachRegs
  | .meshstop => meshstopRegs | .mc0 => mc0Regs | .mc1 => mc1Regs | .mc2 => mc2Regs | .mc3 => []
  | .phy => ddrphyRegs | .fp0 => fp0Regs | .fpl => fplRegs | .aon => aonRegs | .pwr => pwrRegs | .therm => thermRegs
  | .irt0 => irt0Regs | .irtDom => irtdomRegs | .irtPend => irtpendRegs | .irtOvr => irtovrRegs | .irtSets => irttsRegs
  | .irtSrc => irtsrcRegs | .mbx => mbxRegs | .tct0 => tctRegs ++ tct0Regs | .tct => tctRegs | .bolt0 => bolt0Regs
  | .bolt1 => bolt1Regs | .boltSrc => bolt23Regs | .boltCarve => bolt45Regs | .bolt6 => bolt6Regs | .ras0 => ras0Regs
  | .ras1 => ras1Regs | .target => irttargetRegs
  | .cluster | .safelight | .irtHdr | .sched | .bolt7 | .rasHdr => []

/-- Whether a register row covers an offset. -/
def RegRow.covers (r : RegRow) (off : Nat) : Bool :=
  r.off ≤ off && decide ((off - r.off) % r.stride = 0) && decide ((off - r.off) / r.stride < r.count)

/-- The rows of a page: header, its block's registers, its counters (R42-R51, R506). -/
def pageRows (k : PageKind) : List RegRow :=
  headerRegs ++ (if counterCount k = 0 then [] else cntRegs.map (fun r => if 1 < r.count then { r with count := counterCount k } else r))
    ++ blockRegs k

/-- The row of a register, if the page has one at that offset (R40). -/
def rowAt (k : PageKind) (off : Nat) : Option RegRow :=
  if off < 0x100 then headerRegs.find? (fun r => r.covers off)
  else if 0xE00 ≤ off ∧ counterCount k ≠ 0 then
    (cntRegs.map (fun r => if 1 < r.count then { r with count := counterCount k } else r)).find? (fun r => r.covers off)
  else (blockRegs k).find? (fun r => r.covers off)

/-- The value the field table gives a register (R11). -/
def RegRow.resetValue (r : RegRow) : Nat := r.fields.foldl (fun v f => v + f.reset <<< f.lo) 0

/-- Whether a page is one of the Ward's own, whose WORLD resets to 1 (R47). -/
def wardOwned : PageKind → Bool
  | .tct0 | .tct | .sched | .bolt0 | .bolt1 | .boltSrc | .boltCarve | .bolt6 | .bolt7 | .ras0 | .ras1 | .rasHdr => true
  | _ => false

/-- Entry t of the TCT after cold reset (R72). -/
def tctReset (t : Nat) : Nat :=
  if t = 0 then 0xB000000000000000 else if t = 0xFFF then 0x800000000FFF000F else 0

/-- WARD_MBX_ASSIGN after cold reset (R85): USER 0 on MBX0-7, 1 on MBX8-23, 2 on MBX24-27, 3 on MBX28-31. -/
def assignReset (n : Nat) : Nat :=
  (if n < 8 ∨ 24 ≤ n then 2 ^ 63 else 0) + (if n < 8 then 0 else if n < 24 then 1 else if n < 28 then 2 else 3) <<< 60

/-- The engines of a tile's own compute die, as a bit map (R340). -/
def dieEngines (c : Nat) : Nat :=
  (List.range 96).foldl (fun m e => if dieOf (tileStop e) = dieOf (tileStop c) then m + 2 ^ e else m) 0

/-- Fused PWR_SEQ values of C2, C3, K1, K2 and package sleep (R461, R478); the package's RESTORE is stored divided by 4. -/
def seqReset (i : Nat) : Nat :=
  let w (a b c d e : Nat) : Nat := a <<< 48 + b <<< 36 + c <<< 24 + d <<< 12 + e
  match i with
  | 0 => w 12 8 4 1 5
  | 1 => w 400 100 50 25 125
  | 2 => w 50 25 10 5 10
  | 3 => w 800 200 100 100 300
  | _ => w 2500 500 2000 1000 1000

/-- Header and block registers whose reset value depends on where the page stands; none where the table gives it. -/
def specialReset (p : Page) (off : Nat) : Option Nat :=
  if off = 0x000 then some (p.type <<< 52 + (p.inst % 4096) <<< 40 + 0x02 <<< 32 + p.page <<< 16)
  else if off = 0x020 then some (if wardOwned p.kind then 2 ^ 62 else 0)
  else if off = 0x038 then some (if counterCount p.kind = 0 then 0 else p.base + 0xE48)
  else match p.kind with
    | .hinge => if 0x100 ≤ off ∧ off ≤ 0x118 then some (presentMap p.inst ((off - 0x100) / 8)) else none
    | .tct0 => if 0x100 ≤ off ∧ off ≤ 0x8F8 then some (tctReset ((off - 0x100) / 8))
        else if off = 0xA00 then some 0xFFE0000000000000 else none
    | .tct => if 0x100 ≤ off ∧ off ≤ 0x8F8 then some (tctReset (256 * p.page + (off - 0x100) / 8)) else none
    | .mbx => if off = 0x110 then some (assignReset p.inst) else none
    | .core => if off = 0x108 then some p.inst else none
    | .aon => if off = 0x110 then some 0x80 else none
    | .slice => if off = 0x110 then some 0x0101010101010111 else none
    | .mc0 => if off = 0x108 then some 0x0101010101010111 else none
    | .taskq =>
      if off = 0x110 then some 0x01010101010101F1
      else if off = 0x138 then some (dieEngines p.inst % 2 ^ 64)
      else if off = 0x140 then some (dieEngines p.inst >>> 64) else none
    | .target => if p.inst = 3552 ∧ off = 0x100 then some 0x8FFF0000000000FF else none
    | .neg => if 0x100 ≤ off ∧ off ≤ 0x118 then some (2 ^ 63 + 4 * p.inst + (off - 0x100) / 8) else none
    | .pwr =>
      if 0x108 ≤ off ∧ off ≤ 0x128 then some (seqReset ((off - 0x108) / 8))
      else if 0xE00 ≤ off ∧ off ≤ 0xEE0 then some (Config.fusedVf (8 + (off - 0xE00) / 8)).toNat else none
    | _ => none

/-- The value register `a` (a byte address of a page) holds after cold reset (R11). -/
def resetWord (a : Nat) : Word :=
  match pageAt a with
  | none => 0
  | some p =>
    let off := a - p.base
    match specialReset p off with
    | some v => w64 v
    | none =>
      match rowAt p.kind off with
      | some r => w64 r.resetValue
      | none => 0

end Sys2Proof.Machine
end

