-- ==== Sys2Proof/Machine/State.lean ====
section
/-! DEFINITION. The whole state of the part as plain data: register pages, and behind them what each block holds. -/

namespace Sys2Proof.Machine

/-- The response of a page or I/O-region access, on its way to its requester, and the mclk at which it comes (R58, R59, R63). -/
structure Resp where
  who : Requester
  tag : Nat
  addr : PA
  write : Bool
  data : Line
  err : Bool
  at_ : Nat := 0
  deriving DecidableEq, Repr

/-- An error record (R413): four words. -/
structure Rec where
  w0 : Word
  w1 : Word
  w2 : Word
  w3 : Word
  deriving DecidableEq, Repr

/-- A Hinge: a queue of up to 16 mesh requests for each class and the requests of the keyway root (R56), each with the mclk at which
its crossing ends (R57); the mclk from which its next turn may begin; power and reset requests that wait for the hold count, by
page address / 4,096 (2 x REQ for power, 1 for GO; R54); and writes held until their block's restore (R462). -/
structure Hinge where
  classQ : Tab (List (Nat × PageReq)) := []
  rootQ : List (Nat × PageReq) := []
  from_ : Nat := 0
  waiting : Tab Nat := []
  deferred : List PageReq := []
  deriving DecidableEq, Repr

/-- A write of a TCT entry (index below 4,096) or of TCT_APERTURE i (index 4,096 + i) that waits for its apply edge (R74). -/
structure TctPend where
  ix : Nat
  value : Word
  edge : Nat
  deriving DecidableEq, Repr

/-- The tenant class table as every replica holds it (R74): values in force, and writes that wait. -/
structure TctState where
  now : Tab Word := []
  pend : List TctPend := []
  deriving DecidableEq, Repr

/-- An OTP key slot (R83). -/
structure OtpSlot where
  written : Bool := false
  type : Fin 4 := 0
  value : BitVec 384 := 0
  deriving DecidableEq, Repr

/-- A Safelight nonce: issue time, whether it may still be used (R103, R104). -/
structure Nonce where
  value : BitVec 384
  issued : Nat
  deriving DecidableEq, Repr

/-- A mailbox request whose reply the Ward holds until its fixed completion time (R88). -/
structure MbxReply where
  due : Nat
  result : Nat
  out : List Word
  deriving DecidableEq, Repr

/-- A mailbox's internal state: doorbell edge (aclk) of the request STATUS describes, the reply held, and whether the
request's command waits for a page access, a signature or a check to end, and whether a Ward reset made it wait anew (R84-R88). -/
structure MbxState where
  edge : Nat := 0
  held : Option MbxReply := none
  waiting : Bool := false
  again : Bool := false
  deriving DecidableEq, Repr

/-- The Ward (R82-R84, R442): whether it runs, its OTP slots, nonces, grant counter, mailboxes, SPDM sessions, watchdog
history, and the memory key table that all 16 controllers hold alike (R79). -/
structure WardState where
  running : Bool := false
  failed : Bool := false
  otp : Tab OtpSlot := []
  nonces : List Nonce := []
  grantNext : Nat := 1
  mbx : Tab MbxState := []
  sessions : Nat := 0
  expiries : List Nat := []
  resetAt : Nat := 0
  keys : Tab (BitVec 512) := []
  deriving DecidableEq, Repr

/-- A message on its way from an agent to its stop, and the mclk at which the agent's terms end (R155, R177). -/
structure OutMsg where
  at_ : Nat
  flit : Flit
  deriving DecidableEq, Repr

/-- State of a line in a cluster L2; a line it does not hold is I (R186). -/
inductive Moesi where
  | m | o | e | s
  deriving DecidableEq, Repr

/-- A line of a cluster L2 with the key index of the request that filled it (R80, R186) and the class a writeback of it travels in. -/
structure L2Line where
  st : Moesi
  data : Line
  key : KeyIx
  poison : Bool := false
  cls : Cls := 0
  deriving DecidableEq, Repr

/-- A line of a core's L1D; the L2 is inclusive of it (R186). -/
structure L1Line where
  data : Line
  dirty : Bool := false
  deriving DecidableEq, Repr

/-- A data way of a slice (R183), with its recency (R198). -/
structure DataWay where
  line : Nat
  data : Line
  dirty : Bool
  poison : Bool
  key : KeyIx
  cls : Cls
  used : Nat
  deriving DecidableEq, Repr

/-- State of a line of a directory entry (R185). -/
inductive LineState where
  | i | s | x | o
  deriving DecidableEq, Repr

/-- A directory entry (R184); PRES is the rising list of clusters that may hold a line of the block. -/
structure DirWay where
  block : Nat
  cls : Cls
  remote : Bool
  pres : List Nat
  ls : List LineState
  used : Nat
  deriving DecidableEq, Repr

/-- The operations a slice serves (R187, R201, R204, R210, R273). -/
inductive SliceOp where
  | rd | rdown | prefetchR | prefetchW | blankC | wrline | cmoClean | cmoFlush | cmoDiscard
  | uread | uwrite | aadd | acas | ublank | bisnp | maintInv | maintClean | maintFlush | maintBlank | latchFill
  deriving DecidableEq, Repr

/-- A request inside a slice: what is asked, and the message that asked it. -/
structure SliceReq where
  op : SliceOp
  f : Flit
  deriving DecidableEq, Repr

/-- What a fill buffer waits for (R189, R192, R194, R195). -/
inductive Phase where
  | snoop      -- snoop responses
  | evict      -- snoop responses of a directory victim
  | rekey      -- snoop responses of a key-index invalidation
  | fill       -- a line from memory
  | ack        -- the acknowledgement with which the request completes (R143, R535)
  | done       -- only a writeback's acknowledgement
  deriving DecidableEq, Repr

/-- A fill buffer (R194): the request it serves, what it waits for, the data collected, its set-wait queue (R196), whether it has waited for snoops (R189), and the key index of the data collected. -/
structure FillBuf where
  id : Nat
  req : SliceReq
  phase : Phase
  waitFor : List Nat
  victim : Option Nat
  data : Option (Line × Bool × Bool)
  ownerHeld : Bool
  wb : Nat
  after : Option Flit
  waiting : List SliceReq
  snooped : Bool := false
  dataKey : KeyIx := 0
  deriving DecidableEq, Repr

/-- A maintenance operation of a class that runs in a slice (R204-R206): operation, scope, address, length, way and set as
written, the key index and tenant of its requester, whether the Ward asked, when it began, the lines of its walk examined so far,
whether one is being worked on, how many it acted on, its result so far, the mclk at which the next line may enter the tag stage and
that at which the lines examined are done. -/
structure MaintRun where
  op : Nat
  scope : Nat
  addr : Nat
  len : Nat
  way : Nat
  set : Nat
  key : KeyIx
  tenant : Tenant
  ward : Bool
  begun : Nat
  seen : Nat := 0
  busy : Bool := false
  lines : Nat := 0
  result : Nat := 0
  next : Nat := 0
  done : Nat := 0
  deriving DecidableEq, Repr

/-- A slice and its directory (R183-R217). Ways are listed by 16 x set + way; `wbDue` counts the writebacks of maintenance,
emptying and retirement that memory has not acknowledged; `walked` says that the retirement walk is done; `corr` holds the aclk
of the corrected records of the last 24 h (R437); `snpOut` lists the cluster of each snoop without a response, and `snpWait` the
snoops that wait because their cluster has two (R149). -/
structure Slice where
  ways : Tab DataWay := []
  dir : Tab DirWay := []
  bufs : List FillBuf := []
  lanes : List SliceReq := []
  nextId : Nat := 0
  clockUse : Nat := 0
  maint : Tab MaintRun := []
  latchEnds : Option Nat := none
  walkEnds : Option Nat := none
  walked : Bool := false
  wbDue : Nat := 0
  corr : List Nat := []
  snpOut : List Nat := []
  snpWait : List Flit := []
  deriving DecidableEq, Repr

/-- A HOME_MAP write that waits for its apply edge in aclk (R212): the buckets it holds, and the map it writes, if it does. -/
structure HomePend where
  edge : Nat
  hold : List Nat
  map : Option (Tab Nat)
  deriving DecidableEq, Repr

/-- The replicas of HOME_MAP, all alike (R181, R212): slice of each bucket where it differs from b mod 96, buckets held,
the number of changes applied, the change that waits for its apply edge, and the slice being retired. -/
structure HomeState where
  map : Tab Nat := []
  hold : List Nat := []
  gen : Nat := 0
  pend : Option HomePend := none
  retire : Option Nat := none
  deriving DecidableEq, Repr

/-- How a line of DRAM was stored in one channel copy: key it was encrypted under (none: plaintext), code symbols in
error, and whether P was added (R235-R239). -/
structure LineAttr where
  key : Option (BitVec 512) := none
  errs : List Nat := []
  poison : Bool := false
  deriving DecidableEq, Repr

/-- A read inside a controller (R229): the dclk its intake ends, whether it has failed before (R242), and whether a
command has been issued for it. -/
structure McRead where
  f : Flit
  at_ : Nat
  again : Bool := false
  seen : Bool := false
  deriving DecidableEq, Repr

/-- A read whose RD has issued: the dclk its data leaves the controller (R229). -/
structure McFlight where
  r : McRead
  out : Nat
  deriving DecidableEq, Repr

/-- A journaled write (R228, R241), and the dclk its WR command issued. -/
structure JournalEntry where
  f : Flit
  issued : Option Nat
  seen : Bool := false
  deriving DecidableEq, Repr

/-- An injection armed by MC_INJECT (R249): kind 1 to 3 and the line. -/
structure Inject where
  kind : Nat
  line : Nat
  deriving DecidableEq, Repr

/-- A bank: its open row, the window occurrence and the class that opened it, whether a refresh came since its last access, and the dclk of
its last ACT, PRE, RD and WR (R227, R229). -/
structure Bank where
  row : Option Nat := none
  win : Nat := 0
  cls : Nat := 0
  refreshed : Bool := false
  act : Nat := 0
  pre : Nat := 0
  rd : Nat := 0
  wr : Nat := 0
  deriving DecidableEq, Repr

/-- What links the commands of a subchannel (R227): the last four ACTs and the bank group of the last, and the last column
command: its dclk, bank group, rank, and whether it wrote. -/
structure SubTiming where
  acts : List Nat := []
  actBg : Nat := 0
  col : Nat := 0
  colBg : Nat := 0
  colRank : Nat := 0
  colWrite : Bool := false
  used : Bool := false
  deriving DecidableEq, Repr

/-- A memory controller behind its pages (R224-R246): reads queued and in flight, reads held by a freeze, the write journal,
commands (newest first), banks, command timing, the dclk at which frame 0 begins and that at which a freeze suspended the frame, the dclk before
which no command issues, shares in force, the freeze (its dclk, its aclk, whether self-refresh was entered), injections, lines
the scrub rewrites, corrections by device, resync list, the dclk at which the last request was gone, DDR PHY shadows and armed subchannels, the
next bank REFsb refreshes, device mode registers, the scrub pass's start and the last ZQ calibration in aclk, the rank whose MR4 is read next,
training failures, and the mclk at which zeroing began (R488). -/
structure Mc where
  reads : List McRead := []
  flight : List McFlight := []
  held : List McRead := []
  journal : List JournalEntry := []
  cmds : List Word := []
  banks : Tab Bank := []
  timing : Tab SubTiming := []
  frame0 : Option Nat := none
  stopped : Option Nat := none
  startEdge : Option Nat := none
  cmdFrom : Nat := 0
  shares : List Nat := []
  frozenAt : Option (Nat × Nat) := none
  frozenSr : Bool := false
  caNext : Bool := false
  inject : Option Inject := none
  rewrite : List Nat := []
  devCorr : Tab Nat := []
  resync : List Nat := []
  lastReq : Nat := 0
  selfRefresh : Bool := false
  shadow : Tab Word := []
  armed : List Nat := []
  refBank : Nat := 0
  modeRegs : Tab Nat := []
  mpcWaits : Bool := false
  scrubBase : Nat := 0
  zqAt : Nat := 0
  mrrRank : Nat := 0
  trainFails : Nat := 0
  zeroAt : Option Nat := none
  deriving DecidableEq, Repr


/-- A line of the epoch store buffer: data, and which of its bytes are buffered (R125). -/
structure BufLine where
  data : Line
  mask : Nat
  deriving DecidableEq, Repr

/-- The architectural state of a hart (R421): pc, mode, integer, floating-point and vector registers, CSRs by number. -/
structure Arch where
  pc : Word := 0
  priv : Nat := 3
  virt : Bool := false
  x : Tab Word := []
  f : Tab Word := []
  v : Tab (BitVec 256) := []
  csr : Tab Word := []
  deriving DecidableEq, Repr

/-- One copy of a Negative (R421): its header word, the hart's state, its timer compare, and the words that stand for no
state (reserved and unused). -/
structure NegCopy where
  head : Word := 0
  a : Arch := {}
  cmp : Word := 0
  extra : Tab Word := []
  deriving DecidableEq, Repr

/-- An epoch of a hart (R124-R127): the copy that holds its Negative, the mclk it began, instructions retired, its buffered
stores (a mask of 0 holds a line without storing, R131), whether it is an I/O-region access's own epoch, its cache-block
operations, an error injected into it (R119), and when and why it closed. -/
structure Epoch where
  copy : Nat
  begun : Nat
  instrs : Nat := 0
  stores : Tab BufLine := []
  io : Bool := false
  cbos : List Flit := []
  inject : Nat := 0
  cause : Nat := 0
  closedAt : Nat := 0
  deriving DecidableEq, Repr

/-- An instruction of a hart that waits for lines (R130, R134): whether it must own them, which of them bypass the caches
(PBMT = NC), the lines not yet come, those that have come and stand in the fill shadow, whether one was answered with
ERROR, and the mclk it began to wait. -/
structure Miss where
  instr : Instr
  own : Bool
  nc : List Nat
  lines : List Nat
  got : Tab L2Line
  err : Bool := false
  since : Nat := 0
  deriving DecidableEq, Repr

/-- A load reservation (R106, R131): the line, and the mclk at which the LR retired. -/
structure Resv where
  line : Nat
  since : Nat
  deriving DecidableEq, Repr

/-- Why a hart issues nothing for now (R106, R451). -/
inductive HartWait where
  | wfi
  | pause (until_ : Nat)
  | wrs (until_ : Nat)
  deriving DecidableEq, Repr

/-- An I/O-region access of a hart that is outstanding (R121, R131): what retires on its response. -/
structure IoWait where
  instr : Instr
  pa : PA
  write : Bool
  issued : Nat
  deriving DecidableEq, Repr

/-- A hart (R105-R135): its architectural state, prediction epoch and predictor entries (by epoch), its open epoch and
those that await commit, its reservation, misses, the fill-shadow lines of the instruction now performed and which of them bypass the
caches (R109, R134), the head-of-buffer operation that waits for commits, its I/O access outstanding, what it waits for, whether a FENCE holds its memory accesses, cache-block operations not yet acknowledged, its
presentation lines (bit 0 M, 1 S, 2 to 8 guest levels 1 to 7; R380), timer compare (R120), the Negative copy to write next,
whether it is parked or lost, the reprint that restores it (the mclk it ends), and whether a debugger halts it. Reset: R484, log entry 3. -/
structure HartState where
  a : Arch := {}
  started : Bool := false
  predEpoch : Nat := 0
  predictor : List Nat := []
  epoch : Option Epoch := none
  closed : List Epoch := []
  resv : Option Resv := none
  misses : List Miss := []
  shadow : Tab L2Line := []
  bypass : List Nat := []
  head : Option Instr := none
  io : Option IoWait := none
  wait : Option HartWait := none
  fenceWait : Bool := false
  cbos : Nat := 0
  lines : Nat := 0
  cmp : Word := 0xFFFFFFFFFFFFFFFF
  negCopy : Nat := 0
  parked : Bool := false
  lost : Bool := false
  restore : Option Nat := none
  skid : Option Nat := none
  halted : Bool := false
  ran : Nat := 0
  deriving DecidableEq, Repr

/-- A core (R21, R119, R134, R423-R430, R450-R455): C-state 0 to 3, the entry that runs (state, steps done) and a wake event sampled in it, the mclk an exit ends, L1D
lines, L1I lines, whether the second of its harts has the turn and when the turn began (R426), an armed injection (R119),
faults since cold reset, the wake list (R453), and sequences that run: a domain reset's end, the start of the Ward's BIST, the end of a
transition (aclk) and the point it raises to (R464). -/
structure CoreState where
  cstate : Nat := 0
  entry : Option (Nat × Nat) := none
  wake : Bool := false
  exitAt : Option Nat := none
  l1d : Tab L1Line := []
  l1i : List Nat := []
  second : Bool := false
  turnAt : Nat := 0
  inject : Nat := 0
  faults : Nat := 0
  wakeList : List Nat := []
  domainReset : Option Nat := none
  fencedAt : Option Nat := none
  dvfsEnd : Option Nat := none
  dvfsTo : Option Nat := none
  deriving DecidableEq, Repr

/-- A cluster: its L2 with recency (R186), the lines whose WRLINE has no answer yet, the snoops it has taken and not answered, each with
the mclk it came (R106, R129), its Negative store by 2 x slot + copy (R420), K-state and the entry that runs (R456, R457), and sequences that run. -/
structure Cluster where
  l2 : Tab L2Line := []
  l2Used : Tab Nat := []
  clockUse : Nat := 0
  evicting : Tab L2Line := []
  snoops : List (Nat × Flit) := []
  neg : Tab NegCopy := []
  kstate : Nat := 0
  entry : Option (Nat × Nat) := none
  exitAt : Option Nat := none
  domainReset : Option Nat := none
  deriving DecidableEq, Repr


/-- What a Dwemon engine is doing (R289 DE_STATE). -/
inductive EngSt where
  | idle | task | handler | halted | scrub
  deriving DecidableEq, Repr

/-- A store-buffer entry (R295): window 0 DMEM, 1 IMEM, 2 system (a physical address), and the context that issued it. -/
structure SbEntry where
  window : Fin 3
  addr : Nat
  ea : Nat
  size : Nat
  data : Nat
  tenant : Tenant
  cls : Cls
  key : KeyIx
  deriving DecidableEq, Repr

/-- A stream-queue entry (R274, R275): 0 LGET, 1 LPUT, 2 LBLANK; whether its message has left. -/
structure StreamEntry where
  id : Nat
  kind : Fin 3
  dmem : Nat
  pa : Nat
  ea : Nat
  data : Line
  poison : Bool
  sent : Bool
  tenant : Tenant
  cls : Cls
  key : KeyIx
  deriving DecidableEq, Repr

/-- An entry of a translation cache (R257, R350, R396): virtual page, write, physical page. -/
structure TlbEntry where
  vpn : Nat
  write : Bool
  ppn : Nat
  deriving DecidableEq, Repr

/-- A page-table line that a walk of an engine, a queue, a channel or a port has read (R22, R350): whether the read failed, and whether
the line came poisoned. -/
structure WalkLine where
  line : Nat
  data : Line
  err : Bool
  poison : Bool
  deriving DecidableEq, Repr

/-- What an instruction in M waits for (R269, R273, R279). -/
inductive MWait where
  | load (rd : Reg) (size : Nat) (sx : Bool) (pa : Nat) (ea : Nat)
  | atomic (rd : Reg) (w32 : Bool) (ea : Nat)
  | join (rd : Reg) (add : Word) (pa : Nat) (ea : Nat)
  deriving DecidableEq, Repr

/-- A shadow level (R304): DE_EPC, DE_ESAVE, DE_RUNPRI and DE_CAUSE.DS of the level's entry. -/
structure Shadow where
  epc : Nat
  esave : Word
  pri : Nat
  deriving DecidableEq, Repr

/-- A delivery of the router at an engine's target (R284, R371). -/
structure Delivery where
  src : Source
  prio : Nat
  preempt : Nat
  secure : Bool
  claimed : Bool
  cls : Cls
  deriving DecidableEq, Repr

/-- A target-cache entry (R264): tag PC, target, prediction epoch. -/
structure TargetEntry where
  pc : Nat
  target : Nat
  epoch : Nat
  deriving DecidableEq, Repr

/-- A Dwemon engine (R252-R311). `slot` is the branch whose delay slot stands at pc, `after` the pc that follows it, `entry` cycle 0 of the
interrupt entry after which no instruction has run (R299, R301). -/
structure Engine where
  g : Tab Word := []
  pc : Nat := 0
  slot : Option Nat := none
  after : Nat := 0
  ie : Bool := false
  shadows : List Shadow := []
  evec : Nat := 0
  cause : Word := 0
  tval : Word := 0
  ipDoor : Bool := false
  ipStrm : Bool := false
  ien : Nat := 0
  ipri : Nat := 0xFFFFFF00
  deliv : Option Delivery := none
  timecmp : Word := 0xFFFFFFFFFFFFFFFF
  irqlvl : Nat := 0
  strmerr : Word := 0
  pred : Nat := 0
  imem : Tab Byte := []
  dmem : Tab Byte := []
  dpoison : List Nat := []
  sbuf : List SbEntry := []
  sysOut : List SbEntry := []
  stream : List StreamEntry := []
  rstack : List Nat := []
  tcache : Tab TargetEntry := []
  st : EngSt := .idle
  waiting : Bool := false
  haltCause : Nat := 0
  haltPc : Nat := 0
  mwait : Option MWait := none
  task : Option Line := none
  ctx : Option Line := none
  ctxDue : Bool := false
  tlb : List TlbEntry := []
  walk : List WalkLine := []
  walkDue : Option Nat := none
  ending : Option Nat := none
  ended : Bool := false
  owner : Option Cls := none
  lastCls : Option Cls := none
  startF : Nat := 0
  free : Nat := 0
  hazard : Option (Reg × Nat) := none
  scrubDue : Bool := false
  scrubEnd : Option Nat := none
  cycle0 : Nat := 0
  entry : Option Nat := none
  faults : Nat := 0
  deriving DecidableEq, Repr

/-- The Ward's processor after its reset (R290): it runs only in handler context, so one level stands. DESIGN CHOICE: the manual gives neither
the level nor the pc at which it starts (log entry 112). -/
def wardProcessor : Tab Engine := [(96, { shadows := [⟨0, 0, 0xFF⟩], st := .handler })]

/-- What a completion of the queue waits for (R325-R329). -/
inductive ComplPhase where
  | write | join | cont
  deriving DecidableEq, Repr

/-- What a completion has asked the mesh for: its own access, the tenant's context entry, or a page-table line (R22, R78). -/
inductive ComplDue where
  | access | context | walk (line : Nat)
  deriving DecidableEq, Repr

/-- A completion in progress (R325-R329): its tag, the descriptor, the record's line, the context once known (none in it: Bare), tenant and
class it is performed in, what it waits for, whether the join follows, whether its end frees the engine, what it has asked for, and the
page-table lines of the walk in progress. -/
structure Compl where
  tag : Nat
  desc : Line
  rec_ : Line
  ctx : Option (Option Line)
  tenant : Tenant
  cls : Cls
  phase : ComplPhase
  joins : Bool
  frees : Bool
  due : ComplDue := .access
  lines : List WalkLine := []
  deriving DecidableEq, Repr

/-- A copy of a stolen descriptor (R335): its tag, and the mclk its flit was presented. -/
structure StolenCopy where
  tag : Nat
  desc : Line
  at_ : Nat
  deriving DecidableEq, Repr

/-- A refill read outstanding (R330). -/
structure Refill where
  tag : Nat
  cls : Cls
  addr : Nat
  deriving DecidableEq, Repr

/-- A task queue (R312-R341): each class's entries from bottom to top, the running task, completions in progress, spill
writes and refills outstanding, stolen copies kept, the steal round (victims still to try, after the one asked), the backoff end, the first
mclk each class's lane is free, the mclk from which each class's entries may be popped (R319, R323), and whether a push has ended the round (R332). -/
structure Queue where
  deque : Tab (List Line) := []
  running : Option Line := none
  compl : List Compl := []
  nextTag : Nat := 0
  spills : List (Cls × Nat) := []
  refills : List Refill := []
  stolen : List StolenCopy := []
  round : Option (List (Cls × Nat)) := none
  backoff : Option Nat := none
  retired : Bool := false
  lane : Tab Nat := []
  ready : Tab Nat := []
  cut : Bool := false
  deriving DecidableEq, Repr


/-- A flit that has left its injection queue (R154, R173): the stop it stands at or has left, the stop it goes to (the same
once it has arrived), the mclk at which it enters that link (or reached its stop), the periods it runs behind its scheduled
traversal (0 on a main lane), its consecutive failed tries of the hop, and whether the sender's copy waits to be resent. -/
structure Moving where
  flit : Flit
  at_ : Nat
  next : Nat
  sent : Nat
  late : Nat := 0
  tries : Nat := 0
  waits : Bool := false
  deriving DecidableEq, Repr

/-- A schedule (R157, R161, R164, R166): shares by 16 x plane + class (none listed: the reset shares), entries by
96 x stop + 24 x plane + slot (none: uniform-24), reel length and generation. -/
structure Sched where
  shares : List Nat := []
  entries : Option (Tab Word) := none
  reel : Nat := 60
  gen : Nat := 0
  deriving DecidableEq, Repr

/-- A flit discarded over a failed link (R175, R435). -/
structure Dropped where
  flit : Flit
  stop : Nat
  deriving DecidableEq, Repr

/-- The mesh (R147-R176): the mclk of slot 0 of period 0 and of reel position 0, the schedule in force, the one that waits
its swap edge in aclk and the address of its image, the mclk at which injection paused for the swap and for package sleep (R459), injection queues by
16 x (4 x stop + plane) + class, the mclk after the last injection by 4 x stop + plane and by queue, flits on their way, senders'
copies of messages not answered or accepted, halves of two-flit messages, ingress queues by 8 x stop + port, and discarded flits. -/
structure Mesh where
  start : Option Nat := none
  reel0 : Nat := 0
  sched : Sched := {}
  next : Option Sched := none
  edge : Option Nat := none
  load : Option Nat := none
  paused : Option Nat := none
  sleep : Option Nat := none
  queues : Tab (List Flit) := []
  injected : Tab Nat := []
  freed : Tab Nat := []
  moving : List Moving := []
  copies : List Flit := []
  halves : List Flit := []
  ingress : Tab (List Flit) := []
  drops : List Dropped := []
  deriving DecidableEq, Repr


/-- Where a DMA channel stands between its doorbell and its next descriptor (R347, R350): nothing asked, context read, descriptor
read, descriptor decoded, in progress, write-back sent, write-back answered. -/
inductive DmaPhase where
  | none | context | fetch | decoded | active | writeBack | backed
  deriving DecidableEq, Repr

/-- What became of a line a channel started: read asked, data here, write asked, performed. -/
inductive DmaLineSt where
  | reading | ready | writing | done
  deriving DecidableEq, Repr

/-- A line a channel has started (R345): its tag, the ring index of its descriptor, the first byte of it in the descriptor and
how many. -/
structure DmaLine where
  id : Nat
  index : Nat
  pos : Nat
  n : Nat
  va : Nat
  pa : Nat
  st : DmaLineSt
  data : Line
  poison : Bool
  deriving DecidableEq, Repr

/-- A descriptor a channel holds (R343): ring index, physical address, its four words, bytes whose lines have started, whether
it was taken up, whether a line of it was poisoned, and whether it was refused (R344). -/
structure DmaDesc where
  index : Nat
  pa : Nat
  words : List Word
  begun : Nat := 0
  live : Bool := false
  poisoned : Bool := false
  bad : Bool := false
  deriving DecidableEq, Repr

/-- A failed access of a channel (R357): kind (DMA_CH_ERR.KIND), direction, virtual and physical address. -/
structure DmaErr where
  kind : Nat
  write : Bool
  va : Nat
  pa : Nat
  deriving DecidableEq, Repr

/-- What a channel does once the walk in progress has its page-table line (R350): read descriptor i of the ring (read ahead or not), write
the descriptor in progress back with a status, or go on with the lines of a burst. -/
inductive DmaWant where
  | desc (i : Nat) (ahead : Bool)
  | back (status : Nat)
  | lines (index n : Nat)
  deriving DecidableEq, Repr

/-- A DMA channel (R342-R362): phase and the mclk it may go on, context in use (none: Bare), its translation cache, the page-table lines of
the walk in progress, the one asked for, what waits for it, descriptors held, lines started, credit (in 1/256 line) at a mclk, a failed access not yet acted on, and the cause it halts with once
drained. -/
structure Dma where
  phase : DmaPhase := .none
  goAt : Nat := 0
  ctx : Option Line := none
  tlb : List TlbEntry := []
  walk : List WalkLine := []
  walkDue : Option Nat := none
  want : List DmaWant := []
  descs : List DmaDesc := []
  lines : List DmaLine := []
  credit : Nat := 0
  creditAt : Nat := 0
  err : Option DmaErr := none
  halt : Nat := 0
  deriving DecidableEq, Repr

/-- An item presented at a target (R374): a source, or the domain of a scan-mode item, its priority, preemption value, order
number, class and world. -/
structure Presented where
  scan : Bool
  num : Nat
  prio : Nat
  pre : Nat
  order : Nat
  cls : Cls
  secure : Bool
  deriving DecidableEq, Repr

/-- The service of a claimed source (R376): target and preemption value. -/
structure Serving where
  target : Nat
  pre : Nat
  deriving DecidableEq, Repr

/-- The interrupt router (R363-R387) behind its pages: presentations by target, claimed sources, targets with an IRQ flit on its
way, those of them with a newer change and its class (R380), latched edge-capture cells with their mclk (R382), targets it asked to wake
(R381), and the first mclk each class's lane may start a decision (R375). -/
structure Router where
  held : Tab Presented := []
  active : Tab Serving := []
  flits : List Nat := []
  changed : List (Nat × Cls) := []
  cells : Tab Nat := []
  wakes : List Nat := []
  lanes : Tab Nat := []
  deriving DecidableEq, Repr

/-- A message a port hands to a link: completion, page-request response, ATS invalidation or translation, posted write, request;
with a status (0 successful, 1 Unsupported Request, 2 completer abort, 3 poisoned data). -/
structure FabMsg where
  link : LinkId
  kind : FabKind
  rid : Nat
  tag : Nat
  status : Nat
  addr : Nat
  data : Line
  deriving DecidableEq, Repr

/-- A line of an inbound request being served (R395, R396, R399): its tag, the request, the first byte of the line in it, and the
status and data that came for it. -/
structure InboundWork where
  tag : Nat
  req : Inbound
  pos : Nat
  got : Option (Nat × Line) := none
  deriving DecidableEq, Repr

/-- A departure that runs (R404, R405): 1 release awaited, 2 flushing, 3 surprise (INV runs); when it began (aclk), windows whose
maintenance has not begun, and whether an arrival follows (a link or port reset, R49; a cleared DPC, R406). -/
structure Departure where
  phase : Nat
  since : Nat
  todo : List Nat := []
  again : Bool := false
  deriving DecidableEq, Repr

/-- A capacity release under way (R398): window, last unit kept, when it was queued (aclk), and whether its FLUSH runs. -/
structure DcdRelease where
  win : Nat
  keep : Nat
  since : Nat
  flushing : Bool := false
  deriving DecidableEq, Repr

/-- A base register of a function behind a link (R393): requester ID, first address, bytes. -/
structure Bar where
  rid : Nat
  base : Nat
  size : Nat
  deriving DecidableEq, Repr

/-- An outbound request without completion (R393), and the mclk it left the pins. -/
structure Outbound where
  f : Flit
  at_ : Nat
  deriving DecidableEq, Repr

/-- What a port's own read is for (R78, R396): the context entry of a function's tenant, or a page-table line. -/
inductive PortRead where
  | context (n : Nat)
  | walk (line : Nat)
  deriving DecidableEq, Repr

/-- A link of a fabric port behind its page (R388-R411): the partner, its base registers, contexts read for function entries, the port's
reads outstanding by tag, the page-table lines of the walk in progress, requests that wait for either (ATS: a translation request), its
translation cache, outbound requests, inbound lines, its departure or capacity release, IDE stream key, an arrival that waits
for that key, DPC, and PERST_N raised. -/
structure Link where
  partner : Option Partner := none
  bars : List Bar := []
  ctx : Tab (Option Line) := []
  reads : List (Nat × PortRead) := []
  walk : List WalkLine := []
  waits : List (Inbound × Bool) := []
  tlb : List TlbEntry := []
  outstanding : List Outbound := []
  inbound : List InboundWork := []
  depart : Option Departure := none
  dcd : Option DcdRelease := none
  ideKey : Option (BitVec 576) := none
  waitsKey : Bool := false
  dpc : Bool := false
  perst : Bool := false
  deriving DecidableEq, Repr

/-- A fabric port (R410): event queue, overflow, when the ATS invalidation that runs was sent (aclk), what was handed to the
links, the next tag of an inbound line request, and the end of a domain reset of the port (aclk). -/
structure Port where
  events : List Word := []
  lost : Bool := false
  atsAt : Option Nat := none
  tx : List FabMsg := []
  nextTag : Nat := 0
  resetEnd : Option Nat := none
  deriving DecidableEq, Repr

/-- The always-on supervisors (R458-R472): package sleep entry step done, attempt allowed, a wake event sampled in it, end of an
exit (aclk), last change of each die's cap (aclk), sensors at 115 C and sensors at or above ALERT in the last sample, starts of a
stretch and of a VDD_AON warning (mclk), by how many quarters of an mclk past stretches have set the mesh behind the clocks that do not stretch, whether the board drives PROCHOT_N low, and whether the part is shut down by a trip. -/
structure Power where
  pkgStep : Nat := 0
  pkgTry : Bool := false
  fired : Bool := false
  pkgExit : Option Nat := none
  capAt : Tab Nat := []
  hot : List Nat := []
  alerted : List Nat := []
  stretchFrom : Option Nat := none
  lag : Nat := 0
  aonFrom : Option Nat := none
  prochot : Bool := false
  off : Bool := false
  deriving DecidableEq, Repr

/-- Bring-up (R485-R492): pins sampled, the stage whose work is done (0 none, 1 AON, 2 ROM, 3 AUTH, 4 MESH), the authenticated image,
the aclk from which stages are counted and at which stage 3 began, and whether a warm reset began it. -/
structure Boot where
  socket : Nat := 0
  testMode : Bool := false
  done : Nat := 0
  image : Option BootImage := none
  since : Nat := 0
  meshAt : Nat := 0
  warm : Bool := false
  deriving DecidableEq, Repr

/-- The I3C target and MCTP endpoint (R527-R529): dynamic address, target events enabled, lengths, reset action, endpoint ID,
value last returned, messages for the BMC (oldest first), DEV_HEALTH last sent, the value sent before it, and when (aclk), SPDM mailbox
in rotation. -/
structure Sideband where
  dynamic : Option Nat := none
  events : Bool := true
  mwl : Nat := 64
  mrl : Nat := 64
  rstact : Nat := 0
  eid : Nat := 0
  reply : Nat := 0
  out : List (List Byte) := []
  sentHealth : Nat := 0
  sentBefore : Nat := 0
  sentAt : Nat := 0
  spdmNext : Nat := 0
  bmcBusy : List Nat := []
  deriving DecidableEq, Repr

/-- The JTAG TAP (R530): instruction, boundary-scan update, DTMCS, DMI, debug-module registers, Safelight address, data and
result (R530 SL_DATA), and the value captured for shifting out. -/
structure Tap where
  ir : Nat := 0x02
  boundary : Nat := 0
  dtmcs : Nat := 0
  dmi : Nat := 0
  dm : Tab Word := []
  slAddr : Nat := 0
  slData : Nat := 0
  slResult : Nat := 0
  tdo : Nat := 0x2938443B
  deriving DecidableEq, Repr


/-- The state of the part. -/
structure State where
  /-- mclk since aclk and the timebase started (R8, R485); 96 mclk make one aclk. -/
  now : Nat := 0
  /-- Every register of every page, by address / 8, where it differs from its cold-reset value (R11). -/
  regs : Tab Word := []
  /-- Hinge queues by stop (R56). -/
  hinges : Tab Hinge := []
  /-- Responses of page and I/O accesses not yet taken by their requesters (R58). -/
  resps : List Resp := []
  /-- Records reported on the keyway and not yet in the central log (R25, R416). -/
  reports : List Rec := []
  /-- By page address / 4,096: when a page last reported its newest corrected record (aclk), and its COUNT then (R415). -/
  reported : Tab (Nat × Nat) := []
  /-- The central log's ring of 4,096 records, by sequence number mod 4,096 (R416). -/
  log : Tab Rec := []
  /-- Events of wired sources raised, with their mclk, and not yet taken by the router (R364). -/
  wires : List (Nat × Nat) := []
  /-- Messages handed to the mesh and not yet presented to a stop (R159). -/
  out : List OutMsg := []
  mesh : Mesh := {}
  tct : TctState := {}
  /-- HOME_MAP as every replica holds it (R181, R212). -/
  home : HomeState := {}
  /-- Bytes of DRAM by physical address; an unlisted byte reads 0 (R488). -/
  mem : List Host.Cell := []
  /-- How each stored line was written, by 2 x line + channel copy (R235-R239). -/
  attrs : Tab LineAttr := []
  harts : Tab HartState := []
  /-- The core that runs each hart, where it is not the core of its own number (R17, R423-R428). -/
  hartCore : Tab Nat := []
  cores : Tab CoreState := []
  clusters : Tab Cluster := []
  slices : Tab Slice := []
  mcs : Tab Mc := []
  ward : WardState := {}
  /-- The engines by tile; 96 is the Ward's processor. -/
  engines : Tab Engine := wardProcessor
  queues : Tab Queue := []
  /-- DMA channels by 16 x engine + channel (R342). -/
  dmas : Tab Dma := []
  router : Router := {}
  ports : Tab Port := []
  /-- Links by 4 x port + link (R390). -/
  links : Tab Link := []
  power : Power := {}
  boot : Boot := {}
  sideband : Sideband := {}
  tap : Tap := {}
  /-- The model's own: how many free values have been drawn. -/
  free : Nat := 0
  /-- The model's own: the commands that wait, first in, first out. -/
  pending : List Instr := []
  deriving DecidableEq, Repr

/-- The part right after cold reset (R11, R481). -/
def State.reset : State := {}

/-- Why a step stops with a fault: no behaviour of the manual stops the part as a machine, so there is no constructor. -/
inductive Fault where
  deriving DecidableEq, Repr

/-- Why a command has no meaning. -/
inductive Refusal where
  /-- Raised by exec for a command that is not modelled, with its mnemonic; safe: nothing can be proved of it. -/
  | notModelled (mnemonic : String)
  deriving DecidableEq, Repr

end Sys2Proof.Machine
end

