-- ==== Sys2Proof/Machine/Ops.lean ====
section
/-! DEFINITION. The operations every block shares: time, registers and their fields, access-fault capture (02 R45, R46),
error records (14 R413-R415), wired sources, messages, free values, tenants and classes (03 R66-R75). -/

namespace Sys2Proof.Machine

/-- The timebase, in aclk (R8, R476). -/
def State.tb (s : State) : Nat := s.now / 96

/-- Move the clock on to mclk `t`; never back. -/
def State.toMclk (s : State) (t : Nat) : State := { s with now := max s.now t }

/-- Move the clock on to the aclk edge `t`; never back. -/
def State.toAclk (s : State) (t : Nat) : State := s.toMclk (96 * t)

/-- Where mclk t lies on a clock that does not stretch (R172, R466), in quarters of a normal mclk: a stretched mclk lasts five. -/
def State.gridAt (s : State) (t : Nat) : Nat :=
  4 * t + s.power.lag + (match s.power.stretchFrom with
    | some f => t - f
    | none => 0)
/-- The first mclk at or after quarter r of that clock. -/
def State.mclkAt (s : State) (r : Nat) : Nat :=
  let r1 := r - s.power.lag
  match s.power.stretchFrom with
  | some f => if r1 ≤ 4 * f then ceilDiv r1 4 else f + ceilDiv (r1 - 4 * f) 5
  | none => ceilDiv r1 4

/-- The register at byte address `a` of a page (R11). -/
def State.reg (s : State) (a : Nat) : Nat := (Tab.get (resetWord a) s.regs (a / 8)).toNat

/-- Store a register. -/
def State.setReg (s : State) (a v : Nat) : State :=
  { s with regs := Tab.set (resetWord a) s.regs (a / 8) (w64 v) }

/-- Field `f` of the page at `pg`. -/
def State.fld (s : State) (pg : Nat) (f : Field) : Nat := bits (s.reg (pg + f.off)) f.hi f.lo

/-- Whether a one-bit field is 1. -/
def State.flag (s : State) (pg : Nat) (f : Field) : Bool := s.fld pg f == 1

/-- Store a field, leaving the register's other bits. -/
def State.setFld (s : State) (pg : Nat) (f : Field) (v : Nat) : State :=
  s.setReg (pg + f.off) (putBits (s.reg (pg + f.off)) f.hi f.lo v)

/-- Add to a counting field; it wraps at its width. -/
def State.bump (s : State) (pg : Nat) (f : Field) (n : Nat) : State := s.setFld pg f (s.fld pg f + n)

/-- Return every register of a page that `p` selects (by offset) to its cold-reset value. -/
def State.defaultPage (s : State) (pg : Nat) (p : Nat → Bool) : State :=
  { s with regs := s.regs.filter (fun e => !(decide (pg ≤ 8 * e.1) && decide (8 * e.1 < pg + 0x1000) && p (8 * e.1 - pg))) }

-- pages of the blocks (R36, R37)
def hingePg (n : Nat) : Nat := pageBase n 0x00
def clusterPg (c : Nat) : Nat := pageBase (tileStop c) 0x01
def corePg (k : Nat) : Nat := pageBase (tileStop (k / 4)) (0x02 + k % 4)
def slicePg (c : Nat) : Nat := pageBase (tileStop c) 0x08
def dirPg (c : Nat) : Nat := pageBase (tileStop c) 0x09
def enginePg (c : Nat) : Nat := pageBase (tileStop c) 0x0A
def queuePg (c : Nat) : Nat := pageBase (tileStop c) 0x0B
def dmaPg (c : Nat) : Nat := pageBase (tileStop c) 0x0C
def chanPg (c ch : Nat) : Nat := pageBase (tileStop c) (0x10 + ch)
def meshPg (n : Nat) : Nat := pageBase n 0x20
def negPg (c : Nat) : Nat := pageBase (tileStop c) 0x21
def mcPg (m i : Nat) : Nat := pageBase (mcStop m) (0x10 + i)
def phyPg (m sub : Nat) : Nat := pageBase (mcStop m) (0x14 + sub)
def portPg (p : Nat) : Nat := pageBase (fpStop p) 0x10
def linkPg (p l : Nat) : Nat := pageBase (fpStop p) (0x11 + l)
def aonPg : Nat := pageBase aonStop 0x40
def pwrPg : Nat := pageBase aonStop 0x41
def thermPg : Nat := pageBase aonStop 0x42
def irtPg (i : Nat) : Nat := pageBase irtStop (0x40 + i)
def mbxPg (n : Nat) : Nat := pageBase wardStop (0x40 + n)
def tctPg (i : Nat) : Nat := pageBase wardStop (0x60 + i)
def boltPg (i : Nat) : Nat := pageBase wardStop (0x80 + i)
def rasPg (i : Nat) : Nat := pageBase wardStop (0x88 + i)

-- PG_FAULT bits (R45)
def FAULT_CORR : Nat := 0
def FAULT_DEFER : Nat := 1
def FAULT_UNCORR : Nat := 2
def FAULT_LOCKED : Nat := 3
def FAULT_NOINIT : Nat := 4
def FAULT_TIMEOUT : Nat := 5
def FAULT_ACCESS : Nat := 6

/-- Whether class k is secure: class 15, and every class whose bit is set in BOLT_SLOTCLASS (R66). -/
def State.secureClass (s : State) (k : Nat) : Bool := k == 15 || bitN (s.reg (boltPg 0 + 0x108)) k

/-- Whether the part is bolted (R93). -/
def State.bolted (s : State) : Bool := s.flag (boltPg 0) R.BOLT_CTL_BOLT

/-- Whether BOLT_FPp[l] gives a link to the secure world (R92, R390). -/
def State.linkSecure (s : State) (p l : Nat) : Bool := bitN (s.reg (boltPg 0 + 0x140 + 8 * p)) l

/-- Whether a page belongs to the secure world: PG_STATUS.SECURE equals PG_BOLT.WORLD (R47). A channel bolted by
BOLT_DMACH and a link bolted by BOLT_FP follow R71 too (R362, R411). -/
def State.securePage (s : State) (p : Page) : Bool :=
  s.flag p.base R.PG_BOLT_WORLD ||
    (p.kind == .fpl && s.linkSecure p.inst (p.page - 1)) || (p.kind == .dmach && bitN (s.reg (boltPg 1 + 0x100 + 8 * (p.inst / 64))) (p.inst % 64))

/-- The word PG_FAULT_INFO captures for a fault of bit `b` (R46). -/
def faultInfo (b : Nat) (who : Requester) (off : Nat) (write : Bool) : Nat :=
  let own := match who.path with
    | .ward => (0xFFF, 15, 0)
    | .bmc => (0, 0, 0)
    | .safelight => (0, 0, 0)
    | _ => (who.tenant.val, who.cls.val, who.req % 65536)
  b <<< 60 + who.path.code <<< 56 + own.1 <<< 44 + own.2.1 <<< 40 + own.2.2 <<< 24 + (off / 8 % 512) <<< 3 +
    b01 write <<< 2 + 2

/-- Set an access-fault bit of PG_FAULT and capture the first such fault, or set OVER (R45, R46). -/
def State.accessFault (s : State) (pg b : Nat) (who : Requester) (off : Nat) (write : Bool) : State :=
  let s1 := s.setReg (pg + 0x10) (s.reg (pg + 0x10) ||| 2 ^ b)
  if s1.flag pg R.PG_FAULT_INFO_VALID then s1.setFld pg R.PG_FAULT_INFO_OVER 1
  else s1.setReg (pg + 0x18) (faultInfo b who off write)

/-- Raise a wired source: a pulse of 5 ns (12 mclk); occurrences less than 5 ns apart make one pulse (R364). -/
def State.pulse (s : State) (src : Nat) : State :=
  if s.wires.any (fun w => w.2 == src && decide (s.now < w.1 + 12)) then s else { s with wires := s.wires ++ [(s.now, src)] }

/-- The wired sources a page raises when it writes a record: a CORE page 16 c + k, a CLUSTER or Negative store page
16 c + 4, a TASKQ page 16 c + 7, the MESHSTOP page of a tile 16 c + 9 (R363, R418). -/
def recordSource (p : Page) : Option Nat :=
  match p.kind with
  | .core => some (16 * (p.inst / 4) + p.inst % 4)
  | .cluster => some (16 * p.inst + 4)
  | .neg => some (16 * p.inst + 4)
  | .taskq => some (16 * p.inst + 7)
  | .meshstop => if 12 ≤ p.inst ∧ p.inst < 108 then some (16 * (p.inst - 12) + 9) else none
  | _ => none

/-- Word 0 of a record (R413). -/
def recWord0 (type inst sev code count : Nat) (secure : Bool) : Nat :=
  type <<< 52 + (inst % 4096) <<< 40 + b01 secure <<< 39 + sev <<< 32 + code <<< 16 + count

/-- The four record words at `off` of a page. -/
def State.recAt (s : State) (pg off : Nat) : Rec :=
  ⟨w64 (s.reg (pg + off)), w64 (s.reg (pg + off + 8)), w64 (s.reg (pg + off + 16)), w64 (s.reg (pg + off + 24))⟩

/-- Write a record into the slot at `off` of a page. -/
def State.putRec (s : State) (pg off : Nat) (r : Rec) : State :=
  (((s.setReg (pg + off) r.w0.toNat).setReg (pg + off + 8) r.w1.toNat).setReg (pg + off + 16) r.w2.toNat).setReg
    (pg + off + 24) r.w3.toNat

/-- A block logs an error: the record enters its page (the newest moves to the older slot, R51), PG_FAULT shows the
severity (R45), the record is reported on the keyway and the page's record source is raised (R418). A corrected
event equal to the newest record only raises its COUNT and TIME (R415). -/
def State.record (s : State) (pg sev code addr detail : Nat) (secure : Bool) : State :=
  match pageAt pg with
  | none => s
  | some p =>
    let sec := secure || s.securePage p
    let s0 := s.setReg (pg + 0x10) (s.reg (pg + 0x10) ||| 2 ^ (min sev 2))
    let old := s0.recAt pg 0x40
    let same := sev == 0 && bits old.w0.toNat 31 16 == code && bits old.w0.toNat 33 32 == 0 &&
      bits old.w0.toNat 63 52 == p.type && old.w1 == w64 addr && bits old.w0.toNat 15 0 != 0
    if same then
      let n := min (bits old.w0.toNat 15 0 + 1) 0xFFFF
      s0.putRec pg 0x40 { old with w0 := w64 (putBits old.w0.toNat 15 0 n), w3 := w64 s.tb }
    else
      let r : Rec := ⟨w64 (recWord0 p.type p.inst sev code 1 sec), w64 addr, w64 detail, w64 s.tb⟩
      let s1 := (s0.putRec pg 0x60 old).putRec pg 0x40 r
      let s2 := { s1 with reports := s1.reports ++ [r], reported := Tab.set (0, 0) s1.reported (pg / 4096) (s1.tb, 1) }
      match recordSource p with
      | some src => s2.pulse src
      | none => s2

/-- Draw a free value of width w: a value the manual leaves open, constrained by nothing. -/
def State.draw (s : State) (w : Nat) : BitVec w × State := (Config.freeValue w s.free, { s with free := s.free + 1 })

/-- Hand a message to the mesh, to be presented at mclk `t` (R147, R159). -/
def State.sendAt (s : State) (t : Nat) (f : Flit) : State := { s with out := s.out ++ [⟨t, f⟩] }

/-- Hand a message to the mesh now. -/
def State.send (s : State) (f : Flit) : State := s.sendAt s.now f

/-- The reply to a message: its requester's stop, port and tag, on another plane with another operation (R147, R152). -/
def replyTo (f : Flit) (plane : Plane) (op : Fin 32) : Flit :=
  { f with plane := plane, dst := f.src, dport := f.sport, src := f.dst, sport := f.dport, op := op, part := 0, poison := false,
           data := 0, detail := 0 }

-- operation codes (R152)
def OP_RD : Fin 32 := 0x00
def OP_RDOWN : Fin 32 := 0x01
def OP_UPGRADE : Fin 32 := 0x02
def OP_WRLINE : Fin 32 := 0x03
def OP_WRPART : Fin 32 := 0x04
def OP_RDIO : Fin 32 := 0x05
def OP_WRIO : Fin 32 := 0x06
def OP_DOORBELL : Fin 32 := 0x07
def OP_BLANK : Fin 32 := 0x08
def OP_CMO : Fin 32 := 0x09
def OP_PREFETCH : Fin 32 := 0x0A
def OP_DATA : Fin 32 := 0x00
def OP_ACK : Fin 32 := 0x01
def OP_BOUNCE : Fin 32 := 0x02
def OP_SNPRSP : Fin 32 := 0x03
def OP_SNPDATA : Fin 32 := 0x04
def OP_IODATA : Fin 32 := 0x05
def OP_ERROR : Fin 32 := 0x06
def OP_SNPINV : Fin 32 := 0x00
def OP_SNPSHARE : Fin 32 := 0x01
def OP_SNPCLEAN : Fin 32 := 0x02
def OP_BISNP : Fin 32 := 0x03
def OP_IRQ : Fin 32 := 0x04
def OP_BRD : Fin 32 := 0x00
def OP_BDATA : Fin 32 := 0x01
def OP_BWRLINE : Fin 32 := 0x02
def OP_BATOMIC : Fin 32 := 0x03
def OP_STEAL : Fin 32 := 0x04
def OP_STEALRSP : Fin 32 := 0x05
def OP_BACK : Fin 32 := 0x06
def OP_BBOUNCE : Fin 32 := 0x07

/-- A message with no payload from one stop's port to another's. -/
def mkFlit (plane : Plane) (src sport dst dport : Nat) (cls : Cls) (op : Fin 32) (tag addr : Nat) : Flit :=
  { plane := plane, dst := Fin.ofNat 120 dst, dport := Fin.ofNat 8 dport, src := Fin.ofNat 120 src, sport := Fin.ofNat 8 sport,
    cls := cls, op := op, part := 0, tag := Fin.ofNat 2048 tag, poison := false, count := 64, addr := BitVec.ofNat 52 addr,
    tenant := 0, key := 0, priv := 0, detail := 0, data := 0 }

/-- The BOUNCE of a message: on RSP for a REQ message, on BULK for a BULK message, in its class, with its TAG (R150). -/
def bounceOf (f : Flit) : Flit :=
  if f.plane = .bulk then { replyTo f .bulk OP_BBOUNCE with data := f.data, detail := f.detail }
  else { replyTo f .rsp OP_BOUNCE with data := f.data, detail := f.detail }

/-- DEV_HEALTH rises to `v`, never falls (R439): source 1,749 is raised, and SEQ names the causing record; on REPLACE SERVICE_N
goes low (R440). The Ward's event to the BMC is due (R440). -/
def State.raiseHealth (s : State) (v seq : Nat) : State :=
  if v ≤ s.fld (rasPg 0) R.RAS_HEALTH_STATE then s
  else
    let s1 := ((s.setFld (rasPg 0) R.RAS_HEALTH_STATE v).setFld (rasPg 0) R.RAS_HEALTH_SEQ seq).setFld (rasPg 0) R.RAS_HEALTH_PLDMPEND 1
    (if v = 2 then s1.setFld (rasPg 0) R.RAS_HEALTH_SERVICE 1 else s1).pulse 1749

/-- A message stands in the ingress queue of its destination port (R149, R150). -/
def State.arrive (s : State) (f : Flit) : State :=
  let k := 8 * f.dst.val + f.dport.val
  { s with mesh := { s.mesh with ingress := Tab.ins k ((Tab.get [] s.mesh.ingress k) ++ [f]) s.mesh.ingress } }

/-- An agent takes a message from its ingress queue. -/
def State.taken (s : State) (f : Flit) : State :=
  let k := 8 * f.dst.val + f.dport.val
  match takeFirst (· == f) (Tab.get [] s.mesh.ingress k) with
  | some (_, rest) => { s with mesh := { s.mesh with ingress := Tab.set [] s.mesh.ingress k rest } }
  | none => s

/-- Return the response of an access to its requester. -/
def State.respond (s : State) (r : Resp) : State := { s with resps := s.resps ++ [r] }

/-- Entry t of the TCT as every replica holds it (R72, R74). -/
def State.tctEntry (s : State) (t : Nat) : Nat := (Tab.get (w64 (tctReset t)) s.tct.now t).toNat
/-- TCT_APERTURE i as every replica holds it (R73, R74). -/
def State.aperture (s : State) (i : Nat) : Nat :=
  (Tab.get (if i = 0 then 0xFFE0000000000000#64 else 0) s.tct.now (4096 + i)).toNat
def tctValid (e : Nat) : Bool := bitN e 63
def tctSuspend (e : Nat) : Bool := bitN e 62
def tctTaskOk (e : Nat) : Bool := bitN e 61
def tctDmaOk (e : Nat) : Bool := bitN e 60
def tctAperture (e : Nat) : Nat := bits e 33 28
def tctKey (e : Nat) : Nat := bits e 27 16
def tctClass (e : Nat) : Nat := bits e 3 0

/-- Whether a tenant's requests may enter the data hierarchy: VALID and not SUSPEND (R70). -/
def State.tenantOk (s : State) (t : Nat) : Bool := tctValid (s.tctEntry t) && !tctSuspend (s.tctEntry t)

/-- The key index of a tenant's requests (R68). -/
def State.tenantKey (s : State) (t : Nat) : KeyIx := Fin.ofNat 4096 (tctKey (s.tctEntry t))

/-- The Ward as a requester: tenant 0xFFF, class 15 (R68, R84). -/
def wardReq : Requester := ⟨.ward, 4095, 15, 0, 0⟩
/-- The BMC through the Ward: normal world, no tenant or class of a hart (R60). -/
def bmcReq : Requester := ⟨.bmc, 0, 0, 0, 0⟩
/-- Safelight (R102). -/
def safelightReq : Requester := ⟨.safelight, 0, 0, 0, 0⟩

/-- Whether a requester counts as M-mode firmware: a hart request with privilege field 3, or the BMC (R60). -/
def isM (w : Requester) : Bool := (w.path == .hart && w.priv.val == 3) || w.path == .bmc
/-- The Ward, or a hart request with privilege field 3. -/
def wardOrM (w : Requester) : Bool := w.path == .ward || isM w

/-- Whether a Safelight grant is active (R103). -/
def State.grantActive (s : State) : Bool := s.flag (boltPg 6) R.SL_GRANT_ACTIVE
/-- Whether a requester reads secure state: the Ward, or Safelight under a grant (R71, R102, R103). -/
def State.seesSecure (s : State) (w : Requester) : Bool :=
  w.path == .ward || (w.path == .safelight && s.grantActive)
/-- Whether a requester may change secure state: the Ward, or Safelight under a grant with WRITE (R103). -/
def State.writesSecure (s : State) (w : Requester) : Bool :=
  w.path == .ward || (w.path == .safelight && s.grantActive && s.flag (boltPg 6) R.SL_GRANT_WRITE)

/-- PG_STATUS.READY (R43): the always-on pages after stage 0, the keyway's and the Ward's after stage 1, the mesh's and the controllers'
setup pages once stage 3 is done (R485), where no domain reset runs; CORE, CLUSTER and MC pages as their own rules set it. -/
def State.ready (s : State) (p : Page) : Bool :=
  match p.kind with
  | .core | .cluster | .mc0 | .mc1 | .mc3 => s.flag p.base R.PG_STATUS_READY
  | .aon | .pwr | .therm => decide (1 ≤ s.boot.done)
  | .hinge | .safelight | .mbx | .tct0 | .tct | .sched | .bolt0 | .bolt1 | .boltSrc | .boltCarve | .bolt6 | .bolt7 | .ras0 | .ras1
  | .rasHdr => decide (2 ≤ s.boot.done)
  | .fp0 => decide (4 ≤ s.boot.done) && !s.flag p.base R.PG_RESET_ACTIVE
  | .fpl => decide (4 ≤ s.boot.done) && !s.flag p.base R.PG_RESET_ACTIVE && !s.flag (portPg p.inst) R.PG_RESET_ACTIVE
  | .dwemon => decide (4 ≤ s.boot.done) && !s.flag p.base R.PG_RESET_ACTIVE
  | .neg | .slice | .directory | .taskq | .dma | .dmach | .meshstop | .mc2 | .phy | .irt0 | .irtDom | .irtPend | .irtOvr | .irtSets
  | .irtSrc | .irtHdr | .target => decide (4 ≤ s.boot.done)

/-- A command's outcome. -/
abbrev Out := Host.Outcome State Fault Refusal

end Sys2Proof.Machine
end

