-- ==== Sys2Proof/Machine/Counters.lean ====
section
/-! DEFINITION. The uncore counters (17 R505-R512) and their blinding (03 R98). -/

namespace Sys2Proof.Machine

/-- Whether an event code exists for the counters of a page (R512). -/
def eventListed (k : PageKind) (ev : Nat) : Bool :=
  match k with
  | .meshstop => 1 ≤ ev && ev ≤ 8 | .slice => 1 ≤ ev && ev ≤ 0x0C | .mc3 => 1 ≤ ev && ev ≤ 0x0B
  | .dma => 1 ≤ ev && ev ≤ 6 | .dwemon => 1 ≤ ev && ev ≤ 0x0C | .fp0 => 1 ≤ ev && ev ≤ 8 | _ => false

/-- The overflow source of a page's counters (R505). -/
def overflowSource (p : Page) : Nat :=
  let n := stopAt (bits p.base 23 20) (bits p.base 29 24)
  match stopTile? n with
  | some c => 16 * c + 10
  | none => if stopY n = 0 then 1760 + stopX n else 1772 + stopX n

-- states of a channel (R362)
def CH_IDLE : Nat := 0
def CH_RUN : Nat := 1
def CH_PAUSING : Nat := 2
def CH_PAUSED : Nat := 3
def CH_HALTED : Nat := 4

-- FP_LNK_STATUS.STATE (R411)
def LNK_DOWN : Nat := 0
def LNK_TRAINING : Nat := 1
def LNK_UP : Nat := 2
def LNK_HOLD : Nat := 3
def LNK_GONE : Nat := 4
def LNK_NOFLIT : Nat := 5

/-- Share of class k on plane p of a schedule (R161); the reset shares where the schedule lists none. -/
def Sched.share (d : Sched) (p k : Nat) : Nat := d.shares.getD (16 * p + k) (if k = 0 then 9 else 1)

/-- Whether the resource that page `pg` counts holds a request of a secure class (R98, R505, R510): a flit of a class that owns a slot, queued
or on its way at a mesh stop; a request in a slice's lanes, fill buffers and set-wait queues, or in a controller's ingress queue, reads,
journal; a secure channel that is RUN or PAUSING; a secure task that an engine runs or its queue holds, and the scrub after one; a secure
link that is UP. -/
def State.holdsSecure (s : State) (pg : Nat) : Bool :=
  let sec (f : Flit) : Bool := s.secureClass f.cls.val
  let ingress (i : Nat) : Bool := (Tab.get [] s.mesh.ingress i).any sec
  match pageAt pg with
  | none => false
  | some p =>
    match p.kind with
    | .meshstop =>
      let n := stopAt (bits pg 23 20) (bits pg 29 24)
      let on (f : Flit) : Bool := sec f && decide (s.mesh.sched.share f.plane.ix f.cls.val ≠ 0)
      s.mesh.queues.any (fun e => e.1 / 64 == n && e.2.any on) || s.mesh.moving.any (fun v => v.at_ == n && on v.flit)
    | .slice =>
      let v := Tab.get {} s.slices p.inst
      ingress (8 * tileStop p.inst + 2) || v.lanes.any (fun r => sec r.f) ||
        v.bufs.any (fun b => sec b.req.f || b.waiting.any (fun r => sec r.f))
    | .mc3 =>
      let v := Tab.get {} s.mcs p.inst
      ingress (8 * mcStop p.inst + 1) || (v.reads ++ v.held ++ v.flight.map (·.r)).any (fun r => sec r.f) || v.journal.any (fun e => sec e.f)
    | .dma => (List.range 16).any (fun ch =>
        let st := s.fld (chanPg p.inst ch) R.DMA_CH_STATUS_STATE
        ((pageAt (chanPg p.inst ch)).map s.securePage).getD false && (st == CH_RUN || st == CH_PAUSING))
    | .dwemon =>
      let g := Tab.get {} s.engines p.inst
      let last := match g.lastCls with
        | some k => s.secureClass k.val
        | none => false
      (last && (g.task.isSome || g.scrubDue || g.scrubEnd.isSome)) ||
        (Tab.get {} s.queues p.inst).deque.any (fun e => s.secureClass e.1 && !e.2.isEmpty)
    | .fp0 => (List.range 4).any (fun l => s.linkSecure p.inst l && s.fld (linkPg p.inst l) R.FP_LNK_STATUS_STATE == LNK_UP)
    | _ => false

/-- Every counter of a page is blinded (R98, R509). -/
def State.blind (s : State) (pg : Nat) : State :=
  let n := ((pageAt pg).map (fun p => counterCount p.kind)).getD 0
  s.setReg (pg + 0xE08) (s.reg (pg + 0xE08) ||| (2 ^ n - 1) <<< 8)

/-- The counters of a page in a cycle in which its resource may hold a secure request (R98, R509): BLIND is set while it does. -/
def State.watch (s : State) (pg : Nat) : State := if s.holdsSecure pg then s.blind pg else s

/-- One occurrence of event `ev`, attributed to class `cls` (none: the event carries no class), with qualifier bits `um`
of which a counter's UMASK selects (R508, R511; for a DMA engine `um` is the channel): counter i adds 1 and, on a wrap, sets OVF and may raise the overflow
source (R505, R509). The register index i runs over the SEL registers that hold a value. -/
def countOne (pg : Nat) (ev : Nat) (cls : Option Nat) (um : Nat) (s : State) (i : Nat) : State :=
  let sel := s.reg (pg + 0xE40 + 16 * i)
  let umask := bits sel 15 8
  let dma := ((pageAt pg).map (fun p => p.kind == .dma)).getD false
  let picked := if dma then !bitN umask 4 || umask % 16 == um else umask == 0 || umask &&& um != 0
  let hit := bitN sel 63 && bits sel 7 0 == ev && picked && decide (bits sel 27 24 ≤ 1) &&
    (!bitN sel 56 || cls == some (bits sel 55 52))
  if hit then
    let v := bits (s.reg (pg + 0xE48 + 16 * i)) 47 0 + 1
    let s1 := s.setReg (pg + 0xE48 + 16 * i) (v % 2 ^ 48)
    if v < 2 ^ 48 then s1
    else
      let s2 := s1.setReg (pg + 0xE08) (s1.reg (pg + 0xE08) ||| 2 ^ i)
      match pageAt pg with
      | some p => if bitN sel 62 then s2.pulse (overflowSource p) else s2
      | none => s2
  else s

/-- An event at the block of page `pg` (R508, R509): counted by every enabled counter that selects it while the block's counters run. An
event of a secure class is never counted, and in a cycle in which the resource holds a secure request nothing is: every counter's BLIND is set
instead (R98). -/
def State.count (s : State) (pg ev : Nat) (cls : Option Nat) (um : Nat) : State :=
  let on := s.regs.filter (fun e => decide (pg + 0xE40 ≤ 8 * e.1) && decide (8 * e.1 < pg + 0xEC0) && decide (8 * e.1 % 16 = 0))
  let secure := match cls with
    | some k => s.secureClass k
    | none => false
  if secure || s.holdsSecure pg then s.blind pg
  else if s.flag pg R.CNT_CTL_FREEZE then s
  else on.foldl (fun s e => countOne pg ev cls um s ((8 * e.1 - pg - 0xE40) / 16)) s

end Sys2Proof.Machine
end

