-- ==== Sys2Proof/Machine/Crypto.lean ====
section
/-! DEFINITION. The cryptographic functions of the published standards that 00 R12 and 03 R82 name: AES-256 (FIPS 197), XTS (IEEE 1619) over a
64-byte line, key unwrap (RFC 3394), SHA-384 (FIPS 180-4) and ECDSA verification on P-384 (FIPS 186-5). Byte 0 of a byte string is its
first byte; bytes are numbers below 256. -/

namespace Sys2Proof.Machine

-- AES-256 (FIPS 197)

/-- Multiplication by x in GF(2^8) modulo x^8 + x^4 + x^3 + x + 1. -/
def gfDouble (a : Nat) : Nat := if a < 128 then 2 * a else Nat.xor (2 * a) 0x11B

/-- Product in GF(2^8), over the `n` low bits of `b`. -/
def gfMulN : Nat → Nat → Nat → Nat
  | 0, _, _ => 0
  | n + 1, a, b => Nat.xor (if b % 2 = 1 then a else 0) (gfMulN n (gfDouble a) (b / 2))

def gfMul (a b : Nat) : Nat := gfMulN 8 a b

/-- Inverse in GF(2^8), 0 for 0: the power 254. -/
def gfInv (a : Nat) : Nat :=
  let a2 := gfMul a a
  let a3 := gfMul a2 a
  let a6 := gfMul a3 a3
  let a12 := gfMul a6 a6
  let a15 := gfMul a12 a3
  let a30 := gfMul a15 a15
  let a60 := gfMul a30 a30
  let a120 := gfMul a60 a60
  let a126 := gfMul a120 a6
  let a127 := gfMul a126 a
  gfMul a127 a127

/-- Rotate a byte left. -/
def rotl8 (a n : Nat) : Nat := (a <<< n + a >>> (8 - n)) % 256

/-- Exclusive or of a list. -/
def xorAll (l : List Nat) : Nat := l.foldl Nat.xor 0

/-- SubBytes of one byte. -/
def aesSub (a : Nat) : Nat :=
  let b := gfInv a
  xorAll [b, rotl8 b 1, rotl8 b 2, rotl8 b 3, rotl8 b 4, 0x63]

/-- InvSubBytes of one byte. -/
def aesInvSub (a : Nat) : Nat := gfInv (xorAll [rotl8 a 1, rotl8 a 3, rotl8 a 6, 0x05])

/-- Exclusive or of two byte strings. -/
def xorBytes (a b : List Nat) : List Nat := List.zipWith Nat.xor a b

/-- Byte i of a byte string. -/
def byteAt (l : List Nat) (i : Nat) : Nat := l.getD i 0

/-- KeyExpansion: words i, i + 1, ... of the schedule, given the 8 before them, latest first. -/
def aesExpand : Nat → Nat → List (List Nat) → List (List Nat)
  | 0, _, _ => []
  | n + 1, i, prev =>
    let t := prev.headD []
    let u := if i % 8 = 0 then
        xorBytes [aesSub (byteAt t 1), aesSub (byteAt t 2), aesSub (byteAt t 3), aesSub (byteAt t 0)] [2 ^ (i / 8 - 1), 0, 0, 0]
      else if i % 8 = 4 then t.map aesSub else t
    let w := xorBytes (prev.getD 7 []) u
    w :: aesExpand n (i + 1) (w :: prev.take 7)

/-- The 60 words of the key schedule of a 32-byte key. -/
def aesSchedule (key : List Nat) : List (List Nat) :=
  let first := (List.range 8).map (fun i => (List.range 4).map (fun j => byteAt key (4 * i + j)))
  first ++ aesExpand 52 8 first.reverse

/-- The round keys of a 32-byte key, 16 bytes each. -/
def aesRoundKeys (key : List Nat) : List (List Nat) :=
  let w := aesSchedule key
  (List.range 15).map (fun r => (List.range 4).flatMap (fun j => w.getD (4 * r + j) []))

/-- ShiftRows by `d` columns a row (1 to encrypt, 3 to decrypt). -/
def aesShift (d : Nat) (b : List Nat) : List Nat :=
  (List.range 16).map (fun i => byteAt b ((i + 4 * d * (i % 4)) % 16))

/-- MixColumns with the matrix row `m`. -/
def aesMix (m : List Nat) (b : List Nat) : List Nat :=
  (List.range 16).map (fun i =>
    xorAll ((List.range 4).map (fun j => gfMul (byteAt m ((j + 4 - i % 4) % 4)) (byteAt b (4 * (i / 4) + j)))))

/-- The cipher of AES-256 on a 16-byte block. -/
def aesEncrypt (key block : List Nat) : List Nat :=
  let rk := aesRoundKeys key
  let k (r : Nat) : List Nat := rk.getD r []
  let s := (List.range 13).foldl (fun s r => xorBytes (aesMix [2, 3, 1, 1] (aesShift 1 (s.map aesSub))) (k (r + 1))) (xorBytes block (k 0))
  xorBytes (aesShift 1 (s.map aesSub)) (k 14)

/-- The inverse cipher of AES-256 on a 16-byte block. -/
def aesDecrypt (key block : List Nat) : List Nat :=
  let rk := aesRoundKeys key
  let k (r : Nat) : List Nat := rk.getD r []
  let s := (List.range 13).foldl (fun s r => aesMix [14, 11, 13, 9] (xorBytes ((aesShift 3 s).map aesInvSub) (k (13 - r)))) (xorBytes block (k 14))
  xorBytes ((aesShift 3 s).map aesInvSub) (k 0)

/-- The `n` bytes of a number, lowest first, and the number of such bytes. -/
def natBytes (n v : Nat) : List Nat := (leBytes n v).map (·.toNat)
def bytesNat (l : List Nat) : Nat := l.foldr (fun b v => b + 256 * v) 0
/-- The number of a big-endian byte string, and the `n` big-endian bytes of a number. -/
def beNat (l : List Nat) : Nat := l.foldl (fun v b => 256 * v + b) 0
def beBytes (n v : Nat) : List Nat := (natBytes n v).reverse

-- XTS (IEEE 1619)

/-- The next tweak: multiplication by x in GF(2^128), byte 0 lowest. -/
def xtsNext (t : List Nat) : List Nat :=
  let v := 2 * bytesNat t
  natBytes 16 (if v < 2 ^ 128 then v else Nat.xor (v % 2 ^ 128) 0x87)

/-- AES-256-XTS of a data unit of 64 bytes: `f` is the cipher or its inverse under the data-unit key, `key2` the tweak key, `unit` the
number of the data unit. -/
def xtsUnit (f : List Nat → List Nat) (key2 : List Nat) (unit : Nat) (data : List Nat) : List Nat :=
  let t0 := aesEncrypt key2 (natBytes 16 unit)
  ((List.range 4).foldl (fun (a : List Nat × List Nat) j =>
    let b := (data.drop (16 * j)).take 16
    (a.1 ++ xorBytes (f (xorBytes b a.2)) a.2, xtsNext a.2)) ([], t0)).1

-- key unwrap (RFC 3394)

/-- Unwrap a byte string of 8 (n + 1) bytes under a 32-byte key: the 8 n bytes, none where the integrity check fails. -/
def keyUnwrap (key : List Nat) (n : Nat) (c : List Nat) : Option (List Nat) :=
  let r0 := (List.range n).map (fun i => (c.drop (8 * (i + 1))).take 8)
  let steps := (List.range (6 * n)).map (fun j => 6 * n - j)
  let out := steps.foldl (fun (a : List Nat × List (List Nat)) t =>
    let i := (t - 1) % n
    let b := aesDecrypt key (xorBytes a.1 (beBytes 8 t) ++ a.2.getD i [])
    (b.take 8, a.2.set i (b.drop 8))) (c.take 8, r0)
  if out.1 = List.replicate 8 0xA6 then some out.2.flatten else none

-- SHA-384 (FIPS 180-4)

/-- The round constants. -/
def sha512K : List Nat :=
  [0x428A2F98D728AE22, 0x7137449123EF65CD, 0xB5C0FBCFEC4D3B2F, 0xE9B5DBA58189DBBC,
   0x3956C25BF348B538, 0x59F111F1B605D019, 0x923F82A4AF194F9B, 0xAB1C5ED5DA6D8118,
   0xD807AA98A3030242, 0x12835B0145706FBE, 0x243185BE4EE4B28C, 0x550C7DC3D5FFB4E2,
   0x72BE5D74F27B896F, 0x80DEB1FE3B1696B1, 0x9BDC06A725C71235, 0xC19BF174CF692694] ++
  [0xE49B69C19EF14AD2, 0xEFBE4786384F25E3, 0x0FC19DC68B8CD5B5, 0x240CA1CC77AC9C65,
   0x2DE92C6F592B0275, 0x4A7484AA6EA6E483, 0x5CB0A9DCBD41FBD4, 0x76F988DA831153B5,
   0x983E5152EE66DFAB, 0xA831C66D2DB43210, 0xB00327C898FB213F, 0xBF597FC7BEEF0EE4,
   0xC6E00BF33DA88FC2, 0xD5A79147930AA725, 0x06CA6351E003826F, 0x142929670A0E6E70] ++
  [0x27B70A8546D22FFC, 0x2E1B21385C26C926, 0x4D2C6DFC5AC42AED, 0x53380D139D95B3DF,
   0x650A73548BAF63DE, 0x766A0ABB3C77B2A8, 0x81C2C92E47EDAEE6, 0x92722C851482353B,
   0xA2BFE8A14CF10364, 0xA81A664BBC423001, 0xC24B8B70D0F89791, 0xC76C51A30654BE30,
   0xD192E819D6EF5218, 0xD69906245565A910, 0xF40E35855771202A, 0x106AA07032BBD1B8] ++
  [0x19A4C116B8D2D0C8, 0x1E376C085141AB53, 0x2748774CDF8EEB99, 0x34B0BCB5E19B48A8,
   0x391C0CB3C5C95A63, 0x4ED8AA4AE3418ACB, 0x5B9CCA4F7763E373, 0x682E6FF3D6B2B8A3,
   0x748F82EE5DEFB2FC, 0x78A5636F43172F60, 0x84C87814A1F0AB72, 0x8CC702081A6439EC,
   0x90BEFFFA23631E28, 0xA4506CEBDE82BDE9, 0xBEF9A3F7B2C67915, 0xC67178F2E372532B] ++
  [0xCA273ECEEA26619C, 0xD186B8C721C0C207, 0xEADA7DD6CDE0EB1E, 0xF57D4F7FEE6ED178,
   0x06F067AA72176FBA, 0x0A637DC5A2C898A6, 0x113F9804BEF90DAE, 0x1B710B35131C471B,
   0x28DB77F523047D84, 0x32CAAB7B40C72493, 0x3C9EBE0A15C9BEBC, 0x431D67C49C100D4C,
   0x4CC5D4BECB3E42B6, 0x597F299CFC657E2A, 0x5FCB6FAB3AD6FAEC, 0x6C44198C4A475817]

/-- The initial hash value. -/
def sha384Init : List Nat :=
  [0xCBBB9D5DC1059ED8, 0x629A292A367CD507, 0x9159015A3070DD17, 0x152FECD8F70E5939,
   0x67332667FFC00B31, 0x8EB44A8768581511, 0xDB0C2E0D64F98FA7, 0x47B5481DBEFA4FA4]

def rotr64 (x n : Nat) : Nat := (x >>> n + x <<< (64 - n)) % 2 ^ 64

/-- The message schedule of a block: words from the 16 before them, latest first. -/
def shaSchedule : Nat → List Nat → List Nat
  | 0, _ => []
  | n + 1, prev =>
    let a := byteAt prev 1
    let b := byteAt prev 14
    let w := (xorAll [rotr64 a 19, rotr64 a 61, a >>> 6] + byteAt prev 6 + xorAll [rotr64 b 1, rotr64 b 8, b >>> 7] + byteAt prev 15) % 2 ^ 64
    w :: shaSchedule n (w :: prev.take 15)

/-- One round, with its constant and its schedule word. -/
def shaRound (s : List Nat) (kw : Nat × Nat) : List Nat :=
  match s with
  | [a, b, c, d, e, f, g, h] =>
    let ch := Nat.xor (e &&& f) ((2 ^ 64 - 1 - e) &&& g)
    let t1 := h + xorAll [rotr64 e 14, rotr64 e 18, rotr64 e 41] + ch + kw.1 + kw.2
    let t2 := xorAll [rotr64 a 28, rotr64 a 34, rotr64 a 39] + xorAll [a &&& b, a &&& c, b &&& c]
    [(t1 + t2) % 2 ^ 64, a, b, c, (d + t1) % 2 ^ 64, e, f, g]
  | _ => s

/-- The compression of one 128-byte block. -/
def shaBlock (s block : List Nat) : List Nat :=
  let w := (List.range 16).map (fun i => beNat ((block.drop (8 * i)).take 8))
  let ws := w ++ shaSchedule 64 w.reverse
  List.zipWith (fun a b => (a + b) % 2 ^ 64) s ((sha512K.zip ws).foldl shaRound s)

/-- SHA-384 of a byte string: 48 bytes. -/
def sha384 (m : List Nat) : List Nat :=
  let pad := m ++ [0x80] ++ List.replicate ((239 - m.length % 128) % 128) 0 ++ beBytes 16 (8 * m.length)
  let s := (List.range (pad.length / 128)).foldl (fun s i => shaBlock s ((pad.drop (128 * i)).take 128)) sha384Init
  (s.flatMap (beBytes 8)).take 48

-- ECDSA on P-384 (FIPS 186-5)

def p384P : Nat := 2 ^ 384 - 2 ^ 128 - 2 ^ 96 + 2 ^ 32 - 1
def p384N : Nat := 0xFFFFFFFFFFFFFFFFFFFFFFFFFFFFFFFFFFFFFFFFFFFFFFFFC7634D81F4372DDF581A0DB248B0A77AECEC196ACCC52973
def p384B : Nat := 0xB3312FA7E23EE7E4988E056BE3F82D19181D9C6EFE8141120314088F5013875AC656398D8A2ED19D2A85C8EDD3EC2AEF
def p384Gx : Nat := 0xAA87CA22BE8B05378EB1C71EF320AD746E1D3B628BA79B9859F741E082542A385502F25DBF55296C3A545E3872760AB7
def p384Gy : Nat := 0x3617DE4A96262C6F5D9E98BF9292DC29F8F41DBD289A147CE9DA3113B5F0B8C00A60B1CE1D7E819D7A431D7C90EA0E5F

/-- b^e mod m, over the low `n` bits of e. -/
def powMod (m : Nat) : Nat → Nat → Nat → Nat
  | 0, _, _ => 1
  | n + 1, b, e => (if e % 2 = 1 then b else 1) * powMod m n (b * b % m) (e / 2) % m

/-- Inverse modulo a prime. -/
def invMod (m a : Nat) : Nat := powMod m 384 (a % m) (m - 2)

/-- A point of the curve; none for the point at infinity. -/
abbrev P384 := Option (Nat × Nat)

/-- Addition of points. -/
def p384Add (a b : P384) : P384 :=
  match a, b with
  | none, q => q
  | q, none => q
  | some (x1, y1), some (x2, y2) =>
    if x1 = x2 ∧ (y1 + y2) % p384P = 0 then none
    else
      let l := if x1 = x2 then (3 * x1 * x1 + p384P - 3) * invMod p384P (2 * y1) % p384P
        else (y2 + p384P - y1) * invMod p384P (x2 + p384P - x1) % p384P
      let x := (l * l + 2 * p384P - x1 - x2) % p384P
      some (x, (l * (x1 + p384P - x) + p384P - y1) % p384P)

/-- k times a point, over the low `n` bits of k. -/
def p384Mul : Nat → Nat → P384 → P384
  | 0, _, _ => none
  | n + 1, k, p => p384Add (if k % 2 = 1 then p else none) (p384Mul n (k / 2) (p384Add p p))

/-- Whether (x, y) is a point of the curve. -/
def p384On (x y : Nat) : Bool :=
  decide (x < p384P) && decide (y < p384P) && (y * y) % p384P == (x * x * x + (p384P - 3) * x + p384B) % p384P

/-- ECDSA verification of (r, s) over a 48-byte digest under the key (x, y). -/
def ecdsaVerify (x y r s : Nat) (digest : List Nat) : Bool :=
  if !p384On x y || r == 0 || s == 0 || decide (p384N ≤ r) || decide (p384N ≤ s) then false
  else
    let w := invMod p384N s
    let u := p384Mul 384 (beNat digest * w % p384N) (some (p384Gx, p384Gy))
    match p384Add u (p384Mul 384 (r * w % p384N) (some (x, y))) with
    | none => false
    | some (px, _) => px % p384N == r

end Sys2Proof.Machine
end

