-- ==== Sys2Proof/Machine/Latency.lean ====
section
/-! DEFINITION. Exact latencies as functions of their terms (01 R13, R29; 02 R57-R59; 04 R145, R146; 05 R155, R156, R171,
R177-R179). Clock edges lie on the 200 MHz grid, whose period holds 12 mclk; a core at CUR x 100 MHz has CUR / 2 ccyc in it,
and a controller 6 to 10 dclk (R218). Times at the pins are counted in twelfths of a nanosecond: 1 mclk is 5 of them. -/

namespace Sys2Proof.Machine

/-- T(W, H): from presentation to leaving the ejection (R155). -/
def traversal (w h : Nat) : Nat := w + 4 + h
/-- The local crossbar (R156). -/
def crossbar : Nat := 2

/-- The cclk (= mclk) edge at or after edge c of a core's clock (R145). -/
def cclkOf (cur c : Nat) : Nat := ceilDiv (24 * c) cur
/-- The core edge at or after mclk m (R145). -/
def ccycOf (cur m : Nat) : Nat := ceilDiv (m * cur) 24
/-- The dclk edge, numbered from a grid edge, at or after mclk t; n dclk in a grid period (R171, R218). -/
def dclkOf (n t : Nat) : Nat := ceilDiv (t * n) 12
/-- The dclk edge at which a crossing into a controller from mclk t ends (R171). -/
def intoMc (n t : Nat) : Nat := dclkOf n t + 3
/-- The mclk at which a crossing out of a controller from dclk edge d ends (R171). -/
def outOfMc (n d : Nat) : Nat := ceilDiv (12 * d) n + 3

/-- From the mclk at which a reply reaches the cluster to the register: crossing and fill, in ccyc of the core (R145). -/
def fillEnd (cur m : Nat) : Nat := ccycOf cur m + 3 + 2
/-- From an L1D miss at ccyc c to the cluster's request at the stop, in mclk (R145, R177). -/
def missAtStop (cur c : Nat) : Nat := cclkOf cur c + 3 + 5 + 1

/-- ccyc edge at which an L1D miss at ccyc c that hits in the L2 ends (R146). -/
def loadL2Hit (cur c : Nat) : Nat := fillEnd cur (cclkOf cur c + 3 + 9)
/-- A load that hits in the slice of its own tile (R179). -/
def loadOwnSlice (cur c : Nat) : Nat := fillEnd cur (missAtStop cur c + 2 + 14 + 2 + 1)
/-- A load that hits in a remote slice, with each leg's W and H (R179). -/
def loadRemoteSlice (cur c w1 h1 w2 h2 : Nat) : Nat :=
  fillEnd cur (missAtStop cur c + traversal w1 h1 + 14 + traversal w2 h2 + 1)
/-- A load that misses in its slice and goes to local DRAM, with the four legs' W and H, n dclk a grid period and the
controller's service time d in dclk (R179). -/
def loadDram (cur c n d w1 h1 w2 h2 w3 h3 w4 h4 : Nat) : Nat :=
  let atMc := intoMc n (missAtStop cur c + traversal w1 h1 + 6 + traversal w2 h2)
  fillEnd cur (outOfMc n (atMc + d) + traversal w3 h3 + 2 + traversal w4 h4 + 1)
/-- An engine or DMA access that hits in its slice (R179). -/
def engineSliceHit (w1 h1 w2 h2 : Nat) : Nat := traversal w1 h1 + 14 + traversal w2 h2
/-- A snoop from its home to the cluster's port (R179). -/
def snoopLeg (w h : Nat) : Nat := traversal w h + 1
/-- A steal round trip (R179). -/
def stealRoundTrip (w1 h1 w2 h2 : Nat) : Nat := traversal w1 h1 + 6 + traversal w2 h2
/-- A doorbell write from a cluster to the router's decision (R179). -/
def doorbellDecision (w h : Nat) : Nat := 1 + traversal w h + 6
/-- The kclk edge at or after mclk t, in mclk; one kclk is 6 mclk (R8, R57). -/
def kclkEdge (t : Nat) : Nat := 6 * ceilDiv t 6
/-- ccyc edge at which a hart's page access ends, from ccyc c; the class's turn begins `turn` kclk after the crossing (R57, R58). -/
def pageAccess (cur c w1 h1 turn w2 h2 : Nat) : Nat :=
  let atHinge := kclkEdge (missAtStop cur c + traversal w1 h1) + 6 * 3
  fillEnd cur (atHinge + 6 * turn + 6 * 4 + 3 + traversal w2 h2 + 1)
/-- Twelfths of a ns of a Ward page access to a leaf on IO0 or on another die, with the wait to the first kclk edge (0 or 15)
and the root turn wait of 0 to 3 kclk (R57, R59). -/
def wardAccess (onIo0 : Bool) (align turn : Nat) : Nat :=
  align + 30 * (3 + 2 * (if onIo0 then 2 else 6) + 2 * 3 + 4 + turn) + 45

/-- Twelfths of a ns of one flit time at a link of `lanes` lanes and `rate` GT/s (R178): 256 bytes over the byte rate. -/
def flitTime (lanes rate : Nat) : Nat := 256 * 8 * 12 / (lanes * rate)
/-- The next flit boundary at or after time t; boundaries stand in a fixed phase with the grid (R178). -/
def flitBoundary (ft t : Nat) : Nat := ft * ceilDiv t ft
/-- When the first symbol of a hart's I/O write that starts at mclk 0 leaves the pins, in twelfths of a ns (R178, R179). -/
def ioWritePins (w h ft : Nat) : Nat := flitBoundary ft (5 * (3 + 5 + 1 + traversal w h + 3 + 10)) + 48
/-- The mclk at which an inbound request whose first symbol is at the pins at time t reaches the port's stop (R178, R179). -/
def inboundAtStop (ft t : Nat) : Nat := ceilDiv (t + 48 + ft) 5 + 6 + 10 + 3
/-- What a number of link retries adds (R173, R177). -/
def retryCost (n : Nat) : Nat := 24 * n
/-- What a bounce adds: decision, crossing back, the BOUNCE's traversal, the sender's agent terms, the repeat (R150, R179). -/
def bounceCost (decision back w1 h1 agent w2 h2 : Nat) : Nat :=
  decision + back + traversal w1 h1 + agent + traversal w2 h2

/-- The mclk at which a core wake that the router asks for at mclk t ends: 4 mclk to AON/PWR, the next aclk edge, an exit of n aclk
(R461). -/
def wakeEnd (t n : Nat) : Nat := 96 * (ceilDiv (t + 4) 96 + n)
/-- From a core awake at mclk t to its presentation at the core, in ccyc: the awake notice over a lane of `lane` mclk, the decision, the
IRQ flit, the cluster and its crossing (R380, R383, R461). -/
def wakeDelivery (cur t lane w h : Nat) : Nat := ccycOf cur (t + lane + 6 + traversal w h + 1) + 3
/-- From a source's edge at a block to recognition at a hart, in ccyc: lane, decision, flit, cluster, crossing (R383). -/
def hartDelivery (cur lane w h : Nat) : Nat := ccycOf cur (lane + 6 + traversal w h + 1) + 3
/-- The fixed trap entry (R122). -/
def trapEntry : Nat := 31

end Sys2Proof.Machine
end

