-- ==== Sys2Proof/Machine/MemMap.lean ====
section
/-! DEFINITION. Where a physical address is homed and stored: home slices (06 R180-R182), channel interleave and
mirroring (07 R220, R223), DRAM fields (R222), fabric windows (13 R394), and the line store itself. -/

namespace Sys2Proof.Machine

/-- Line number of an address. -/
def lineOf (a : Nat) : Nat := a / 64
/-- First address of the line of `a`. -/
def lineBase (a : Nat) : Nat := a / 64 * 64
/-- 256-byte block of an address (R184). -/
def blockOf (a : Nat) : Nat := a / 256

/-- Bucket of an address (R180). -/
def bucketOf (a : Nat) : Nat :=
  Nat.xor (Nat.xor (Nat.xor (Nat.xor (bits a 16 8) (bits a 25 17)) (bits a 34 26)) (bits a 43 35)) (bits a 51 44) % 384

/-- Home slice of a bucket in the HOME_MAP in force (R181). -/
def State.bucketHome (s : State) (b : Nat) : Nat := Tab.get (b % 96) s.home.map b
/-- Home slice of an address (R180). -/
def State.homeOf (s : State) (a : Nat) : Nat := s.bucketHome (bucketOf a)
/-- Whether requests to an address's bucket are held (R214). -/
def State.homeHeld (s : State) (a : Nat) : Bool := s.home.hold.contains (bucketOf a)

/-- Directory set of an address (R182). -/
def dirSet (a : Nat) : Nat := Nat.xor (Nat.xor (bits a 19 8) (bits a 31 20)) (bits a 43 32)
/-- Data set of an address (R182). -/
def dataSet (a : Nat) : Nat := (bits (dirSet a) 9 0) <<< 2 + bits a 7 6

/-- A setup register of controller m (page 2). -/
def State.mc2 (s : State) (m : Nat) (f : Field) : Nat := s.fld (mcPg m 2) f

/-- dclk of controller m in a grid period of 12 mclk (R218, R247). -/
def State.dclkRate (s : State) (m : Nat) : Nat := 6 + s.mc2 m R.MC_CFG_SPEED
/-- The dclk edge at or after mclk t (R171, R172). -/
def State.dclkAt (s : State) (m t : Nat) : Nat := ceilDiv (s.gridAt t * s.dclkRate m) 48
/-- The mclk edge at or after dclk d (R171, R172). -/
def State.dclkMclk (s : State) (m d : Nat) : Nat := s.mclkAt (ceilDiv (48 * d) (s.dclkRate m))
/-- The dclk at which a crossing into controller m from mclk t ends (R171, R172). -/
def State.intoMcAt (s : State) (m t : Nat) : Nat := s.dclkAt m t + 3
/-- The mclk at which a crossing out of controller m from dclk d ends (R171, R172). -/
def State.outOfMcAt (s : State) (m d : Nat) : Nat := s.dclkMclk m d + 3

/-- Burst address bits of a geometry (R219). -/
def burstBits (width density ranks stack : Nat) : Nat :=
  ranks + stack + (16 + density) + 3 + 2 + (if width = 0 then 7 else 6)

/-- Capacity of channel m in bytes (R219). -/
def State.channelBytes (s : State) (m : Nat) : Nat :=
  2 * 2 ^ burstBits (s.mc2 m R.MC_CFG_WIDTH) (s.mc2 m R.MC_CFG_DENSITY) (s.mc2 m R.MC_CFG_RANKS) (s.mc2 m R.MC_CFG_STACK) * 64

/-- What kind of region of a channel an address lies in (R221). -/
inductive ChanRegion where
  | join | hashed | block
  deriving DecidableEq, Repr

/-- The channel, the address in it and the region an address of local DRAM maps to (R220, R223); the interleave settings
are the same in all 16 controllers, and are read from controller 0. -/
def State.channelOf (s : State) (pa : Nat) : Option (Nat × Nat × ChanRegion) :=
  let o := pa - dramBase
  let mode := s.mc2 0 R.MC_ILV_MODE
  let mirror := s.mc2 0 R.MC_ILV_MIRROR = 1
  let j := s.mc2 0 R.MC_ILV_JOIN * 2 ^ 30
  let c := s.channelBytes 0
  if region pa ≠ .dram then none
  else if mode = 1 then
    let m := o >>> 38
    let a := o % 2 ^ 38
    if 16 ≤ m ∨ s.channelBytes m ≤ a ∨ (mirror ∧ m % 2 = 1) then none else some (m, a, .block)
  else if o < 16 * j then
    let m := o / j
    let a := o - m * j
    if c ≤ a ∨ (mirror ∧ m % 2 = 1) then none else some (m, a, .join)
  else
    let g := Nat.xor (Nat.xor (bits pa 11 8) (bits pa 19 16)) (bits pa 27 24)
    let h := o - 16 * j
    if mirror then
      if o < 16 * j + 8 * (c - j) then some (g / 2 * 2, j + (h >>> 12) <<< 9 + h % 512, .hashed) else none
    else if o < 16 * c then some (g, j + (h >>> 12) <<< 8 + h % 256, .hashed) else none

/-- DRAM fields of a channel address (R222): rank, chip ID, row, bank group, bank, column. -/
structure DramAddr where
  sub : Nat
  rank : Nat
  cid : Nat
  row : Nat
  bg : Nat
  bank : Nat
  col : Nat
  deriving DecidableEq, Repr

/-- Split a number into fields of the given widths, the last at the low end. -/
def splitFields : List Nat → Nat → List Nat
  | [], _ => []
  | w :: ws, v => let r := ws.foldl (· + ·) 0
                  (v >>> r) % 2 ^ w :: splitFields ws v

/-- The i-th number of a list, 0 past its end. -/
def nthD (l : List Nat) (i : Nat) : Nat := l.getD i 0

/-- Decode a channel address (R220, R222). -/
def State.dramAddr (s : State) (m a : Nat) : DramAddr :=
  let rk := s.mc2 m R.MC_CFG_RANKS
  let st := s.mc2 m R.MC_CFG_STACK
  let rw := 16 + s.mc2 m R.MC_CFG_DENSITY
  let cw := if s.mc2 m R.MC_CFG_WIDTH = 0 then 7 else 6
  let b := a >>> 7
  let sub := bits a 6 6
  match s.mc2 m R.MC_MAP_ORDER with
  | 1 => let f := splitFields [rk, st, rw, cw - 2, 2, 3, 2] b
         ⟨sub, nthD f 0, nthD f 1, nthD f 2, nthD f 5, nthD f 4, nthD f 3 * 4 + nthD f 6⟩
  | 3 => let f := splitFields [3, rk, st, rw, 2, cw] b
         ⟨sub, nthD f 1, nthD f 2, nthD f 3, nthD f 0, nthD f 4, nthD f 5⟩
  | o => let f := splitFields [rk, st, rw, 2, 3, cw] b
         let row := nthD f 2
         if o = 2 then ⟨sub, nthD f 0, nthD f 1, row, Nat.xor (nthD f 4) (row % 8), Nat.xor (nthD f 3) (bits row 4 3), nthD f 5⟩
         else ⟨sub, nthD f 0, nthD f 1, row, nthD f 4, nthD f 3, nthD f 5⟩

/-- The port and window entry whose range covers an address of fabric memory (R394). -/
def State.windowAt (s : State) (pa : Nat) : Option (Nat × Nat) :=
  ((List.range 8).flatMap (fun p => (List.range 16).map (fun w => (p, w)))).find? (fun e =>
    s.flag (portPg e.1) (R.FP_WIN_BASE_EN.nth e.2) &&
    decide (s.fld (portPg e.1) (R.FP_WIN_BASE_BASE.nth e.2) ≤ pa / 2 ^ 28) &&
    decide (pa / 2 ^ 28 ≤ s.fld (portPg e.1) (R.FP_WIN_LIMIT_LIMIT.nth e.2)))

/-- Whether the window of an address is held by a planned departure, and whether its partner has departed (R404, R405). -/
def State.windowHold (s : State) (pa : Nat) : Bool :=
  match s.windowAt pa with
  | some (p, w) => s.flag (portPg p) (R.FP_WIN_BASE_HOLD.nth w)
  | none => false
def State.windowGone (s : State) (pa : Nat) : Bool :=
  match s.windowAt pa with
  | some (p, w) => s.flag (portPg p) (R.FP_WIN_BASE_GONE.nth w)
  | none => false

/-- Whether an address has the main-memory attributes (R108). -/
def State.mainMemory (s : State) (pa : Nat) : Bool :=
  match region pa with
  | .dram => true
  | .fabricMem => (s.windowAt pa).isSome
  | _ => false

/-- Where a slice fills from and writes back to: the stop of the controller or fabric port that owns the address. -/
inductive MemOwner where
  | mc (m : Nat)
  | port (p : Nat)
  deriving DecidableEq, Repr

/-- The owner of an address of memory (R180, R210, R220, R394). -/
def State.memOwner (s : State) (pa : Nat) : Option MemOwner :=
  match region pa with
  | .dram => (s.channelOf pa).map (fun r => .mc r.1)
  | .fabricMem => (s.windowAt pa).map (fun x => .port x.1)
  | _ => none

/-- The stop of an owner. -/
def MemOwner.stop : MemOwner → Nat
  | .mc m => mcStop m
  | .port p => fpStop p

/-- Whether channel pairs are mirrored (R223). -/
def State.mirrored (s : State) : Bool := s.mc2 0 R.MC_ILV_MIRROR == 1

/-- The stop and port that serve an address outside memory: the Hinge of a page's stop, of (5, 0) for target pages (R35,
R38); the fabric port of an ECAM or MMIO address (R392, R393); the router for doorbells (R367); an engine's or queue's port
(R34); the Ward for the boot ROM alias (R31). -/
def ioDest (pa : Nat) : Nat × Nat :=
  match region pa with
  | .keyway => (stopAt (bits pa 23 20) (bits pa 29 24), 0)
  | .ecam => (fpStop (2 * bits pa 29 28 + bits pa 27 27), 1)
  | .target => (irtStop, 0)
  | .doorbell => (irtStop, 2)
  | .engine => (tileStop (bits pa 27 20), 3)
  | .fabricMmio => (fpStop (bits pa 50 48), 1)
  | _ => (wardStop, 2)

/-- The canonical form of memory: addresses rise strictly, and no byte is listed that an unlisted address reads as (0, R488). -/
def Memory.wf (m : List Host.Cell) : Bool := Tab.wf (fun _ => 0) m

/-- The bytes of the line at `pa` in DRAM, as stored in plain (an unlisted byte reads 0, R488). -/
def State.memByte (s : State) (a : Nat) : Byte := Tab.get 0 s.mem a

/-- Store one byte of memory. -/
def State.setMemByte (s : State) (a : Nat) (b : Byte) : State := { s with mem := Tab.set 0 s.mem a b }

/-- Store bytes from address `a` on. -/
def State.setMemBytes (s : State) (a : Nat) : List Byte → State
  | [] => s
  | b :: t => (s.setMemByte a b).setMemBytes (a + 1) t

/-- The bytes from address `a` on. -/
def State.memBytes (s : State) (a n : Nat) : List Byte := (List.range n).map (fun i => s.memByte (a + i))

/-- The line at `pa` (R5). -/
def State.memLine (s : State) (pa : Nat) : Line := BitVec.ofNat 512 (leValue (s.memBytes (lineBase pa) 64))

/-- Store the line at `pa` (R5). -/
def State.setMemLine (s : State) (pa : Nat) (l : Line) : State := s.setMemBytes (lineBase pa) (leBytes 64 l.toNat)

/-- Where memory lists copy `cp` of the line at `pa` (R223): the odd channel of a mirrored pair lies 2^52 above the even one. -/
def copyAddr (pa cp : Nat) : Nat := pa + cp * 2 ^ 52

/-- How copy `cp` (0, or 1 for the odd channel of a mirrored pair) of a line was stored. -/
def State.lineAttr (s : State) (pa cp : Nat) : LineAttr := Tab.get {} s.attrs (2 * lineOf pa + cp)
def State.setLineAttr (s : State) (pa cp : Nat) (a : LineAttr) : State :=
  { s with attrs := Tab.set {} s.attrs (2 * lineOf pa + cp) a }

/-- The key of index k, none for index 0 (R79). -/
def State.keyOf (s : State) (k : Nat) : Option (BitVec 512) := if k = 0 then none else some (Tab.get 0 s.ward.keys k)

/-- AES-256-XTS of the line at `pa` under a key of the key table (R239): `f` is the block cipher's direction. Bytes 0 to 31 of the key are
the data key, 32 to 63 the tweak key (log entry 82). -/
def xtsLine (f : List Nat → List Nat → List Nat) (key : BitVec 512) (pa : Nat) (l : Line) : Line :=
  let k := natBytes 64 key.toNat
  BitVec.ofNat 512 (bytesNat (xtsUnit (f (k.take 32)) (k.drop 32) (lineOf pa % 2 ^ 46) (natBytes 64 l.toNat)))

/-- The data a controller stores for a line written under a key (R239). -/
def storedLine (a : Option (BitVec 512)) (pa : Nat) (l : Line) : Line :=
  match a with
  | none => l
  | some k => xtsLine aesEncrypt k pa l
/-- What stored data reads as under a key (R239). -/
def readLine (b : Option (BitVec 512)) (pa : Nat) (l : Line) : Line :=
  match b with
  | none => l
  | some k => xtsLine aesDecrypt k pa l

/-- What a read under key `b` of a line stored under key `a` delivers (R239): the line itself when the keys are one,
else the stored data decrypted under `b`. -/
def crossKey (a b : Option (BitVec 512)) (pa : Nat) (l : Line) : Line :=
  if a = b then l else readLine b pa (storedLine a pa l)

end Sys2Proof.Machine
end

