-- ==== Sys2Proof/Machine/SliceOps.lean ====
section
/-! DEFINITION. The L3 slice and its directory as an automaton over requests, snoop responses and fills (06 R183-R203,
R207, R210, R535). A request is decided from the state of its line, takes a fill buffer when it needs snoops, a fill or
an acknowledged writeback, and is answered when they have ended. -/

namespace Sys2Proof.Machine

def State.slice (s : State) (c : Nat) : Slice := Tab.get {} s.slices c
def State.setSlice (s : State) (c : Nat) (v : Slice) : State := { s with slices := Tab.set {} s.slices c v }

/-- The way of a data set that holds a line, in any way whatever its mask (R197). -/
def findWay (sl : Slice) (pa : Nat) : Option (Nat × DataWay) :=
  (sl.ways.find? (fun e => e.1 / 16 == dataSet pa && e.2.line == lineOf pa))

/-- The directory entry of an address's block (R184). -/
def findDir (sl : Slice) (pa : Nat) : Option (Nat × DirWay) :=
  (sl.dir.find? (fun e => e.1 / 16 == dirSet pa && e.2.block == blockOf pa))

/-- State of line `n` of a directory entry (R185). -/
def DirWay.lineState (d : DirWay) (n : Nat) : LineState := d.ls.getD n .i

/-- The state of an address's line; I where its block has no entry (R185). -/
def lineStateOf (sl : Slice) (pa : Nat) : LineState :=
  match findDir sl pa with
  | some (_, d) => d.lineState (bits pa 7 6)
  | none => .i

/-- Clusters in PRES of an address's block. -/
def presOf (sl : Slice) (pa : Nat) : List Nat :=
  match findDir sl pa with
  | some (_, d) => d.pres
  | none => []

/-- Insert into a rising list without repeats. -/
def insertRising (n : Nat) : List Nat → List Nat
  | [] => [n]
  | m :: t => if n < m then n :: m :: t else if n = m then m :: t else m :: insertRising n t

/-- Replace the i-th line state. -/
def setLs : Nat → LineState → List LineState → List LineState
  | _, _, [] => []
  | 0, v, _ :: t => v :: t
  | n + 1, v, a :: t => a :: setLs n v t

/-- Write a line's state and make its block's entry the most recent; an entry whose four lines are I is freed (R185, R198). -/
def setLine (sl : Slice) (pa : Nat) (st : LineState) : Slice :=
  match findDir sl pa with
  | some (k, d) =>
    let ls := setLs (bits pa 7 6) st d.ls
    if ls.all (· == .i) then { sl with dir := Tab.del k sl.dir }
    else { sl with dir := Tab.ins k { d with ls := ls, used := sl.clockUse } sl.dir, clockUse := sl.clockUse + 1 }
  | none => sl

/-- Change the PRES of an address's block (R184, R186). -/
def mapPres (sl : Slice) (pa : Nat) (f : List Nat → List Nat) : Slice :=
  match findDir sl pa with
  | some (k, d) => { sl with dir := Tab.ins k { d with pres := f d.pres } sl.dir }
  | none => sl

/-- Cluster k may hold a line of the block. -/
def addPres (sl : Slice) (pa k : Nat) : Slice := mapPres sl pa (insertRising k)
/-- Cluster k holds no line of the block: its last message had the map 0 (R186). -/
def clearPres (sl : Slice) (pa k : Nat) : Slice := mapPres sl pa (fun l => l.filter (· != k))

/-- Allocate an entry for the block in way w of its set, every line I (R192). -/
def newDir (sl : Slice) (pa w : Nat) (cls : Cls) : Slice :=
  let d : DirWay := ⟨blockOf pa, cls, region pa == Region.fabricMem, [], [.i, .i, .i, .i], sl.clockUse⟩
  { sl with dir := Tab.ins (16 * dirSet pa + w) d sl.dir, clockUse := sl.clockUse + 1 }

/-- The way to allocate among `ways` (numbers) of table `t` at set `set`: the lowest invalid way, else the least
recently used (R198). -/
def chooseWay {α : Type} (used : α → Nat) (t : Tab α) (set : Nat) (ways : List Nat) : Option (Nat × Option α) :=
  match ways.find? (fun w => (Tab.at? t (16 * set + w)).isNone) with
  | some w => some (w, none)
  | none =>
    ways.foldl (fun best w =>
      match Tab.at? t (16 * set + w), best with
      | some v, some (_, some b) => if used v < used b then some (w, some v) else best
      | some v, _ => some (w, some v)
      | none, _ => best) none

/-- The ways class k may allocate data into: its mask less the latched ways (R197, R198). -/
def State.dataWays (s : State) (c k : Nat) : List Nat :=
  (List.range 12).filter (fun w => bitN (s.fld (slicePg c) (R.SLC_MASK_WAYS.nth k)) w && !bitN (s.fld (slicePg c) R.SLC_LATCH_WAYS) w)

/-- The ways class k may allocate directory entries into (R198). -/
def State.dirWays (s : State) (c k : Nat) : List Nat :=
  (List.range 12).filter (fun w => bitN (s.fld (slicePg c) (R.SLC_MASK_WAYS.nth k)) w)

/-- Fill buffers class k may hold (R194, R215). -/
def State.fillShare (s : State) (c k : Nat) : Nat := s.fld (slicePg c) (R.SLC_FILLSHARE_SHARE.ofClass k)

/-- Fill buffers class k holds. -/
def bufsHeld (sl : Slice) (k : Nat) : Nat := (sl.bufs.filter (fun b => b.req.f.cls.val == k)).length

/-- Whether controller m takes writes: neither frozen nor retired (R240, R242, R246). -/
def State.mcServes (s : State) (m : Nat) : Bool :=
  !s.flag (mcPg m 0) R.PG_STATUS_FROZEN && !s.flag (mcPg m 0) R.PG_STATUS_RETIRED
/-- Whether controller m takes the reads of its pair: it serves, and no copy from its partner runs (R246). -/
def State.mcReads (s : State) (m : Nat) : Bool := s.mcServes m && !s.flag (mcPg m 0) R.MC_MIRROR_RESYNC
/-- The copy of a line that the channel which serves its reads holds (R245, R246). -/
def State.servedCopy (s : State) (pa : Nat) : Nat :=
  match s.channelOf pa with
  | some (m, _, _) => b01 (s.mirrored && !s.mcReads m && s.mcReads (m + 1))
  | none => 0

/-- Send a line to its controller or port as a writeback under its own key index and class; both channels of a mirrored
pair get it (R80, R194, R199, R245). It is presented at mclk `u`. Answers how many acknowledgements follow. -/
def State.writebackAt (s : State) (u c id : Nat) (pa : Nat) (data : Line) (poison : Bool) (key : KeyIx) (cls : Cls) : State × Nat :=
  let base := mkFlit .req (tileStop c) 2 0 1 cls OP_WRLINE id (lineBase pa)
  let f := { base with data := data, poison := poison, key := key }
  match s.memOwner pa with
  | none => (s, 0)
  | some (.port p) => (s.sendAt u { f with dst := Fin.ofNat 120 (fpStop p) }, 1)
  | some (.mc m) =>
    -- under mirroring a channel that is frozen or retired is left to its partner (R246)
    let ms := if s.mirrored then
        (if s.mcServes m || !s.mcServes (m + 1) then [m] else []) ++ (if s.mcServes (m + 1) then [m + 1] else [])
      else [m]
    (ms.foldl (fun s m => s.sendAt u { f with dst := Fin.ofNat 120 (mcStop m) }) s, ms.length)

/-- A writeback presented now. -/
def State.writeback (s : State) (c id : Nat) (pa : Nat) (data : Line) (poison : Bool) (key : KeyIx) (cls : Cls) : State × Nat :=
  s.writebackAt s.now c id pa data poison key cls

/-- Ask the controller or port for a line, as a miss of the request's class and key index (R187, R210); none where the
address has no owner. -/
def State.askFill (s : State) (c id : Nat) (f : Flit) (t : Nat) (partner : Bool) : Option State :=
  let r := { mkFlit .req (tileStop c) 2 0 1 f.cls OP_RD id (lineBase f.addr.toNat) with key := f.key, tenant := f.tenant }
  match s.memOwner f.addr.toNat with
  | none => none
  | some (.port p) => some (s.sendAt t { r with dst := Fin.ofNat 120 (fpStop p) })
  | some (.mc m) =>
    let other := partner || (s.mirrored && !s.mcReads m && s.mcReads (m + 1))
    some (s.sendAt t { r with dst := Fin.ofNat 120 (mcStop (if other then m + 1 else m)), detail := w64 (b01 partner) })

/-- Present the snoops that wait, in their order, to clusters with fewer than 2 outstanding from this slice (R149). -/
def State.sendSnoops (s : State) (c t : Nat) : State :=
  let q := (s.slice c).snpWait
  q.foldl (fun s f =>
    let k := f.dst.val - 12
    let sl := s.slice c
    if 2 ≤ (sl.snpOut.filter (· == k)).length then s.setSlice c { sl with snpWait := sl.snpWait ++ [f] }
    else (s.setSlice c { sl with snpOut := sl.snpOut ++ [k] }).sendAt t f) (s.setSlice c { s.slice c with snpWait := [] })

/-- Snoop clusters in increasing number, in the request's own class (R149, R189). -/
def State.snoopAll (s : State) (c id : Nat) (op : Fin 32) (cls : Cls) (pa t : Nat) (targets : List Nat) : State :=
  let s1 := targets.foldl (fun s k =>
    let sl := s.slice c
    (s.setSlice c { sl with snpWait := sl.snpWait ++ [mkFlit .snp (tileStop c) 2 (tileStop k) 1 cls op id (lineBase pa)] }).count
      (slicePg c) 0x04 (some cls.val) 1) s
  s1.sendSnoops c t

/-- The snoop of the slice that a response answers is outstanding no longer (R149). -/
def State.snoopAnswered (s : State) (c k : Nat) : State :=
  let sl := s.slice c
  match takeFirst (· == k) sl.snpOut with
  | some (_, rest) => (s.setSlice c { sl with snpOut := rest }).sendSnoops c s.now
  | none => s

/-- The answer of a slice to a request: DATA or ACK on RSP, BDATA or BACK on BULK (R147, R152). -/
def sliceReply (f : Flit) (data : Option (Line × Bool)) (detail : Nat) : Flit :=
  match data with
  | some (l, p) => { replyTo f (if f.plane = .bulk then .bulk else .rsp) OP_DATA with data := l, poison := p, detail := w64 detail, op := 1 - (if f.plane = .bulk then 0 else 1) }
  | none => { replyTo f (if f.plane = .bulk then .bulk else .rsp) (if f.plane = .bulk then OP_BACK else OP_ACK) with detail := w64 detail }

/-- ERROR to a requester, on RSP whatever the plane of the request (R203). -/
def errorReply (f : Flit) : Flit := replyTo f .rsp OP_ERROR

/-- The tag of writebacks that belong to no fill buffer (maintenance, way emptying, retirement), and that of a maintenance
operation's own requests. -/
def UNTRACKED : Nat := 2047
def MAINT : Nat := 2046

/-- Whether a request, or the reply to it, is a maintenance operation's own: it never leaves the slice. -/
def isMaint (f : Flit) : Bool := f.tag.val == MAINT && f.src == f.dst && f.sport == 2 && f.dport == 2

/-- A line of class k's operation is done at mclk u (R206): `f` is the reply, with POISON where the line was poisoned, and detail 3
where no latched way was empty (R200). -/
def State.maintReturn (s : State) (c k u : Nat) (f : Flit) : State :=
  let sl := s.slice c
  match Tab.at? sl.maint k with
  | none => s
  | some r =>
    let res := if f.op = OP_ERROR then 0 else if f.detail = 3 then 3 else if f.poison then 4 else r.result
    let n := if f.op = OP_ERROR ∨ f.detail = 3 then 0 else 1
    (if n = 0 then s else s.count (slicePg c) 0x0A (some k) 1).setSlice c
      { sl with maint := Tab.ins k { r with busy := false, lines := r.lines + n, result := res, next := u, done := u } sl.maint }

/-- A reply of slice c is presented to the mesh at mclk u; a maintenance operation's stays in the slice. -/
def State.slicePresent (s : State) (c u : Nat) (f : Flit) : State :=
  if isMaint f then s.maintReturn c f.cls.val u f else s.sendAt u f

/-- Grants of a data reply to a cluster: S, E or M (R187). -/
def GRANT_S : Nat := 0
def GRANT_E : Nat := 1
def GRANT_M : Nat := 2

/-- Whether an operation only writes back or invalidates. -/
def SliceOp.cleans : SliceOp → Bool
  | .wrline | .cmoClean | .cmoFlush | .cmoDiscard | .bisnp | .maintInv | .maintClean | .maintFlush => true
  | _ => false

/-- Whether a request comes from a cluster and enters the directory (R187). -/
def SliceOp.tracked : SliceOp → Bool
  | .rd | .rdown | .prefetchR | .prefetchW | .blankC => true
  | _ => false

/-- Which snoop a request makes for a line state, if any (R187). -/
def snoopFor (op : SliceOp) (st : LineState) : Option (Fin 32) :=
  match op with
  | .rd | .prefetchR | .uread => if st = .x ∨ st = .o then some OP_SNPSHARE else none
  | .rdown | .prefetchW | .blankC => if st = .i then none else some OP_SNPINV
  | .cmoClean | .maintClean => if st = .x ∨ st = .o then some OP_SNPCLEAN else none
  | .cmoFlush | .cmoDiscard | .bisnp | .maintInv | .maintFlush | .uwrite | .aadd | .acas | .ublank | .maintBlank =>
    if st = .i then none else some OP_SNPINV
  | .wrline | .latchFill => none

/-- Whether the requester itself is left out of the snoop (R187: "others"; a CMO includes it in "all"). -/
def SliceOp.othersOnly : SliceOp → Bool
  | .rd | .rdown | .prefetchR | .prefetchW | .blankC => true
  | _ => false

/-- Whether a request needs the line's data (R187): a full-line write and a BLANK do not. -/
def SliceReq.needsData (r : SliceReq) : Bool :=
  match r.op with
  | .rd | .rdown | .prefetchR | .prefetchW | .uread | .aadd | .acas | .latchFill => true
  | .uwrite => decide (r.f.count.val < 64)
  | .blankC | .wrline | .cmoClean | .cmoFlush | .cmoDiscard | .ublank | .bisnp | .maintInv | .maintClean | .maintFlush | .maintBlank => false

/-- Whether a message comes from a cluster's port (R152). -/
def fromCluster (f : Flit) : Bool := f.sport == 1 && (stopTile? f.src.val).isSome

/-- The cluster of a requester, by its stop (R17). -/
def reqCluster (f : Flit) : Nat := f.src.val - 12

/-- Allocate a data line for class k, choosing a victim (R198); a dirty victim is written back, and the acknowledgements
that follow are counted. None when every way of the mask is latched (R535). -/
def State.allocLine (s : State) (c id : Nat) (f : Flit) (data : Line) (dirty poison : Bool) : Option (State × Nat) :=
  let pa := f.addr.toNat
  let sl := s.slice c
  let put (s : State) (w : Nat) : State :=
    let sl := s.slice c
    s.setSlice c { sl with
      ways := Tab.ins (16 * dataSet pa + w) ⟨lineOf pa, data, dirty, poison, f.key, f.cls, sl.clockUse⟩ sl.ways
      clockUse := sl.clockUse + 1 }
  match findWay sl pa with
  | some (k, w) => some (s.setSlice c { sl with
      ways := Tab.ins k { w with data := data, dirty := dirty || w.dirty, poison := poison, key := f.key, used := sl.clockUse } sl.ways
      clockUse := sl.clockUse + 1 }, 0)
  | none =>
    match chooseWay DataWay.used sl.ways (dataSet pa) (s.dataWays c f.cls.val) with
    | none => none
    | some (w, none) => some (put s w, 0)
    | some (w, some v) =>
      if v.dirty then
        let r := s.writeback c id (v.line * 64) v.data v.poison v.key v.cls
        some ((put r.1 w).count (slicePg c) 0x08 (some v.cls.val) 1, r.2)
      else some (put s w, 0)

/-- The line with a partial write applied (R187): bytes addr[5:0] to addr[5:0] + count - 1. -/
def mergeWrite (l : Line) (f : Flit) : Line :=
  if f.count.val = 64 then f.data else lineMerge l (f.addr.toNat % 64) f.count.val f.data.toNat

/-- AADD and ACAS on the word at an address (R273): the old value and the new line. Detail bit 1 of the message makes it 32
bits wide; payload word 0 is the operand, word 1 the value ACAS compares. -/
def atomicOn (op : SliceOp) (l : Line) (f : Flit) : Word × Line :=
  let n := if bitN f.detail.toNat 1 then 4 else 8
  let o := f.addr.toNat % 64 / n * n
  let old := bits l.toNat (8 * (o + n) - 1) (8 * o)
  let arg := (lineWord f.data 0).toNat % 2 ^ (8 * n)
  match op with
  | .aadd => (w64 old, lineMerge l o n (old + arg))
  | _ => (w64 old, if old = (lineWord f.data 1).toNat % 2 ^ (8 * n) then lineMerge l o n arg else l)

/-- Free a fill buffer: the requests of its set-wait queue re-enter their lanes ahead of those that have not entered
(R196). -/
def freeBuf (sl : Slice) (id : Nat) : Slice :=
  match takeFirst (fun b : FillBuf => b.id == id) sl.bufs with
  | none => sl
  | some (b, rest) => { sl with bufs := rest, lanes := b.waiting ++ sl.lanes }

/-- End of a request's work on its line. With no acknowledgement due, the reply is presented at mclk `u` and the buffer is freed. A reply that
waits for acknowledgements (R143, R535) keeps the lock until they have come; else the lock ends (the set-wait queue re-enters) and the
buffer stays for the writeback alone (R194). -/
def State.endBufAt (s : State) (u c id n : Nat) (after : Option Flit) : State :=
  let sl := s.slice c
  let reply (s : State) : State := match after with
    | some f => s.slicePresent c u f
    | none => s
  match sl.bufs.find? (fun b => b.id == id) with
  | none => reply s
  | some b =>
    if b.wb + n = 0 then reply (s.setSlice c (freeBuf sl id))
    else if after.isSome then s.setSlice c { sl with
      bufs := sl.bufs.map (fun x => if x.id = id then { x with phase := .ack, wb := b.wb + n, after := after, waitFor := [] } else x) }
    else s.setSlice c { sl with
      bufs := sl.bufs.map (fun x => if x.id = id then { x with phase := .done, wb := b.wb + n, after := none, waiting := [], waitFor := [] } else x)
      lanes := b.waiting ++ sl.lanes }

/-- The end of a request's work, with its reply, if any, presented now. -/
def State.endBuf (s : State) (c id n : Nat) (after : Option Flit) : State := s.endBufAt s.now c id n after

/-- Take a fill buffer for a request (R194), or go on in the one it holds. -/
def State.takeBuf (s : State) (c : Nat) (held : Option Nat) (r : SliceReq) (ph : Phase) (wait : List Nat) (victim : Option Nat) :
    State × Nat :=
  let sl := s.slice c
  match held with
  | some id => (s.setSlice c { sl with
      bufs := sl.bufs.map (fun b => if b.id = id then
        { b with phase := ph, waitFor := wait, victim := victim, data := none, ownerHeld := false, snooped := b.snooped || !wait.isEmpty } else b) }, id)
  | none =>
    let id := sl.nextId
    (s.setSlice c { sl with
      nextId := (id + 1) % MAINT
      bufs := sl.bufs ++ [⟨id, r, ph, wait, victim, none, false, 0, none, [], !wait.isEmpty, 0⟩] }, id)

/-- Where a modified line goes when it is allocated in the slice or, with every way of the mask latched, written to
memory (R535): the state, the acknowledgements due, and whether the reply waits for them. -/
def State.placeLine (s : State) (c id : Nat) (f : Flit) (data : Line) (dirty poison : Bool) : State × Nat × Bool :=
  match s.allocLine c id f data dirty poison with
  | some (s1, n) => (s1, n, false)
  | none => if dirty then let r := s.writeback c id f.addr.toNat data poison f.key f.cls
                          (r.1, r.2, true)
            else (s, 0, false)

/-- Remove a line's slice copy. -/
def dropWay (sl : Slice) (pa : Nat) : Slice :=
  match findWay sl pa with
  | some (k, _) => { sl with ways := Tab.del k sl.ways }
  | none => sl

/-- A request that retires its access to a line makes its way the most recent (R198). -/
def touchWay (sl : Slice) (pa : Nat) : Slice :=
  match findWay sl pa with
  | some (k, w) => { sl with ways := Tab.ins k { w with used := sl.clockUse } sl.ways, clockUse := sl.clockUse + 1 }
  | none => sl

/-- The empty latched ways of a line's data set, lowest first (R200). -/
def State.emptyLatched (s : State) (c l : Nat) : List Nat :=
  (List.range 12).filter (fun w => bitN (s.fld (slicePg c) R.SLC_LATCH_WAYS) w &&
    (Tab.at? (s.slice c).ways (16 * dataSet (64 * l) + w)).isNone)

/-- Maintenance and a BISNP act on a line whatever its key index (R205, R210). -/
def SliceOp.keyBlind : SliceOp → Bool
  | .bisnp | .maintInv | .maintClean | .maintFlush | .maintBlank => true
  | _ => false

/-- Perform the action of R187 on the line, all snoops answered and the data at hand: `snp` is the data an owner sent
(line, held in M, poison), `mem` the line filled from memory. A fill is kept in the slice but for an NC load's (R109; log entry 93). -/
def State.finish (s : State) (c id : Nat) (r : SliceReq) (st : LineState) (snp mem : Option (Line × Bool × Bool)) : State :=
  let f := r.f
  let pa := f.addr.toNat
  let s : State := s.setSlice c (touchWay (s.slice c) pa)
  let sl := s.slice c
  let way : Option (Nat × DataWay) := findWay sl pa
  let buf : Option FillBuf := sl.bufs.find? (fun b => b.id == id)
  let held := way.map (fun w => (w.2.data, w.2.poison))
  let slice? : Option (Line × Bool) := match snp with
    | some d => some (d.1, d.2.2)
    | none => match held with
      | some h => some h
      | none => mem.map (fun m => (m.1, m.2.2))
  let line := slice?.getD (0, false)
  let dirtyOwner := (snp.map (fun d => d.2.1)).getD false
  let snooped : Bool := (buf.map (fun b => b.snooped)).getD false
  let tDeliver := s.now + (if snooped || mem.isSome then 2 else 14)
  let tModify := s.now + 14
  -- a CMO that finds neither a copy nor a state other than I ends with the miss decision (R206)
  let tCmo := s.now + (if way.isNone && st == .i then 6 else 14)
  -- a line filled from memory is allocated clean in the slice (R195, R210, R535)
  let keep (s : State) : State × Nat :=
    match snp, mem with
    | none, some m => match s.allocLine c id f m.1 false m.2.2 with
      | some x => x
      | none => (s, 0)
    | _, _ => (s, 0)
  let setD (s : State) (st : LineState) : State := s.setSlice c (setLine (s.slice c) pa st)
  let grantTo (s : State) (st : LineState) : State :=
    let s1 := setD s st
    s1.setSlice c (addPres (s1.slice c) pa (reqCluster f))
  let rep : Flit := { sliceReply f none 0 with poison := isMaint f && line.2 }
  let done (p : State × Nat × Bool) (f : Flit) : State :=
    if p.2.2 then p.1.endBuf c id p.2.1 (some f) else (p.1.slicePresent c tModify f).endBuf c id p.2.1 none
  -- what a CMO or a maintenance operation writes back: the owner's data, else the slice's own copy
  let wb : Option (Line × Bool × KeyIx × Cls) := match snp, way with
    | some d, w => if d.2.1 then some (d.1, d.2.2, (buf.map (fun b => b.dataKey)).getD f.key, f.cls) else
        w.bind (fun w => if w.2.dirty then some (w.2.data, w.2.poison, w.2.key, w.2.cls) else none)
    | none, w => w.bind (fun w => if w.2.dirty then some (w.2.data, w.2.poison, w.2.key, w.2.cls) else none)
  match r.op with
  | .rd | .prefetchR =>
    let grant := if st = .i then GRANT_E else GRANT_S
    let st' := match st with
      | .i => LineState.x
      | .s => .s
      | .x => if dirtyOwner then .o else .s
      | .o => if snp.isSome then .o else .s
    let k := keep s
    ((grantTo k.1 st').slicePresent c tDeliver (sliceReply f (some line) grant)).endBuf c id k.2 none
  | .rdown | .prefetchW =>
    let grant := if dirtyOwner || st == .o then GRANT_M else GRANT_E
    let k := keep s
    ((grantTo k.1 .x).slicePresent c tDeliver (sliceReply f (some line) grant)).endBuf c id k.2 none
  | .blankC =>
    let p := s.placeLine c id f 0 true false
    done ((grantTo p.1 .x).count (slicePg c) 0x07 (some f.cls.val) 1, p.2) (sliceReply f (some (0, false)) GRANT_E)
  | .wrline =>
    let owner := (st == .x || st == .o) && (presOf sl pa).contains (reqCluster f)
    let leave (s : State) : State :=
      if f.detail.toNat % 16 = 0 then s.setSlice c (clearPres (s.slice c) pa (reqCluster f)) else s
    if !owner && way.isSome then (leave s).slicePresent c tModify rep |>.endBuf c id 0 none
    else
      let p := s.placeLine c id f f.data true f.poison
      let s1 := if owner then setD p.1 (if st = .x then .i else .s) else p.1
      done (leave s1, p.2) rep
  | .cmoClean | .maintClean =>
    let clean (sl : Slice) : Slice := match findWay sl pa with
      | some (k, w) => { sl with ways := Tab.ins k { w with dirty := false, data := line.1, poison := line.2 } sl.ways }
      | none => sl
    let s1 := setD (s.setSlice c (clean sl)) (if st = .o then .s else st)
    match wb with
    | some w => let x := s1.writebackAt tCmo c id pa w.1 w.2.1 w.2.2.1 w.2.2.2
                x.1.endBufAt tCmo c id x.2 (some rep)
    | none => s1.endBufAt tCmo c id 0 (some rep)
  | .cmoFlush | .maintFlush =>
    let s1 := setD (s.setSlice c (dropWay sl pa)) .i
    match wb with
    | some w => let x := s1.writebackAt tCmo c id pa w.1 w.2.1 w.2.2.1 w.2.2.2
                x.1.endBufAt tCmo c id x.2 (some rep)
    | none => s1.endBufAt tCmo c id 0 (some rep)
  | .bisnp =>
    -- answered when the last response has arrived (R210)
    let s1 := setD (s.setSlice c (dropWay sl pa)) .i
    let tRep := if snooped then s.now else tCmo
    let x := match wb with
      | some w => s1.writebackAt tCmo c id pa w.1 w.2.1 w.2.2.1 w.2.2.2
      | none => (s1, 0)
    (x.1.sendAt tRep (replyTo f .rsp OP_SNPRSP)).endBuf c id x.2 none
  | .cmoDiscard | .maintInv => (setD (s.setSlice c (dropWay sl pa)) .i).endBufAt tCmo c id 0 (some rep)
  | .uread =>
    let st' := match st with
      | .x => if dirtyOwner then LineState.o else .s
      | .o => if snp.isSome then .o else .s
      | t => t
    let k := if fromCluster f then (s, 0) else keep s
    ((setD k.1 st').slicePresent c tDeliver (sliceReply f (some line) 0)).endBuf c id k.2 none
  | .uwrite =>
    let p := s.placeLine c id f (mergeWrite line.1 f) true (if f.count.val = 64 then f.poison else line.2 || f.poison)
    done (setD p.1 .i, p.2) (sliceReply f none 0)
  | .aadd | .acas =>
    let a := atomicOn r.op line.1 f
    -- on a poisoned line the atomic is not performed (R273)
    let p := if line.2 then s.placeLine c id f line.1 dirtyOwner true else s.placeLine c id f a.2 true false
    done (setD p.1 .i, p.2) (sliceReply f (some (setLineWord 0 0 a.1, line.2)) 0)
  | .ublank | .maintBlank =>
    let p := s.placeLine c id f 0 true false
    done ((setD p.1 .i).count (slicePg c) 0x07 (some f.cls.val) 1, p.2) rep
  | .latchFill =>
    -- R200: into the lowest-numbered empty latched way of the set
    match s.emptyLatched c (lineOf pa) with
    | [] => s.endBufAt (s.now + 6) c id 0 (some { rep with detail := 3 })
    | w :: _ =>
      let d : DataWay := match way with
        | some (_, x) => x
        | none => ⟨lineOf pa, line.1, false, line.2, f.key, f.cls, sl.clockUse⟩
      let sl1 := dropWay sl pa
      (s.setSlice c { sl1 with ways := Tab.ins (16 * dataSet pa + w) d sl1.ways }).endBufAt (if mem.isSome then s.now + 8 else tModify)
        c id 0 (some rep)

/-- A request ends with ERROR, presented at mclk `u`; an entry allocated for it whose four lines are I is freed (R185). -/
def State.failReq (s : State) (c id u : Nat) (f : Flit) : State :=
  let pa := f.addr.toNat
  ((s.setSlice c (setLine (s.slice c) pa (lineStateOf (s.slice c) pa))).slicePresent c u (errorReply f)).endBuf c id 0 none

/-- After the snoops: finish at once when the data needed is at hand, else continue as a miss (R189). -/
def State.afterSnoops (s : State) (c id : Nat) (r : SliceReq) (st : LineState) (snp : Option (Line × Bool × Bool)) : State :=
  let sl := s.slice c
  if r.needsData && snp.isNone && (findWay sl r.f.addr.toNat).isNone then
    match s.askFill c id r.f (s.now + (if sl.bufs.any (fun b => b.id == id && b.snooped) then 0 else 6)) false with
    | some s1 => s1.setSlice c { s1.slice c with
        bufs := (s1.slice c).bufs.map (fun b => if b.id = id then { b with phase := .fill, waitFor := [] } else b) }
    | none => s.failReq c id (s.now + 6) r.f
  else s.finish c id r st snp none

/-- Whether a request that needs no snoop and no fill writes a line back: a dirty victim, a line that no way takes (R535), or a CMO's dirty copy. -/
def State.writesBack (s : State) (c : Nat) (r : SliceReq) (st : LineState) : Bool :=
  let sl := s.slice c
  let pa := r.f.addr.toNat
  let way : Option (Nat × DataWay) := findWay sl pa
  let held : Bool := (way.map (fun w => w.2.dirty)).getD false
  let victim : Bool := if way.isSome then false else
    match chooseWay DataWay.used sl.ways (dataSet pa) (s.dataWays c r.f.cls.val) with
    | none => true
    | some (_, some v) => v.dirty
    | some (_, none) => false
  match r.op with
  | .blankC | .uwrite | .ublank | .maintBlank | .wrline => victim
  | .cmoClean | .cmoFlush | .bisnp | .maintClean | .maintFlush => held || st == .x || st == .o
  | .rd | .rdown | .prefetchR | .prefetchW | .uread | .aadd | .acas | .cmoDiscard | .maintInv | .latchFill => false

/-- Whether class k may take one more fill buffer: its share and the slice's 32 (R194). -/
def State.bufRoom (s : State) (c k : Nat) : Bool :=
  decide (bufsHeld (s.slice c) k < s.fillShare c k) && decide ((s.slice c).bufs.length < 32)

/-- Decide a request no copy of whose line carries another key index (R187, R192, R194), in the buffer it holds, if any. None: it
needs a fill buffer and its class has none free, so it stays at the head of its lane. -/
def State.decideKeyed (s : State) (c : Nat) (inBuf : Option Nat) (r : SliceReq) : Option State :=
  let f := r.f
  let pa := f.addr.toNat
  let sl := s.slice c
  let st := lineStateOf sl pa
  let room := inBuf.isSome || s.bufRoom c f.cls.val
  let way : Option (Nat × DataWay) := findWay sl pa
  -- a tracked request for a block with no entry allocates one (R192)
  let cand : Option (Nat × Option DirWay) :=
    if r.op.tracked && (findDir sl pa).isNone then chooseWay DirWay.used sl.dir (dirSet pa) (s.dirWays c f.cls.val) else none
  let victim : Option (Nat × DirWay × List Nat) := match cand with
    | some (w, some v) =>
      let lines := (List.range 4).filter (fun n => v.lineState n != .i)
      if v.pres.isEmpty then none else some (w, v, lines)
    | _ => none
  match victim with
  | some (w, v, lines) =>
    if room then
      let t := s.takeBuf c inBuf r .evict (lines.flatMap (fun _ => v.pres)) (some (16 * dirSet pa + w))
      let s1 := lines.foldl (fun s n => s.snoopAll c t.2 OP_SNPINV f.cls (v.block * 256 + 64 * n) (s.now + 6) v.pres) t.1
      some (s1.count (slicePg c) 0x09 (some v.cls.val) 1)
    else none
  | none =>
    let s := match cand with
      | some (w, _) => s.setSlice c (newDir sl pa w f.cls)
      | none => s
    let pres := presOf sl pa
    let targets := if r.op.othersOnly then pres.filter (· != reqCluster f) else pres
    match (if targets.isEmpty then none else snoopFor r.op st) with
    | some op =>
      if room then
        let t := s.takeBuf c inBuf r .snoop targets none
        some (t.1.snoopAll c t.2 op f.cls pa (s.now + 6) targets)
      else none
    | none =>
      if room then
        let t := s.takeBuf c inBuf r .snoop [] none
        some (t.1.afterSnoops c t.2 r st none)
      else if (r.needsData && way.isNone) || s.writesBack c r st then none
      else
        -- served from the slice copy: no buffer is needed (R194)
        some (s.finish c MAINT r st none none)

/-- Whether a copy of the request's line carries another key index (R80, R191): the slice's, or one in a cluster of PRES. -/
def State.foreignCopy (s : State) (c : Nat) (f : Flit) : Bool :=
  let sl := s.slice c
  let pa := f.addr.toNat
  ((findWay sl pa).map (fun w => w.2.key != f.key)).getD false ||
    (presOf sl pa).any (fun k => ((Tab.at? (Tab.get {} s.clusters k).l2 (lineOf pa)).map (fun w => w.key != f.key)).getD false)

/-- The clusters have given up their copies under another key index (R80, R191): the slice's own is written back if dirty and dropped; the
request goes on as a miss in its buffer. -/
def State.rekeyed (s : State) (c id : Nat) (r : SliceReq) : State :=
  let sl := s.slice c
  let pa := r.f.addr.toNat
  let x := match findWay sl pa with
    | some (_, w) => if w.dirty then s.writeback c id pa w.data w.poison w.key w.cls else (s, 0)
    | none => (s, 0)
  let sl1 := x.1.slice c
  let sl2 := setLine (dropWay sl1 pa) pa .i
  let s1 := x.1.setSlice c { sl2 with bufs := sl2.bufs.map (fun b => if b.id = id then { b with wb := b.wb + x.2 } else b) }
  (s1.decideKeyed c (some id) r).getD s1

/-- Write back a line with no fill buffer and count the acknowledgements due. -/
def State.writebackAlone (s : State) (c l : Nat) (data : Line) (poison : Bool) (key : KeyIx) (cls : Cls) : State :=
  let r := s.writeback c UNTRACKED (64 * l) data poison key cls
  r.1.setSlice c { r.1.slice c with wbDue := (r.1.slice c).wbDue + r.2 }

/-- Decide a request that no lock holds (R187, R191, R192, R194). A WRLINE that finds the slice's copy under another key index replaces
it, once that is written back. -/
def State.decideReq (s : State) (c : Nat) (r : SliceReq) : Option State :=
  let f := r.f
  let pa := f.addr.toNat
  let way : Option (Nat × DataWay) := findWay (s.slice c) pa
  let s : State := if isMaint f then s
    else (s.count (slicePg c) 0x01 (some f.cls.val) (if r.op.tracked then 1 else 2)).count (slicePg c)
      (if way.isSome then 0x02 else 0x03) (some f.cls.val) 1
  if r.op.keyBlind || !s.foreignCopy c f then s.decideKeyed c none r
  else if r.op = .wrline then
    match way with
    | some (_, w) =>
      if w.key = f.key then s.decideKeyed c none r
      else
        let s1 := if w.dirty then s.writebackAlone c (lineOf pa) w.data w.poison w.key w.cls else s
        (s1.setSlice c (dropWay (s1.slice c) pa)).decideKeyed c none r
    | none => s.decideKeyed c none r
  else if !s.bufRoom c f.cls.val then none
  else
    let pres := presOf (s.slice c) pa
    let t := s.takeBuf c none r .rekey pres none
    let s1 := (t.1.snoopAll c t.2 OP_SNPINV f.cls pa (s.now + 6) pres).count (slicePg c) 0x0B (some f.cls.val) 1
    some (if pres.isEmpty then s1.rekeyed c t.2 r else s1)

/-- The buffer whose lock a request meets (R195): same class and data set, or same block; while a directory victim is evicted, its block
too (log entry 94). -/
def lockOn (sl : Slice) (r : SliceReq) : Option FillBuf :=
  sl.bufs.find? (fun b => b.phase != .done &&
    (blockOf b.req.f.addr.toNat == blockOf r.f.addr.toNat ||
      (b.req.f.cls == r.f.cls && dataSet b.req.f.addr.toNat == dataSet r.f.addr.toNat) ||
      (b.phase == .evict && ((b.victim.bind (Tab.at? sl.dir)).map (fun d => d.block == blockOf r.f.addr.toNat)).getD false)))

/-- Serve one request that stands at the tag stage; the flag says that it stays in its lane: behind another request of its class, or
without a free buffer (R193-R196). -/
def State.serveOne (s : State) (c : Nat) (r : SliceReq) : State × Bool :=
  let sl := s.slice c
  if sl.lanes.any (fun q => q.f.cls == r.f.cls) then (s, true)
  else match lockOn sl r with
  | some b =>
    if b.waiting.length < 16 then
      (s.setSlice c { sl with bufs := sl.bufs.map (fun x => if x.id = b.id then { x with waiting := x.waiting ++ [r] } else x) }, false)
    else if isMaint r.f then (s, true)
    else (s.sendAt s.now (bounceOf r.f), false)
  | none =>
    match s.decideReq c r with
    | some s1 => (s1, false)
    | none => (s, true)

/-- A request joins its lane and is served if it can be. -/
def State.enterLane (s : State) (c : Nat) (r : SliceReq) : State :=
  let x := s.serveOne c r
  if x.2 then x.1.setSlice c { x.1.slice c with lanes := (x.1.slice c).lanes ++ [r] } else x.1

/-- Serve the waiting lanes once, in order; what cannot proceed keeps its place (R193, R194). A frozen slice serves nothing (R211). -/
def State.drainLanes (s : State) (c : Nat) : State :=
  if s.flag (slicePg c) R.PG_STATUS_FROZEN then s
  else
    let q := (s.slice c).lanes
    q.foldl (fun s r => s.enterLane c r) (s.setSlice c { s.slice c with lanes := [] })

/-- Record that a SLICE or DIRECTORY page writes raises wired source 16 c + 5 (R211). -/
def State.sliceRecord (s : State) (pg c sev code addr detail : Nat) (sec : Bool) : State :=
  (s.record pg sev code addr detail sec).pulse (16 * c + 5)

/-- A request reaches slice c (R193, R203, R211, R213): one that is not the home of the bucket answers BOUNCE, a frozen slice holds it, and
a disabled one answers ERROR and logs 0x5011. -/
def State.sliceRequest (s : State) (c : Nat) (r : SliceReq) : State :=
  if s.homeOf r.f.addr.toNat ≠ c then s.sendAt s.now (bounceOf r.f)
  else if s.flag (slicePg c) R.PG_STATUS_FROZEN then
    s.setSlice c { s.slice c with lanes := (s.slice c).lanes ++ [r] }
  else if !s.flag (slicePg c) R.SLC_CTL_EN then
    (s.sendAt (s.now + 6) (errorReply r.f)).sliceRecord (slicePg c) c 2 0x5011 r.f.addr.toNat 0 (s.secureClass r.f.cls.val)
  else
    let pa := r.f.addr.toNat
    if (region pa).isFabricMem && !r.op.cleans && ((s.windowAt pa).isNone || s.windowHold pa) then
      -- no enabled window, or one that a planned departure holds (R394, R404)
      s.sendAt (s.now + 6) (errorReply r.f)
    else (s.enterLane c r).drainLanes c

/-- A snoop response reaches the slice (R189-R192): the last one lets the request go on. Its detail holds the 4-bit map of
lines the cluster keeps (bits 3..0), whether its copy was dirty (bit 4) and held in M (bit 5). A frozen slice serves nothing, but dirty
data is not lost: it goes to memory (R211; log entry 95). -/
def State.snoopResponse (s : State) (c : Nat) (f : Flit) : State :=
  let k := f.src.val - 12
  let s := s.snoopAnswered c k
  let sl := s.slice c
  let id := f.tag.val
  let d := f.detail.toNat
  let pa := f.addr.toNat
  let dirty := bitN d 4 && f.op == OP_SNPDATA
  if s.flag (slicePg c) R.PG_STATUS_FROZEN then
    if dirty then s.writebackAlone c (lineOf pa) f.data f.poison f.key f.cls else s
  else match sl.bufs.find? (fun b => b.id == id) with
  | none => s
  | some b =>
    -- a response with map 0 clears the cluster's PRES bit (R186)
    let s0 := if d % 16 = 0 then s.setSlice c (clearPres sl pa k) else s
    let got : Option (Line × Bool × Bool) := if f.op = OP_SNPDATA then some (f.data, bitN d 5, f.poison) else none
    let cleaning := b.req.op.cleans
    let mism := f.op = OP_SNPDATA ∧ f.key ≠ b.req.f.key ∧ !b.req.op.keyBlind
    let wbNow := dirty && (b.phase == .evict || b.phase == .rekey || mism)
    let x := if wbNow then s0.writeback c id pa f.data f.poison f.key f.cls else (s0, 0)
    -- the slice's copy of a line whose newer data went to memory is stale
    let s1 := if wbNow then x.1.setSlice c (dropWay (x.1.slice c) pa) else x.1
    let rest := match takeFirst (· == k) b.waitFor with
      | some (_, t) => t
      | none => b.waitFor
    let b1 := { b with
      waitFor := rest, wb := b.wb + x.2
      data := if b.phase = .snoop ∧ ¬ mism then (match got with
        | some g => some (g.1, g.2.1 || (dirty && cleaning), g.2.2)
        | none => b.data) else b.data
      dataKey := if got.isSome then f.key else b.dataKey
      ownerHeld := b.ownerHeld || mism }
    let s2 := s1.setSlice c { s1.slice c with bufs := (s1.slice c).bufs.map (fun y => if y.id = id then b1 else y) }
    let req := b.req.f.addr.toNat
    if !rest.isEmpty then s2
    else match b.phase with
      | .snoop =>
        if b1.ownerHeld then
          -- another key index: every copy is invalidated, then a miss (R80, R191)
          let pres := presOf (s2.slice c) req
          let s3 := s2.setSlice c { s2.slice c with bufs := (s2.slice c).bufs.map (fun y =>
            if y.id = id then { b1 with phase := .rekey, waitFor := pres, ownerHeld := false } else y) }
          if pres.isEmpty then (s3.rekeyed c id b.req).drainLanes c
          else s3.snoopAll c id OP_SNPINV b.req.f.cls req s3.now pres
        else (s2.afterSnoops c id b.req (lineStateOf (s2.slice c) req) b1.data).drainLanes c
      | .rekey => (s2.rekeyed c id b.req).drainLanes c
      | .evict =>
        -- the victim entry is free; the request goes on in its buffer (R192)
        let sl2 := s2.slice c
        let s3 := s2.setSlice c { sl2 with dir := match b.victim with
          | some v => Tab.del v sl2.dir
          | none => sl2.dir }
        ((s3.decideKeyed c (some id) b.req).getD s3).drainLanes c
      | _ => s2

/-- A line or an acknowledgement from memory reaches the slice (R194, R195, R210, R245). A frozen slice only counts acknowledgements
(R211). -/
def State.fillArrival (s : State) (c : Nat) (f : Flit) : State :=
  let sl := s.slice c
  let id := f.tag.val
  let frozen := s.flag (slicePg c) R.PG_STATUS_FROZEN
  match sl.bufs.find? (fun b => b.id == id) with
  | none => if id = UNTRACKED then s.setSlice c { sl with wbDue := sl.wbDue - 1 } else s
  | some b =>
    if b.phase = .fill ∧ (f.op = OP_DATA ∨ f.op = OP_ERROR) then
      if frozen then s
      else if f.op = OP_DATA then
        -- a line recovered from the partner is written back to channel 2j (R245)
        let s1 := if f.detail = 1 ∧ s.mirrored then
            match s.memOwner b.req.f.addr.toNat with
            | some (.mc m) =>
              let w := { mkFlit .req (tileStop c) 2 (mcStop m) 1 f.cls OP_WRLINE UNTRACKED (lineBase b.req.f.addr.toNat) with
                data := f.data, poison := f.poison, key := b.req.f.key }
              (s.send w).setSlice c { sl with wbDue := sl.wbDue + 1 }
            | _ => s
          else s
        (s1.finish c id b.req (lineStateOf sl b.req.f.addr.toNat) none (some (f.data, false, f.poison))).drainLanes c
      else if f.detail = 1 then
        -- detail MIRROR: the read goes to the partner (R245)
        (s.askFill c id b.req.f s.now true).getD s
      else (s.failReq c id (s.now + 2) b.req.f).drainLanes c
    else if f.op = OP_DATA then s
    else
      -- ACK of a writeback, or ERROR from a controller that does not serve it
      let n := b.wb - 1
      if n = 0 ∧ (b.phase = .done ∨ b.phase = .ack) then
        let s1 := s.setSlice c (freeBuf sl id)
        let s2 := match b.after with
          | some r => s1.slicePresent c s1.now r
          | none => s1
        s2.drainLanes c
      else s.setSlice c { sl with bufs := sl.bufs.map (fun y => if y.id = id then { y with wb := n } else y) }

end Sys2Proof.Machine
end

