-- ==== Sys2Proof/Machine/Translate.lean ====
section
/-! DEFINITION. Page-table walks of one and two stages (Sv39, Sv48, Sv57, Svade, Svnapot of 64 KiB, Svpbmt: 04 R105, R106,
R109; the PTE format is that of the RISC-V Privileged Manual named in R12), and what the coherence domain holds at an
address, as the walks and the context reads see it (03 R78). -/

namespace Sys2Proof.Machine

def State.cluster (s : State) (c : Nat) : Cluster := Tab.get {} s.clusters c
def State.setCluster (s : State) (c : Nat) (v : Cluster) : State := { s with clusters := Tab.set {} s.clusters c v }
def State.core (s : State) (k : Nat) : CoreState := Tab.get {} s.cores k
def State.setCore (s : State) (k : Nat) (v : CoreState) : State := { s with cores := Tab.set {} s.cores k v }
def State.hart (s : State) (h : Nat) : HartState := Tab.get {} s.harts h
def State.setHart (s : State) (h : Nat) (v : HartState) : State := { s with harts := Tab.set {} s.harts h v }
/-- The core that runs hart h (R17). -/
def State.coreOf (s : State) (h : Nat) : Nat := Tab.get h s.hartCore h

/-- A dirty L1D copy of a line in the cores of a cluster (R186). -/
def State.dirtyL1 (s : State) (c l : Nat) : Option Line :=
  (List.range 4).findSome? (fun i =>
    match Tab.at? (s.core (4 * c + i)).l1d l with
    | some w => if w.dirty then some w.data else none
    | none => none)

/-- The clusters listed as holding a line in E, M or O, first of them (R186). -/
def State.ownerOf (s : State) (l : Nat) : Option (Nat × L2Line) :=
  s.clusters.findSome? (fun e =>
    match Tab.at? e.2.l2 l with
    | some w => if w.st = .s then none else some (e.1, w)
    | none => none)

/-- The line at `pa` as the coherence domain holds it, read under key index `k` (R78, R80, R239): an owner's copy, else
the home slice's, else memory's. Answers the data and whether it is poisoned. -/
def State.coherentLine (s : State) (pa : Nat) (k : Nat) : Line × Bool :=
  match s.ownerOf (lineOf pa) with
  | some (c, w) => (crossKey (s.keyOf w.key.val) (s.keyOf k) (lineBase pa) ((s.dirtyL1 c (lineOf pa)).getD w.data), w.poison)
  | none =>
    match findWay (s.slice (s.homeOf pa)) pa with
    | some (_, w) => (crossKey (s.keyOf w.key.val) (s.keyOf k) (lineBase pa) w.data, w.poison)
    | none =>
      let cp := s.servedCopy pa
      let a := s.lineAttr pa cp
      if region pa = .fabricMem then (Config.partnerLine (lineBase pa) s.now, false)
      else (crossKey a.key (s.keyOf k) (lineBase pa) (s.memLine (copyAddr pa cp)), a.poison)

/-- The doubleword at an aligned address, as the coherence domain holds it; none outside memory. -/
def State.coherentWord (s : State) (k : Nat) (pa : Nat) : Option Word :=
  if (s.memOwner pa).isSome && !s.windowHold pa && !s.windowGone pa then some (lineWord (s.coherentLine pa k).1 (pa % 64 / 8)) else none

/-- Outcome of a translation: an address with its page-based memory type (0 PMA, 1 NC, 2 IO) and leaf permissions, the
fault met, or the line a walk must ask for before it can go on (R135, R137). -/
inductive Xlat where
  | ok (pa : Nat) (pbmt : Nat) (pte : Nat) (pageBits : Nat)
  | pageFault
  | accessFault
  | guestFault (gpa : Nat)
  | poison
  | ask (line : Nat)
  deriving DecidableEq, Repr

/-- One stage of a walk from the table at `base`, `n` levels left; `extra` widens the top index by 2 bits (second stage).
`read` fetches a page-table entry. -/
def walk (read : Nat → Xlat ⊕ Word) (va : Nat) : Nat → Nat → Nat → Xlat
  | 0, _, _ => .pageFault
  | n + 1, base, extra =>
    let i := bits va (12 + 9 * n + 8 + extra) (12 + 9 * n)
    match read (base + 8 * i) with
    | .inl x => x
    | .inr w =>
      let p := w.toNat
      let ppn := bits p 53 10
      let r := bitN p 1
      let wr := bitN p 2
      let x := bitN p 3
      if !bitN p 0 || (!r && wr) || bits p 60 54 != 0 then .pageFault
      else if !r && !wr && !x then
        if bitN p 4 || bitN p 6 || bitN p 7 || bits p 63 61 != 0 then .pageFault
        else walk read va n (ppn <<< 12) 0
      else
        let napot := bitN p 63
        if !bitN p 6 || bits p 62 61 == 3 || (napot && (n != 0 || bits p 13 10 != 8)) || ppn % 2 ^ (9 * n) != 0 then .pageFault
        else
          let pb := if napot then 16 else 12 + 9 * n
          .ok ((ppn <<< 12) / 2 ^ pb * 2 ^ pb + va % 2 ^ pb) (bits p 62 61) p pb

/-- Levels of a translation mode: Sv39, Sv48, Sv57 (R77); none for an undefined mode. -/
def modeLevels (m : Nat) : Option Nat := if m = 8 then some 3 else if m = 9 then some 4 else if m = 10 then some 5 else none

/-- Whether a virtual address is canonical for `n` levels: its upper bits copy the top translated bit. -/
def canonical (n va : Nat) : Bool :=
  let top := 12 + 9 * n
  va >>> (top - 1) == 0 || va >>> (top - 1) == 2 ^ (64 - top + 1) - 1

/-- What an access needs of a leaf entry: write, execute, and whether it is made as user, with SUM and MXR. -/
structure Need where
  write : Bool
  exec : Bool
  user : Bool
  sum : Bool
  mxr : Bool
  deriving DecidableEq, Repr

/-- Whether a leaf entry allows an access; D must be set to write (Svade). -/
def leafAllows (pte : Nat) (n : Need) : Bool :=
  let u := bitN pte 4
  let um := if n.user then u else (!u || (n.sum && !n.exec))
  let rx := if n.exec then bitN pte 3 else if n.write then bitN pte 2 && bitN pte 7
            else bitN pte 1 || (n.mxr && bitN pte 3)
  um && rx

/-- Second-stage translation of a guest physical address: mode and root as in hgatp or a context entry's word 1. -/
def gstage (read : Nat → Xlat ⊕ Word) (mode root gpa : Nat) (write exec : Bool) : Xlat :=
  if mode = 0 then .ok gpa 0 0 64
  else match modeLevels mode with
    | none => .pageFault
    | some n =>
      if gpa >>> (12 + 9 * n + 2) != 0 then .guestFault gpa
      else match walk read gpa n root 2 with
        | .ok pa pb pte sz =>
          if leafAllows pte ⟨write, exec, true, false, false⟩ then .ok pa pb pte sz else .guestFault gpa
        | .pageFault => .guestFault gpa
        | x => x

/-- First-stage translation, whose table reads go through the second stage (mode and root given; 0 for none). -/
def twoStage (read : Nat → Xlat ⊕ Word) (mode root gmode groot va : Nat) (n : Need) : Xlat :=
  let first : Xlat :=
    if mode = 0 then .ok va 0 0xFFF 64
    else match modeLevels mode with
      | none => .pageFault
      | some l =>
        if !canonical l va then .pageFault
        else walk (fun a => match gstage read gmode groot a false false with
            | .ok pa _ _ _ => read pa
            | x => .inl x) va l root 0
  match first with
  | .ok gpa pb pte sz =>
    if mode ≠ 0 ∧ !leafAllows pte n then .pageFault
    else match gstage read gmode groot gpa n.write n.exec with
      | .ok pa pb2 _ sz2 => .ok pa (if pb = 0 then pb2 else pb) pte (min sz sz2)
      | x => x
  | x => x

end Sys2Proof.Machine
end

