-- ==== Sys2Proof/Machine/Context.lean ====
section
/-! DEFINITION. The tenant context table (03 R77, R78): how an engine, a DMA channel, a task queue and a fabric port read a
tenant's entry and its page tables over the mesh (R22, R350), translate through them, and raise its fault source. -/

namespace Sys2Proof.Machine

/-- Address of a tenant's context entry (R77); none while the table is not in use: Bare. -/
def State.ctxAddr (s : State) (t : Nat) : Option Nat :=
  let r := s.reg (tctPg 0 + 0x908)
  if bitN r 0 then some ((bits r 51 18 <<< 18) + 64 * t) else none

/-- A read that failed or came poisoned gives a context whose MODE is undefined, so every translation through it is a page fault (R77).
DESIGN CHOICE: the manual gives the read no failure (log entry 113). -/
def badContext : Line := lineOfWords [w64 (15 <<< 60)]

/-- The context a read of an entry answers (R78). -/
def contextOf (f : Flit) (bad : Bool) : Line := if bad || f.poison then badContext else f.data

/-- An untracked read of a line by an agent that translates (R78, R350): from its stop and port, in `cls`, for tenant t, under `key`. -/
def State.tableRead (s : State) (stop port tag : Nat) (t : Tenant) (cls : Cls) (key : KeyIx) (pa : Nat) : Flit :=
  { mkFlit .bulk stop port (tileStop (s.homeOf pa)) 2 cls OP_BRD tag (lineBase pa) with tenant := t, key := key }

/-- The read of tenant t's context entry at `pa`: in the class of the tenant, with key index 0 (R78). -/
def State.contextRead (s : State) (stop port tag t pa : Nat) : Flit :=
  s.tableRead stop port tag (Fin.ofNat 4096 t) (Fin.ofNat 16 (tctClass (s.tctEntry t))) 0 pa

/-- Word i of a context entry; zero under Bare. -/
def ctxWord (c : Option Line) (i : Nat) : Nat :=
  match c with
  | none => 0
  | some l => (lineWord l i).toNat

/-- A page-table entry as the lines a walk has read so far hold it; a line not yet read is asked for (R22, R350). -/
def State.walkWord (s : State) (lines : List WalkLine) (pa : Nat) : Xlat ⊕ Word :=
  if !s.mainMemory pa then .inl .accessFault
  else match lines.find? (fun w => w.line == pa / 64) with
    | none => .inl (.ask (pa / 64))
    | some w => if w.err then .inl .accessFault else if w.poison then .inl .poison else .inr (lineWord w.data (pa % 64 / 8))

/-- Translate a system address through a context entry as a U-mode access of its tenant (R77, R257). -/
def State.ctxTranslate (s : State) (c : Option Line) (lines : List WalkLine) (va : Nat) (write : Bool) : Xlat :=
  twoStage (s.walkWord lines) (bits (ctxWord c 0) 63 60) (bits (ctxWord c 0) 43 0 <<< 12) (bits (ctxWord c 1) 63 60)
    (bits (ctxWord c 1) 43 0 <<< 12) va ⟨write, false, true, false, false⟩

/-- What a translation comes to: an address, the table line it must read first, or a failure (a table that cannot be read counts as one). -/
inductive Reached where
  | pa (a : Nat)
  | ask (line : Nat)
  | fail
  deriving DecidableEq, Repr

/-- The outcome of a translation, as an agent other than a hart acts on it. -/
def Xlat.reached : Xlat → Reached
  | .ok pa _ _ _ => .pa (pa % 2 ^ 64)
  | .ask l => .ask l
  | .pageFault => .fail
  | .accessFault => .fail
  | .guestFault _ => .fail
  | .poison => .fail

/-- Translate through a translation cache of 4 KiB entries, then through a context (R257, R342, R396); `tag` tells entries of different
functions apart. Answers what was reached and the cache with the entry used first, at most `cap` entries. -/
def State.cachedXlat (s : State) (cap tag : Nat) (tlb : List TlbEntry) (c : Option Line) (lines : List WalkLine) (va : Nat) (write : Bool) :
    Reached × List TlbEntry :=
  let key := va / 4096 + tag <<< 52
  match tlb.find? (fun e => e.vpn == key && e.write == write) with
  | some e => (.pa (4096 * e.ppn + va % 4096), e :: tlb.filter (· != e))
  | none =>
    match (s.ctxTranslate c lines va write).reached with
    | .pa a => (.pa a, (⟨key, write, a / 4096⟩ :: tlb).take cap)
    | r => (r, tlb)

/-- The line a table read brought, among those of its walk. -/
def WalkLine.of (f : Flit) (bad : Bool) : WalkLine := ⟨f.addr.toNat / 64, f.data, bad, f.poison⟩

/-- Raise a tenant's fault source where its context has FAULT_EN (R77): a doorbell write of FAULT_OFFSET to the page of
FAULT_DOMAIN, in the tenant's class and under its key (R68), from the stop and port of the agent; a tenant that may not enter the data
hierarchy sends none (R70). -/
def State.faultSource (s : State) (c : Option Line) (t : Nat) (cls : Cls) (stop port : Nat) : State :=
  let w := ctxWord c 2
  if bitN w 63 && s.tenantOk t then
    s.send { mkFlit .req stop port irtStop 2 cls OP_DOORBELL 2047 (domainDoorbellAddr (bits w 30 23)) with
      tenant := Fin.ofNat 4096 t, key := s.tenantKey t, data := lineOfWords [w64 (bits w 14 0)], count := 8 }
  else s

end Sys2Proof.Machine
end

