-- ==== Sys2Proof/Machine/CoreOps.lean ====
section
/-! DEFINITION. The hart behind its commands: registers and CSRs (04 R105, R106, R116-R118), translation and protection
(R108, R109), trap entry (R121-R123), epochs, their Negatives and their commit (R124-R128, 14 R420-R422), hart counters
(17 R498-R504), core faults and reprints (14 R423-R425). -/

namespace Sys2Proof.Machine

-- CSR numbers (R106, R116-R118; the standard ones are those of the RISC-V Privileged Manual, R12)
def CSR_FCSR : Nat := 0x003
def CSR_SIE : Nat := 0x104
def CSR_STVEC : Nat := 0x105
def CSR_SENVCFG : Nat := 0x10A
def CSR_SEPC : Nat := 0x141
def CSR_SCAUSE : Nat := 0x142
def CSR_STVAL : Nat := 0x143
def CSR_STIMECMP : Nat := 0x14D
def CSR_SATP : Nat := 0x180
def CSR_VSSTATUS : Nat := 0x200
def CSR_VSTVEC : Nat := 0x205
def CSR_VSEPC : Nat := 0x241
def CSR_VSCAUSE : Nat := 0x242
def CSR_VSTVAL : Nat := 0x243
def CSR_VSTIMECMP : Nat := 0x24D
def CSR_VSATP : Nat := 0x280
def CSR_MSTATUS : Nat := 0x300
def CSR_MISA : Nat := 0x301
def CSR_MEDELEG : Nat := 0x302
def CSR_MIDELEG : Nat := 0x303
def CSR_MIE : Nat := 0x304
def CSR_MTVEC : Nat := 0x305
def CSR_MENVCFG : Nat := 0x30A
def CSR_MCOUNTINHIBIT : Nat := 0x320
def CSR_MHPMEVENT : Nat := 0x320
def CSR_MEPC : Nat := 0x341
def CSR_MCAUSE : Nat := 0x342
def CSR_MTVAL : Nat := 0x343
def CSR_MIP : Nat := 0x344
def CSR_MTINST : Nat := 0x34A
def CSR_MTVAL2 : Nat := 0x34B
def CSR_PMPCFG : Nat := 0x3A0
def CSR_PMPADDR : Nat := 0x3B0
def CSR_XNRTENANT : Nat := 0x5C0
def CSR_HSTATUS : Nat := 0x600
def CSR_HEDELEG : Nat := 0x602
def CSR_HIDELEG : Nat := 0x603
def CSR_HTIMEDELTA : Nat := 0x605
def CSR_HGEIE : Nat := 0x607
def CSR_HENVCFG : Nat := 0x60A
def CSR_HTVAL : Nat := 0x643
def CSR_HVIP : Nat := 0x645
def CSR_HTINST : Nat := 0x64A
def CSR_HGATP : Nat := 0x680
def CSR_MSECCFG : Nat := 0x747
def CSR_TSELECT : Nat := 0x7A0
def CSR_XNRCTL : Nat := 0x7C0
def CSR_MHPMCOUNTER : Nat := 0xB00
def CSR_MINSTRET : Nat := 0xB02
def CSR_XNRSAMPLEPC : Nat := 0xDC0

/-- Reset value of a CSR: mvendorid, marchid, mimpid (R1), vlenb, misa (R106) and xnrctl (R117) as given; UXL, SXL and VSXL at 64 bits
and every trigger disabled (PRESUMED); all others 0 (log entry 3). Number 0x1000 + 4 t + j is tdata j of trigger t. -/
def csrReset (n : Nat) : Word :=
  if n = CSR_MISA then 0x80000000003411AF
  else if n = 0xF11 then 0x0A1D
  else if n = 0xF12 then 0x8000000000000019
  else if n = 0xF13 then 0x2B00
  else if n = 0xC22 then 32
  else if 0x1000 ≤ n ∧ n % 4 = 1 then 0xF000000000000000
  else if n = CSR_XNRCTL then 0x800000000103BA00
  else if n = CSR_MSTATUS then 0x0000000A00000000
  else if n = CSR_VSSTATUS then 0x0000000200000000
  else if n = CSR_HSTATUS then 0x0000000200000000
  else 0

/-- Where the value of a CSR stands: tdata1 to tdata3 are those of the trigger that tselect names (R106). -/
def csrSlot (sel n : Nat) : Nat := if 0x7A1 ≤ n ∧ n ≤ 0x7A3 then 0x1000 + 4 * (sel % 8) + (n - 0x7A0) else n

def Arch.getCsr (a : Arch) (n : Nat) : Nat := (Tab.get (csrReset n) a.csr n).toNat
def Arch.putCsr (a : Arch) (n v : Nat) : Arch := { a with csr := Tab.set (csrReset n) a.csr n (w64 v) }
/-- Integer register r; x0 reads 0. -/
def Arch.getX (a : Arch) (r : Reg) : Word := if r = 0 then 0 else Tab.get 0 a.x r.val
/-- Write an integer register; a write of x0 is discarded. -/
def Arch.putX (a : Arch) (r : Reg) (v : Word) : Arch := if r = 0 then a else { a with x := Tab.set 0 a.x r.val v }
def Arch.getF (a : Arch) (r : Reg) : Word := Tab.get 0 a.f r.val
/-- Write a floating-point register, which makes mstatus.FS dirty. -/
def Arch.putF (a : Arch) (r : Reg) (v : Word) : Arch :=
  ({ a with f := Tab.set 0 a.f r.val v }).putCsr CSR_MSTATUS (putBits (putBits (a.getCsr CSR_MSTATUS) 14 13 3) 63 63 1)

/-- Tenant and class of a hart's requests (R68, R116). -/
def Arch.tenant (a : Arch) : Tenant := Fin.ofNat 4096 (bits (a.getCsr CSR_XNRTENANT) 11 0)
def Arch.cls (a : Arch) : Cls := Fin.ofNat 16 (bits (a.getCsr CSR_XNRTENANT) 15 12)
/-- The privilege field of a hart's requests (R68). -/
def Arch.privField (a : Arch) : Fin 8 := Fin.ofNat 8 (a.priv + (if a.virt then 4 else 0))

/-- Hart h as a requester (R46, R68). -/
def State.hartReq (s : State) (h : Nat) : Requester :=
  let a := (s.hart h).a
  ⟨.hart, a.tenant, a.cls, a.privField, h⟩

/-- The operating point of core k (R464, R479): a transition that raises it switches the clock 10 aclk before its end. -/
def State.point (s : State) (k : Nat) : Nat :=
  match (s.core k).dvfsTo, (s.core k).dvfsEnd with
  | some n, some e => if e ≤ s.tb + 10 then n else s.fld pwrPg (R.PWR_FREQ_CUR.nth k)
  | _, _ => s.fld pwrPg (R.PWR_FREQ_CUR.nth k)

/-- mclk that n ccyc of core k take (R8, R479: PWR_FREQ.CUR x 100 MHz against 2.4 GHz). -/
def State.ccyc (s : State) (k n : Nat) : Nat :=
  let f := max 1 (s.point k)
  (24 * n + f - 1) / f

/-- The mclk at or after the ccyc edge n edges past the first edge of core k at or after mclk t (R145). -/
def State.ccycAt (s : State) (k t n : Nat) : Nat :=
  let p := max 1 (s.point k)
  cclkOf p (ccycOf p t + n)

/-- The hart whose turn it is on core k (R426); none on a fenced core. -/
def State.coreHart (s : State) (k : Nat) : Option Nat :=
  if s.flag (corePg k) R.CORE_RUN_FENCED then none
  else if s.flag (corePg k) R.CORE_RUN_SHARED && (s.core k).second then some (s.fld (corePg k) R.CORE_RUN_HART1)
  else some (s.fld (corePg k) R.CORE_RUN_HART0)

/-- Whether hart h runs on its core now: started, neither parked, lost, halted by a debugger nor being restored, its core awake and unfenced and
the turn its own (R21, R426). -/
def State.hartOn (s : State) (h : Nat) : Bool :=
  let v := s.hart h
  let k := s.coreOf h
  v.started && !v.parked && !v.lost && !v.halted && v.restore.isNone && (s.core k).cstate == 0 && s.coreHart k == some h

-- hart counters (R498-R503)

/-- Whether mode filters of a counter let an event of the hart's present mode count (R499). -/
def modeCounts (sel : Nat) (a : Arch) : Bool :=
  !bitN sel (if a.priv = 3 then 62 else if a.virt then (if a.priv = 1 then 59 else 58) else if a.priv = 1 then 61 else 60)

/-- Counter i of a hart sees `n` occurrences of event `ev` (R500, R502, R503). -/
def hpmOne (ev um n : Nat) (exact : Bool) (a : Arch) (i : Nat) : Arch :=
  let sel := a.getCsr (CSR_MHPMEVENT + i)
  let umask := bits sel 15 8
  if bits sel 7 0 == ev && (umask == 0 || umask &&& um != 0) && decide (bits sel 27 24 ≤ 1) && modeCounts sel a &&
      !bitN (a.getCsr CSR_MCOUNTINHIBIT) i then
    let v := a.getCsr (CSR_MHPMCOUNTER + i) + n
    let a1 := a.putCsr (CSR_MHPMCOUNTER + i) (v % 2 ^ 64)
    if v < 2 ^ 64 then a1
    else
      let quiet := (List.range 8).all (fun j => !bitN (a.getCsr (CSR_MHPMEVENT + 3 + j)) 63)
      let a2 := if bitN sel 63 then a1 else a1.putCsr CSR_MIP (a1.getCsr CSR_MIP ||| 2 ^ 13)
      let a3 := a2.putCsr (CSR_MHPMEVENT + i) (sel ||| 2 ^ 63)
      if quiet then a3.putCsr CSR_XNRSAMPLEPC (a.pc.toNat / 2 * 2 + b01 exact) else a3
  else a

/-- `n` occurrences of a hart event (R501). -/
def Arch.hpmAdd (a : Arch) (ev um n : Nat) (exact : Bool) : Arch :=
  if a.csr.any (fun e => decide (CSR_MHPMEVENT + 3 ≤ e.1) && decide (e.1 ≤ CSR_MHPMEVENT + 10)) then
    (List.range 8).foldl (fun a i => hpmOne ev um n exact a (3 + i)) a
  else a

/-- One occurrence of a hart event (R501). -/
def Arch.hpm (a : Arch) (ev um : Nat) (exact : Bool) : Arch := a.hpmAdd ev um 1 exact

/-- `n` ccyc run by a hart: mcycle and event 0x01 (R498, R501). -/
def Arch.ranFor (a : Arch) (n : Nat) : Arch :=
  let a1 := if bitN (a.getCsr CSR_MCOUNTINHIBIT) 0 then a else a.putCsr CSR_MHPMCOUNTER ((a.getCsr CSR_MHPMCOUNTER + n) % 2 ^ 64)
  a1.hpmAdd 0x01 0 n false

/-- Count the ccyc that hart h has run up to mclk t at operating point p (R498): its core is in C0 and the turn is its own. -/
def State.tickAt (s : State) (h p t : Nat) : State :=
  let v := s.hart h
  let n := ccycOf (max 1 p) t - ccycOf (max 1 p) v.ran
  if s.hartOn h && decide (n ≠ 0) then s.setHart h { v with a := v.a.ranFor n, ran := t } else s

/-- Count the ccyc that hart h has run up to now (R498). -/
def State.tick (s : State) (h : Nat) : State := s.tickAt h (s.point (s.coreOf h)) s.now

/-- Hart h begins to run now: its cycles count from here (R498). -/
def State.runFrom (s : State) (h : Nat) : State := s.setHart h { s.hart h with ran := s.now }

/-- As `tick`, for the hart whose turn it is on core k. -/
def State.tickCore (s : State) (k : Nat) : State :=
  match s.coreHart k with
  | some h => s.tick h
  | none => s

/-- As `runFrom`, for the hart whose turn it is on core k. -/
def State.runCore (s : State) (k : Nat) : State :=
  match s.coreHart k with
  | some h => s.runFrom h
  | none => s

def State.hpm (s : State) (h ev um : Nat) (exact : Bool) : State :=
  let v := s.hart h
  s.setHart h { v with a := v.a.hpm ev um exact }

-- Negatives (R420-R422)

/-- The slot of hart h in the Negative store of cluster c (R420, R445). -/
def State.negSlot (s : State) (c h : Nat) : Option Nat :=
  (List.range 8).find? (fun n =>
    s.flag (negPg c) (R.CL_NEG_SLOT_VALID.nth n) && s.fld (negPg c) (R.CL_NEG_SLOT_HART.nth n) == h)

/-- The numbers of the CSRs that hold state and have no place of their own in a Negative, rising (R421); sie, vsie and hie show bits of mie,
and tdata1 to tdata3 stand for the trigger selected (log entry 98). -/
def negCsrs : List Nat :=
  [0x105, 0x106, 0x10A, 0x10C, 0x140, 0x141, 0x142, 0x143, 0x14D, 0x180, 0x200, 0x205, 0x240, 0x241, 0x242, 0x243,
   0x24D, 0x280, 0x300, 0x302, 0x303, 0x304, 0x305, 0x306, 0x30A, 0x30C, 0x320, 0x323, 0x324, 0x325, 0x326, 0x327, 0x328,
   0x329, 0x32A, 0x340, 0x341, 0x342, 0x343, 0x344, 0x34A, 0x34B, 0x5A8, 0x5C0, 0x600, 0x602, 0x603, 0x605, 0x606,
   0x607, 0x60A, 0x60C, 0x643, 0x645, 0x64A, 0x680, 0x6A8] ++
  [0x747, 0x7A0, 0x7A1, 0x7A2, 0x7A3, 0x7A8, 0x7AA, 0x7B0, 0x7B1, 0x7B2, 0x7B3, 0x7C0, 0xB00, 0xB02, 0xB03, 0xB04, 0xB05,
   0xB06, 0xB07, 0xB08, 0xB09, 0xB0A, 0xDC0]

/-- The CSR that stands at a word of a Negative copy, by byte offset / 8 (R421): fcsr to vtype, pmpaddr, pmpcfg and the rest. -/
def negCsrAt (i : Nat) : Option Nat :=
  if 0x44 ≤ i ∧ i < 0x4B then [0x003, 0x008, 0x009, 0x00A, 0x00F, 0xC20, 0xC21][i - 0x44]?
  else if 0xCC ≤ i ∧ i < 0x10C then some (CSR_PMPADDR + (i - 0xCC))
  else if 0x10C ≤ i ∧ i < 0x114 then some (CSR_PMPCFG + 2 * (i - 0x10C))
  else if 0x114 ≤ i ∧ i < 0x17F then negCsrs[i - 0x114]?
  else none

/-- Word i of a Negative copy (R421). -/
def NegCopy.word (n : NegCopy) (i : Nat) : Word :=
  if i = 0 then n.head
  else if i = 1 then n.a.pc
  else if i = 2 then w64 (n.a.priv % 4 + (if n.a.virt then 4 else 0))
  else if 4 < i ∧ i < 0x24 then Tab.get 0 n.a.x (i - 4)
  else if 0x24 ≤ i ∧ i < 0x44 then Tab.get 0 n.a.f (i - 0x24)
  else if 0x4C ≤ i ∧ i < 0xCC then (Tab.get 0 n.a.v ((i - 0x4C) / 4) >>> (64 * ((i - 0x4C) % 4))).setWidth 64
  else if i = 0x17F then n.cmp
  else match negCsrAt i with
    | some c => w64 (n.a.getCsr (csrSlot (n.a.getCsr CSR_TSELECT) c))
    | none => Tab.get 0 n.extra i

/-- Write word i of a Negative copy (R421, R445). -/
def NegCopy.putWord (n : NegCopy) (i : Nat) (w : Word) : NegCopy :=
  if i = 0 then { n with head := w }
  else if i = 1 then { n with a := { n.a with pc := w } }
  else if i = 2 then { n with a := { n.a with priv := bits w.toNat 1 0, virt := bitN w.toNat 2 } }
  else if 4 < i ∧ i < 0x24 then { n with a := { n.a with x := Tab.set 0 n.a.x (i - 4) w } }
  else if 0x24 ≤ i ∧ i < 0x44 then { n with a := { n.a with f := Tab.set 0 n.a.f (i - 0x24) w } }
  else if 0x4C ≤ i ∧ i < 0xCC then
    let r := (i - 0x4C) / 4
    let q := (i - 0x4C) % 4
    let old := (Tab.get 0 n.a.v r).toNat
    { n with a := { n.a with v := Tab.set 0 n.a.v r (BitVec.ofNat 256 (putBits old (64 * q + 63) (64 * q) w.toNat)) } }
  else if i = 0x17F then { n with cmp := w }
  else match negCsrAt i with
    | some c => { n with a := n.a.putCsr (csrSlot (n.a.getCsr CSR_TSELECT) c) w.toNat }
    | none => { n with extra := Tab.set 0 n.extra i w }

/-- Write a hart's Negative copy (R128, R422): its state as it stands, VALID, its number and the commit count. -/
def State.writeNegative (s : State) (h copy : Nat) : State :=
  let k := s.coreOf h
  let c := k / 4
  match s.negSlot c h with
  | none => s
  | some n =>
    let head := 2 ^ 63 + h <<< 32 + s.fld (corePg k) R.CORE_EPOCH_COMMITS % 2 ^ 32
    let v : NegCopy := ⟨w64 head, ((s.tick h).hart h).a, (s.hart h).cmp, []⟩
    s.setCluster c { s.cluster c with neg := Tab.set {} (s.cluster c).neg (2 * n + copy) v }

/-- A hart's Negative copy. -/
def State.negative (s : State) (h copy : Nat) : NegCopy :=
  match s.negSlot (s.coreOf h / 4) h with
  | none => {}
  | some n => Tab.get {} (s.cluster (s.coreOf h / 4)).neg (2 * n + copy)

-- epochs (R124-R127)

/-- Begin an epoch if none is open: its Negative is written and an injection armed for it is taken (R119, R124, R128). -/
def State.openEpoch (s : State) (h : Nat) (io : Bool) : State :=
  let v := s.hart h
  match v.epoch with
  | some _ => s
  | none =>
    let k := s.coreOf h
    let s1 := s.writeNegative h v.negCopy
    let s2 := s1.setCore k { s1.core k with inject := 0 }
    s2.setHart h { v with
      epoch := some { copy := v.negCopy, begun := s.now, io := io, inject := (s.core k).inject }
      negCopy := 1 - v.negCopy }

/-- Close the open epoch, if any, for a cause of CORE_EPOCH.LAST (R119, R124). -/
def State.closeEpoch (s : State) (h cause : Nat) : State :=
  let v := s.hart h
  match v.epoch with
  | none => s
  | some e =>
    (s.setHart h { v with epoch := none, closed := v.closed ++ [{ e with cause := cause, closedAt := s.now }] }).setFld
      (corePg (s.coreOf h)) R.CORE_EPOCH_LAST cause

/-- Whether an instruction of the hart may retire: not while two of its epochs await commit (R127). -/
def HartState.mayRetire (v : HartState) : Bool := decide (v.closed.length ≤ 1)

/-- Change the hart's architectural state. -/
def State.withArch (s : State) (h : Nat) (f : Arch → Arch) : State :=
  s.setHart h { s.hart h with a := f (s.hart h).a }

-- translation and protection (R106, R108, R109)

/-- A trap: cause, xtval, and the value of mtval2 or htval (guest physical address / 4). -/
structure Trap where
  cause : Nat
  tval : Nat
  tval2 : Nat
  deriving DecidableEq, Repr

/-- Permissions of a PMP entry for M, or for S and U, with Smepmp's MML (read, write, execute). -/
def pmpPerm (mml : Bool) (cfg : Nat) (m : Bool) : Bool × Bool × Bool :=
  let r := bitN cfg 0
  let w := bitN cfg 1
  let x := bitN cfg 2
  let l := bitN cfg 7
  if !mml then (if m && !l then (true, true, true) else (r, w, x))
  else if !r && w then
    if l then (m && x, false, true) else (true, m || x, false)
  else if l && r && w && x then (true, false, false)
  else if l == m then (r, w, x) else (false, false, false)

/-- Whether PMP entry i matches an address, with granularity 4 KiB (R106). -/
def pmpMatch (a : Arch) (i pa : Nat) : Bool :=
  let cfg := bits (a.getCsr (CSR_PMPCFG + 2 * (i / 8))) (8 * (i % 8) + 7) (8 * (i % 8))
  let top := bits (a.getCsr (CSR_PMPADDR + i)) 53 0
  match bits cfg 4 3 with
  | 1 =>
    let lo := if i = 0 then 0 else bits (a.getCsr (CSR_PMPADDR + i - 1)) 53 0
    decide (lo / 1024 * 4096 ≤ pa) && decide (pa < top / 1024 * 4096)
  | 3 =>
    let t := top ||| 0x1FF
    let size := (t + 1) ^^^ t
    -- the range is 4 x (size + 1) bytes, aligned to its size
    pa / 4 / (size + 1) == t / (size + 1)
  | _ => false

/-- Whether PMP lets the hart's access at mode `priv` reach an address (R106). -/
def pmpAllows (a : Arch) (priv pa : Nat) (write exec : Bool) : Bool :=
  let sec := a.getCsr CSR_MSECCFG
  let mml := bitN sec 0
  match (List.range 64).find? (fun i => pmpMatch a i pa) with
  | some i =>
    let cfg := bits (a.getCsr (CSR_PMPCFG + 2 * (i / 8))) (8 * (i % 8) + 7) (8 * (i % 8))
    let p := pmpPerm mml cfg (priv == 3)
    if exec then p.2.2 else if write then p.2.1 else p.1
  | none => priv == 3 && !bitN sec 1 && !(mml && exec)

/-- Exception codes of an access: access fault, page fault, guest-page fault (fetch, load, store). -/
def accessCause (write exec : Bool) : Nat := if exec then 1 else if write then 7 else 5
def pageCause (write exec : Bool) : Nat := if exec then 12 else if write then 15 else 13
def guestCause (write exec : Bool) : Nat := if exec then 20 else if write then 23 else 21

/-- The mode and virtualisation at which a load or store is made: MPRV of mstatus applies in M-mode. -/
def Arch.dataMode (a : Arch) : Nat × Bool :=
  let st := a.getCsr CSR_MSTATUS
  if a.priv = 3 ∧ bitN st 17 then
    (bits st 12 11, bitN st 39 && bits st 12 11 != 3)
  else (a.priv, a.virt)

/-- Whether an address lies in a mapped range (R31, R32); the last 1 GiB page windows and engine windows have holes. -/
def State.mapped (s : State) (pa : Nat) : Bool :=
  match region pa with
  | .unmapped => false
  | .fabricMem => (s.windowAt pa).isSome
  | .target => (pageAt pa).isSome
  | .engine => (engineArea? pa).isSome
  | _ => true

/-- A byte the hart's uncommitted stores hold, the youngest first (R130). -/
def HartState.bufferedByte (v : HartState) (pa : Nat) : Option Byte :=
  (v.epoch.toList ++ v.closed.reverse).findSome? (fun e =>
    match Tab.at? e.stores (pa / 64) with
    | some b => if bitN b.mask (pa % 64) then some (BitVec.ofNat 8 (b.data.toNat >>> (8 * (pa % 64)))) else none
    | none => none)

/-- A line as the hart's cluster holds it under the hart's key index (R80, R186), or, `nc` or where the cluster has none, as it stands in
the hart's fill shadow (R109, R134, R135). -/
def State.hartLine (s : State) (h l : Nat) (nc : Bool) : Option L2Line :=
  let c := s.coreOf h / 4
  let v := s.hart h
  let held := match Tab.at? (s.cluster c).l2 l with
    | some w => if w.key == s.tenantKey v.a.tenant.val then some { w with data := (s.dirtyL1 c l).getD w.data } else none
    | none => none
  if nc then Tab.at? v.shadow l else match held with
    | some w => some w
    | none => Tab.at? v.shadow l

/-- A byte as the hart loads it: from its buffered stores, else from the line (R130). -/
def State.hartByte (s : State) (h pa : Nat) (nc : Bool) : Byte :=
  match (s.hart h).bufferedByte pa with
  | some b => b
  | none => BitVec.ofNat 8 (((s.hartLine h (pa / 64) nc).map (fun w : L2Line => w.data.toNat)).getD 0 >>> (8 * (pa % 64)))

/-- The value of n bytes at an address, as the hart loads them (R5, R130). -/
def State.hartValue (s : State) (h pa n : Nat) (nc : Bool) : Nat := leValue ((List.range n).map (fun i => s.hartByte h (pa + i) nc))

/-- Whether the hart's uncommitted stores hold all n bytes at an address (R130). -/
def HartState.buffered (v : HartState) (pa n : Nat) : Bool := (List.range n).all (fun i => (v.bufferedByte (pa + i)).isSome)

/-- A page-table entry as a walk of the hart reads it: through PMP as S-mode, its line from the hart's stores, its cluster or its fill
shadow, else asked for (R135, R137); poison raises code 19 (R431). -/
def State.readPte (s : State) (h pa : Nat) : Xlat ⊕ Word :=
  let v := s.hart h
  if !pmpAllows v.a 1 pa false false || !s.mainMemory pa then .inl .accessFault
  else match s.hartLine h (pa / 64) false with
    | some w => if w.poison && !v.buffered pa 8 then .inl .poison else .inr (w64 (s.hartValue h pa 8 false))
    | none => if v.buffered pa 8 then .inr (w64 (s.hartValue h pa 8 false)) else .inl (.ask (pa / 64))

/-- How far an access comes: a trap, a line that its walk must ask for (R137), or an address and whether it is an I/O access (0 main
memory, 1 main memory with PBMT = NC, 2 I/O). -/
inductive Reach where
  | stop (t : Trap)
  | ask (line : Nat)
  | place (pa kind : Nat)
  deriving DecidableEq, Repr

/-- Translate and check one access of the hart (R106, R108, R109). -/
def State.translate (s : State) (h va : Nat) (write exec amo : Bool) : Reach :=
  let a := (s.hart h).a
  let m := if exec then (a.priv, a.virt) else a.dataMode
  let st := if m.2 then a.getCsr CSR_VSSTATUS else a.getCsr CSR_MSTATUS
  let need : Need := ⟨write, exec, m.1 == 0, bitN st 18, bitN st 19 || bitN (a.getCsr CSR_MSTATUS) 19⟩
  let root (c : Nat) : Nat × Nat := (bits (a.getCsr c) 63 60, bits (a.getCsr c) 43 0 <<< 12)
  let first := if m.1 = 3 then (0, 0) else if m.2 then root CSR_VSATP else root CSR_SATP
  let second := if m.1 ≠ 3 ∧ m.2 then root CSR_HGATP else (0, 0)
  match twoStage (s.readPte h) first.1 first.2 second.1 second.2 va need with
  | .pageFault => .stop ⟨pageCause write exec, va, 0⟩
  | .accessFault => .stop ⟨accessCause write exec, va, 0⟩
  | .guestFault g => .stop ⟨guestCause write exec, va, g / 4⟩
  | .poison => .stop ⟨19, va, 0⟩
  | .ask l => .ask l
  | .ok pa pbmt _ _ =>
    let pa := pa % 2 ^ 64
    if 2 ^ 52 ≤ pa || !pmpAllows a m.1 pa write exec || !s.mapped pa then .stop ⟨accessCause write exec, va, 0⟩
    else
      let kind := if !s.mainMemory pa then 2 else if pbmt = 2 then 2 else if pbmt = 1 then 1 else 0
      if exec && kind == 2 && region pa != .rom && region pa != .fabricMmio && region pa != .dram && region pa != .fabricMem then
        .stop ⟨1, va, 0⟩
      else if exec && region pa == .rom && s.bolted then .stop ⟨1, va, 0⟩
      else if amo && kind == 2 then .stop ⟨accessCause write exec, va, 0⟩
      else .place pa kind

-- traps (R121-R123)

/-- Where a trap goes: 3 M, 1 HS, 0 VS. -/
def trapTarget (a : Arch) (cause : Nat) (intr : Bool) : Nat :=
  let md := a.getCsr (if intr then CSR_MIDELEG else CSR_MEDELEG) ||| (if intr then 0x1444 else 0)
  let hd := a.getCsr (if intr then CSR_HIDELEG else CSR_HEDELEG)
  if a.priv = 3 ∨ !bitN md cause then 3
  else if a.virt && bitN hd cause then 0 else 1

/-- Handler address: direct, or vectored for an interrupt; BASE aligned to 4 bytes, or to 256 in vectored mode (R106). -/
def vectorOf (tvec cause : Nat) (intr : Bool) : Nat :=
  if bits tvec 1 0 = 1 then tvec / 256 * 256 + (if intr then 4 * cause else 0) else tvec / 4 * 4

/-- The architectural state a trap entry writes: xepc, xcause, xtval, xstatus, the mode, and the pc (R122; the fields are
those of the RISC-V Privileged Manual). `gva`: xtval holds a guest virtual address. -/
def Arch.trap (a : Arch) (t : Trap) (tinst : Nat) (intr : Bool) : Arch :=
  let code := t.cause + (if intr then 2 ^ 63 else 0)
  let gva := a.virt && !intr && t.tval != 0 && t.cause != 2 && t.cause != 22
  let st := a.getCsr CSR_MSTATUS
  match trapTarget a t.cause intr with
  | 3 =>
    let st1 := putBits (putBits (putBits (putBits (putBits st 7 7 (bits st 3 3)) 3 3 0) 12 11 a.priv) 39 39 (b01 a.virt)) 38 38 (b01 gva)
    let a1 := ((((a.putCsr CSR_MSTATUS st1).putCsr CSR_MEPC a.pc.toNat).putCsr CSR_MCAUSE code).putCsr CSR_MTVAL t.tval)
    let a2 := (a1.putCsr CSR_MTVAL2 t.tval2).putCsr CSR_MTINST tinst
    { a2 with priv := 3, virt := false, pc := w64 (vectorOf (a.getCsr CSR_MTVEC) t.cause intr) }
  | 1 =>
    let st1 := putBits (putBits (putBits st 5 5 (bits st 1 1)) 1 1 0) 8 8 (a.priv % 2)
    let hs := a.getCsr CSR_HSTATUS
    let hs1 := putBits (putBits hs 7 7 (b01 a.virt)) 6 6 (b01 gva)
    let hs2 := if a.virt then putBits hs1 8 8 (a.priv % 2) else hs1
    let a1 := (((((a.putCsr CSR_MSTATUS st1).putCsr CSR_HSTATUS hs2).putCsr CSR_SEPC a.pc.toNat).putCsr CSR_SCAUSE code).putCsr CSR_STVAL t.tval)
    let a2 := (a1.putCsr CSR_HTVAL t.tval2).putCsr CSR_HTINST tinst
    { a2 with priv := 1, virt := false, pc := w64 (vectorOf (a.getCsr CSR_STVEC) t.cause intr) }
  | _ =>
    let vs := a.getCsr CSR_VSSTATUS
    let vs1 := putBits (putBits (putBits vs 5 5 (bits vs 1 1)) 1 1 0) 8 8 (a.priv % 2)
    let c := if intr then t.cause - 1 else t.cause
    let a1 := (((a.putCsr CSR_VSSTATUS vs1).putCsr CSR_VSEPC a.pc.toNat).putCsr CSR_VSCAUSE (c + (if intr then 2 ^ 63 else 0))).putCsr CSR_VSTVAL t.tval
    { a1 with priv := 1, virt := true, pc := w64 (vectorOf (a.getCsr CSR_VSTVEC) c intr) }

/-- hgeip as the router's lines give it (R106, R371). -/
def HartState.hgeip (v : HartState) : Nat := bits v.lines 8 2 <<< 1

/-- mip of a hart (R106, R107, R120, R371). -/
def State.mip (s : State) (h : Nat) : Nat :=
  let v := s.hart h
  let st := v.a.getCsr CSR_MIP
  let hv := v.a.getCsr CSR_HVIP
  let stip := if bitN (v.a.getCsr CSR_MENVCFG) 63 then decide (v.a.getCsr CSR_STIMECMP ≤ s.tb) else bitN st 5
  let vstip := bitN hv 6 || (bitN (v.a.getCsr CSR_MENVCFG) 63 && bitN (v.a.getCsr CSR_HENVCFG) 63 &&
    decide (v.a.getCsr CSR_VSTIMECMP ≤ (s.tb + v.a.getCsr CSR_HTIMEDELTA) % 2 ^ 64))
  let vgein := bits (v.a.getCsr CSR_HSTATUS) 17 12
  let vseip := bitN hv 10 || bitN v.hgeip vgein
  b01 (bitN st 1) <<< 1 + b01 (bitN hv 2) <<< 2 + b01 stip <<< 5 + b01 vstip <<< 6 + b01 (decide (v.cmp.toNat ≤ s.tb)) <<< 7 +
    b01 (bitN st 9 || bitN v.lines 1) <<< 9 + b01 vseip <<< 10 + b01 (bitN v.lines 0) <<< 11 +
    b01 (v.hgeip &&& v.a.getCsr CSR_HGEIE != 0) <<< 12 + b01 (bitN st 13) <<< 13

/-- The interrupt the hart would recognise now (R121), the most urgent of the highest target mode. -/
def State.recognised (s : State) (h : Nat) : Option Nat :=
  let v := s.hart h
  let a := v.a
  let live := s.mip h &&& a.getCsr CSR_MIE
  let pick (m : Nat) : Option Nat :=
    [11, 3, 7, 9, 1, 5, 12, 10, 2, 6, 13].find? (fun i => bitN live i && trapTarget { a with priv := 0, virt := true } i true == m &&
      (i != 13 || v.skid == none || v.skid == some 0))
  let mOn := decide (a.priv < 3) || bitN (a.getCsr CSR_MSTATUS) 3
  let sOn := a.virt || a.priv == 0 || (a.priv == 1 && bitN (a.getCsr CSR_MSTATUS) 1)
  let vOn := a.virt && (a.priv == 0 || bitN (a.getCsr CSR_VSSTATUS) 1)
  if v.io.isSome then none
  else match (if mOn then pick 3 else none) with
    | some i => some i
    | none => match (if sOn && a.priv != 3 then pick 1 else none) with
      | some i => some i
      | none => if vOn then pick 0 else none

/-- Whether an interrupt is pending for the hart, enabled or not (R106 WFI, R452). -/
def State.intPending (s : State) (h : Nat) : Bool := s.mip h &&& 0x3FFF != 0

end Sys2Proof.Machine
end

