-- ==== Sys2Proof/Machine/PageOps.lean ====
section
/-! DEFINITION. What a write of a page register does: the plain effect of each field's access code (01 R9, R10), what a
block answers for a register with behaviour of its own (02 R534), and the RAS registers of retirement (14 R437, R439, R444). -/

namespace Sys2Proof.Machine

/-- The value a plain write leaves in a register (R9): RW and RWB fields take the written bits, W1C clears, W1S sets, a WO
field reads 0, the others stay. -/
def RegRow.written (r : RegRow) (old v : Nat) : Nat :=
  r.fields.foldl (fun w f =>
    match f.acc with
    | .rw | .rwb => putBits w f.hi f.lo (bits v f.hi f.lo)
    | .w1c => putBits w f.hi f.lo (bits old f.hi f.lo - (bits old f.hi f.lo &&& bits v f.hi f.lo))
    | .w1s => putBits w f.hi f.lo (bits old f.hi f.lo ||| bits v f.hi f.lo)
    | .wo => putBits w f.hi f.lo 0
    | .ro | .rc => w) old

/-- Whether a value would change an RWB field (R53). -/
def RegRow.changesRwb (r : RegRow) (old v : Nat) : Bool :=
  r.fields.any (fun f => f.acc == .rwb && bits old f.hi f.lo != bits v f.hi f.lo)

/-- The plain effect of a register write; a reserved offset stores nothing (R40). -/
def State.plainWrite (s : State) (p : Page) (off v : Nat) : State :=
  match rowAt p.kind off with
  | some r => s.setReg (p.base + off) (r.written (s.reg (p.base + off)) v)
  | none => s

/-- The last check of R534 and the performance of a write: performed, or refused with one fault bit. -/
inductive Wr where
  | ok (s : State)
  | no (bit : Nat) (s : State)

/-- What a block answers for a write of a register with behaviour of its own: whether the world or a secure class refuses it
(check 2), whether the register's rule admits the writer (check 3), and check 5 with the performance (R534). -/
structure RegEffect where
  locked : Bool := false
  admitted : Bool := true
  act : Wr

/-- Whether a per-class write is refused by R95: a field of a secure class changes, and the writer is not the Ward or the part
is bolted. `field k w` is class k's field in a value. -/
def State.secureFieldLocked (s : State) (who : Requester) (field : Nat → Nat → Nat) (old v : Nat) : Bool :=
  (List.range 16).any (fun k => s.secureClass k && field k old != field k v) && (!s.writesSecure who || s.bolted)

/-- The number of retired blocks a RAS page 1 bit map of n registers names (R444). -/
def State.retiredCount (s : State) (f : Field) (n : Nat) : Nat :=
  (List.range n).foldl (fun k i => k + popCount 64 (s.fld (rasPg 1) (f.nth i))) 0

/-- Record a retirement in RAS page 1 (R444) and raise DEV_HEALTH (R439). -/
def State.markRetired (s : State) (f : Field) (n : Nat) : State :=
  let g := f.nth (n / 64)
  let s1 := s.setFld (rasPg 1) g (s.fld (rasPg 1) g ||| 2 ^ (n % 64))
  let pol (x : Field) : Nat := s1.fld (rasPg 0) x
  let replace := decide (pol R.RAS_POLICY_CL_MAX ≤ s1.retiredCount R.RAS_CL_RET 2) ||
    decide (pol R.RAS_POLICY_SLC_MAX ≤ s1.retiredCount R.RAS_SLC_RET 2) ||
    decide (pol R.RAS_POLICY_DE_MAX ≤ s1.retiredCount R.RAS_DE_RET 2) ||
    decide (pol R.RAS_POLICY_MC_MAX ≤ s1.retiredCount R.RAS_MC_RET 1)
  s1.raiseHealth (if replace then 2 else 1) (s1.fld (rasPg 0) R.RAS_LOG_SEQ_NEXT)

/-- Whether RAS page 1 names a block as retired (R444). -/
def State.isRetired (s : State) (f : Field) (n : Nat) : Bool := bitN (s.fld (rasPg 1) (f.nth (n / 64))) (n % 64)

end Sys2Proof.Machine
end

