-- ==== Sys2Proof/Machine/DmaOps.lean ====
section
/-! DEFINITION. The DMA engines (11 R342-R362): rings and descriptors, pacing, lines, pause, halt and resume, and the writes of
their registers. -/

namespace Sys2Proof.Machine

def State.dma (s : State) (c ch : Nat) : Dma := Tab.get {} s.dmas (16 * c + ch)
def State.setDma (s : State) (c ch : Nat) (d : Dma) : State := { s with dmas := Tab.set {} s.dmas (16 * c + ch) d }

def State.chState (s : State) (c ch : Nat) : Nat := s.fld (chanPg c ch) R.DMA_CH_STATUS_STATE
def State.setChState (s : State) (c ch v : Nat) : State := s.setFld (chanPg c ch) R.DMA_CH_STATUS_STATE v
def State.chTenant (s : State) (c ch : Nat) : Nat := s.fld (chanPg c ch) R.DMA_CH_TENANT_TENANT
/-- Class of a channel: its tenant's (R68). -/
def State.chClass (s : State) (c ch : Nat) : Cls := Fin.ofNat 16 (tctClass (s.tctEntry (s.chTenant c ch)))
def State.chHead (s : State) (c ch : Nat) : Nat := s.fld (chanPg c ch) R.DMA_CH_STATUS_HEAD
def State.chTail (s : State) (c ch : Nat) : Nat := s.fld (chanPg c ch) R.DMA_CH_STATUS_TAIL
/-- Descriptors in the ring (R342). -/
def State.chRing (s : State) (c ch : Nat) : Nat := 2 ^ s.fld (chanPg c ch) R.DMA_CH_CTL_LOG
def State.chRem (s : State) (c ch : Nat) : Nat := s.fld (chanPg c ch) R.DMA_CH_REM_REM
/-- Whether the engine is in SERVICE mode (R353). -/
def State.dmaService (s : State) (c : Nat) : Bool := s.flag (dmaPg c) R.DMA_CTL_MODE
/-- Whether a channel's bolt bit is set (R92). -/
def State.chBolted (s : State) (c ch : Nat) : Bool := bitN (s.reg (boltPg 1 + 0x100 + 8 * ((16 * c + ch) / 64))) ((16 * c + ch) % 64)
/-- Whether a channel's bolted world is that of its tenant's class (R69). -/
def State.chWorldOk (s : State) (c ch : Nat) : Bool := s.chBolted c ch == s.secureClass (s.chClass c ch).val

-- descriptors (R343, R344)

def DmaDesc.word (d : DmaDesc) (i : Nat) : Nat := (d.words.getD i 0).toNat
def DmaDesc.own (d : DmaDesc) : Bool := bitN (d.word 0) 63
def DmaDesc.op (d : DmaDesc) : Nat := bits (d.word 0) 62 56
def DmaDesc.len (d : DmaDesc) : Nat := bits (d.word 1) 24 0
def DmaDesc.src (d : DmaDesc) : Nat := d.word 2
def DmaDesc.dst (d : DmaDesc) : Nat := d.word 3
def DmaDesc.crc64 (d : DmaDesc) : Bool := bitN (d.word 0) 3
def DmaDesc.stop (d : DmaDesc) : Bool := bitN (d.word 0) 2
def DmaDesc.order (d : DmaDesc) : Bool := bitN (d.word 0) 1
def DmaDesc.irq (d : DmaDesc) : Bool := bitN (d.word 0) 0
def OP_COPY : Nat := 1
def OP_FILL : Nat := 2
def OP_DBLANK : Nat := 3
def OP_CRC : Nat := 4
/-- Whether the operation reads lines. -/
def DmaDesc.reads (d : DmaDesc) : Bool := d.op == OP_COPY || d.op == OP_CRC

/-- Whether a descriptor is bad (R344). -/
def DmaDesc.refused (d : DmaDesc) : Bool :=
  d.op == 0 || decide (4 < d.op) || bits (d.word 0) 55 32 != 0 || bits (d.word 0) 31 4 != 0 || bits (d.word 1) 47 25 != 0 ||
  (bitN (d.word 0) 3 && d.op != OP_CRC) || d.len == 0 || decide (2 ^ 24 < d.len) ||
  (d.op == OP_COPY && (d.src % 64 != 0 || d.dst % 64 != 0 || d.len % 64 != 0 ||
    (decide (d.src < d.dst + d.len) && decide (d.dst < d.src + d.len)))) ||
  ((d.op == OP_FILL || d.op == OP_DBLANK) && (d.dst % 64 != 0 || d.len % 64 != 0))

-- requests

/-- A request of a channel, with tag 128 x channel + k, in the channel's tenant, class and key index (R68, R345). -/
def State.dmaReq (s : State) (c ch : Nat) (plane : Plane) (stop port : Nat) (op : Fin 32) (k pa : Nat) : Flit :=
  let t := s.chTenant c ch
  { mkFlit plane (tileStop c) 4 stop port (s.chClass c ch) op (128 * ch + k) pa with tenant := Fin.ofNat 4096 t, key := s.tenantKey t }

/-- Whether the channel may send requests (R69, R70): its tenant may enter the data hierarchy, and its worlds agree. -/
def State.chMay (s : State) (c ch : Nat) : Bool := s.tenantOk (s.chTenant c ch) && s.chWorldOk c ch

/-- Whether a line request of the channel enters the mesh (R32, R69, R70). -/
def State.dmaAdmitted (s : State) (c ch pa : Nat) : Bool := decide (pa < 2 ^ 52) && s.mainMemory pa && s.chMay c ch

/-- A request of the channel is not sent: a mismatch of its worlds sets PG_FAULT.LOCKED in its page (R69). -/
def State.chLocked (s : State) (c ch : Nat) (write : Bool) : State :=
  if s.chWorldOk c ch then s
  else s.accessFault (chanPg c ch) FAULT_LOCKED ⟨.dma, Fin.ofNat 4096 (s.chTenant c ch), s.chClass c ch, 0, 16 * c + ch⟩ 0 write

/-- What the channel finds where an access is to go: an address, nothing yet (a page-table line has been asked for, or is awaited), or a
translation failure. -/
inductive DmaAt where
  | pa (a : Nat) (s : State)
  | waits (s : State)
  | fail (s : State)

/-- Translate through the channel's 8-entry cache and its context (R342, R350); the entry used last is kept first. A page-table line not yet
read is read with tag 5, one at a time, and `want` is done once it is here. -/
def State.dmaXlat (s : State) (c ch va : Nat) (write : Bool) (want : List DmaWant) : DmaAt :=
  let d := s.dma c ch
  let r := s.cachedXlat 8 0 d.tlb d.ctx d.walk va write
  match r.1 with
  | .pa a => .pa a (s.setDma c ch { d with tlb := r.2, walk := [] })
  | .fail => .fail (s.setDma c ch { d with walk := [] })
  | .ask l =>
    if d.walkDue.isSome then .waits (s.setDma c ch { d with want := d.want ++ want })
    else
      .waits ((s.setDma c ch { d with want := d.want ++ want, walkDue := some l }).send
        (s.tableRead (tileStop c) 4 (128 * ch + 5) (Fin.ofNat 4096 (s.chTenant c ch)) (s.chClass c ch) (s.tenantKey (s.chTenant c ch)) (64 * l)))

/-- A source of the channel is raised: a doorbell write to the domain of DMA_CH_IRQ (R359), in the tenant's class and under its key (R68); tag 3
completion, 4 error. A channel that may not send has its write refused: record 0x7006 (R69, R70, R359). -/
def State.dmaRaise (s : State) (c ch k off : Nat) : State :=
  let a := domainDoorbellAddr (s.fld (chanPg c ch) R.DMA_CH_IRQ_DOMAIN)
  if s.chMay c ch then s.send { s.dmaReq c ch .req irtStop 2 OP_DOORBELL k a with data := lineOfWords [w64 off], count := 8 }
  else (s.chLocked c ch true).record (dmaPg c) 0 0x7006 a (ch <<< 16 + s.chHead c ch) (s.secureClass (s.chClass c ch).val)

/-- A record of the engine (R360, R414): word 1 a physical address, word 2 the channel and its descriptor index. -/
def State.dmaRecord (s : State) (c ch sev code pa : Nat) : State :=
  s.record (dmaPg c) sev code pa (ch <<< 16 + s.chHead c ch) (s.secureClass (s.chClass c ch).val)

def State.dmaCount (s : State) (c ch ev : Nat) : State := s.count (dmaPg c) ev (some (s.chClass c ch).val) ch

-- pause and halt (R356, R357)

/-- The bytes of the descriptor in progress that are performed: the first line not yet performed begins there. -/
def State.chDone (s : State) (c ch : Nat) (d : DmaDesc) : Nat := d.len - s.chRem c ch

/-- A channel that drains enters PAUSED, or HALTED with its cause, once nothing of it is outstanding (R356, R357): lines not
performed and descriptors read ahead are dropped. -/
def State.dmaSettle (s : State) (c ch : Nat) : State :=
  let d := s.dma c ch
  let cur := d.descs.head?
  let completing := match cur with
    | some x => x.live && s.chRem c ch == 0 && d.err.isNone && d.halt == 0 && d.phase == .active
    | none => false
  let busy := d.lines.any (fun l => l.st == .reading || l.st == .writing) || d.phase == .context || d.phase == .fetch ||
    d.phase == .writeBack || d.phase == .backed || d.walkDue.isSome || completing || d.err.isSome
  if s.chState c ch ≠ CH_PAUSING ∨ busy then s
  else
    let keep := match cur with
      | some x => [{ x with begun := if x.live then s.chDone c ch x else 0 }]
      | none => []
    let s1 := s.setDma c ch { d with lines := [], descs := keep, phase := .none, halt := 0 }
    if d.halt = 0 then s1.setChState c ch CH_PAUSED
    else (s1.setFld (chanPg c ch) R.DMA_CH_STATUS_CAUSE d.halt).setChState c ch CH_HALTED

/-- A channel halts alone (R357): cause, DMA_CH_ERR, record, error source, and a translation failure's fault source. -/
def State.dmaHalt (s : State) (c ch cause code : Nat) (e : DmaErr) : State :=
  let pg := chanPg c ch
  let w := 2 ^ 63 + b01 e.write <<< 62 + e.kind <<< 60 + e.va % 2 ^ 58
  let d := s.dma c ch
  let s1 := ((s.setDma c ch { d with err := none, halt := cause }).setReg (pg + 0x148) w).dmaRecord c ch 2 code e.pa
  let s2 := if s1.flag pg R.DMA_CH_IRQ_ERR_EN then s1.dmaRaise c ch 4 (s1.fld pg R.DMA_CH_IRQ_ERRSRC) else s1
  let s3 := if cause = 2 then s2.faultSource d.ctx (s2.chTenant c ch) (s2.chClass c ch) (tileStop c) 4 else s2
  ((s3.dmaCount c ch 0x06).setChState c ch CH_PAUSING).dmaSettle c ch

/-- A translation failed (R357). -/
def State.dmaPageFail (s : State) (c ch va : Nat) (write : Bool) : State := s.dmaHalt c ch 2 0x7003 ⟨2, write, va, 0⟩

/-- An access of the channel failed: the first such failure waits for the engine to act on it (R353). -/
def State.dmaFail (s : State) (c ch : Nat) (e : DmaErr) : State :=
  let d := s.dma c ch
  if d.err.isSome ∨ d.halt ≠ 0 then s else s.setDma c ch { d with err := some e }
/-- An access that the channel may not make is refused before it leaves (R69, R70): a bus error, and LOCKED where the worlds differ. -/
def State.dmaRefuse (s : State) (c ch : Nat) (e : DmaErr) : State := (s.chLocked c ch e.write).dmaFail c ch e

/-- A SERVICE-mode bus error (R355): every channel that is enabled or works halts with cause ENGINE; read data not written and
descriptors read ahead are discarded. -/
def State.dmaEngineHalt (s : State) (c ch : Nat) (e : DmaErr) : State :=
  let pg := dmaPg c
  let s1 := if s.flag pg R.DMA_ENG_ERR_VALID then s.setFld pg R.DMA_ENG_ERR_OVER 1
    else s.setReg (pg + 0x108) (2 ^ 63 + b01 e.write <<< 62 + e.pa % 2 ^ 52)
  let s2 := (s1.dmaRecord c ch 2 0x7005 e.pa).pulse (16 * c + 8)
  (List.range 16).foldl (fun s j =>
    let p := chanPg c j
    if s.flag p R.DMA_CH_CTL_EN || s.chState c j != CH_IDLE then
      let d := s.dma c j
      let s' := s.setDma c j { d with err := none, halt := 5, lines := d.lines.filter (fun l => l.st != .ready) }
      let s' := if s'.flag p R.DMA_CH_IRQ_ERR_EN then s'.dmaRaise c j 4 (s'.fld p R.DMA_CH_IRQ_ERRSRC) else s'
      ((s'.dmaCount c j 0x06).setChState c j CH_PAUSING).dmaSettle c j
    else s) s2

/-- A bus error is acted on (R353): the channel halts, or in SERVICE mode the engine. -/
def State.dmaBusError (s : State) (c ch : Nat) : State :=
  match (s.dma c ch).err with
  | none => s
  | some e => if s.dmaService c then s.dmaEngineHalt c ch e
              else s.dmaHalt c ch 1 (if e.write then 0x7002 else 0x7001) e

-- the ring (R348, R350)

/-- Read descriptor i of the ring, at mclk t or later (R350); one read ahead leaves the phase as it is. -/
def State.dmaReadDesc (s : State) (c ch i t : Nat) (ahead : Bool) : State :=
  let va := 32 * s.fld (chanPg c ch) R.DMA_CH_RINGBASE_BASE + 32 * i
  let ph (s : State) (p : DmaPhase) : State := if ahead then s else s.setDma c ch { s.dma c ch with phase := p }
  if !s.chMay c ch then (ph s .none).dmaRefuse c ch ⟨3, false, va, 0⟩
  else match s.dmaXlat c ch va false [.desc i ahead] with
    | .fail s => (ph s .none).dmaPageFail c ch va false
    | .waits s => ph s .fetch
    | .pa pa s =>
      if s.dmaAdmitted c ch pa then (ph s .fetch).sendAt t (s.dmaReq c ch .bulk (tileStop (s.homeOf pa)) 2 OP_BRD 1 (lineBase pa))
      else (ph s .none).dmaFail c ch ⟨3, false, va, pa⟩

/-- Steps 2 and 3 of a start, or the turn to the next descriptor (R348, R350, R357): IDLE where none is pending, BADRING where the
base is not aligned, else the descriptor in hand goes on or descriptor HEAD is read. -/
def State.dmaNext (s : State) (c ch t : Nat) : State :=
  let d := s.dma c ch
  let base := 32 * s.fld (chanPg c ch) R.DMA_CH_RINGBASE_BASE
  if s.chHead c ch = s.chTail c ch then (s.setDma c ch { d with phase := .none, descs := [], lines := [] }).setChState c ch CH_IDLE
  else if base % (32 * s.chRing c ch) ≠ 0 then (s.setDma c ch { d with phase := .none }).dmaHalt c ch 4 0x7004 ⟨3, false, base, 0⟩
  else match d.descs.head? with
    | some x =>
      if x.bad then (s.setDma c ch { d with descs := [] }).dmaReadDesc c ch (s.chHead c ch) t false
      else s.setDma c ch { d with phase := if x.live then .active else .decoded, goAt := t }
    | none => s.dmaReadDesc c ch (s.chHead c ch) t false

/-- The channel starts or resumes (R348, R350, R351, R358): credit 0, its context read 3 mclk later, its cache emptied; with PAUSE
set it enters PAUSED at once. -/
def State.dmaGo (s : State) (c ch : Nat) : State :=
  let pg := chanPg c ch
  let s0 := s.setFld pg R.DMA_CH_STATUS_CAUSE 0
  if s0.flag pg R.DMA_CH_RUN_PAUSE then s0.setChState c ch CH_PAUSED
  else
    let d := s0.dma c ch
    let s1 := ((s0.setDma c ch { d with
      tlb := [], walk := [], want := [], credit := 0, creditAt := s.now, phase := .context, err := none, halt := 0 }).setChState
      c ch CH_RUN).watch (dmaPg c)
    match s.ctxAddr (s.chTenant c ch) with
    | some a =>
      if s1.chMay c ch then s1.sendAt (s.now + 3) (s1.contextRead (tileStop c) 4 (128 * ch) (s.chTenant c ch) a)
      else (s1.setDma c ch { s1.dma c ch with phase := .none }).dmaRefuse c ch ⟨1, false, 0, a⟩
    | none => (s1.setDma c ch { s1.dma c ch with ctx := none }).dmaNext c ch (s.now + 3)

/-- The context entry arrives (R350), or that which a doorbell to a channel at work has read again (R78), for its later translations. A failed
read of it has no virtual address: DMA_CH_ERR.ADDR is a free value. -/
def State.dmaContext (s : State) (c ch : Nat) (f : Flit) (bad : Bool) : State :=
  let d := s.dma c ch
  if d.phase ≠ .context then
    if d.phase = .none ∨ bad then s else s.setDma c ch { d with ctx := some f.data, tlb := [], walk := [] }
  else if bad then
    let x := s.draw 58
    (x.2.setDma c ch { d with phase := .none }).dmaFail c ch ⟨0, false, x.1.toNat, f.addr.toNat⟩
  else
    let s1 := s.setDma c ch { d with ctx := some (contextOf f false), phase := .none, tlb := [], walk := [] }
    if s1.chState c ch = CH_RUN then s1.dmaNext c ch (s.now + 1) else s1.dmaSettle c ch

/-- The write-back of a descriptor (R344, R346): OWN 0, STATUS, word 2 as it stood, word 3 the CRC where there is one. -/
def State.dmaWriteBack (s : State) (c ch : Nat) (d : DmaDesc) (status : Nat) : State :=
  let va := 32 * s.fld (chanPg c ch) R.DMA_CH_RINGBASE_BASE + 32 * d.index
  let ph (s : State) : State := s.setDma c ch { s.dma c ch with phase := .active }
  if !s.chMay c ch then (ph s).dmaRefuse c ch ⟨3, true, va, 0⟩
  else match s.dmaXlat c ch va true [.back status] with
  | .fail s => (ph s).dmaPageFail c ch va true
  | .waits s => s.setDma c ch { s.dma c ch with phase := .writeBack }
  | .pa pa s =>
    let w3 := if d.op = OP_CRC ∧ status = 1 then s.reg (chanPg c ch + 0x140) else d.word 3
    let ws := [w64 (putBits (d.word 0) 63 63 0), w64 (putBits (d.word 1) 63 48 status), w64 (d.word 2), w64 w3]
    if s.dmaAdmitted c ch pa then
      (s.setDma c ch { s.dma c ch with phase := .writeBack }).send
        { s.dmaReq c ch .req (tileStop (s.homeOf pa)) 2 OP_WRPART 2 pa with data := lineOfWords ws, count := 32 }
    else (ph s).dmaFail c ch ⟨3, true, va, pa⟩

/-- How many descriptors a channel may hold (R353). -/
def State.dmaHolds (s : State) (c : Nat) : Nat := if s.dmaService c then 4 else 1

/-- Read the next descriptor ahead, in SERVICE mode (R353). -/
def State.dmaAhead (s : State) (c ch : Nat) : State :=
  let d := s.dma c ch
  let i := (s.chHead c ch + d.descs.length) % s.chRing c ch
  if d.descs.length < s.dmaHolds c ∧ d.descs ≠ [] ∧ i ≠ s.chTail c ch ∧ s.chState c ch = CH_RUN ∧ d.err = none then
    s.dmaReadDesc c ch i s.now true
  else s

/-- A descriptor arrives (R344, R348, R350): it is decoded in 2 mclk, refused as bad, or found not owned. One read ahead that is not
owned or bad is read again when it becomes HEAD. -/
def State.dmaDescriptor (s : State) (c ch : Nat) (f : Flit) (bad : Bool) : State :=
  let d := s.dma c ch
  let ahead := d.phase != .fetch
  let i := (s.chHead c ch + d.descs.length) % s.chRing c ch
  let va := 32 * s.fld (chanPg c ch) R.DMA_CH_RINGBASE_BASE + 32 * i
  if ahead ∧ (d.descs = [] ∨ d.halt ≠ 0) then s
  else if bad then (s.setDma c ch { d with phase := if ahead then d.phase else .none }).dmaFail c ch ⟨3, false, va, f.addr.toNat⟩
  else
    let s0 := if f.poison then s.dmaRecord c ch 1 0x7010 f.addr.toNat else s
    let x : DmaDesc := { index := i, pa := f.addr.toNat + va % 64, words := (List.range 4).map (fun j => lineWord f.data (va % 64 / 8 + j)) }
    if ahead then
      if !x.own || x.refused then s0 else (s0.setDma c ch { d with descs := d.descs ++ [x] }).dmaAhead c ch
    else if !x.own then
      ((s0.setDma c ch { d with phase := .none }).setFld (chanPg c ch) R.DMA_CH_STATUS_NOTOWN 1).setChState c ch CH_IDLE
    else if x.refused then
      let s1 := (s0.setDma c ch { d with phase := .none, descs := [{ x with bad := true }] }).dmaWriteBack c ch x 3
      if (s1.dma c ch).phase = .writeBack then s1.dmaHalt c ch 3 0x7004 ⟨3, false, va, x.pa⟩ else s1
    else
      let s1 := s0.setDma c ch { d with phase := .decoded, descs := [x], goAt := s.now + 2 }
      if s1.chState c ch = CH_RUN then s1.dmaAhead c ch else s1.dmaSettle c ch

/-- The channel takes up a decoded descriptor of operation `op` (R345): the bytes to do and the addresses enter its registers. -/
def State.dmaTake (s : State) (c ch op : Nat) : State :=
  let d := s.dma c ch
  let pg := chanPg c ch
  match d.descs with
  | x :: rest =>
    if d.phase ≠ .decoded ∨ x.op ≠ op ∨ s.chState c ch ≠ CH_RUN ∨ d.err ≠ none then s
    else
      let s1 := ((s.toMclk d.goAt).setDma c ch { d with phase := .active, descs := { x with live := true } :: rest }).setFld pg
        R.DMA_CH_REM_REM x.len
      let s2 := if x.reads then s1.setReg (pg + 0x130) x.src else s1
      let s3 := if op = OP_CRC then s2 else s2.setReg (pg + 0x138) x.dst
      if op = OP_CRC then s3.setReg (pg + 0x140) x.dst else s3
  | [] => s

-- lines (R345, R351)

/-- S of R351. -/
def State.dmaS (s : State) (c ch : Nat) : Nat :=
  min (s.fld (chanPg c ch) R.DMA_CH_CTL_SHARE) (bits (s.aperture (tctAperture (s.tctEntry (s.chTenant c ch)))) 63 56)

/-- Credit at mclk t (R351). -/
def State.dmaCredit (s : State) (c ch t : Nat) : Nat :=
  let d := s.dma c ch
  min (256 * s.fld (chanPg c ch) R.DMA_CH_CTL_BURST) (d.credit + (t - d.creditAt) * s.dmaS c ch)

/-- The bytes of the line that begins at byte `pos` of a descriptor. -/
def DmaDesc.lineBytes (x : DmaDesc) (pos : Nat) : Nat :=
  let a := if x.reads then x.src else x.dst
  min (64 - (a + pos) % 64) (x.len - pos)

/-- Lines left to start in a descriptor. -/
def DmaDesc.linesLeft (x : DmaDesc) : Nat :=
  if x.len ≤ x.begun then 0
  else
    let a := if x.reads then x.src else x.dst
    (a + x.len - 1) / 64 - (a + x.begun) / 64 + 1

/-- The descriptor whose lines start next (R345, R353): the one in progress, or in SERVICE mode the first read ahead that still has
lines to read, unless it asks for order while writes are outstanding. -/
def State.dmaStarts (s : State) (c ch : Nat) : Option DmaDesc :=
  let d := s.dma c ch
  match d.descs with
  | [] => none
  | x :: rest =>
    if x.linesLeft ≠ 0 then some x
    else if s.dmaService c then
      match rest.find? (fun y => decide (y.linesLeft ≠ 0)) with
      | some y => if y.reads && !y.order then some y else none
      | none => none
    else none

/-- A tag free among those of the channel's lines. -/
def Dma.freeTag (d : Dma) : Option Nat := ((List.range 119).map (· + 8)).find? (fun i => !d.lines.any (fun l => l.id == i))

/-- Lines read, or being read, and not yet written (R353). -/
def Dma.ahead (d : Dma) : Nat := (d.lines.filter (fun l => l.st == .reading || l.st == .ready)).length

/-- Whether b more lines may start: tags, and the read buffer (R353). -/
def State.dmaRoom (s : State) (c ch b : Nat) (reads : Bool) : Bool :=
  let d := s.dma c ch
  decide (d.lines.length + b ≤ 112) &&
    (!reads || (if s.dmaService c then decide ((List.range 16).foldl (fun n j => n + (s.dma c j).ahead) b ≤ 64)
      else decide (d.ahead + b ≤ s.fld (chanPg c ch) R.DMA_CH_CTL_BURST)))

/-- Send a line write of the channel: data, or an untracked BLANK (detail 2) (R201, R345). -/
def State.dmaWrite (s : State) (c ch id pa : Nat) (data : Line) (poison blank : Bool) : State :=
  (s.send { s.dmaReq c ch .bulk (tileStop (s.homeOf pa)) 2 OP_BWRLINE id pa with
    data := data, poison := poison, detail := if blank then 2 else 0 }).dmaCount c ch 0x02

/-- Start one line of a descriptor (R345). -/
def State.dmaLine (s : State) (c ch : Nat) (x : DmaDesc) (pos : Nat) : State :=
  let n := x.lineBytes pos
  let va := ((if x.reads then x.src else x.dst) + pos) % 2 ^ 64
  if !s.chMay c ch then s.dmaRefuse c ch ⟨1, !x.reads, va, 0⟩
  else match s.dmaXlat c ch va (!x.reads) [], (s.dma c ch).freeTag with
  | .fail s, _ => s.dmaPageFail c ch va (!x.reads)
  | .waits s, _ => s
  | .pa pa s, some id =>
    if !s.dmaAdmitted c ch pa then s.dmaFail c ch ⟨1, !x.reads, va, pa⟩
    else
      let d := s.dma c ch
      let l : DmaLine := ⟨id, x.index, pos, n, va, lineBase pa, if x.reads then .reading else .writing, 0, false⟩
      let s1 := s.setDma c ch { d with
        lines := d.lines ++ [l]
        descs := d.descs.map (fun y => if y.index = x.index then { y with begun := pos + n } else y) }
      if x.reads then
        (s1.send (s1.dmaReq c ch .bulk (tileStop (s1.homeOf pa)) 2 OP_BRD id (lineBase pa))).dmaCount c ch 0x01
      else
        let data := if x.op = OP_FILL then lineOfWords (List.replicate 8 (w64 x.src)) else 0
        s1.dmaWrite c ch id (lineBase pa) data false (x.op == OP_DBLANK)
  | .pa _ s, none => s

/-- The lines of a burst, in address order, until one fails or a page-table line must be read first (R345, R350, R351). -/
def State.dmaLines (s : State) (c ch index : Nat) : Nat → State
  | 0 => s
  | n + 1 =>
    let d := s.dma c ch
    match d.descs.find? (fun y => y.index == index) with
    | some x =>
      if d.err.isSome || s.chState c ch != CH_RUN || x.linesLeft == 0 then s
      else
        let s1 := s.dmaLine c ch x x.begun
        let d1 := s1.dma c ch
        if d1.lines.length = d.lines.length ∧ d1.walkDue.isSome then s1.setDma c ch { d1 with want := d1.want ++ [.lines index (n + 1)] }
        else s1.dmaLines c ch index n
    | none => s

/-- A burst starts once the credit reaches 256 x b (R351): time moves on to that mclk. -/
def State.dmaBurst (s : State) (c ch : Nat) : State :=
  let d := s.dma c ch
  match s.dmaStarts c ch with
  | none => s
  | some x =>
    let b := min (s.fld (chanPg c ch) R.DMA_CH_CTL_BURST) x.linesLeft
    let sh := s.dmaS c ch
    if s.chState c ch ≠ CH_RUN ∨ d.phase ≠ .active ∨ d.err ≠ none ∨ d.want.any (fun w => match w with | .lines _ _ => true | _ => false) ∨ sh = 0 ∨ !s.dmaRoom c ch b x.reads then s
    else
      let have_ := s.dmaCredit c ch s.now
      let t := if 256 * b ≤ have_ then s.now else s.now + (256 * b - have_ + sh - 1) / sh
      let s1 := s.toMclk t
      let s2 := s1.setDma c ch { d with credit := s1.dmaCredit c ch t - 256 * b, creditAt := t }
      (s2.dmaCount c ch 0x03).dmaLines c ch x.index b

/-- The CRC step over the bytes of a line (R272, R345). -/
def crcLine (wide : Bool) (crc : Nat) (data : Line) (off n : Nat) : Nat :=
  let p := if wide then 0xC96C5795D7870F42 else 0x82F63B78
  let bit (c : Nat) : Nat := Nat.xor (c >>> 1) (if c % 2 = 1 then p else 0)
  (List.range n).foldl (fun c i =>
    let c0 := Nat.xor c (bits data.toNat (8 * (off + i) + 7) (8 * (off + i)))
    (List.range 8).foldl (fun c _ => bit c) c0) (if wide then crc else crc % 2 ^ 32)

/-- A performed line advances the exact registers of the channel (R356). -/
def State.dmaPerformed (s : State) (c ch : Nat) (x : DmaDesc) (l : DmaLine) : State :=
  let pg := chanPg c ch
  let s1 := s.setFld pg R.DMA_CH_REM_REM (s.chRem c ch - l.n)
  let s2 := if x.reads then s1.setReg (pg + 0x130) (s1.reg (pg + 0x130) + l.n) else s1
  if x.op = OP_CRC then s2.setReg (pg + 0x140) (crcLine x.crc64 (s2.reg (pg + 0x140)) l.data (l.va % 64) l.n)
  else s2.setReg (pg + 0x138) (s2.reg (pg + 0x138) + l.n)

/-- Write the lines whose data is here, in address order, and count the lines performed from the front (R345, R356). `n` bounds the
lines. -/
def State.dmaPump (s : State) (c ch : Nat) : Nat → State
  | 0 => s
  | n + 1 =>
    let d := s.dma c ch
    match d.descs with
    | [] => s
    | x :: _ =>
      let mine := d.lines.filter (fun l => l.index == x.index)
      -- the first line not yet performed
      match mine.head? with
      | none => s
      | some l =>
        if x.live && l.pos == s.chDone c ch x && (l.st == .done || (x.op == OP_CRC && l.st == .ready)) then
          ((s.setDma c ch { d with lines := d.lines.filter (fun k => k.id != l.id) }).dmaPerformed c ch x l).dmaPump c ch n
        else
          let upto := mine.takeWhile (fun k => k.st != .reading)
          match upto.find? (fun k => k.st == .ready) with
          | some k =>
            if x.op ≠ OP_COPY ∨ !x.live then s
            else
              let va := (x.dst + k.pos) % 2 ^ 64
              let drop (s : State) : State := s.setDma c ch { s.dma c ch with lines := (s.dma c ch).lines.filter (fun j => j.id != k.id) }
              if !s.chMay c ch then (drop s).dmaRefuse c ch ⟨1, true, va, 0⟩
              else match s.dmaXlat c ch va true [] with
              | .fail s => (drop s).dmaPageFail c ch va true
              | .waits s => s
              | .pa pa s =>
                if !s.dmaAdmitted c ch pa then (drop s).dmaFail c ch ⟨1, true, va, pa⟩
                else
                  let d2 := s.dma c ch
                  let s1 := s.setDma c ch { d2 with lines := d2.lines.map (fun j => if j.id = k.id then { j with st := .writing, va := va, pa := pa } else j) }
                  (s1.dmaWrite c ch k.id pa k.data k.poison false).dmaPump c ch n
          | none => s

/-- A reply to one of the channel's line requests (R345, R347, R353, R356). -/
def State.dmaLineReply (s : State) (c ch k : Nat) (f : Flit) (bad : Bool) : State :=
  let d := s.dma c ch
  match d.lines.find? (fun l => l.id == k) with
  | none => s
  | some l =>
    let s1 : State :=
      if bad then
        (s.setDma c ch { d with lines := d.lines.filter (fun j => j.id != k) }).dmaFail c ch ⟨0, l.st == .writing, l.va, l.pa⟩
      else if l.st = .reading then
        let s0 := if f.poison then s.dmaRecord c ch 1 0x7010 l.pa else s
        s0.setDma c ch { d with
          lines := d.lines.map (fun j => if j.id = k then { j with st := .ready, data := f.data, poison := f.poison } else j)
          descs := d.descs.map (fun y => if y.index = l.index ∧ f.poison then { y with poisoned := true } else y) }
      else s.setDma c ch { d with lines := d.lines.map (fun j => if j.id = k then { j with st := .done } else j) }
    (s1.dmaPump c ch 256).dmaSettle c ch

/-- A page-table line of the channel's walk arrives (R350): what waited for it goes on, in order, and so do writes that waited. -/
def State.dmaTable (s : State) (c ch : Nat) (f : Flit) (bad : Bool) : State :=
  let d := s.dma c ch
  if d.walkDue ≠ some (f.addr.toNat / 64) then s
  else
    let s0 := s.setDma c ch { d with walkDue := none, walk := WalkLine.of f bad :: d.walk, want := [] }
    let s1 := d.want.foldl (fun s w => match w with
      | .desc i ahead => if s.chState c ch = CH_RUN then s.dmaReadDesc c ch i s.now ahead else s
      | .back st => match (s.dma c ch).descs with
        | x :: _ => s.dmaWriteBack c ch x st
        | [] => s
      | .lines i n => s.dmaLines c ch i n) s0
    (s1.dmaPump c ch 256).dmaSettle c ch

-- completion (R346, R347)

/-- A descriptor all of whose lines are performed is written back; once that is answered its source is raised, DONE counts it and
HEAD advances; FLAGS.STOP pauses the channel (R343, R346, R347). -/
def State.dmaComplete (s : State) (c ch : Nat) : State :=
  let d := s.dma c ch
  let pg := chanPg c ch
  match d.descs with
  | [] => s
  | x :: rest =>
    let st := s.chState c ch
    if st ≠ CH_RUN ∧ st ≠ CH_PAUSING then s
    else if d.phase = .active ∧ x.live ∧ s.chRem c ch = 0 ∧ d.err = none ∧ d.halt = 0 ∧ !d.lines.any (fun l => l.index == x.index) then
      s.dmaWriteBack c ch x (if x.poisoned then 2 else 1)
    else if d.phase = .backed then
      let s1 := if x.irq && s.flag pg R.DMA_CH_IRQ_DONE_EN then s.dmaRaise c ch 3 (s.fld pg R.DMA_CH_IRQ_DONESRC) else s
      let s2 := (((s1.bump pg R.DMA_CH_DONE_COUNT 1).setFld pg R.DMA_CH_STATUS_HEAD ((s1.chHead c ch + 1) % s1.chRing c ch)).dmaCount c ch 0x05).setDma
        c ch { s1.dma c ch with descs := rest, phase := .none }
      let s3 := if x.stop then s2.setFld pg R.DMA_CH_RUN_PAUSE 1 else s2
      if x.stop ∨ st = CH_PAUSING then (s3.setChState c ch CH_PAUSING).dmaSettle c ch
      else (s3.dmaNext c ch s3.now).dmaAhead c ch
    else s

/-- The reply to a write-back or a doorbell write of the channel (R347, R359). -/
def State.dmaWritten (s : State) (c ch k : Nat) (f : Flit) (bad : Bool) : State :=
  let d := s.dma c ch
  if k = 2 then
    if d.phase ≠ .writeBack then (if bad then s.dmaRecord c ch 2 0x7002 f.addr.toNat else s)
    else if (match d.descs with | x :: _ => x.bad | [] => true) then (s.setDma c ch { d with phase := .none }).dmaSettle c ch
    else if bad then
      let va := 32 * s.fld (chanPg c ch) R.DMA_CH_RINGBASE_BASE + 32 * s.chHead c ch
      ((s.setDma c ch { d with phase := .active }).dmaFail c ch ⟨3, true, va, f.addr.toNat⟩)
    else s.setDma c ch { d with phase := .backed }
  else if (k = 3 ∨ k = 4) ∧ bad then s.dmaRecord c ch 0 0x7006 f.addr.toNat
  else s

/-- ABORT of a PAUSED or HALTED channel (R358): the descriptor in progress is written back ABORTED and counts as completed; with none
in progress the channel only becomes IDLE. -/
def State.dmaAbort (s : State) (c ch : Nat) : State :=
  let d := s.dma c ch
  let pg := chanPg c ch
  let idle (s : State) : State :=
    ((s.setDma c ch { s.dma c ch with descs := [], lines := [], phase := .none, halt := 0, err := none }).setFld pg R.DMA_CH_STATUS_CAUSE 0).setChState
      c ch CH_IDLE
  match d.descs with
  | [] => idle s
  | x :: _ =>
    let s1 := s.dmaWriteBack c ch x 4
    let s2 := if x.irq && s1.flag pg R.DMA_CH_IRQ_DONE_EN then s1.dmaRaise c ch 3 (s1.fld pg R.DMA_CH_IRQ_DONESRC) else s1
    idle (((s2.bump pg R.DMA_CH_DONE_COUNT 1).setFld pg R.DMA_CH_STATUS_HEAD ((s2.chHead c ch + 1) % s2.chRing c ch)).dmaCount c ch 0x05)

/-- A write of DMA_CH_RUN (R356, R358). -/
def State.dmaRunWrite (s : State) (c ch v : Nat) : Wr :=
  let pg := chanPg c ch
  let st := s.chState c ch
  let pause := bitN v 0
  if (bitN v 1 || bitN v 2) ∧ (st = CH_IDLE ∨ st = CH_RUN ∨ st = CH_PAUSING) then .no FAULT_ACCESS s
  else
    let s1 := s.setFld pg R.DMA_CH_RUN_PAUSE (b01 pause)
    .ok (if bitN v 2 then s1.dmaAbort c ch
      else if st = CH_HALTED ∧ bitN v 1 then s1.dmaGo c ch
      else if st = CH_PAUSED ∧ !pause then s1.dmaGo c ch
      else if st = CH_RUN ∧ pause then (s1.setChState c ch CH_PAUSING).dmaSettle c ch
      else s1)

/-- A doorbell (R348, R349). -/
def State.dmaDoorbell (s : State) (c ch v : Nat) : Wr :=
  let pg := chanPg c ch
  let e := s.tctEntry (s.chTenant c ch)
  let tail := bits v 15 0
  if !tctValid e || tctSuspend e || !tctDmaOk e || !s.flag pg R.DMA_CH_CTL_EN || decide (s.chRing c ch ≤ tail) then .no FAULT_ACCESS s
  else
    let s1 := (s.setFld pg R.DMA_CH_STATUS_TAIL tail).setFld pg R.DMA_CH_STATUS_NOTOWN 0
    -- every doorbell reads the context entry again (R78): one to an IDLE channel starts it, one to a channel at work serves later translations
    .ok (if s.chState c ch = CH_IDLE ∧ tail ≠ s.chHead c ch then s1.dmaGo c ch
      else match s.ctxAddr (s.chTenant c ch) with
        | some a => if s.chState c ch = CH_RUN then s1.sendAt (s.now + 3) (s1.contextRead (tileStop c) 4 (128 * ch) (s.chTenant c ch) a) else s1
        | none => if s.chState c ch = CH_RUN then s1.setDma c ch { s1.dma c ch with ctx := none, tlb := [], walk := [] } else s1)

/-- Whether a write may come from a channel's tenant too (R362). -/
def State.chUser (s : State) (c ch : Nat) (who : Requester) : Bool :=
  wardOrM who || (who.path == .hart && who.tenant.val == s.chTenant c ch)

/-- Registers of a DMACH page (R362). -/
def State.chanPageWrite (s : State) (c ch off : Nat) (who : Requester) (v : Nat) : Option RegEffect :=
  let pg := chanPg c ch
  let st := s.chState c ch
  let works := decide (st = CH_RUN) || decide (st = CH_PAUSING)
  let old := s.reg (pg + off)
  if off = 0x100 then
    let share := bits v 56 48
    let burst := bits v 44 40
    let lg := bits v 36 32
    let sum := (List.range 16).foldl (fun n j => n + if j = ch then share else s.fld (chanPg c j) R.DMA_CH_CTL_SHARE) 0
    let bad := share == 0 || decide (256 < share) || burst == 0 || decide (16 < burst) || decide (lg < 4) || decide (16 < lg) ||
      decide (256 < sum) || (works && (lg != s.fld pg R.DMA_CH_CTL_LOG || (s.flag pg R.DMA_CH_CTL_EN && !bitN v 63))) ||
      (s.dmaService c && bitN v 63 && !s.flag pg R.DMA_CH_CTL_EN && (s.chClass c ch).val != s.fld (dmaPg c) R.DMA_CTL_SCLASS)
    let d := s.dma c ch
    let s1 := if d.phase = .none then s else s.setDma c ch { d with credit := s.dmaCredit c ch s.now, creditAt := s.now }
    some { admitted := wardOrM who
           locked := s.secureClass (s.chClass c ch).val && (bits old 56 48 != share || bits old 44 40 != burst) &&
             (!s.writesSecure who || s.bolted)
           act := if bad then .no FAULT_ACCESS s else .ok (s1.setReg (pg + off) (b01 (bitN v 63) <<< 63 + share <<< 48 + burst <<< 40 + lg <<< 32)) }
  else if off = 0x108 then
    let e := s.tctEntry (bits v 11 0)
    let bad := (st != CH_IDLE && st != CH_HALTED) || !tctValid e || !tctDmaOk e ||
      (s.dmaService c && s.flag pg R.DMA_CH_CTL_EN && tctClass e != s.fld (dmaPg c) R.DMA_CTL_SCLASS)
    some { admitted := wardOrM who, act := if bad then .no FAULT_ACCESS s else .ok (s.setReg (pg + off) (bits v 11 0)) }
  else if off = 0x110 then
    some { admitted := wardOrM who, act := if works then .no FAULT_ACCESS s else .ok (s.setReg (pg + off) (bits v 63 5 <<< 5)) }
  else if off = 0x118 then
    some { admitted := s.chUser c ch who, locked := !s.chWorldOk c ch, act := s.dmaDoorbell c ch v }
  else if off = 0x148 then
    some { admitted := wardOrM who, act := .ok (if bitN v 63 then s.setReg (pg + off) 0 else s) }
  else if off = 0x150 then some { admitted := s.chUser c ch who, act := s.dmaRunWrite c ch v }
  else if 0x100 ≤ off ∧ off < 0x168 then
    some { admitted := wardOrM who
           act := .ok (if off = 0x158 then s.setReg (pg + off) (bits v 63 62 <<< 62 + bits v 55 48 <<< 48 + bits v 46 32 <<< 32 + bits v 14 0) else s) }
  else none

/-- Registers of a DMA page (R354, R361). -/
def State.dmaPageWrite (s : State) (c off : Nat) (who : Requester) (v : Nat) : Option RegEffect :=
  let pg := dmaPg c
  let chans := List.range 16
  if off = 0x100 then
    let busy := chans.any (fun j => s.chState c j == CH_RUN || s.chState c j == CH_PAUSING)
    let on := (chans.filter (fun j => s.flag (chanPg c j) R.DMA_CH_CTL_EN)).map (fun j => (s.chClass c j).val)
    let mixed := match on with
      | [] => false
      | k :: t => t.any (fun j => j != k)
    let s1 := s.setFld pg R.DMA_CTL_MODE (v % 2)
    let s2 := match on with
      | k :: _ => if v % 2 = 1 then s1.setFld pg R.DMA_CTL_SCLASS k else s1
      | [] => s1
    some { admitted := wardOrM who, act := if busy || (v % 2 == 1 && mixed) then .no FAULT_ACCESS s else .ok s2 }
  else if off = 0x108 then
    some { admitted := wardOrM who, act := .ok (if bitN v 63 then s.setReg (pg + off) 0 else s) }
  else none

end Sys2Proof.Machine
end

