-- ==== Sys2Proof/Machine/DmaCmd.lean ====
section
/-! DEFINITION. The commands of the DMA engines (11 R342-R358). -/

namespace Sys2Proof.Machine

/-- A reply reaches a DMA engine's port: its channel, its tag in the channel, and whether it is an error (R353). -/
def State.dmaReply (s : State) (f : Flit) (act : State → Nat → Nat → Nat → Bool → State) : State :=
  let s0 := s.taken f
  match stopTile? f.dst.val with
  | some c =>
    if f.dport = 4 then
      act s0 c (f.tag.val / 128) (f.tag.val % 128) ((f.plane == .rsp && f.op == OP_ERROR) || (f.plane == .bulk && f.op == OP_BACK && f.detail != 0))
    else s0
  | none => s0

/-- DMA_CONTEXT_ARRIVAL (R350). -/
def execDmaContextArrival (f : Flit) (s : State) : Out :=
  .next (s.dmaReply f (fun s c ch k bad => if k = 0 then s.dmaContext c ch f bad else s))
/-- DMA_DESCRIPTOR_ARRIVAL (R350); the page-table lines read on the way to it arrive so too, under tag 5. -/
def execDmaDescriptorArrival (f : Flit) (s : State) : Out :=
  .next (s.dmaReply f (fun s c ch k bad => if k = 1 then s.dmaDescriptor c ch f bad else if k = 5 then s.dmaTable c ch f bad else s))
/-- DMA_COPY (R345). -/
def execDmaCopy (c : Tile) (ch : Chan) (s : State) : Out := .next (s.dmaTake c.val ch.val OP_COPY)
/-- DMA_FILL (R345). -/
def execDmaFill (c : Tile) (ch : Chan) (s : State) : Out := .next (s.dmaTake c.val ch.val OP_FILL)
/-- DMA_BLANK (R345). -/
def execDmaBlank (c : Tile) (ch : Chan) (s : State) : Out := .next (s.dmaTake c.val ch.val OP_DBLANK)
/-- DMA_CRC (R345). -/
def execDmaCrc (c : Tile) (ch : Chan) (s : State) : Out := .next (s.dmaTake c.val ch.val OP_CRC)
/-- DMA_BURST_START (R351). -/
def execDmaBurstStart (c : Tile) (ch : Chan) (s : State) : Out := .next (s.dmaBurst c.val ch.val)
/-- DMA_READ_DATA (R345). -/
def execDmaReadData (f : Flit) (s : State) : Out :=
  .next (s.dmaReply f (fun s c ch k bad => if 8 ≤ k then s.dmaLineReply c ch k f bad else if k = 5 then s.dmaTable c ch f bad else s))
/-- DMA_WRITE_ACK (R347). -/
def execDmaWriteAck (f : Flit) (s : State) : Out :=
  .next (s.dmaReply f (fun s c ch k bad => if 8 ≤ k then s.dmaLineReply c ch k f bad else s.dmaWritten c ch k f bad))
/-- DMA_DESCRIPTOR_COMPLETE (R347). -/
def execDmaDescriptorComplete (c : Tile) (ch : Chan) (s : State) : Out := .next (s.dmaComplete c.val ch.val)
/-- DMA_BUS_ERROR (R353). -/
def execDmaBusError (c : Tile) (ch : Chan) (s : State) : Out := .next (s.dmaBusError c.val ch.val)

end Sys2Proof.Machine
end

