-- ==== Sys2Proof/Machine/ClusterOps.lean ====
section
/-! DEFINITION. The cluster: its L2 and the L1s under it (06 R186), requests to home slices (04 R145), lines and store
buffers as harts use them (R125, R129, R130), and the snoops it answers (06 R187, R190). -/

namespace Sys2Proof.Machine

/-- The 4-bit map of the lines of a block that a cluster's L2 holds (R186). -/
def Cluster.blockMap (cl : Cluster) (block : Nat) : Nat :=
  (List.range 4).foldl (fun m n => if (Tab.at? cl.l2 (4 * block + n)).isSome then m + 2 ^ n else m) 0

/-- The harts whose Negatives' slots lie in a cluster. -/
def State.clusterHarts (s : State) (c : Nat) : List Nat :=
  (List.range 8).filterMap (fun n =>
    if s.flag (negPg c) (R.CL_NEG_SLOT_VALID.nth n) then some (s.fld (negPg c) (R.CL_NEG_SLOT_HART.nth n)) else none)

/-- Whether a hart's uncommitted epochs hold a line (R125, R129, R131). -/
def HartState.buffers (v : HartState) (l : Nat) : Bool :=
  (v.closed ++ v.epoch.toList).any (fun e => (Tab.at? e.stores l).isSome)

/-- Merge the dirty L1D copy of a line into the L2; the copies in L1 stay, clean. -/
def State.cleanL1 (s : State) (c l : Nat) : State :=
  match s.dirtyL1 c l with
  | none => s
  | some d =>
    let cl := s.cluster c
    let s1 := match Tab.at? cl.l2 l with
      | some w => s.setCluster c { cl with l2 := Tab.ins l { w with data := d, st := if w.st = .o then .o else .m } cl.l2 }
      | none => s
    (List.range 4).foldl (fun s i =>
      let o := s.core (4 * c + i)
      match Tab.at? o.l1d l with
      | some w => s.setCore (4 * c + i) { o with l1d := Tab.ins l { w with dirty := false } o.l1d }
      | none => s) s1

/-- Remove a line from the L1s of a cluster, core `keep` apart; a core in C2 enters it into its wake list instead (R453). -/
def State.dropL1 (s : State) (c l : Nat) (keep : Option Nat) : State :=
  (List.range 4).foldl (fun s i =>
    let k := 4 * c + i
    let o := s.core k
    if keep = some k then s
    else if o.cstate = 2 then s.setCore k { o with wakeList := (o.wakeList ++ [l]).take 257 }
    else s.setCore k { o with l1d := Tab.del l o.l1d, l1i := o.l1i.filter (· != l) }) s

/-- Write a line of the L2 back to its home slice as WRLINE, with the map of what stays (R186); until it is answered the cluster answers
snoops from it and asks for it no more: DESIGN CHOICE (log entry 99). -/
def State.sendWrline (s : State) (c l : Nat) (w : L2Line) : State :=
  let f := mkFlit .req (tileStop c) 1 (tileStop (s.homeOf (64 * l))) 2 0 OP_WRLINE (1536 + l % 512) (64 * l)
  (s.setCluster c { s.cluster c with evicting := Tab.ins l w (s.cluster c).evicting }).sendAt (s.now + 1) { f with
    data := w.data, key := w.key, poison := w.poison, cls := w.cls, detail := w64 ((s.cluster c).blockMap (l / 4)) }

/-- Take a line out of the L2 and the L1s under it, writing it back if it is M or O (R186). -/
def State.evictL2 (s : State) (c l : Nat) : State :=
  let s0 := s.cleanL1 c l
  match Tab.at? (s0.cluster c).l2 l with
  | none => s0
  | some w =>
    let cl := s0.cluster c
    let s1 := (s0.setCluster c { cl with l2 := Tab.del l cl.l2, l2Used := Tab.del l cl.l2Used }).dropL1 c l none
    if w.st = .m ∨ w.st = .o then s1.sendWrline c l w else s1

/-- Install a line in the L2, evicting the least recently used line of its set that no uncommitted epoch holds when the
16 ways of the set are full (01 R21, R186). -/
def State.installL2 (s : State) (c l : Nat) (w : L2Line) : State :=
  let cl := s.cluster c
  let set := cl.l2.filter (fun e => e.1 % 4096 == l % 4096 && e.1 != l)
  let s1 := if set.length < 16 then s
    else
      let free := set.filter (fun e => !(s.clusterHarts c).any (fun h => (s.hart h).buffers e.1))
      match free with
      | [] => s
      | e :: t =>
        s.evictL2 c (t.foldl (fun b x => if Tab.get 0 cl.l2Used x.1 < Tab.get 0 cl.l2Used b then x.1 else b) e.1)
  let cl1 := s1.cluster c
  s1.setCluster c { cl1 with
    l2 := Tab.ins l w cl1.l2, l2Used := Tab.ins l (cl1.clockUse + 1) cl1.l2Used, clockUse := cl1.clockUse + 1 }

/-- Put a line into a core's L1D, which holds 1,024 lines (01 R21): the lowest line that no epoch of its hart holds makes
way. -/
def State.installL1 (s : State) (k l : Nat) (d : Line) : State :=
  let o := s.core k
  if (Tab.at? o.l1d l).isSome then s
  else
    let s1 := if o.l1d.length < 1024 then s
      else match o.l1d.find? (fun e => !(s.clusterHarts (k / 4)).any (fun h => (s.hart h).buffers e.1)) with
        | some e => let s' := if e.2.dirty then s.cleanL1 (k / 4) e.1 else s
                    s'.setCore k { s'.core k with l1d := Tab.del e.1 (s'.core k).l1d }
        | none => s
    s1.setCore k { s1.core k with l1d := Tab.ins l ⟨d, false⟩ (s1.core k).l1d }

/-- A held copy with another key index is written back if dirty and invalidated (R80). -/
def State.dropForeign (s : State) (c l : Nat) (key : KeyIx) : State :=
  match Tab.at? (s.cluster c).l2 l with
  | some w => if w.key = key then s else s.evictL2 c l
  | none => s

/-- What a hart finds when it looks for a line. -/
inductive Found where
  | ready (s : State)
  | wait
  | miss
  deriving DecidableEq, Repr

/-- The lines of the fill shadow that the hart's instruction read are installed in the cluster L2 as it retires (R134, R135); those that
bypass the caches are not (R109). -/
def State.installShadow (s : State) (h : Nat) : State :=
  let c := s.coreOf h / 4
  let v := s.hart h
  let s1 := s.setHart h { v with shadow := [], bypass := [] }
  v.shadow.foldl (fun s e => if v.bypass.contains e.1 || (Tab.at? (s.cluster c).l2 e.1).isSome then s else s.installL2 c e.1 e.2) s1

/-- Bring a line the cluster holds into the hart's L1D, for a load or, owned, for a store (R125, R186). A line that another
core's uncommitted epoch holds waits for that epoch when it is to be owned (R129). -/
def State.bring (s : State) (h l : Nat) (own : Bool) : Found :=
  let k := s.coreOf h
  let c := k / 4
  let key := s.tenantKey (s.hart h).a.tenant.val
  match Tab.at? (s.cluster c).l2 l with
  | none => .miss
  | some w =>
    if w.key ≠ key then .miss
    else if own && (w.st = .s || w.st = .o) then .miss
    else if own && (s.clusterHarts c).any (fun o => s.coreOf o != k && (s.hart o).buffers l) then .wait
    else
      let mine := Tab.at? (s.core k).l1d l
      let s1 := if mine.isSome && !own then s else if (mine.map (fun m => m.dirty)).getD false then s else s.cleanL1 c l
      let s2 := if own then s1.dropL1 c l (some k) else s1
      let d := ((Tab.at? (s2.cluster c).l2 l).map (fun x => x.data)).getD 0
      let s3 := s2.installL1 k l d
      let cl := s3.cluster c
      .ready (s3.setCluster c { cl with l2Used := Tab.ins l (cl.clockUse + 1) cl.l2Used, clockUse := cl.clockUse + 1 })

/-- The mclk at which a request that core k makes now stands at its cluster's stop: the crossing to the cluster, the L2 miss decision and
the boundary (R145). -/
def State.atStop (s : State) (k : Nat) : Nat :=
  let p := max 1 (s.point k)
  missAtStop p (ccycOf p s.now)

/-- The request a hart's cluster sends for a line: to the home slice (R145). -/
def State.askHome (s : State) (h l : Nat) (op : Fin 32) (tag detail : Nat) : State :=
  let a := (s.hart h).a
  let c := s.coreOf h / 4
  let f := mkFlit .req (tileStop c) 1 (tileStop (s.homeOf (64 * l))) 2 a.cls op tag (64 * l)
  s.sendAt (s.atStop (s.coreOf h)) { f with
    tenant := a.tenant, key := s.tenantKey a.tenant.val, priv := a.privField, detail := w64 detail }

/-- An instruction of the hart waits for lines (R134, R136), `nc` those that bypass the caches: the requests leave, and the instruction is
done when all have come. What the fill shadow already holds for it stays. The shadow holds 16 lines; when it is full, or a line's writeback
has no answer yet, the instruction waits unissued. `front`: it is the hart's oldest. -/
def State.missLines (s : State) (h : Nat) (ls nc : List Nat) (own : Bool) (op : Option (Fin 32)) (i : Instr) (front : Bool) : State :=
  let k := s.coreOf h
  let v := s.hart h
  let used := v.misses.foldl (fun n m => n + m.lines.length + m.got.length) v.shadow.length
  if decide (16 < used + ls.length) || ls.any (fun l => (Tab.at? (s.cluster (k / 4)).evicting l).isSome) then s
  else
    let key := s.tenantKey v.a.tenant.val
    let s1 := ls.foldl (fun s l =>
      let s0 := if nc.contains l then s else s.dropForeign (k / 4) l key
      let o := match op with
        | some o => o
        | none => if !own then OP_RD else if (Tab.at? (s0.cluster (k / 4)).l2 l).isSome then OP_UPGRADE else OP_RDOWN
      (s0.askHome h l o h (b01 (nc.contains l))).hpm h 0x30 0 false) s
    let v1 := s1.hart h
    let m : Miss := ⟨i, own, nc ++ v1.bypass, ls, v1.shadow, false, s.now⟩
    s1.setHart h { v1 with misses := if front then m :: v1.misses else v1.misses ++ [m], shadow := [], bypass := [] }

/-- Whether a line the hart reads is poisoned (R431). -/
def State.linePoison (s : State) (h l : Nat) (nc : Bool) : Bool := ((s.hartLine h l nc).map (fun w => w.poison)).getD false

/-- Put n bytes into the hart's open epoch's store buffer (R125); n = 0 only holds the line (R131). -/
def State.bufferStore (s : State) (h pa n v : Nat) : State :=
  let x := s.hart h
  match x.epoch with
  | none => s
  | some e =>
    let b : BufLine := match Tab.at? e.stores (pa / 64) with
      | some b => b
      | none => ⟨0, 0⟩
    let b1 : BufLine := if n = 0 then b
      else ⟨lineMerge b.data (pa % 64) n v, b.mask ||| ((2 ^ n - 1) <<< (pa % 64))⟩
    s.setHart h { x with epoch := some { e with stores := Tab.ins (pa / 64) b1 e.stores } }

/-- Entries of the store buffer that the open epoch would still need for the given lines (R125); a line that only a closed epoch holds
needs an entry of its own: DEDUCED, since the two commit apart (log entry 100). -/
def HartState.newEntries (v : HartState) (ls : List Nat) : Nat :=
  match v.epoch with
  | none => ls.length
  | some e => (ls.filter (fun l => (Tab.at? e.stores l).isNone)).length

/-- Entries of the store buffer in use: those of every uncommitted epoch (R125). -/
def HartState.entries (v : HartState) : Nat := (v.closed ++ v.epoch.toList).foldl (fun n e => n + e.stores.length) 0

-- snoops (R106, R129, R187, R190)

/-- Whether a snoop of line l waits: an uncommitted epoch of the cluster holds the line, or an LR that retired less than
64 ccyc ago reserved it (R106, R129, R131). -/
def State.snoopWaits (s : State) (c l : Nat) : Bool :=
  (s.clusterHarts c).any (fun h =>
    let v := s.hart h
    v.buffers l || (match v.resv with
      | some r => r.line == l && decide (s.now < s.ccycAt (s.coreOf h) r.since 64)
      | none => false))

/-- Reservations of a cluster's harts on a line are lost, and a WRS.STO that waits on one ends (R106). -/
def State.loseResv (s : State) (c l : Nat) : State :=
  (s.clusterHarts c).foldl (fun s h =>
    let v := s.hart h
    match v.resv with
    | some r => if r.line = l then
        s.setHart h { v with resv := none, wait := match v.wait with
          | some (.wrs _) => none
          | w => w }
      else s
    | none => s) s

/-- A line that the L1I of some cores of a cluster held has gone (R138, R139): those cores flush and refetch, and their harts issue nothing
for 40 ccyc. -/
def State.refetch (s : State) (ks : List Nat) : State :=
  ks.foldl (fun s k =>
    match s.coreHart k with
    | none => s
    | some h =>
      let s1 := s.hpm h 0x41 0 false
      let v := s1.hart h
      let t := s1.ccycAt k s1.now 40
      match v.wait with
      | none => s1.setHart h { v with wait := some (.pause t) }
      | some (.pause u) => s1.setHart h { v with wait := some (.pause (max t u)) }
      | some _ => s1) s

/-- The cores of a cluster whose L1I holds a line. -/
def State.fetchers (s : State) (c l : Nat) : List Nat :=
  ((List.range 4).map (fun i => 4 * c + i)).filter (fun k => (s.core k).l1i.contains l)

/-- The mclk at which the answer to a snoop that came at mclk t leaves the stop (R145, R190): the boundary, 9 cclk of L2 pipeline, for each
core that holds the line in L1 or held it in its store buffer the crossings and its 4 ccyc, any wait of R129, and the boundary. -/
def State.snoopEnd (s : State) (c l t : Nat) : Nat :=
  let e := (List.range 4).foldl (fun m i =>
    let k := 4 * c + i
    let p := max 1 (s.point k)
    if (Tab.at? (s.core k).l1d l).isSome || (s.core k).l1i.contains l then
      max m (cclkOf p (max (ccycOf p (t + 10) + 3 + 4) (ccycOf p s.now)) + 3)
    else m) (t + 10)
  max e s.now + 1

/-- Answer a snoop that came at mclk t (R187): the state after it, the answer on its way. A line whose WRLINE is on its way is answered from
it (log entry 99). In K1 no data is sent (R456). -/
def State.serveSnoop (s : State) (c t : Nat) (f : Flit) : State :=
  let l := f.addr.toNat / 64
  let e := s.snoopEnd c l t
  let s0 := s.cleanL1 c l
  let cl := s0.cluster c
  let answer (s : State) (w : Option L2Line) (data dirty heldM : Bool) : State :=
    let map := (s.cluster c).blockMap (l / 4)
    let r := replyTo f .rsp (if data then OP_SNPDATA else OP_SNPRSP)
    let d := w64 (map + b01 dirty <<< 4 + b01 heldM <<< 5)
    match w with
    | some x => s.sendAt e (if data then { r with detail := d, data := x.data, key := x.key, poison := x.poison } else { r with detail := d })
    | none => s.sendAt e { r with detail := d }
  match Tab.at? cl.l2 l with
  | none => match Tab.at? cl.evicting l with
    | some w => answer s0 (some w) true true (w.st == .m)
    | none => answer s0 none false false false
  | some w =>
    let owned := w.st != .s && cl.kstate != 1
    let dirty := w.st == .m || w.st == .o
    if f.op = OP_SNPINV then
      let ks := s0.fetchers c l
      let s1 := ((s0.setCluster c { cl with l2 := Tab.del l cl.l2, l2Used := Tab.del l cl.l2Used }).dropL1 c l none).loseResv c l
      answer (s1.refetch ks) (some w) owned dirty (w.st == .m)
    else if f.op = OP_SNPSHARE then
      let st := match w.st with
        | .m => Moesi.o
        | .o => .o
        | _ => .s
      answer (s0.setCluster c { cl with l2 := Tab.ins l { w with st := st } cl.l2 }) (some w) owned dirty (w.st == .m)
    else
      let st := match w.st with
        | .m => Moesi.e
        | .o => .s
        | x => x
      answer (s0.setCluster c { cl with l2 := Tab.ins l { w with st := st } cl.l2 }) (some w) dirty dirty (w.st == .m)

/-- A snoop invalidates a line that stands in the fill shadow for unretired loads: they do without it and ask again (R130);
another snoop leaves it shared. -/
def State.snoopShadow (s : State) (c : Nat) (f : Flit) : State :=
  let l := f.addr.toNat / 64
  (s.clusterHarts c).foldl (fun s h =>
    let v := s.hart h
    let v1 := if f.op = OP_SNPINV then { v with shadow := Tab.del l v.shadow } else v
    if v.misses.any (fun m => (Tab.at? m.got l).isSome) then
      if f.op = OP_SNPINV then
        (s.setHart h { v1 with misses := v.misses.map (fun m =>
          if (Tab.at? m.got l).isSome then { m with got := Tab.del l m.got, lines := m.lines ++ [l] } else m) }).askHome h l OP_RD h
            (b01 (v.misses.any (fun m => m.nc.contains l)))
      else s.setHart h { v with misses := v.misses.map (fun m =>
        match Tab.at? m.got l with
        | some w => { m with got := Tab.ins l { w with st := .s } m.got }
        | none => m) }
    else s.setHart h v1) s

/-- A snoop that came at mclk t: answered now, or held until what it waits for has ended (R106, R129). -/
def State.snoopAt (s : State) (c t : Nat) (f : Flit) : State :=
  if s.snoopWaits c (f.addr.toNat / 64) then s.setCluster c { s.cluster c with snoops := (s.cluster c).snoops ++ [(t, f)] }
  else (s.snoopShadow c f).serveSnoop c t f

/-- A snoop reaches cluster c (R190). -/
def State.clusterSnoop (s : State) (c : Nat) (f : Flit) : State := s.snoopAt c s.now f

/-- Serve the held snoops of a cluster that wait no longer. -/
def State.retrySnoops (s : State) (c : Nat) : State :=
  let q := (s.cluster c).snoops
  q.foldl (fun s e => s.snoopAt c e.1 e.2) (s.setCluster c { s.cluster c with snoops := [] })

/-- Retire every line of a cluster's L2: written back if dirty, and invalidated (R438, R457). -/
def State.flushL2 (s : State) (c : Nat) : State :=
  (s.cluster c).l2.foldl (fun s e => s.evictL2 c e.1) s

-- retirement (R124, R134, R135)

/-- The line a retired instruction was fetched from is in its core's L1I, where the L2 holds it (R135, R186): no command fetches, so an
instruction sends no request for its own line: DESIGN CHOICE (log entry 101). Of 1,024 lines the one installed first makes way. -/
def State.fillL1I (s : State) (h : Nat) : State :=
  let k := s.coreOf h
  match s.translate h (s.hart h).a.pc.toNat false true false with
  | .place pa 0 =>
    let o := s.core k
    if o.l1i.contains (pa / 64) || (Tab.at? (s.cluster (k / 4)).l2 (pa / 64)).isNone then s
    else s.setCore k { o with l1i := (if o.l1i.length < 1024 then o.l1i else o.l1i.drop 1) ++ [pa / 64] }
  | _ => s

/-- An instruction of the hart retires: it belongs to the open epoch, which begins if none is open and closes at 2^EPI
instructions; the lines it read leave the fill shadow, and the pc moves on (R117, R124, R134). -/
def State.retire (s : State) (h : Nat) : State :=
  let s1 := ((s.openEpoch h false).installShadow h).fillL1I h
  let v := s1.hart h
  let a1 := if bitN (v.a.getCsr CSR_MCOUNTINHIBIT) 2 then v.a else v.a.putCsr CSR_MINSTRET (v.a.getCsr CSR_MINSTRET + 1)
  let a2 := { a1.hpm 0x02 0 true with pc := v.a.pc + 4 }
  let n := (v.epoch.map (fun e => e.instrs + 1)).getD 1
  let s2 := s1.setHart h { v with
    a := a2, epoch := v.epoch.map (fun e => { e with instrs := n }), skid := v.skid.map (fun n => n - 1) }
  if 2 ^ bits (v.a.getCsr CSR_XNRCTL) 11 8 ≤ n then s2.closeEpoch h 0 else s2

end Sys2Proof.Machine
end

