-- ==== Sys2Proof/Machine/QueueOps.lean ====
section
/-! DEFINITION. The task queue (10 R312-R341): descriptors, the kernel-table copy, offers, dispatch, completion records,
joins, spill rings and stealing; and the part of the engine they touch (08 R254, 09 R309-R311). -/

namespace Sys2Proof.Machine

def State.engine (s : State) (e : Nat) : Engine := Tab.get {} s.engines e
def State.setEngine (s : State) (e : Nat) (v : Engine) : State := { s with engines := Tab.set {} s.engines e v }
def State.queue (s : State) (c : Nat) : Queue := Tab.get {} s.queues c
def State.setQueue (s : State) (c : Nat) (v : Queue) : State := { s with queues := Tab.set {} s.queues c v }

-- descriptor fields (R312)
def dWord (d : Line) (i : Nat) : Nat := (lineWord d i).toNat
def dValid (d : Line) : Bool := bitN (dWord d 0) 63
def dRestartable (d : Line) : Bool := bitN (dWord d 0) 62
def dStealOk (d : Line) : Bool := bitN (dWord d 0) 61
def dPriority (d : Line) : Nat := bits (dWord d 0) 60 58
def dKernel (d : Line) : Nat := bits (dWord d 0) 57 48
def dTenant (d : Line) : Tenant := Fin.ofNat 4096 (bits (dWord d 0) 47 36)
def dClass (d : Line) : Cls := Fin.ofNat 16 (bits (dWord d 0) 35 32)
def dTag (d : Line) : Nat := bits (dWord d 0) 31 0
def dCrec (d : Line) : Nat := dWord d 1 / 64 * 64
def dJblk (d : Line) : Nat := dWord d 2 / 64 * 64

/-- n bytes of an engine's IMEM or DMEM, as a number (R252, R255). -/
def memValue (m : Tab Byte) (off n : Nat) : Nat := leValue ((List.range n).map (fun i => Tab.get 0 m (off + i)))
/-- Write bytes into an engine's memory. -/
def memPut (m : Tab Byte) (off : Nat) : List Byte → Tab Byte
  | [] => m
  | b :: t => memPut (Tab.set 0 m off b) (off + 1) t

/-- Kernel-table entry i of engine e (R314); the queue's copy follows every IMEM write in its mclk (R315). -/
def State.kernelEntry (s : State) (e i : Nat) : Nat := memValue (s.engine e).imem (4 * i) 4
/-- Whether the kernel table lets class k run kernel i. -/
def State.kernelAllows (s : State) (e i k : Nat) : Bool := bitN (s.kernelEntry e i) 31 && bitN (s.kernelEntry e i) k

/-- The checks of a submission (R114): VALID, tenant, class, the tenant's entry, the kernel table. -/
def State.taskCheck (s : State) (c : Nat) (d : Line) (t : Tenant) (k : Cls) : Bool :=
  let e := s.tctEntry t.val
  dValid d && dTenant d == t && dClass d == k && tctValid e && !tctSuspend e && tctTaskOk e && s.kernelAllows c (dKernel d) k.val

/-- Entries of class k, bottom first. -/
def Queue.entries (q : Queue) (k : Nat) : List Line := Tab.get [] q.deque k
def Queue.setEntries (q : Queue) (k : Nat) (l : List Line) : Queue := { q with deque := Tab.set [] q.deque k l }
/-- TQ_SHARE of class k (R318). -/
def State.queueShare (s : State) (c k : Nat) : Nat := s.fld (queuePg c) (R.TQ_SHARE_SHARE.ofClass k)
/-- Free entries of class k. -/
def State.queueFree (s : State) (c k : Nat) : Nat := s.queueShare c k - ((s.queue c).entries k).length

/-- Whether a reply reports a failure: RSP op ERROR, or a BACK with a detail (R273, R277). -/
def replyFails (f : Flit) : Bool :=
  (f.plane == .rsp && f.op == OP_ERROR) || (f.plane == .bulk && f.op == OP_BACK && f.detail != 0)

/-- A class-k message of the queue to the home of an address, at mclk `m` or later (R325, R329, R330). -/
def State.queueSend (s : State) (m c : Nat) (op : Fin 32) (k : Cls) (tag pa : Nat) (t : Tenant) (key : KeyIx) (data : Line) : State :=
  let f := mkFlit .bulk (tileStop c) 3 (tileStop (s.homeOf pa)) 2 k op tag pa
  s.sendAt (max s.now m) { f with tenant := t, key := key, data := data }

/-- Class k's lane takes an operation that reaches it at mclk `m` (R319): in one mclk one operation; it is decided 3 mclk after it enters.
Answers the mclk at which it enters. -/
def State.laneEnter (s : State) (c k m : Nat) : State × Nat :=
  let q := s.queue c
  let t := max m (Tab.get 0 q.lane k)
  (s.setQueue c { q with lane := Tab.set 0 q.lane k (t + 1) }, t)

/-- The priority clamp of a submission (R73, R317). -/
def State.clampPriority (s : State) (d : Line) : Line :=
  let pri := bits (s.aperture (tctAperture (s.tctEntry (dTenant d).val))) 55 53
  setLineWord d 0 (w64 (putBits (dWord d 0) 60 58 (min (dPriority d) pri)))

/-- Spill-ring registers of class k (R341). -/
def State.spillEn (s : State) (c k : Nat) : Bool := s.flag (queuePg c) (R.TQ_SPILL_CTL_EN.nth k)
def State.spillHead (s : State) (c k : Nat) : Nat := s.fld (queuePg c) (R.TQ_SPILL_HEAD_INDEX.nth k)
def State.spillTail (s : State) (c k : Nat) : Nat := s.fld (queuePg c) (R.TQ_SPILL_TAIL_INDEX.nth k)
def State.spillLog (s : State) (c k : Nat) : Nat := s.fld (queuePg c) (R.TQ_SPILL_CTL_LOG.nth k)
def State.spillKey (s : State) (c k : Nat) : KeyIx := Fin.ofNat 4096 (s.fld (queuePg c) (R.TQ_SPILL_CTL_KEY.nth k))
/-- Entries the ring holds. -/
def State.spillUsed (s : State) (c k : Nat) : Nat := (s.spillTail c k + 2 ^ 32 - s.spillHead c k) % 2 ^ 32
/-- Ring line of index n (R330). -/
def State.spillAddr (s : State) (c k n : Nat) : Nat :=
  (s.fld (queuePg c) (R.TQ_SPILL_BASE_BASE.nth k) <<< 6) + 64 * (n % 2 ^ s.spillLog c k)

/-- A ring whose base lies outside local DRAM disables itself (R331). -/
def State.disableRing (s : State) (c k : Nat) : State :=
  (s.setFld (queuePg c) (R.TQ_SPILL_CTL_EN.nth k) 0).record (queuePg c) 2 0x6013 (s.spillAddr c k 0) k (s.secureClass k)

/-- Class k's entries become `l` at mclk `m`, by a push (R318): entries that were empty may be popped from then on (R323), and a push of a
class the engine runs ends a backoff at once, and its round once the outstanding STEAL is answered (R332). -/
def State.pushed (s : State) (c k : Nat) (l : List Line) (m : Nat) : State :=
  let q := s.queue c
  let on := bitN (s.fld (queuePg c) R.TQ_ALLOW_CLASSES) k
  (s.setQueue c { q.setEntries k l with
    backoff := if on then none else q.backoff, cut := q.cut || (on && q.round.isSome)
    ready := if (q.entries k).isEmpty then Tab.set 0 q.ready k m else q.ready }).watch (enginePg c)
/-- Push a descriptor on top of, or below, its class's entries at mclk `m` (R318). -/
def State.pushTop (s : State) (c : Nat) (d : Line) (m : Nat) : State :=
  s.pushed c (dClass d).val ((s.queue c).entries (dClass d).val ++ [d]) m
def State.pushBottom (s : State) (c : Nat) (d : Line) (m : Nat) : State :=
  s.pushed c (dClass d).val (d :: (s.queue c).entries (dClass d).val) m

/-- Offer a checked descriptor, decided at mclk `m` (R317): 0 pushed, 3 spilled, 1 full. -/
def State.offer (s : State) (c : Nat) (d0 : Line) (m : Nat) : State × Nat :=
  let d := s.clampPriority d0
  let k := (dClass d).val
  if ((s.queue c).entries k).length < s.queueShare c k then (s.pushTop c d m, 0)
  else if s.spillEn c k && decide (s.spillUsed c k < 2 ^ s.spillLog c k) then
    if region (s.spillAddr c k 0) ≠ .dram then (s.disableRing c k, 1)
    else
      let n := s.spillTail c k
      let q := s.queue c
      let s1 := s.setQueue c { q with spills := q.spills ++ [(dClass d, n)] }
      let s2 := s1.queueSend m c OP_BWRLINE (dClass d) (512 + 32 * k + n % 32) (s.spillAddr c k n) (dTenant d) (s.spillKey c k) d
      ((s2.setFld (queuePg c) (R.TQ_SPILL_TAIL_INDEX.nth k) (n + 1)).count (enginePg c) 0x0A (some k) 0, 3)
  else (s, 1)

/-- The completion line of a descriptor (R325). -/
def recordLine (d : Line) (status engine cycles : Nat) : Line :=
  lineOfWords [w64 (status <<< 48 + bits (dWord d 0) 47 32 <<< 32 + dTag d), w64 (2 ^ 63 + engine <<< 56 + cycles % 2 ^ 56)]

/-- Log a refused or untranslatable completion or join access and raise the tenant's fault source (R327, R329). -/
def State.complFault (s : State) (c : Nat) (ctx : Option Line) (t : Tenant) (k : Cls) (va : Nat) : State :=
  (s.record (queuePg c) 2 0x6011 va t.val (s.secureClass k.val)).faultSource ctx t.val k (tileStop c) 3

/-- A completion has ended: the queue drops it. -/
def State.dropCompl (s : State) (c tag : Nat) : State :=
  let q := s.queue c
  s.setQueue c { q with compl := q.compl.filter (fun x => x.tag != tag) }

/-- The task of engine c is complete: the engine is free; a secure class's data is scrubbed first (R309, R327). -/
def State.freeEngine (s : State) (c : Nat) : State :=
  let g := s.engine c
  let k := (g.task.map (fun d => (dClass d).val)).getD 0
  let secure := g.task.isSome && s.secureClass k
  let s1 := s.setEngine c { g with task := none, ctx := none, ctxDue := false, tlb := [], walk := [], walkDue := none, ended := false, ending := none,
                                   st := if g.st = .halted then .halted else .idle, free := max s.now (g.free + 1) + 1, slot := none, scrubDue := secure, strmerr := if g.ending = some 0x8107 then 0 else g.strmerr }
  s1.setQueue c { s1.queue c with running := none }

/-- A completion takes its new form. -/
def State.putCompl (s : State) (c : Nat) (x : Compl) : State :=
  let q := s.queue c
  s.setQueue c { q with compl := q.compl.filter (fun y => y.tag != x.tag) ++ [x] }

/-- Where a completion's access comes: to an address, to a read it needs first and has asked for, or to a failure. -/
inductive ComplAt where
  | pa (a : Nat) (x : Compl)
  | waits (s : State)
  | fail (x : Compl)

/-- Translate a completion's address (R325, R329): the tenant's context entry is read first, then the page tables, over the mesh from mclk
`m` on (R22, R78). A tenant that may not enter the data hierarchy is refused (R70). -/
def State.complReach (s : State) (c : Nat) (x : Compl) (va : Nat) (write : Bool) (m : Nat) : ComplAt :=
  if !s.tenantOk x.tenant.val then .fail x
  else match x.ctx, s.ctxAddr x.tenant.val with
    | none, some a =>
      .waits ((s.putCompl c { x with due := .context }).sendAt (max s.now m) (s.contextRead (tileStop c) 3 x.tag x.tenant.val a))
    | cx, _ =>
      let ctx := cx.getD none
      let y := { x with ctx := some ctx }
      match (s.ctxTranslate ctx y.lines va write).reached with
      | .pa a => if s.mainMemory a then .pa a { y with due := .access, lines := [] } else .fail y
      | .fail => .fail y
      | .ask l =>
        .waits ((s.putCompl c { y with due := .walk l }).sendAt (max s.now m)
          (s.tableRead (tileStop c) 3 y.tag y.tenant y.cls (s.tenantKey y.tenant.val) (64 * l)))

/-- The access of a completion failed (R327, R329). -/
def State.complFails (s : State) (c : Nat) (x : Compl) (va : Nat) : State := s.complFault c (x.ctx.getD none) x.tenant x.cls va

/-- The join of a completed descriptor (R329): the counter is decremented in the descriptor's class and context. -/
def State.startJoin (s : State) (c : Nat) (x : Compl) (m : Nat) : State :=
  if !x.joins || dJblk x.desc == 0 then s.dropCompl c x.tag
  else match s.complReach c { x with phase := .join } (dJblk x.desc) true m with
    | .waits s => s
    | .fail y => (s.dropCompl c y.tag).complFails c y (dJblk y.desc)
    | .pa a y =>
      (s.putCompl c y).queueSend m c OP_BATOMIC y.cls y.tag a y.tenant (s.tenantKey y.tenant.val) (lineOfWords [0xFFFFFFFFFFFFFFFF])

/-- A completion record has been written, or is not to be: the task is complete (R327). -/
def State.completed (s : State) (c : Nat) (x : Compl) (m : Nat) : State :=
  let s1 := if x.frees then s.freeEngine c else s
  s1.startJoin c x m

/-- Write the record of a completion, or go without one (R325, R327). -/
def State.recordGo (s : State) (c : Nat) (x : Compl) (m : Nat) : State :=
  if dCrec x.desc = 0 then s.completed c x m
  else match s.complReach c x (dCrec x.desc) true m with
    | .waits s => s
    | .fail y => (s.complFails c y (dCrec y.desc)).completed c { y with lines := [] } m
    | .pa a y => (s.putCompl c y).queueSend m c OP_BWRLINE y.cls y.tag a y.tenant (s.tenantKey y.tenant.val) y.rec_

/-- Read the continuation of a join block that reached zero (R279, R329). -/
def State.startCont (s : State) (c : Nat) (x : Compl) (m : Nat) : State :=
  match s.complReach c { x with phase := .cont } (dJblk x.desc + 64) false m with
  | .waits s => s
  | .fail y => (s.dropCompl c y.tag).complFails c y (dJblk y.desc + 64)
  | .pa a y => (s.putCompl c y).queueSend m c OP_BRD y.cls y.tag a y.tenant (s.tenantKey y.tenant.val) 0

/-- What a read that a completion asked for brought. -/
def Compl.got (x : Compl) (f : Flit) : Compl :=
  match x.due with
  | .access => x
  | .context => { x with ctx := some (some (contextOf f (replyFails f))) }
  | .walk _ => { x with lines := WalkLine.of f (replyFails f) :: x.lines }

/-- A completion goes on with the access of its phase. -/
def State.complGo (s : State) (c : Nat) (x : Compl) : State :=
  match x.phase with
  | .write => s.recordGo c x s.now
  | .join => s.startJoin c x s.now
  | .cont => s.startCont c x s.now

/-- A new completion of the queue, whose first access is that of its phase (R325-R329). -/
def State.newCompl (s : State) (c : Nat) (d rec_ : Line) (ctx : Option (Option Line)) (t : Tenant) (k : Cls) (phase : ComplPhase)
    (joins frees : Bool) : State × Compl :=
  let q := s.queue c
  let x : Compl := { tag := 256 + q.nextTag % 256, desc := d, rec_ := rec_, ctx := ctx, tenant := t, cls := k, phase := phase, joins := joins, frees := frees }
  (s.setQueue c { q with compl := q.compl ++ [x], nextTag := q.nextTag + 1 }, x)

/-- Write a completion record from mclk `m` on (R325-R329): status and cycles, at CREC in the given context (none: yet to be read), tenant
and class. `engine` is the engine that ran the task, 0x7F for none; `frees`: the engine waits for it. -/
def State.writeRecord (s : State) (c : Nat) (d : Line) (ctx : Option (Option Line)) (t : Tenant) (k : Cls) (status engine cycles : Nat)
    (joins frees : Bool) (m : Nat) : State :=
  let r := s.newCompl c d (recordLine d status engine cycles) ctx t k .write joins frees
  r.1.recordGo c r.2 m

/-- A submission that the queue answers by a completion record, decided at mclk `m` (R316, R329): checked, then offered. -/
def State.submitRecorded (s : State) (c : Nat) (d : Line) (ctx : Option (Option Line)) (t : Tenant) (k : Cls) (m : Nat) : State × Bool :=
  if !s.taskCheck c d t k then (s.writeRecord c d ctx t k 0x8001 0x7F 0 false false m, false)
  else
    let r := s.offer c d m
    if r.2 = 1 then (r.1.writeRecord c d ctx t k 0x8004 0x7F 0 false false m, false)
    else (r.1, r.2 == 0)

-- dispatch (R320-R324)

/-- Whether the engine may take a task (R320). -/
def State.engineFree (s : State) (c : Nat) : Bool :=
  s.flag (enginePg c) R.DE_CTL_EN && s.flag (queuePg c) R.TQ_CTL_EN && (s.engine c).st == .idle && (s.engine c).task.isNone &&
    !(s.engine c).scrubDue && (s.engine c).scrubEnd.isNone && !(s.engine c).waiting &&
    !s.flag (enginePg c) R.PG_RESET_HOLDRST && !s.flag (enginePg c) R.PG_RESET_ACTIVE && !s.flag (enginePg c) R.PG_STATUS_RETIRED &&
    s.fld (enginePg c) R.PG_POWER_CUR == 0

/-- The classes an engine considers, in order: after the class of its last task, cyclically (R320). -/
def State.classOrder (s : State) (c : Nat) : List Nat :=
  let first := match (s.engine c).lastCls with
    | some k => k.val + 1
    | none => 0
  ((List.range 16).map (fun i => (first + i) % 16)).filter (fun k => bitN (s.fld (queuePg c) R.TQ_ALLOW_CLASSES) k)

/-- The topmost entry of the most urgent priority of a list (bottom first), and the rest (R320). -/
def popBest (l : List Line) : Option (Line × List Line) :=
  let best := l.foldl (fun m d => max m (dPriority d)) 0
  match takeFirst (fun d => dPriority d == best) l.reverse with
  | none => none
  | some (d, r) => some (d, r.reverse)

/-- The read of the running task's context entry leaves 11 mclk before the first instruction is in F (R78, R323). -/
def State.askContext (s : State) (c : Nat) (d : Line) : State :=
  match s.ctxAddr (dTenant d).val with
  | some a => s.sendAt (max s.now ((s.engine c).startF - 11)) (s.contextRead (tileStop c) 3 2 (dTenant d).val a)
  | none => s

/-- Start a task on an engine, its first instruction in F at mclk `first` (R254, R311, R323): registers, return stack, target cache,
translation cache and stream queue are set, the context entry is asked for. A class other than DMEM's owner scrubs DMEM first. -/
def State.startTask (s : State) (c : Nat) (d : Line) (first : Nat) : State :=
  let g := s.engine c
  let k := dClass d
  let scrub := match g.owner with
    | some o => o != k
    | none => false
  let regs : Tab Word := (List.range 6).foldl (fun t i =>
    Tab.set 0 t (i + 1) (if i = 5 then lineWord d 0 else lineWord d (3 + i))) []
  let entry := bits (s.kernelEntry c (dKernel d)) 29 16 <<< 2
  let s1 := s.setEngine c { g with
    g := regs, pc := entry, slot := none, rstack := [], tcache := [], st := if scrub then .scrub else .task, waiting := false,
    task := some d, ctx := none, ctxDue := (s.ctxAddr (dTenant d).val).isSome, tlb := [], walk := [], walkDue := none,
    ending := none, ended := false, mwait := none,
    lastCls := some k, owner := if scrub then g.owner else some k, startF := first, free := first + 2, hazard := none,
    scrubDue := scrub }
  let s2 := (s1.setQueue c { s1.queue c with running := some d }).count (enginePg c) 0x06 (some k.val) 0
  if scrub then s2 else s2.askContext c d

/-- The dispatch checks of a popped descriptor (R322): a status, or none when the task may start. -/
def State.dispatchCheck (s : State) (c : Nat) (d : Line) : Option Nat :=
  let t := s.tctEntry (dTenant d).val
  if !tctValid t || tctSuspend t || !tctTaskOk t then some 0x8001
  else
    let e := s.kernelEntry c (dKernel d)
    if !bitN e 31 || decide (bits e 29 16 < 0x0400) || !bitN e (dClass d).val then some 0x8003 else none

/-- A descriptor that the engine is to run, from step 3 of R323 at mclk `m` on (R322, R335): started, or its record written once the checks
of steps 8 and 9 have failed. -/
def State.dispatchOne (s : State) (c : Nat) (d : Line) (m : Nat) : State :=
  let g := s.engine c
  match s.dispatchCheck c d with
  | some st =>
    (s.setEngine c { g with lastCls := some (dClass d), free := m + 7 }).writeRecord c d none (dTenant d) (dClass d) st 0x7F 0 true false (m + 7)
  | none => s.startTask c d (m + 35)

/-- The class and the entry that an engine free to take a task takes next, and the mclk from which its choice may begin (R320, R323, R324). -/
def State.nextTask (s : State) (c : Nat) : Option (Nat × Nat) :=
  if !s.engineFree c then none
  else ((s.classOrder c).find? (fun k => !((s.queue c).entries k).isEmpty)).map
    (fun k => (k, max (s.engine c).free (Tab.get 0 (s.queue c).ready k)))

/-- Choose and start a task (R320, R322-R324): its pop passes through its class's lane (R319). -/
def State.dispatch (s : State) (c : Nat) : State :=
  match s.nextTask c with
  | none => s
  | some (k, m) =>
    match popBest ((s.queue c).entries k) with
    | none => s
    | some (d, rest) =>
      let r := (s.setQueue c ((s.queue c).setEntries k rest)).laneEnter c k (max s.now m)
      r.1.dispatchOne c d r.2

-- stealing (R332-R336)

/-- Whether engine j is in engine e's steal group (R340). -/
def State.inGroup (s : State) (e j : Nat) : Bool :=
  if j < 64 then bitN (s.reg (queuePg e + 0x138)) j else bitN (s.reg (queuePg e + 0x140)) (j - 64)

/-- victims(e) (R333): neighbours N, E, S, W, then the other members by (37 (j - e)) mod 96. -/
def State.victims (s : State) (e : Nat) : List Nat :=
  let near := (List.range 4).filterMap (fun d =>
    match neighbour (tileStop e) d with
    | none => none
    | some n => match stopTile? n with
      | some j => if s.inGroup e j then some j else none
      | none => none)
  -- 13 is the inverse of 37 modulo 96
  let far := ((List.range 95).map (fun i => (e + 13 * (i + 1)) % 96)).filter (fun j => s.inGroup e j && !near.contains j)
  near ++ far

/-- A message of the steal protocol between two queues, in class k's BULK slots (R336). -/
def stealFlit (src dst : Nat) (op : Fin 32) (k : Cls) (tag : Nat) (data : Line) (detail : Nat) : Flit :=
  { mkFlit .bulk (tileStop src) 3 (tileStop dst) 3 k op tag 0 with data := data, detail := w64 detail }

/-- Send the next STEAL of the round, or end the round and begin the backoff (R332). -/
def State.nextSteal (s : State) (c : Nat) : State :=
  let q := s.queue c
  if q.cut then s.setQueue c { q with round := none, cut := false }
  else match q.round with
  | none => s
  | some [] => s.setQueue c { q with round := none, backoff := some (s.now + 24 * s.fld (queuePg c) R.TQ_STEAL_BACKOFF) }
  | some ((k, v) :: rest) =>
    (s.setQueue c { q with round := some rest }).send (stealFlit c v OP_STEAL k 0 0 (s.queueFree c k.val))

/-- Begin a steal round if the engine is a thief (R332). -/
def State.stealRound (s : State) (c : Nat) : State :=
  let q := s.queue c
  if s.flag (queuePg c) R.TQ_CTL_STEAL_EN && s.engineFree c && q.round.isNone && q.backoff.isNone &&
      (s.classOrder c).all (fun k => (q.entries k).isEmpty) then
    let todo := (s.classOrder c).flatMap (fun k => (s.victims c).map (fun v => (Fin.ofNat 16 k, v)))
    (s.setQueue c { q with round := some todo }).nextSteal c
  else s

/-- Take the n bottommost entries that may be stolen; those taken and those left (R334). -/
def takeStealable : Nat → List Line → List Line × List Line
  | 0, l => ([], l)
  | _, [] => ([], [])
  | n + 1, d :: t =>
    if dStealOk d then
      let r := takeStealable n t
      (d :: r.1, r.2)
    else
      let r := takeStealable (n + 1) t
      (r.1, d :: r.2)

/-- A victim answers a STEAL in its class's lane (R334): the first flit is presented 6 mclk after the STEAL enters the lane. -/
def State.answerSteal (s0 : State) (v : Nat) (f : Flit) : State :=
  let thief := f.src.val - 12
  let k := f.cls
  let en := s0.laneEnter v k.val s0.now
  let s := en.1
  let m := en.2 + 6
  let q := s.queue v
  let l := q.entries k.val
  let cnt := (l.filter dStealOk).length
  let n := if q.retired then 0 else min (min 4 ((cnt + 1) / 2)) f.detail.toNat
  if n = 0 then (s.count (enginePg v) 0x09 (some k.val) 0).sendAt m (stealFlit v thief OP_STEALRSP k 0 0 0)
  else
    let r := takeStealable n l
    let s1 := s.setQueue v (q.setEntries k.val r.2)
    (r.1.zipIdx).foldl (fun s di =>
      let q := s.queue v
      let tag := 1024 + q.nextTag % 512
      ((s.setQueue v { q with nextTag := q.nextTag + 1, stolen := q.stolen ++ [⟨tag, di.1, m⟩] }).count (enginePg v) 0x07
        (some k.val) 0).sendAt m
        (stealFlit v thief OP_STEALRSP k tag di.1 (if di.2 = 0 then 1 else 2))) s1

/-- Engines that may take a reissued or surrendered descriptor (R337, R338). -/
def State.reissueTarget (s : State) (c : Nat) (d : Line) : Option Nat :=
  (s.victims c).find? (fun j =>
    !s.flag (enginePg j) R.PG_STATUS_RETIRED && (s.engine j).st != .halted && !s.flag (enginePg j) R.PG_RESET_ACTIVE &&
    s.fld (enginePg j) R.PG_POWER_CUR == 0 && s.flag (enginePg j) R.DE_CTL_EN && s.flag (queuePg j) R.TQ_CTL_EN &&
    bitN (s.fld (queuePg j) R.TQ_ALLOW_CLASSES) (dClass d).val && decide (0 < s.queueFree j (dClass d).val))

/-- Offer a descriptor to victims(e), as an unsolicited STEALRSP (detail 4: on top of the class's entries), or complete it
FAILED (R337, R338). -/
def State.surrender (s : State) (c : Nat) (d : Line) (frees : Bool) : State :=
  match s.reissueTarget c d with
  | some j => s.send (stealFlit c j OP_STEALRSP (dClass d) 0 d 4)
  | none => (s.writeRecord c d none (dTenant d) (dClass d) 0x8002 c 0 true frees s.now).record (queuePg c) 2
      0x6021 (dCrec d) (dTag d) (s.secureClass (dClass d).val)

/-- The running task of engine c fails (R337): reissued where RESTARTABLE and some engine takes it, else FAILED. -/
def State.failTask (s : State) (c : Nat) : State :=
  match (s.queue c).running with
  | none => s
  | some d =>
    let g := s.engine c
    let s0 := s.setEngine c { g with task := none, ctx := none, ctxDue := false, tlb := [], walk := [], walkDue := none, ending := none, ended := false,
                                     mwait := none }
    let q := s0.queue c
    let s1 := s0.setQueue c { q with running := none, compl := q.compl.filter (fun x => !x.frees) }
    if dRestartable d then
      match s.reissueTarget c d with
      | some j =>
        (((s1.send (stealFlit c j OP_STEALRSP (dClass d) 0 d 4)).bump (queuePg c) R.TQ_REISSUE_COUNT 1).record (queuePg c) 0
          0x6020 (dCrec d) (dTag d) (s.secureClass (dClass d).val))
      | none => s1.surrender c d false
    else
      (s1.writeRecord c d (if g.ctxDue then none else some g.ctx) (dTenant d) (dClass d) 0x8002 c 0 true false s.now).record (queuePg c) 2
        0x6021 (dCrec d) (dTag d) (s.secureClass (dClass d).val)

/-- A descriptor of TASK.SUBMIT or TSPAWN reaches class k's lane at mclk `m` (R114, R279, R317, R319); the queue of a retired engine offers it
to victims(c) (R437). Answers the status and the mclk at which it enters the lane. -/
def State.submit (s : State) (c : Nat) (d : Line) (t : Tenant) (k : Cls) (m : Nat) : State × Nat × Nat :=
  let en := s.laneEnter c k.val m
  if !en.1.taskCheck c d t k then (en.1, 2, en.2)
  else if (en.1.queue c).retired then (en.1.surrender c d false, 0, en.2)
  else
    let r := en.1.offer c d (en.2 + 3)
    (r.1, r.2, en.2)

/-- A descriptor arrives by a doorbell or a continuation, in class k's lane (R316, R319, R329, R437). Answers whether it was pushed and the mclk
at which it enters the lane. -/
def State.doorbellSubmit (s : State) (c : Nat) (d : Line) (ctx : Option (Option Line)) (t : Tenant) (k : Cls) : State × Bool × Nat :=
  let en := s.laneEnter c k.val s.now
  if (en.1.queue c).retired && en.1.taskCheck c d t k then (en.1.surrender c d false, true, en.2)
  else
    let r := en.1.submitRecorded c d ctx t k (en.2 + 3)
    (r.1, r.2, en.2)

/-- Engine e is retired (R337, R338, R437): a running task fails, every entry of the deque is offered elsewhere, and the engine
takes no further task; record 0x6030. -/
def State.retireEngine (s : State) (e : Nat) : State :=
  let s1 := s.failTask e
  let q := s1.queue e
  let s2 := s1.setQueue e { q with deque := [], retired := true, round := none, cut := false, backoff := none }
  let s3 := (q.deque.flatMap (fun x => x.2)).foldl (fun s d => s.surrender e d false) s2
  let g := s3.engine e
  let s4 := (s3.setEngine e { g with st := .idle, mwait := none, waiting := false, shadows := [] }).setFld (enginePg e) R.PG_STATUS_RETIRED 1
  (s4.record (enginePg e) 2 0x6030 0 0 false).markRetired R.RAS_DE_RET e

/-- Whether class k's ring has an entry the queue may read now (R330). -/
def State.mayRefill (s : State) (c k : Nat) : Bool :=
  let q := s.queue c
  let out := (q.refills.filter (fun r => r.cls.val == k)).length
  s.spillEn c k && decide (0 < s.spillUsed c k) && decide ((q.entries k).length < min 64 (s.queueShare c k)) && decide (out < 4) &&
    decide (out < s.queueFree c k) && !q.spills.contains (Fin.ofNat 16 k, s.spillHead c k)

/-- Read the spill entry at HEAD (R330). -/
def State.refill (s : State) (c k : Nat) : State :=
  if s.mayRefill c k then
    let n := s.spillHead c k
    let q := s.queue c
    let tag := 1536 + 16 * (n % 16) + k
    let s1 := s.setQueue c { q with refills := q.refills ++ [⟨tag, Fin.ofNat 16 k, s.spillAddr c k n⟩] }
    (s1.queueSend s.now c OP_BRD (Fin.ofNat 16 k) tag (s.spillAddr c k n) 0 (s.spillKey c k) 0).setFld (queuePg c)
      (R.TQ_SPILL_HEAD_INDEX.nth k) (n + 1)
  else s

/-- A refilled descriptor arrives (R330, R331): pushed at the bottom of its class's entries, or discarded with record 0x6010 if poisoned. -/
def State.refillArrive (s : State) (c : Nat) (f : Flit) : State :=
  let q := s.queue c
  match takeFirst (fun r : Refill => r.tag == f.tag.val) q.refills with
  | none => s
  | some (r, rest) =>
    let s1 := s.setQueue c { q with refills := rest }
    if replyFails f then s1.disableRing c r.cls.val
    else if f.poison then s1.record (queuePg c) 1 0x6010 r.addr r.cls.val (s.secureClass r.cls.val)
    else
      let en := s1.laneEnter c r.cls.val s1.now
      en.1.pushBottom c f.data (en.2 + 3)

/-- A full-line write reaches a task doorbell (R316): checked with the requester's tenant and class and pushed, or its record written DENIED
or FULL; answered with ACK once decided. -/
def State.doorbellArrive (s : State) (c : Nat) (f : Flit) : State :=
  let r := s.doorbellSubmit c f.data none f.tenant f.cls
  let s1 := if r.2.1 then r.1.setEngine c { r.1.engine c with ipDoor := true } else r.1
  s1.sendAt (r.2.2 + 3) (sliceReply f none 0)

/-- Whether a message is a task doorbell's full-line write (R316). -/
def isDoorbell (c : Nat) (f : Flit) : Bool :=
  (f.op == OP_WRLINE && f.plane == .req || f.op == OP_BWRLINE && f.plane == .bulk) && f.count.val == 64 && f.addr.toNat == taskDoorbellAddr c

/-- The class-k messages that stand at the queue's port, in order of arrival, up to message f where it is among them. -/
def State.laneIngress (s : State) (c k : Nat) (f : Option Flit) : List Flit :=
  ((Tab.get [] s.mesh.ingress (8 * tileStop c + 3)).takeWhile (fun g => some g != f)).filter (fun g => g.cls.val == k)

/-- The operations of class k that have reached the lane and go ahead of an offer (R319): refill pushes, then the owner's pop. -/
def State.laneOwner (s : State) (c k : Nat) : State :=
  let s1 := ((s.laneIngress c k none).filter (fun g => (s.queue c).refills.any (fun r => r.tag == g.tag.val) &&
    (g.plane == .rsp || g.op == OP_BDATA))).foldl (fun s g => (s.taken g).refillArrive c g) s
  match s1.nextTask c with
  | some (j, m) => if j = k ∧ m ≤ s1.now then s1.dispatch c else s1
  | none => s1

/-- The operations that go ahead of a doorbell's offer f (R319): those ahead of every offer, then the mesh offers that arrived before it. -/
def State.laneOffers (s : State) (c k : Nat) (f : Option Flit) : State :=
  let l := (s.laneIngress c k f).filter (isDoorbell c)
  l.foldl (fun s g => (s.taken g).doorbellArrive c g) (s.laneOwner c k)

/-- The operations that go ahead of STEAL f (R319): those ahead of every steal, then the steals that arrived before it. -/
def State.laneSteals (s : State) (c k : Nat) (f : Flit) : State :=
  let l := (s.laneIngress c k (some f)).filter (fun g => g.plane == .bulk && g.op == OP_STEAL)
  l.foldl (fun s g => (s.taken g).answerSteal c g) (s.laneOffers c k none)

end Sys2Proof.Machine
end

