-- ==== Sys2Proof/Machine/EngineOps.lean ====
section
/-! DEFINITION. The Dwemon engine behind its instructions: registers, windows and translation (08 R252-R258), delay slots
(R262-R265), the store buffer (09 R295-R297), the stream unit (R274-R278), exceptions (R280, R286, R287) and interrupts
(R284, R285, 09 R298-R306). -/

namespace Sys2Proof.Machine

-- cause codes (R287)
def DE_ILLEGAL : Nat := 1
def DE_IFETCH : Nat := 2
def DE_ALIGN : Nat := 3
def DE_ACCESS : Nat := 4
def DE_PAGE : Nat := 5
def DE_POISON : Nat := 6
def DE_ASYNC : Nat := 7
def DE_BREAK : Nat := 8

/-- mclk in a cycle of engine e: the Ward runs at 800 MHz (R290). -/
def dweCycle (e : Nat) : Nat := if e = 96 then 3 else 1
/-- The engine's clock edge at or after mclk t. -/
def dweEdge (e t : Nat) : Nat := dweCycle e * ceilDiv t (dweCycle e)
/-- Stop and port at which engine e's requests enter the mesh: the Ward's gateway for the Ward (R84, R152). -/
def dweStop (e : Nat) : Nat := if e = 96 then wardStop else tileStop e
def dwePort (e : Nat) : Nat := if e = 96 then 2 else 3
/-- The engine a message is for (R152). -/
def dweAt? (f : Flit) : Option Nat := if f.dst.val = wardStop ∧ f.dport = 2 then some 96 else stopTile? f.dst.val

/-- General register r; g0 reads 0 (R252). -/
def Engine.getG (g : Engine) (r : Reg) : Word := if r = 0 then 0 else Tab.get 0 g.g r.val
/-- Write a general register; a write of g0 is discarded (R252). -/
def Engine.putG (g : Engine) (r : Reg) (v : Word) : Engine := if r = 0 then g else { g with g := Tab.set 0 g.g r.val v }
/-- DE_STATUS.LEVEL (R288): the shadow levels in use. -/
def Engine.level (g : Engine) : Nat := g.shadows.length
/-- DE_STATUS (R288). -/
def Engine.status (g : Engine) : Word := w64 (2 * g.level + b01 g.ie)
/-- DE_RUNPRI (R288, R304). -/
def Engine.runpri (g : Engine) : Nat := match g.shadows with
  | s :: _ => s.pri
  | [] => 0xFF
/-- The class of the task an engine runs. -/
def Engine.taskClass (g : Engine) : Option Nat := g.task.map (fun d => (dClass d).val)

/-- Tenant and class of the engine's requests (R68, R253): the task's, or DE_HCTX's in handler context; the Ward's are fixed (R290). -/
def State.engineIds (s : State) (e : Nat) : Tenant × Cls :=
  let g := s.engine e
  if e = 96 then (0xFFF, 15)
  else if g.level = 0 then match g.task with
    | some d => (dTenant d, dClass d)
    | none => (0, 0)
  else (Fin.ofNat 4096 (s.fld (enginePg e) R.DE_HCTX_TENANT), Fin.ofNat 16 (s.fld (enginePg e) R.DE_HCTX_CLASS))

/-- Window of a data effective address (R255): 0 DMEM, 1 IMEM, 2 system. -/
def deWindow (ea : Nat) : Option (Fin 3) :=
  if 0xFFFFFFFFFFFE0000 ≤ ea then some 0
  else if 0xFFFFFFFFFFFC0000 ≤ ea ∧ ea ≤ 0xFFFFFFFFFFFCFFFF then some 1
  else if ea < 2 ^ 63 then some 2
  else none

/-- Offset of an address in its window. -/
def deOffset (w : Fin 3) (ea : Nat) : Nat := if w = 0 then ea % 0x20000 else if w = 1 then ea % 0x10000 else ea

/-- Sign-extended 16-bit displacement added to a register (R269). -/
def deEa (a : Word) (imm : BitVec 16) : Nat := (a + imm.signExtend 64).toNat

/-- Whether the part refuses a translated request of the engine (R32, R70). -/
def State.engineRefused (s : State) (e pa : Nat) : Bool :=
  let ids := s.engineIds e
  decide (2 ^ 52 ≤ pa) || !s.mapped pa || !s.tenantOk ids.1.val ||
    (match region pa with
      | .dram => false | .fabricMem => false | .fabricMmio => false | .doorbell => false | .engine => false
      | _ => true)

/-- Pending bits of DE_IPEND (R284, R288). -/
def State.dePend (s : State) (e : Nat) : Nat :=
  let g := s.engine e
  b01 g.ipDoor + b01 g.ipStrm <<< 1 + b01 (match g.deliv with
    | some d => !d.claimed
    | none => false) <<< 2 + b01 (decide (g.timecmp.toNat ≤ s.tb)) <<< 3

/-- Priority and preemption value of a pending source (R284, R298). -/
def Engine.prio (g : Engine) (code : Nat) : Nat × Nat :=
  if code = 2 then match g.deliv with
    | some d => (d.prio, d.preempt)
    | none => (0xFF, 0xFF)
  else
    let p := if code = 0 then bits g.ipri 15 8 else if code = 1 then bits g.ipri 23 16 else bits g.ipri 31 24
    (p, p / 32 * 32)

/-- The interrupt that would be sampled against level `lvl`, running priority `run` and enable `ie` (R298). -/
def State.sampled (s : State) (e : Nat) (ie : Bool) (lvl run : Nat) : Option Nat :=
  let g := s.engine e
  let secure := match g.taskClass with
    | some k => s.secureClass k
    | none => false
  let busy := match g.mwait with
    | some (.atomic _ _ _) => true
    | some (.join _ _ _ _) => true
    | _ => false
  if !ie || decide (4 ≤ lvl) || busy then none
  else
    let ok (c : Nat) : Bool := bitN (s.dePend e) c && bitN g.ien c && decide ((g.prio c).2 < run) &&
      (!secure || (c == 2 && (match g.deliv with
        | some d => d.secure
        | none => false)))
    ((List.range 4).filter ok).foldl (fun b c => match b with
      | none => some c
      | some b => if (g.prio c).1 < (g.prio b).1 then some c else some b) none

/-- The end of engine e's running instruction at mclk `x` after `n` cycles in X (R293): its result, ready at `ready`, may
hold the next instruction. -/
def Engine.took (g : Engine) (x n : Nat) (hz : Option (Reg × Nat)) : Engine := { g with free := x + n, hazard := hz }

/-- The next pc after an instruction that is not a jump: past a delay slot, the branch's outcome (R262). -/
def Engine.next (g : Engine) : Engine :=
  match g.slot with
  | none => { g with pc := g.pc + 4 }
  | some _ => { g with pc := g.after, slot := none }

/-- Put a completion record in train once every stream entry has completed (R280, R327). -/
def State.maybeEnd (s : State) (e : Nat) : State :=
  let g := s.engine e
  match g.ending, g.task with
  | some st, some d =>
    if g.stream.isEmpty && g.sysOut.isEmpty && !g.ended && !g.ctxDue then
      let s1 := s.setEngine e { g with ended := true }
      s1.writeRecord e d (some g.ctx) (dTenant d) (dClass d) st e (g.free - g.startF) true true s.now
    else s
  | _, _ => s

/-- Halt an engine (R286, R337): STATE, cause and PC captured, the record written, the error source raised. A task in
progress at any shadow level fails. The Ward has no DWEMON page and no error source. -/
def State.haltEngine (s : State) (e cause pc code : Nat) : State :=
  let g := s.engine e
  let s1 := s.setEngine e { g with st := .halted, haltCause := cause, haltPc := pc, mwait := none, waiting := false, faults := g.faults + b01 (cause == 0) }
  if e = 96 then s1
  else
  let s2 := (s1.record (enginePg e) 2 code pc cause ((g.taskClass.map s.secureClass).getD false)).pulse (16 * e + 6)
  s2.failTask e

/-- An exception of an engine's instruction (R280, R286): in task context it ends the task, whose undrained stores are
discarded; in handler context it halts the engine. `write`: the faulting access was a write (R288). -/
def State.deException (s : State) (e cause : Nat) (tval : Nat) (write : Bool := false) : State :=
  let g := s.engine e
  let pc := match g.slot with
    | some b => b
    | none => g.pc
  let g1 := { g with cause := w64 (b01 write <<< 62 + b01 g.slot.isSome <<< 61 + cause), tval := w64 tval, mwait := none }
  if 0 < g.level then (s.setEngine e g1).haltEngine e cause pc 0x6001
  else
    (s.setEngine e { g1 with sbuf := [], ending := some (0x8100 + cause), slot := none }).maybeEnd e

/-- Whether engine e can run an instruction now: in task or handler context, nothing awaited, no task end in train; a WAIT
holds until an interrupt is pending (R281). -/
def State.deRuns (s : State) (e : Nat) : Bool :=
  let g := s.engine e
  (g.st == .task || g.st == .handler) && !(e == 96 && s.ward.failed) && g.mwait.isNone && g.walkDue.isNone && (g.ending.isNone || decide (0 < g.level)) &&
    (!g.waiting || s.dePend e != 0)

/-- The cycles an instruction has taken from mclk x on are Ward cycles of 3 mclk (R290). -/
def Engine.wardCycles (g : Engine) (x : Nat) : Engine :=
  { g with free := x + 3 * (g.free - x), hazard := g.hazard.map (fun h => (h.1, x + 3 * (h.2 - x))) }

/-- Run an instruction of engine e that reads registers `srcs`: its X cycle is found (R293), the engine no longer waits, and
`f` performs it on the state with that engine and that mclk. A pc outside IMEM raises IFETCH (R287). -/
def State.deRun (s : State) (e : Nat) (srcs : List Reg) (f : State → Engine → Nat → State) : State :=
  if !s.deRuns e then s
  else
    let g := { s.engine e with waiting := false, entry := none }
    let s0 := s.setEngine e g
    if 0xFFFC < g.pc then s0.deException e DE_IFETCH g.pc
    else
      let x0 := dweEdge e (max g.free s.now)
      let x := match g.hazard with
        | some (r, t) => if srcs.contains r && r != 0 then max x0 t else x0
        | none => x0
      let t := f s0 g x
      if e = 96 then t.setEngine e ((t.engine e).wardCycles x) else t

/-- An event of engine e, in the class of the running task or, in handler context, of DE_HCTX (R511, R512). The Ward has no counters. -/
def State.deEvent (s : State) (e ev : Nat) : State :=
  if e = 96 then s else s.count (enginePg e) ev (some (s.engineIds e).2.val) 0

/-- An instruction of engine e leaves W, with the engine as `g` (R512). -/
def State.deEnd (s : State) (e : Nat) (g : Engine) : State :=
  if e = 96 then s.setEngine e g else (s.setEngine e g).count (enginePg e) 0x01 (some (s.engineIds e).2.val) 0

/-- An instruction that computes one register in `n` X cycles (R266-R268, R271, R272); `late` extra cycles hold a dependent
instruction that follows (multiplies: 2, R293). -/
def State.deAlu (s : State) (e : Nat) (rd : Reg) (srcs : List Reg) (n late : Nat) (f : Engine → Word) : State :=
  s.deRun e srcs (fun s g x =>
    s.deEnd e (((g.putG rd (f g)).took x n (if late = 0 then none else some (rd, x + n + late))).next))

/-- A conditional branch on ra (R262-R264): its delay slot runs unless annulled; a wrong prediction costs 1 cycle. In a
delay slot it raises ILLEGAL (R260). -/
def State.deBranch (s : State) (e : Nat) (ra : Reg) (a p : Bool) (disp : BitVec 15) (cond : Word → Bool) (word : Nat) : State :=
  s.deRun e [ra] (fun s g x =>
    if g.slot.isSome then s.deException e DE_ILLEGAL word
    else
      let t := cond (g.getG ra)
      let target := (w64 g.pc + (disp.signExtend 64 <<< 2)).toNat
      let n := 1 + (if t == p then 0 else 1)
      let s := if t == p then s else s.deEvent e 0x03
      if t then s.deEnd e { g.took x n none with pc := g.pc + 4, slot := some g.pc, after := target }
      else if a then (s.deEvent e 0x02).deEnd e { g.took x (n + 1) none with pc := g.pc + 8 }
      else s.deEnd e { g.took x n none with pc := g.pc + 4, slot := some g.pc, after := g.pc + 8 })

/-- An unconditional jump to `target` with link in `rd` (R262, R264). -/
def State.deJump (s : State) (e : Nat) (g : Engine) (x cost : Nat) (a : Bool) (target : Nat) (rd : Reg) : State :=
  let g1 := g.putG rd (w64 (g.pc + 8))
  if a then (s.deEvent e 0x02).deEnd e { g1.took x (cost + 1) none with pc := target }
  else s.deEnd e { g1.took x cost none with pc := g.pc + 4, slot := some g.pc, after := target }

/-- Push a return address; a full stack of 8 loses its oldest (R264). -/
def Engine.push (g : Engine) (r : Nat) : Engine := { g with rstack := (r :: g.rstack).take 8 }

/-- The predicted target of JR or JLR (R264): from the return stack for g31, else from target-cache entry PC[5:2]. -/
def Engine.predict (g : Engine) (ra : Reg) : Nat :=
  if ra.val = 31 then match g.rstack with
    | r :: _ => r
    | [] => g.pc + 8
  else match Tab.at? g.tcache (g.pc / 4 % 16) with
    | some t => if t.pc = g.pc ∧ t.epoch = g.pred then t.target else g.pc + 8
    | none => g.pc + 8

/-- JR and JLR (R262, R264). -/
def State.deJumpReg (s : State) (e : Nat) (rd ra : Reg) (a link : Bool) (word : Nat) : State :=
  s.deRun e [ra] (fun s g x =>
    if g.slot.isSome || (link && rd == ra) then s.deException e DE_ILLEGAL word
    else
      let target := (g.getG ra).toNat
      let cost := if g.predict ra = target then 1 else 2
      let g1 := if ra.val = 31 then { g with rstack := g.rstack.drop 1 }
        else { g with tcache := Tab.ins (g.pc / 4 % 16) ⟨g.pc, target, g.pred⟩ g.tcache }
      let g2 := if link then g1.push (g.pc + 8) else g1
      (if cost = 1 then s else s.deEvent e 0x03).deJump e g2 x cost a target (if link then rd else 0))

-- translation (R257)

/-- Translate a system address of engine e, whose present form is `g`, and go on with `act` at the address (R257): physical in handler
context; in task context through the 32-entry translation cache, then the task's context entry, for which the engine waits (R323), and its page
tables, whose lines are read over the mesh (R22). A failure raises PAGE and the tenant's fault source (R77); a table read that the part
refuses raises ACCESS (R70). -/
def State.deXlat (s : State) (e : Nat) (g : Engine) (ea : Nat) (write : Bool) (act : Engine → Nat → State) : State :=
  let ids := s.engineIds e
  if 0 < g.level then act g ea
  else if g.ctxDue then s
  else
    let r := s.cachedXlat 32 0 g.tlb g.ctx g.walk ea write
    match r.1 with
    | .pa a => act { g with tlb := r.2, walk := [] } a
    | .fail => ((s.setEngine e { g with walk := [] }).faultSource g.ctx ids.1.val ids.2 (tileStop e) 3).deException e DE_PAGE ea write
    | .ask l =>
      if s.tenantOk ids.1.val then
        (s.setEngine e { g with walkDue := some l }).send (s.tableRead (tileStop e) 3 3 ids.1 ids.2 (s.tenantKey ids.1.val) (64 * l))
      else (s.setEngine e { g with walk := [] }).deException e DE_ACCESS ea write

-- memory (R255-R257, R269, R270, R295, R296)

/-- Whether n bytes of DMEM at an offset touch a poisoned word (R270). -/
def Engine.dmemPoison (g : Engine) (off n : Nat) : Bool := g.dpoison.any (fun w => decide (off / 8 ≤ w) && decide (w ≤ (off + n - 1) / 8))

/-- Whether n bytes of DMEM at an offset touch a line with an LGET outstanding (R278). -/
def Engine.lgetOn (g : Engine) (off n : Nat) : Bool :=
  g.stream.any (fun t => t.kind == 0 && decide (off / 64 ≤ t.dmem / 64) && decide (t.dmem / 64 ≤ (off + n - 1) / 64))

/-- What the store buffer holds for a load (R296). -/
inductive Forward where
  | none
  | value (v : Nat)
  | drain
  deriving DecidableEq, Repr

/-- Store-to-load forwarding (R296): the youngest overlapping entry, if it matches exactly. -/
def Engine.forward (g : Engine) (w : Fin 3) (addr n : Nat) (key : KeyIx) : Forward :=
  match takeFirst (fun b : SbEntry => b.window == w && decide (b.addr < addr + n) && decide (addr < b.addr + b.size)) g.sbuf.reverse with
  | Option.none => .none
  | some (b, _) => if b.addr = addr ∧ b.size = n ∧ (w ≠ 2 ∨ b.key = key) then .value b.data else .drain

/-- A value of n bytes, sign- or zero-extended (R269). -/
def extendTo (n v : Nat) (sx : Bool) : Word :=
  if sx then BitVec.ofInt 64 (signedN (8 * n) v) else w64 (v % 2 ^ (8 * n))

/-- A store-buffer slot is free for a store (R293, R295): a paired entry takes two of the 8. -/
def Engine.sbFree (g : Engine) : Nat :=
  8 - g.sbuf.foldl (fun t b => t + (if b.addr / 8 = (b.addr + b.size - 1) / 8 then 1 else 2)) 0

/-- A request of engine e on the REQ plane to the place that serves an address: the home slice, a fabric port, a doorbell. -/
def State.engineReq (s : State) (e : Nat) (op : Fin 32) (tag pa n : Nat) (ids : Tenant × Cls) (key : KeyIx) (data : Line) (detail : Nat) : State :=
  let dst : Nat × Nat := if s.mainMemory pa then (tileStop (s.homeOf pa), 2) else ioDest pa
  let op := if region pa = .doorbell then OP_DOORBELL else if region pa = .fabricMmio ∨ region pa = .engine then (if op = OP_RD then OP_RDIO else OP_WRIO) else op
  s.send { mkFlit .req (dweStop e) (dwePort e) dst.1 dst.2 ids.2 op tag pa with
    tenant := ids.1, key := key, data := data, count := Fin.ofNat 65 n, detail := w64 detail }

/-- A load (R269, R270, R296). -/
def State.deLoad (s : State) (e : Nat) (rd ra : Reg) (imm : BitVec 16) (n : Nat) (sx : Bool) : State :=
  s.deRun e [ra] (fun s g x =>
    let ea := deEa (g.getG ra) imm
    match deWindow ea with
    | none => s.deException e DE_ACCESS ea
    | some w =>
      if deWindow (ea + n - 1) ≠ some w ∨ 2 ^ 64 < ea + n then s.deException e DE_ACCESS ea
      else if w = 2 then
        if ea / 64 ≠ (ea + n - 1) / 64 then s.deException e DE_ALIGN ea
        else s.deXlat e g ea false (fun g pa =>
            let ids := s.engineIds e
            let key := s.tenantKey ids.1.val
            -- a load of a doorbell is an access fault (R32)
            if s.engineRefused e pa || region pa == .doorbell then s.deException e DE_ACCESS ea
            else match g.forward 2 pa n key with
              | .value v => s.deEnd e (((g.putG rd (extendTo n v sx)).took x 1 none).next)
              | .drain => s
              | .none => (s.setEngine e { g.took x 1 none with mwait := some (.load rd n sx pa ea) }).engineReq e OP_RD 0 pa n ids key 0 1)
      else
        let off := deOffset w ea
        if w = 0 && g.lgetOn off n then s
        else if w = 0 && g.dmemPoison off n then s.deException e DE_POISON ea
        else
          let two := if off / 8 = (off + n - 1) / 8 then 0 else 1
          match g.forward w off n 0 with
          | .drain => s
          | .value v => s.deEnd e (((g.putG rd (extendTo n v sx)).took x (1 + two) (some (rd, x + 2 + two))).next)
          | .none =>
            let m := if w = 0 then g.dmem else g.imem
            s.deEnd e (((g.putG rd (extendTo n (memValue m off n) sx)).took x (1 + two) (some (rd, x + 2 + two))).next))

/-- A store into the store buffer (R269, R295). -/
def State.deStore (s : State) (e : Nat) (rs ra : Reg) (imm : BitVec 16) (n : Nat) : State :=
  s.deRun e [ra, rs] (fun s g x =>
    let ea := deEa (g.getG ra) imm
    let v := (g.getG rs).toNat % 2 ^ (8 * n)
    let ids := s.engineIds e
    let key := s.tenantKey ids.1.val
    let put (g : Engine) (w : Fin 3) (addr : Nat) : State :=
      let b : SbEntry := ⟨w, addr, ea, n, v, ids.1, ids.2, key⟩
      let need := if addr / 8 = (addr + n - 1) / 8 then 1 else 2
      if g.sbFree < need then s
      else s.deEnd e ({ g with sbuf := g.sbuf ++ [b] }.took x 1 none).next
    match deWindow ea with
    | none => s.deException e DE_ACCESS ea true
    | some w =>
      if deWindow (ea + n - 1) ≠ some w ∨ 2 ^ 64 < ea + n then s.deException e DE_ACCESS ea true
      else if w = 1 ∧ g.level = 0 then s.deException e DE_ACCESS ea true
      else if w = 2 then
        if ea / 64 ≠ (ea + n - 1) / 64 then s.deException e DE_ALIGN ea true
        else s.deXlat e g ea true (fun g pa => put g 2 pa)
      else if w = 0 && g.lgetOn (deOffset w ea) n then s
      else put g w (deOffset w ea))

/-- Record an asynchronous failure in DE_STRMERR (R277, R283, R288): SRC 0 stream entry, 1 drained store. -/
def Engine.strmFail (g : Engine) (src ea : Nat) : Engine :=
  if bitN g.strmerr.toNat 63 then { g with strmerr := g.strmerr ||| w64 (2 ^ 62) }
  else { g with strmerr := w64 (2 ^ 63 + src <<< 60 + ea % 2 ^ 58) }

/-- Whether a normal-world engine store may change the kernel table's word (R315): no CLASSES bit of a secure class. -/
def State.kernelWriteOk (s : State) (old new : Nat) : Bool :=
  (List.range 16).all (fun k => bitN old k == bitN new k || !s.secureClass k)

/-- Whether a write of bytes to IMEM would change a secure class's bit of the kernel table (R315). -/
def State.imemWriteOk (s : State) (e off : Nat) (bs : List Byte) : Bool :=
  let m := (s.engine e).imem
  let m1 := memPut m off bs
  (List.range (bs.length / 4 + 2)).all (fun i =>
    let w := off / 4 + i
    decide (1024 ≤ w) || s.kernelWriteOk (memValue m (4 * w) 4) (memValue m1 (4 * w) 4))

/-- Write n bytes of DMEM; an 8-byte aligned doubleword store clears its word's poison (R270). -/
def Engine.dmemStore (g : Engine) (off n v : Nat) : Engine :=
  let g1 := { g with dmem := memPut g.dmem off (leBytes n v) }
  if n = 8 ∧ off % 8 = 0 then { g1 with dpoison := g1.dpoison.filter (· != off / 8) } else g1

/-- The oldest store-buffer entry drains (R297, R283). -/
def State.sbDrain (s : State) (e : Nat) : State :=
  let g := s.engine e
  match g.sbuf with
  | [] => s
  | b :: t =>
    if b.window = 0 then
      if g.lgetOn b.addr b.size then s else s.setEngine e ({ g with sbuf := t }.dmemStore b.addr b.size b.data)
    else if b.window = 1 then
      if s.imemWriteOk e b.addr (leBytes b.size b.data) then
        s.setEngine e { g with sbuf := t, imem := memPut g.imem b.addr (leBytes b.size b.data) }
      else (s.setEngine e ({ g with sbuf := t }.strmFail 1 b.ea)).accessFault (enginePg e) FAULT_LOCKED
          ⟨.engine, b.tenant, b.cls, 0, e⟩ 0 true
    else if s.tenantOk b.tenant.val && decide (b.addr < 2 ^ 52) && s.mapped b.addr then
      let s1 := s.setEngine e { g with sbuf := t, sysOut := g.sysOut ++ [b] }
      s1.engineReq e OP_WRPART (64 + (g.sysOut.length % 64)) b.addr b.size (b.tenant, b.cls) b.key (lineOfWords [w64 b.data]) 0
    else s.setEngine e ({ g with sbuf := t }.strmFail 1 b.ea)

/-- Drain everything that needs no reply, from the oldest on, stopping at nothing (R297): used where an instruction drains
the store buffer. `n` bounds the entries. -/
def State.sbDrainAll (s : State) (e : Nat) : Nat → State
  | 0 => s
  | n + 1 => if (s.engine e).sbuf.isEmpty then s else (s.sbDrain e).sbDrainAll e n

/-- A pending ASYNC failure (R277). -/
def Engine.async (g : Engine) : Bool := bitN g.strmerr.toNat 63

-- stream unit (R274-R278)

/-- Send a stream entry's message (R274). -/
def State.sendStream (s : State) (e : Nat) (t : StreamEntry) : State :=
  let f := mkFlit .bulk (dweStop e) (dwePort e) (tileStop (s.homeOf t.pa)) 2 t.cls
    (if t.kind = 0 then OP_BRD else OP_BWRLINE) (128 + t.id) t.pa
  s.send { f with tenant := t.tenant, key := t.key, data := t.data, poison := t.poison, detail := if t.kind = 2 then 2 else 0 }

/-- Issue a stream entry (R274, R275): it leaves at once unless an earlier entry to the same line is outstanding. -/
def State.deStream (s : State) (e : Nat) (kind : Fin 3) (lineReg sysReg : Reg) : State :=
  s.deRun e [lineReg, sysReg] (fun s g x =>
    let sea := (g.getG sysReg).toNat
    let lea := (g.getG lineReg).toNat
    if 32 ≤ g.stream.length then s
    else if kind ≠ 2 ∧ deWindow lea ≠ some 0 then s.deException e DE_ACCESS lea (kind == 0)
    else if deWindow sea ≠ some 2 then s.deException e DE_ACCESS sea (kind != 0)
    else if kind ≠ 2 ∧ lea % 64 ≠ 0 then s.deException e DE_ALIGN lea (kind == 0)
    else if sea % 64 ≠ 0 then s.deException e DE_ALIGN sea (kind != 0)
    else
      let ids := s.engineIds e
      s.deXlat e g sea (kind != 0) (fun g pa =>
        let off := deOffset 0 lea
        if kind = 1 && g.lgetOn off 64 then s
        else
          let id := ((List.range 32).find? (fun i => !g.stream.any (fun t => t.id == i))).getD 0
          let data := if kind = 1 then BitVec.ofNat 512 (memValue g.dmem off 64) else 0
          let key := s.tenantKey ids.1.val
          let first := !g.stream.any (fun t => t.pa / 64 == pa / 64)
          let ok := s.tenantOk ids.1.val && s.mainMemory pa
          let t : StreamEntry := ⟨id, kind, off, pa, sea, data, kind == 1 && g.dmemPoison off 64, first, ids.1, ids.2, key⟩
          if !ok then s.deEnd e ((g.strmFail 0 sea).took x 1 none).next
          else
            let s1 := (s.deEnd e ({ g with stream := g.stream ++ [t] }.took x 1 none).next).deEvent e 0x05
            if first then s1.sendStream e t else s1))

/-- A stream entry's reply arrives (R275, R277): data is written into DMEM, a failure recorded; the next entry to the same
line leaves; STREAM becomes pending at the level IRQLVL. -/
def State.streamReply (s : State) (e : Nat) (f : Flit) : State :=
  let g := s.engine e
  match takeFirst (fun t : StreamEntry => 128 + t.id == f.tag.val) g.stream with
  | none => s
  | some (t, rest) =>
    let bad := f.plane = .rsp || (f.op = OP_BACK && f.detail != 0)
    let g1 := { g with stream := rest }
    let g2 := if bad then g1.strmFail 0 t.ea
      else if t.kind = 0 then
        let g3 := { g1 with dmem := memPut g1.dmem t.dmem (leBytes 64 f.data.toNat) }
        let words := (List.range 8).map (fun i => t.dmem / 8 + i)
        { g3 with dpoison := (g3.dpoison.filter (fun w => !words.contains w)) ++ (if f.poison then words else []) }
      else g1
    let g4 := if rest.length ≤ g2.irqlvl then { g2 with ipStrm := true } else g2
    match rest.find? (fun u => u.pa / 64 == t.pa / 64 && !u.sent) with
    | none => (s.setEngine e g4).maybeEnd e
    | some u =>
      let s1 := s.setEngine e { g4 with stream := rest.map (fun v => if v.id = u.id then { v with sent := true } else v) }
      (s1.sendStream e u).maybeEnd e

-- interrupts (R285, R299-R306)

/-- Take interrupt `code` with cycle 0 at mclk `t` (R285, R299, R300): the handler's first instruction is in F 7 cycles after it. -/
def State.deInterrupt (s : State) (e code t : Nat) : State :=
  let g := s.engine e
  let pc := match g.slot with
    | some b => b
    | none => g.pc
  let ds := g.slot.isSome
  let g1 : Engine := { g with
    shadows := ⟨pc, g.status, (g.prio code).2⟩ :: g.shadows, cause := w64 (2 ^ 63 + b01 ds <<< 61 + code),
    pc := g.evec + 16 * code, slot := none, st := .handler, waiting := false, hazard := none, entry := some t,
    free := t + 9 * dweCycle e, walk := [], walkDue := none,
    mwait := match g.mwait with
      | some (.load _ _ _ _ _) => none
      | m => m }
  let s1 := s.setEngine e g1
  if e = 96 then s1 else s1.count (enginePg e) 0x0B (some (s.fld (enginePg e) R.DE_HCTX_CLASS)) 0

/-- Interrupt `code` takes over the entry in progress (R301): only DE_CAUSE, DE_RUNPRI and the vector change. -/
def State.deTakeover (s : State) (e code : Nat) : State :=
  let g := s.engine e
  match g.shadows with
  | [] => s
  | sh :: rest =>
    s.setEngine e { g with
      shadows := { sh with pri := (g.prio code).2 } :: rest, cause := w64 (2 ^ 63 + bits g.cause.toNat 61 61 <<< 61 + code)
      pc := g.evec + 16 * code }

/-- The interrupts are sampled at the present mclk (R298-R302): one more urgent than that being entered takes over in its cycles 1 to 4; one
in cycle 5 or 6 waits for cycle 7; else it is entered with its own cycle 0. -/
def State.deSample (s : State) (e : Nat) : State :=
  let g := s.engine e
  let own (t : Nat) : State := match s.sampled e g.ie g.level g.runpri with
    | none => s
    | some code => s.deInterrupt e code t
  match g.entry with
  | none => own (dweEdge e (max g.free s.now))
  | some c0 =>
    if dweEdge e s.now ≤ c0 + 4 * dweCycle e then
      match s.sampled e g.ie (g.level - 1) g.runpri with
      | none => s
      | some code => s.deTakeover e code
    else own (dweEdge e (max s.now (c0 + 7 * dweCycle e)))

/-- Begin a DMEM scrub (R309): every line zero, every flag clear, for 2,048 mclk. -/
def State.startScrub (s : State) (e : Nat) : State :=
  let g := s.engine e
  (s.setEngine e { g with st := .scrub, dmem := [], dpoison := [], scrubEnd := some (s.now + 2048), scrubDue := false }).count
    (enginePg e) 0x0C none 0

/-- A scrub ends (R309, R310): DMEM has no owner; a task that waited for it starts. -/
def State.endScrub (s : State) (e : Nat) : State :=
  let g := s.engine e
  match g.scrubEnd with
  | none => s
  | some t =>
    let s1 := s.toMclk t
    let g1 := { g with scrubEnd := none, owner := none }
    match g.task with
    | some d =>
      (s1.setEngine e { g1 with st := .task, owner := some (dClass d), startF := max g.startF (t + 27), free := max g.startF (t + 27) + 2 }).askContext e d
    | none => s1.setEngine e { g1 with st := .idle }

-- control registers (R288)

/-- Read of a control register (R282, R288): none where the access is not allowed. DE_CLAIM is read by its own command. -/
def State.deRead (s : State) (e n : Nat) : Option Word :=
  let g := s.engine e
  let h := decide (0 < g.level)
  let sh := g.shadows.head?
  match n with
  | 0x000 => some g.status
  | 0x001 => if h then some (w64 g.evec) else none
  | 0x002 => if h then some (w64 ((sh.map (fun x => x.epc)).getD 0 / 4 * 4 % 65536)) else none
  | 0x003 => if h then some ((sh.map (fun x => x.esave)).getD 0) else none
  | 0x004 => if h then some g.cause else none
  | 0x005 => if h then some g.tval else none
  | 0x008 => if h then some (w64 (s.dePend e)) else none
  | 0x009 => if h then some (w64 g.ien) else none
  | 0x00A => if h then some (w64 g.ipri) else none
  | 0x00B => if h then some (w64 g.runpri) else none
  | 0x00D => if h then some 0 else none
  | 0x010 => some (w64 s.tb)
  | 0x011 => if h then some g.timecmp else none
  | 0x012 => some (w64 ((s.now - g.cycle0) / dweCycle e))
  | 0x018 => some (w64 (g.irqlvl <<< 8 + g.stream.length))
  | 0x019 => some g.strmerr
  | 0x020 => some ((g.task.map (fun d => lineWord d 0)).getD 0)
  | 0x021 => some ((g.task.map (fun d => lineWord d 1)).getD 0)
  | 0x022 => some ((g.task.map (fun d => lineWord d 2)).getD 0)
  | 0x028 => some (w64 e)
  | 0x030 => some (w64 g.pred)
  | _ => none

/-- Write of a control register in handler context (R282, R288): none where it is not allowed. DE_EOI is written by its own
command. -/
def Engine.deWrite (g : Engine) (n : Nat) (w : Word) : Option Engine :=
  let v := w.toNat
  let top (f : Shadow → Shadow) : Engine := match g.shadows with
    | x :: t => { g with shadows := f x :: t }
    | [] => g
  if g.level = 0 then none
  else match n with
  | 0x000 => some { g with ie := bitN v 0 }
  | 0x001 => some { g with evec := bits v 15 8 <<< 8 }
  | 0x002 => some (top (fun x => { x with epc := bits v 15 2 <<< 2 }))
  | 0x003 => some (top (fun x => { x with esave := w64 (v % 16) }))
  | 0x008 => some { g with ipDoor := g.ipDoor && !bitN v 0, ipStrm := g.ipStrm && !bitN v 1 }
  | 0x009 => some { g with ien := v % 16 }
  | 0x00A => some { g with ipri := bits v 31 8 <<< 8 }
  | 0x011 => some { g with timecmp := w }
  | 0x018 => some { g with irqlvl := bits v 13 8 }
  | 0x019 => some (if bitN v 63 then { g with strmerr := 0 } else g)
  | _ => none

end Sys2Proof.Machine
end

