-- ==== Sys2Proof/Machine/Dwemon.lean ====
section
/-! DEFINITION. The Dwemon instructions (08 R262-R283) and the events of an engine (08 R258, R269, R275, R280-R289, 09). -/

namespace Sys2Proof.Machine

-- instruction words of the forms that can raise ILLEGAL (R259, R287)
/-- Format B (R259). -/
def wordB (a p : Bool) (cond : Nat) (ra : Reg) (disp : BitVec 15) : Nat :=
  0x30 <<< 26 + b01 a <<< 25 + b01 p <<< 24 + cond <<< 20 + ra.val <<< 15 + disp.toNat
/-- Format J (R259). -/
def wordJ (op : Nat) (a : Bool) (disp : BitVec 25) : Nat := op <<< 26 + b01 a <<< 25 + disp.toNat
/-- Format A (R259). -/
def wordA (op : Nat) (rd ra rb : Reg) (fn : Nat) : Nat := op <<< 26 + rd.val <<< 21 + ra.val <<< 16 + rb.val <<< 11 + fn
/-- Format I (R259). -/
def wordI (op : Nat) (rd ra : Reg) (imm : Nat) : Nat := op <<< 26 + rd.val <<< 21 + ra.val <<< 16 + imm

/-- rd = ra + rb (R266). -/
def execAdd (e : Dwe) (rd ra rb : Reg) (s : State) : Out :=
  .next (s.deAlu e.val rd [ra, rb] 1 0 (fun g => g.getG ra + g.getG rb))

/-- rd = ra - rb (R266). -/
def execSub (e : Dwe) (rd ra rb : Reg) (s : State) : Out :=
  .next (s.deAlu e.val rd [ra, rb] 1 0 (fun g => g.getG ra - g.getG rb))

/-- Bitwise and (R266). -/
def execAnd (e : Dwe) (rd ra rb : Reg) (s : State) : Out :=
  .next (s.deAlu e.val rd [ra, rb] 1 0 (fun g => g.getG ra &&& g.getG rb))

/-- Bitwise or (R266). -/
def execOr (e : Dwe) (rd ra rb : Reg) (s : State) : Out :=
  .next (s.deAlu e.val rd [ra, rb] 1 0 (fun g => g.getG ra ||| g.getG rb))

/-- Bitwise exclusive or (R266). -/
def execXor (e : Dwe) (rd ra rb : Reg) (s : State) : Out :=
  .next (s.deAlu e.val rd [ra, rb] 1 0 (fun g => g.getG ra ^^^ g.getG rb))

/-- Shift left by rb[5:0] (R266). -/
def execSll (e : Dwe) (rd ra rb : Reg) (s : State) : Out :=
  .next (s.deAlu e.val rd [ra, rb] 1 0 (fun g => g.getG ra <<< ((g.getG rb).toNat % 64)))

/-- Shift right, zero fill (R266). -/
def execSrl (e : Dwe) (rd ra rb : Reg) (s : State) : Out :=
  .next (s.deAlu e.val rd [ra, rb] 1 0 (fun g => g.getG ra >>> ((g.getG rb).toNat % 64)))

/-- Shift right, sign fill (R266). -/
def execSra (e : Dwe) (rd ra rb : Reg) (s : State) : Out :=
  .next (s.deAlu e.val rd [ra, rb] 1 0 (fun g => (g.getG ra).sshiftRight ((g.getG rb).toNat % 64)))

/-- Signed set-less-than (R266). -/
def execSlt (e : Dwe) (rd ra rb : Reg) (s : State) : Out :=
  .next (s.deAlu e.val rd [ra, rb] 1 0 (fun g => w64 (b01 ((g.getG ra).slt (g.getG rb)))))

/-- Unsigned set-less-than (R266). -/
def execSltu (e : Dwe) (rd ra rb : Reg) (s : State) : Out :=
  .next (s.deAlu e.val rd [ra, rb] 1 0 (fun g => w64 (b01 ((g.getG ra).ult (g.getG rb)))))

/-- Signed minimum (R266). -/
def execMin (e : Dwe) (rd ra rb : Reg) (s : State) : Out :=
  .next (s.deAlu e.val rd [ra, rb] 1 0 (fun g => if (g.getG ra).slt (g.getG rb) then g.getG ra else g.getG rb))

/-- Signed maximum (R266). -/
def execMax (e : Dwe) (rd ra rb : Reg) (s : State) : Out :=
  .next (s.deAlu e.val rd [ra, rb] 1 0 (fun g => if (g.getG ra).slt (g.getG rb) then g.getG rb else g.getG ra))

/-- Unsigned minimum (R266). -/
def execMinu (e : Dwe) (rd ra rb : Reg) (s : State) : Out :=
  .next (s.deAlu e.val rd [ra, rb] 1 0 (fun g => if (g.getG ra).ult (g.getG rb) then g.getG ra else g.getG rb))

/-- Unsigned maximum (R266). -/
def execMaxu (e : Dwe) (rd ra rb : Reg) (s : State) : Out :=
  .next (s.deAlu e.val rd [ra, rb] 1 0 (fun g => if (g.getG ra).ult (g.getG rb) then g.getG rb else g.getG ra))

/-- Trailing zero bits of a number's low n bits; n where all are zero (R266, R271). -/
def ctzN (n v : Nat) : Nat := ((List.range n).find? (fun i => v.testBit i)).getD n

/-- Trailing zeros; 64 for 0 (R266). -/
def execCtz (e : Dwe) (rd ra : Reg) (s : State) : Out :=
  .next (s.deAlu e.val rd [ra] 1 0 (fun g => w64 (ctzN 64 (g.getG ra).toNat)))

/-- Count of 1 bits (R266). -/
def execPopc (e : Dwe) (rd ra : Reg) (s : State) : Out :=
  .next (s.deAlu e.val rd [ra] 1 0 (fun g => w64 (popCount 64 (g.getG ra).toNat)))

/-- rd = ra + sext(imm16) (R267). -/
def execAddi (e : Dwe) (rd ra : Reg) (imm : BitVec 16) (s : State) : Out :=
  .next (s.deAlu e.val rd [ra] 1 0 (fun g => g.getG ra + imm.signExtend 64))

/-- rd = ra & zext(imm16) (R267). -/
def execAndi (e : Dwe) (rd ra : Reg) (imm : BitVec 16) (s : State) : Out :=
  .next (s.deAlu e.val rd [ra] 1 0 (fun g => g.getG ra &&& imm.setWidth 64))

/-- rd = ra | zext(imm16) (R267). -/
def execOri (e : Dwe) (rd ra : Reg) (imm : BitVec 16) (s : State) : Out :=
  .next (s.deAlu e.val rd [ra] 1 0 (fun g => g.getG ra ||| imm.setWidth 64))

/-- rd = ra ^ zext(imm16) (R267). -/
def execXori (e : Dwe) (rd ra : Reg) (imm : BitVec 16) (s : State) : Out :=
  .next (s.deAlu e.val rd [ra] 1 0 (fun g => g.getG ra ^^^ imm.setWidth 64))

/-- Signed set-less-than immediate (R267). -/
def execSlti (e : Dwe) (rd ra : Reg) (imm : BitVec 16) (s : State) : Out :=
  .next (s.deAlu e.val rd [ra] 1 0 (fun g => w64 (b01 ((g.getG ra).slt (imm.signExtend 64)))))

/-- Unsigned set-less-than with sext(imm16) (R267). -/
def execSltiu (e : Dwe) (rd ra : Reg) (imm : BitVec 16) (s : State) : Out :=
  .next (s.deAlu e.val rd [ra] 1 0 (fun g => w64 (b01 ((g.getG ra).ult (imm.signExtend 64)))))

/-- Shift left by an immediate (R267). -/
def execSlli (e : Dwe) (rd ra : Reg) (sh : BitVec 6) (s : State) : Out :=
  .next (s.deAlu e.val rd [ra] 1 0 (fun g => g.getG ra <<< sh.toNat))

/-- Shift right, zero fill, by an immediate (R267). -/
def execSrli (e : Dwe) (rd ra : Reg) (sh : BitVec 6) (s : State) : Out :=
  .next (s.deAlu e.val rd [ra] 1 0 (fun g => g.getG ra >>> sh.toNat))

/-- Shift right, sign fill, by an immediate (R267). -/
def execSrai (e : Dwe) (rd ra : Reg) (sh : BitVec 6) (s : State) : Out :=
  .next (s.deAlu e.val rd [ra] 1 0 (fun g => (g.getG ra).sshiftRight sh.toNat))

/-- rd = sext(imm16 << 16) (R267). -/
def execLui (e : Dwe) (rd : Reg) (imm : BitVec 16) (s : State) : Out :=
  .next (s.deAlu e.val rd [] 1 0 (fun g => ((imm.setWidth 32) <<< 16).signExtend 64))

/-- rd = (ra << 16) | zext(imm16) (R267). -/
def execShori (e : Dwe) (rd ra : Reg) (imm : BitVec 16) (s : State) : Out :=
  .next (s.deAlu e.val rd [ra] 1 0 (fun g => (g.getG ra <<< 16) ||| imm.setWidth 64))

/-- Low 64 bits of the product, ready 3 cycles after issue (R268). -/
def execMul (e : Dwe) (rd ra rb : Reg) (s : State) : Out :=
  .next (s.deAlu e.val rd [ra, rb] 1 2 (fun g => g.getG ra * g.getG rb))

/-- High 64 bits, signed (R268). -/
def execMulh (e : Dwe) (rd ra rb : Reg) (s : State) : Out :=
  .next (s.deAlu e.val rd [ra, rb] 1 2 (fun g => BitVec.ofInt 64 (((g.getG ra).toInt * (g.getG rb).toInt) / 2 ^ 64)))

/-- High 64 bits, unsigned (R268). -/
def execMulhu (e : Dwe) (rd ra rb : Reg) (s : State) : Out :=
  .next (s.deAlu e.val rd [ra, rb] 1 2 (fun g => w64 (((g.getG ra).toNat * (g.getG rb).toNat) >>> 64)))

/-- Signed quotient towards zero; all ones for a zero divisor; -2^63 / -1 is -2^63 (R268). -/
def execDiv (e : Dwe) (rd ra rb : Reg) (s : State) : Out :=
  .next (s.deAlu e.val rd [ra, rb] 34 0 (fun g => if g.getG rb = 0 then 0xFFFFFFFFFFFFFFFF else (g.getG ra).sdiv (g.getG rb)))

/-- Unsigned quotient; all ones for a zero divisor (R268). -/
def execDivu (e : Dwe) (rd ra rb : Reg) (s : State) : Out :=
  .next (s.deAlu e.val rd [ra, rb] 34 0 (fun g => if g.getG rb = 0 then 0xFFFFFFFFFFFFFFFF else g.getG ra / g.getG rb))

/-- Signed remainder with the sign of ra; ra for a zero divisor (R268). -/
def execRem (e : Dwe) (rd ra rb : Reg) (s : State) : Out :=
  .next (s.deAlu e.val rd [ra, rb] 34 0 (fun g => if g.getG rb = 0 then g.getG ra else (g.getG ra).srem (g.getG rb)))

/-- Unsigned remainder; ra for a zero divisor (R268). -/
def execRemu (e : Dwe) (rd ra rb : Reg) (s : State) : Out :=
  .next (s.deAlu e.val rd [ra, rb] 34 0 (fun g => if g.getG rb = 0 then g.getG ra else g.getG ra % g.getG rb))

/-- Load of 1 byte, sign-extended (R269). -/
def execLb (e : Dwe) (rd ra : Reg) (imm : BitVec 16) (s : State) : Out :=
  .next (s.deLoad e.val rd ra imm 1 true)

/-- Load of 1 byte, zero-extended (R269). -/
def execLbu (e : Dwe) (rd ra : Reg) (imm : BitVec 16) (s : State) : Out :=
  .next (s.deLoad e.val rd ra imm 1 false)

/-- Load of 2 bytes, sign-extended (R269). -/
def execLh (e : Dwe) (rd ra : Reg) (imm : BitVec 16) (s : State) : Out :=
  .next (s.deLoad e.val rd ra imm 2 true)

/-- Load of 2 bytes, zero-extended (R269). -/
def execLhu (e : Dwe) (rd ra : Reg) (imm : BitVec 16) (s : State) : Out :=
  .next (s.deLoad e.val rd ra imm 2 false)

/-- Load of 4 bytes, sign-extended (R269). -/
def execLw (e : Dwe) (rd ra : Reg) (imm : BitVec 16) (s : State) : Out :=
  .next (s.deLoad e.val rd ra imm 4 true)

/-- Load of 4 bytes, zero-extended (R269). -/
def execLwu (e : Dwe) (rd ra : Reg) (imm : BitVec 16) (s : State) : Out :=
  .next (s.deLoad e.val rd ra imm 4 false)

/-- Load of 8 bytes, sign-extended (R269). -/
def execLd (e : Dwe) (rd ra : Reg) (imm : BitVec 16) (s : State) : Out :=
  .next (s.deLoad e.val rd ra imm 8 true)

/-- Store of 1 byte into the store buffer (R269, R295). -/
def execSb (e : Dwe) (rs ra : Reg) (imm : BitVec 16) (s : State) : Out :=
  .next (s.deStore e.val rs ra imm 1)

/-- Store of 2 bytes into the store buffer (R269, R295). -/
def execSh (e : Dwe) (rs ra : Reg) (imm : BitVec 16) (s : State) : Out :=
  .next (s.deStore e.val rs ra imm 2)

/-- Store of 4 bytes into the store buffer (R269, R295). -/
def execSw (e : Dwe) (rs ra : Reg) (imm : BitVec 16) (s : State) : Out :=
  .next (s.deStore e.val rs ra imm 4)

/-- Store of 8 bytes into the store buffer (R269, R295). -/
def execSd (e : Dwe) (rs ra : Reg) (imm : BitVec 16) (s : State) : Out :=
  .next (s.deStore e.val rs ra imm 8)

/-- The lanes of a line that compare true with a value (R271): CMP 0 EQ, 1 NE, 2 LTU, 3 GEU; lanes of 8 << WIDTH bits. -/
def laneMask (line v : Nat) (cmp width : Fin 4) : Nat :=
  let w := 8 * 2 ^ width.val
  let x := v % 2 ^ w
  (List.range (512 / w)).foldl (fun m i =>
    let lane := (line >>> (i * w)) % 2 ^ w
    let hit := match cmp.val with
      | 0 => lane == x
      | 1 => lane != x
      | 2 => decide (lane < x)
      | _ => decide (x ≤ lane)
    if hit then m + 2 ^ i else m) 0

/-- LEQ and LSCAN (R271): the DMEM line at ra is read when no LGET to it is outstanding (R278). -/
def State.deCompare (s : State) (e : Nat) (rd ra rb : Reg) (cmp width : Fin 4) (f : Nat → Word) : State :=
  s.deRun e [ra, rb] (fun s g x =>
    let ea := (g.getG ra).toNat
    if deWindow ea ≠ some 0 then s.deException e DE_ACCESS ea
    else if ea % 64 ≠ 0 then s.deException e DE_ALIGN ea
    else
      let off := deOffset 0 ea
      if g.lgetOn off 64 then s
      else if g.dmemPoison off 64 then s.deException e DE_POISON ea
      else s.deEnd e (((g.putG rd (f (laneMask (memValue g.dmem off 64) (g.getG rb).toNat cmp width))).took x 1 none).next))

/-- LEQ: the match mask (R271). -/
def execLeq (e : Dwe) (rd ra rb : Reg) (cmp width : Fin 4) (s : State) : Out :=
  .next (s.deCompare e.val rd ra rb cmp width w64)

/-- LSCAN: the first matching lane, or the number of lanes (R271). -/
def execLscan (e : Dwe) (rd ra rb : Reg) (cmp width : Fin 4) (s : State) : Out :=
  .next (s.deCompare e.val rd ra rb cmp width (fun m => w64 (ctzN (512 / (8 * 2 ^ width.val)) m)))

/-- One step of a reflected CRC on one bit. -/
def crcBit (p c : Nat) : Nat := Nat.xor (c >>> 1) (if c % 2 = 1 then p else 0)
/-- A CRC over the low n bytes of a value, low byte first, no initial value and no final xor (R272). -/
def crcBytes (p : Nat) : Nat → Nat → Nat → Nat
  | 0, _, c => c
  | n + 1, v, c =>
    let c0 := Nat.xor c (v % 256)
    crcBytes p n (v >>> 8) (crcBit p (crcBit p (crcBit p (crcBit p (crcBit p (crcBit p (crcBit p (crcBit p c0))))))))

/-- CRC32C over 1, 2, 4 or 8 bytes of rb (R272). -/
def execCrc32c (e : Dwe) (rd ra rb : Reg) (n : Fin 4) (s : State) : Out :=
  .next (s.deAlu e.val rd [ra, rb] 2 0 (fun g =>
    w64 (crcBytes 0x82F63B78 (2 ^ n.val) (g.getG rb).toNat ((g.getG ra).toNat % 2 ^ 32))))

/-- CRC64 (ECMA-182, reflected) over 1, 2, 4 or 8 bytes of rb (R272). -/
def execCrc64 (e : Dwe) (rd ra rb : Reg) (n : Fin 4) (s : State) : Out :=
  .next (s.deAlu e.val rd [ra, rb] 2 0 (fun g => w64 (crcBytes 0xC96C5795D7870F42 (2 ^ n.val) (g.getG rb).toNat (g.getG ra).toNat)))

/-- HMIX (R272). -/
def hmix (a b : Word) : Word :=
  let x0 := a ^^^ b.rotateLeft 23
  let x1 := x0 * 0xA3B195C4E67D2F0B
  let x2 := x1 ^^^ (x1 >>> 29)
  let x3 := x2 * 0x5C27E8D14B9603A7
  x3 ^^^ (x3 >>> 32)

/-- Mix ra and rb in 4 cycles (R272). -/
def execHmix (e : Dwe) (rd ra rb : Reg) (s : State) : Out :=
  .next (s.deAlu e.val rd [ra, rb] 4 0 (fun g => hmix (g.getG ra) (g.getG rb)))

/-- Whether older stores of the engine are all performed (R273, R281). -/
def Engine.drained (g : Engine) : Bool := g.sbuf.isEmpty && g.sysOut.isEmpty

/-- AADD and ACAS (R273): with the store buffer drained, one BATOMIC to the home; the engine waits in M. -/
def State.deAtomic (s : State) (e : Nat) (rd ra rb : Reg) (w32 cas : Bool) : State :=
  s.deRun e [ra, rb, rd] (fun s g x =>
    let ea := (g.getG ra).toNat
    let n := if w32 then 4 else 8
    if deWindow ea ≠ some 2 then s.deException e DE_ACCESS ea true
    else if ea % n ≠ 0 then s.deException e DE_ALIGN ea true
    else
      let ids := s.engineIds e
      s.deXlat e g ea true (fun g pa =>
        if !g.drained then s
        else if g.async then s.deException e DE_ASYNC (g.strmerr.toNat % 2 ^ 58)
        else if s.engineRefused e pa || !s.mainMemory pa then s.deException e DE_ACCESS ea true
        else
          let f := mkFlit .bulk (dweStop e) (dwePort e) (tileStop (s.homeOf pa)) 2 ids.2 OP_BATOMIC 1 pa
          (s.setEngine e { g.took x 1 none with mwait := some (.atomic rd w32 ea) }).send
            { f with tenant := ids.1, key := s.tenantKey ids.1.val, count := Fin.ofNat 65 n,
                     data := lineOfWords [g.getG rb, g.getG rd], detail := w64 (b01 cas + 2 * b01 w32) }))

/-- Add to system memory at its home (R273). -/
def execAadd (e : Dwe) (rd ra rb : Reg) (w32 : Bool) (s : State) : Out := .next (s.deAtomic e.val rd ra rb w32 false)
/-- Compare and swap system memory at its home (R273). -/
def execAcas (e : Dwe) (rd ra rb : Reg) (w32 : Bool) (s : State) : Out := .next (s.deAtomic e.val rd ra rb w32 true)

/-- The reply to a system load, an atomic or a JOIN reaches the engine (R269, R273, R279), or that to the read of its task's context entry (tag 2,
R78) or of a page-table line (tag 3, R257): a context or a line no longer awaited is dropped; a reply to an abandoned load is discarded (R300). -/
def execDeSystemReply (f : Flit) (s : State) : Out :=
  let s := s.taken f
  let e := (dweAt? f).getD 0
  let g := s.engine e
  let done (rd : Reg) (v : Word) : Engine := ({ (g.putG rd v) with mwait := none }.took (dweEdge e (max g.free s.now)) (dweCycle e) none).next
  .next (if (dweAt? f).isNone then s
  else if f.tag = 2 then
    if g.ctxDue ∧ (g.task.bind (fun d => s.ctxAddr (dTenant d).val)) = some f.addr.toNat then (s.setEngine e { g with ctxDue := false, ctx := some (contextOf f (replyFails f)) }).maybeEnd e else s
  else if f.tag = 3 then
    if g.walkDue = some (f.addr.toNat / 64) then s.setEngine e { g with walkDue := none, walk := WalkLine.of f (replyFails f) :: g.walk } else s
  else match g.mwait with
  | none => s
  | some (.load rd n sx pa ea) =>
    if f.tag ≠ 0 then s
    else if replyFails f then (s.setEngine e { g with mwait := none }).deException e DE_ACCESS ea
    else if f.poison then (s.setEngine e { g with mwait := none }).deException e DE_POISON ea
    else
      let v := if f.op = OP_IODATA then f.data.toNat else f.data.toNat >>> (8 * (pa % 64))
      s.deEnd e (done rd (extendTo n v sx))
  | some (.atomic rd w32 ea) =>
    if f.tag ≠ 1 then s
    else if replyFails f then (s.setEngine e { g with mwait := none }).deException e DE_ACCESS ea true
    else if f.poison then (s.setEngine e { g with mwait := none }).deException e DE_POISON ea true
    else s.deEnd e (done rd (extendTo (if w32 then 4 else 8) (lineWord f.data 0).toNat true))
  | some (.join rd add _ ea) =>
    if f.tag ≠ 1 then s
    else if replyFails f then (s.setEngine e { g with mwait := none }).deException e DE_ACCESS ea true
    else if f.poison then (s.setEngine e { g with mwait := none }).deException e DE_POISON ea true
    else
      let old := lineWord f.data 0
      let s1 := s.deEnd e (done rd old)
      if add ≠ 0 ∧ old + add = 0 then
        let ids := s.engineIds e
        let r := s1.newCompl e (setLineWord 0 2 (w64 ea)) 0 (some g.ctx) ids.1 ids.2 .cont true false
        r.1.startCont e r.2 s1.now
      else s1)

/-- Read a system line into a DMEM line (R274). -/
def execLget (e : Dwe) (ra rb : Reg) (s : State) : Out := .next (s.deStream e.val 0 ra rb)
/-- Write a DMEM line to a system line (R274). -/
def execLput (e : Dwe) (ra rb : Reg) (s : State) : Out := .next (s.deStream e.val 1 ra rb)
/-- Allocate a system line as zeros (R274). -/
def execLblank (e : Dwe) (ra : Reg) (s : State) : Out := .next (s.deStream e.val 2 0 ra)

/-- A stream entry completes on its data or BACK (R275, R277). -/
def execStreamEntryComplete (f : Flit) (s : State) : Out :=
  let s := s.taken f
  .next (match dweAt? f with
  | some e => s.streamReply e f
  | none => s)

/-- SYNC n (R276): done once at most n entries are outstanding; n above 32 raises ILLEGAL, a pending failure ASYNC (R277). -/
def execSync (e : Dwe) (n : Fin 64) (s : State) : Out :=
  .next (s.deRun e.val [] (fun s g x =>
    if 32 < n.val then s.deException e.val DE_ILLEGAL (wordI 0x1B 0 0 n.val)
    else if n.val < g.stream.length then s
    else if g.async then s.deException e.val DE_ASYNC (g.strmerr.toNat % 2 ^ 58)
    else s.deEnd e.val (g.took x 1 none).next))

/-- TSPAWN (R279): the DMEM descriptor is checked and offered to the engine's own deque, whose lane it reaches 2 mclk after it enters M (R323); an
operation of its class ahead of it in the lane delays it (R319). -/
def execTspawn (e : Dwe) (rd ra : Reg) (s : State) : Out :=
  .next (s.deRun e.val [ra] (fun s g x =>
    let ea := (g.getG ra).toNat
    if 0 < g.level then s.deException e.val DE_ILLEGAL (wordA 0x06 rd ra 0 0)
    else if deWindow ea ≠ some 0 then s.deException e.val DE_ACCESS ea
    else if ea % 64 ≠ 0 then s.deException e.val DE_ALIGN ea
    else
      let off := deOffset 0 ea
      if g.lgetOn off 64 then s
      else if g.dmemPoison off 64 then s.deException e.val DE_POISON ea
      else
        let d : Line := BitVec.ofNat 512 (memValue g.dmem off 64)
        let ids := s.engineIds e.val
        let r := (s.laneOwner e.val ids.2.val).submit e.val d ids.1 ids.2 (x + 3)
        r.1.deEnd e.val (((g.putG rd (w64 r.2.1)).took x (8 + (r.2.2 - (x + 3))) none).next)))

/-- TDONE (R279): after FENCE and SYNC 0 the task ends with status ra[14:0]. -/
def execTdone (e : Dwe) (ra : Reg) (s : State) : Out :=
  .next (s.deRun e.val [ra] (fun s g x =>
    let v := (g.getG ra).toNat
    if 0 < g.level ∨ g.slot.isSome ∨ 2 ^ 15 ≤ v then s.deException e.val DE_ILLEGAL (wordA 0x06 0 ra 0 1)
    else if !g.drained || !g.stream.isEmpty then s
    else if g.async then s.deException e.val DE_ASYNC (g.strmerr.toNat % 2 ^ 58)
    else (s.deEnd e.val { g with ending := some v, free := x }).maybeEnd e.val))

/-- JOIN (R279): a 64-bit AADD on a join counter; the reply posts the continuation when the counter reaches zero. -/
def execJoin (e : Dwe) (rd ra rb : Reg) (s : State) : Out :=
  .next (s.deRun e.val [ra, rb] (fun s g x =>
    let ea := (g.getG ra).toNat
    if 0 < g.level then s.deException e.val DE_ILLEGAL (wordA 0x06 rd ra rb 2)
    else if deWindow ea ≠ some 2 then s.deException e.val DE_ACCESS ea true
    else if ea % 64 ≠ 0 then s.deException e.val DE_ALIGN ea true
    else
      let ids := s.engineIds e.val
      s.deXlat e.val g ea true (fun g pa =>
        if !g.drained then s
        else if g.async then s.deException e.val DE_ASYNC (g.strmerr.toNat % 2 ^ 58)
        else if s.engineRefused e.val pa || !s.mainMemory pa then s.deException e.val DE_ACCESS ea true
        else
          let f := mkFlit .bulk (tileStop e.val) 3 (tileStop (s.homeOf pa)) 2 ids.2 OP_BATOMIC 1 pa
          (s.setEngine e.val { g.took x 1 none with mwait := some (.join rd (g.getG rb) pa ea) }).send
            { f with tenant := ids.1, key := s.tenantKey ids.1.val, count := 8, data := lineOfWords [g.getG rb] })))

/-- WAIT (R281): the instruction after it runs once any interrupt is pending. -/
def execWait (e : Dwe) (s : State) : Out :=
  .next (s.deRun e.val [] (fun s g x => s.deEnd e.val { (g.took x 1 none).next with waiting := true }))

/-- FENCE (R281): the store buffer drains, and every atomic and stream entry has completed. -/
def execDeFence (e : Dwe) (s : State) : Out :=
  .next (s.deRun e.val [] (fun s g x =>
    if !g.drained || !g.stream.isEmpty then s
    else if g.async then s.deException e.val DE_ASYNC (g.strmerr.toNat % 2 ^ 58)
    else s.deEnd e.val (g.took x 1 none).next))

/-- IBAR (R281, R308): the store buffer drains and the next instruction is fetched again. -/
def execIbar (e : Dwe) (s : State) : Out :=
  .next (s.deRun e.val [] (fun s g x =>
    let s1 := s.sbDrainAll e.val 8
    let g1 := s1.engine e.val
    if !g1.sbuf.isEmpty then s1
    else if g1.async then s1.deException e.val DE_ASYNC (g1.strmerr.toNat % 2 ^ 58)
    else s1.deEnd e.val (g1.took x (3 + g.sbuf.length) none).next))

/-- PFLUSH (R281): the return stack and the target cache are emptied. -/
def execPflush (e : Dwe) (s : State) : Out :=
  .next (s.deRun e.val [] (fun s g x => s.deEnd e.val { (g.took x 1 none).next with rstack := [], tcache := [] }))

/-- PBAR (R281): the prediction epoch advances; from 15 to 0 it also performs PFLUSH. -/
def execPbar (e : Dwe) (s : State) : Out :=
  .next (s.deRun e.val [] (fun s g x =>
    let g1 := { (g.took x 1 none).next with pred := (g.pred + 1) % 16 }
    s.deEnd e.val (if g.pred = 15 then { g1 with rstack := [], tcache := [] } else g1)))

/-- IRET (R305, R306): the level returned to is restored, or a qualifying interrupt is tail-chained. In task context or in
a delay slot it raises ILLEGAL. -/
def execIret (e : Dwe) (s : State) : Out :=
  .next (s.deRun e.val [] (fun s g x =>
    match g.shadows with
    | [] => s.deException e.val DE_ILLEGAL (wordA 0x07 0 0 0 5)
    | sh :: rest =>
      if g.slot.isSome then s.deException e.val DE_ILLEGAL (wordA 0x07 0 0 0 5)
      else
        let ie := bitN sh.esave.toNat 0
        let run := match rest with
          | r :: _ => r.pri
          | [] => 0xFF
        match s.sampled e.val ie rest.length run with
        | some code =>
          (s.deEvent e.val 0x0B).deEnd e.val { g with
            shadows := { sh with pri := (g.prio code).2 } :: rest, cause := w64 (2 ^ 63 + code), pc := g.evec + 16 * code,
            free := x + 7 }
        | none =>
          s.deEnd e.val { g with
            shadows := rest, ie := ie, pc := sh.epc, st := if rest.isEmpty then (if g.task.isSome then .task else .idle) else .handler,
            free := x + 7, hazard := none }))

/-- BREAK (R280, R281, R289): an exception, or a halt for debug while DE_CTL.DEBUG is 1. -/
def execBrk (e : Dwe) (s : State) : Out :=
  .next (s.deRun e.val [] (fun s g x =>
    if g.slot.isSome then s.deException e.val DE_ILLEGAL (wordA 0x07 0 0 0 6)
    else if s.flag (enginePg e.val) R.DE_CTL_DEBUG then
      s.setEngine e.val { g with st := .halted, haltCause := DE_BREAK, haltPc := g.pc, free := x + 1 }
    else s.deException e.val DE_BREAK 0))

/-- The class of an engine's router target (R372, R376). -/
def State.engineTargetClass (s : State) (e : Nat) : Cls :=
  Fin.ofNat 16 (tctClass (s.tctEntry (s.fld (targetBase (6144 + e)) R.TGT_CTL_TENANT)))

/-- A claim (detail 1) or EOI (detail 2) notice of an engine to the router (R376, R377). -/
def State.engineNotice (s : State) (e src detail : Nat) : State :=
  s.send { mkFlit .req (dweStop e) (dwePort e) irtStop 2 (s.engineTargetClass e) OP_WRIO 2 (targetBase (6144 + e)) with
    data := lineOfWords [w64 src], detail := w64 detail }

/-- A read of DE_CLAIM (R288, R376): the delivery held and not yet claimed, else 0x7FFF; in task context ILLEGAL. -/
def State.deClaim (s : State) (e : Nat) (rd : Reg) : State :=
  s.deRun e [] (fun s g x =>
    if g.level = 0 then s.deException e DE_ILLEGAL (wordI 0x19 rd 0 0x00C)
    else match g.deliv with
      | some d =>
        if d.claimed then s.deEnd e (((g.putG rd 0x7FFF).took x 1 none).next)
        else (s.deEnd e ((({ g with deliv := some { d with claimed := true } }.putG rd (w64 d.src.val)).took x 1 none).next)).engineNotice
          e d.src.val 1
      | none => s.deEnd e (((g.putG rd 0x7FFF).took x 1 none).next))

/-- A write of DE_EOI (R288, R377). -/
def State.deEoi (s : State) (e : Nat) (ra : Reg) : State :=
  s.deRun e [ra] (fun s g x =>
    if g.level = 0 then s.deException e DE_ILLEGAL (wordI 0x1A 0 ra 0x00D)
    else (s.deEnd e (g.took x 1 none).next).engineNotice e ((g.getG ra).toNat % 2 ^ 15) 2)

/-- SRD (R282, R288). The Ward's control registers 0x100 to 0x1FF exist (R290); the manual does not say what they hold: a free value. -/
def execSrd (e : Dwe) (rd : Reg) (cr : BitVec 12) (s : State) : Out :=
  .next (if cr = 0x00C then s.deClaim e.val rd
  else s.deRun e.val [] (fun s g x =>
    if e.val = 96 ∧ 0x100 ≤ cr.toNat ∧ cr.toNat ≤ 0x1FF then
      let y := s.draw 64
      y.2.deEnd e.val (((g.putG rd y.1).took x 1 none).next)
    else match s.deRead e.val cr.toNat with
    | none => s.deException e.val DE_ILLEGAL (wordI 0x19 rd 0 cr.toNat)
    | some v => s.deEnd e.val (((g.putG rd v).took x 1 none).next)))

/-- SWR (R282, R288). A write of the Ward's control registers 0x100 to 0x1FF (R290) changes nothing the manual describes (log entry 112). -/
def execSwr (e : Dwe) (ra : Reg) (cr : BitVec 12) (s : State) : Out :=
  .next (if cr = 0x00D then s.deEoi e.val ra
  else s.deRun e.val [ra] (fun s g x =>
    if e.val = 96 ∧ 0x100 ≤ cr.toNat ∧ cr.toNat ≤ 0x1FF then s.deEnd e.val (g.took x 1 none).next
    else match g.deWrite cr.toNat (g.getG ra) with
    | none => s.deException e.val DE_ILLEGAL (wordI 0x1A 0 ra cr.toNat)
    | some g1 => s.deEnd e.val (g1.took x 1 none).next))

/-- Branch when ra is zero (R263). -/
def execBeq (e : Dwe) (ra : Reg) (a p : Bool) (disp : BitVec 15) (s : State) : Out :=
  .next (s.deBranch e.val ra a p disp (fun v => decide (v = 0)) (wordB a p 0 ra disp))

/-- Branch when ra is not zero (R263). -/
def execBne (e : Dwe) (ra : Reg) (a p : Bool) (disp : BitVec 15) (s : State) : Out :=
  .next (s.deBranch e.val ra a p disp (fun v => decide (v ≠ 0)) (wordB a p 1 ra disp))

/-- Branch when ra is negative (R263). -/
def execBlt (e : Dwe) (ra : Reg) (a p : Bool) (disp : BitVec 15) (s : State) : Out :=
  .next (s.deBranch e.val ra a p disp (fun v => v.slt 0) (wordB a p 2 ra disp))

/-- Branch when ra is not negative (R263). -/
def execBge (e : Dwe) (ra : Reg) (a p : Bool) (disp : BitVec 15) (s : State) : Out :=
  .next (s.deBranch e.val ra a p disp (fun v => !v.slt 0) (wordB a p 3 ra disp))

/-- Branch when ra is positive (R263). -/
def execBgt (e : Dwe) (ra : Reg) (a p : Bool) (disp : BitVec 15) (s : State) : Out :=
  .next (s.deBranch e.val ra a p disp (fun v => (0 : Word).slt v) (wordB a p 4 ra disp))

/-- Branch when ra is not positive (R263). -/
def execBle (e : Dwe) (ra : Reg) (a p : Bool) (disp : BitVec 15) (s : State) : Out :=
  .next (s.deBranch e.val ra a p disp (fun v => !(0 : Word).slt v) (wordB a p 5 ra disp))

/-- Branch when ra is odd (R263). -/
def execBodd (e : Dwe) (ra : Reg) (a p : Bool) (disp : BitVec 15) (s : State) : Out :=
  .next (s.deBranch e.val ra a p disp (fun v => v.getLsbD 0) (wordB a p 6 ra disp))

/-- Branch when ra is even (R263). -/
def execBeven (e : Dwe) (ra : Reg) (a p : Bool) (disp : BitVec 15) (s : State) : Out :=
  .next (s.deBranch e.val ra a p disp (fun v => !v.getLsbD 0) (wordB a p 7 ra disp))

/-- J and JL (R262, R264): never mispredicted. -/
def State.deJumpDirect (s : State) (e : Nat) (a : Bool) (disp : BitVec 25) (link : Bool) : State :=
  s.deRun e [] (fun s g x =>
    if g.slot.isSome then s.deException e DE_ILLEGAL (wordJ (if link then 0x39 else 0x38) a disp)
    else
      let target := (w64 g.pc + (disp.signExtend 64 <<< 2)).toNat
      let g1 := if link then g.push (g.pc + 8) else g
      s.deJump e g1 x 1 a target (if link then 31 else 0))

/-- Jump to PC + 4 x disp (R262). -/
def execJ (e : Dwe) (a : Bool) (disp : BitVec 25) (s : State) : Out := .next (s.deJumpDirect e.val a disp false)
/-- Jump and link PC + 8 into g31 (R262, R264). -/
def execJl (e : Dwe) (a : Bool) (disp : BitVec 25) (s : State) : Out := .next (s.deJumpDirect e.val a disp true)
/-- Jump to ra (R262, R264). -/
def execJr (e : Dwe) (ra : Reg) (a : Bool) (s : State) : Out :=
  .next (s.deJumpReg e.val 0 ra a false (wordA 0x08 0 ra 0 (b01 a)))
/-- Jump to ra and link PC + 8 into rd (R262, R264); rd equal to ra raises ILLEGAL (R260). -/
def execJlr (e : Dwe) (rd ra : Reg) (a : Bool) (s : State) : Out :=
  .next (s.deJumpReg e.val rd ra a true (wordA 0x09 rd ra 0 (b01 a)))

/-- The oldest store-buffer entry drains (R297). -/
def execStoreBufferDrain (e : Dwe) (s : State) : Out := .next (s.sbDrain e.val)

/-- A drained system store is answered (R283, R297): an error is recorded in DE_STRMERR with SRC = 1. -/
def execSystemStoreReply (f : Flit) (s : State) : Out :=
  let s := s.taken f
  let e := (dweAt? f).getD 0
  let g := s.engine e
  .next (if (dweAt? f).isNone then s else match takeFirst (fun b : SbEntry => b.addr == f.addr.toNat) g.sysOut with
  | none => s
  | some (b, rest) =>
    let g1 := { g with sysOut := rest }
    (s.setEngine e (if replyFails f then g1.strmFail 1 b.ea else g1)).maybeEnd e)

/-- An exception in task context ends the task with status 0x8100 + cause (R280). -/
def execTaskException (e : Tile) (cause : Fin 9) (tval : Word) (s : State) : Out :=
  let g := s.engine e.val
  .next (if g.level = 0 ∧ g.task.isSome ∧ g.ending.isNone ∧ cause ≠ 0 then s.deException e.val cause.val tval.toNat else s)

/-- An exception in handler context halts the engine with record 0x6001 (R286). -/
def execEngineHalt (e : Dwe) (cause : Fin 9) (tval : Word) (s : State) : Out :=
  .next (if 0 < (s.engine e.val).level ∧ cause ≠ 0 then s.deException e.val cause.val tval.toNat else s)

/-- An uncorrectable IMEM word is not executed: a deferred record of family 0x6 and POISON with DE_TVAL = PC (R303). The
manual gives the record no code within its family. -/
def execImemPoisonFetch (e : Dwe) (s : State) : Out :=
  let g := s.engine e.val
  .next (if !s.deRuns e.val then s
  else
    let r := s.draw 12
    let s1 := if e.val = 96 then r.2
      else r.2.record (enginePg e.val) 1 (0x6000 + r.1.toNat) g.pc 0 ((g.taskClass.map s.secureClass).getD false)
    s1.deException e.val DE_POISON g.pc)

/-- A sampled interrupt is entered, or takes over the entry in progress (R298-R302): the most urgent that qualifies, on an engine that runs or is
idle. -/
def execDeInterruptEntry (e : Dwe) (s : State) : Out :=
  let g := s.engine e.val
  .next (if g.st = .halted ∨ g.st = .scrub ∨ (g.ending.isSome ∧ g.level = 0) then s else s.deSample e.val)

/-- The timebase reaches DE_TIMECMP: TIMER is pending (R284). -/
def execDeTimer (e : Dwe) (s : State) : Out := .next (s.toAclk (s.engine e.val).timecmp.toNat)

/-- A read of DE_CLAIM (R376). -/
def execDeClaim (e : Dwe) (rd : Reg) (s : State) : Out := .next (s.deClaim e.val rd)
/-- A write of DE_EOI (R377). -/
def execDeEoi (e : Dwe) (ra : Reg) (s : State) : Out := .next (s.deEoi e.val ra)

/-- The answer of an outside access to an engine's window: to the request that stands at the engine's port, or to a requester that
reached the window without one (R258, R315). -/
def State.windowAnswer (s : State) (p : PageReq) (data : Line) (err : Bool) : State :=
  let write := p.kind.writes
  let waits := match engineArea? p.addr.toNat with
    | some (e, _, _) => (Tab.get [] s.mesh.ingress (8 * tileStop e + 3)).find? (fun f =>
        f.plane == .req && f.addr == p.addr && f.cls == p.who.cls && (f.op == OP_RDIO || f.op == OP_WRIO))
    | none => none
  match waits with
  | some f => (s.taken f).send { replyTo f .rsp (if err then OP_ERROR else if write then OP_ACK else OP_IODATA) with data := data }
  | none => s.respond ⟨p.who, p.tag, p.addr, write, data, err, s.now⟩

/-- An outside access to an engine's IMEM or DMEM window (R258, R315): by the Ward or a hart request with privilege field 3,
of 1, 2, 4 or 8 bytes aligned, or a whole line (`line` is its data); not by the normal world while the engine runs a secure
task, nor to a line that an LGET or a scrub holds. -/
def execEngineMemoryAccess (p : PageReq) (line : Line) (s : State) : Out :=
  let a := p.addr.toNat
  let write := p.kind.writes
  .next (match engineArea? a with
  | none => s.windowAnswer p 0 true
  | some (_, .taskDoorbell, _) => s.windowAnswer p 0 true
  | some (e, area, off) =>
    let g := s.engine e
    let allowed := p.who.path == .ward || (p.who.path == .hart && p.who.priv.val == 3)
    let sizeOk := [1, 2, 4, 8, 64].contains p.size && decide (off % p.size = 0) && (p.kind == .load || p.kind == .store)
    let secure := ((g.taskClass.map s.secureClass).getD false) && p.who.path != .ward
    if !allowed || !sizeOk then s.windowAnswer p 0 true
    else if secure then (s.accessFault (enginePg e) FAULT_LOCKED p.who 0 write).windowAnswer p 0 true
    else if area = .dmem ∧ (g.lgetOn off p.size || g.scrubEnd.isSome) then s
    else
      let m := if area = .dmem then g.dmem else g.imem
      if !write then s.windowAnswer p (BitVec.ofNat 512 (memValue m off p.size)) false
      else
        let bs := if p.size = 64 then leBytes 64 line.toNat else leBytes p.size p.data.toNat
        if area = .dmem then
          let g1 := { g with dmem := memPut g.dmem off bs }
          let g2 := if p.size = 64 then { g1 with dpoison := g1.dpoison.filter (fun w => w / 8 != off / 64) }
            else if p.size = 8 then { g1 with dpoison := g1.dpoison.filter (· != off / 8) } else g1
          (s.setEngine e g2).windowAnswer p 0 false
        else if p.who.path ≠ .ward ∧ !s.imemWriteOk e off bs then
          (s.accessFault (enginePg e) FAULT_LOCKED p.who 0 true).windowAnswer p 0 true
        else (s.setEngine e { g with imem := memPut g.imem off bs }).windowAnswer p 0 false)

/-- A due DMEM scrub begins (R309): on a class change, after a secure task, after a reset. -/
def execDmemScrub (e : Tile) (s : State) : Out :=
  let g := s.engine e.val
  .next (if g.scrubDue && g.scrubEnd.isNone then s.startScrub e.val else s)

/-- A DMEM scrub ends (R309, R310); that of a domain reset ends with the reset (R484). -/
def execScrubDone (e : Tile) (s : State) : Out :=
  .next (if s.flag (enginePg e.val) R.PG_RESET_ACTIVE then s else s.endScrub e.val)

/-- An uncorrected engine error halts the engine with record 0x6002 and fails its running task (R337); with RAS_POLICY.DE_RETIRE
faults since cold reset the Ward retires the engine, unless it is the last (R437). -/
def State.engineFault (s : State) (e : Nat) : State :=
  let g := s.engine e
  let s1 := s.haltEngine e 0 (g.slot.getD g.pc) 0x6002
  if decide (s1.fld (rasPg 0) R.RAS_POLICY_DE_RETIRE ≤ (s1.engine e).faults) && !s1.isRetired R.RAS_DE_RET e &&
      decide (s1.retiredCount R.RAS_DE_RET 2 < 95) then s1.retireEngine e
  else s1

/-- ENGINE_FAULT (R337). -/
def execEngineFault (e : Tile) (s : State) : Out := .next (if (s.engine e.val).st = .halted then s else s.engineFault e.val)

end Sys2Proof.Machine
end

