-- ==== Sys2Proof/Machine/FabPort.lean ====
section
/-! DEFINITION. A fabric port towards its mesh stop (13 R388-R397, R404, R405, R408-R410): its links and windows, the requests that
reach it over the mesh and what answers them, and the replies to the requests its devices make. -/

namespace Sys2Proof.Machine

def State.port (s : State) (p : Nat) : Port := Tab.get {} s.ports p
def State.setPort (s : State) (p : Nat) (v : Port) : State := { s with ports := Tab.set {} s.ports p v }
def State.link (s : State) (p l : Nat) : Link := Tab.get {} s.links (4 * p + l)
def State.setLink (s : State) (p l : Nat) (v : Link) : State := { s with links := Tab.set {} s.links (4 * p + l) v }

def State.lnkState (s : State) (p l : Nat) : Nat := s.fld (linkPg p l) R.FP_LNK_STATUS_STATE
def State.setLnkState (s : State) (p l v : Nat) : State := s.setFld (linkPg p l) R.FP_LNK_STATUS_STATE v
/-- Class of a link (R391). -/
def State.lnkClass (s : State) (p l : Nat) : Cls := Fin.ofNat 16 (s.fld (linkPg p l) R.FP_LNK_CTL_CLASS)

/-- Raise cause i of port p (R408). -/
def State.fabSource (s : State) (p i : Nat) : State := s.pulse (1664 + 8 * p + i)

/-- Word 2 of a record of family 0x8 (R414). -/
def fabDetail (l rid status : Nat) : Nat := l <<< 62 + rid % 65536 <<< 32 + status % 2 ^ 32

/-- A record of port p about a link (R409, R414). -/
def State.fabRecord (s : State) (p l sev code pa rid status : Nat) : State :=
  s.record (portPg p) sev code (if pa < 2 ^ 52 then pa else 0) (fabDetail l rid status) (s.linkSecure p l)

/-- An event of the port's counters, in the class of a link (R511). -/
def State.fabCount (s : State) (p l ev : Nat) : State := s.count (portPg p) ev (some (s.lnkClass p l).val) (2 ^ l)

/-- The windows of a link. -/
def State.linkWindows (s : State) (p l : Nat) : List Nat :=
  (List.range 16).filter (fun w => s.flag (portPg p) (R.FP_WIN_BASE_EN.nth w) && s.fld (portPg p) (R.FP_WIN_BASE_LINK.nth w) == l)

/-- Set a flag in every window of a link (R404, R405). -/
def State.markWindows (s : State) (p l : Nat) (f : Field) : State :=
  (s.linkWindows p l).foldl (fun s w => s.setFld (portPg p) (f.nth w) 1) s

/-- Requester ID of the root port of link l of port p (R392). -/
def rootRid (p l : Nat) : Nat := (128 * (p % 2)) * 256 + 8 * l

/-- The link and partner function a requester ID names (R392, R402). -/
def State.ridLink (s : State) (p rid : Nat) : Option Nat :=
  (List.range 4).find? (fun l => (s.link p l).partner.any (fun x => x.functions.any (fun f => f.toNat == rid)))

/-- The link behind which port p's MMIO address lies: that of the bridge window that claims it (R393). -/
def State.barAt (s : State) (p pa : Nat) : Option (Nat × Bar) :=
  (List.range 4).findSome? (fun l => ((s.link p l).bars.find? (fun b => decide (b.base ≤ pa) && decide (pa < b.base + b.size))).map
    (fun b => (l, b)))

/-- Lanes of a link's negotiated width, and GT/s of its rate (R411). -/
def State.lnkLanes (s : State) (p l : Nat) : Nat := 2 ^ (s.fld (linkPg p l) R.FP_LNK_STATUS_WIDTH - 1)
def State.lnkRate (s : State) (p l : Nat) : Nat := 8 * 2 ^ (s.fld (linkPg p l) R.FP_LNK_STATUS_RATE - 1)
/-- One flit time of a link in twelfths of a ns (R178). -/
def State.lnkFlit (s : State) (p l : Nat) : Nat := flitTime (s.lnkLanes p l) (s.lnkRate p l)

/-- The mclk at which a message that stands at the port's stop now leaves the pins (R171, R178). -/
def State.pinsOut (s : State) (p l : Nat) : Nat := ceilDiv (flitBoundary (s.lnkFlit p l) (5 * (s.now + 3 + 10)) + 48) 5
/-- The mclk at which what reaches the pins now stands at the port's stop (R171, R178). -/
def State.stopIn (s : State) (p l : Nat) : Nat := inboundAtStop (s.lnkFlit p l) (5 * s.now)

/-- Hand a message to a link (R178). -/
def State.handOut (s : State) (p : Nat) (m : FabMsg) : State :=
  (s.setPort p { s.port p with tx := (s.port p).tx ++ [m] }).fabCount p m.link.val 0x01

-- outbound requests

/-- Whether a message of the mesh reads. -/
def fabReads (f : Flit) : Bool :=
  if f.plane = .bulk then f.op == OP_BRD else f.op == OP_RD || f.op == OP_RDIO || f.op == OP_RDOWN

/-- The reply to an outbound request: data, or none for a write (R147, R152). -/
def fabReply (f : Flit) (data : Line) (poison : Bool) : Flit :=
  if fabReads f then
    if f.plane = .bulk then { replyTo f .bulk OP_BDATA with data := data, poison := poison }
    else { replyTo f .rsp (if f.op = OP_RDIO then OP_IODATA else OP_DATA) with data := data, poison := poison }
  else sliceReply f none 0

/-- Answer a message from the port's stop, n mclk from now. -/
def State.fabAnswer (s : State) (n : Nat) (r : Flit) : State := s.sendAt (s.now + n) r

/-- Outbound non-posted requests a link may have outstanding (R388). DESIGN CHOICE: the port's 2,048 are divided evenly among the links of its
bifurcation, so that no link's class waits for another's (R28, log entry 114). -/
def State.fabLimit (s : State) (p : Nat) : Nat :=
  match s.fld (portPg p) R.FP_CTL_BIFUR with
  | 0 => 2048
  | 1 => 1024
  | _ => 512

/-- Send a request to a link's partner (R391, R393): it stays until its completion comes. One above the link's limit stays in its ingress
queue (R388). -/
def State.fabSend (s : State) (p l : Nat) (f : Flit) : State :=
  let v := s.link p l
  if s.fabLimit p ≤ v.outstanding.length then s.arrive f
  else
  let s1 := s.setLink p l { v with outstanding := v.outstanding ++ [⟨f, s.pinsOut p l⟩] }
  (s1.handOut p ⟨Fin.ofNat 4 l, .request, 0, f.tag.val, 0, f.addr.toNat, f.data⟩).fabCount p l 0x03

/-- A posted write is answered when its flit is queued for transmit (R393). -/
def State.fabPost (s : State) (p l : Nat) (f : Flit) : State :=
  ((s.handOut p ⟨Fin.ofNat 4 l, .posted, 0, f.tag.val, 0, f.addr.toNat, f.data⟩).fabCount p l 0x03).fabAnswer (3 + 10 + 3) (fabReply f 0 false)

/-- The port refuses a message: the mclk after its crossing, and the crossing back (R171, R391). -/
def State.fabRefuse (s : State) (f : Flit) : State := s.fabAnswer (3 + 1 + 3) (errorReply f)

/-- A message for fabric memory (R391, R394, R404, R405): class and window checked; a fill of a held or departed window is refused,
a writeback to a departed one dropped with a record. -/
def State.fabMem (s : State) (p : Nat) (f : Flit) : State :=
  match s.windowAt f.addr.toNat with
  | none => s.fabRefuse f
  | some (q, w) =>
    let l := s.fld (portPg p) (R.FP_WIN_BASE_LINK.nth w)
    let gone := s.windowGone f.addr.toNat
    if q ≠ p then s.fabRefuse f
    else if gone && !fabReads f then
      (s.fabRecord p l 2 0x8021 f.addr.toNat 0 0).fabAnswer (3 + 1 + 3) (fabReply f 0 false)
    else if gone || f.cls != s.lnkClass p l || (fabReads f && s.windowHold f.addr.toNat) then s.fabRefuse f
    else s.fabSend p l f

/-- A message for fabric MMIO (R391, R393, R404, R405). -/
def State.fabMmio (s : State) (p : Nat) (f : Flit) : State :=
  match s.barAt p f.addr.toNat with
  | none => s.fabRefuse f
  | some (l, _) =>
    if s.lnkState p l ≠ LNK_UP ∨ f.cls ≠ s.lnkClass p l then s.fabRefuse f
    else if fabReads f then s.fabSend p l f
    else s.fabPost p l f

/-- A configuration access (R392). What a root port's own configuration space reads as is not given: a free value. -/
def State.fabConfig (s : State) (p : Nat) (f : Flit) : State :=
  let a := f.addr.toNat
  let rid := bits a 27 12
  let n := f.count.val
  let ward := f.src.val == wardStop && f.sport == 2
  let m := ward || (f.sport == 1 && (stopTile? f.src.val).isSome && f.priv.val == 3)
  let shape := (n == 1 || n == 2 || n == 4) && a % n == 0 && (f.op == OP_RDIO || f.op == OP_WRIO) && f.plane == .req
  let root := (List.range 4).find? (fun l => rootRid p l == rid)
  let link := match root with
    | some l => some l
    | none => s.ridLink p rid
  let sec := link.any (fun l => s.linkSecure p l)
  if !shape || !m || (sec && !ward) then s.fabRefuse f
  else if root.isSome then
    if f.op = OP_RDIO then
      let x := s.draw 64
      x.2.fabAnswer (3 + 10 + 3) (fabReply f (lineOfWords [w64 (x.1.toNat % 2 ^ (8 * n))]) false)
    else s.fabAnswer (3 + 10 + 3) (fabReply f 0 false)
  else match link with
    | none => s.fabAnswer (3 + 10 + 3) (fabReply f (lineOfWords [w64 (2 ^ (8 * n) - 1)]) false)
    | some l =>
      if s.lnkState p l = LNK_UP ∨ s.lnkState p l = LNK_HOLD then s.fabSend p l { f with cls := s.lnkClass p l }
      else s.fabAnswer (3 + 10 + 3) (fabReply f (lineOfWords [w64 (2 ^ (8 * n) - 1)]) false)

/-- The link of port p behind which a request's address lies (R392-R394). -/
def State.fabLinkOf (s : State) (p : Nat) (f : Flit) : Option Nat :=
  let a := f.addr.toNat
  match region a with
  | .fabricMem => (s.windowAt a).map (fun x => s.fld (portPg p) (R.FP_WIN_BASE_LINK.nth x.2))
  | .fabricMmio => (s.barAt p a).map Prod.fst
  | .ecam => s.ridLink p (bits a 27 12)
  | _ => none

/-- A request reaches port p over the mesh (R391-R394). -/
def State.fabRequest (s : State) (p : Nat) (f : Flit) : State :=
  match region f.addr.toNat with
    | .fabricMem => s.fabMem p f
    | .fabricMmio => s.fabMmio p f
    | .ecam => s.fabConfig p f
    | _ => s.fabRefuse f

-- replies to the requests of devices

/-- Completions of a link's inbound requests leave in order: a line waits for the earlier lines of its request (R396). A poisoned
or failed line completes with its status; a posted write has no completion. -/
def State.inboundFlush (s : State) (p l : Nat) : Nat → State
  | 0 => s
  | n + 1 =>
    let v := s.link p l
    let ready (w : InboundWork) : Bool :=
      w.got.isSome && !v.inbound.any (fun o => o.req == w.req && decide (o.pos < w.pos) && o.got.isNone)
    match takeFirst ready v.inbound with
    | none => s
    | some (w, rest) =>
      let s1 := s.setLink p l { v with inbound := rest }
      match w.got with
      | some (st, d) =>
        let m : FabMsg := ⟨Fin.ofNat 4 l, .completion, w.req.rid.toNat, w.req.tag, st, w.req.addr.toNat + w.pos, d⟩
        (if w.req.write then s1 else s1.handOut p m).inboundFlush p l n
      | none => s1

/-- A reply to an inbound request reaches the port (R396, R397, R399): its line's data, or ERROR as a failed completion; the response
of a back-invalidate snoop goes to the device, or nowhere when the partner has departed (R405). -/
def State.fabReplyIn (s : State) (p : Nat) (f : Flit) : State :=
  if f.op = OP_SNPRSP ∨ f.op = OP_SNPDATA then
    match s.windowAt f.addr.toNat with
    | some (_, w) =>
      let l := s.fld (portPg p) (R.FP_WIN_BASE_LINK.nth w)
      if s.lnkState p l = LNK_GONE then s
      else s.handOut p ⟨Fin.ofNat 4 l, .bisnpResponse, 0, f.tag.val, 0, f.addr.toNat, 0⟩
    | none => s
  else match (List.range 4).find? (fun l => (s.link p l).inbound.any (fun w => w.tag == f.tag.val)) with
    | none => s
    | some l =>
      let v := s.link p l
      let st := if f.op = OP_ERROR then 1 else if f.poison then 3 else 0
      let s1 := s.setLink p l { v with inbound := mapFirst (fun w => w.tag == f.tag.val) (fun w => { w with got := some (st, f.data) }) v.inbound }
      s1.inboundFlush p l v.inbound.length

/-- A byte of the boot ROM alias (R31): the 128 KiB mask ROM, mapped twice. -/
def romByte (a : Nat) : Byte := Config.romByte (a % 0x20000)

/-- A read of the boot ROM alias reaches the Ward's port (R31); a write, and after bolting any requester but the Ward, is refused. -/
def State.romRequest (s : State) (f : Flit) : State :=
  let ward := f.src.val == wardStop && f.sport == 2
  if f.op = OP_RDIO ∧ region f.addr.toNat = .rom ∧ (ward ∨ !s.bolted) then
    let v := (List.range f.count.val).foldl (fun v i => v + (romByte (f.addr.toNat + i)).toNat <<< (8 * i)) 0
    s.sendAt (s.now + 1) { replyTo f .rsp OP_IODATA with data := BitVec.ofNat 512 v }
  else s.sendAt (s.now + 1) (errorReply f)

end Sys2Proof.Machine
end

