-- ==== Sys2Proof/Machine/FabIn.lean ====
section
/-! DEFINITION. The requests that devices make through a fabric port (13 R395-R401): function entries, contexts and walks read over the mesh,
service of their lines, translation and page requests; and what reaches the port's stop. -/

namespace Sys2Proof.Machine

-- function entries (R395, R403)

def State.fnFld (s : State) (p l i : Nat) (f : Field) : Nat := s.fld (linkPg p l) (f.nth i)
def State.fnReg (p l i : Nat) : Nat := linkPg p l + 0x400 + 8 * i

/-- The function entry an inbound request matches (R395): PV = 1 before PV = 0, then the lower number. -/
def State.fnMatch (s : State) (i : Inbound) : Option Nat :=
  let p := i.port.val
  let l := i.link.val
  let hit (pv : Bool) (n : Nat) : Bool :=
    s.fnFld p l n R.FP_FN_VALID == 1 && s.fnFld p l n R.FP_FN_RID == i.rid.toNat && (s.fnFld p l n R.FP_FN_PV == 1) == pv &&
      (!pv || i.pasid.any (fun x => x.toNat == s.fnFld p l n R.FP_FN_PASID))
  match (List.range 256).find? (hit true) with
  | some n => some n
  | none => (List.range 256).find? (hit false)

/-- A request of a device is answered with a failed completion (R32, R395, R396): 1 Unsupported Request, 2 completer abort. -/
def State.inboundFail (s : State) (i : Inbound) (status : Nat) : State :=
  s.handOut i.port.val ⟨i.link, .completion, i.rid.toNat, i.tag, status, i.addr.toNat, 0⟩

/-- The tenant of an entry, if its requests enter the data hierarchy (R69, R70, R395): VALID, not SUSPENDed, its class in the link's
world. LOCKED is set in the port's page where the worlds differ. -/
def State.fnAdmits (s : State) (p l n : Nat) (i : Inbound) : State × Bool :=
  let t := s.fnFld p l n R.FP_FN_TENANT
  let k := tctClass (s.tctEntry t)
  if !s.tenantOk t then (s, false)
  else if s.secureClass k != s.linkSecure p l then
    (s.accessFault (portPg p) FAULT_LOCKED ⟨.fabric, Fin.ofNat 4096 t, Fin.ofNat 16 k, 0, i.rid.toNat⟩ 0 i.write, false)
  else (s, true)

/-- The context a function entry's tenant was read with (R78, R396). -/
def State.fnCtx (s : State) (p l n : Nat) : Option Line := Tab.get none (s.link p l).ctx n

/-- A tag free among those of port p's inbound lines and its own reads. -/
def State.fabTag (s : State) (p : Nat) : Nat × State :=
  let v := s.port p
  let busy (t : Nat) : Bool := (List.range 4).any (fun l => (s.link p l).inbound.any (fun w => w.tag == t) || (s.link p l).reads.any (fun r => r.1 == t))
  let t := ((List.range 2048).find? (fun i => !busy ((v.nextTag + i) % 2048))).getD 0
  let tag := (v.nextTag + t) % 2048
  (tag, s.setPort p { v with nextTag := (tag + 1) % 2048 })

/-- A read of the port for link l leaves, at mclk `m` or later (R78, R396). -/
def State.portRead (s : State) (p l m : Nat) (what : PortRead) (f : Nat → Flit) : State :=
  let x := s.fabTag p
  let v := x.2.link p l
  (x.2.setLink p l { v with reads := v.reads ++ [(x.1, what)] }).sendAt (max s.now m) (f x.1)

/-- The context entry of a function's tenant is read, and the link's translation cache emptied (R396); a tenant that may not enter the data
hierarchy has no context (R70). -/
def State.readFnCtx (s : State) (p l n : Nat) : State :=
  let t := s.fnFld p l n R.FP_FN_TENANT
  let v := s.link p l
  let put (c : Option Line) : State := s.setLink p l { v with ctx := Tab.set none v.ctx n c, tlb := [], walk := [] }
  match s.ctxAddr t with
  | none => put none
  | some a =>
    let s1 := put (some badContext)
    if s.tenantOk t then s1.portRead p l s.now (.context n) (fun tag => s.contextRead (fpStop p) 1 tag t a) else s1

/-- Where a device's address comes: to a physical address, to a read the port needs first, or to a failure. -/
inductive PortAt where
  | pa (a : Nat) (s : State)
  | waits (s : State)
  | fail (s : State)

/-- Class of the requests of a function (R68, R395): its tenant's. -/
def State.fnClass (s : State) (p l n : Nat) : Cls := Fin.ofNat 16 (tctClass (s.tctEntry (s.fnFld p l n R.FP_FN_TENANT)))

/-- A page-table line is asked for, unless one is already (R22, R396). -/
def State.portWalk (s : State) (p l n line : Nat) : State :=
  let t := s.fnFld p l n R.FP_FN_TENANT
  if (s.link p l).reads.any (fun r => match r.2 with | .walk _ => true | _ => false) then s
  else s.portRead p l s.now (.walk line) (fun tag =>
    s.tableRead (fpStop p) 1 tag (Fin.ofNat 4096 t) (s.fnClass p l n) (s.tenantKey t) (64 * line))

/-- Whether the context of function entry n is still being read. -/
def State.ctxAwaited (s : State) (p l n : Nat) : Bool := (s.link p l).reads.any (fun r => r.2 == .context n)

/-- Translate through the link's 64-entry cache and the tenant's context (R396); the entry used last is kept first. -/
def State.fnXlat (s : State) (p l n va : Nat) (write : Bool) : PortAt :=
  let v := s.link p l
  if s.ctxAwaited p l n then .waits s
  else
    let r := s.cachedXlat 64 n v.tlb (s.fnCtx p l n) v.walk va write
    match r.1 with
    | .pa a => .pa a (s.setLink p l { v with tlb := r.2, walk := [] })
    | .fail => .fail (s.setLink p l { v with walk := [] })
    | .ask line => .waits (s.portWalk p l n line)

/-- The tenant of the function whose base register holds a fabric MMIO address, and whether it lies behind link l of port p. -/
def State.peerTenant (s : State) (pa : Nat) : Option Nat :=
  let q := bits pa 50 48
  match s.barAt q pa with
  | some (l, b) =>
    ((List.range 256).find? (fun n => s.fnFld q l n R.FP_FN_VALID == 1 && s.fnFld q l n R.FP_FN_RID == b.rid)).map
      (fun n => s.fnFld q l n R.FP_FN_TENANT)
  | none => none

/-- The line pieces of a request: first byte of each in the request, and how many bytes (R396). -/
def linePieces (addr : Nat) : Nat → Nat → Nat → List (Nat × Nat)
  | 0, _, _ => []
  | fuel + 1, pos, len =>
    if len ≤ pos then []
    else
      let n := min (64 - (addr + pos) % 64) (len - pos)
      (pos, n) :: linePieces addr fuel (pos + n) len

/-- A write's pieces carry at most 48 bytes or a whole line (R151). -/
def writePieces (write : Bool) (l : List (Nat × Nat)) : List (Nat × Nat) :=
  l.flatMap (fun x => if write && decide (48 < x.2) && x.2 != 64 then [(x.1, 48), (x.1 + 48, x.2 - 48)] else [x])

/-- One line of an inbound request enters the mesh (R178, R187, R396) at physical address `pa`, n bytes from byte `pos` of it, in the tenant's
class (R68). -/
def State.inboundLine (s : State) (i : Inbound) (tenant : Nat) (pa pos n : Nat) : State :=
  let p := i.port.val
  let l := i.link.val
  let x := s.fabTag p
  let mem := region pa == .dram || region pa == .fabricMem
  let d := if mem then (tileStop (s.homeOf pa), 2) else ioDest pa
  let op := if mem then (if !i.write then OP_RD else if n = 64 then OP_WRLINE else OP_WRPART)
    else if region pa = .doorbell then OP_DOORBELL
    else if !i.write then OP_RDIO
    else if region pa = .engine ∧ n = 64 then OP_WRLINE
    else OP_WRIO
  let v := leValue ((i.data.drop pos).take n)
  let data := if mem && n ≠ 64 then lineMerge 0 (pa % 64) n v else BitVec.ofNat 512 v
  let f := { mkFlit .req (fpStop p) 1 d.1 d.2 (Fin.ofNat 16 (tctClass (s.tctEntry tenant))) op x.1 pa with
    tenant := Fin.ofNat 4096 tenant, key := s.tenantKey tenant, count := Fin.ofNat 65 n, data := if i.write then data else 0,
    poison := i.write && i.poison, detail := w64 (b01 (mem && !i.write)) }
  let y := x.2.link p l
  (x.2.setLink p l { y with inbound := y.inbound ++ [⟨x.1, i, pos, none⟩] }).sendAt (s.stopIn p l) f

/-- Whether the part performs a device's access at a physical address (R31, R32, R396). -/
def State.inboundMay (s : State) (i : Inbound) (tenant pa : Nat) : Bool :=
  match region pa with
  | .dram => true
  | .fabricMem => true
  | .doorbell => i.write
  | .engine => (engineArea? pa).isSome
  | .fabricMmio => s.peerTenant pa == some tenant
  | _ => false

/-- The lines of a matched request go to their places, its translation known (R396). -/
def State.inboundServe (s : State) (i : Inbound) (tenant pa : Nat) : State :=
  if s.inboundMay i tenant pa then
    (writePieces i.write (linePieces pa 65 0 (min i.len 4096))).foldl (fun s x => s.inboundLine i tenant (pa + x.1) x.1 x.2) s
  else s.inboundFail i 1

/-- A request of a device is matched, translated and served, or answered with Unsupported Request (R395, R396); the Bool says whether that is
done, or a read of the port comes first. A request that crosses a 4 KiB boundary, which PCIe forbids, is refused so too. -/
def State.inboundTry (s : State) (i : Inbound) : State × Bool :=
  let p := i.port.val
  let l := i.link.val
  match s.fnMatch i with
  | none => ((s.fabRecord p l 2 0x8040 i.addr.toNat i.rid.toNat 0).inboundFail i 1, true)
  | some n =>
    let t := s.fnFld p l n R.FP_FN_TENANT
    let va := i.addr.toNat
    let a := s.fnAdmits p l n i
    if !a.2 || i.len == 0 || decide (va / 4096 ≠ (va + i.len - 1) / 4096) then (a.1.inboundFail i 1, true)
    else if i.translated then
      (if s.fnFld p l n R.FP_FN_ATS = 1 ∧ va < 2 ^ 52 then s.inboundServe i t va else s.inboundFail i 1, true)
    else if region va = .doorbell then (s.inboundServe i t va, true)
    else match s.fnXlat p l n va i.write with
      | .pa pa s => (if pa < 2 ^ 52 then s.inboundServe i t pa else s.inboundFail i 1, true)
      | .waits s => (s, false)
      | .fail s =>
        (((s.fabRecord p l 2 0x8041 va i.rid.toNat 0).faultSource (s.fnCtx p l n) t (s.fnClass p l n) (fpStop p) 1).inboundFail i 1, true)

/-- A translation request (R400): the address, the permissions R257 grants and the size of the leaf page, at most. -/
def State.atsTry (s : State) (i : Inbound) : State × Bool :=
  let p := i.port.val
  let l := i.link.val
  match s.fnMatch i with
  | none => ((s.fabRecord p l 2 0x8040 i.addr.toNat i.rid.toNat 0).inboundFail i 1, true)
  | some n =>
    let a := s.fnAdmits p l n i
    if !a.2 || s.fnFld p l n R.FP_FN_ATS != 1 then (a.1.inboundFail i 1, true)
    else if s.ctxAwaited p l n then (s, false)
    else
      let walk := (s.link p l).walk
      let rd := s.ctxTranslate (s.fnCtx p l n) walk i.addr.toNat false
      let wr := s.ctxTranslate (s.fnCtx p l n) walk i.addr.toNat true
      let ends (ro wo : Option Nat) : State × Bool :=
        let size := match rd, wr with
          | .ok _ _ _ z, _ => z
          | _, .ok _ _ _ z => z
          | _, _ => 12
        let pa := (ro.orElse (fun _ => wo)).getD 0
        ((s.setLink p l { s.link p l with walk := [] }).handOut p ⟨i.link, .atsTranslation, i.rid.toNat, i.tag, 0, pa / 4096 * 4096,
          lineOfWords [w64 (b01 ro.isSome + 2 * b01 wo.isSome), w64 size]⟩, true)
      match rd.reached, wr.reached with
      | .ask line, _ => (s.portWalk p l n line, false)
      | _, .ask line => (s.portWalk p l n line, false)
      | .pa x, .pa y => ends (some x) (some y)
      | .pa x, .fail => ends (some x) none
      | .fail, .pa y => ends none (some y)
      | .fail, .fail => ends none none

/-- A request of a device (`ats`: a translation request) takes its turn behind those of its link that wait for a read of the port. -/
def State.inboundTurn (s : State) (i : Inbound) (ats : Bool) : State :=
  let p := i.port.val
  let l := i.link.val
  let r := if (s.link p l).waits.isEmpty then (if ats then s.atsTry i else s.inboundTry i) else (s, false)
  if r.2 then r.1 else r.1.setLink p l { r.1.link p l with waits := (r.1.link p l).waits ++ [(i, ats)] }

/-- Requests of a link that waited for a read of the port go on, in their order, until one must wait again. `n` bounds them. -/
def State.inboundGo (s : State) (p l : Nat) : Nat → State
  | 0 => s
  | n + 1 =>
    match (s.link p l).waits with
    | [] => s
    | (i, ats) :: _ =>
      let r := if ats then s.atsTry i else s.inboundTry i
      if r.2 then (r.1.setLink p l { r.1.link p l with waits := (r.1.link p l).waits.drop 1 }).inboundGo p l n else r.1

/-- An inbound request reaches the port (R395, R396). -/
def State.inbound (s : State) (i : Inbound) : State :=
  let p := i.port.val
  let l := i.link.val
  let st := s.lnkState p l
  if st ≠ LNK_UP ∧ st ≠ LNK_HOLD then s
  else
    let s := (s.fabCount p l 0x02).fabCount p l 0x04
    let s := if i.poison then (s.fabRecord p l 1 0x8010 i.addr.toNat i.rid.toNat 0).fabCount p l 0x06 else s
    if st = LNK_HOLD then s.inboundFail i 1 else s.inboundTurn i false

/-- A CXL.cache D2H request (R399): those that leave no copy are untracked reads and writes, every other is refused. -/
def State.d2h (s : State) (i : Inbound) (op : D2hOp) : State :=
  let p := i.port.val
  let l := i.link.val
  if s.lnkState p l ≠ LNK_UP ∨ !(s.link p l).partner.any (fun x => x.cxl) then s
  else match op with
    | .rdCurr => s.inbound { i with write := false }
    | .wrCur | .itoMWr | .woWrInv | .woWrInvF => s.inbound { i with write := true }
    | .other => (s.fabRecord p l 2 0x8042 i.addr.toNat i.rid.toNat 0).inboundFail i 2

-- ATS and PRI (R400, R401)

/-- A translation request reaches the port (R400). -/
def State.atsRequest (s : State) (i : Inbound) : State :=
  if s.lnkState i.port.val i.link.val ≠ LNK_UP then s else s.inboundTurn i true

/-- A page-request group is answered (R401): code 0 Success, 1 Invalid Request, 15 Response Failure. -/
def State.prgResponse (s : State) (p l rid group code : Nat) : State :=
  s.handOut p ⟨Fin.ofNat 4 l, .prgResponse, rid, group, code, 0, 0⟩

/-- A page request (R401): written to the ring at TAIL, or its group answered with Response Failure. -/
def State.pageReqIn (s : State) (i : Inbound) (group : Nat) (last read : Bool) : State :=
  let p := i.port.val
  let l := i.link.val
  let pg := portPg p
  let tail := s.fld pg R.FP_PRQ_TAIL_INDEX
  let log := s.fld pg R.FP_PRQ_LOG
  let full := decide ((tail + 2 ^ 32 - s.fld pg R.FP_PRQ_HEAD_INDEX) % 2 ^ 32 = 2 ^ log)
  let fail (s : State) : State := if last then s.prgResponse p l i.rid.toNat group 15 else s
  if s.lnkState p l ≠ LNK_UP then s
  else match s.fnMatch i with
    | none => (s.fabRecord p l 2 0x8040 i.addr.toNat i.rid.toNat 0).inboundFail i 1
    | some n =>
      let a := s.fnAdmits p l n i
      if !a.2 then a.1.inboundFail i 1
      else if s.fnFld p l n R.FP_FN_PRI ≠ 1 ∨ !s.flag pg R.FP_PRQ_EN then fail s
      else if full then fail (s.setFld pg R.FP_PRQ_FULL 1)
      else
        let w0 := i.rid.toNat <<< 48 + (i.pasid.map BitVec.toNat).getD 0 <<< 28 + b01 i.pasid.isSome <<< 27 + group % 512 <<< 18 +
          b01 last <<< 17 + l <<< 15 + b01 read <<< 14 + b01 i.write <<< 13
        let w1 := i.addr.toNat / 4096 * 4096
        let pa := s.fld pg R.FP_PRQ_BASE <<< 12 + 16 * (tail % 2 ^ log)
        let x := s.fabTag p
        let f := { mkFlit .req (fpStop p) 1 (tileStop (s.homeOf pa)) 2 (s.fnClass p l n) OP_WRPART x.1 pa with
          tenant := Fin.ofNat 4096 (s.fnFld p l n R.FP_FN_TENANT), key := 0, count := 16,
          data := lineMerge 0 (pa % 64) 16 (w0 + w1 <<< 64) }
        ((x.2.sendAt (s.stopIn p l) f).setFld pg R.FP_PRQ_TAIL_INDEX (tail + 1)).fabSource p 3

/-- A reply to a read of the port's own (R78, R396): the context entry of a function's tenant, or a page-table line; what waited goes on. -/
def State.portReadIn (s : State) (p l : Nat) (what : PortRead) (f : Flit) : State :=
  let v := s.link p l
  let bad := f.plane == .rsp && f.op == OP_ERROR
  let v1 := { v with reads := v.reads.filter (fun r => r.1 != f.tag.val) }
  let v2 := match what with
    | .context n => { v1 with ctx := Tab.set none v.ctx n (some (contextOf f bad)) }
    | .walk _ => { v1 with walk := WalkLine.of f bad :: v.walk }
  (s.setLink p l v2).inboundGo p l v.waits.length

/-- A message at a port's stop (R152): a request, or the reply to one of a device's or of the port's own. A BOUNCE waits for its own command. -/
def State.portReceive (s : State) (p : Nat) (f : Flit) : State :=
  let own := (List.range 4).findSome? (fun l => ((s.link p l).reads.find? (fun r => r.1 == f.tag.val)).map (fun r => (l, r.2)))
  let reply := (f.plane == .rsp && f.op != OP_BOUNCE) || (f.plane == .bulk && f.op == OP_BDATA)
  match own with
  | some (l, w) => if reply then s.portReadIn p l w f else if f.plane = .rsp then s.arrive f else s.fabRequest p f
  | none =>
    if reply && f.plane == .rsp then s.fabReplyIn p f
    else if f.plane = .req ∨ (f.plane = .bulk ∧ (f.op = OP_BRD ∨ f.op = OP_BWRLINE)) then s.fabRequest p f
    else s.arrive f

end Sys2Proof.Machine
end

