-- ==== Sys2Proof/WellFormed.lean ====
section
/-! DEFINITION. Which commands are well formed: a message's operation must be listed for its plane and its port must be
one of the five of a stop (05 R152), an access must be of a size that exists (02 R39), and a reply of words must fit the
place it goes to (03 R85). Everything else an operand's type already bounds. -/

namespace Sys2Proof

/-- How many operation codes a plane lists (R152). -/
def Plane.opCount : Plane → Nat
  | .req => 0x0B | .rsp => 0x07 | .snp => 0x05 | .bulk => 0x08

/-- A message names an operation its plane has, and a local port 0 to 4 (R152). -/
def Flit.wf (f : Flit) : Bool :=
  decide (f.op.val < f.plane.opCount) && decide (f.dport.val ≤ 4) && decide (f.sport.val ≤ 4)

/-- An access has a size of 1, 2, 4, 8 or 64 bytes and one of the five privilege codes of R68. -/
def PageReq.wf (p : PageReq) : Bool :=
  [1, 2, 4, 8, 64].contains p.size && decide (p.who.priv.val ≤ 4)

/-- Whether a command is well formed. -/
def Instr.wf : Instr → Bool
  | .registerWrite p => p.wf && p.kind.writes
  | .pgStatusRead p => p.wf && !p.kind.writes
  | .pageRequestArrival p => p.wf
  | .keywayRootRequest p => p.wf
  | .flitPresent f => f.wf
  | .fillArrival f => f.wf
  | .spdm _ reply => decide (reply.length ≤ 32)
  | _ => true

end Sys2Proof
end

