-- ==== Sys2Proof/Machine/Mesh.lean ====
section
/-! DEFINITION. The scheduled mesh (05 R147-R176, 14 R435): slot tables and their schedule, injection, hops, link retry and
repair, ejection, bounces, and the swap of schedules. -/

namespace Sys2Proof.Machine

/-- The class slot s of plane p is dealt to, if any (R162). -/
def Sched.dealt (d : Sched) (p s : Nat) : Option Nat :=
  ((List.range 16).flatMap (fun k => List.replicate (d.share p k) k))[(7 * s) % 24]?

/-- MS_SLOT[24 p + s] of stop n (R158, R162, R164). -/
def Sched.entry (d : Sched) (n p s : Nat) : Nat :=
  let w := match d.entries with
    | none => 2 ^ 63 + 1 <<< 52 + 1 <<< 48 + (Config.uniform24 (96 * n + 24 * p + s)).toNat
    | some t => (Tab.get 0 t (96 * n + 24 * p + s)).toNat
  match d.dealt p s with
  | some k => putBits w 59 56 k
  | none => putBits w 63 63 0

/-- Whether an entry of stop n admits destination d in reel position r (R158). -/
def admits (e n r d : Nat) : Bool :=
  d != n &&
  bitN (bits e 11 0) ((stopX d + 12 * (r * bits e 55 52) - r * bits e 55 52) % 12) &&
  bitN (bits e 21 12) ((stopY d + 10 * (r * bits e 51 48) - r * bits e 51 48) % 10)

/-- Slot number, period and reel position of mclk t (R157); the mesh has started. -/
def Mesh.slotAt (m : Mesh) (t : Nat) : Nat := (t - m.start.getD 0) % 24
def Mesh.periodAt (m : Mesh) (t : Nat) : Nat := (t - m.start.getD 0) / 24
def Mesh.reelAt (m : Mesh) (t : Nat) : Nat := (t - m.reel0) / 24 % m.sched.reel
/-- The first period start at or after mclk t (R157). -/
def Mesh.periodStart (m : Mesh) (t : Nat) : Nat := m.start.getD 0 + 24 * ceilDiv (t - m.start.getD 0) 24

/-- Whether the stops inject (R157, R169, R459). -/
def Mesh.injects (m : Mesh) (t : Nat) : Bool :=
  (match m.start with | some a => decide (a ≤ t) | none => false) && m.paused.isNone && m.sleep.isNone

/-- The slot wait W of a class-k flit presented at mclk t with no older flit of its class waiting (R160); none when no
entry of the class admits the destination within the reel. -/
def Mesh.slotWait (m : Mesh) (n p k d t : Nat) : Option Nat :=
  (List.range (24 * m.sched.reel)).find? (fun w =>
    let e := m.sched.entry n p (m.slotAt (t + w))
    bitN e 63 && bits e 59 56 == k && admits e n (m.reelAt (t + w)) d)

/-- MS_SLOTNOW (R176). -/
def State.slotNow (s : State) : Nat :=
  match s.mesh.start with
  | some a => if a ≤ s.now then (s.mesh.periodAt s.now % 2 ^ 48) <<< 16 + s.mesh.reelAt s.now <<< 8 + s.mesh.slotAt s.now else 0
  | none => 0

/-- MS_SCHED (R176). -/
def State.schedWord (s : State) : Nat :=
  s.mesh.sched.reel <<< 24 + b01 s.mesh.paused.isSome <<< 16 + s.mesh.sched.gen

/-- The 48-bit header of a flit (R151). -/
def flitHeader (f : Flit) : Nat :=
  stopX f.dst.val <<< 44 + stopY f.dst.val <<< 40 + stopX f.src.val <<< 36 + stopY f.src.val <<< 32 + f.cls.val <<< 28 + f.dport.val <<< 25 +
    f.sport.val <<< 22 + f.op.val <<< 17 + f.part.val <<< 15 + f.tag.val <<< 4 + b01 f.poison <<< 3

/-- Whether a flit carries an address (R151): a REQ flit, or a BULK flit of a request, that is not the data flit of a pair. -/
def flitAddressed (f : Flit) : Bool :=
  f.part.val != 2 && (f.plane == .req || (f.plane == .bulk && (f.op == OP_BRD || f.op == OP_BWRLINE || f.op == OP_BATOMIC || f.op == OP_STEAL)))

/-- Whether words 2 to 7 of an addressed flit hold write data (R151). -/
def flitWritesPart (f : Flit) : Bool :=
  if f.plane = .req then f.op == OP_WRPART || f.op == OP_WRIO || f.op == OP_DOORBELL else f.op == OP_BATOMIC

/-- The 64-byte payload of a flit (R151): address, count, requester and detail in words 0 and 1, then up to 48 bytes of a partial write's
data or more detail; else the line. -/
def flitPayload (f : Flit) : Nat :=
  if flitAddressed f then
    f.count.val % 128 <<< 57 + f.addr.toNat +
      (f.tenant.val <<< 52 + f.key.val <<< 40 + f.priv.val <<< 37 + f.detail.toNat % 2 ^ 37) <<< 64 +
      (if flitWritesPart f then f.data.toNat % 2 ^ 384 else f.detail.toNat >>> 37) <<< 128
  else f.data.toNat

/-- The 76 bytes of a flit on a link (R151, R153), header first; the check symbols are the Reed-Solomon code's, whose polynomials the manual
does not give: free (log entry 104). -/
def flitBytes (f : Flit) : Nat :=
  let b := flitHeader f + flitPayload f <<< 48
  b + (Config.checkSymbols (BitVec.ofNat 560 b)).toNat <<< 560

/-- Key of an injection queue. -/
def queueKey (n : Nat) (p : Plane) (k : Cls) : Nat := 16 * (4 * n + p.ix) + k.val
def State.injQueue (s : State) (n : Nat) (p : Plane) (k : Cls) : List Flit := Tab.get [] s.mesh.queues (queueKey n p k)
def State.setInjQueue (s : State) (n : Nat) (p : Plane) (k : Cls) (q : List Flit) : State :=
  { s with mesh := { s.mesh with queues := Tab.set [] s.mesh.queues (queueKey n p k) q } }

/-- Whether a message goes to the home slice of its address (R180): its requester recomputes the home each time it
presents it (R213). -/
def homed (f : Flit) : Bool :=
  f.dport == 2 && (stopTile? f.dst.val).isSome && f.plane != .rsp &&
    (region f.addr.toNat == .dram || region f.addr.toNat == .fabricMem) &&
    !(f.plane == .bulk && (f.op == OP_BDATA || f.op == OP_BACK || f.op == OP_BBOUNCE))

/-- The message as its requester presents it now (R213); none while its bucket is held (R214). -/
def State.rehome (s : State) (f : Flit) : Option Flit :=
  if homed f then
    if s.homeHeld f.addr.toNat then none
    else some { f with dst := Fin.ofNat 120 (tileStop (s.homeOf f.addr.toNat)) }
  else some f

/-- Whether a message asks for an answer, so that its requester keeps it until one comes (R150). -/
def isRequest (f : Flit) : Bool :=
  f.plane == .req || (f.plane == .bulk && f.op != OP_BDATA && f.op != OP_STEALRSP && f.op != OP_BACK && f.op != OP_BBOUNCE)

/-- Whether a message can be bounced, so that its sender keeps it until it is answered or accepted (R150). -/
def bounceable (f : Flit) : Bool := f.plane == .req || (f.plane == .bulk && f.op != OP_BBOUNCE)

/-- Whether a message is an address flit and a data flit (R148). -/
def twoFlits (f : Flit) : Bool := (f.plane == .req && f.op == OP_WRLINE) || (f.plane == .bulk && f.op == OP_BWRLINE)

/-- A port presents a message to its stop (R148, R156, R159): it joins the injection queue of its plane and class, which holds
16 flits (two for a message of two), or takes the local crossbar. A full queue leaves it with its port, and an entry that an injection of
this mclk freed takes a flit from the next. -/
def State.present (s : State) (f : Flit) : State :=
  let found := takeFirst (fun m => m.flit == f) s.out
  let t := match found with | some (m, _) => m.at_ | none => s.now
  match s.rehome f with
  | none => s
  | some g =>
    let n := g.src.val
    let q := s.injQueue n g.plane g.cls
    let size (f : Flit) : Nat := if f.part = 1 then 2 else 1
    let freed := if Tab.get 0 s.mesh.freed (queueKey n g.plane g.cls) = max s.now t + 1 then 1 else 0
    if 16 < q.foldl (fun m f => m + size f) freed + (if twoFlits g then 2 else 1) ∧ g.dst ≠ g.src then s
    else
      let s1 := (match found with | some (_, rest) => { s with out := rest } | none => s).toMclk t
      let s2 := if bounceable g then { s1 with mesh := { s1.mesh with copies := s1.mesh.copies ++ [g] } } else s1
      if g.dst = g.src then
        { s2 with mesh := { s2.mesh with moving := s2.mesh.moving ++ [⟨g, n, n, s2.now, 0, 0, false⟩] } }
      else (s2.setInjQueue n g.plane g.cls (q ++ [if twoFlits g then { g with part := 1 } else g])).watch (meshPg n)

/-- Word 2 of a record of family 0x3 (R414). -/
def meshDetail (f : Flit) (dir stop spares retries : Nat) : Nat :=
  f.plane.ix <<< 62 + f.src.val <<< 54 + f.dst.val <<< 46 + f.tag.val <<< 35 + f.op.val <<< 30 + dir <<< 28 + stop <<< 20 +
    spares <<< 16 + retries % 2 ^ 16

/-- Direction from a stop to its neighbour. -/
def dirTo (n m : Nat) : Nat := ((List.range 4).find? (fun d => neighbour n d == some m)).getD 0

def State.moveMesh (s : State) (l : List Moving) : State := { s with mesh := { s.mesh with moving := l } }

/-- Give a flit its place on its next link (R174): on a retry lane, of two flits that would enter in the same mclk the one
whose scheduled traversal entered later is held a period. -/
def placeMoving : Nat → Moving → List Moving → List Moving
  | 0, v, l => l ++ [v]
  | n + 1, v, l =>
    if v.late = 0 then l ++ [v]
    else match takeFirst (fun o => o.late != 0 && !o.waits && o.at_ == v.at_ && o.next == v.next && o.sent == v.sent &&
        o.flit.plane == v.flit.plane) l with
    | none => l ++ [v]
    | some (o, rest) =>
      if o.sent - 24 * o.late ≤ v.sent - 24 * v.late then
        placeMoving n { v with sent := v.sent + 24, late := v.late + 1 } l
      else placeMoving n { o with sent := o.sent + 24, late := o.late + 1 } (rest ++ [v])

/-- A flit is discarded by the sender of a failed link (R175): record 0x3020, and the Ward resolves it (R435). -/
def State.discardFlit (s : State) (v : Moving) : State :=
  let d := dirTo v.at_ v.next
  let f := v.flit
  let s1 := s.record (meshPg v.at_) 3 0x3020 f.addr.toNat
    (meshDetail f d v.at_ (s.fld (meshPg v.at_) (R.MS_LINK_SPARES f.plane.ix d)) v.late) (s.secureClass f.cls.val)
  { s1 with mesh := { s1.mesh with drops := s1.mesh.drops ++ [⟨f, v.at_⟩] } }

/-- A flit enters its next link at mclk `v.sent` from stop `v.at_` (R154, R175). -/
def State.enterLink (s : State) (v : Moving) : State :=
  match routeDir v.at_ v.flit.dst.val with
  | none => s.moveMesh (s.mesh.moving ++ [{ v with next := v.at_ }])
  | some d =>
    let v := { v with next := (neighbour v.at_ d).getD v.at_, tries := 0, waits := false }
    if s.flag (meshPg v.at_) (R.MS_LINK_FAILED v.flit.plane.ix d) then s.discardFlit v
    else s.moveMesh (placeMoving 48 v s.mesh.moving)

/-- Inject at stop n on a plane in this mclk (R159): the oldest flit of the slot's class that the entry admits. -/
def State.inject (s : State) (n : Nat) (p : Plane) : State :=
  let m := s.mesh
  let e := m.sched.entry n p.ix (m.slotAt s.now)
  let k : Cls := Fin.ofNat 16 (bits e 59 56)
  if !m.injects s.now || Tab.get 0 m.injected (4 * n + p.ix) == s.now + 1 || !bitN e 63 then s
  else match takeFirst (fun f => admits e n (m.reelAt s.now) f.dst.val) (s.injQueue n p k) with
  | none => s.count (meshPg n) 0x05 (some k.val) 1
  | some (f, rest) =>
    let s1 := s.setInjQueue n p k (if f.part = 1 then { f with part := 2 } :: rest else rest)
    let s2 := { s1 with mesh := { s1.mesh with
      injected := Tab.ins (4 * n + p.ix) (s.now + 1) s1.mesh.injected
      freed := Tab.ins (queueKey n p k) (s.now + 1) s1.mesh.freed } }
    (s2.count (meshPg n) 0x01 (some k.val) 1).enterLink ⟨f, n, n, s.now + 2, 0, 0, false⟩

/-- Flits in the retry-lane store of a stop, of a plane and class (R174). -/
def State.retryStore (s : State) (n : Nat) (p : Plane) (k : Cls) : Nat :=
  (s.mesh.moving.filter (fun v => v.late != 0 && v.at_ == n && v.next != n && decide (s.now < v.sent) && v.flit.plane == p &&
    v.flit.cls == k)).length

/-- Whether a flit on a retry lane must stay a period more, because the store of its class at the next stop is full (R174). -/
def State.storeFull (s : State) (v : Moving) (next : Nat) : Bool :=
  v.late != 0 && decide (next ≠ v.flit.dst.val) && decide (24 ≤ s.retryStore next v.flit.plane v.flit.cls)

/-- A flit crosses its hop to `dest` and the receiver finds `errs` bytes in error (R153, R154, R173); one on a retry lane is held in whole
periods while the store there is full (R174). -/
def State.hop (s : State) (f : Flit) (dest errs : Nat) : State :=
  match takeFirst (fun v => v.flit == f && v.next == dest && v.at_ != dest && !v.waits) s.mesh.moving with
  | none => s
  | some (v, rest) =>
    if (s.toMclk v.sent).storeFull v dest then
      (s.moveMesh (placeMoving 48 { v with sent := v.sent + 24, late := v.late + 1 } rest)).toMclk v.sent
    else
    let t := v.sent + hopCost v.at_ dest
    let s1 := (s.moveMesh rest).toMclk t
    if 3 < errs then
      let s2 := (s1.bump (meshPg dest) R.MS_RETRY_COUNT 1).count (meshPg dest) 0x07 none 1
      s2.moveMesh (s2.mesh.moving ++ [{ v with tries := v.tries + 1, waits := true }])
    else
      let s2 := if errs = 0 then s1 else (s1.bump (meshPg dest) R.MS_CORR_COUNT 1).count (meshPg dest) 0x08 none 1
      let d := dirTo v.at_ dest
      let s3 := if v.tries = 0 then s2 else s2.record (meshPg dest) 0 0x3001 f.addr.toNat
        (meshDetail f d v.at_ (s2.fld (meshPg v.at_) (R.MS_LINK_SPARES f.plane.ix d)) v.late) (s.secureClass f.cls.val)
      if dest = f.dst.val then s3.moveMesh (s3.mesh.moving ++ [{ v with at_ := dest, next := dest, sent := t, tries := 0 }])
      else (s3.count (meshPg dest) 0x03 (some f.cls.val) 1).enterLink { v with at_ := dest, sent := t }

/-- The sender of a hop resends its copy on the retry lane, 24 mclk after the last send; while the next stop's store of the class is full the
copy stays and is due a period later (R173, R174). -/
def State.retrySend (s : State) (n dir : Nat) (p : Plane) : State :=
  match neighbour n dir with
  | none => s
  | some m =>
    match takeFirst (fun v => v.waits && v.at_ == n && v.next == m && v.flit.plane == p &&
        decide (v.tries < s.fld (meshPg m) R.MS_RETRY_LIMIT)) s.mesh.moving with
    | none => s
    | some (v, rest) =>
      let v1 := { v with sent := v.sent + 24, late := v.late + 1 }
      let s1 := s.toMclk v1.sent
      if s1.storeFull v1 m then s1.moveMesh (v1 :: rest) else s1.moveMesh (placeMoving 48 { v1 with waits := false } rest)

/-- A hop whose flit failed LIMIT tries is repaired with spare wires at the next period start, or its link fails (R175). -/
def State.repairLink (s : State) (n dir : Nat) (p : Plane) (wires : Nat) : State :=
  match neighbour n dir with
  | none => s
  | some m =>
    match takeFirst (fun v => v.waits && v.at_ == n && v.next == m && v.flit.plane == p &&
        decide (s.fld (meshPg m) R.MS_RETRY_LIMIT ≤ v.tries)) s.mesh.moving with
    | none => s
    | some (v, rest) =>
      let used := s.fld (meshPg n) (R.MS_LINK_SPARES p.ix dir) + min 8 (max 1 wires)
      let t := s.mesh.periodStart s.now
      let s1 := (s.moveMesh rest).toMclk t
      let sec := s.secureClass v.flit.cls.val
      if used ≤ 8 then
        let k := max 1 (ceilDiv (t - v.sent) 24)
        let s2 := s1.setFld (meshPg n) (R.MS_LINK_SPARES p.ix dir) used
        let s3 := s2.record (meshPg m) 0 0x3002 v.flit.addr.toNat (meshDetail v.flit dir n used (v.late + k)) sec
        (s3.moveMesh (placeMoving 48 { v with sent := v.sent + 24 * k, late := v.late + k, tries := 1, waits := false }
          s3.mesh.moving)).raiseHealth 1 (s3.fld (rasPg 0) R.RAS_LOG_SEQ_NEXT)
      else
        -- every other flit that waits or is held for the link is discarded too; those already on it run on
        let mine (o : Moving) : Bool := o.at_ == n && o.next == m && o.flit.plane == p && (o.waits || decide (t < o.sent))
        let s2 := (s1.moveMesh (rest.filter (fun o => !mine o))).setFld (meshPg n) (R.MS_LINK_FAILED p.ix dir) 1
        (v :: rest.filter mine).foldl (fun s o => s.discardFlit o) s2

/-- The request that waits on a discarded message, if one does (R435): the message itself, the request in the fill buffer it
belongs to at a slice, or none (an interrupt delivery). -/
def State.waitingReply (s : State) (f : Flit) : Option (Flit × Option (Nat × Nat)) :=
  let buf (c id : Nat) : Option (Flit × Option (Nat × Nat)) :=
    ((s.slice c).bufs.find? (fun b => b.id == id)).map (fun b => (errorReply b.req.f, some (c, id)))
  let toRequester : Flit := if f.plane = .bulk then { f with op := OP_BACK, detail := 1, data := 0 }
    else { f with op := OP_ERROR, detail := 0, data := 0 }
  if isRequest f then some (errorReply f, none)
  else match f.plane with
    | .snp => if f.op = OP_IRQ then none
              else if f.op = OP_BISNP then some (replyTo f .rsp OP_ERROR, none)
              else buf (f.src.val - 12) f.tag.val
    | .rsp => if f.op = OP_SNPRSP ∨ f.op = OP_SNPDATA then
                (if f.dport = 2 ∧ (stopTile? f.dst.val).isSome then buf (f.dst.val - 12) f.tag.val else some (toRequester, none))
              else some (toRequester, none)
    | _ => some (toRequester, none)

/-- Whether a message carries line data or a grant of ownership (R435). -/
def carriesLine (f : Flit) : Bool :=
  (f.plane == .rsp && (f.op == OP_DATA || f.op == OP_SNPDATA)) || (f.plane == .req && f.op == OP_WRLINE) ||
  (f.plane == .bulk && (f.op == OP_BWRLINE || f.op == OP_BDATA))

/-- The Ward resolves a discarded flit (R435): the waiting request completes with ERROR at its requester, a carried line is
written poisoned and DIRTY by its home, and DEV_HEALTH becomes REPLACE. -/
def State.resolveDrop (s : State) (f : Flit) : State :=
  match takeFirst (fun d => d.flit == f) s.mesh.drops with
  | none => s
  | some (_, rest) =>
    let s0 := { s with mesh := { s.mesh with drops := rest } }
    let s1 := match s0.waitingReply f with
      | none => s0
      | some (r, none) => s0.arrive r
      | some (r, some (c, id)) => (s0.arrive r).endBuf c id 0 none
    let a := f.addr.toNat
    let s2 := if carriesLine f && (region a == .dram || region a == .fabricMem) then
        (s1.placeLine (s1.homeOf a) 4096 f f.data true true).1
      else s1
    s2.raiseHealth 2 (s2.fld (rasPg 0) R.RAS_LOG_SEQ_NEXT)

/-- When the BOUNCE of a message that reached its agent at mclk t is presented: after the decision, and the crossing back of a
controller or a fabric port (R150, R171). -/
def State.bounceAt (s : State) (f : Flit) (t : Nat) : Nat :=
  if f.dport ≠ 1 then t + 1
  else match stopMc? f.dst.val, stopFp? f.dst.val with
    | some m, _ => s.outOfMcAt m (s.intoMcAt m t + 1)
    | none, some _ => t + 3 + 1 + 3
    | none, none => t + 1

/-- A sender keeps a message no longer. -/
def State.dropCopy (s : State) (p : Flit → Bool) : State :=
  match takeFirst p s.mesh.copies with
  | some (_, rest) => { s with mesh := { s.mesh with copies := rest } }
  | none => s

/-- What a sender spends between a BOUNCE and the repeat (R150, R156, R171): the exit and entry of its port. -/
def senderTerms (f : Flit) : Nat :=
  if f.sport.val = 1 then
    if (stopTile? f.src.val).isSome then 2 else if (stopFp? f.src.val).isSome then 6 else 0
  else 0

/-- The slice or controller that took a message at port `port` of stop n may hold a secure request now (R98). -/
def State.watchAgent (s : State) (n port : Nat) : State :=
  match stopTile? n, stopMc? n with
  | some c, _ => if port = 2 then s.watch (slicePg c) else s
  | none, some m => s.watch (mcPg m 3)
  | none, none => s

/-- A whole message reaches its destination port (R149, R150, R152): accepted, bounced where its class's ingress queue is
full, or discarded where the stop has no such port or the plane no such operation. -/
def State.accept (s : State) (f : Flit) : State :=
  let n := f.dst.val
  if stopPorts n ≤ f.dport.val ∨ f.plane.opCount ≤ f.op.val then
    s.record (meshPg n) 2 0x3010 f.addr.toNat (meshDetail f 0 0 0 0) (s.secureClass f.cls.val)
  else
    let q := (Tab.get [] s.mesh.ingress (8 * n + f.dport.val)).filter (fun g => g.plane == f.plane && g.cls == f.cls)
    if (f.plane = .req ∨ f.plane = .bulk) ∧ 32 ≤ q.length then
      (s.sendAt (s.bounceAt f s.now) (bounceOf f)).count (meshPg n) 0x06 (some f.cls.val) 1
    else
      -- an answer that is accepted is kept no longer by its sender, nor the request it answers by its requester
      let s0 := if isRequest f then s else s.dropCopy (fun c => c == f)
      let s1 := if isRequest f ∨ f.op = (if f.plane = .bulk then OP_BBOUNCE else OP_BOUNCE) ∨ f.plane = .snp then s0
        else s0.dropCopy (fun c => isRequest c && c.src == f.dst && c.sport == f.dport && c.tag == f.tag && c.cls == f.cls &&
            (c.plane == .bulk) == (f.plane == .bulk))
      match (if f.dport = 1 then stopFp? n else none) with
      | some p => s1.portReceive p f
      | none => if n = wardStop ∧ f.dport = 2 ∧ f.plane = .req then s1.romRequest f else (s1.arrive f).watchAgent n f.dport.val

/-- A flit leaves the mesh at its destination (R148, R154, R155): 2 mclk of ejection; the two flits of a message are accepted
as one. -/
def State.eject (s : State) (f : Flit) : State :=
  match takeFirst (fun v => v.flit == f && v.at_ == v.next && v.next == f.dst.val && !v.waits) s.mesh.moving with
  | none => s
  | some (v, rest) =>
    let s1 := ((s.moveMesh rest).toMclk (v.sent + 2)).count (meshPg f.dst.val) 0x02 (some f.cls.val) 1
    if f.part = 0 then s1.accept f
    else
      let other : Flit := { f with part := if f.part = 1 then 2 else 1 }
      match takeFirst (· == other) s1.mesh.halves with
      | some (_, hs) => { s1 with mesh := { s1.mesh with halves := hs } }.accept { f with part := 0 }
      | none => { s1 with mesh := { s1.mesh with halves := s1.mesh.halves ++ [f] } }

/-- A BOUNCE reaches the sender, which presents its message again at once (R150). -/
def State.bounced (s : State) (f : Flit) : State :=
  let s0 := s.taken f
  match takeFirst (fun c => c.src == f.dst && c.sport == f.dport && c.tag == f.tag && c.cls == f.cls && c.addr == f.addr &&
      (c.plane == .bulk) == (f.plane == .bulk)) s0.mesh.copies with
  | some (c, rest) => { s0 with mesh := { s0.mesh with copies := rest } }.sendAt (s0.now + senderTerms c) c
  | none => s0

/-- Whether no flit is on a link, in a retry-lane store or in a retry buffer (R169). -/
def Mesh.quiet (m : Mesh) : Bool := m.moving.all (fun v => v.at_ == v.next)

/-- Injection pauses for a swap at the first period start at or after the swap edge (R169). -/
def State.swapPause (s : State) : State :=
  match s.mesh.edge, s.mesh.paused with
  | some e, none =>
    let t := s.mesh.periodStart (96 * e)
    { (s.toMclk t) with mesh := { s.mesh with paused := some t } }
  | _, _ => s

/-- The tables swap at a period start at least 2 periods after the pause, with no flit in flight (R169). -/
def State.swapSched (s : State) : State :=
  match s.mesh.paused, s.mesh.next with
  | some p, some d =>
    if s.mesh.quiet then
      let t := max (p + 48) (s.mesh.periodStart s.now)
      { (s.toMclk t) with mesh := { s.mesh with sched := d, next := none, edge := none, paused := none, load := none, reel0 := t } }
    else s
  | _, _ => s

/-- FLIT_PRESENT (R159). -/
def execFlitPresent (f : Flit) (s : State) : Out := .next (s.present f)
/-- FLIT_INJECT (R159). -/
def execFlitInject (n : Stop) (plane : Plane) (s : State) : Out := .next (s.inject n.val plane)
/-- FLIT_HOP (R153). -/
def execFlitHop (f : Flit) (dest : Stop) (errs : Fin 77) (s : State) : Out := .next (s.hop f dest.val errs.val)
/-- LINK_RETRY_SEND (R173). -/
def execLinkRetrySend (n : Stop) (dir : Fin 4) (plane : Plane) (s : State) : Out := .next (s.retrySend n.val dir.val plane)
/-- LINK_REPAIR (R175). -/
def execLinkRepair (n : Stop) (dir : Fin 4) (plane : Plane) (wires : Nat) (s : State) : Out :=
  .next (s.repairLink n.val dir.val plane wires)
/-- FAILED_LINK_RESOLVE (R435). -/
def execFailedLinkResolve (f : Flit) (s : State) : Out := .next (s.resolveDrop f)
/-- FLIT_EJECT (R150). -/
def execFlitEject (f : Flit) (s : State) : Out := .next (s.eject f)
/-- BOUNCE_RECEIVED (R150). -/
def execBounceReceived (f : Flit) (s : State) : Out := .next (s.bounced f)
/-- SCHED_SWAP_PAUSE (R169). -/
def execSchedSwapPause (s : State) : Out := .next s.swapPause
/-- SCHED_SWAP (R169). -/
def execSchedSwap (s : State) : Out := .next s.swapSched

end Sys2Proof.Machine
end

