-- ==== Sys2Proof/Machine/SliceMaint.lean ====
section
/-! DEFINITION. The slice's commands (06 R187-R217): requests, enable and invalidate, way masks and latched ways, per-class
maintenance, array errors, and retirement. -/

namespace Sys2Proof.Machine

/-- A message is a request for the slice at its destination stop. -/
def State.sliceOp (s : State) (op : SliceOp) (f : Flit) : State :=
  match stopTile? f.dst.val with
  | some c => (s.taken f).sliceRequest c ⟨op, f⟩
  | none => s.taken f

/-- PG_STATUS.BUSY of a slice shows INVALL, way emptying and retirement flushing only (R209). -/
def State.sliceBusy (s : State) (c : Nat) : State :=
  let sl := s.slice c
  s.setFld (slicePg c) R.PG_STATUS_BUSY
    (b01 (sl.latchEnds.isSome || sl.walkEnds.isSome || sl.maint.any (fun e => e.2.op == 4)))

/-- Invalidate a cluster's copy of a line at once, those in its L1s and fill shadows with it: the modified copy it held, its L1 data merged
(R130, R187). -/
def State.pullLine (s : State) (k l : Nat) : State × Option L2Line :=
  let s0 := (s.snoopShadow k (mkFlit .snp 0 2 (tileStop k) 1 0 OP_SNPINV 0 (64 * l))).cleanL1 k l
  let cl := s0.cluster k
  match Tab.at? cl.l2 l with
  | none => (s0, none)
  | some w =>
    ((((s0.setCluster k { cl with l2 := Tab.del l cl.l2, l2Used := Tab.del l cl.l2Used }).dropL1 k l none).loseResv k l).refetch
        (s0.fetchers k l),
      if w.st == .m || w.st == .o then some w else none)

/-- Pull a line from several clusters; the modified copy found, if any (R187). -/
def State.pullAll (s : State) (l : Nat) (ks : List Nat) : State × Option L2Line :=
  ks.foldl (fun a k =>
    let r := a.1.pullLine k l
    (r.1, if r.2.isSome then r.2 else a.2)) (s, none)

/-- A modified copy pulled from a cluster goes straight to memory; the slice's own copy of the line, now stale, is dropped. -/
def State.pulledHome (s : State) (c l : Nat) (w : Option L2Line) : State :=
  match w with
  | some w => (s.writebackAlone c l w.data w.poison w.key w.cls).setSlice c
      (dropWay ((s.writebackAlone c l w.data w.poison w.key w.cls).slice c) (64 * l))
  | none => s

/-- Key index and class of the copies of a line, the slice's first (R205). -/
def State.lineOwner (s : State) (c l : Nat) : Option (KeyIx × Cls × Bool) :=
  let sl := s.slice c
  match findWay sl (64 * l) with
  | some (_, w) => some (w.key, w.cls, w.poison)
  | none => match s.ownerOf l with
    | some (_, w) => some (w.key, w.cls, w.poison)
    | none => (presOf sl (64 * l)).findSome? (fun k => (Tab.at? (s.cluster k).l2 l).map (fun w => (w.key, w.cls, w.poison)))

/-- The lines an operation examines (R204). -/
def State.maintLines (s : State) (c k : Nat) (r : MaintRun) : List Nat :=
  match r.scope with
  | 0 => [lineOf r.addr]
  | 1 => ((List.range r.len).map (fun i => lineOf r.addr + i)).filter (fun l => s.homeOf (64 * l) == c)
  | _ =>
    let may := bitN (s.fld (slicePg c) (R.SLC_MASK_WAYS.nth k)) r.way ||
      (bitN (s.fld (slicePg c) R.SLC_LATCH_WAYS) r.way && s.fld (slicePg c) R.SLC_LATCH_OWNER == k)
    match Tab.at? (s.slice c).ways (16 * r.set + r.way) with
    | some w => if may || r.ward then [w.line] else []
    | none => []

/-- The operation a slice performs on each line (R204). -/
def maintSliceOp : Nat → SliceOp
  | 0 => .maintInv
  | 1 => .maintClean
  | 2 => .maintFlush
  | 5 => .latchFill
  | _ => .maintBlank

/-- Whether an operation may act on a line (R205): its key index is the requester's and, for key index 0, its class is k; the Ward acts on
every line. -/
def State.maintMine (s : State) (c k : Nat) (r : MaintRun) (l : Nat) : Bool :=
  r.ward || (match s.lineOwner c l with
    | some (key, cls, _) => key == r.key && (r.key != 0 || cls.val == k)
    | none => true)

/-- The request an operation makes of its slice for a line. -/
def maintReq (c k : Nat) (r : MaintRun) (l : Nat) : SliceReq :=
  ⟨maintSliceOp r.op, { mkFlit .req (tileStop c) 2 (tileStop c) 2 (Fin.ofNat 16 k) OP_RD MAINT (64 * l) with key := r.key, tenant := r.tenant }⟩

/-- One line of an operation (R205-R207): an absent line costs 1 mclk of the lane and a line that is not the operation's is only examined;
any other is a request of the slice, and holds the walk until it is done. -/
def State.maintLine (s : State) (c k l : Nat) (r : MaintRun) : State :=
  let sl := s.slice c
  let pa := 64 * l
  let put (s : State) (r : MaintRun) : State := s.setSlice c { s.slice c with maint := Tab.ins k r (s.slice c).maint }
  let r1 := { r with seen := r.seen + 1 }
  let free := (lockOn sl (maintReq c k r l)).isNone
  if free && (findWay sl pa).isNone && lineStateOf sl pa == .i && r.op != 3 && r.op != 5 then
    put s { r1 with next := r.next + 1, done := max r.done (r.next + 6) }
  else if free && r.op == 5 && (s.emptyLatched c l).isEmpty then put s { r1 with result := 3, next := r.next + 6, done := r.next + 6 }
  else if free && !s.maintMine c k r l then put s { r1 with next := r.next + 14, done := r.next + 14 }
  else ((put s { r1 with busy := true }).toMclk r.next).enterLane c (maintReq c k r l)

/-- Go on with an operation's lines while none holds the walk and no ordinary request of its class waits to enter (R206). -/
def State.maintWalk (s : State) (c k : Nat) : List Nat → State
  | [] => s
  | l :: t =>
    match Tab.at? (s.slice c).maint k with
    | none => s
    | some r =>
      if r.busy || (s.slice c).lanes.any (fun q => q.f.cls.val == k) then s
      else (s.maintLine c k l r).maintWalk c k t

/-- Put the end of class k's operation into its STAT register (R216). -/
def State.maintPublish (s : State) (c k result lines : Nat) : State :=
  let s1 := s.setSlice c { s.slice c with maint := Tab.del k (s.slice c).maint }
  let f := R.SLC_MAINT_STAT.nth k
  (s1.setReg (slicePg c + f.off) (result <<< 60 + lines % 2 ^ 48)).sliceBusy c

/-- Class k's operation goes on to its end (R202, R206): line after line, each as a request of the slice that waits for fills, snoops and
acknowledgements as any other; the command is given again while it waits. A LATCH-FILL that gets ERROR ends DONE with LINES 0 (log entry 96). -/
def State.maintDone (s : State) (c k : Nat) : State :=
  let sl := s.slice c
  match Tab.at? sl.maint k with
  | none => s
  | some r =>
    if r.op = 4 then
      let s1 := (s.toMclk (r.begun + 4128)).setSlice c { sl with ways := [], dir := [], bufs := [], lanes := [], snpOut := [], snpWait := [] }
      (s1.setFld (slicePg c) R.SLC_CTL_INITED 1).maintPublish c k 0 0
    else if s.flag (slicePg c) R.PG_STATUS_FROZEN || s.flag (slicePg c) R.PG_STATUS_RETIRED then s.maintPublish c k 5 r.lines
    else if r.scope = 0 ∧ s.homeOf r.addr ≠ c then (s.toMclk (r.begun + 6)).maintPublish c k 2 0
    else
      let ls := s.maintLines c k r
      let s1 := (s.drainLanes c).maintWalk c k (ls.drop r.seen)
      match Tab.at? (s1.slice c).maint k with
      | none => s1
      | some r1 =>
        if r1.busy || decide (r1.seen < ls.length) then s1
        else (s1.toMclk (if ls.isEmpty then r.begun + 5 else r1.done)).maintPublish c k r1.result r1.lines

/-- Whether a requester may write class k's maintenance registers: a request of class k, or the Ward (R205); the BMC and Safelight have no
class (R60, R102). -/
def maintWriter (who : Requester) (k : Nat) : Bool := who.path == .ward || (who.path == .hart && who.cls.val == k)

/-- Whether a maintenance command is refused (R204, R205, R216). -/
def State.maintRefused (s : State) (c k : Nat) (who : Requester) (op scope way : Nat) : Bool :=
  !maintWriter who k ||
  s.flag (slicePg c) (R.SLC_MAINT_STAT_BUSY.nth k) || decide (5 < op) || decide (3 < scope) ||
  (op == 4 && (scope != 3 || !wardOrM who || s.flag (slicePg c) R.SLC_CTL_EN)) || (op != 4 && scope == 3) ||
  (op == 5 && (scope != 0 || s.fld (slicePg c) R.SLC_LATCH_OWNER != k)) || (scope == 2 && decide (12 ≤ way))

/-- A write of SLC_MAINT_CMDk (R204, R205). -/
def State.maintCmd (s : State) (c k : Nat) (who : Requester) (v : Nat) : Wr :=
  let pg := slicePg c
  let op := bits v 3 0
  let scope := bits v 7 4
  let way := s.fld pg (R.SLC_MAINT_SETWAY_WAY.nth k)
  if s.maintRefused c k who op scope way then .no FAULT_ACCESS (s.setFld pg (R.SLC_MAINT_STAT_RESULT.nth k) 1)
  else
    let key : KeyIx := s.tenantKey who.tenant.val
    let r : MaintRun := ⟨op, scope, 64 * s.fld pg (R.SLC_MAINT_ADDR_ADDR.nth k), s.fld pg (R.SLC_MAINT_LEN_LEN.nth k), way,
      s.fld pg (R.SLC_MAINT_SETWAY_SET.nth k), key, who.tenant, who.path == .ward, s.now, 0, false, 0, 0, s.now, s.now⟩
    let s1 := s.setFld pg (R.SLC_MAINT_STAT_BUSY.nth k) 1
    .ok ((s1.setSlice c { s1.slice c with maint := Tab.ins k r (s1.slice c).maint }).sliceBusy c)

/-- Empty ways of a slice in every set (R199): dirty lines are written back in their own class under their own key. -/
def State.emptyWays (s : State) (c ways : Nat) : State :=
  let mine := (s.slice c).ways.filter (fun e => bitN ways (e.1 % 16))
  let s1 := s.setSlice c { s.slice c with ways := (s.slice c).ways.filter (fun e => !bitN ways (e.1 % 16)) }
  mine.foldl (fun s e => if e.2.dirty then s.writebackAlone c e.2.line e.2.data e.2.poison e.2.key e.2.cls else s) s1

/-- A write of SLC_LATCH (R199): newly latched ways, or all of them when the owner changes, are emptied, in 4,096 mclk and
the writebacks. -/
def State.latchWrite (s : State) (c v : Nat) : State :=
  let pg := slicePg c
  let old := s.fld pg R.SLC_LATCH_WAYS
  let ways := bits v 11 0
  let newOwner := s.fld pg R.SLC_LATCH_OWNER != bits v 19 16 && ways != 0
  let hit := if newOwner then ways else ways - (ways &&& old)
  let s1 := (s.setFld pg R.SLC_LATCH_WAYS ways).setFld pg R.SLC_LATCH_OWNER (bits v 19 16)
  if hit = 0 then s1
  else
    let s2 := s1.emptyWays c hit
    (s2.setSlice c { s2.slice c with latchEnds := some (s2.now + 4096) }).sliceBusy c

/-- The emptying of latched ways ends once its 4,096 mclk and its writebacks are done (R199). -/
def State.latchDone (s : State) (c : Nat) : State :=
  match (s.slice c).latchEnds with
  | some t => if (s.slice c).wbDue = 0 then
      let s1 := s.toMclk t
      (s1.setSlice c { s1.slice c with latchEnds := none }).sliceBusy c
    else s
  | none => s

/-- A write of SLC_MASKk (R197). The ways the Ward gives to a secure class leave the masks of the normal classes; a write that would
empty a mask, its own or one of those, is refused (log entry 97). -/
def State.maskWrite (s : State) (c k : Nat) (who : Requester) (v : Nat) : Wr :=
  let pg := slicePg c
  let m (j : Nat) : Nat := s.fld pg (R.SLC_MASK_WAYS.nth j)
  let w := bits v 11 0
  let normal := if who.path = .ward ∧ s.secureClass k then (List.range 16).filter (fun j => !s.secureClass j) else []
  let rest (j : Nat) : Nat := m j - (m j &&& w)
  if w = 0 ∨ normal.any (fun j => rest j == 0) then .no FAULT_ACCESS s
  else .ok (normal.foldl (fun s j => s.setFld pg (R.SLC_MASK_WAYS.nth j) (rest j)) (s.setFld pg (R.SLC_MASK_WAYS.nth k) w))

/-- Whether a mask write adds, from the normal world to a normal class, a way of a secure class's mask (R197). -/
def State.maskLocked (s : State) (c k : Nat) (who : Requester) (v : Nat) : Bool :=
  let m (j : Nat) : Nat := s.fld (slicePg c) (R.SLC_MASK_WAYS.nth j)
  let added := bits v 11 0 - (bits v 11 0 &&& m k)
  if s.secureClass k then m k != bits v 11 0 && (!s.writesSecure who || s.bolted)
  else !s.writesSecure who && (List.range 16).any (fun j => s.secureClass j && (added &&& m j) != 0)

/-- Registers of a SLICE page with behaviour of their own (R197, R202, R205, R215). -/
def State.slicePageWrite (s : State) (c off : Nat) (who : Requester) (v : Nat) : Option RegEffect :=
  let pg := slicePg c
  if off = 0x100 then
    some { admitted := wardOrM who
           act := if bitN v 0 && !s.flag pg R.SLC_CTL_INITED then .no FAULT_NOINIT s else .ok (s.setFld pg R.SLC_CTL_EN (bits v 0 0)) }
  else if off = 0x108 then
    let sec := s.secureClass (s.fld pg R.SLC_LATCH_OWNER) || s.secureClass (bits v 19 16)
    let changes := s.fld pg R.SLC_LATCH_OWNER != bits v 19 16 || s.fld pg R.SLC_LATCH_WAYS != bits v 11 0
    some { locked := sec && changes && (!s.writesSecure who || s.bolted), admitted := wardOrM who, act := .ok (s.latchWrite c v) }
  else if off = 0x110 ∨ off = 0x118 then
    let n := (off - 0x110) / 8
    let share (k w : Nat) : Nat := if k / 8 = n then bits w (8 * (k % 8) + 5) (8 * (k % 8)) else 0
    let other := (List.range 16).foldl (fun t k => if k / 8 = n then t else t + s.fillShare c k) 0
    let mine := (List.range 16).filter (fun k => k / 8 == n)
    let bad := mine.any (fun k => share k v == 0) || decide (32 < other + mine.foldl (fun t k => t + share k v) 0)
    some { locked := s.secureFieldLocked who share (s.reg (pg + off)) v, admitted := wardOrM who
           act := if bad then .no FAULT_ACCESS s
             else .ok (mine.foldl (fun s k => s.setFld pg (R.SLC_FILLSHARE_SHARE.ofClass k) (share k v)) s) }
  else if 0x140 ≤ off ∧ off ≤ 0x1B8 then
    let k := (off - 0x140) / 8
    some { locked := s.maskLocked c k who v, admitted := wardOrM who, act := s.maskWrite c k who v }
  else if 0x200 ≤ off ∧ off < 0x600 then
    let k := (off - 0x200) / 0x40
    if off % 0x40 = 0 then some { act := s.maintCmd c k who v }
    else if off % 0x40 < 0x20 then
      some { admitted := maintWriter who k
             act := match rowAt .slice off with
               | some r => .ok (s.setReg (pg + off) (r.written (s.reg (pg + off)) v))
               | none => .ok s }
    else none
  else none

/-- An error in the slice's arrays (R211): corrected, a data line poisoned, or an unknown address that freezes the slice. -/
def State.sliceArrayError (s : State) (c : Nat) (e : ArrayError) : State :=
  let pg := slicePg c
  let day := 24 * 3600 * 25000000
  match e with
  | .corrected l =>
    let s1 := (s.sliceRecord pg c 0 0x5001 (64 * l) (dataSet (64 * l)) false).count pg 0x0C none 1
    let sl := s1.slice c
    s1.setSlice c { sl with corr := (sl.corr.filter (fun t => decide (s.tb < t + day))) ++ [s.tb] }
  | .data l =>
    match findWay (s.slice c) (64 * l) with
    | some (k, w) =>
      (s.setSlice c { s.slice c with ways := Tab.ins k { w with poison := true } (s.slice c).ways }).sliceRecord pg c 1 0x5010
        (64 * l) ((k % 16) <<< 12 + k / 16) (s.secureClass w.cls.val)
    | none => s
  | .tag set => (s.sliceRecord pg c 3 0x5020 0 (set % 4096) false).setFld pg R.PG_STATUS_FROZEN 1

/-- Retirement of slice c begins (R213): its buckets are held from the apply edge. -/
def State.startRetire (s : State) (c : Nat) : State :=
  let held := (List.range 384).filter (fun b => s.bucketHome b == c)
  let edge := (s.tb + 64 + 63) / 64 * 64
  { s with home := { s.home with retire := some c, pend := some ⟨edge, held, none⟩ } }

/-- The Ward retires a slice whose tag or directory array failed, or with SLC_CE corrected records within 24 h (R437). -/
def State.sliceRetire (s : State) (c : Nat) : State :=
  let many := decide (s.fld (rasPg 0) R.RAS_POLICY_SLC_CE ≤ (s.slice c).corr.length)
  if s.home.retire.isNone && !s.flag (slicePg c) R.PG_STATUS_RETIRED && (s.flag (slicePg c) R.PG_STATUS_FROZEN || many) &&
      decide (1 < 96 - s.retiredCount R.RAS_SLC_RET 2)
  then s.startRetire c else s

/-- The map after slice c's buckets are given away (R213): each to the slice not retired with fewest buckets, then least H,
then lowest number. -/
def State.rehomeBuckets (s : State) (c : Nat) : Tab Nat :=
  let live := (List.range 96).filter (fun t => t != c && !s.isRetired R.RAS_SLC_RET t)
  let home (m : Tab Nat) (b : Nat) : Nat := Tab.get (b % 96) m b
  let held (m : Tab Nat) (t : Nat) : Nat := ((List.range 384).filter (fun b => home m b == t)).length
  let less (m : Tab Nat) (a b : Nat) : Bool :=
    let ka := (held m a, pathH (tileStop c) (tileStop a))
    let kb := (held m b, pathH (tileStop c) (tileStop b))
    decide (ka.1 < kb.1) || (ka.1 == kb.1 && (decide (ka.2 < kb.2) || (ka.2 == kb.2 && decide (a < b))))
  ((List.range 384).filter (fun b => s.bucketHome b == c)).foldl (fun m b =>
    match live with
    | [] => m
    | t :: ts => Tab.set (b % 96) m b (ts.foldl (fun best x => if less m x best then x else best) t)) s.home.map

/-- A cluster writes back and invalidates every line of a slice's buckets, straight to memory (R436). -/
def State.flushBucketsOf (s : State) (c k : Nat) : State :=
  ((s.cluster k).l2.filter (fun e => s.homeOf (64 * e.1) == c)).foldl (fun s e =>
    let r := s.pullLine k e.1
    r.1.pulledHome c e.1 r.2) s

/-- The retirement walk (R213, R436), once the hold is in force and the slice has no request left: every line and directory
entry leaves it, one set per mclk; then the buckets go to their new homes at an apply edge. A frozen slice's clusters flush
first, and the requests it never served are bounced. -/
def State.retireWalk (s : State) (c : Nat) : State :=
  let sl := s.slice c
  let frozen := s.flag (slicePg c) R.PG_STATUS_FROZEN
  if s.home.retire ≠ some c ∨ s.home.pend.isSome ∨ sl.walked then s
  else if !frozen && (!sl.bufs.isEmpty || !sl.lanes.isEmpty) then s
  else
    let waits := sl.dir.any (fun e => e.2.pres.any (fun k => (List.range 4).any (fun n => s.snoopWaits k (4 * e.2.block + n))))
    if waits then s
    else
      let s0 := if frozen then
          let s' := (sl.lanes ++ sl.bufs.flatMap (fun b => if b.phase = .done then [] else b.req :: b.waiting)).foldl
            (fun s q => if isMaint q.f then s else s.sendAt s.now (bounceOf q.f)) (s.setSlice c { sl with lanes := [], bufs := [] })
          (List.range 96).foldl (fun s k => s.flushBucketsOf c k) s'
        else s
      let s1 := (s0.slice c).dir.foldl (fun s e =>
        (List.range 4).foldl (fun s n =>
          let l := 4 * e.2.block + n
          let r := s.pullAll l e.2.pres
          r.1.pulledHome c l r.2) s) s0
      let s2 := s1.emptyWays c 0xFFF
      let t := s2.now + 4096
      let edge := (t / 96 + 64 + 63) / 64 * 64
      let s3 := s2.setSlice c { s2.slice c with dir := [], walked := true, walkEnds := some t }
      { (s3.sliceBusy c) with home := { s3.home with pend := some ⟨edge, [], some (s3.rehomeBuckets c)⟩ } }

/-- An apply edge of HOME_MAP (R212): every replica takes the write; the second one of a retirement takes the slice out of
service (R213) and the Ward logs 0x5030 (R419). -/
def State.homeApply (s : State) : State :=
  match s.home.pend with
  | none => s
  | some p =>
    let s1 := s.toAclk p.edge
    let h : HomeState := { s1.home with hold := p.hold, map := p.map.getD s1.home.map, gen := (s1.home.gen + 1) % 2 ^ 16, pend := none }
    match p.map, s1.home.retire with
    | some _, some c =>
      let s2 := { s1 with home := { h with retire := none } }
      let s3 := s2.setSlice c { s2.slice c with walkEnds := none }
      let s4 := ((s3.setFld (slicePg c) R.SLC_CTL_EN 0).setFld (slicePg c) R.PG_STATUS_RETIRED 1).setFld (dirPg c) R.PG_STATUS_RETIRED 1
      let s5 := ((s4.sliceBusy c).sliceRecord (slicePg c) c 2 0x5030 0 0 false).markRetired R.RAS_SLC_RET c
      -- a request of the RAS registers that asked for it is done (R443)
      if s5.flag (rasPg 0) R.RAS_REQ_STAT_BUSY && s5.fld (rasPg 0) R.RAS_REQ_STAT_KIND == 3 &&
          s5.fld (rasPg 0) R.RAS_REQ_STAT_NUMBER == c then s5.setFld (rasPg 0) R.RAS_REQ_STAT_BUSY 0 else s5
    | _, _ => { s1 with home := h }

/-- DIR_HOMEMAP register n as its replica shows it (R217). -/
def State.homeMapWord (s : State) (n : Nat) : Nat :=
  (List.range 8).foldl (fun w j =>
    let b := 8 * n + j
    w + (b01 (s.home.hold.contains b) <<< 7 + s.bucketHome b) <<< (8 * j)) 0

/-- DIR_HOMED of slice c (R217). -/
def State.homedWord (s : State) (c : Nat) : Nat :=
  s.home.gen <<< 16 + ((List.range 384).filter (fun b => s.bucketHome b == c)).length

/-- SLICE_RD (R187). -/
def execSliceRd (f : Flit) (s : State) : Out := .next (s.sliceOp (if f.detail = 1 ∨ !fromCluster f then .uread else .rd) f)
/-- SLICE_RDOWN (R187). -/
def execSliceRdown (f : Flit) (s : State) : Out := .next (s.sliceOp .rdown f)
/-- SLICE_UPGRADE, answered as RDOWN (R188). -/
def execSliceUpgrade (f : Flit) (s : State) : Out := .next (s.sliceOp .rdown f)
/-- SLICE_PREFETCH (R187); detail 2 asks for ownership. -/
def execSlicePrefetch (f : Flit) (s : State) : Out := .next (s.sliceOp (if f.detail = 2 then .prefetchW else .prefetchR) f)
/-- SLICE_BLANK (R201): tracked from a cluster, untracked from an engine or a DMA engine. -/
def execSliceBlank (f : Flit) (s : State) : Out := .next (s.sliceOp (if f.plane = .bulk then .ublank else .blankC) f)
/-- SLICE_WRLINE (R187). -/
def execSliceWrline (f : Flit) (s : State) : Out := .next (s.sliceOp (if fromCluster f then .wrline else .uwrite) f)
/-- SLICE_CMO_CLEAN (R187). -/
def execSliceCmoClean (f : Flit) (s : State) : Out := .next (s.sliceOp .cmoClean f)
/-- SLICE_CMO_FLUSH (R187). -/
def execSliceCmoFlush (f : Flit) (s : State) : Out := .next (s.sliceOp .cmoFlush f)
/-- SLICE_CMO_INVAL (R187): with CBIE = 0b01 it is a FLUSH, which detail 1 says. -/
def execSliceCmoInval (f : Flit) (s : State) : Out := .next (s.sliceOp (if f.detail = 1 then .cmoFlush else .cmoDiscard) f)
/-- SLICE_UNTRACKED_READ (R187). -/
def execSliceUntrackedRead (f : Flit) (s : State) : Out := .next (s.sliceOp .uread f)
/-- SLICE_UNTRACKED_WRITE (R187). -/
def execSliceUntrackedWrite (f : Flit) (s : State) : Out :=
  .next (s.sliceOp (if f.plane = .bulk ∧ f.detail = 2 then .ublank else .uwrite) f)
/-- SLICE_ATOMIC (R273); detail bit 0 is ACAS. -/
def execSliceAtomic (f : Flit) (s : State) : Out := .next (s.sliceOp (if bitN f.detail.toNat 0 then .acas else .aadd) f)
/-- BISNP (R210). -/
def execBisnp (f : Flit) (s : State) : Out := .next (s.sliceOp .bisnp f)
/-- SNOOP_RESPONSE (R189). -/
def execSnoopResponse (f : Flit) (s : State) : Out :=
  match stopTile? f.dst.val with
  | some c => .next ((s.taken f).snoopResponse c f)
  | none => .next (s.taken f)
/-- SLICE_FILL_ARRIVAL (R195). -/
def execSliceFillArrival (f : Flit) (s : State) : Out :=
  match stopTile? f.dst.val with
  | some c => .next ((s.taken f).fillArrival c f)
  | none => .next (s.taken f)
/-- LATCH_EMPTY_DONE (R199). -/
def execLatchEmptyDone (c : Tile) (s : State) : Out := .next (s.latchDone c.val)
/-- MAINT_DONE (R206). -/
def execMaintDone (c : Tile) (k : Cls) (s : State) : Out := .next (s.maintDone c.val k.val)
/-- SLICE_ARRAY_ERROR (R211). -/
def execSliceArrayError (c : Tile) (err : ArrayError) (s : State) : Out := .next (s.sliceArrayError c.val err)
/-- SLICE_RETIRE (R213). -/
def execSliceRetire (c : Tile) (s : State) : Out := .next (s.sliceRetire c.val)
/-- HOME_MAP_APPLY (R212). -/
def execHomeMapApply (s : State) : Out := .next s.homeApply
/-- SLICE_RETIRE_WALK (R213). -/
def execSliceRetireWalk (c : Tile) (s : State) : Out := .next (s.retireWalk c.val)

end Sys2Proof.Machine
end

