-- ==== Sys2Proof/Machine/McOps.lean ====
section
/-! DEFINITION. A memory controller's clock, frame and windows (07 R224-R227), what it refuses (R221, R222; 03 R94), its
journals (R228, R241), the commands it issues (R227, R229), the error code (R235-R239) and the freeze (R240-R243). -/

namespace Sys2Proof.Machine

def State.mc (s : State) (m : Nat) : Mc := Tab.get {} s.mcs m
def State.setMc (s : State) (m : Nat) (v : Mc) : State := { s with mcs := Tab.set {} s.mcs m v }

/-- The dclk edge at or after the present mclk. -/
def State.dclk (s : State) (m : Nat) : Nat := s.dclkAt m s.now
/-- Move the clock on to dclk d of controller m. -/
def State.toDclk (s : State) (m d : Nat) : State := s.toMclk (s.dclkMclk m d)
/-- The dclk of an aclk edge. -/
def State.aclkDclk (s : State) (m a : Nat) : Nat := s.dclkAt m (96 * a)

/-- Interrupt source 1,536 + 8 m + i (R240-R248). -/
def mcSource (m i : Nat) : Nat := 1536 + 8 * m + i

/-- Class windows of the frame in force belong to classes dealt from the shares (R225). -/
def State.winOwner (s : State) (m w : Nat) : Option Nat :=
  let share (k : Nat) : Nat := (s.mc m).shares.getD k (if k = 0 then 17 else 1)
  ((List.range 16).flatMap (fun k => List.replicate (share k) k))[(13 * w) % 32]?

/-- The shares the MC_WINSHARE registers hold (R226). -/
def State.writtenShares (s : State) (m : Nat) : List Nat :=
  (List.range 16).map (fun k => s.fld (mcPg m 0) (R.MC_WINSHARE_SHARE.ofClass k))

/-- Offset of class window w, and of maintenance window q, in the frame (R224). -/
def State.winStart (s : State) (m w : Nat) : Nat :=
  w / 8 * (8 * s.mc2 m R.MC_WIN_LEN + s.mc2 m R.MC_WIN_MLEN) + w % 8 * s.mc2 m R.MC_WIN_LEN
def State.maintStart (s : State) (m q : Nat) : Nat :=
  q * (8 * s.mc2 m R.MC_WIN_LEN + s.mc2 m R.MC_WIN_MLEN) + 8 * s.mc2 m R.MC_WIN_LEN
/-- dclk in a frame (R224). -/
def State.frameLen (s : State) (m : Nat) : Nat := 4 * (8 * s.mc2 m R.MC_WIN_LEN + s.mc2 m R.MC_WIN_MLEN)

/-- The first start at or after dclk d of a place at offset `off` of the frame, whose length is `len`. -/
def nextStart (frame0 len off d : Nat) : Nat :=
  if d ≤ frame0 + off then frame0 + off else frame0 + off + len * ceilDiv (d - (frame0 + off)) len

/-- MC_FRAMENOW (R249); a suspended frame counts no further (R240). -/
def State.frameNow (s : State) (m : Nat) : Nat :=
  match (s.mc m).frame0 with
  | some f => let d := ((s.mc m).stopped.getD (s.dclk m))
              let len := s.frameLen m
              if d < f ∨ len = 0 then 0 else ((d - f) / len % 2 ^ 48) <<< 16 + (d - f) % len
  | none => 0

/-- Whether controller m serves an address (R220, R221): READY, and for the hashed region OPEN. -/
def State.mcServesAddr (s : State) (m pa : Nat) : Bool :=
  match s.channelOf pa with
  | none => false
  | some (n, _, r) => (n == m || (s.mirrored && n + 1 == m)) && s.flag (mcPg m 0) R.PG_STATUS_READY &&
      (r != .hashed || s.flag (mcPg m 0) R.MC_HASH_OPEN)

/-- Whether an address lies in an enabled carve-out of controller m (R94): entries 16 m to 16 m + 15 of BOLT_CARVE (R92). -/
def State.carved (s : State) (m pa : Nat) : Bool :=
  (List.range 16).any (fun i =>
    let pg := boltPg (4 + m / 8)
    let e := 16 * (m % 8) + i
    s.flag pg (R.BOLT_CARVE_BASE_EN.nth e) && decide (s.fld pg (R.BOLT_CARVE_BASE_BASE.nth e) ≤ pa / 65536) &&
      decide (pa / 65536 ≤ s.fld pg (R.BOLT_CARVE_LIMIT_LIMIT.nth e)))

/-- The DRAM place of an address in its channel (R220, R222). -/
def State.placeOf (s : State) (pa : Nat) : DramAddr :=
  match s.channelOf pa with
  | some (m, a, _) => s.dramAddr m a
  | none => ⟨0, 0, 0, 0, 0, 0, 0⟩

/-- Whether class k's bank groups hold an address under ORDER 3 (R222). -/
def State.bgAllowed (s : State) (m k pa : Nat) : Bool :=
  s.mc2 m R.MC_MAP_ORDER != 3 || bitN (s.fld (mcPg m 0) (R.MC_BGMASK_MASK.ofClass k)) (s.placeOf pa).bg

/-- Put a command into the command journal (R241, R250): 64 entries, newest first. -/
def State.journalCmd (s : State) (m d kind sub rank cid bg bank cls arg : Nat) : State :=
  let w := (d % 2 ^ 24) <<< 40 + sub <<< 39 + rank <<< 38 + cid <<< 36 + kind <<< 32 + bg <<< 29 + bank <<< 27 + cls <<< 23 + arg % 2 ^ 18
  s.setMc m { s.mc m with cmds := (w64 w :: (s.mc m).cmds).take 64 }

/-- A command to every rank of both subchannels (R230, R231, R240). -/
def State.journalAll (s : State) (m d kind arg : Nat) : State :=
  [0, 1].foldl (fun s sub => (List.range (1 + s.mc2 m R.MC_CFG_RANKS)).foldl (fun s r => s.journalCmd m d kind sub r 0 0 0 0 arg) s) s

/-- ZQ calibration begins (R230, R233): an MPC of opcode 5 to every rank. PRESUMED, from JESD79-5C: the opcode (log entry 107). -/
def State.startZq (s : State) (m d : Nat) : State :=
  let s1 := s.journalAll m d 9 0x0500
  s1.setMc m { s1.mc m with zqAt := s.tb }

/-- A request whose inbound crossing ends at dclk d finds the channel in self-refresh (R231): SRX at the next dclk edge, and no command
before tRFC + 8 after it. -/
def State.exitSr (s : State) (m d : Nat) : State :=
  if (s.mc m).selfRefresh then
    let s1 := s.journalAll m (d + 1) 11 0
    (s1.setMc m { s1.mc m with selfRefresh := false, cmdFrom := d + 1 + s.mc2 m R.MC_REF_TRFC + 8 }).setFld (mcPg m 0) R.MC_SR_IN_SR 0
  else s

/-- PREab and SRE to every rank at dclk d (R231, R240, R459). -/
def State.enterSrAt (s : State) (m d : Nat) : State :=
  let s1 := (s.journalAll m d 4 0).journalAll m d 10 0
  (s1.setMc m { s1.mc m with selfRefresh := true, banks := [], timing := [] }).setFld (mcPg m 0) R.MC_SR_IN_SR 1

/-- A request is gone from controller m at dclk d (R231). -/
def State.mcGone (s : State) (m d : Nat) : State := s.setMc m { s.mc m with lastReq := max (s.mc m).lastReq d }

/-- Answer a request of controller m at dclk d (R171, R229). -/
def State.mcAnswer (s : State) (m d : Nat) (r : Flit) : State := (s.mcGone m d).sendAt (s.outOfMcAt m d) r

/-- DATA for a read. -/
def mcData (f : Flit) (l : Line) (poison : Bool) : Flit :=
  { replyTo f .rsp OP_DATA with data := l, poison := poison, detail := f.detail }

/-- Which copy of a mirrored line controller m holds. -/
def State.mcCopy (s : State) (m : Nat) : Nat := if s.mirrored then m % 2 else 0

/-- The requests of a class that stand in controller m's ingress queue ahead of f, in their order. -/
def State.mcAhead (s : State) (m : Nat) (f : Flit) : List Flit :=
  ((Tab.get [] s.mesh.ingress (8 * mcStop m + 1)).takeWhile (fun g => g != f)).filter (fun g => g.cls == f.cls)

/-- Whether a class holds its 16 journal entries (R228). -/
def Mc.journalFull (v : Mc) (k : Cls) : Bool := decide (16 ≤ (v.journal.filter (fun e => e.f.cls == k)).length)

/-- Whether a request waits behind a write of its class that has no journal entry: DEDUCED, the queue of a class keeps its order (log
entry 108). -/
def State.mcBlocked (s : State) (m : Nat) (f : Flit) : Bool :=
  (s.mc m).journalFull f.cls && (s.mcAhead m f).any (fun g => g.op == OP_WRLINE)

/-- A request that waits stays in its ingress queue, or is bounced when that is full (R228, R241). -/
def State.mcWaits (s : State) (f : Flit) : State :=
  if (Tab.get [] s.mesh.ingress (8 * f.dst.val + f.dport.val)).contains f then s else s.accept f

/-- Whether a release has retired channel m (R242): one retired by failed training was never READY (R488). -/
def State.mcRetired (s : State) (m : Nat) : Bool := s.flag (mcPg m 0) R.PG_STATUS_RETIRED && s.flag (mcPg m 0) R.PG_STATUS_READY

/-- A read whose crossing into controller m ends at dclk d (R221, R222, R228, R229, R231, R242). -/
def State.mcReadAt (s : State) (m d : Nat) (f : Flit) : State :=
  let pg := mcPg m 0
  let pa := f.addr.toNat
  if s.flag pg R.PG_STATUS_FROZEN || s.mcBlocked m f then s.mcWaits f
  else
    let s := s.taken f
    let sec := s.secureClass f.cls.val
    if s.mcRetired m then
      (s.record pg 1 0x1011 (lineBase pa) 0 sec).mcAnswer m (d + 4) (mcData f 0 true)
    else if !s.mcServesAddr m pa || (!sec && s.carved m pa) || !s.bgAllowed m f.cls.val pa then
      s.mcAnswer m (d + 4) (replyTo f .rsp OP_ERROR)
    else
      let s1 := s.exitSr m d
      let v := s1.mc m
      let queue := s1.setMc m { v with reads := v.reads ++ [⟨f, d + 4, false, false⟩] }
      -- the newest journaled write to the line (R228)
      match (v.journal.filter (fun e => lineOf e.f.addr.toNat == lineOf pa)).getLast? with
      | some e =>
        if e.f.key = f.key then (s1.count (mcPg m 3) 0x07 (some f.cls.val) 1).mcAnswer m (d + 6) (mcData f e.f.data e.f.poison)
        else queue
      | none => queue

/-- A write takes a journal entry of its class and is answered 4 dclk later (R228); under mirroring a write its partner cannot take enters
the resync list (R246). -/
def State.mcJournal (s : State) (m d : Nat) (f : Flit) : State :=
  let v := s.mc m
  let partner := if m % 2 = 0 then m + 1 else m - 1
  let s1 := s.setMc m { v with journal := v.journal ++ [⟨f, none, false⟩] }
  let s2 := if s.mirrored && !s.mcReads partner then
      let v1 := s1.mc m
      let l := lineOf f.addr.toNat
      if v1.resync.contains l then s1
      else if 4096 ≤ v1.resync.length then s1.setFld (mcPg m 0) R.MC_MIRROR_OVERFLOW 1
      else (s1.setMc m { v1 with resync := v1.resync ++ [l] }).setFld (mcPg m 0) R.MC_MIRROR_LIST (v1.resync.length + 1)
    else s1
  s2.mcAnswer m (d + 4) (replyTo f .rsp OP_ACK)

/-- A write whose crossing into controller m ends at dclk d (R94, R222, R228, R242): one without a free entry of its class waits in the
ingress queue. A line a slice writes back is never refused for its bank group. -/
def State.mcWriteAt (s : State) (m d : Nat) (f : Flit) : State :=
  let pg := mcPg m 0
  let pa := f.addr.toNat
  if s.flag pg R.PG_STATUS_FROZEN || s.mcBlocked m f then s.mcWaits f
  else
    let t := s.taken f
    let sec := s.secureClass f.cls.val
    let ack := replyTo f .rsp OP_ACK
    let victim := f.sport == 2 && (stopTile? f.src.val).isSome
    if s.mcRetired m then
      (t.bump (mcPg m 1) R.MC_FF_STATUS_DROPPED 1).mcAnswer m (d + 4) ack
    else if !s.mcServesAddr m pa then t.mcAnswer m (d + 4) (replyTo f .rsp OP_ERROR)
    else if !sec && s.carved m pa then (t.record pg 2 0xA102 (lineBase pa) 0 sec).mcAnswer m (d + 4) ack
    else if !victim && !s.bgAllowed m f.cls.val pa then (t.record pg 2 0xA101 (lineBase pa) 0 sec).mcAnswer m (d + 4) ack
    else if (s.mc m).journalFull f.cls then (s.exitSr m d).mcWaits f
    else (t.exitSr m d).mcJournal m d f

/-- A read enters controller m. -/
def State.mcRead (s : State) (m : Nat) (f : Flit) : State := s.mcReadAt m (s.intoMcAt m s.now) f
/-- A write enters controller m. -/
def State.mcWrite (s : State) (m : Nat) (f : Flit) : State := s.mcWriteAt m (s.intoMcAt m s.now) f

/-- The requests of the classes that satisfy p and wait in controller m's ingress queue are presented again in their order (R228, R241):
their crossings have ended. -/
def State.mcResume (s : State) (m : Nat) (p : Cls → Bool) : State :=
  ((Tab.get [] s.mesh.ingress (8 * mcStop m + 1)).filter (fun f => f.plane == .req && p f.cls)).foldl (fun s f =>
    if f.op = OP_WRLINE then s.mcWriteAt m (s.dclk m) f else s.mcReadAt m (s.dclk m) f) s

-- the code word (R235-R237)

/-- The symbol, and the bit of it, that a lane of a subchannel carries at a beat (R235). -/
def symbolOf (lane beat : Nat) : Nat := 8 * (lane / 4) + beat / 2
def symbolBitOf (lane beat : Nat) : Nat := lane % 4 + 4 * (beat % 2)

/-- The device that drives a symbol (R235): eight symbols each; an x8 device counts as two. -/
def symbolDevice (sym : Nat) : Nat := sym / 8
/-- The symbols a device drives (R235). -/
def deviceSymbols (dev : Nat) : List Nat := (List.range 8).map (fun b => 8 * dev + b)

/-- Check symbol i of P, the vector that marks poison (R237). -/
def poisonSymbol (i : Nat) : Nat := if i % 2 = 0 then 0x5A else 0xA5

/-- The 80 symbols of the codeword of a stored line (R235, R237): symbols 0 to 63 are its bytes, 64 to 79 the check symbols, with P added
to poison. -/
def codeword (l : Line) (poison : Bool) : List Nat :=
  let c := natBytes 16 (Config.codeSymbols l).toNat
  natBytes 64 l.toNat ++ (if poison then List.zipWith Nat.xor c ((List.range 16).map poisonSymbol) else c)

/-- What a lane carries at a beat of the burst of a codeword (R235). -/
def burstBit (c : List Nat) (lane beat : Nat) : Bool := bitN (c.getD (symbolOf lane beat) 0) (symbolBitOf lane beat)

/-- Whether all errors of a codeword are corrected (R236): 8 symbols, or those of the marked device and 4 more. -/
def State.correctable (s : State) (m : Nat) (p : DramAddr) (errs : List Nat) : Bool :=
  let k := 2 * p.sub + p.rank
  if s.flag (mcPg m 0) (R.MC_ECC_VALID k) then
    let dev := s.fld (mcPg m 0) (R.MC_ECC_DEV k)
    decide ((errs.filter (fun e => symbolDevice e != dev)).length ≤ 4)
  else decide (errs.length ≤ 8)

/-- The controller marks device dev of slot k (subchannel and rank) failed itself, where AUTO and the DIMM allow it (R236). -/
def State.markDevice (s : State) (m k dev : Nat) : State :=
  let pg := mcPg m 0
  if s.flag pg R.MC_ECC_AUTO ∧ !s.flag pg (R.MC_ECC_VALID k) ∧ s.mc2 m R.MC_CFG_WIDTH = 0 then
    (((s.setFld pg (R.MC_ECC_VALID k) 1).setFld pg (R.MC_ECC_DEV k) dev).record pg 0 0x1003 0
      (k / 2 <<< 5 + k % 2 <<< 4 + dev) false).pulse (mcSource m 1) |>.raiseHealth 1 (s.fld (rasPg 0) R.RAS_LOG_SEQ_NEXT)
  else s

/-- Corrections of device dev of slot k in this scrub pass (R236). -/
def State.corrections (s : State) (m k dev : Nat) : Nat := Tab.get 0 (s.mc m).devCorr (16 * k + dev)

/-- Corrections attributed to one device of a rank reach THRESH: it is marked failed (R236). -/
def State.autoMark (s : State) (m : Nat) (p : DramAddr) (errs : List Nat) : State :=
  match errs with
  | [] => s
  | e :: t =>
    let dev := symbolDevice e
    if t.any (fun x => symbolDevice x != dev) then s
    else
      let k := 2 * p.sub + p.rank
      let n := s.corrections m k dev + 1
      let s1 := s.setMc m { s.mc m with devCorr := Tab.set 0 (s.mc m).devCorr (16 * k + dev) n }
      if s.fld (mcPg m 0) R.MC_ECC_THRESH ≤ n then s1.markDevice m k dev else s1

/-- MC_ECC has been written, the word before it `old` (R236): a device whose corrections reach what THRESH and AUTO now ask, and did not
before, is marked failed. -/
def State.eccRecheck (s : State) (m old : Nat) : State :=
  let before (n : Nat) : Bool := bitN old 63 && decide (bits old 55 48 ≤ n)
  (List.range 4).foldl (fun s k => (List.range 10).foldl (fun s dev =>
    let n := s.corrections m k dev
    if !before n && decide (s.fld (mcPg m 0) R.MC_ECC_THRESH ≤ n) && decide (0 < n) then s.markDevice m k dev else s) s) s

-- the freeze (R240-R243)

/-- First dclk of the window occurrence that opened a bank (R224). -/
def State.bankWindow (s : State) (m : Nat) (f0 : Nat) (b : Bank) : Nat := f0 + s.frameLen m * ((b.win - 1) / 32) + s.winStart m ((b.win - 1) % 32)

/-- The guards that have ended by dclk d close the banks their windows left open (R227): under ORDER 0 to 2 all of them, by PREab to
their rank; under ORDER 3 those outside the bank groups of the class, by PRE. A PRE issues after LAST, when the bank's last access lets it:
DESIGN CHOICE (log entry 109). -/
def State.guardClose (s : State) (m d : Nat) : State :=
  match (s.mc m).frame0 with
  | none => s
  | some f0 =>
    let T (f : Field) : Nat := s.mc2 m f
    let three := T R.MC_MAP_ORDER == 3
    let ends := (s.mc m).banks.filter (fun e => e.2.row.isSome && decide (s.bankWindow m f0 e.2 + T R.MC_WIN_LEN ≤ d) &&
      !(three && bitN (s.fld (mcPg m 0) (R.MC_BGMASK_MASK.ofClass e.2.cls)) (e.1 / 4 % 8)))
    let pre (b : Bank) : Nat := max (s.bankWindow m f0 b + T R.MC_WIN_LAST + 1) (max (b.act + T R.MC_TIM0_RAS)
      (max (if b.rd = 0 then 0 else b.rd + T R.MC_TIM0_RTP) (if b.wr = 0 then 0 else b.wr + T R.MC_TIM0_CWL + 4 + T R.MC_TIM0_WR)))
    if three then
      ends.foldl (fun s e =>
        let t := pre e.2
        let s1 := s.journalCmd m t 3 (e.1 / 256) (e.1 / 128 % 2) (e.1 / 32 % 4) (e.1 / 4 % 8) (e.1 % 4) e.2.cls 0
        s1.setMc m { s1.mc m with banks := Tab.set {} (s1.mc m).banks e.1 { e.2 with row := none, pre := t } }) s
    else
      (List.range 4).foldl (fun s r =>
        let mine := ends.filter (fun e => e.1 / 128 == r)
        match mine with
        | [] => s
        | e :: _ =>
          let t := mine.foldl (fun t x => max t (pre x.2)) 0
          let s1 := s.journalCmd m t 4 (r / 2) (r % 2) 0 0 0 e.2.cls 0
          mine.foldl (fun s x => s.setMc m { s.mc m with banks := Tab.set {} (s.mc m).banks x.1 { x.2 with row := none, pre := t } }) s1) s

/-- Reads in the order in which they entered (R242). -/
def insertRead (r : McRead) : List McRead → List McRead
  | [] => [r]
  | x :: t => if r.at_ < x.at_ then r :: x :: t else x :: insertRead r t
def oldestFirst (l : List McRead) : List McRead := l.foldl (fun l r => insertRead r l) []

/-- The channel freezes (R240, R250): cause 1 an uncorrectable read at `pa`, 2 a CA parity error. Every read not yet delivered
is held, and the failing one has failed once. The syndromes are a free value, since the model holds which symbols err and not what they hold. -/
def State.freezeMc (s : State) (m d cause pa : Nat) (failing : List McRead) : State :=
  let s := s.guardClose m d
  let v := s.mc m
  let ff := mcPg m 1
  let held := oldestFirst (v.held ++ failing.map (fun r => { r with again := true }) ++ v.flight.map (·.r) ++ v.reads)
  let x := s.draw 64
  let y := x.2.draw 64
  let syn0 := if cause = 1 then x.1.toNat else 0
  let syn1 := if cause = 1 then y.1.toNat else 0
  let s0 : State := if cause = 1 then y.2 else s
  let s1 := s0.setMc m { v with reads := [], flight := [], held := held, frozenAt := some (d, s.tb), frozenSr := false }
  let s2 := ((s1.setFld ff R.MC_FF_STATUS_VALID 1).setFld ff R.MC_FF_STATUS_CAUSE cause).bump ff R.MC_FF_STATUS_COUNT 1
  let s3 := (s2.setReg (ff + 0x108) s.tb).setReg (ff + 0x110) (if cause = 1 then lineBase pa + bits pa 6 6 <<< 5 else 0)
  let s4 := (s3.setReg (ff + 0x118) syn0).setReg (ff + 0x120) syn1
  let s5 := s4.setReg (ff + 0x128) (v.journal.length <<< 32 + (held.length % 128) <<< 16 + v.cmds.length)
  let s6 := (List.range 64).foldl (fun s i => s.setReg (ff + 0x200 + 8 * i) (v.cmds.getD i 0).toNat) s5
  let s7 := s6.setFld (mcPg m 0) R.PG_STATUS_FROZEN 1
  let s8 := if cause = 1 then s7.record (mcPg m 0) 2 0x1010 (lineBase pa) syn0 false
            else s7.record (mcPg m 0) 2 0x2001 0 (v.cmds.getD 0 0).toNat false
  let s9 := if s.mirrored then s8.raiseHealth 1 (s8.fld (rasPg 0) R.RAS_LOG_SEQ_NEXT) else s8
  s9.pulse (mcSource m 0)

/-- What a read of a line finds (R237, R239): clean data, corrected data, poison, or nothing. -/
inductive Decoded where
  | data (l : Line) (corrected erasure : Bool)
  | poison (l : Line)
  | lost
  deriving DecidableEq, Repr

/-- Decode a stored line of channel m for a read under key index k. -/
def State.decodeLine (s : State) (m pa : Nat) (k : KeyIx) : Decoded :=
  let a := s.lineAttr pa (s.mcCopy m)
  let p := s.placeOf pa
  let l := crossKey a.key (s.keyOf k.val) pa (s.memLine (copyAddr pa (s.mcCopy m)))
  if !s.correctable m p a.errs then .lost
  else if a.poison then .poison l
  else .data l (!a.errs.isEmpty) (s.flag (mcPg m 0) (R.MC_ECC_VALID (2 * p.sub + p.rank)))

/-- Read data comes back at dclk d and is decoded (R236, R237, R242, R244, R245). -/
def State.mcDeliver (s : State) (m d : Nat) (r : McRead) : State :=
  let f := r.f
  let pa := f.addr.toNat
  let pg := mcPg m 0
  let sec := s.secureClass f.cls.val
  let syn := s.draw 64
  let s := s.count (mcPg m 3) 0x01 (some f.cls.val) 1
  match s.decodeLine m pa f.key with
  | .data l corrected erasure =>
    let s1 := if corrected then
        ((({ s with free := syn.2.free }).record pg 0 (if erasure then 0x1002 else 0x1001) (lineBase pa) syn.1.toNat sec).count
          (mcPg m 3) 0x0B none 1).autoMark m (s.placeOf pa) (s.lineAttr pa (s.mcCopy m)).errs
      else s
    let s2 := if f.detail = 1 ∧ s.mirrored then s1.record pg 0 0x1020 (lineBase pa) 0 sec else s1
    s2.mcAnswer m d (mcData f l false)
  | .poison l => (s.record pg 1 0x1011 (lineBase pa) 0 sec).mcAnswer m d (mcData f l true)
  | .lost =>
    if r.again then (s.record pg 1 0x1011 (lineBase pa) 0 sec).mcAnswer m d (mcData f 0 true)
    else if s.mirrored ∧ m % 2 = 0 ∧ s.mcReads (m + 1) then
      s.mcAnswer m d { replyTo f .rsp OP_ERROR with detail := 1 }
    else if s.mirrored ∧ m % 2 = 1 ∧ s.mcServes (m - 1) then
      s.freezeMc (m - 1) (s.dclk (m - 1)) 1 pa [{ r with f := { f with dst := Fin.ofNat 120 (mcStop (m - 1)) } }]
    else s.freezeMc m d 1 pa [r]

/-- Key of a bank of a channel. -/
def bankKey (p : DramAddr) : Nat := (((2 * p.sub + p.rank) * 4 + p.cid) * 8 + p.bg) * 4 + p.bank

/-- The next command a request needs, the dclk at which it may issue, and the dclk at which the state term then ends (R227,
R229): 0 ACT, 1 RD, 2 WR, 3 PRE. `occ` is the window's occurrence, `cls` its class, `t` the earliest dclk. A class finds open only what it
left open. -/
def State.nextCmd (s : State) (m occ cls t : Nat) (p : DramAddr) (write : Bool) : Nat × Nat × Nat :=
  let v := s.mc m
  let b := Tab.get {} v.banks (bankKey p)
  let u := Tab.get {} v.timing p.sub
  let T (f : Field) : Nat := s.mc2 m f
  let opened := b.row.isSome && (b.win == occ || (s.mc2 m R.MC_MAP_ORDER == 3 && b.cls == cls))
  if opened ∧ b.row = some p.row then
    let ccd := if u.colBg = p.bg then T R.MC_TIM1_CCD_L else T R.MC_TIM1_CCD_S
    let turn := if u.colWrite ∧ !write then T R.MC_TIM0_CWL + 4 + (if u.colBg = p.bg then T R.MC_TIM1_WTR_L else T R.MC_TIM1_WTR_S)
      else if u.colRank ≠ p.rank then 4 + T R.MC_TIM1_RTRS
      else if !u.colWrite ∧ write then T R.MC_TIM0_CL + 4 + T R.MC_TIM1_RTRS - T R.MC_TIM0_CWL else 0
    let e := max t (max (b.act + T R.MC_TIM0_RCD) (if u.used then u.col + max ccd turn else 0))
    (if write then 2 else 1, e, e)
  else if opened then
    let e := max t (max (b.act + T R.MC_TIM0_RAS) (max (if b.rd = 0 then 0 else b.rd + T R.MC_TIM0_RTP)
      (if b.wr = 0 then 0 else b.wr + T R.MC_TIM0_CWL + 4 + T R.MC_TIM0_WR)))
    (3, e, e + T R.MC_TIM0_RP + T R.MC_TIM0_RCD)
  else
    let rrd := if u.actBg = p.bg then T R.MC_TIM1_RRD_L else T R.MC_TIM1_RRD_S
    let e0 := match u.acts with
      | [] => t
      | a :: _ => max t (a + rrd)
    let e1 := if u.acts.length < 4 then e0 else max e0 (u.acts.getLastD 0 + T R.MC_TIM1_FAW)
    let e := if b.pre = 0 then e1 else max e1 (b.pre + T R.MC_TIM0_RP)
    (0, e, e + T R.MC_TIM0_RCD)

/-- A WR command stores its line (R237, R239, R249): encrypted under its key, with P added to poison, and with an armed
injection. Which symbols an injection alters is a free value. -/
def State.storeWrite (s : State) (m : Nat) (f : Flit) : State :=
  let pa := f.addr.toNat
  let v := s.mc m
  let hit : Option Nat := match v.inject with
    | some i => if i.line = lineOf pa then some i.kind else none
    | none => none
  let x := s.draw 8
  let errs := match hit with
    | some 1 => [x.1.toNat % 80]
    | some 2 => deviceSymbols (x.1.toNat % 10)
    | some _ => (List.range 9).map (fun i => (x.1.toNat + i) % 80)
    | none => []
  let s0 : State := if hit.isSome then x.2 else s
  let s1 := if hit.isSome then s0.setMc m { v with inject := none } else s0
  let s2 := s1.setMemLine (copyAddr pa (s1.mcCopy m)) f.data
  (s2.setLineAttr pa (s2.mcCopy m) ⟨s2.keyOf f.key.val, errs, f.poison⟩).count (mcPg m 3) 0x02 (some f.cls.val) 1

/-- A request that a window may serve: a read of the queue or an unissued write of the journal. -/
inductive McCand where
  | rd (i : Nat) (r : McRead)
  | wr (i : Nat) (e : JournalEntry)

def McCand.flit : McCand → Flit
  | .rd _ r => r.f
  | .wr _ e => e.f
def McCand.isWrite : McCand → Bool
  | .rd _ _ => false
  | .wr _ _ => true

/-- The requests of class k on a subchannel that its window considers, oldest first (R227, R228). -/
def State.candidates (s : State) (m sub k : Nat) : List McCand :=
  let v := s.mc m
  let mine (f : Flit) : Bool := f.cls.val == k && bits f.addr.toNat 6 6 == sub
  let reads := (v.reads.zip (List.range v.reads.length)).filter (fun r => mine r.1.f &&
    !v.journal.any (fun e => e.issued.isNone && lineOf e.f.addr.toNat == lineOf r.1.f.addr.toNat && e.f.key != r.1.f.key))
  let writes := (v.journal.zip (List.range v.journal.length)).filter (fun e => mine e.1.f && e.1.issued.isNone)
  let held := (v.journal.filter (fun e => e.f.cls.val == k)).length
  let allReads := v.reads.filter (fun r => r.f.cls.val == k)
  if (allReads.isEmpty || decide (12 ≤ held)) && !writes.isEmpty then writes.map (fun e => .wr e.2 e.1)
  else if reads.isEmpty then writes.map (fun e => .wr e.2 e.1)
  else reads.map (fun r => .rd r.2 r.1)

/-- Replace the i-th element. -/
def setNth {α : Type} : Nat → α → List α → List α
  | _, _, [] => []
  | 0, v, _ :: t => v :: t
  | n + 1, v, a :: t => a :: setNth n v t
/-- Remove the i-th element. -/
def delNth {α : Type} : Nat → List α → List α
  | _, [] => []
  | 0, _ :: t => t
  | n + 1, a :: t => a :: delNth n t

/-- Mark that a command has been issued for a request. -/
def State.markSeen (s : State) (m : Nat) : McCand → State
  | .rd i r => s.setMc m { s.mc m with reads := setNth i { r with seen := true } (s.mc m).reads }
  | .wr i e => s.setMc m { s.mc m with journal := setNth i { e with seen := true } (s.mc m).journal }

/-- Issue one command for a request at dclk d (R227, R229, R241). -/
def State.issueCmd (s : State) (m occ kind d : Nat) (c : McCand) : State :=
  let f := c.flit
  let p := s.placeOf f.addr.toNat
  let v := s.mc m
  let b := Tab.get {} v.banks (bankKey p)
  let u := Tab.get {} v.timing p.sub
  let seen := match c with
    | .rd _ r => r.seen
    | .wr _ e => e.seen
  let ev := if kind = 3 then 0x05 else if kind = 0 then (if b.refreshed then 0x06 else 0x04) else 0x03
  let s0 := (s.toDclk m d).journalCmd m d kind p.sub p.rank p.cid p.bg p.bank f.cls.val (if kind = 0 then p.row else p.col)
  let s1 := if seen then s0 else (s0.count (mcPg m 3) ev (some f.cls.val) 1).markSeen m c
  let put (s : State) (b : Bank) (u : SubTiming) : State :=
    s.setMc m { s.mc m with banks := Tab.set {} (s.mc m).banks (bankKey p) b, timing := Tab.set {} (s.mc m).timing p.sub u, caNext := false }
  match kind with
  | 0 => put s1 { b with row := some p.row, win := occ, cls := f.cls.val, act := d, refreshed := false, rd := 0, wr := 0 }
      { u with acts := (d :: u.acts).take 4, actBg := p.bg }
  | 3 => put s1 { b with row := none, pre := d } u
  | _ =>
    let s2 := put s1 (if kind = 2 then { b with wr := d } else { b with rd := d })
      { u with col := d, colBg := p.bg, colRank := p.rank, colWrite := kind == 2, used := true }
    match c with
    | .rd i r =>
      let out := d + s.mc2 m R.MC_TIM0_CL + 4 + 6 + 3 + (if f.key = 0 then 0 else 8)
      s2.setMc m { s2.mc m with reads := delNth i (s2.mc m).reads, flight := (s2.mc m).flight ++ [⟨r, out⟩] }
    | .wr i e =>
      (s2.setMc m { s2.mc m with journal := setNth i { e with issued := some d, seen := true } (s2.mc m).journal }).mcGone m d |>.storeWrite m f

/-- Window `win` of a subchannel issues its next command (R227, R229): first ready, first come, first served among its class's
requests whose state term ends by LAST. -/
def State.mcIssue (s : State) (m sub win : Nat) : State :=
  match (s.mc m).frame0, s.winOwner m win with
  | some f0, some k =>
    let last := s.mc2 m R.MC_WIN_LAST
    let len := s.frameLen m
    let d0 := max (s.dclk m) (s.mc m).cmdFrom
    let start := nextStart f0 len (s.winStart m win) (d0 - last)
    let occ := 32 * ((start - f0) / (max len 1)) + win + 1
    let t0 := max d0 start
    if s.flag (mcPg m 0) R.PG_STATUS_FROZEN || (s.mc m).selfRefresh || decide (32 ≤ win) || len == 0 then s
    else
      let s := s.guardClose m start
      let cand := s.candidates m sub k
      let at_ (c : McCand) : Nat := match c with
        | .rd _ r => max t0 r.at_
        | .wr _ _ => t0
      let cmd (c : McCand) : Nat × Nat × Nat := s.nextCmd m occ k (at_ c) (s.placeOf c.flit.addr.toNat) c.isWrite
      let fits := cand.filter (fun c => decide ((cmd c).2.2 ≤ start + last))
      let pick := match fits.find? (fun c => (cmd c).1 == 1 || (cmd c).1 == 2) with
        | some c => some c
        | none => fits.head?
      match pick with
      | some c => let x := cmd c
                  s.issueCmd m occ x.1 x.2.1 c
      | none => s
  | _, _ => s

/-- Complete a read with poison (R242). -/
def State.poisonRead (s : State) (m code : Nat) (r : McRead) : State :=
  (s.record (mcPg m 0) 1 code (lineBase r.f.addr.toNat) 0 (s.secureClass r.f.cls.val)).mcAnswer m (s.dclk m) (mcData r.f 0 true)

/-- 64 dclk after the freeze (R240): MRW clears the devices' parity status, then PREab and SRE to every rank; the frame is suspended. -/
def State.freezeSr (s : State) (m : Nat) : State :=
  match (s.mc m).frozenAt with
  | some (d, _) =>
    if (s.mc m).frozenSr then s
    else
      let t := d + 64
      let s1 := ((s.toDclk m t).journalAll m t 7 0).enterSrAt m t
      s1.setMc m { s1.mc m with frozenSr := true, stopped := some t }
  | none => s

/-- A journaled write is performed again by a release (R242): ACT, WR and PRE, from dclk t on. Answers the state and the dclk at which the
next write begins. -/
def State.replayWrite (s : State) (m t : Nat) (f : Flit) : State × Nat :=
  let T (f : Field) : Nat := s.mc2 m f
  let p := s.placeOf f.addr.toNat
  let cmd (s : State) (d kind arg : Nat) : State := s.journalCmd m d kind p.sub p.rank p.cid p.bg p.bank f.cls.val arg
  let w := t + T R.MC_TIM0_RCD
  let u := max (t + T R.MC_TIM0_RAS) (w + T R.MC_TIM0_CWL + 4 + T R.MC_TIM0_WR)
  ((cmd (cmd (cmd s t 0 p.row) w 2 p.col) u 3 0).storeWrite m f, u + T R.MC_TIM0_RP)

/-- Release of a frozen channel (R242, R243, R246): 1 RETRY, 2 POISON, 3 RETIRE. One before the 64 dclk of R240 have passed waits for them.
RETIRE powers the PHY down: its pages are no longer READY (DEDUCED, log entry 110). The frame restarts at the next aclk edge whose timebase is
a multiple of 64. -/
def State.releaseMc (s : State) (m mode : Nat) (timedOut : Bool) : State :=
  let s := s.freezeSr m
  let d := s.dclk m
  let u := d + s.mc2 m R.MC_REF_TRFC + 8
  let s1 := ((s.toDclk m u).journalAll m d 11 0).journalAll m u 4 0
  let ff := mcPg m 1
  let s2 := (((s1.setMc m { s1.mc m with selfRefresh := false }).setFld (mcPg m 0) R.MC_SR_IN_SR 0).setFld ff R.MC_FF_STATUS_LAST mode).setFld
    ff R.MC_FF_STATUS_TIMEDOUT (b01 timedOut)
  let v := s2.mc m
  if mode = 3 then
    let s3 := (v.held ++ v.reads).foldl (fun s r => s.mcAnswer m (s.dclk m) (mcData r.f 0 true)) s2
    let s4 := s3.setFld ff R.MC_FF_STATUS_DROPPED v.journal.length
    let s5 := s4.setMc m { s4.mc m with held := [], reads := [], journal := [], frozenAt := none, frame0 := none, stopped := none }
    let s6 := (s5.setFld (mcPg m 0) R.PG_STATUS_FROZEN 0).setFld (mcPg m 0) R.PG_STATUS_RETIRED 1
    let s7 := [0, 1].foldl (fun s sub => s.setFld (phyPg m sub) R.PG_STATUS_READY 0) s6
    ((s7.record (mcPg m 0) 2 0x2003 0 0 false).markRetired R.RAS_MC_RET m).mcResume m (fun _ => true)
  else
    let x := v.journal.foldl (fun (x : State × Nat) e => x.1.replayWrite m x.2 e.f) (s2, u + s.mc2 m R.MC_TIM0_RP)
    let s3 := x.1.toDclk m x.2
    let s4 := if mode = 2 then v.held.foldl (fun s r => s.poisonRead m 0x1011 r) s3 else s3
    let v4 := s4.mc m
    let edge := ceilDiv (ceilDiv s4.now 96) 64 * 64
    let s5 := s4.setMc m { v4 with
      held := []
      reads := (if mode = 1 then v.held.map (fun r => { r with seen := false }) else []) ++ v4.reads
      journal := v4.journal.map (fun e => { e with issued := some (s4.dclk m), seen := true })
      banks := [], timing := [], frozenAt := none, frozenSr := false, stopped := none, frame0 := some (s4.aclkDclk m edge)
      shares := s4.writtenShares m }
    let s6 := s5.setFld (mcPg m 0) R.PG_STATUS_FROZEN 0
    -- a RETRY release of a mirrored channel copies what its partner wrote meanwhile (R246)
    let partner := if m % 2 = 0 then m + 1 else m - 1
    let lst := (s6.mc partner).resync
    let s7 := if mode = 1 ∧ s6.mirrored ∧ (!lst.isEmpty ∨ s6.flag (mcPg partner 0) R.MC_MIRROR_OVERFLOW) then
        (s6.setFld (mcPg m 0) R.MC_MIRROR_RESYNC 1).setFld (mcPg m 0) R.PG_STATUS_DEGRADED
          (s6.fld (mcPg partner 0) R.MC_MIRROR_OVERFLOW)
      else s6
    s7.mcResume m (fun _ => true)

/-- The physical address of a channel address (the inverse of R220, R223). -/
def State.paOf (s : State) (m a : Nat) : Nat :=
  let j := s.mc2 0 R.MC_ILV_JOIN * 2 ^ 30
  let base := m - (if s.mirrored then m % 2 else 0)
  if s.mc2 0 R.MC_ILV_MODE = 1 then dramBase + base * 2 ^ 38 + a
  else if a < j then dramBase + base * j + a
  else
    let w := if s.mirrored then 9 else 8
    let b := a - j
    let top := dramBase + 16 * j + (b >>> w) <<< 12
    let x := Nat.xor (Nat.xor base (bits top 19 16)) (bits top 27 24)
    top + (if s.mirrored then (x / 2 * 2) <<< 8 + b % 512 else x <<< 8 + b % 256)

end Sys2Proof.Machine
end

