-- ==== Sys2Proof/Machine/Sched.lean ====
section
/-! DEFINITION. The Ward's check of a schedule image and its load (05 R163-R169). -/

namespace Sys2Proof.Machine

/-- Why a schedule is refused (R167, R168): detail code, result, OUT2 and OUT3. -/
structure SchedFail where
  code : Nat
  result : Nat
  out2 : Nat := 0
  out3 : Nat := 0
  deriving DecidableEq, Repr

/-- OUT2 of the reply (R168). -/
def schedOut2 (plane cls stop slot dest reel : Nat) : Nat :=
  plane <<< 56 + cls <<< 48 + stop <<< 40 + slot <<< 32 + dest <<< 24 + reel <<< 16

/-- Every stop, plane and slot of the tables. -/
def schedPlaces : List (Nat × Nat × Nat) :=
  (List.range 120).flatMap (fun n => (List.range 4).flatMap (fun p => (List.range 24).map (fun s => (n, p, s))))

/-- The destination set of an entry in a reel position (R158). -/
def destSet (e n r : Nat) : List Nat := (List.range 120).filter (fun d => admits e n r d)

/-- The links of the X-first route from n to d, with the mclk at which a flit that enters the first one at t enters each
(R167): (4 x stop + direction, mclk). -/
def routeLinks : Nat → Nat → Nat → Nat → List (Nat × Nat)
  | 0, _, _, _ => []
  | fuel + 1, n, d, t =>
    match routeDir n d with
    | none => []
    | some dir =>
      match neighbour n dir with
      | none => []
      | some m => (4 * n + dir, t) :: routeLinks fuel m d (t + hopCost n m)

/-- Step 5 (R167): the first stop, plane, class and destination no entry of the class admits. -/
def Sched.uncovered (d : Sched) : Option (Nat × Nat × Nat × Nat) :=
  ((List.range 120).flatMap (fun n => (List.range 4).flatMap (fun p => (List.range 16).map (fun k => (n, p, k))))).findSome?
    (fun x =>
      let n := x.1
      let p := x.2.1
      let k := x.2.2
      if d.share p k = 0 then none
      else
        let slots := (List.range 24).filter (fun s => d.dealt p s == some k && bitN (d.entry n p s) 63)
        ((List.range 120).find? (fun t => t != n && !slots.any (fun s => (List.range d.reel).any (fun r => admits (d.entry n p s) n r t)))).map
          (fun t => (n, p, k, t)))

/-- Step 6 (R167): the first entry that can route over a failed link: stop, plane, slot, reel position, destination, link. -/
def State.schedOverFailed (s : State) (d : Sched) : Option (Nat × Nat × Nat × Nat × Nat × Nat) :=
  schedPlaces.findSome? (fun x =>
    let e := d.entry x.1 x.2.1 x.2.2
    if !bitN e 63 then none
    else (List.range d.reel).findSome? (fun r => (destSet e x.1 r).findSome? (fun t =>
      (routeLinks 20 x.1 t 0).findSome? (fun l =>
        if s.flag (meshPg (l.1 / 4)) (R.MS_LINK_FAILED x.2.1 (l.1 % 4)) then some (x.1, x.2.1, x.2.2, r, t, l.1) else none))))

/-- Every use of a link by the tables (R167): plane, link, mclk, and the entry (stop, slot, position) with its destination. -/
def Sched.uses (d : Sched) : List ((Nat × Nat × Nat) × (Nat × Nat × Nat × Nat)) :=
  (List.range d.reel).flatMap (fun r => schedPlaces.flatMap (fun x =>
    let e := d.entry x.1 x.2.1 x.2.2
    if !bitN e 63 then []
    else (destSet e x.1 r).flatMap (fun t =>
      (routeLinks 20 x.1 t (24 * r + x.2.2 + 2)).map (fun l => ((x.2.1, l.1, l.2), (x.1, x.2.2, r, t))))))

/-- Step 7 (R167): two entries that place flits on one link in one mclk of the reel; walked in the order of the rule. -/
def Sched.conflict (d : Sched) : Option ((Nat × Nat × Nat) × (Nat × Nat × Nat × Nat) × (Nat × Nat × Nat × Nat)) :=
  let step (a : Tab (Nat × Nat × Nat × Nat) × Option ((Nat × Nat × Nat) × (Nat × Nat × Nat × Nat) × (Nat × Nat × Nat × Nat)))
      (u : (Nat × Nat × Nat) × (Nat × Nat × Nat × Nat)) :
      Tab (Nat × Nat × Nat × Nat) × Option ((Nat × Nat × Nat) × (Nat × Nat × Nat × Nat) × (Nat × Nat × Nat × Nat)) :=
    match a.2 with
    | some _ => a
    | none =>
      let k := (u.1.1 * 480 + u.1.2.1) * (24 * d.reel) + u.1.2.2 % (24 * d.reel)
      match Tab.at? a.1 k with
      | some o => if o.1 = u.2.1 ∧ o.2.1 = u.2.2.1 ∧ o.2.2.1 = u.2.2.2.1 then a else (a.1, some (u.1, o, u.2))
      | none => (Tab.ins k u.2 a.1, none)
  (d.uses.foldl step ([], none)).2

/-- Step 8 (R167): a link and phase that entries of two classes share. -/
def Sched.phaseClash (d : Sched) : Option ((Nat × Nat × Nat) × (Nat × Nat × Nat × Nat) × (Nat × Nat × Nat × Nat)) :=
  let cls (p s : Nat) : Nat := (d.dealt p s).getD 16
  let step (a : Tab (Nat × Nat × Nat × Nat) × Option ((Nat × Nat × Nat) × (Nat × Nat × Nat × Nat) × (Nat × Nat × Nat × Nat)))
      (u : (Nat × Nat × Nat) × (Nat × Nat × Nat × Nat)) :
      Tab (Nat × Nat × Nat × Nat) × Option ((Nat × Nat × Nat) × (Nat × Nat × Nat × Nat) × (Nat × Nat × Nat × Nat)) :=
    match a.2 with
    | some _ => a
    | none =>
      let k := (u.1.1 * 480 + u.1.2.1) * 24 + u.1.2.2 % 24
      match Tab.at? a.1 k with
      | some o => if cls u.1.1 o.2.1 = cls u.1.1 u.2.2.1 then a else (a.1, some (u.1, o, u.2))
      | none => (Tab.ins k u.2 a.1, none)
  (d.uses.foldl step ([], none)).2

/-- A word of the image, read with key index 0 (R166). -/
def State.imageWord (s : State) (base off : Nat) : Nat := ((s.coherentWord 0 (base + off)).getD 0).toNat

/-- Step 1 (R166, R167): whether the image's format is right. -/
def State.schedFormat (s : State) (base : Nat) : Bool :=
  let h := s.imageWord base 0
  let b := bitN h 0
  let reel := bits h 15 8
  let entries := (List.range 11520).map (fun i => s.imageWord base (0x80 + 8 * i))
  base % 64 == 0 && region base == .dram && bits h 63 32 == 0x4E525343 && bits h 31 16 == 2 && bits h 7 1 == 0 &&
    s.imageWord base 0x10 == (if b then 0x80 else 0x16880) && (List.range 5).all (fun i => s.imageWord base (0x18 + 8 * i) == 0) &&
    (b || (decide (1 ≤ reel ∧ reel ≤ 64) && entries.all (fun e => bits e 62 56 == 0 && bits e 47 22 == 0 &&
      decide (bits e 55 52 ≤ 11) && decide (bits e 51 48 ≤ 9))))

/-- The schedule an image describes (R166). -/
def State.schedOf (s : State) (base : Nat) : Sched :=
  let h := s.imageWord base 0
  let shares := (List.range 64).map (fun i => bits (s.imageWord base (0x40 + i / 8 * 8)) (8 * (i % 8) + 7) (8 * (i % 8)))
  { shares := shares
    entries := if bitN h 0 then none
      else some (((List.range 11520).map (fun i => (i, w64 (s.imageWord base (0x80 + 8 * i))))).filter (fun e => e.2 != 0))
    reel := if bitN h 0 then 60 else bits h 15 8
    gen := (s.mesh.sched.gen + 1) % 2 ^ 16 }

/-- A class every plane must give a share (R163): class 15, and every class a VALID TCT entry names. -/
def State.needsShare (s : State) (k : Nat) : Bool :=
  k == 15 || (List.range 4096).any (fun t => tctValid (s.tctEntry t) && tctClass (s.tctEntry t) == k)

/-- The eight checks of R167, in order. -/
def State.schedCheck (s : State) (base : Nat) : Option SchedFail :=
  if !s.schedFormat base then some ⟨1, 3, 0, 0⟩
  else
    let d := s.schedOf base
    let f := s.mesh.sched
    let planes := List.range 4
    match planes.find? (fun p => decide (24 < (List.range 16).foldl (fun t k => t + d.share p k) 0)) with
    | some p => some ⟨2, 3, schedOut2 p 0 0 0 0 0, 0⟩
    | none =>
    match (planes.flatMap (fun p => (List.range 16).map (fun k => (p, k)))).find? (fun x => d.share x.1 x.2 == 0 && s.needsShare x.2) with
    | some x => some ⟨3, 3, schedOut2 x.1 0 0 0 0 0, 0⟩
    | none =>
    let secure : Option SchedFail :=
      if !s.bolted then none
      else match (planes.flatMap (fun p => (List.range 16).map (fun k => (p, k)))).find? (fun x =>
          s.secureClass x.2 && d.share x.1 x.2 != f.share x.1 x.2) with
        | some x => some ⟨4, 5, schedOut2 x.1 x.2 0 0 0 0, 0⟩
        | none => (schedPlaces.find? (fun x => match d.dealt x.2.1 x.2.2, f.dealt x.2.1 x.2.2 with
            | some k, some j => (s.secureClass k || s.secureClass j) && d.entry x.1 x.2.1 x.2.2 != f.entry x.1 x.2.1 x.2.2
            | some k, none => s.secureClass k
            | none, some j => s.secureClass j
            | none, none => false)).map (fun x => ⟨4, 5, schedOut2 x.2.1 ((d.dealt x.2.1 x.2.2).getD 0) x.1 x.2.2 0 0, 0⟩)
    match secure with
    | some e => some e
    | none =>
    match d.uncovered with
    | some (n, p, k, t) => some ⟨5, 6, schedOut2 p k n 0 t 0, 0⟩
    | none =>
    match s.schedOverFailed d with
    | some (n, p, sl, r, t, l) => some ⟨6, 6, schedOut2 p 0 n sl t r, (l / 4) <<< 56 + (l % 4) <<< 48⟩
    | none =>
    let out3 (u : Nat × Nat × Nat) (o : Nat × Nat × Nat × Nat) : Nat :=
      (u.2.1 / 4) <<< 56 + (u.2.1 % 4) <<< 48 + (u.2.2 % 24) <<< 40 + o.1 <<< 32 + o.2.1 <<< 24 + o.2.2.2 <<< 16 + o.2.2.1 <<< 8
    match d.conflict with
    | some (u, a, b) => some ⟨7, 6, schedOut2 u.1 0 a.1 a.2.1 a.2.2.2 a.2.2.1, out3 u b⟩
    | none =>
    match d.phaseClash with
    | some (u, a, b) => some ⟨8, 6, schedOut2 u.1 ((d.dealt u.1 a.2.1).getD 0) a.1 a.2.1 a.2.2.2 a.2.2.1, out3 u b⟩
    | none => none

/-- A schedule that passed goes into the shadow tables, and the swap edge is chosen (R169). -/
def State.armSched (s : State) (base : Nat) : State :=
  { s with mesh := { s.mesh with next := some (s.schedOf base), edge := some ((s.tb + 64 + 63) / 64 * 64), load := some base } }

/-- A Ward that restarts repeats a load whose swap a reset met, from step 1 (R170). -/
def State.repeatLoad (s : State) : State :=
  match s.mesh.load with
  | none => s
  | some base => if (s.schedCheck base).isNone then s.armSched base else s

end Sys2Proof.Machine
end

