-- ==== Sys2Proof/Machine/Ward.lean ====
section
/-! DEFINITION. The Ward (03 R72-R104, 14 R416, R442): the tenant class table and its apply edges, mailboxes and their
requests, keys, bolting, Safelight grants, and resets of the Ward. -/

namespace Sys2Proof.Machine

-- the tenant class table (R72-R76)

/-- Apply edge of a write performed now (R74, R212). -/
def State.applyEdge (s : State) : Nat := (s.tb + 64 + 63) / 64 * 64

/-- Address of the register of TCT entry t, and of TCT_APERTURE i (R72, R73). -/
def tctReg (t : Nat) : Nat := tctPg (t / 256) + 0x100 + 8 * (t % 256)
def apertureReg (i : Nat) : Nat := tctPg 0 + 0xA00 + 8 * i

/-- Perform a write of a TCT entry, or of an aperture (index 4,096 + i): every replica applies it at the apply edge; an earlier
write of it that waits is replaced (R74). -/
def State.tctWrite (s : State) (ix v : Nat) : State :=
  let a := if ix < 4096 then tctReg ix else apertureReg (ix - 4096)
  let s1 := s.setReg a v
  { s1 with tct := { s1.tct with pend := s1.tct.pend.filter (fun p => p.ix != ix) ++ [⟨ix, w64 v, s.applyEdge⟩] } }

/-- The next apply edge: the earliest waiting writes enter every replica (R74). -/
def State.tctApply (s : State) : State :=
  match s.tct.pend with
  | [] => s
  | p :: _ =>
    let s1 := s.toAclk p.edge
    let due := s.tct.pend.filter (fun q => decide (q.edge ≤ p.edge))
    let now := due.foldl (fun t q =>
      Tab.set (if q.ix < 4096 then w64 (tctReset q.ix) else if q.ix = 4096 then 0xFFE0000000000000#64 else 0) t q.ix q.value) s.tct.now
    { s1 with tct := ⟨now, s.tct.pend.filter (fun q => !decide (q.edge ≤ p.edge))⟩ }

/-- TCT_SYNC (R73). -/
def State.tctSync (s : State) : Nat :=
  match s.tct.pend.getLast? with
  | some p => 2 ^ 63 + p.edge
  | none => 0

/-- The value last written to an entry, in force or waiting. -/
def State.tctWritten (s : State) (t : Nat) : Nat := s.reg (tctReg t)
def State.apertureWritten (s : State) (i : Nat) : Nat := s.reg (apertureReg i)

/-- Whether a VALID entry names key index k, in force or waiting (R81). -/
def State.keyNamed (s : State) (k : Nat) : Bool :=
  (List.range 4096).any (fun t => (tctValid (s.tctEntry t) && tctKey (s.tctEntry t) == k) ||
    (tctValid (s.tctWritten t) && tctKey (s.tctWritten t) == k))

/-- What a tenant's clearing waits for (R76). -/
def State.tenantInUse (s : State) (t : Nat) : Bool :=
  (List.range 96).any (fun c => (List.range 16).any (fun ch =>
    s.fld (chanPg c ch) R.DMA_CH_TENANT_TENANT == t && decide (1 ≤ s.fld (chanPg c ch) R.DMA_CH_STATUS_STATE) &&
      decide (s.fld (chanPg c ch) R.DMA_CH_STATUS_STATE ≤ 3))) ||
  (List.range 256).any (fun d => s.flag (irtPg (1 + d / 128)) (R.DOM_CTL_EN.nth (d % 128)) &&
    s.fld (irtPg (1 + d / 128)) (R.DOM_CTL_OWNER.nth (d % 128)) == t) ||
  (List.range 6241).any (fun i => (targetInst i).isSome && s.flag (targetBase i) R.TGT_CTL_EN &&
    s.fld (targetBase i) R.TGT_CTL_TENANT == t) ||
  (List.range 8).any (fun p => (List.range 4).any (fun l => (List.range 256).any (fun i =>
    s.flag (linkPg p l) (R.FP_FN_VALID.nth i) && s.fld (linkPg p l) (R.FP_FN_TENANT.nth i) == t))) ||
  (List.range 32).any (fun b => s.flag (mbxPg b) R.WARD_MBX_ASSIGN_EN && s.fld (mbxPg b) R.WARD_MBX_ASSIGN_TENANT == t)

-- mailboxes (R85-R90)

def State.mbxState (s : State) (b : Nat) : MbxState := Tab.get {} s.ward.mbx b
def State.setMbxState (s : State) (b : Nat) (v : MbxState) : State :=
  { s with ward := { s.ward with mbx := Tab.set {} s.ward.mbx b v } }

/-- IN register i, OUT register i (R85). -/
def State.mbxIn (s : State) (b i : Nat) : Nat := s.reg (mbxPg b + 0x200 + 8 * i)
def State.mbxCmd (s : State) (b : Nat) : Nat := bits (s.mbxIn b 0) 63 48
def State.mbxLen (s : State) (b : Nat) : Nat := bits (s.mbxIn b 0) 47 40

-- result codes (R90)
def RES_OK : Nat := 0
def RES_UNKNOWN : Nat := 1
def RES_DENIED : Nat := 2
def RES_BADARG : Nat := 3
def RES_INUSE : Nat := 4
def RES_BOLTED : Nat := 5
def RES_CHECK : Nat := 6
def RES_TIMEOUT : Nat := 7
def RES_AUTH : Nat := 8
def RES_INTERNAL : Nat := 0xFF

/-- The header of a vendor-defined message to the BMC about mailbox b (R529): 0x81 DONE, 0x82 REJECTED, 0x83 DENIED. -/
def bmcHeader (b kind seq : Nat) : List Byte := [0x7E, 0x1D, 0x4E, BitVec.ofNat 8 b, BitVec.ofNat 8 kind] ++ leBytes 2 seq

/-- A message for the BMC (R528). -/
def State.toBmc (s : State) (m : List Byte) : State := { s with sideband := { s.sideband with out := s.sideband.out ++ [m] } }

/-- The bytes of registers OUTi to OUT(n) of mailbox b. -/
def State.outBytes (s : State) (b i n : Nat) : List Byte :=
  (List.range (n + 1 - i)).flatMap (fun j => leBytes 8 (s.reg (mbxPg b + 0x300 + 8 * (i + j))))

/-- A request of the BMC that is DONE is answered (R528, R529): b in bmcBusy for a mailbox request, 32 + b for an SPDM message. -/
def State.bmcDone (s : State) (b : Nat) : State :=
  let n := bits (s.reg (mbxPg b + 0x300)) 47 40
  let st := s.reg (mbxPg b + 0x100)
  let busy := s.sideband.bmcBusy
  let s1 : State := { s with sideband := { s.sideband with bmcBusy := busy.filter (fun x => x != b && x != 32 + b) } }
  if busy.contains b then s1.toBmc (bmcHeader b 0x81 (bits st 15 0) ++ leBytes 8 st ++ s.outBytes b 0 n)
  else if busy.contains (32 + b) then s1.toBmc (0x05 :: s.outBytes b 1 n)
  else s1

/-- STATE becomes DONE with a result and a reply; source 1,792 + b is raised (R87). -/
def State.mbxPublish (s : State) (b result : Nat) (out : List Word) : State :=
  let pg := mbxPg b
  let w0 := s.mbxCmd b <<< 48 + out.length <<< 40
  let s1 := (out.zip (List.range out.length)).foldl (fun s x => s.setReg (pg + 0x308 + 8 * x.2) x.1.toNat) (s.setReg (pg + 0x300) w0)
  (((s1.setFld pg R.WARD_MBX_STATUS_STATE 3).setFld pg R.WARD_MBX_STATUS_RESULT result).pulse (1792 + b)).bmcDone b

/-- The request of mailbox b is served (R87, R88): on MBX8 to MBX23 the reply is held for the command's fixed time, in aclk. -/
def State.mbxFinish (s : State) (b result fixed : Nat) (out : List Word) : State :=
  let m := s.mbxState b
  if 8 ≤ b ∧ b ≤ 23 then s.setMbxState b { m with held := some ⟨m.edge + fixed, result, out⟩, waiting := false }
  else (s.setMbxState b { m with waiting := false }).mbxPublish b result out

/-- Commands: number, the mailboxes that take it, and its LEN (none: any) (R89). -/
def mbxCommands : List (Nat × (Nat → Bool) × Option Nat) :=
  let fw (b : Nat) : Bool := decide (b < 8)
  let bmc (b : Nat) : Bool := decide (24 ≤ b ∧ b < 28)
  let fm (b : Nat) : Bool := decide (28 ≤ b)
  [(0x0001, fun _ => true, some 0), (0x0002, fw, some 8), (0x0008, fw, some 0), (0x0010, fw, some 2), (0x0011, fw, some 1),
   (0x0012, fw, some 2), (0x0018, fw, some 1), (0x0020, fw, some 1), (0x0021, fw, some 11), (0x0022, fw, some 1),
   (0x0030, fw, some 1), (0x0040, bmc, some 1), (0x0041, bmc, some 2), (0x0050, fw, some 1), (0x0060, bmc, some 0),
   (0x0061, bmc, some 26), (0x0070, fun b => fw b || bmc b, some 1), (0x0080, fw, some 3),
   (0x0090, fun b => decide (8 ≤ b ∧ b < 28), none), (0x0100, fm, some 3), (0x0101, fm, some 2), (0x0102, fm, some 14),
   (0x0103, fm, some 1)]

/-- The Ward runs again after a reset of its own (R84; log entry 89): the limits of the requests it had are counted from now, and a load whose swap the reset
met is repeated (R170). -/
def State.wardRestarts (s : State) : State :=
  if s.ward.running then s
  else
    let s1 := (List.range 32).foldl (fun s b =>
      let m := s.mbxState b
      if m.again then s.setMbxState b { m with edge := ceilDiv s.now 96, again := false } else s) s
    { s1 with ward := { s1.ward with running := true } }.repeatLoad

/-- The Ward takes a PENDING request (R87, R88): STATE becomes BUSY, and a request it does not know, does not allow on this
mailbox, or refuses for its LEN is completed. -/
def State.mbxAck (s : State) (b : Nat) : State :=
  if s.fld (mbxPg b) R.WARD_MBX_STATUS_STATE ≠ 1 then s
  else
    let s0 := s.wardRestarts
    let s1 := (s0.setFld (mbxPg b) R.WARD_MBX_STATUS_STATE 2).setMbxState b { s0.mbxState b with held := none, waiting := false }
    match mbxCommands.find? (fun c => c.1 == s.mbxCmd b) with
    | none => s1.mbxFinish b RES_UNKNOWN 2500 []
    | some c =>
      if !c.2.1 b then s1.mbxFinish b RES_DENIED 2500 []
      else match c.2.2 with
        | some n => if s.mbxLen b = n then s1 else s1.mbxFinish b RES_BADARG 2500 []
        | none => if 1 ≤ s.mbxLen b ∧ s.mbxLen b ≤ 31 then s1 else s1.mbxFinish b RES_BADARG 2500 []

/-- The held reply of a tenant mailbox is published at its doorbell's edge plus the fixed time (R88). -/
def State.mbxFixed (s : State) (b : Nat) : State :=
  match (s.mbxState b).held with
  | some r => ((s.toAclk r.due).setMbxState b { s.mbxState b with held := none }).mbxPublish b r.result r.out
  | none => s

/-- Serve mailbox b if it is BUSY with command `cmd` and not yet answered. -/
def State.serveMbx (s : State) (b cmd : Nat) (f : State → State) : State :=
  if s.fld (mbxPg b) R.WARD_MBX_STATUS_STATE = 2 ∧ (s.mbxState b).held = none ∧ s.mbxCmd b = cmd then f s else s

/-- Whether a page write comes from the mailbox's user (R86). The BMC's and the fabric manager's requests come by their own
channels, not by page writes. -/
def State.mbxUser (s : State) (b : Nat) (who : Requester) : Bool :=
  let pg := mbxPg b
  s.flag pg R.WARD_MBX_ASSIGN_EN &&
  (match s.fld pg R.WARD_MBX_ASSIGN_USER with
   | 0 => isM who
   | 1 => who.path == .hart && who.tenant.val == s.fld pg R.WARD_MBX_ASSIGN_TENANT
   | _ => false)

/-- A doorbell (R87): PENDING with its SEQ, or REJECT while a request is outstanding. -/
def State.mbxDoorbell (s : State) (b v : Nat) : State :=
  let pg := mbxPg b
  let st := s.fld pg R.WARD_MBX_STATUS_STATE
  if st = 1 ∨ st = 2 then s.setFld pg R.WARD_MBX_STATUS_REJECT 1
  else
    ((s.setFld pg R.WARD_MBX_STATUS_STATE 1).setFld pg R.WARD_MBX_STATUS_SEQ (bits v 15 0)).setMbxState b
      { edge := ceilDiv s.now 96 }

/-- Registers of a mailbox page (R85-R87). -/
def State.mbxPageWrite (s : State) (b off : Nat) (who : Requester) (v : Nat) : Option RegEffect :=
  let pg := mbxPg b
  let st := s.fld pg R.WARD_MBX_STATUS_STATE
  if off = 0x108 then some { admitted := s.mbxUser b who, act := .ok (s.mbxDoorbell b v) }
  else if 0x200 ≤ off ∧ off ≤ 0x2F8 then
    some { admitted := s.mbxUser b who
           act := if st = 1 ∨ st = 2 then .no FAULT_ACCESS (s.setFld pg R.WARD_MBX_STATUS_REJECT 1) else .ok (s.setReg (pg + off) v) }
  else none

-- requests (R89)

/-- INFO (R89). -/
def State.mbxInfo (s : State) (b : Nat) : State :=
  s.mbxFinish b RES_OK 2500 [Config.partSerial, Config.wardVersion, w64 (s.reg (boltPg 0 + 0x100))]

def State.otpSlot (s : State) (i : Nat) : OtpSlot := Tab.get {} s.ward.otp i

/-- The 48 bytes of a slot's value, and its AES-256 key (R83): byte 0 in the low byte, DESIGN CHOICE (log entry 82). -/
def OtpSlot.bytes (o : OtpSlot) : List Nat := natBytes 48 o.value.toNat
def OtpSlot.key (o : OtpSlot) : List Nat := o.bytes.take 32

/-- OTP_PROVISION (R83). Bits above 255 of a WRAP value are stored as zero: DESIGN CHOICE (log entry 83). -/
def State.mbxOtp (s : State) (b : Nat) : State :=
  let i := s.mbxIn b 1
  let ty := s.mbxIn b 2
  let value := BitVec.ofNat 384 ((List.range 6).foldl (fun v j => v + (s.mbxIn b (3 + j)) <<< (64 * j)) 0)
  if 8 ≤ i ∨ 4 ≤ ty then s.mbxFinish b RES_BADARG 0 []
  else if s.bolted || (s.otpSlot i).written then s.mbxFinish b RES_BOLTED 0 []
  else
    let slot : OtpSlot := ⟨true, Fin.ofNat 4 ty, if ty = 2 then (value.setWidth 256).setWidth 384 else value⟩
    { s with ward := { s.ward with otp := Tab.set {} s.ward.otp i slot } }.mbxFinish b RES_OK 0 []

/-- Set BOLT_CTL.BOLT (R93, R96). -/
def State.doBolt (s : State) : State := s.setFld (boltPg 0) R.BOLT_CTL_BOLT 1

/-- TENANT_SET (R75, R163): fields outside the entry's are discarded. The result code of each refusal, and that VALID is judged on the
value last written, are DESIGN CHOICE (log entry 84). -/
def State.mbxTenantSet (s : State) (b : Nat) : State :=
  let t := s.mbxIn b 1
  let v0 := s.mbxIn b 2
  let v := bits v0 63 60 <<< 60 + bits v0 33 16 <<< 16 + bits v0 3 0
  let old := s.tctWritten t
  if t = 0xFFF then s.mbxFinish b RES_DENIED 0 []
  else if 4096 ≤ t then s.mbxFinish b RES_BADARG 0 []
  else if tctValid old ∧ (tctClass old ≠ tctClass v ∨ tctKey old ≠ tctKey v) then s.mbxFinish b RES_INUSE 0 []
  else if s.secureClass (tctClass v) then s.mbxFinish b RES_DENIED 0 []
  else if tctDmaOk v ∧ bits (s.apertureWritten (tctAperture v)) 63 56 = 0 then s.mbxFinish b RES_BADARG 0 []
  else if (List.range 4).any (fun p => s.mesh.sched.share p (tctClass v) == 0) then s.mbxFinish b RES_BADARG 0 []
  else (s.tctWrite t v).mbxFinish b RES_OK 0 [w64 s.applyEdge]

/-- TENANT_CLEAR (R76). -/
def State.mbxTenantClear (s : State) (b : Nat) : State :=
  let t := s.mbxIn b 1
  if t = 0 ∨ t = 0xFFF then s.mbxFinish b RES_DENIED 0 []
  else if 4096 ≤ t then s.mbxFinish b RES_BADARG 0 []
  else if s.tenantInUse t then s.mbxFinish b RES_INUSE 0 []
  else (s.tctWrite t (putBits (s.tctWritten t) 63 60 0)).mbxFinish b RES_OK 0 [w64 s.applyEdge]

/-- APERTURE_SET (R73, R75). -/
def State.mbxApertureSet (s : State) (b : Nat) : State :=
  let i := s.mbxIn b 1
  let v := bits (s.mbxIn b 2) 63 53 <<< 53
  if 64 ≤ i then s.mbxFinish b RES_BADARG 0 []
  else if bits v 63 56 = 0 ∧ (List.range 4096).any (fun t => let e := s.tctWritten t
                                                           tctValid e && tctDmaOk e && tctAperture e == i) then
    s.mbxFinish b RES_INUSE 0 []
  else (s.tctWrite (4096 + i) v).mbxFinish b RES_OK 0 [w64 s.applyEdge]

/-- CTX_BASE (R73, R77). -/
def State.mbxCtxBase (s : State) (b : Nat) : State :=
  let v := s.mbxIn b 1
  (s.setReg (tctPg 0 + 0x908) (bits v 51 18 <<< 18 + bits v 0 0)).mbxFinish b RES_OK 0 []

/-- Whether a writeback under key index k is still on its way to memory. -/
def State.keyInFlight (s : State) (k : KeyIx) : Bool :=
  let w (f : Flit) : Bool := f.key == k && (f.op == OP_WRLINE || f.op == OP_SNPDATA) && f.plane != .snp
  s.out.any (fun m => w m.flit) || s.mesh.moving.any (fun v => w v.flit) || s.mesh.queues.any (fun q => q.2.any w) ||
    s.mesh.halves.any w || s.mesh.ingress.any (fun q => q.2.any w) ||
    s.mcs.any (fun m => m.2.journal.any (fun e => e.issued.isNone && e.f.key == k)) ||
    s.slices.any (fun c => c.2.bufs.any (fun x => x.req.f.key == k) || c.2.lanes.any (fun q => q.f.key == k))

/-- Whether a cluster or a slice caches a line that carries key index k (R81). -/
def State.keyCached (s : State) (k : KeyIx) : Bool :=
  s.clusters.any (fun c => c.2.l2.any (fun e => e.2.key == k)) || s.slices.any (fun c => c.2.ways.any (fun e => e.2.key == k))

/-- Write back and invalidate every cached line that carries key index k, in every L1, L2 and slice (R81): a modified copy of a cluster
through the line's home, which forgets its own older one, then what the slices hold. -/
def State.purgeKey (s : State) (k : KeyIx) : State :=
  let s1 := (List.range 96).foldl (fun s c =>
    ((s.cluster c).l2.filter (fun e => e.2.key == k)).foldl (fun s e =>
      let h := s.homeOf (64 * e.1)
      let r := s.pullLine c e.1
      r.1.pulledHome h e.1 r.2) s) s
  (List.range 96).foldl (fun s c =>
    let mine := (s.slice c).ways.filter (fun e => e.2.key == k)
    let s' := mine.foldl (fun s e => if e.2.dirty then s.writebackAlone c e.2.line e.2.data e.2.poison e.2.key e.2.cls else s) s
    s'.setSlice c { s'.slice c with ways := (s'.slice c).ways.filter (fun e => e.2.key != k) }) s1

/-- Whether an uncommitted epoch, a fresh reservation or a fill shadow holds a line of key index k. -/
def State.keyHeld (s : State) (k : KeyIx) : Bool :=
  (List.range 96).any (fun c => (s.cluster c).l2.any (fun e => e.2.key == k && s.snoopWaits c e.1)) ||
    s.harts.any (fun h => h.2.misses.any (fun m => m.got.any (fun e => e.2.key == k)))

/-- Load a key, or erase it, once nothing of the index is held, cached or on its way (R81): cached lines are written back and invalidated
first, and the command is given again once memory has them. Index 0, which is plaintext (R79), is answered
BADARG: DESIGN CHOICE (log entry 85). -/
def State.mbxKey (s : State) (b : Nat) (k : Nat) (f : State → State) : State :=
  if 4096 ≤ k ∨ k = 0 then s.mbxFinish b RES_BADARG 0 []
  else if s.keyNamed k then s.mbxFinish b RES_INUSE 0 []
  else if s.keyInFlight (Fin.ofNat 4096 k) || s.keyHeld (Fin.ofNat 4096 k) then s
  else if s.keyCached (Fin.ofNat 4096 k) then s.purgeKey (Fin.ofNat 4096 k)
  else (f s).mbxFinish b RES_OK 0 []

def State.loadKey (s : State) (k : Nat) (v : BitVec 512) : State :=
  { s with ward := { s.ward with keys := Tab.set 0 s.ward.keys k v } }

/-- KEY_GEN (R81): a fresh TRNG key, a free value. -/
def State.mbxKeyGen (s : State) (b : Nat) : State :=
  let k := s.mbxIn b 1
  s.mbxKey b k (fun s => let x := s.draw 512
                         x.2.loadKey k x.1)

/-- The bytes of IN registers i to i + n - 1 of mailbox b, in the order of their addresses (R5). -/
def State.inBytes (s : State) (b i n : Nat) : List Nat := (List.range n).flatMap (fun j => natBytes 8 (s.mbxIn b (i + j)))

/-- The 512-bit key that the 9 words from IN register i of mailbox b unwrap to under slot o (R89, R407); none when the integrity check
fails. -/
def State.unwrapped (s : State) (b i o : Nat) : Option (BitVec 512) :=
  (keyUnwrap (s.otpSlot o).key 8 (s.inBytes b i 9)).map (fun l => BitVec.ofNat 512 (bytesNat l))

/-- KEY_IMPORT (R89). A slot that is not WRITTEN or not of TYPE WRAP is answered BADARG, and AUTH is judged before INUSE: DESIGN CHOICE
(log entry 86). -/
def State.mbxKeyImport (s : State) (b : Nat) : State :=
  let k := s.mbxIn b 1
  let i := s.mbxIn b 2
  if 8 ≤ i then s.mbxFinish b RES_BADARG 0 []
  else if !(s.otpSlot i).written || (s.otpSlot i).type != 2 then s.mbxFinish b RES_BADARG 0 []
  else match s.unwrapped b 3 i with
    | none => s.mbxFinish b RES_AUTH 0 []
    | some v => s.mbxKey b k (fun s => s.loadKey k v)

/-- KEY_ERASE (R81). -/
def State.mbxKeyErase (s : State) (b : Nat) : State :=
  let k := s.mbxIn b 1
  s.mbxKey b k (fun s => s.loadKey k 0)

/-- SCHED_LOAD (R166-R170): served after a swap that is pending. -/
def State.mbxSchedLoad (s : State) (b : Nat) : State :=
  if s.mesh.next.isSome then s
  else
    let base := s.mbxIn b 1
    match s.schedCheck base with
    | some e => s.mbxFinish b e.result 0 [w64 (e.code <<< 56), w64 e.out2, w64 e.out3]
    | none => (s.armSched base).mbxFinish b RES_OK 0 [w64 (s.schedOf base).gen, 0, 0]

/-- The stop that serves a page address, if one is there (R35, R38). -/
def pageStop (a : Nat) : Option Nat :=
  match region a with
  | .keyway => if bits a 29 24 < 10 ∧ bits a 23 20 < 12 then some (stopAt (bits a 23 20) (bits a 29 24)) else none
  | .target => some irtStop
  | _ => none

def State.hinge (s : State) (n : Nat) : Hinge := Tab.get {} s.hinges n
def State.setHinge (s : State) (n : Nat) (h : Hinge) : State := { s with hinges := Tab.set {} s.hinges n h }

/-- Root to hub and hub to leaf of a stop, in kclk (R57). -/
def keywayLeg (n : Nat) : Nat := (if dieOf n = 4 then 2 else 6) + 3

/-- A root access joins the Hinge's root queue once it has crossed the keyway: from the Ward in 3 kclk to the root, from Safelight
without that crossing (R56, R57, R59). -/
def State.rootRequest (s : State) (p : PageReq) : State :=
  match pageStop p.addr.toNat with
  | some n =>
    let t := kclkEdge s.now + 6 * ((if p.who.path = .safelight then 0 else 3) + keywayLeg n)
    s.setHinge n { s.hinge n with rootQ := (s.hinge n).rootQ ++ [(t, p)] }
  | none => s.respond ⟨p.who, p.tag, p.addr, p.kind.writes, 0, true, s.now⟩

/-- PAGE_READ and PAGE_WRITE (R60): the Ward performs the access for the BMC; it completes with the response, DENIED on an
error, TIMEOUT when none came within 2 ms (R63). An address of more than 52 bits is answered BADARG: DESIGN CHOICE (log entry 87). -/
def State.mbxPage (s : State) (b : Nat) (write : Bool) : State :=
  let a : PA := BitVec.ofNat 52 (s.mbxIn b 1)
  let tag := 256 + b
  let m := s.mbxState b
  if 2 ^ 52 ≤ s.mbxIn b 1 then s.mbxFinish b RES_BADARG 0 []
  else if !m.waiting then
    (s.setMbxState b { m with waiting := true }).rootRequest ⟨bmcReq, a, if write then .store else .load, 8,
      if write then w64 (s.mbxIn b 2) else 0, s.tb, tag⟩
  else match takeFirst (fun r => r.who == bmcReq && r.tag == tag) s.resps with
    | some (r, rest) =>
      let s1 := { s with resps := rest }.toMclk r.at_
      if r.err then s1.mbxFinish b RES_DENIED 0 []
      else s1.mbxFinish b RES_OK 0 (if write then [] else [r.data.setWidth 64])
    | none => s

/-- HOLD_RELEASE (R101): `consent` says that the Ward moved its state out. A stop number of 120 or more is answered BADARG: DESIGN CHOICE
(log entry 88). -/
def State.mbxHoldRelease (s : State) (b : Nat) (consent : Bool) : State :=
  let n := s.mbxIn b 1
  let carved := match stopMc? n with
    | some m => (List.range 16).any (fun i => s.flag (boltPg (4 + m / 8)) (R.BOLT_CARVE_BASE_EN.nth (16 * (m % 8) + i)))
    | none => false
  if 120 ≤ n then s.mbxFinish b RES_BADARG 0 []
  else if carved || !consent then s.mbxFinish b RES_DENIED 0 []
  else (s.setFld (hingePg n) R.KW_HOLD_COUNT 0).mbxFinish b RES_OK 0 [0]

/-- SL_NONCE (R103, R104): a free value. -/
def State.mbxSlNonce (s : State) (b : Nat) : State :=
  let x := s.draw 384
  let s1 := { x.2 with ward := { x.2.ward with nonces := x.2.ward.nonces ++ [(⟨x.1, s.tb⟩ : Nonce)] } }
  s1.mbxFinish b RES_OK 0 ((List.range 6).map (fun i => (x.1 >>> (64 * i)).setWidth 64))

/-- Whether the Ward verifies a grant request with nonce n (R104 steps 2 and 3). -/
def State.grantSigned (s : State) (b : Nat) (n : Nonce) : Bool :=
  let num (i : Nat) : Nat := bytesNat (s.inBytes b i 6)
  let hash := sha384 (beBytes 48 (num 3) ++ beBytes 48 (num 9))
  let slot := (List.range 8).any (fun i => (s.otpSlot i).written && (s.otpSlot i).type == 1 && (s.otpSlot i).bytes == hash)
  let message := natBytes 8 Config.partSerial.toNat ++ natBytes 48 n.value.toNat ++ s.inBytes b 1 2
  slot && ecdsaVerify (num 3) (num 9) (num 15) (num 21) (sha384 message)

/-- The nonce a grant request is verified with: the oldest that may be used and with which it verifies. A request names no nonce, so that
every nonce issued and unused is tried: DESIGN CHOICE (log entry 27). -/
def State.grantNonce (s : State) (b : Nat) : Option Nonce :=
  s.ward.nonces.find? (fun n => decide (s.tb ≤ n.issued + 60 * 25000000) && s.grantSigned b n)

/-- SL_GRANT (R103, R104). Where no nonce verifies, the newest is consumed; a BADARG of step 1 consumes none: DESIGN CHOICE (log entry 27).
Code and severity of the record the manual names only by its family are free values. -/
def State.mbxSlGrant (s : State) (b : Nat) : State :=
  let w1 := s.mbxIn b 1
  let w2 := s.mbxIn b 2
  let dur := bits w2 16 0
  if bits w1 63 2 ≠ 0 ∨ bits w2 63 17 ≠ 0 ∨ !bitN w1 0 ∨ dur = 0 ∨ 86400 < dur then s.mbxFinish b RES_BADARG 0 []
  else match s.grantNonce b with
  | none => { s with ward := { s.ward with nonces := s.ward.nonces.dropLast } }.mbxFinish b RES_AUTH 0 []
  | some n =>
    let pg := boltPg 6
    let id := s.ward.grantNext % 2 ^ 16
    let s1 := { s with ward := { s.ward with nonces := s.ward.nonces.filter (· != n), grantNext := s.ward.grantNext + 1 } }
    let s2 := (s1.setReg (pg + 0x100) (2 ^ 63 + bits w1 1 1 <<< 62 + id)).setReg (pg + 0x108) (s.tb + dur * 25000000)
    let x := s2.draw 14
    (x.2.record pg (x.1.toNat / 2 ^ 12) (0xA000 + x.1.toNat % 2 ^ 12) 0 0 false).mbxFinish b RES_OK 0 [w64 id]

/-- The grant ends (R103). -/
def State.endGrant (s : State) : State :=
  if s.grantActive then (s.setFld (boltPg 6) R.SL_GRANT_ACTIVE 0).setFld (boltPg 6) R.SL_GRANT_WRITE 0 else s

/-- A record as the normal world reads it (R413). -/
def normalRec (r : Rec) : Rec := if bitN r.w0.toNat 39 then { r with w1 := 0, w2 := 0 } else r

/-- LOG_READ (R416). -/
def State.mbxLogRead (s : State) (b : Nat) : State :=
  let n := s.mbxIn b 1
  let next := s.fld (rasPg 0) R.RAS_LOG_SEQ_NEXT
  if next ≤ n ∨ n + 4096 < next then s.mbxFinish b RES_BADARG 0 []
  else
    let r := normalRec (Tab.get ⟨0, 0, 0, 0⟩ s.log (n % 4096))
    s.mbxFinish b RES_OK 0 [r.w0, r.w1, r.w2, r.w3]

/-- MBX_ASSIGN (R85, R89). It is performed on a mailbox that is PENDING or BUSY too, and tenant 0xFFF is answered DENIED: DESIGN CHOICE
(log entry 91). -/
def State.mbxAssign (s : State) (b : Nat) : State :=
  let n := s.mbxIn b 1
  let en := s.mbxIn b 2
  let t := s.mbxIn b 3
  if n < 8 ∨ 23 < n ∨ 1 < en ∨ 4095 < t then s.mbxFinish b RES_BADARG 0 []
  else if t = 0xFFF then s.mbxFinish b RES_DENIED 0 []
  else (s.setReg (mbxPg n + 0x110) (en <<< 63 + 1 <<< 60 + t <<< 16)).mbxFinish b RES_OK 0 []

/-- Request codes of SPDM 1.3 that the Ward supports (R91): GET_DIGESTS, GET_CERTIFICATE, CHALLENGE, GET_VERSION, GET_MEASUREMENTS,
GET_CAPABILITIES, NEGOTIATE_ALGORITHMS, KEY_EXCHANGE, FINISH, HEARTBEAT, KEY_UPDATE, END_SESSION. -/
def spdmRequests : List Nat := [0x81, 0x82, 0x83, 0x84, 0xE0, 0xE1, 0xE3, 0xE4, 0xE5, 0xE8, 0xE9, 0xEC]

/-- An ERROR response of SPDM 1.3 with an error code and its data. -/
def spdmError (code data : Nat) : List Word := [w64 (0x13 + 0x7F <<< 8 + code <<< 16 + data <<< 24)]

/-- What a request asks may be answered with (R91): a request that is not supported with ERROR UnsupportedRequest, a KEY_EXCHANGE while 8
sessions are open with ERROR SessionLimitExceeded, another with its own response or an ERROR of the Ward's choice. -/
def State.spdmReply (s : State) (request : Word) (reply : List Word) : Option (List Word) :=
  let req := bits request.toNat 15 8
  let code := bits ((reply.headD 0).toNat) 15 8
  if !spdmRequests.contains req then some (spdmError 0x07 req)
  else if req = 0xE4 ∧ 8 ≤ s.ward.sessions then some (spdmError 0x0A 0)
  else if code = req - 0x80 ∨ code = 0x7F then some (reply.take 31)
  else none

/-- Sessions open after a response: one more after KEY_EXCHANGE_RSP, one less after END_SESSION_ACK (R91). -/
def spdmSessions (n : Nat) (reply : List Word) : Nat :=
  let code := bits ((reply.headD 0).toNat) 15 8
  if code = 0x64 then n + 1 else if code = 0x6C then n - 1 else n

/-- What the measurements of a request from mailbox b cover, as bytes (R91): the mask ROM, the firmware's version, the bolt registers and, for
MBX8 to MBX23, the TCT entry and key index of the mailbox's tenant. -/
def State.measured (s : State) (b : Nat) : List Nat :=
  let t := s.tctEntry (s.fld (mbxPg b) R.WARD_MBX_ASSIGN_TENANT)
  (List.range 0x20000).map (fun i => (Config.romByte i).toNat) ++ natBytes 8 Config.wardVersion.toNat ++
    (List.range 6).flatMap (fun i => (List.range 256).flatMap (fun j => natBytes 8 (s.reg (boltPg i + 0x100 + 8 * j)))) ++
    (if 8 ≤ b ∧ b ≤ 23 then natBytes 8 t ++ natBytes 8 (tctKey t) else [])

/-- The words of a byte string, lowest byte first (R5). -/
def wordsOfBytes (l : List Nat) : List Word := (List.range (ceilDiv l.length 8)).map (fun i => w64 (bytesNat ((l.drop (8 * i)).take 8)))

/-- MEASUREMENTS (R91): one block with the SHA-384 of all that is covered, as SPDM 1.3 lays it out (log entry 26); its nonce and its
signature, present where the request asks for it, are free values. -/
def State.spdmMeasurements (s : State) (b : Nat) (request : Word) : List Word × State :=
  let signed := bitN request.toNat 16
  let x := s.draw 256
  let y := x.2.draw 768
  let block := [1, 1, 51, 0, 0x80, 48, 0] ++ sha384 (s.measured b)
  (wordsOfBytes ([0x13, 0x60, 0, 0, 1, 55, 0, 0] ++ block ++ natBytes 32 x.1.toNat ++ [0, 0] ++ List.replicate 8 0 ++
    (if signed then natBytes 96 y.1.toNat else [])), y.2)

/-- SPDM (R91): `reply` is the responder's message, whose cryptographic fields the model does not compute (log entry 26); one that answers
another request, or none, is INTERNAL. Measurements are the model's own. -/
def State.mbxSpdm (s : State) (b : Nat) (reply : List Word) : State :=
  let request := w64 (s.mbxIn b 1)
  if bits request.toNat 15 8 = 0xE0 then
    let m := s.spdmMeasurements b request
    m.2.mbxFinish b RES_OK 500000 m.1
  else match s.spdmReply request reply with
  | some out => { s with ward := { s.ward with sessions := spdmSessions s.ward.sessions out } }.mbxFinish b RES_OK 500000 out
  | none => s.mbxFinish b RES_INTERNAL 500000 []

-- resets of the Ward (R84, R442)

/-- The Ward alone is reset (R84, R103): requests it was serving are PENDING again, a grant ends. That it forgets the nonces it issued is
DESIGN CHOICE (log entry 90). -/
def State.resetWard (s : State) : State :=
  let s1 := (List.range 32).foldl (fun s b =>
    let st := s.fld (mbxPg b) R.WARD_MBX_STATUS_STATE
    let s' := if st = 2 then s.setFld (mbxPg b) R.WARD_MBX_STATUS_STATE 1 else s
    s'.setMbxState b { s'.mbxState b with held := none, waiting := false, again := st == 1 || st == 2 }) s
  let s2 := s1.endGrant.bump aonPg R.AON_RESETCAUSE_WARDS 1
  let sram := Tab.get {} s.engines 96
  { s2 with
    ward := { s2.ward with running := false, sessions := 0, nonces := [], resetAt := s.tb }
    engines := Tab.ins 96 { imem := sram.imem, dmem := sram.dmem, shadows := [⟨0, 0, 0xFF⟩], st := .handler } s2.engines }

/-- The Ward has failed (R442): ERROR_N[1] and SERVICE_N low, DEV_HEALTH REPLACE. -/
def State.wardFails (s : State) : State :=
  ({ s with ward := { s.ward with failed := true } }).raiseHealth 2 (s.fld (rasPg 0) R.RAS_LOG_SEQ_NEXT)

/-- The watchdog expires (R442): the Ward alone is reset; the third expiry within 1 s makes it fail. -/
def State.watchdog (s : State) : State :=
  let s1 := (s.resetWard).setFld aonPg R.AON_RESETCAUSE_WARD_WDOG 1
  let recent := (s.ward.expiries.filter (fun t => decide (s.tb < t + 25000000))) ++ [s.tb]
  let s2 := { s1 with ward := { s1.ward with expiries := recent } }
  if 3 ≤ recent.length then s2.wardFails else s2

/-- The Ward has not restarted 100 ms after its reset (R442). -/
def State.restartFailure (s : State) : State :=
  if s.ward.running then s else (s.toAclk (s.ward.resetAt + 2500000)).wardFails

/-- While it has failed and does not run, the Ward is reset every 10 s (R442; log entry 92). -/
def State.periodicReset (s : State) : State :=
  if s.ward.failed && !s.ward.running then (s.toAclk (s.ward.resetAt + 250000000)).resetWard else s

/-- ERROR_N[0] is low (R417). -/
def State.errorN0Low (s : State) : Bool := s.flag (rasPg 0) R.RAS_LOG_STAT_CONT
/-- ERROR_N[1] is low (R417, R442, R491, R524). -/
def State.errorN1Low (s : State) : Bool :=
  s.flag (rasPg 0) R.RAS_LOG_STAT_FATAL || s.ward.failed || s.boot.testMode || s.fld pwrPg R.PWR_BOOT_STAGE == 15
/-- SERVICE_N is low (R440). -/
def State.serviceNLow (s : State) : Bool := s.flag (rasPg 0) R.RAS_HEALTH_SERVICE

/-- TCT_APPLY_EDGE (R74). -/
def execTctApplyEdge (s : State) : Out := .next s.tctApply
/-- MBX_FIXED_COMPLETION (R88). -/
def execMbxFixedCompletion (b : Mbx) (s : State) : Out := .next (s.mbxFixed b.val)
/-- INFO (R89). -/
def execInfo (b : Mbx) (s : State) : Out := .next (s.serveMbx b.val 0x0001 (fun s => s.mbxInfo b.val))
/-- OTP_PROVISION (R83). -/
def execOtpProvision (b : Mbx) (s : State) : Out := .next (s.serveMbx b.val 0x0002 (fun s => s.mbxOtp b.val))
/-- BOLT_NOW (R96). -/
def execBoltNow (b : Mbx) (s : State) : Out := .next (s.serveMbx b.val 0x0008 (fun s => s.doBolt.mbxFinish b.val RES_OK 0 []))
/-- TENANT_SET (R75). -/
def execTenantSet (b : Mbx) (s : State) : Out := .next (s.serveMbx b.val 0x0010 (fun s => s.mbxTenantSet b.val))
/-- TENANT_CLEAR (R76). -/
def execTenantClear (b : Mbx) (s : State) : Out := .next (s.serveMbx b.val 0x0011 (fun s => s.mbxTenantClear b.val))
/-- APERTURE_SET (R73). -/
def execApertureSet (b : Mbx) (s : State) : Out := .next (s.serveMbx b.val 0x0012 (fun s => s.mbxApertureSet b.val))
/-- CTX_BASE (R77). -/
def execCtxBase (b : Mbx) (s : State) : Out := .next (s.serveMbx b.val 0x0018 (fun s => s.mbxCtxBase b.val))
/-- KEY_GEN (R81). -/
def execKeyGen (b : Mbx) (s : State) : Out := .next (s.serveMbx b.val 0x0020 (fun s => s.mbxKeyGen b.val))
/-- KEY_IMPORT (R89). -/
def execKeyImport (b : Mbx) (s : State) : Out := .next (s.serveMbx b.val 0x0021 (fun s => s.mbxKeyImport b.val))
/-- KEY_ERASE (R81). -/
def execKeyErase (b : Mbx) (s : State) : Out := .next (s.serveMbx b.val 0x0022 (fun s => s.mbxKeyErase b.val))
/-- SCHED_LOAD (R167). -/
def execSchedLoad (b : Mbx) (s : State) : Out := .next (s.serveMbx b.val 0x0030 (fun s => s.mbxSchedLoad b.val))
/-- PAGE_READ (R60). -/
def execPageRead (b : Mbx) (s : State) : Out := .next (s.serveMbx b.val 0x0040 (fun s => s.mbxPage b.val false))
/-- PAGE_WRITE (R60). -/
def execPageWrite (b : Mbx) (s : State) : Out := .next (s.serveMbx b.val 0x0041 (fun s => s.mbxPage b.val true))
/-- HOLD_RELEASE (R101). -/
def execHoldRelease (b : Mbx) (consent : Bool) (s : State) : Out :=
  .next (s.serveMbx b.val 0x0050 (fun s => s.mbxHoldRelease b.val consent))
/-- SL_NONCE (R104). -/
def execSlNonce (b : Mbx) (s : State) : Out := .next (s.serveMbx b.val 0x0060 (fun s => s.mbxSlNonce b.val))
/-- SL_GRANT (R104). -/
def execSlGrant (b : Mbx) (s : State) : Out := .next (s.serveMbx b.val 0x0061 (fun s => s.mbxSlGrant b.val))
/-- SL_GRANT_END (R103): the timebase reaches the expiry. -/
def execSlGrantEnd (s : State) : Out :=
  .next (if s.grantActive then (s.toAclk (s.reg (boltPg 6 + 0x108))).endGrant else s)
/-- LOG_READ (R416). -/
def execLogRead (b : Mbx) (s : State) : Out := .next (s.serveMbx b.val 0x0070 (fun s => s.mbxLogRead b.val))
/-- MBX_ASSIGN (R89). -/
def execMbxAssign (b : Mbx) (s : State) : Out := .next (s.serveMbx b.val 0x0080 (fun s => s.mbxAssign b.val))
/-- SPDM (R91). -/
def execSpdm (b : Mbx) (reply : List Word) (s : State) : Out := .next (s.serveMbx b.val 0x0090 (fun s => s.mbxSpdm b.val reply))
/-- WARD_RESET (R84). -/
def execWardReset (s : State) : Out := .next s.resetWard
/-- WARD_WATCHDOG_EXPIRY (R442). -/
def execWardWatchdogExpiry (s : State) : Out := .next s.watchdog
/-- WARD_RESTART_FAILURE (R442). -/
def execWardRestartFailure (s : State) : Out := .next s.restartFailure
/-- WARD_PERIODIC_RESET (R442). -/
def execWardPeriodicReset (s : State) : Out := .next s.periodicReset

end Sys2Proof.Machine
end

