-- ==== Sys2Proof/Machine/FabOps.lean ====
section
/-! DEFINITION. What a fabric port does for its links (13 R388-R411): ATS invalidations and page responses, arrivals and departures,
dynamic capacity, the fabric manager's messages, and the writes of its registers. -/

namespace Sys2Proof.Machine

-- ATS and PRI (R400, R401)

/-- A write of FP_PRGRESP sends a response (R401, R410). -/
def State.prgWrite (s : State) (p v : Nat) : State :=
  s.prgResponse p (bits v 50 49) (bits v 15 0) (bits v 59 51) (bits v 63 60)

/-- The end of an ATS invalidation (R400, R410): cause 4 is raised. -/
def State.atsEnd (s : State) (p result : Nat) : State :=
  let pg := portPg p
  let s1 := ((s.setFld pg R.FP_ATSINV_GO 0).setFld pg R.FP_ATSINV_BUSY 0).setFld pg R.FP_ATSINV_RESULT result
  (s1.setPort p { s1.port p with atsAt := none }).fabSource p 4

/-- A write of FP_ATSINV (R400, R410). -/
def State.atsWrite (s : State) (p v : Nat) : Wr :=
  let pg := portPg p
  let s1 := s.setReg (pg + 0x110) (bits (s.reg (pg + 0x110)) 63 60 <<< 60 + bits v 59 37 <<< 37 + bits v 15 0)
  if !bitN v 63 then .ok s1
  else if s.flag pg R.FP_ATSINV_BUSY ∨ 52 - 12 < s.fld pg R.FP_ATSINV_ADDR_SIZE then .no FAULT_ACCESS s
  else
    let l := bits v 59 58
    let hit := (List.range 256).any (fun n => s.fnFld p l n R.FP_FN_VALID == 1 && s.fnFld p l n R.FP_FN_ATS == 1 &&
      s.fnFld p l n R.FP_FN_RID == bits v 15 0 && (s.fnFld p l n R.FP_FN_PV == 0 || (bitN v 57 && s.fnFld p l n R.FP_FN_PASID == bits v 56 37)))
    if !hit then .ok (s1.atsEnd p 2)
    else
      let s2 := (s1.setFld pg R.FP_ATSINV_GO 1).setFld pg R.FP_ATSINV_BUSY 1
      .ok ((s2.setPort p { s2.port p with atsAt := some s2.tb }).handOut p
        ⟨Fin.ofNat 4 l, .atsInvalidate, bits v 15 0, bits v 56 37, bits v 57 57, s.fld pg R.FP_ATSINV_ADDR_ADDR <<< 12,
          lineOfWords [w64 (s.fld pg R.FP_ATSINV_ADDR_SIZE)]⟩)

/-- A function completes an invalidation, or 100 ms pass (R400). -/
def State.atsDone (s : State) (p : Nat) : State := if s.flag (portPg p) R.FP_ATSINV_BUSY then s.atsEnd p 0 else s
def State.atsTimeout (s : State) (p : Nat) : State :=
  match (s.port p).atsAt with
  | some t =>
    let s1 := s.toAclk (t + 2500000)
    (s1.fabRecord p (s1.fld (portPg p) R.FP_ATSINV_LINK) 2 0x8061 0 (s1.fld (portPg p) R.FP_ATSINV_RID) 0).atsEnd p 1
  | none => s

-- events (R408, R410)

-- FP_EVENT.KIND
def EV_ARRIVED : Nat := 1
def EV_DEPART_REQ : Nat := 2
def EV_DEPARTED : Nat := 3
def EV_SURPRISE : Nat := 4
def EV_DPC : Nat := 5
def EV_DCD_ADD : Nat := 6
def EV_DCD_RELEASE : Nat := 7
def EV_NOFLIT : Nat := 8

/-- The first function of a link: the least requester ID behind it. -/
def State.firstRid (s : State) (p l : Nat) : Nat :=
  match (s.link p l).partner with
  | some x => x.functions.foldl (fun m f => min m f.toNat) (if x.functions.isEmpty then 0 else 65535)
  | none => 0

/-- Queue an event, but for a secure link, whose events go to the Ward alone (R410); the queue holds 32. -/
def State.fabEvent (s : State) (p l kind win : Nat) : State :=
  let v := s.port p
  if s.linkSecure p l then s
  else if 32 ≤ v.events.length then s.setPort p { v with lost := true }
  else
    let w := 2 ^ 63 + kind <<< 58 + l <<< 56 + win <<< 52 + s.firstRid p l <<< 16
    (s.setPort p { v with events := v.events ++ [w64 w] }).fabSource p 0

/-- A read of FP_EVENT (R410): the oldest event, with OVER once the queue has overflowed. -/
def State.fabEventRead (s : State) (p : Nat) : Nat × State :=
  let v := s.port p
  match v.events with
  | [] => (b01 v.lost <<< 62, s.setPort p { v with lost := false })
  | e :: t => (putBits e.toNat 62 62 (b01 v.lost), s.setPort p { v with events := t, lost := false })

-- arrival (R402)

/-- Widest width code of a link under the port's bifurcation (R390, R411); 0 for a link the split leaves out. -/
def State.splitWidth (s : State) (p l : Nat) : Nat :=
  match s.fld (portPg p) R.FP_CTL_BIFUR with
  | 0 => if l = 0 then 5 else 0
  | 1 => if l ≤ 1 then 4 else 0
  | _ => 3

/-- Whether any enabled window overlaps units a to b of 256 MiB. -/
def State.unitsTaken (s : State) (a b : Nat) : Bool :=
  (List.range 8).any (fun p => (List.range 16).any (fun w => s.flag (portPg p) (R.FP_WIN_BASE_EN.nth w) &&
    decide (s.fld (portPg p) (R.FP_WIN_BASE_BASE.nth w) ≤ b) && decide (a ≤ s.fld (portPg p) (R.FP_WIN_LIMIT_LIMIT.nth w))))

/-- The lowest free range of n units in the fabric memory region (R31, R402): it begins with the region or right after a window. -/
def State.freeUnits (s : State) (n : Nat) : Option Nat :=
  let ends := (List.range 8).flatMap (fun p => (List.range 16).map (fun w => s.fld (portPg p) (R.FP_WIN_LIMIT_LIMIT.nth w) + 1))
  let ok := (0x10000 :: ends).filter (fun a => decide (0x10000 ≤ a) && decide (a + n ≤ 0x800000) && !s.unitsTaken a (a + n - 1))
  match ok with
  | [] => none
  | a :: t => some (t.foldl min a)

/-- INV of a range on every slice (R204, R398, R402): every copy of its lines goes, dirty data discarded. -/
def State.invUnits (s : State) (a b : Nat) : State :=
  let inR (l : Nat) : Bool := decide (a * 2 ^ 22 ≤ l) && decide (l < (b + 1) * 2 ^ 22)
  let s1 := (List.range 96).foldl (fun s c =>
    (((s.cluster c).l2.filter (fun e => inR e.1)).map Prod.fst).foldl (fun s l => (s.pullLine c l).1) s) s
  (List.range 96).foldl (fun s c =>
    let sl := s.slice c
    s.setSlice c { sl with ways := sl.ways.filter (fun e => !inR e.2.line), dir := sl.dir.filter (fun e => !inR (4 * e.2.block)) }) s1

/-- Write a window entry (R410). -/
def State.putWindow (s : State) (p l w a b : Nat) (hdmdb : Bool) : State :=
  (s.setReg (portPg p + 0x200 + 16 * w) (2 ^ 63 + b01 hdmdb <<< 60 + l <<< 58 + a <<< 28)).setReg (portPg p + 0x208 + 16 * w) (b <<< 28)

/-- A range of device memory gets the lowest free window and addresses (R402). -/
def State.addRange (s : State) (p l : Nat) (r : HdmRange) : State :=
  match s.freeUnits r.units, (List.range 16).find? (fun w => !s.flag (portPg p) (R.FP_WIN_BASE_EN.nth w)) with
  | some a, some w => if r.units = 0 then s else (s.invUnits a (a + r.units - 1)).putWindow p l w a (a + r.units - 1) r.hdmdb
  | _, _ => s

/-- The lowest free place for a base register in port p's MMIO range, aligned to its size (R393). -/
def State.addBar (s : State) (p l : Nat) (rid size : Nat) : State :=
  let lo := 0x8000000000000 + p <<< 48
  let all := (List.range 4).flatMap (fun k => (s.link p k).bars)
  let up (a : Nat) : Nat := ceilDiv a size * size
  let free (a : Nat) : Bool := all.all (fun b => decide (a + size ≤ b.base) || decide (b.base + b.size ≤ a)) &&
    decide (a + size ≤ lo + 2 ^ 48)
  let places := (lo :: all.map (fun b => up (b.base + b.size))).filter free
  match places with
  | [] => s
  | a :: t => if size = 0 then s else s.setLink p l { s.link p l with bars := (s.link p l).bars ++ [⟨rid, t.foldl min a, size⟩] }

/-- A function found gets the lowest free entry, its base registers, and the boot tenant (R402). -/
def State.addFunction (s : State) (p l : Nat) (x : Partner) (rid : Nat) : State :=
  let t := if s.linkSecure p l then 0xFFF else 0
  let s1 := match (List.range 256).find? (fun n => s.fnFld p l n R.FP_FN_VALID == 0) with
    | some n => (s.setReg (State.fnReg p l n) (2 ^ 63 + t <<< 28 + rid)).readFnCtx p l n
    | none => s
  (x.bars.filter (fun b => b.1.toNat == rid)).foldl (fun s b => s.addBar p l rid b.2) s1

/-- Insert a number into a rising list. -/
def insertUp (n : Nat) : List Nat → List Nat
  | [] => [n]
  | m :: t => if n ≤ m then n :: m :: t else m :: insertUp n t

/-- The BUSY fabric-manager requests of a command that name a link (R407). -/
def State.fmWaiting (s : State) (cmd p l : Nat) : List Nat :=
  (List.range 32).filter (fun b => decide (28 ≤ b) && s.fld (mbxPg b) R.WARD_MBX_STATUS_STATE == 2 && s.mbxCmd b == cmd &&
    s.mbxIn b 1 == p && s.mbxIn b 2 == l)

/-- FP_LNK_STATUS as the fabric manager sees it: zero for a secure link (R71). -/
def State.lnkWord (s : State) (p l : Nat) : Word := if s.linkSecure p l then 0 else w64 (s.reg (linkPg p l + 0x100))

/-- The requests that wait for an arrival or a departure of a link complete (R407). -/
def State.fmComplete (s : State) (cmd p l : Nat) : State :=
  (s.fmWaiting cmd p l).foldl (fun s b => s.mbxFinish b RES_OK 0 [s.lnkWord p l]) s

/-- The link is up (R402): ARRIVED is queued, and FM_BIND completes. -/
def State.arriveUp (s : State) (p l : Nat) : State :=
  ((((s.setLnkState p l LNK_UP).watch (portPg p)).setLink p l { s.link p l with waitsKey := false }).fabEvent p l EV_ARRIVED 0).fmComplete 0x100 p l

/-- An arrival (R402): while the Ward is down its presence is latched; else the link trains, is enumerated and served. -/
def State.linkArrives (s : State) (p l : Nat) (x : Partner) : State :=
  let pg := linkPg p l
  let held := s.flag pg R.PG_RESET_HOLDRST || s.flag (portPg p) R.PG_RESET_HOLDRST
  if !s.ward.running then (s.setFld pg R.FP_LNK_STATUS_PRESENT 1).setLink p l { s.link p l with partner := some x }
  else if s.splitWidth p l = 0 ∨ held ∨ !(s.link p l).perst ∨ (s.lnkState p l ≠ LNK_DOWN ∧ s.lnkState p l ≠ LNK_NOFLIT) then s
  else
    let s1 := (s.setFld pg R.FP_LNK_STATUS_PRESENT 0).setLink p l { s.link p l with partner := some x, dpc := false }
    if !x.flitMode || x.rate == 0 || x.width == 0 then
      ((s1.setLnkState p l LNK_NOFLIT).fabEvent p l EV_NOFLIT 0).fmComplete 0x100 p l
    else
      let cxl := b01 x.cxl
      let s2 := (((((s1.setLnkState p l LNK_TRAINING).setFld pg R.FP_LNK_STATUS_WIDTH (min x.width.val (s.splitWidth p l))).setFld pg
        R.FP_LNK_STATUS_RATE x.rate.val).setFld pg R.FP_LNK_STATUS_CXL cxl).setFld pg R.FP_LNK_STATUS_DEVTYPE
        (if x.cxl then x.devType.val else 0))
      let rids := x.functions.foldl (fun t f => insertUp f.toNat t) []
      let s3 := rids.foldl (fun s r => s.addFunction p l x r) s2
      let s4 := if x.cxl && decide (2 ≤ x.devType.val) then x.ranges.foldl (fun s r => s.addRange p l r) s3 else s3
      if x.ide && (s4.link p l).ideKey.isNone then s4.setLink p l { s4.link p l with waitsKey := true }
      else s4.arriveUp p l

-- departures (R404-R406)

/-- The Ward writes one operation over a window to every slice (R404, R405): 0 INV, 2 FLUSH, as class 15's operation. -/
def State.wardMaint (s : State) (op addr lines : Nat) : State :=
  (List.range 96).foldl (fun s c =>
    let pg := slicePg c
    let r : MaintRun := ⟨op, 1, addr, lines, 0, 0, 0, 0, true, s.now, 0, false, 0, 0, s.now, s.now⟩
    let s1 := s.setFld pg (R.SLC_MAINT_STAT_BUSY.nth 15) 1
    (s1.setSlice c { s1.slice c with maint := Tab.ins 15 r (s1.slice c).maint }).sliceBusy c) s

/-- Whether class 15's operation runs in some slice. -/
def State.wardMaintBusy (s : State) : Bool := (List.range 96).any (fun c => (Tab.at? (s.slice c).maint 15).isSome)

/-- Start the operation over the next window of a departure, if none of the Ward's runs. -/
def State.departNext (s : State) (p l : Nat) : State :=
  let v := s.link p l
  match v.depart with
  | some d =>
    match d.todo with
    | [] => s
    | w :: t =>
      if s.wardMaintBusy then s
      else
        let a := s.fld (portPg p) (R.FP_WIN_BASE_BASE.nth w)
        let b := s.fld (portPg p) (R.FP_WIN_LIMIT_LIMIT.nth w)
        (s.setLink p l { v with depart := some { d with todo := t } }).wardMaint (if d.phase = 3 then 0 else 2) (a <<< 28) ((b + 1 - a) * 2 ^ 22)
  | none => s

/-- Step 2 and the start of step 3 of a planned departure (R404): HOLD, and FLUSH over each window. -/
def State.departHold (s : State) (p l : Nat) (d : Departure) : State :=
  let s1 := ((s.setLnkState p l LNK_HOLD).markWindows p l R.FP_WIN_BASE_HOLD).setFld (linkPg p l) R.FP_LNK_CTL_RELEASE 0
  (s1.setLink p l { s1.link p l with depart := some { d with phase := 2, todo := s1.linkWindows p l } }).departNext p l

/-- The link goes down (R404, R405): its function and window entries clear, DEPARTED is queued, PERST_N falls (R524). -/
def State.departEnd (s : State) (p l : Nat) (d : Departure) : State :=
  let s1 := s.fabEvent p l EV_DEPARTED 0
  let ws := s1.linkWindows p l
  let s2 := ws.foldl (fun s w => (s.setReg (portPg p + 0x200 + 16 * w) 0).setReg (portPg p + 0x208 + 16 * w) 0) s1
  let s3 := (List.range 256).foldl (fun s n => s.setReg (State.fnReg p l n) 0) s2
  let v := s3.link p l
  let s4 := s3.setLink p l { partner := if v.dpc || d.again then v.partner else none, dpc := v.dpc }
  let s5 := (s4.setReg (linkPg p l + 0x100) (if d.again then 2 ^ 54 else 0)).setFld (linkPg p l) R.FP_LNK_CTL_DEPART 0
  s5.fmComplete 0x101 p l

/-- A planned departure begins (R404): DEPART_REQ is queued, and the Ward waits for RELEASE. -/
def State.departStart (s : State) (p l : Nat) : State :=
  if s.lnkState p l = LNK_UP ∧ (s.link p l).depart = none then
    (s.setLink p l { s.link p l with depart := some { phase := 1, since := s.tb } }).fabEvent p l EV_DEPART_REQ 0
  else s

/-- PLANNED_DEPARTURE (R404): a departure that DEPART or FM_UNBIND asked for begins, or goes on to its next window, or ends once its
flushes and outstanding requests have completed. -/
def State.departGo (s : State) (p l : Nat) : State :=
  match (s.link p l).depart with
  | none =>
    if s.flag (linkPg p l) R.FP_LNK_CTL_DEPART || !(s.fmWaiting 0x101 p l).isEmpty then s.departStart p l else s
  | some d =>
    if d.phase ≠ 2 then s
    else if !d.todo.isEmpty then s.departNext p l
    else if s.wardMaintBusy || !(s.link p l).outstanding.isEmpty || !(s.link p l).inbound.isEmpty ||
        !(s.link p l).waits.isEmpty then s
    else s.departEnd p l d

/-- The range of a capacity release is flushed (R398). -/
def State.dcdFlush (s : State) (p l : Nat) (d : DcdRelease) : State :=
  let b := s.fld (portPg p) (R.FP_WIN_LIMIT_LIMIT.nth d.win)
  if s.wardMaintBusy then s
  else
    let s1 := (s.setLink p l { s.link p l with dcd := some { d with flushing := true } }).setFld (linkPg p l) R.FP_LNK_CTL_RELEASE 0
    s1.wardMaint 2 ((d.keep + 1) <<< 28) ((b - d.keep) * 2 ^ 22)

/-- The Ward acts on RELEASE, or goes on without it after 10 s (R398, R404). -/
def State.releaseActs (s : State) (p l : Nat) : State :=
  match (s.link p l).depart, (s.link p l).dcd with
  | some d, _ => if d.phase = 1 then s.departHold p l d else s
  | none, some d => if d.flushing then s else s.dcdFlush p l d
  | none, none => s

/-- RELEASE_TIMEOUT (R398, R404). -/
def State.releaseTimeout (s : State) (p l : Nat) : State :=
  match (s.link p l).depart, (s.link p l).dcd with
  | some d, _ => if d.phase = 1 then (s.toAclk (d.since + 250000000)).departHold p l d else s
  | none, some d => if d.flushing then s else (s.toAclk (d.since + 250000000)).dcdFlush p l d
  | none, none => s

/-- Complete one outstanding request of a departed link (R405): reads with poison, writes acknowledged and dropped. -/
def State.departAnswer (s : State) (p l : Nat) (o : Outbound) : State :=
  let rd := fabReads o.f
  (s.fabRecord p l (if rd then 1 else 2) (if rd then 0x8022 else 0x8021) o.f.addr.toNat 0 0).fabAnswer (3 + 1 + 3) (fabReply o.f 0 rd)

/-- A surprise departure (R405), in the mclk of its detection: GONE, every outstanding request completed, records, SURPRISE; the Ward
starts INV over the windows. `code` is 0x8020, or 0x8030 for DPC. -/
def State.surprise (s : State) (p l code : Nat) (again : Bool) : State :=
  if s.lnkState p l ≠ LNK_UP ∧ s.lnkState p l ≠ LNK_HOLD then s
  else
    let v := s.link p l
    let dpc := code == 0x8030
    let s1 := (s.setLnkState p l LNK_GONE).markWindows p l R.FP_WIN_BASE_GONE
    let s2 := v.outstanding.foldl (fun s o => s.departAnswer p l o) s1
    let s3 := s2.fabRecord p l 2 code 0 (s.firstRid p l) 0
    let s4 := s3.fabEvent p l EV_SURPRISE 0
    let s5 := if dpc then (s4.fabEvent p l EV_DPC 0).fabSource p 2 else s4
    let d : Departure := { phase := 3, since := s5.tb, todo := s5.linkWindows p l, again := again }
    let v := s5.link p l
    (s5.setLink p l { partner := v.partner, bars := v.bars, ctx := v.ctx, dpc := dpc, perst := v.perst, depart := some d }).departNext p l

/-- SURPRISE_INV_DONE (R405): INV over the next window begins, or all have completed and the link is DOWN. -/
def State.surpriseDone (s : State) (p l : Nat) : State :=
  match (s.link p l).depart with
  | some d =>
    if d.phase ≠ 3 then s
    else if !d.todo.isEmpty then s.departNext p l
    else if s.wardMaintBusy then s
    else s.departEnd p l d
  | none => s

/-- Software clears a DPC trigger by a write of the root port's DPC status (R406): a new arrival follows. -/
def State.dpcClear (s : State) (q : PageReq) : State :=
  let a := q.addr.toNat
  let p := (ioDest a).1
  match stopFp? p, region a with
  | some p, .ecam =>
    match (List.range 4).find? (fun l => rootRid p l == bits a 27 12) with
    | some l =>
      let v := s.link p l
      let may := q.who.path == .ward || (isM q.who && !s.linkSecure p l)
      if !q.kind.writes || !may then s.respond ⟨q.who, q.tag, q.addr, q.kind.writes, 0, true, s.now⟩
      else
        let s0 := s.respond ⟨q.who, q.tag, q.addr, true, 0, false, s.now⟩
        if !v.dpc then s0
        else match v.depart with
          | some d => s0.setLink p l { v with dpc := false, depart := some { d with again := true } }
          | none => (s0.setLink p l { v with dpc := false }).setFld (linkPg p l) R.FP_LNK_STATUS_PRESENT 1
    | none => s
  | _, _ => s

-- dynamic capacity (R398)

/-- A dynamic capacity device reports an added or a released extent (R398): `range.units` units at the end of a window. An added
extent enlarges or creates the window once its range is clean; a release is performed once its FLUSH has ended. -/
def State.dcdEvent (s : State) (p l : Nat) (add : Bool) (w : Nat) (r : HdmRange) : State :=
  let pg := portPg p
  let v := s.link p l
  let en := s.flag pg (R.FP_WIN_BASE_EN.nth w)
  let a := s.fld pg (R.FP_WIN_BASE_BASE.nth w)
  let b := s.fld pg (R.FP_WIN_LIMIT_LIMIT.nth w)
  let db := s.fld pg (R.FP_WIN_BASE_HDMDB.nth w) == 1
  if s.lnkState p l ≠ LNK_UP ∨ r.units = 0 ∨ (en && s.fld pg (R.FP_WIN_BASE_LINK.nth w) != l) then s
  else if add then
    if en then
      if s.unitsTaken (b + 1) (b + r.units) || decide (0x800000 ≤ b + r.units) then s
      else ((s.invUnits (b + 1) (b + r.units)).putWindow p l w a (b + r.units) db).fabEvent p l EV_DCD_ADD w
    else match s.freeUnits r.units with
      | some a => ((s.invUnits a (a + r.units - 1)).putWindow p l w a (a + r.units - 1) r.hdmdb).fabEvent p l EV_DCD_ADD w
      | none => s
  else match v.dcd with
    | none =>
      if !en || decide (b + 1 < a + r.units) then s
      else (s.setLink p l { v with dcd := some { win := w, keep := b - r.units, since := s.tb } }).fabEvent p l EV_DCD_RELEASE w
    | some d =>
      if d.win ≠ w ∨ !d.flushing ∨ s.wardMaintBusy then s
      else
        let s1 := s.setLink p l { v with dcd := none }
        if d.keep < a then (s1.setReg (pg + 0x200 + 16 * w) 0).setReg (pg + 0x208 + 16 * w) 0
        else s1.putWindow p l w a d.keep db

-- completions (R393)

/-- The link that holds an outbound request a reply answers. -/
def State.outboundOf (s : State) (p : Nat) (r : Flit) : Option (Nat × Outbound × List Outbound) :=
  (List.range 4).findSome? (fun l =>
    (takeFirst (fun o : Outbound => o.f.src == r.dst && o.f.sport == r.dport && o.f.tag == r.tag) (s.link p l).outstanding).map
      (fun x => (l, x.1, x.2)))

/-- The oldest request that waits in the ingress queue for link l leaves it once there is room (R388). -/
def State.fabResume (s : State) (p l : Nat) : State :=
  match (Tab.get [] s.mesh.ingress (8 * fpStop p + 1)).find? (fun f => (f.plane == .req || f.op == OP_BRD || f.op == OP_BWRLINE) &&
      s.fabLinkOf p f == some l) with
  | some f => (s.taken f).fabRequest p f
  | none => s

/-- A completion arrives for an outbound request (R393, R178): data, a failure (op ERROR), or poison (R409), goes to its requester. -/
def State.completionIn (s : State) (r : Flit) : State :=
  match stopFp? r.src.val with
  | none => s
  | some p =>
    match s.outboundOf p r with
    | none => s
    | some (l, o, rest) =>
      let s1 := (s.setLink p l { s.link p l with outstanding := rest }).fabCount p l 0x02
      let s2 := if r.poison then (s1.fabRecord p l 1 0x8010 o.f.addr.toNat 0 0).fabCount p l 0x06 else s1
      let back := if r.op = OP_ERROR then errorReply o.f else fabReply o.f r.data r.poison
      (s2.sendAt (s.stopIn p l) back).fabResume p l

/-- No completion 1 ms after the request left the pins (R393). -/
def State.completionTimeout (s : State) (f : Flit) : State :=
  match stopFp? f.dst.val with
  | none => s
  | some p =>
    match (List.range 4).findSome? (fun l => (takeFirst (fun o : Outbound => o.f == f) (s.link p l).outstanding).map (fun x => (l, x.1, x.2))) with
    | none => s
    | some (l, o, rest) =>
      let s1 := (s.toMclk (o.at_ + 2400000)).setLink p l { s.link p l with outstanding := rest }
      (((s1.fabRecord p l 2 0x8060 f.addr.toNat 0 0).fabCount p l 0x08).fabRefuse o.f).fabResume p l

/-- An AER error of a link (R408, R409). -/
def State.aer (s : State) (p l : Nat) (unc : Bool) (rid status : Nat) : State :=
  if unc then s.fabSource p 2
  else ((s.fabRecord p l 0 0x8001 0 rid status).count (portPg p) 0x05 none (2 ^ l)).fabSource p 1

-- the fabric manager (R407)

/-- A message of the fabric manager fills the first of MBX28 to MBX31 that has no request outstanding (R87, R407); with none, or with EN = 0 in
that one (R86), it is discarded. -/
def State.fmMessage (s : State) (cmd : Nat) (args : List Nat) (seq : Nat) : State :=
  match (List.range 32).find? (fun b => decide (28 ≤ b) && s.fld (mbxPg b) R.WARD_MBX_STATUS_STATE != 1 &&
      s.fld (mbxPg b) R.WARD_MBX_STATUS_STATE != 2) with
  | some b =>
    if !s.flag (mbxPg b) R.WARD_MBX_ASSIGN_EN then s.record (portPg 0) 0 0x8070 0 0 false
    else
    let s1 := s.setReg (mbxPg b + 0x200) (cmd <<< 48 + args.length <<< 40)
    let s2 := (args.zip (List.range args.length)).foldl (fun s x => s.setReg (mbxPg b + 0x208 + 8 * x.2) x.1) s1
    s2.mbxDoorbell b seq
  | none => s.record (portPg 0) 0 0x8070 0 0 false

/-- The Ward serves an acknowledged request of the fabric manager (R407): FM_BIND waits for the arrival, FM_UNBIND for DEPARTED. -/
def State.fmServe (s : State) (b : Nat) : State :=
  let p := s.mbxIn b 1
  let l := s.mbxIn b 2
  if b < 28 ∨ s.fld (mbxPg b) R.WARD_MBX_STATUS_STATE ≠ 2 then s
  else match s.mbxCmd b with
    | 0x100 =>
      if 8 ≤ p ∨ 4 ≤ l then s.mbxFinish b RES_BADARG 0 []
      else if s.lnkState p l ≠ LNK_DOWN ∧ s.lnkState p l ≠ LNK_NOFLIT then s.mbxFinish b RES_INUSE 0 []
      else s.setFld (linkPg p l) R.FP_LNK_STATUS_PRESENT 1
    | 0x101 =>
      if 8 ≤ p ∨ 4 ≤ l then s.mbxFinish b RES_BADARG 0 []
      else if s.lnkState p l ≠ LNK_UP then s.mbxFinish b RES_INUSE 0 []
      else s.departStart p l
    | 0x102 =>
      let i := s.mbxIn b 4
      if 8 ≤ p ∨ 4 ≤ l ∨ 8 ≤ i ∨ !(s.otpSlot i).written ∨ (s.otpSlot i).type ≠ 2 then s.mbxFinish b RES_BADARG 0 []
      else
        match keyUnwrap (s.otpSlot i).key 9 (s.inBytes b 5 10) with
        | none => s.mbxFinish b RES_AUTH 0 []
        | some k =>
          let s1 := s.setLink p l { s.link p l with ideKey := some (BitVec.ofNat 576 (bytesNat k)) }
          (if (s.link p l).waitsKey then s1.arriveUp p l else s1).mbxFinish b RES_OK 0 []
    | 0x103 =>
      if 8 ≤ p then s.mbxFinish b RES_BADARG 0 []
      else s.mbxFinish b RES_OK 0 ((List.range 4).map (fun l => s.lnkWord p l))
    | _ => s

/-- FM_STATUS and the other messages named by an opcode (R407): 0xC001 INFO, 0xC103 FM_STATUS; any other is discarded. -/
def State.fmOpcode (s : State) (p op seq : Nat) : State :=
  if op = 0xC001 then s.fmMessage 0x001 [] seq
  else if op = 0xC103 then s.fmMessage 0x103 [p] seq
  else s.record (portPg p) 0 0x8070 0 0 false

-- register writes (R403, R404, R410, R411)

/-- Registers of a fabric port's page 0 (R410). -/
def State.fpPageWrite (s : State) (p off : Nat) (who : Requester) (v : Nat) : Option RegEffect :=
  let pg := portPg p
  let adm := wardOrM who
  if off = 0x100 then
    let up := (List.range 4).any (fun l => s.lnkState p l != LNK_DOWN)
    some { admitted := who.path == .ward
           act := if up || bits v 1 0 == 3 then .no FAULT_ACCESS s else .ok (s.setFld pg R.FP_CTL_BIFUR (bits v 1 0)) }
  else if off = 0x110 then some { admitted := adm, act := s.atsWrite p v }
  else if off = 0x120 then
    let log := if 4 ≤ bits v 4 0 ∧ bits v 4 0 ≤ 12 then bits v 4 0 else s.fld pg R.FP_PRQ_LOG
    let full := s.flag pg R.FP_PRQ_FULL && !bitN v 62
    some { admitted := adm, act := .ok (s.setReg (pg + off) (bits v 63 63 <<< 63 + b01 full <<< 62 + bits v 51 12 <<< 12 + log)) }
  else if off = 0x138 then some { admitted := adm, act := .ok (s.prgWrite p v) }
  else if 0x200 ≤ off ∧ off < 0x300 then
    let w := if off % 16 = 0 then bits v 63 58 <<< 58 + bits v 51 28 <<< 28 else bits v 51 28 <<< 28
    some { admitted := who.path == .ward, act := .ok (s.setReg (pg + off) w) }
  else if 0x100 ≤ off ∧ off < 0x140 then
    some { admitted := adm
           act := match rowAt .fp0 off with
             | some r => .ok (s.setReg (pg + off) (r.written (s.reg (pg + off)) v))
             | none => .ok s }
  else none

/-- A write of FP_LNK_CTL (R403, R404, R411). -/
def State.lnkCtlWrite (s : State) (p l v : Nat) : Wr :=
  let pg := linkPg p l
  let k := bits v 11 8
  let taken := (List.range 256).any (fun n => s.fnFld p l n R.FP_FN_VALID == 1 && s.fnFld p l n R.FP_FN_TENANT != 0)
  if (k ≠ s.fld pg R.FP_LNK_CTL_CLASS ∧ taken) ∨ (bitN v 0 ∧ s.lnkState p l ≠ LNK_UP) then .no FAULT_ACCESS s
  else
    let s1 := s.setFld pg R.FP_LNK_CTL_CLASS k
    let s2 := if bitN v 0 then (s1.setFld pg R.FP_LNK_CTL_DEPART 1).departStart p l else s1
    let waits := (s2.link p l).depart.any (fun d => d.phase == 1) || (s2.link p l).dcd.any (fun d => !d.flushing)
    .ok (if bitN v 1 && waits && !bitN v 0 then (s2.setFld pg R.FP_LNK_CTL_RELEASE 1).releaseActs p l else s2)

/-- Registers of link l's page (R403, R411). -/
def State.linkPageWrite (s : State) (p l off : Nat) (who : Requester) (v : Nat) : Option RegEffect :=
  let pg := linkPg p l
  if off = 0x108 then
    let named := s.secureClass (bits v 11 8) && bits v 11 8 != s.fld pg R.FP_LNK_CTL_CLASS
    some { locked := named && !s.writesSecure who, admitted := wardOrM who, act := s.lnkCtlWrite p l v }
  else if 0x400 ≤ off ∧ off < 0xC00 then
    let n := (off - 0x400) / 8
    let t := bits v 39 28
    let e := s.tctEntry t
    let bad := !tctValid e || tctClass e != (s.lnkClass p l).val || (t != 0 && s.lnkState p l != LNK_UP)
    let w := bits v 63 28 <<< 28 + bits v 15 0
    some { locked := s.secureClass (tctClass e) && tctValid e && !s.writesSecure who
           admitted := wardOrM who
           act := if bad then .no FAULT_ACCESS s else .ok ((s.setReg (pg + off) w).readFnCtx p l n) }
  else none

end Sys2Proof.Machine
end

