-- ==== Sys2Proof/Machine/Fabric.lean ====
section
/-! DEFINITION. The commands of the fabric ports (13 R388-R411) and the acknowledgement of mailboxes (R88), which serves the fabric
manager's. -/

namespace Sys2Proof.Machine

/-- MBX_ACKNOWLEDGE (R88); a fabric manager's command is served with it (R407). -/
def execMbxAcknowledge (b : Mbx) (s : State) : Out :=
  .next (if s.fld (mbxPg b.val) R.WARD_MBX_STATUS_STATE = 1 then (s.mbxAck b.val).fmServe b.val else s)
/-- LINK_ARRIVAL (R402). -/
def execLinkArrival (p : PortId) (l : LinkId) (partner : Partner) (s : State) : Out := .next (s.linkArrives p.val l.val partner)
/-- PLANNED_DEPARTURE (R404). -/
def execPlannedDeparture (p : PortId) (l : LinkId) (s : State) : Out := .next (s.departGo p.val l.val)
/-- RELEASE_TIMEOUT (R404). -/
def execReleaseTimeout (p : PortId) (l : LinkId) (s : State) : Out := .next (s.releaseTimeout p.val l.val)
/-- SURPRISE_DEPARTURE (R405). -/
def execSurpriseDeparture (p : PortId) (l : LinkId) (dpc : Bool) (s : State) : Out :=
  .next (s.surprise p.val l.val (if dpc then 0x8030 else 0x8020) false)
/-- SURPRISE_INV_DONE (R405). -/
def execSurpriseInvDone (p : PortId) (l : LinkId) (s : State) : Out := .next (s.surpriseDone p.val l.val)
/-- DPC_CLEAR (R406). -/
def execDpcClear (p : PageReq) (s : State) : Out := .next (s.dpcClear p)
/-- DCD_EVENT (R398). -/
def execDcdEvent (p : PortId) (l : LinkId) (add : Bool) (win : Fin 16) (range : HdmRange) (s : State) : Out :=
  .next (s.dcdEvent p.val l.val add win.val range)
/-- INBOUND_REQUEST (R395). -/
def execInboundRequest (i : Inbound) (s : State) : Out := .next (s.inbound i)
/-- D2H_REQUEST (R399). -/
def execD2hRequest (i : Inbound) (op : D2hOp) (s : State) : Out := .next (s.d2h i op)
/-- ATS_TRANSLATION_REQUEST (R400). -/
def execAtsTranslationRequest (i : Inbound) (s : State) : Out := .next (s.atsRequest i)
/-- PAGE_REQUEST (R401). -/
def execPageRequest (i : Inbound) (group : BitVec 9) (last : Bool) (read : Bool) (s : State) : Out :=
  .next (s.pageReqIn i group.toNat last read)
/-- ATS_INV_DONE (R400). -/
def execAtsInvDone (p : PortId) (s : State) : Out := .next (s.atsDone p.val)
/-- ATS_INV_TIMEOUT (R400). -/
def execAtsInvTimeout (p : PortId) (s : State) : Out := .next (s.atsTimeout p.val)
/-- OUTBOUND_COMPLETION_TIMEOUT (R393). -/
def execOutboundCompletionTimeout (f : Flit) (s : State) : Out := .next (s.completionTimeout f)
/-- INBOUND_COMPLETION (R393). -/
def execInboundCompletion (f : Flit) (s : State) : Out := .next (s.completionIn f)
/-- FM_BIND (R407). -/
def execFmBind (p : PortId) (l : LinkId) (device : Nat) (seq : BitVec 16) (s : State) : Out :=
  .next (s.fmMessage 0x100 [p.val, l.val, device] seq.toNat)
/-- FM_UNBIND (R407). -/
def execFmUnbind (p : PortId) (l : LinkId) (seq : BitVec 16) (s : State) : Out := .next (s.fmMessage 0x101 [p.val, l.val] seq.toNat)
/-- FM_IDE_KEY (R407). -/
def execFmIdeKey (p : PortId) (l : LinkId) (stream slot : Nat) (wrapped : BitVec 640) (seq : BitVec 16) (s : State) : Out :=
  .next (s.fmMessage 0x102 ([p.val, l.val, stream, slot] ++ (List.range 10).map (fun j => wrapped.toNat >>> (64 * j) % 2 ^ 64)) seq.toNat)
/-- FM_STATUS (R407). -/
def execFmStatus (p : PortId) (opcode : BitVec 16) (seq : BitVec 16) (s : State) : Out :=
  .next (s.fmOpcode p.val opcode.toNat seq.toNat)
/-- PERST_RELEASE (R524): the Ward raises the pin of a link that is DOWN. -/
def execPerstRelease (p : PortId) (l : LinkId) (s : State) : Out :=
  .next (s.setLink p.val l.val { s.link p.val l.val with perst := true })
/-- AER_ERROR (R408). -/
def execAerError (p : PortId) (l : LinkId) (uncorrectable : Bool) (rid : BitVec 16) (status : BitVec 32) (s : State) : Out :=
  .next (s.aer p.val l.val uncorrectable rid.toNat status.toNat)
/-- IDE_INTEGRITY_CHECK_FAILED (R409): record 0x8050, and a surprise departure. -/
def execIdeIntegrityCheckFailed (p : PortId) (l : LinkId) (s : State) : Out :=
  .next (if s.lnkState p.val l.val = LNK_UP ∨ s.lnkState p.val l.val = LNK_HOLD then
    (s.fabRecord p.val l.val 2 0x8050 0 (s.firstRid p.val l.val) 0).surprise p.val l.val 0x8020 false else s)

end Sys2Proof.Machine
end

