-- ==== Sys2Proof/Machine/Csr.lean ====
section
/-! DEFINITION. The CSRs of a hart as accesses see them (04 R105, R106, R116-R118; the standard ones as the RISC-V manuals that R12 names
lay them out: PRESUMED, log entry 98): which exist, the exception of an access by mode, what a read gives, what a write changes. -/

namespace Sys2Proof.Machine

/-- Whether a CSR exists (R105, R106): those of RVA23 and of the options implemented; not seed, ssp, nor those of Smaia and Ssaia. -/
def csrExists (n : Nat) : Bool :=
  [0x001, 0x002, 0x003, 0x008, 0x009, 0x00A, 0x00F, 0x100, 0x104, 0x105, 0x106, 0x10A, 0x10C, 0x10D, 0x10E, 0x10F, 0x140, 0x141, 0x142,
   0x143, 0x144, 0x14D, 0x180, 0x200, 0x204, 0x205, 0x240, 0x241, 0x242, 0x243, 0x244, 0x24D, 0x280, 0x5A8, 0x5C0].contains n ||
  [0x300, 0x301, 0x302, 0x303, 0x304, 0x305, 0x306, 0x30A, 0x30C, 0x30D, 0x30E, 0x30F, 0x320, 0x340, 0x341, 0x342, 0x343, 0x344, 0x34A,
   0x34B, 0x600, 0x602, 0x603, 0x604, 0x605, 0x606, 0x607, 0x60A, 0x60C, 0x60D, 0x60E, 0x60F, 0x643, 0x644, 0x645, 0x64A, 0x680].contains n ||
  [0x6A8, 0x747, 0x7A0, 0x7A1, 0x7A2, 0x7A3, 0x7A4, 0x7A8, 0x7C0, 0xC20, 0xC21, 0xC22, 0xDA0, 0xDC0, 0xE12, 0xF11, 0xF12, 0xF13, 0xF14,
   0xF15].contains n ||
  (decide (0x323 ≤ n) && decide (n ≤ 0x33F)) || (decide (0x3A0 ≤ n) && decide (n ≤ 0x3AE) && n % 2 == 0) ||
  (decide (0x3B0 ≤ n) && decide (n ≤ 0x3EF)) || (decide (0xB00 ≤ n) && decide (n ≤ 0xB1F) && n != 0xB01) ||
  (decide (0xC00 ≤ n) && decide (n ≤ 0xC1F))

/-- The debug CSRs dcsr, dpc, dscratch0 and dscratch1, which only a debugger reaches. -/
def csrDebug (n : Nat) : Bool := decide (0x7B0 ≤ n) && decide (n ≤ 0x7B3)

/-- The exception of a CSR access by the hart's mode (R105, R116-R118): illegal where the CSR is absent, for a write of a read-only one, and
for a mode too low; virtual-instruction where the manual has it so and for VS-mode at xnrtenant and a read of xnrsamplepc. -/
def csrTrap (a : Arch) (n : Nat) (insn : Nat) (write : Bool) : Option Trap :=
  let need := bits n 9 8
  let ill : Option Trap := some ⟨2, insn, 0⟩
  let vir : Option Trap := some ⟨22, insn, 0⟩
  if !csrExists n || (write && bits n 11 10 == 3) then ill
  else if a.priv = 3 then none
  else if need = 3 then ill
  else if n = CSR_XNRTENANT ∨ n = CSR_XNRSAMPLEPC then
    if a.virt then (if a.priv = 1 then vir else ill) else if a.priv = 0 then ill else none
  else if need = 2 then (if a.virt then vir else if a.priv = 0 then ill else none)
  else if need = 1 then (if a.priv = 0 then (if a.virt then vir else ill) else none)
  else none

/-- The counters of the part (R106): cycle, instret and hpmcounter3 to 10; 11 to 31 read zero. -/
def csrCounter (n : Nat) : Bool := n % 32 == 0 || n % 32 == 2 || (decide (3 ≤ n % 32) && decide (n % 32 ≤ 10))

/-- The bits of mstatus that sstatus shows. -/
def SSTATUS_BITS : Nat := 0x80000003000DE762
/-- Interrupt bits of HS-mode: those of mie and mip that sie and sip show are the delegated ones. -/
def SIE_BITS : Nat := 0x2222
def HIE_BITS : Nat := 0x1444

/-- What a CSR read gives (R1, R17, R106, R120). -/
def State.readCsr (s : State) (h n : Nat) : Nat :=
  let v := (s.tick h).hart h
  let a := v.a
  let g := a.getCsr
  let sie (x : Nat) : Nat := x &&& g CSR_MIDELEG &&& SIE_BITS
  let vsie (x : Nat) : Nat := (x &&& g CSR_HIDELEG &&& HIE_BITS) >>> 1 &&& SIE_BITS
  if n = 0x001 then bits (g CSR_FCSR) 4 0
  else if n = 0x002 then bits (g CSR_FCSR) 7 5
  else if n = 0x00F then g 0x00A <<< 1 + g 0x009
  else if n = 0x100 then g CSR_MSTATUS &&& SSTATUS_BITS
  else if n = 0x104 then sie (g CSR_MIE)
  else if n = 0x144 then sie (s.mip h)
  else if n = 0x204 then vsie (g CSR_MIE)
  else if n = 0x244 then vsie (s.mip h)
  else if n = 0x303 then g CSR_MIDELEG ||| HIE_BITS
  else if n = 0x604 then g CSR_MIE &&& HIE_BITS
  else if n = 0x644 then s.mip h &&& HIE_BITS
  else if n = CSR_MIP then s.mip h
  else if n = 0x7A4 then 0x01008078
  else if 0xB00 ≤ n ∧ n ≤ 0xB1F then (if csrCounter n then g n else 0)
  else if 0x323 ≤ n ∧ n ≤ 0x33F then (if n ≤ 0x32A then g n else 0)
  else if n = 0xC01 then (s.tb + (if a.virt then g CSR_HTIMEDELTA else 0)) % 2 ^ 64
  else if 0xC00 ≤ n ∧ n ≤ 0xC1F then (if csrCounter n then g (n - 0x100) else 0)
  else if n = 0xDA0 then (List.range 8).foldl (fun m i => if bitN (g (CSR_MHPMEVENT + 3 + i)) 63 then m + 2 ^ (3 + i) else m) 0
  else if n = 0xE12 then v.hgeip
  else if n = 0xF14 then h
  else g (csrSlot (g CSR_TSELECT) n)

/-- A value merged into the writable bits of another. -/
def mergeBits (old mask v : Nat) : Nat := (old &&& (2 ^ 64 - 1 - mask)) ||| (v &&& mask)

/-- mstatus with its read-only SD bit as FS and VS give it. -/
def withSd (v : Nat) : Nat := putBits v 63 63 (b01 (bits v 14 13 == 3 || bits v 10 9 == 3))

/-- The new value of xnrctl (R117): reserved bits stay 0, EPC and EPI keep their value where the one written is out of range. -/
def xnrctlWritten (old v : Nat) : Nat :=
  let epc := if 7 ≤ bits v 15 12 ∧ bits v 15 12 ≤ 11 then bits v 15 12 else bits old 15 12
  let epi := if 6 ≤ bits v 11 8 ∧ bits v 11 8 ≤ 10 then bits v 11 8 else bits old 11 8
  bits v 63 63 <<< 63 + bits v 27 24 <<< 24 + bits v 17 16 <<< 16 + epc <<< 12 + epi <<< 8

/-- Whether R67 refuses a value of xnrtenant: a secure class, a tenant not VALID, or another class than its entry's. -/
def State.tenantRefused (s : State) (v : Nat) : Bool :=
  let k := bits v 15 12
  let e := s.tctEntry (bits v 11 0)
  s.secureClass k || !tctValid e || tctClass e != k

/-- The serialising CSR writes (R124): satp, vsatp, hgatp, pmpcfg, pmpaddr, mseccfg, the environment configurations, xnrtenant, xnrctl. -/
def csrSerial (n : Nat) : Bool :=
  [CSR_SATP, CSR_VSATP, CSR_HGATP, CSR_MSECCFG, CSR_MENVCFG, CSR_HENVCFG, CSR_SENVCFG, CSR_XNRTENANT, CSR_XNRCTL].contains n ||
  (decide (0x3A0 ≤ n) && decide (n ≤ 0x3EF))

/-- pmpcfg and pmpaddr writes: a locked entry keeps its value unless mseccfg.RLB is set. -/
def pmpWritten (a : Arch) (n v : Nat) : Nat :=
  let rlb := bitN (a.getCsr CSR_MSECCFG) 2
  let cfg (i : Nat) : Nat := bits (a.getCsr (CSR_PMPCFG + 2 * (i / 8))) (8 * (i % 8) + 7) (8 * (i % 8))
  let locked (i : Nat) : Bool := !rlb && bitN (cfg i) 7
  if n < CSR_PMPADDR then
    (List.range 8).foldl (fun w j =>
      let i := 8 * ((n - CSR_PMPCFG) / 2) + j
      if locked i then w else putBits w (8 * j + 7) (8 * j) (bits v (8 * j + 7) (8 * j) &&& 0x9F)) (a.getCsr n)
  else
    let i := n - CSR_PMPADDR
    if locked i || (decide (i < 63) && locked (i + 1) && bits (cfg (i + 1)) 4 3 == 1) then a.getCsr n else bits v 53 0

/-- A CSR write that no exception stops (R106, R116-R118): misa, the endianness bits, read-only fields and CSRs and the counters 11 to 31
keep their value, as does a field written with a value it cannot hold. -/
def State.writeCsr (s : State) (h n v : Nat) : State :=
  let s := s.tick h
  let a := (s.hart h).a
  let g := a.getCsr
  let put (n v : Nat) : State := s.withArch h (fun a => a.putCsr n v)
  let atp (v asid : Nat) : State :=
    if bits v 63 60 = 0 ∨ bits v 63 60 = 8 ∨ bits v 63 60 = 9 ∨ bits v 63 60 = 10 then
      put n (bits v 63 60 <<< 60 + bits v (44 + asid - 1) 44 <<< 44 + bits v 43 0) else s
  if bits n 11 10 = 3 ∨ n = CSR_MISA ∨ n = 0x7A4 ∨ n = 0x244 then s
  else if n = 0x001 then put CSR_FCSR (putBits (g CSR_FCSR) 4 0 v)
  else if n = 0x002 then put CSR_FCSR (putBits (g CSR_FCSR) 7 5 v)
  else if n = CSR_FCSR then put n (bits v 7 0)
  else if n = 0x00F then s.withArch h (fun a => (a.putCsr 0x009 (bits v 0 0)).putCsr 0x00A (bits v 2 1))
  else if n = CSR_MSTATUS then
    let w := mergeBits (g n) 0x000000C0007E7FAA v
    put n (withSd (if bits w 12 11 = 2 then putBits w 12 11 (bits (g n) 12 11) else w))
  else if n = 0x100 then put CSR_MSTATUS (withSd (mergeBits (g CSR_MSTATUS) 0x00000000000C6722 v))
  else if n = CSR_VSSTATUS then put n (withSd (mergeBits (g n) 0x00000000000C6722 v))
  else if n = CSR_HSTATUS then put n (mergeBits (g n) (if bits v 17 12 ≤ 7 then 0x73F3C0 else 0x7003C0) v)
  else if n = CSR_MIE then put n (v &&& 0x3EEE)
  else if n = 0x104 then put CSR_MIE (mergeBits (g CSR_MIE) (g CSR_MIDELEG &&& SIE_BITS) v)
  else if n = 0x204 then put CSR_MIE (mergeBits (g CSR_MIE) (g CSR_HIDELEG &&& HIE_BITS) (v <<< 1))
  else if n = 0x604 then put CSR_MIE (mergeBits (g CSR_MIE) HIE_BITS v)
  else if n = CSR_MIP then put n (v &&& 0x2222)
  else if n = 0x144 then put CSR_MIP (mergeBits (g CSR_MIP) (g CSR_MIDELEG &&& 0x2002) v)
  else if n = 0x644 then put CSR_HVIP (mergeBits (g CSR_HVIP) 4 v)
  else if n = CSR_HVIP then put n (v &&& 0x444)
  else if n = CSR_MIDELEG then put n (v &&& SIE_BITS)
  else if n = CSR_HIDELEG then put n (v &&& HIE_BITS)
  else if n = CSR_HGEIE then put n (v &&& 0xFE)
  else if n = CSR_MTVEC ∨ n = CSR_STVEC ∨ n = CSR_VSTVEC then
    put n (if 2 ≤ bits v 1 0 then v / 4 * 4 + bits (g n) 1 0 else v)
  else if n = CSR_MEPC ∨ n = CSR_SEPC ∨ n = CSR_VSEPC then put n (v / 2 * 2)
  else if n = CSR_SATP ∨ n = CSR_VSATP then atp v 16
  else if n = CSR_HGATP then atp (v / 4 * 4) 14
  else if 0x3A0 ≤ n ∧ n ≤ 0x3EF then put n (pmpWritten a n v)
  else if n = CSR_MCOUNTINHIBIT then put n (v &&& 0x7FD)
  else if (0x323 ≤ n ∧ n ≤ 0x33F) ∨ (0xB00 ≤ n ∧ n ≤ 0xB1F) then (if csrCounter n then put n v else s)
  else if n = CSR_XNRTENANT then (if s.tenantRefused v then s else put n (v % 2 ^ 16))
  else if n = CSR_XNRCTL then put n (xnrctlWritten (g n) v)
  else if n = CSR_TSELECT then (if v < 8 then put n v else s)
  else if n = 0x7A1 then
    (if [3, 4, 5, 6, 15].contains (bits v 63 60) then put (csrSlot (g CSR_TSELECT) n) v
     else put (csrSlot (g CSR_TSELECT) n) 0xF000000000000000)
  else put (csrSlot (g CSR_TSELECT) n) v

end Sys2Proof.Machine
end

