-- ==== Sys2Proof/Machine/Epochs.lean ====
section
/-! DEFINITION. How the epochs of a hart end (04 R122-R133, 14 R423-R425): core faults, discards and reprints, the commit of closed epochs,
which answers the snoops that waited for them (R129), and trap entry. -/

namespace Sys2Proof.Machine

-- core faults (R423-R425)

/-- The core that a reprint of hart h in cluster c would take (R424), other than core `not_`. -/
def State.reprintCore (s : State) (c h not_ : Nat) : Option Nat :=
  let ks := (List.range 4).map (fun i => 4 * c + i) |>.filter (· != not_)
  let ok (k : Nat) : Bool := !s.flag (corePg k) R.CORE_RUN_FENCED && !s.flag (corePg k) R.PG_STATUS_RETIRED
  let idle (k : Nat) : Bool := ok k && s.flag (corePg k) R.PG_RESET_HOLDRST && s.flag (corePg k) R.PG_STATUS_READY
  match ks.find? idle with
  | some k => some k
  | none => ks.find? (fun k => ok k && !s.flag (corePg k) R.CORE_RUN_SHARED && s.flag (corePg k) R.PG_STATUS_READY &&
      !s.flag (corePg k) R.PG_RESET_HOLDRST &&
      (let o := s.fld (corePg k) R.CORE_RUN_HART0
       let a := (s.hart o).a
       (s.hart o).started && !(s.hart o).parked && bitN (a.getCsr CSR_XNRCTL) 16 &&
         (a.cls == (s.hart h).a.cls || s.flag (rasPg 0) R.RAS_POLICY_XSHARE)))

/-- Write every dirty L1D line of a core into the L2 (R423, R455); the L1s stay as `keep` says. -/
def State.drainL1 (s : State) (k : Nat) (keep : Bool) : State :=
  let c := k / 4
  let co := s.core k
  let cl := s.cluster c
  let l2 := co.l1d.foldl (fun t e =>
    if e.2.dirty then match Tab.at? t e.1 with
      | some w => Tab.ins e.1 { w with data := e.2.data, st := if w.st = .o then .o else .m } t
      | none => t
    else t) cl.l2
  let s1 := s.setCluster c { cl with l2 := l2 }
  s1.setCore k (if keep then { co with l1d := co.l1d.map (fun e => (e.1, { e.2 with dirty := false })) }
                else { co with l1d := [], l1i := [] })

/-- The hart's discarded work: every epoch from index `i` of those uncommitted (the closed ones, then the open one) is
dropped, and its state is that of the oldest dropped epoch's Negative, or, where that epoch is an I/O-region access's own,
that of the epoch after it, or the state just after the access when none has begun (R133, R423). -/
def State.discardEpochs (s : State) (h i : Nat) : State :=
  let v := s.hart h
  let all := v.closed ++ v.epoch.toList
  match all.drop i with
  | [] => s
  | e :: rest =>
    let neg : Arch × Word := if e.io then (match rest with
        | r :: _ => ((s.negative h r.copy).a, (s.negative h r.copy).cmp)
        | [] => (v.a, v.cmp)) else ((s.negative h e.copy).a, (s.negative h e.copy).cmp)
    s.setHart h { v with
      a := neg.1, cmp := neg.2, closed := v.closed.take i, epoch := none, misses := [], shadow := [], bypass := [], head := none, resv := none, wait := none, fenceWait := false,
      negCopy := e.copy }

/-- Put hart h on core k and start its reprint, which ends at mclk `t` (R424, R425, R428). -/
def State.startReprint (s : State) (h k t : Nat) : State :=
  let idle := s.flag (corePg k) R.PG_RESET_HOLDRST
  let s1 : State := { s with hartCore := Tab.ins h k s.hartCore }
  let s2 := if idle then
      ((s1.setFld (corePg k) R.PG_RESET_HOLDRST 0).setFld (corePg k) R.CORE_RUN_HART0 h).setFld (corePg k) R.CORE_RUN_SHARED 0
    else ((s1.setFld (corePg k) R.CORE_RUN_SHARED 1).setFld (corePg k) R.CORE_RUN_HART1 h)
  let s3 := if idle then s2.setCore k { s2.core k with second := false }
    else s2.setCore k { s2.core k with turnAt := s2.now }
  let s4 := match s3.negSlot (k / 4) h with
    | some n => s3.setFld (negPg (k / 4)) (R.CL_NEG_SLOT_PARKED.nth n) 0
    | none => s3
  s4.setHart h { s4.hart h with parked := false, restore := some t, started := true }

/-- Word 2 of a record of family 0x4 (R414): hart, checker, CORE_EPOCH.LAST, and the core that runs the hart after the event. -/
def State.coreDetail (s : State) (h checker k : Nat) : Nat :=
  h <<< 48 + checker <<< 44 + s.fld (corePg k) R.CORE_EPOCH_LAST <<< 41 + k

/-- RAS page 1 names a hart as parked or lost (R444), and source 1,751 is raised (R418). -/
def State.markParked (s : State) (h : Nat) : State :=
  let g := R.RAS_PARK.nth (h / 64)
  (s.setFld (rasPg 1) g (s.fld (rasPg 1) g ||| 2 ^ (h % 64))).pulse 1751

/-- Park a hart (R424, R428). -/
def State.parkHart (s : State) (h : Nat) : State :=
  let c := s.coreOf h / 4
  let s1 := match s.negSlot c h with
    | some n => s.setFld (negPg c) (R.CL_NEG_SLOT_PARKED.nth n) 1
    | none => s
  ((s1.setHart h { s1.hart h with parked := true, restore := none }).record (clusterPg c) 2 0x4021 (s.hart h).a.pc.toNat
    (s.coreDetail h 0 (s.coreOf h)) false).markParked h

/-- Reprint hart h, whose core was fenced or which is parked in cluster c, from its Negative, or park it (R424, R425). -/
def State.reprint (s : State) (h c : Nat) : State :=
  match s.reprintCore c h (s.coreOf h) with
  | none => s.parkHart h
  | some k =>
    let s1 := s.startReprint h k (s.now + 3 + 6 + 48 + s.ccyc k (3 + 64))
    let o := s1.fld (corePg k) R.CORE_RUN_HART0
    if s1.flag (corePg k) R.CORE_RUN_SHARED && (s1.hart o).a.cls != (s1.hart h).a.cls then
      s1.record (corePg k) 0 0x4025 0 (s1.coreDetail h 0 k) false
    else s1

/-- A core fault of core k, found in uncommitted epoch `i` of its running hart by a checker (R414, R423); snoops that waited for what it
discards are answered (R129). -/
def State.coreFault (s : State) (k i checker : Nat) : State :=
  let c := k / 4
  let harts := match s.coreHart k with
    | none => []
    | some h => h :: (if s.flag (corePg k) R.CORE_RUN_SHARED then
        [if (s.core k).second then s.fld (corePg k) R.CORE_RUN_HART0 else s.fld (corePg k) R.CORE_RUN_HART1] else [])
  let s1 := match harts with
    | h :: _ => s.discardEpochs h i
    | [] => s
  let h := harts.headD 0
  let after := (s1.reprintCore c h k).getD k
  let s2 := ((s1.setFld (corePg k) R.CORE_RUN_FENCED 1).setFld (corePg k) R.CORE_RUN_SHARED 0).record (corePg k) 2 0x4020
    (s1.hart h).a.pc.toNat (s1.coreDetail h checker k - k + after) false
  let s3 := s2.drainL1 k false
  let s4 := s3.setCore k { s3.core k with faults := (s3.core k).faults + 1, fencedAt := some s3.now, second := false }
  (harts.foldl (fun s h => s.reprint h c) s4).retrySnoops c

/-- A store commits to a line that other harts of the cluster hold unretired in their fill shadows: they read it anew from the L2, with
what it holds now (R130). -/
def State.freshShadow (s : State) (c h l : Nat) (d : Line) : State :=
  (s.clusterHarts c).foldl (fun s o =>
    let v := s.hart o
    if o = h ∨ (!v.misses.any (fun m => (Tab.at? m.got l).isSome) && (Tab.at? v.shadow l).isNone) then s
    else
      let put (t : Tab L2Line) : Tab L2Line := match Tab.at? t l with
        | some w => Tab.ins l { w with data := d } t
        | none => t
      s.setHart o { v with shadow := put v.shadow, misses := v.misses.map (fun m => { m with got := put m.got }) }) s

/-- The commit of the hart's oldest closed epoch, `n` ccyc after it closed (R126): a checker's error is a core fault (R123,
R423); else its lines are written into L1D, all at once, and the snoops that waited for it are answered (R129). -/
def State.commitOldest (s : State) (h n : Nat) : State :=
  let v := s.hart h
  match v.closed with
  | [] => s
  | e :: rest =>
    let k := s.coreOf h
    let c := k / 4
    let s0 := s.toMclk (s.ccycAt k e.closedAt n)
    if e.inject = 1 ∨ e.inject = 3 ∨ e.inject = 4 then s0.coreFault k 0 (if e.inject = 1 then 1 else if e.inject = 3 then 2 else 3)
    else
      let s1 := if e.inject = 2 then s0.record (corePg k) 0 0x4001 v.a.pc.toNat (s0.coreDetail h 4 k) false else s0
      let s2 := e.stores.foldl (fun (s : State) b =>
        if b.2.mask = 0 then s
        else
          let co := s.core k
          let cl := s.cluster c
          let old := match Tab.at? co.l1d b.1 with
            | some w => w.data
            | none => ((Tab.at? cl.l2 b.1).map (fun w => w.data)).getD 0
          let new := (List.range 64).foldl (fun l i =>
            if bitN b.2.mask i then lineMerge l i 1 (bits b.2.data.toNat (8 * i + 7) (8 * i)) else l) old
          let s := s.setCore k { co with l1d := Tab.ins b.1 ⟨new, true⟩ co.l1d }
          -- other cores' copies of the line, instruction copies included, go (R138, R139, R186)
          let ks := (s.fetchers c b.1).filter (· != k)
          let s := (((List.range 4).foldl (fun s i =>
            let o := s.core (4 * c + i)
            s.setCore (4 * c + i) { o with
              l1d := if 4 * c + i = k then o.l1d else Tab.del b.1 o.l1d
              l1i := o.l1i.filter (· != b.1) }) s).refetch ks).freshShadow c h b.1 new
          match Tab.at? cl.l2 b.1 with
          | some w => s.setCluster c { cl with l2 := Tab.ins b.1 { w with st := .m } cl.l2 }
          | none => s) s1
      let s3 := s2.setFld (corePg k) R.CORE_EPOCH_COMMITS (s2.fld (corePg k) R.CORE_EPOCH_COMMITS + 1)
      let s4 := s3.setHart h { s3.hart h with closed := rest, cbos := (s3.hart h).cbos + e.cbos.length }
      let s5 := e.cbos.foldl (fun s f => s.sendAt (s.atStop k) f) s4
      let s6 := s5.hpm h 0x20 (2 ^ e.cause) false
      let v6 := s6.hart h
      (if v6.closed.isEmpty && v6.cbos == 0 then s6.setHart h { v6 with fenceWait := false } else s6).retrySnoops c

/-- The instructions of hart h that wait for lines are abandoned: their count, and that of the fill-shadow entries dropped (R134, R501). -/
def State.abandon (s : State) (h : Nat) : State :=
  (s.hart h).misses.foldl (fun s m => (m.lines ++ m.got.map (·.1)).foldl (fun s _ => s.hpm h 0x31 0 false) (s.hpm h 0x32 0 false)) s

/-- Take a trap at the mclk of its recognition, cycle 0 (R122-R124): unretired work is abandoned, the open epoch closes and commits by
cycle 24, the next epoch begins at cycle 8 with the state the entry has written, and the handler's fetch issues at cycle 31. A checker's
error in an epoch that the trap closed, or in the one before it, voids the entry (R123). -/
def State.takeTrap (s : State) (h : Nat) (t : Trap) (tinst : Nat) (intr : Bool) : State :=
  let k := s.coreOf h
  let s0 := ((s.tick h).abandon h).hpm h 0x40 (if intr then 1 else 2) false
  let s1 := s0.closeEpoch h 6
  let s2 := s1.setHart h { s1.hart h with misses := [], shadow := [], bypass := [], head := none, wait := none, fenceWait := false }
  let bad (s : State) : Bool := match (s.hart h).closed with
    | e :: _ => e.inject == 1 || e.inject == 3 || e.inject == 4
    | [] => false
  let older := decide (1 < (s2.hart h).closed.length)
  let s3 := if older then s2.commitOldest h 24 else s2
  if older && bad s2 then s3
  else
    let s4 := (s3.withArch h (fun a => a.trap t tinst intr)).openEpoch h false
    let s5 := s4.setHart h { s4.hart h with
      epoch := (s4.hart h).epoch.map (fun e => { e with begun := s.ccycAt k s.now 8 }) }
    if (s5.hart h).closed.isEmpty then s5.toMclk (s.ccycAt k s.now 31)
    else
      let s6 := s5.commitOldest h 24
      if bad s5 then s6 else s6.toMclk (s.ccycAt k s.now 31)

end Sys2Proof.Machine
end

