-- ==== Sys2Proof/Machine/TaskQueue.lean ====
section
/-! DEFINITION. The events of the task queues (10 R316-R335). -/

namespace Sys2Proof.Machine

/-- A message of queue c: its own state change, once it has been taken at the tile's stop; elsewhere nothing. -/
def State.queueMessage (s : State) (f : Flit) (act : State → Nat → State) : Out :=
  .next (if (stopTile? f.dst.val).isNone then s.taken f else act s (f.dst.val - 12))

/-- A full-line write reaches a task doorbell (R316), after what goes ahead of it in its class's lane (R319). Any other access is refused (R32). -/
def execTaskDoorbell (f : Flit) (s : State) : Out :=
  s.queueMessage f (fun s c =>
    if isDoorbell c f then ((s.laneOffers c f.cls.val (some f)).taken f).doorbellArrive c f else (s.taken f).send (errorReply f))

/-- An idle engine chooses a class and a task, rechecks it and starts the kernel (R320-R324); refills that have arrived are pushed first
(R319). -/
def execTaskDispatch (e : Tile) (s : State) : Out :=
  .next (((List.range 16).foldl (fun s k => s.laneOwner e.val k) s).dispatch e.val)

/-- The completion of queue c that a reply belongs to, waiting in the given phase. -/
def State.complOf (s : State) (c : Nat) (f : Flit) (p : ComplPhase) : Option Compl :=
  (s.queue c).compl.find? (fun x => x.tag == f.tag.val && x.phase == p)

/-- A reply to a completion of phase p: what it asked for first lets it go on, and the reply to its access is acted on. -/
def State.complReply (s : State) (f : Flit) (p : ComplPhase) (act : State → Nat → Compl → State) : Out :=
  s.queueMessage f (fun s0 c =>
    let s := s0.taken f
    match s.complOf c f p with
    | none => s
    | some x => if x.due = .access then act s c x else s.complGo c (x.got f))

/-- The BACK of a completion write reaches the queue: the task is complete (R327); a refused write is logged. -/
def execTaskComplete (f : Flit) (s : State) : Out :=
  s.complReply f .write (fun s c x => (if replyFails f then s.complFails c x (dCrec x.desc) else s).completed c x s.now)

/-- The reply of a join's decrement (R329): an old value of 1 reads the continuation. -/
def execJoinDecrement (f : Flit) (s : State) : Out :=
  s.complReply f .join (fun s c x =>
    if replyFails f || f.poison then (s.dropCompl c x.tag).complFails c x (dJblk x.desc)
    else if lineWord f.data 0 = 1 then s.startCont c x s.now
    else s.dropCompl c x.tag)

/-- The continuation descriptor arrives (R329): checked with the tenant and class of the join, and offered to this queue. -/
def execContinuationRead (f : Flit) (s : State) : Out :=
  s.complReply f .cont (fun s c x =>
    let s1 := s.dropCompl c x.tag
    if replyFails f || f.poison then s1.complFails c x (dJblk x.desc + 64)
    else if dValid f.data then ((s1.laneOwner c x.cls.val).doorbellSubmit c f.data x.ctx x.tenant x.cls).1
    else s1)

/-- The BACK of a spill write arrives (R330): the ring entry may be read; a refused write disables the ring (R331). -/
def execSpillWriteAck (f : Flit) (s : State) : Out :=
  let s := s.taken f
  let c := f.dst.val - 12
  let q := s.queue c
  .next (if (stopTile? f.dst.val).isNone then s else match takeFirst (fun e : Cls × Nat => 512 + 32 * e.1.val + e.2 % 32 == f.tag.val) q.spills with
  | none => s
  | some (e, rest) =>
    let s1 := s.setQueue c { q with spills := rest }
    if replyFails f then s1.disableRing c e.1.val else s1)

/-- While class k holds few entries, the queue reads the spill entry at HEAD (R330). -/
def execSpillRefill (c : Tile) (k : Cls) (s : State) : Out := .next (s.refill c.val k.val)

/-- A refilled descriptor arrives: pushed at the bottom, or discarded with record 0x6010 if poisoned (R331). -/
def execRefillArrival (f : Flit) (s : State) : Out := s.queueMessage f (fun s c => (s.taken f).refillArrive c f)

/-- An idle engine with no entries begins a steal round (R332). -/
def execStealRound (c : Tile) (s : State) : Out := .next (s.stealRound c.val)

/-- The backoff after a failed round ends and a new round begins (R332). -/
def execStealBackoffEnd (c : Tile) (s : State) : Out :=
  .next (match (s.queue c.val).backoff with
  | none => s
  | some t =>
    let s1 := s.toMclk t
    (s1.setQueue c.val { s1.queue c.val with backoff := none }).stealRound c.val)

/-- A victim answers a STEAL (R334), after what goes ahead of it in its class's lane (R319). -/
def execSteal (f : Flit) (s : State) : Out :=
  s.queueMessage f (fun s c => ((s.laneSteals c f.cls.val f).taken f).answerSteal c f)

/-- A STEALRSP arrives at the thief (R335, R337): EMPTY asks the next victim; the first descriptor starts, later ones go to
the bottom; an unsolicited one is pushed on top. Each descriptor of a steal is answered with BACK. A first descriptor that finds the engine no
longer free is placed as a later one (log entry 113). -/
def execStealrsp (f : Flit) (s : State) : Out :=
  s.queueMessage f (fun s c =>
    let s := s.taken f
    let back := { replyTo f .bulk OP_BACK with tag := f.tag }
    match f.detail.toNat with
    | 0 => s.nextSteal c
    | 4 =>
      let en := s.laneEnter c f.cls.val s.now
      en.1.pushTop c f.data (en.2 + 3)
    | n =>
      let s1 := ((s.bump (queuePg c) R.TQ_STEAL_TAKEN 1).count (enginePg c) 0x08 (some f.cls.val) 0).send back
      let s2 := s1.setQueue c { s1.queue c with round := none, cut := false }
      if n = 1 ∧ s2.engineFree c then s2.dispatchOne c f.data s2.now
      else
        let en := s2.laneEnter c f.cls.val s2.now
        en.1.pushBottom c f.data (en.2 + 3))

/-- A BACK reaches the victim, which drops its copy (R335). -/
def execStealBack (f : Flit) (s : State) : Out :=
  let s := s.taken f
  let c := f.dst.val - 12
  let q := s.queue c
  .next (if (stopTile? f.dst.val).isNone then s else s.setQueue c { q with stolen := q.stolen.filter (fun x => x.tag != f.tag.val) })

/-- A stolen copy without BACK 1,536 mclk after its flit was presented is pushed back at the bottom, with record 0x6012
(R335). -/
def execStealCopyTimeout (c : Tile) (tag : Fin 2048) (s : State) : Out :=
  let q := s.queue c.val
  .next (match takeFirst (fun x : StolenCopy => x.tag == tag.val) q.stolen with
  | none => s
  | some (x, rest) =>
    let s1 := s.toMclk (x.at_ + 1536)
    let en := (s1.setQueue c.val { s1.queue c.val with stolen := rest }).laneEnter c.val (dClass x.desc).val s1.now
    (en.1.pushBottom c.val x.desc (en.2 + 3)).record (queuePg c.val) 0 0x6012
      (dTag x.desc) tag.val (s.secureClass (dClass x.desc).val))

end Sys2Proof.Machine
end

