-- ==== Sys2Proof/Machine/Hart.lean ====
section
/-! DEFINITION. The instructions of a hart and the events of its epochs (04 R110-R144): each is performed on the hart's
state, waits for its lines as a miss, waits at the head of the reorder buffer for earlier commits, or traps. -/

namespace Sys2Proof.Machine

/-- The hart may issue an instruction: it runs, no head-of-buffer operation and no I/O access is outstanding, and a PAUSE or a
WRS.STO has run out (R106); time moves to its end. -/
def State.hartIssue (s : State) (h : Nat) : Option State :=
  let v := s.hart h
  if !s.hartOn h || v.head.isSome || v.io.isSome || !v.mayRetire then none
  else match v.wait with
    | none => some s
    | some .wfi => none
    | some (.pause t) => some ((s.toMclk t).setHart h { v with wait := none })
    | some (.wrs t) => some ((s.toMclk t).setHart h { v with wait := none })

/-- Whether a FENCE still holds the hart's loads and stores (R131). -/
def HartState.fenced (v : HartState) : Bool := v.fenceWait && (!v.closed.isEmpty || v.cbos != 0)

/-- funct3 of a load or store (the RISC-V base format). -/
def funct3 (size : MemSize) (sx : Bool) : Nat :=
  (match size with
    | .b => 0 | .h => 1 | .w => 2 | .d => 3 | .q => 4) + (if sx then 0 else 4)

/-- The word of TASK.SUBMIT rd, rs1 (R110), and its register fields. -/
def submitWord (rd rs1 : Reg) : BitVec 32 := BitVec.ofNat 32 (rs1.val <<< 15 + rd.val <<< 7 + 0x2B)
def submitRd (w : BitVec 32) : Reg := Fin.ofNat 32 (bits w.toNat 11 7)
def submitRs1 (w : BitVec 32) : Reg := Fin.ofNat 32 (bits w.toNat 19 15)

/-- The transformed instruction that mtinst and htinst hold after a guest-page fault (R106): the instruction with its
immediate and rs1 fields as the Privileged Manual gives; `off` is the address offset of a misaligned half. -/
def tinstOf (i : Instr) (off : Nat) : Nat :=
  let r (rs2 f3 rd op : Nat) : Nat := rs2 <<< 20 + off <<< 15 + f3 <<< 12 + rd <<< 7 + op
  match i with
  | .load _ rd _ _ size sx fp => r 0 (funct3 size (sx || size == .d || fp)) rd.val (if fp then 0x07 else 0x03)
  | .store _ rs2 _ _ size fp => r rs2.val (funct3 size true) 0 (if fp then 0x27 else 0x23)
  | .amo _ rd _ rs2 op size aqrl =>
    let f5 := match op with
      | .swap => 1 | .add => 0 | .xor => 4 | .and => 12 | .or => 8 | .min => 16 | .max => 20 | .minu => 24 | .maxu => 28 | .cas => 5
    f5 <<< 27 + aqrl.toNat <<< 25 + r rs2.val (funct3 size true) rd.val 0x2F
  | .lr _ rd _ size aqrl => 2 <<< 27 + aqrl.toNat <<< 25 + r 0 (funct3 size true) rd.val 0x2F
  | .sc _ rd _ rs2 size aqrl => 3 <<< 27 + aqrl.toNat <<< 25 + r rs2.val (funct3 size true) rd.val 0x2F
  | .cboInval _ _ => 2 <<< 12 + 0x0F
  | .cboClean _ _ => 1 <<< 20 + 2 <<< 12 + 0x0F
  | .cboFlush _ _ => 2 <<< 20 + 2 <<< 12 + 0x0F
  | .cboZero _ _ => 4 <<< 20 + 2 <<< 12 + 0x0F
  | _ => 0

/-- Trap of an instruction: the transformed instruction goes with a guest-page fault of a load or store only (R106); poison
is logged as 0x4010 (R431). -/
def State.trapOn (s : State) (h : Nat) (t : Trap) (i : Instr) (off : Nat) : State :=
  let s1 := if t.cause = 19 then s.record (corePg (s.coreOf h)) 1 0x4010 t.tval (s.coreDetail h 0 (s.coreOf h)) false else s
  s1.takeTrap h t (if t.cause = 21 ∨ t.cause = 23 then tinstOf i off else 0) false

/-- The illegal-instruction exception, with the instruction's bits (R106), and the virtual-instruction exception. -/
def illegal (insn : Nat) : Trap := ⟨2, insn, 0⟩
def virtualInsn (insn : Nat) : Trap := ⟨22, insn, 0⟩

/-- The parts of an access: one, or two where it spans two lines (R140): address and bytes. -/
def accessParts (va n : Nat) : List (Nat × Nat) :=
  if va % 64 + n ≤ 64 then [(va, n)] else [(va, 64 - va % 64), ((va + 64 - va % 64) % 2 ^ 64, n - (64 - va % 64))]

/-- A physical part of an access: address, bytes, kind (0 main memory, 1 NC, 2 I/O). -/
structure Part where
  pa : Nat
  n : Nat
  kind : Nat
  deriving DecidableEq, Repr

/-- What the translation of an access gives: a trap, a line that a walk must ask for, or its parts. -/
inductive Placed where
  | stop (t : Trap)
  | ask (line : Nat)
  | parts (ps : List Part)
  deriving DecidableEq, Repr

/-- Translate every part before any is performed (R140). -/
def State.parts (s : State) (h : Nat) (write : Bool) : List (Nat × Nat) → Placed
  | [] => .parts []
  | (va, n) :: t =>
    match s.translate h va write false false with
    | .stop x => .stop x
    | .ask l => .ask l
    | .place pa k =>
      match s.parts h write t with
      | .parts ps => .parts (⟨pa, n, k⟩ :: ps)
      | x => x

/-- Bring every line, in order; the lines missing otherwise, or none when some line must wait (R129). -/
def State.bringAll (s : State) (h : Nat) (own : Bool) : List Nat → Option (State × List Nat)
  | [] => some (s, [])
  | l :: t =>
    match s.bring h l own with
    | .wait => none
    | .miss => match s.bringAll h own t with
      | none => none
      | some (s1, ms) => some (s1, l :: ms)
    | .ready s1 => s1.bringAll h own t

/-- The value of all parts, lowest bytes first (R5): a part that bypasses the caches comes from the line that came for it (R109). -/
def State.partsValue (s : State) (h : Nat) : List Part → Nat
  | [] => 0
  | p :: t => s.hartValue h p.pa p.n (p.kind == 1) + (s.partsValue h t) <<< (8 * p.n)

/-- Write a loaded value: integer registers sign- or zero-extended, floating-point ones NaN-boxed. -/
def Arch.putLoaded (a : Arch) (rd : Reg) (n v : Nat) (sx fp : Bool) : Arch :=
  if fp then a.putF rd (w64 (v % 2 ^ (8 * n) + (if n < 8 then (2 ^ 64 - 2 ^ (8 * n)) else 0)))
  else a.putX rd (extendTo n v sx)

/-- The exception that a refused or failed request of an instruction raises (R32, R70), at the address the instruction names. -/
def accessTrap (s : State) (h : Nat) (i : Instr) : Trap :=
  let a := (s.hart h).a
  match i with
  | .load _ _ rs1 off _ _ _ => ⟨5, (a.getX rs1 + off.signExtend 64).toNat, 0⟩
  | .store _ _ rs1 off _ _ => ⟨7, (a.getX rs1 + off.signExtend 64).toNat, 0⟩
  | .ioRegionAccess _ _ rs1 off _ _ write => ⟨if write then 7 else 5, (a.getX rs1 + off.signExtend 64).toNat, 0⟩
  | .amo _ _ rs1 _ _ _ _ => ⟨7, (a.getX rs1).toNat, 0⟩
  | .sc _ _ rs1 _ _ _ => ⟨7, (a.getX rs1).toNat, 0⟩
  | .cboZero _ rs1 => ⟨7, (a.getX rs1).toNat, 0⟩
  | .cboClean _ rs1 => ⟨7, (a.getX rs1).toNat, 0⟩
  | .cboFlush _ rs1 => ⟨7, (a.getX rs1).toNat, 0⟩
  | .cboInval _ rs1 => ⟨7, (a.getX rs1).toNat, 0⟩
  | .lr _ _ rs1 _ _ => ⟨5, (a.getX rs1).toNat, 0⟩
  | .taskSubmit _ insn => ⟨5, (a.getX (submitRs1 insn)).toNat, 0⟩
  | _ => ⟨5, 0, 0⟩

/-- Ask for lines that an instruction lacks: refused where its tenant may not enter the data hierarchy (R70, R76), else it waits for them
as a miss (R134). -/
def State.askLines (s : State) (h : Nat) (ls nc : List Nat) (own : Bool) (op : Option (Fin 32)) (i : Instr) : State :=
  if !s.tenantOk (s.hart h).a.tenant.val then s.trapOn h (accessTrap s h i) i 0 else s.missLines h ls nc own op i true

/-- An access that a register page does not accept, refused at the core, shows in the page addressed (R39). -/
def State.refusePage (s : State) (h pa : Nat) (write : Bool) : State :=
  match pageAt pa with
  | some p => s.accessFault p.base FAULT_ACCESS (s.hartReq h) (pa % 4096) write
  | none => s

/-- Issue an I/O-region access at the head of the reorder buffer (R131): to the agent that serves the address (R58). -/
def State.issueIo (s : State) (h : Nat) (i : Instr) (pa n : Nat) (write : Bool) (v : Nat) : State :=
  let x := s.hart h
  let d := ioDest pa
  let f := mkFlit .req (tileStop (s.coreOf h / 4)) 1 d.1 d.2 x.a.cls
    (if region pa = .doorbell then OP_DOORBELL else if write then OP_WRIO else OP_RDIO) (512 + h) pa
  (s.setHart h { x with io := some ⟨i, BitVec.ofNat 52 pa, write, s.tb⟩, shadow := [], bypass := [] }).sendAt (s.atStop (s.coreOf h))
    { f with tenant := x.a.tenant, key := s.tenantKey x.a.tenant.val, priv := x.a.privField, count := Fin.ofNat 65 n,
             data := lineOfWords [w64 v] }

/-- An operation that is performed at the head of the reorder buffer (R131, R124): the open epoch closes before it; with
epochs still uncommitted it waits. -/
def State.atHead (s : State) (h cause : Nat) (i : Instr) (f : State → State) : State :=
  let s1 := s.closeEpoch h cause
  let v := s1.hart h
  if v.closed.isEmpty then f (s1.setHart h { v with head := none }) else s1.setHart h { v with head := some i }

/-- A load or store of which a part lies in an I/O region or a main-memory page with PBMT = IO: refused when misaligned, at the lowest
address of the half that fails (R140, R142), at the core too where it is a load of a doorbell (R32), else an I/O-region access (R131). -/
def State.ioAccess (s : State) (h : Nat) (i : Instr) (va n : Nat) (ps : List Part) (write : Bool) (v : Nat) : State :=
  let refuse (p : Part) (va : Nat) : State := (s.refusePage h p.pa write).trapOn h ⟨accessCause write false, va, 0⟩ i 0
  match ps with
  | [] => s
  | [p] =>
    if va % n ≠ 0 then refuse p va
    else if !s.tenantOk (s.hart h).a.tenant.val || (!write && region p.pa == .doorbell) then
      s.trapOn h ⟨accessCause write false, va, 0⟩ i 0
    else s.atHead h 4 i (fun s => s.issueIo h i p.pa n write v)
  | p :: q :: _ => if p.kind = 2 then refuse p va else refuse q ((va + p.n) % 2 ^ 64)

/-- Whether a line stands in the L1D of the hart's core: an access to it stays in the core (R76, R145). -/
def State.inL1D (s : State) (h l : Nat) : Bool := (Tab.at? (s.core (s.coreOf h)).l1d l).isSome

/-- The mclk at which a load whose lines are all at hand ends (R145, R146): at once where they had to come, since their fill has been
counted; 4 ccyc for the store buffer and L1D; else the L2 hit. -/
def State.loadEnd (s : State) (h : Nat) (ls : List Nat) (again : Bool) : Nat :=
  let k := s.coreOf h
  let p := max 1 (s.point k)
  if again then s.now
  else if ls.all (fun l => s.inL1D h l) then s.ccycAt k s.now 4
  else cclkOf p (loadL2Hit p (ccycOf p s.now))

/-- Put a line that a retiring instruction read into its core's L1D (R134, R135). -/
def State.fillL1 (s : State) (h l : Nat) : State :=
  match s.bring h l false with
  | .ready s1 => s1
  | _ => s

/-- A load whose lines are all at hand retires (R130, R134, R135): the lines `ls` of its cached parts come into L1D now. -/
def State.retireLoad (s : State) (h : Nat) (rd : Reg) (n v : Nat) (sx fp again : Bool) (ls : List Nat) : State :=
  let t := s.loadEnd h ls again
  let s1 := (s.openEpoch h false).installShadow h
  let s2 := ls.foldl (fun s l => s.fillL1 h l) s1
  let s3 := (s2.withArch h (fun a => a.putLoaded rd n v sx fp)).hpm h 0x10 0 true
  let s4 := if again then (s3.hpm h 0x12 0 true).hpm h 0x13 0 true else s3
  (s4.toMclk t).retire h

/-- A load (R109, R130, R140, R142). A part with PBMT = NC takes its line from its home and leaves it in no cache. `again`: lines it waited
for have come. -/
def State.doLoad (s : State) (h : Nat) (i : Instr) (rd rs1 : Reg) (off : BitVec 12) (n : Nat) (sx fp again : Bool) : State :=
  let a := (s.hart h).a
  let va := (a.getX rs1 + off.signExtend 64).toNat
  match s.parts h false (accessParts va n) with
  | .stop t => s.trapOn h t i (t.tval - va)
  | .ask l => s.askLines h [l] [] false none i
  | .parts ps =>
    if ps.any (fun p => p.kind == 2) then s.ioAccess h i va n ps false 0
    else
      let need := ps.filter (fun p => !(s.hart h).buffered p.pa p.n)
      let lack := (need.filter (fun p => (s.hartLine h (p.pa / 64) (p.kind == 1)).isNone)).map (fun p => p.pa / 64)
      let cached := (need.filter (fun p => p.kind == 0)).map (fun p => p.pa / 64)
      let out := cached.any (fun l => !s.inL1D h l)
      if !lack.isEmpty then
        s.askLines h lack ((need.filter (fun p => p.kind == 1)).map (fun p => p.pa / 64)) false none i
      else if out && !again && !s.tenantOk a.tenant.val then s.trapOn h (accessTrap s h i) i 0
      else if need.any (fun p => s.linePoison h (p.pa / 64) (p.kind == 1)) then s.trapOn h ⟨19, va, 0⟩ i 0
      else s.retireLoad h rd n (s.partsValue h ps) sx fp again cached

/-- A store (R125, R138, R140, R142): its lines are owned, its bytes enter the epoch store buffer; a full buffer closes the
epoch before the store retires. -/
def State.doStore (s : State) (h : Nat) (i : Instr) (va n v : Nat) : State :=
  match s.parts h true (accessParts va n) with
  | .stop t => s.trapOn h t i (t.tval - va)
  | .ask l => s.askLines h [l] [] false none i
  | .parts ps =>
    if ps.any (fun p => p.kind == 2) then s.ioAccess h i va n ps true v
    else
      let ls := ps.map (fun p => p.pa / 64)
      if ls.any (fun l => !s.inL1D h l) && !s.tenantOk (s.hart h).a.tenant.val then s.trapOn h (accessTrap s h i) i 0
      else match s.bringAll h true ls with
      | none => s
      | some (s1, m :: ms) => s1.askLines h (m :: ms) [] true none i
      | some (s1, []) =>
        let full (x : HartState) : Bool := decide (64 < x.entries + x.newEntries ls)
        let s2 := if full (s1.hart h) then s1.closeEpoch h 7 else s1
        if !(s2.hart h).mayRetire || full (s2.hart h) then s2.hpm h 0x21 0 false
        else
          let s3 := s2.openEpoch h false
          let s4 := (ps.foldl (fun (acc : State × Nat) p =>
            (acc.1.bufferStore h p.pa p.n acc.2, acc.2 >>> (8 * p.n))) (s3, v)).1
          let k := s4.coreOf h
          let hit := (s4.core k).l1i.any (fun l => ls.contains l)
          let s5 := if hit then
              ((s4.setCore k { s4.core k with l1i := (s4.core k).l1i.filter (fun l => !ls.contains l) }).hpm h 0x41 0 false).toMclk
                (s4.ccycAt k s4.now 40)
            else s4
          (s5.hpm h 0x11 0 true).retire h

/-- The result of an AMO on the old value, both of n bytes (R105; Zacas compares with rd). -/
def amoResult (op : AmoOp) (n old src cmp : Nat) : Nat :=
  let m := 2 ^ (8 * n)
  let so := signedN (8 * n) old
  let ss := signedN (8 * n) src
  (match op with
  | .swap => src | .add => old + src | .xor => Nat.xor old src | .and => old &&& src | .or => old ||| src
  | .min => if so < ss then old else src | .max => if so < ss then src else old
  | .minu => if old < src % m then old else src % m | .maxu => if old < src % m then src % m else old
  | .cas => if old = cmp % m then src else old) % m

/-- The pair of registers of a 128-bit AMOCAS; x0 stands for zero. -/
def Arch.getPair (a : Arch) (r : Reg) : Nat :=
  if r = 0 then 0 else (a.getX r).toNat + (a.getX (r + 1)).toNat <<< 64
def Arch.putPair (a : Arch) (r : Reg) (v : Nat) : Arch :=
  if r = 0 then a else (a.putX r (w64 v)).putX (r + 1) (w64 (v >>> 64))

/-- A line for an operation at the head of the reorder buffer (R131): held, asked for, or waited for. `f` performs the operation. -/
def State.withLine (s : State) (h l : Nat) (own nc : Bool) (va : Nat) (i : Instr) (f : State → State) : State :=
  let hold (s : State) : State := s.setHart h { s.hart h with head := some i }
  if !s.inL1D h l && !s.tenantOk (s.hart h).a.tenant.val then s.trapOn h (accessTrap s h i) i 0
  else if nc || (!own && (s.bring h l false == .miss)) then
    match s.hartLine h l nc with
    | some w =>
      if w.poison then s.trapOn h ⟨19, va, 0⟩ i 0
      else if nc then f s
      else match (s.installShadow h).bring h l false with
        | .ready s1 => f s1
        | _ => hold s
    | none => hold (s.missLines h [l] (if nc then [l] else []) own none i true)
  else match s.bring h l own with
    | .wait => hold s
    | .miss => hold (s.missLines h [l] [] own none i true)
    | .ready s1 => if s1.linePoison h l false then s1.trapOn h ⟨19, va, 0⟩ i 0 else f s1

/-- Common to AMO, LR and SC (R131, R142): misaligned, refused (an I/O region does not support them, R108: a register page shows it, R39),
waiting at the head, waiting for the line, then performed as its own epoch, whose line stays held until it commits. -/
def State.doReserved (s : State) (h : Nat) (i : Instr) (va n : Nat) (write own : Bool) (f : State → Nat → State) : State :=
  if va % n ≠ 0 then s.trapOn h ⟨if write then 6 else 4, va, 0⟩ i 0
  else match s.translate h va write false false with
    | .stop t => s.trapOn h t i 0
    | .ask l => s.askLines h [l] [] false none i
    | .place pa k =>
      if k = 2 then (s.refusePage h pa write).trapOn h ⟨accessCause write false, va, 0⟩ i 0
      else s.atHead h 3 i (fun s => s.withLine h (pa / 64) own false va i (fun s =>
        let s2 := (s.openEpoch h false).bufferStore h pa 0 0
        (((f s2 pa).hpm h 0x10 0 true).retire h).closeEpoch h 3))

/-- An AMO (R131). -/
def State.doAmo (s : State) (h : Nat) (i : Instr) (rd rs1 rs2 : Reg) (op : AmoOp) (size : MemSize) : State :=
  let a := (s.hart h).a
  let va := (a.getX rs1).toNat
  let n := size.bytes
  if size = .q ∧ (op ≠ .cas ∨ rd.val % 2 = 1 ∨ rs2.val % 2 = 1) then s.trapOn h (illegal (tinstOf i 0 + rs1.val <<< 15)) i 0
  else s.doReserved h i va n true true (fun s pa =>
    let a := (s.hart h).a
    let old := s.hartValue h pa n false
    let src := if size = .q then a.getPair rs2 else (a.getX rs2).toNat
    let cmp := if size = .q then a.getPair rd else (a.getX rd).toNat
    let new := amoResult op n old (src % 2 ^ (8 * n)) cmp
    (s.bufferStore h pa n new).withArch h (fun a => if size = .q then a.putPair rd old else a.putX rd (extendTo n old true)))

/-- An LR reserves its line (R106, R131). -/
def State.doLr (s : State) (h : Nat) (i : Instr) (rd rs1 : Reg) (size : MemSize) : State :=
  let va := ((s.hart h).a.getX rs1).toNat
  let n := size.bytes
  if size ≠ .w ∧ size ≠ .d then s.trapOn h (illegal (tinstOf i 0 + rs1.val <<< 15)) i 0
  else s.doReserved h i va n false false (fun s pa =>
    let s1 := s.withArch h (fun a => a.putX rd (extendTo n (s.hartValue h pa n false) true))
    s1.setHart h { s1.hart h with resv := some ⟨pa / 64, s1.now⟩ })

/-- An SC stores where its reservation holds (R106, R131): rd is 0, else 1. -/
def State.doSc (s : State) (h : Nat) (i : Instr) (rd rs1 rs2 : Reg) (size : MemSize) : State :=
  let va := ((s.hart h).a.getX rs1).toNat
  let n := size.bytes
  if size ≠ .w ∧ size ≠ .d then s.trapOn h (illegal (tinstOf i 0 + rs1.val <<< 15)) i 0
  else s.doReserved h i va n true true (fun s pa =>
    let v := s.hart h
    let ok := match v.resv with
      | some r => r.line == pa / 64
      | none => false
    let s1 := if ok then s.bufferStore h pa n ((v.a.getX rs2).toNat % 2 ^ (8 * n)) else s
    let s2 := s1.withArch h (fun a => a.putX rd (if ok then 0 else 1))
    s2.setHart h { s2.hart h with resv := none })

/-- Whether a cache-block operation is enabled for the hart's mode: the bit of menvcfg, henvcfg and senvcfg that governs it
(the Privileged Manual's fields); `none` allowed, `some true` a virtual-instruction exception, `some false` illegal. -/
def cboEnabled (a : Arch) (test : Nat → Bool) : Option Bool :=
  if a.priv = 3 then none
  else if !test (a.getCsr CSR_MENVCFG) then some false
  else if a.virt && !test (a.getCsr CSR_HENVCFG) then some true
  else if a.priv = 0 && !test (a.getCsr CSR_SENVCFG) then some a.virt
  else none

/-- Send a CMO with the epoch it belongs to (R143): 0 CLEAN, 1 FLUSH, 2 INVAL that discards. It is performed after that
epoch's commit. -/
def State.doCbo (s : State) (h : Nat) (i : Instr) (rs1 : Reg) (kind : Nat) : State :=
  let a := (s.hart h).a
  let va := (a.getX rs1).toNat / 64 * 64
  let bit := if kind = 2 then (fun e => bits e 5 4 != 0) else (fun e => bitN e 6)
  let insn := tinstOf i 0 + rs1.val <<< 15
  match cboEnabled a bit with
  | some true => s.trapOn h (virtualInsn insn) i 0
  | some false => s.trapOn h (illegal insn) i 0
  | none =>
    match s.translate h va false false false with
    | .ask l => s.askLines h [l] [] false none i
    | .stop t =>
      let cause := if t.cause = 13 then 15 else if t.cause = 5 then 7 else if t.cause = 21 then 23 else t.cause
      s.trapOn h ⟨cause, (a.getX rs1).toNat, t.tval2⟩ i 0
    | .place pa k =>
      if k = 2 then (s.refusePage h pa true).trapOn h ⟨7, (a.getX rs1).toNat, 0⟩ i 0
      else if !s.tenantOk a.tenant.val then s.trapOn h (accessTrap s h i) i 0
      else
        -- CBIE = 01 at any level makes an INVAL a FLUSH (R143)
        let weak (c : Nat) : Bool := bits (a.getCsr c) 5 4 == 1
        let flush := kind == 2 && a.priv != 3 &&
          (weak CSR_MENVCFG || (a.virt && weak CSR_HENVCFG) || (a.priv == 0 && weak CSR_SENVCFG))
        let s1 := s.openEpoch h false
        let v := s1.hart h
        let c := s1.coreOf h / 4
        let f := mkFlit .req (tileStop c) 1 (tileStop (s1.homeOf pa)) 2 a.cls OP_CMO (1024 + h) (lineBase pa)
        let f1 := { f with tenant := a.tenant, key := s1.tenantKey a.tenant.val, priv := a.privField,
                           detail := w64 (if flush then 1 else kind) }
        (s1.setHart h { v with epoch := v.epoch.map (fun e => { e with cbos := e.cbos ++ [f1] }) }).retire h

/-- CBO.ZERO (R144): BLANK obtains the line, then 64 zero bytes enter the epoch store buffer. -/
def State.doCboZero (s : State) (h : Nat) (i : Instr) (rs1 : Reg) (again : Bool) : State :=
  let a := (s.hart h).a
  let va := (a.getX rs1).toNat / 64 * 64
  let insn := tinstOf i 0 + rs1.val <<< 15
  match cboEnabled a (fun e => bitN e 7) with
  | some true => s.trapOn h (virtualInsn insn) i 0
  | some false => s.trapOn h (illegal insn) i 0
  | none =>
    match s.translate h va true false false with
    | .ask l => s.askLines h [l] [] false none i
    | .stop t => s.trapOn h { t with tval := (a.getX rs1).toNat } i 0
    | .place pa k =>
      let l := pa / 64
      -- the line its own BLANK brought is owned; another line is asked for
      let mine := again && (Tab.at? (s.cluster (s.coreOf h / 4)).l2 l).any (fun w => w.st == .m || w.st == .e)
      if k = 2 then (s.refusePage h pa true).trapOn h ⟨7, (a.getX rs1).toNat, 0⟩ i 0
      else if !mine then s.askLines h [l] [] true (some OP_BLANK) i
      else match s.bring h l true with
        | .wait => s
        | .miss => s.askLines h [l] [] true (some OP_BLANK) i
        | .ready s1 =>
          let full (x : HartState) : Bool := decide (64 < x.entries + x.newEntries [l])
          let s2 := if full (s1.hart h) then s1.closeEpoch h 7 else s1
          if !(s2.hart h).mayRetire || full (s2.hart h) then s2
          else ((((s2.openEpoch h false).bufferStore h (lineBase pa) 64 0)).hpm h 0x11 0 true).retire h

/-- PREFETCH (R143): 0 R, 1 I, 2 W; nothing leaves for a line the L2 holds or is writing back, an I/O region, a failed translation or a
tenant that may not enter (R70). -/
def State.doPrefetch (s : State) (h : Nat) (i : Instr) (rs1 : Reg) (off : BitVec 12) (kind : Nat) : State :=
  let a := (s.hart h).a
  let va := (a.getX rs1 + off.signExtend 64).toNat
  match s.translate h va (kind == 2) (kind == 1) false with
  | .ask l => if s.tenantOk a.tenant.val then s.missLines h [l] [] false none i true else s.retire h
  | .place pa 0 =>
      let l := pa / 64
      let c := s.coreOf h / 4
      let have_ := match Tab.at? (s.cluster c).l2 l with
        | some w => w.key == s.tenantKey a.tenant.val
        | none => false
      let gone := (Tab.at? (s.cluster c).evicting l).isSome
      if have_ || gone || !s.tenantOk a.tenant.val then s.retire h
      else ((s.dropForeign c l (s.tenantKey a.tenant.val)).askHome h l OP_PREFETCH (384 + l % 128) kind).retire h
  | _ => s.retire h

/-- TASK.SUBMIT (R114, R115): the descriptor is read once earlier epochs have committed, checked, and offered to the queue of
the cluster that hosts the hart (R428); the status reaches rd 9 mclk, the crossing and 2 ccyc later. -/
def State.doTaskSubmit (s : State) (h : Nat) (i : Instr) (insn : Nat) (rd rs1 : Reg) : State :=
  let a := (s.hart h).a
  let va := (a.getX rs1).toNat
  let ctl := a.getCsr CSR_XNRCTL
  let allowed := a.priv == 3 || bitN ctl (if a.virt then (if a.priv = 1 then 26 else 27) else if a.priv = 1 then 24 else 25)
  if !allowed then s.trapOn h (if a.virt && bitN ctl 24 then virtualInsn insn else illegal insn) i 0
  else if va % 64 ≠ 0 then s.trapOn h ⟨4, va, 0⟩ i 0
  else match s.translate h va false false false with
    | .stop t => s.trapOn h t i 0
    | .ask l => s.askLines h [l] [] false none i
    | .place pa k =>
      if k = 2 then (s.refusePage h pa false).trapOn h ⟨5, va, 0⟩ i 0
      else s.atHead h 4 i (fun s => s.withLine h (pa / 64) false (k == 1) va i (fun s1 =>
        let d : Line := BitVec.ofNat 512 (s1.hartValue h (lineBase pa) 64 (k == 1))
        let c := s1.coreOf h / 4
        let r := (s1.laneOwner c a.cls.val).submit c d a.tenant a.cls (s1.now + 3)
        let s2 := r.1.openEpoch h true
        let s3 := (s2.withArch h (fun a => a.putX rd (w64 r.2.1))).toMclk (s2.ccycAt (s1.coreOf h) (r.2.2 + 6) 5)
        (s3.retire h).closeEpoch h 4))

/-- The vendor instructions that custom-0 and custom-1 words encode (R110). -/
inductive Vendor where
  | pbFlush
  | pbBar
  | taskSubmit (rd rs1 : Reg)
  deriving DecidableEq, Repr

/-- The vendor instruction of a word (R110); every other word of custom-0 to custom-3 is illegal. -/
def vendorOf (w : BitVec 32) : Option Vendor :=
  if w = 0x0000000B then some .pbFlush
  else if w = 0x0000100B then some .pbBar
  else if w = submitWord (submitRd w) (submitRs1 w) then some (.taskSubmit (submitRd w) (submitRs1 w))
  else none

/-- PB.FLUSH (R111): every prediction structure of the hart is cleared, in 32 ccyc; the prediction epoch stays. -/
def State.pbFlush (s : State) (h : Nat) : State :=
  (s.setHart h { s.hart h with predictor := [] }).toMclk (s.ccycAt (s.coreOf h) s.now 32)

/-- PB.BAR (R112): the prediction epoch advances by 1; the wrap from 15 to 0 also flushes. -/
def State.pbBar (s : State) (h : Nat) : State :=
  let v := s.hart h
  let s1 := s.setHart h { v with predEpoch := (v.predEpoch + 1) % 16 }
  if v.predEpoch = 15 then s1.pbFlush h else s1.toMclk (s1.ccycAt (s1.coreOf h) s1.now 1)

/-- A word of the custom spaces is executed (R110): the vendor instruction it encodes, else the illegal-instruction exception. -/
def State.doVendor (s : State) (h : Nat) (i : Instr) (w : BitVec 32) : State :=
  match vendorOf w with
  | some .pbFlush => (s.pbFlush h).retire h
  | some .pbBar => (s.pbBar h).retire h
  | some (.taskSubmit rd rs1) => s.doTaskSubmit h i w.toNat rd rs1
  | none => s.trapOn h (illegal w.toNat) i 0

/-- Perform an instruction of a hart; `again`: the lines it waited for have come. -/
def State.performHart (s : State) (i : Instr) (again : Bool) : State :=
  match i with
  | .load h rd rs1 off size sx fp => s.doLoad h.val i rd rs1 off size.bytes sx fp again
  | .store h rs2 rs1 off size fp =>
    let a := (s.hart h.val).a
    s.doStore h.val i (a.getX rs1 + off.signExtend 64).toNat size.bytes
      ((if fp then a.getF rs2 else a.getX rs2).toNat % 2 ^ (8 * size.bytes))
  | .amo h rd rs1 rs2 op size _ => s.doAmo h.val i rd rs1 rs2 op size
  | .lr h rd rs1 size _ => s.doLr h.val i rd rs1 size
  | .sc h rd rs1 rs2 size _ => s.doSc h.val i rd rs1 rs2 size
  | .cboZero h rs1 => s.doCboZero h.val i rs1 again
  | .taskSubmit h insn => s.doVendor h.val i insn
  | .pbFlush h insn => s.doVendor h.val i insn
  | .pbBar h insn => s.doVendor h.val i insn
  | .prefetchR h rs1 off => s.doPrefetch h.val i rs1 off 0
  | .prefetchI h rs1 off => s.doPrefetch h.val i rs1 off 1
  | .prefetchW h rs1 off => s.doPrefetch h.val i rs1 off 2
  | .cboClean h rs1 => s.doCbo h.val i rs1 0
  | .cboFlush h rs1 => s.doCbo h.val i rs1 1
  | .cboInval h rs1 => s.doCbo h.val i rs1 2
  | .ioRegionAccess h rd rs1 off size sx write =>
    let a := (s.hart h.val).a
    let va := (a.getX rs1 + off.signExtend 64).toNat
    if write then
      match s.parts h.val true (accessParts va size.bytes) with
      | .parts ps => if ps.any (fun p => p.kind == 2) then
          s.ioAccess h.val i va size.bytes ps true ((a.getX rd).toNat % 2 ^ (8 * size.bytes)) else s
      | .ask l => s.askLines h.val [l] [] false none i
      | .stop t => s.trapOn h.val t i (t.tval - va)
    else
      match s.parts h.val false (accessParts va size.bytes) with
      | .parts ps => if ps.any (fun p => p.kind == 2) then s.doLoad h.val i rd rs1 off size.bytes sx false again else s
      | .ask l => s.askLines h.val [l] [] false none i
      | .stop t => s.trapOn h.val t i (t.tval - va)
  | _ => s

/-- Issue an instruction that nothing older holds back (R130): all the hart's misses have ended. -/
def State.issueAlone (s : State) (h : Nat) (f : State → State) : State :=
  match s.hartIssue h with
  | none => s
  | some s1 => if !(s1.hart h).misses.isEmpty then s1 else f (s1.setHart h { s1.hart h with shadow := [], bypass := [] })

/-- As `issueAlone`, for a load or store that a FENCE may hold (R131). -/
def State.issueMem (s : State) (h : Nat) (f : State → State) : State :=
  s.issueAlone h (fun s => if (s.hart h).fenced then s else f s)

/-- The register a waiting instruction will write, if it is a load. -/
def loadDest (i : Instr) : Option (Reg × Bool) :=
  match i with
  | .load _ rd _ _ _ _ fp => some (rd, fp)
  | _ => none

/-- A hart load (R130, R134). While older loads wait for their lines, a younger one that does not read their results may only
ask for its own line. -/
def execLoad (h : HartId) (rd rs1 : Reg) (off : BitVec 12) (size : MemSize) (sx fp : Bool) (s : State) : Out :=
  let i : Instr := .load h rd rs1 off size sx fp
  .next (match s.hartIssue h.val with
  | none => s
  | some s1 =>
    let v := s1.hart h.val
    if v.fenced then s1
    else if size = .q then s1.trapOn h.val (illegal (tinstOf i 0 + rs1.val <<< 15 + off.toNat <<< 20)) i 0
    else if v.misses.isEmpty then (s1.setHart h.val { v with shadow := [], bypass := [] }).performHart i false
    else
      let va := (v.a.getX rs1 + off.signExtend 64).toNat
      let free := v.misses.all (fun m => match loadDest m.instr with
        | some (r, fp') => fp' || r != rs1
        | none => false)
      match free, s1.parts h.val false (accessParts va size.bytes) with
      | true, .parts [p] =>
        if p.kind = 0 && (s1.hartLine h.val (p.pa / 64) false).isNone && (s1.hart h.val).bufferedByte p.pa == none &&
            s1.tenantOk v.a.tenant.val && !v.misses.any (fun m => m.lines.contains (p.pa / 64) || (Tab.at? m.got (p.pa / 64)).isSome) then
          s1.missLines h.val [p.pa / 64] [] false none i false
        else s1
      | _, _ => s1)

/-- A hart store (R125). -/
def execStore (h : HartId) (rs2 rs1 : Reg) (off : BitVec 12) (size : MemSize) (fp : Bool) (s : State) : Out :=
  let i : Instr := .store h rs2 rs1 off size fp
  .next (s.issueMem h.val (fun s => if size = .q then
      s.trapOn h.val (illegal (tinstOf i 0 + rs1.val <<< 15 + (off.toNat / 32) <<< 25 + (off.toNat % 32) <<< 7)) i 0
    else s.performHart i false))

/-- An AMO (R131). -/
def execAmo (h : HartId) (rd rs1 rs2 : Reg) (op : AmoOp) (size : MemSize) (aqrl : BitVec 2) (s : State) : Out :=
  .next (s.issueMem h.val (fun s => s.performHart (.amo h rd rs1 rs2 op size aqrl) false))

/-- An LR (R106, R131). -/
def execLr (h : HartId) (rd rs1 : Reg) (size : MemSize) (aqrl : BitVec 2) (s : State) : Out :=
  .next (s.issueMem h.val (fun s => s.performHart (.lr h rd rs1 size aqrl) false))

/-- An SC (R106, R131). -/
def execSc (h : HartId) (rd rs1 rs2 : Reg) (size : MemSize) (aqrl : BitVec 2) (s : State) : Out :=
  .next (s.issueMem h.val (fun s => s.performHart (.sc h rd rs1 rs2 size aqrl) false))

/-- A load or store of an I/O region (R131). -/
def execIoRegionAccess (h : HartId) (rd rs1 : Reg) (off : BitVec 12) (size : MemSize) (sx write : Bool) (s : State) : Out :=
  .next (s.issueMem h.val (fun s => s.performHart (.ioRegionAccess h rd rs1 off size sx write) false))

/-- TASK.SUBMIT (R114). -/
def execTaskSubmit (h : HartId) (insn : BitVec 32) (s : State) : Out :=
  .next (s.issueMem h.val (fun s => s.performHart (.taskSubmit h insn) false))

/-- Perform the misses at the front whose lines have all come (R134): their lines stand in the fill shadow for the instruction, which
installs them as it retires. One whose request was refused raises its access fault as it becomes the oldest (R70). -/
def State.drainMisses (s : State) (h : Nat) : Nat → State
  | 0 => s
  | n + 1 =>
    let v := s.hart h
    match v.misses with
    | [] => s
    | m :: rest =>
      if m.err then s.trapOn h (accessTrap s h m.instr) m.instr 0
      else if !m.lines.isEmpty then s
      else ((s.setHart h { v with misses := rest, shadow := m.got, bypass := m.nc, head := none }).performHart m.instr true).drainMisses h n

/-- The MOESI state a grant gives (R187): detail 0 S, 1 E, 2 M. -/
def grantState (d : Nat) : Moesi := if d = 0 then .s else if d = 1 then .e else .m

/-- A line granted to cluster c comes into its L2 (R134, R188): data over a copy that is still intact is ignored, and an owner's copy
becomes M. -/
def State.grantL2 (s : State) (c l : Nat) (w : L2Line) : State :=
  let cl := s.cluster c
  match Tab.at? cl.l2 l with
  | some x =>
    if x.key = w.key then
      let st := if w.st = .s then x.st else if x.st = .o ∨ x.st = .m then .m else w.st
      s.setCluster c { cl with l2 := Tab.ins l { x with st := st } cl.l2 }
    else (s.evictL2 c l).installL2 c l w
  | none => s.installL2 c l w

/-- A reply of a home slice reaches a cluster (R134, R143): a line for a hart's miss or for a prefetch, the acknowledgement of a
cache-block operation or of a WRLINE, or an ERROR. A load's line stands in the fill shadow; ownership is installed as it comes, since the
instruction can no longer be abandoned (R136). An answer that nothing waits for is discarded, but dirty data granted with it is kept (R433). -/
def execFillArrival (f : Flit) (s : State) : Out :=
  let s := s.taken f
  let c := f.dst.val - 12
  let l := f.addr.toNat / 64
  let w : L2Line := { st := grantState f.detail.toNat, data := f.data, key := f.key, poison := f.poison, cls := f.cls }
  .next (if (stopTile? f.dst.val).isNone then s else if f.tag.val < 384 then
    let h := f.tag.val
    let v := s.hart h
    if !v.misses.any (fun m => m.lines.contains l) then
      if f.op = OP_DATA ∧ w.st = .m then s.grantL2 c l w else s
    else if f.op = OP_ERROR then
      (s.setHart h { v with misses := v.misses.map (fun m =>
        if m.lines.contains l then { m with lines := m.lines.filter (· != l), err := true } else m) }).drainMisses h v.misses.length
    else if f.op = OP_DATA then
      let owned := v.misses.any (fun m => m.lines.contains l && m.own)
      let s1 := s.setHart h { v with misses := v.misses.map (fun m =>
        if m.lines.contains l then
          { m with lines := m.lines.filter (· != l), got := if m.own then m.got else Tab.ins l w m.got } else m) }
      let k := s.coreOf h
      let p := max 1 (s.point k)
      let s2 := (if owned then s1.grantL2 c l w else s1).toMclk (cclkOf p (fillEnd p (s.now + 1)))
      s2.drainMisses h v.misses.length
    else s
  else if f.tag.val < 512 then
    if f.op = OP_DATA then s.grantL2 c l w else s
  else if 1024 ≤ f.tag.val ∧ f.tag.val < 1408 then
    let h := f.tag.val - 1024
    let v := s.hart h
    let n := v.cbos - 1
    s.setHart h { v with cbos := n, fenceWait := v.fenceWait && !(v.closed.isEmpty && n == 0) }
  else if 1536 ≤ f.tag.val then s.setCluster c { s.cluster c with evicting := Tab.del l (s.cluster c).evicting }
  else s)

/-- The response of a page or I/O-region access reaches the core and the access retires, as an epoch of its own (R58, R121,
R131): from the page's agent or, `f`, as a flit. An error raises an access fault (R39). -/
def execIoResponse (h : HartId) (f : Option Flit) (s : State) : Out :=
  let v := s.hart h.val
  let k := s.coreOf h.val
  let finish (s : State) (w : IoWait) (err : Bool) (data : Nat) : State :=
    let s1 := (s.setHart h.val { s.hart h.val with io := none }).toMclk (cclkOf (max 1 (s.point k)) (fillEnd (max 1 (s.point k)) (s.now + 1)))
    let va (rs1 : Reg) (off : BitVec 12) : Nat := (v.a.getX rs1 + off.signExtend 64).toNat
    let t : Nat := match w.instr with
      | .load _ _ rs1 off _ _ _ => va rs1 off
      | .store _ _ rs1 off _ _ => va rs1 off
      | .ioRegionAccess _ _ rs1 off _ _ _ => va rs1 off
      | _ => w.pa.toNat
    if err then s1.trapOn h.val ⟨accessCause w.write false, t, 0⟩ w.instr 0
    else
      let s2 := s1.openEpoch h.val true
      let s3 := match w.instr with
        | .load _ rd _ _ size sx fp => s2.withArch h.val (fun a => a.putLoaded rd size.bytes data sx fp)
        | .ioRegionAccess _ rd _ _ size sx write =>
          if write then s2 else s2.withArch h.val (fun a => a.putLoaded rd size.bytes data sx false)
        | _ => s2
      (s3.retire h.val).closeEpoch h.val 4
  .next (match v.io with
  | none => match f with
    | some g => s.taken g
    | none => s
  | some w =>
    match f with
    | some g =>
      if g.tag.val = 512 + h.val then finish (s.taken g) w (g.op == OP_ERROR) g.data.toNat else s.taken g
    | none =>
      match takeFirst (fun r : Resp => r.who.path == .hart && r.who.req == h.val) s.resps with
      | none => s
      | some (r, rest) => finish ({ s with resps := rest }.toMclk r.at_) w r.err r.data.toNat)

/-- A FENCE (R131): the epoch closes at its retirement; with W before and R or W after, or FENCE.TSO, younger loads and stores
wait for the commit and for earlier cache-block operations. -/
def execFence (h : HartId) (pred succ : BitVec 4) (tso : Bool) (s : State) : Out :=
  .next (s.issueAlone h.val (fun s =>
    let s1 := (s.retire h.val).closeEpoch h.val 2
    let v := s1.hart h.val
    let hold := tso || (pred.getLsbD 0 && (succ.getLsbD 0 || succ.getLsbD 1))
    s1.setHart h.val { v with fenceWait := v.fenceWait || (hold && (!v.closed.isEmpty || v.cbos != 0)) }))

/-- FENCE.I (R131): the epoch closes, the front end is flushed and refetches in 40 ccyc. -/
def execFenceI (h : HartId) (s : State) : Out :=
  .next (s.issueAlone h.val (fun s =>
    let k := s.coreOf h.val
    let s1 := (s.retire h.val).closeEpoch h.val 2
    (s1.hpm h.val 0x41 0 false).toMclk (s1.ccycAt k s1.now 40)))

/-- PB.FLUSH (R110, R111). -/
def execPbFlush (h : HartId) (insn : BitVec 32) (s : State) : Out :=
  .next (s.issueAlone h.val (fun s => s.performHart (.pbFlush h insn) false))

/-- PB.BAR (R110, R112). -/
def execPbBar (h : HartId) (insn : BitVec 32) (s : State) : Out :=
  .next (s.issueAlone h.val (fun s => s.performHart (.pbBar h insn) false))

/-- A core whose two harts come to differ in class logs 0x4025 (R427). -/
def State.checkShare (s : State) (h : Nat) (before : Bool) : State :=
  let k := s.coreOf h
  let a := (s.hart (s.fld (corePg k) R.CORE_RUN_HART0)).a.cls
  let b := (s.hart (s.fld (corePg k) R.CORE_RUN_HART1)).a.cls
  if s.flag (corePg k) R.CORE_RUN_SHARED && a != b && !before then s.record (corePg k) 0 0x4025 0 (s.coreDetail h 0 k) false else s

/-- A CSR write by an instruction (R116-R118, R124, R128): its exceptions by mode; then it is the first or a later instruction of an epoch,
which a serialising write closes. `after`: what else the write brings. -/
def State.doCsrWrite (s : State) (h : Nat) (i : Instr) (n value insn : Nat) (after : State → State) : State :=
  match csrTrap (s.hart h).a n insn true with
  | some t => s.trapOn h t i 0
  | none =>
    let s1 := (after ((s.openEpoch h false).writeCsr h n value)).retire h
    if csrSerial n then s1.closeEpoch h 5 else s1

/-- A CSR write of xnrtenant (R67, R116, R117): refused for a secure class, a tenant not VALID or another class than the entry's; a change
also flushes predictions where FLUSH_ON_TENANT says so. -/
def execXnrtenantWrite (h : HartId) (value : Word) (insn : BitVec 32) (s : State) : Out :=
  let i : Instr := .xnrtenantWrite h value insn
  .next (s.issueAlone h.val (fun s =>
    let a := (s.hart h.val).a
    if (csrTrap a CSR_XNRTENANT insn.toNat true).isNone && s.tenantRefused value.toNat then s.trapOn h.val (illegal insn.toNat) i 0
    else
      let changed := a.getCsr CSR_XNRTENANT != value.toNat % 2 ^ 16
      let kk := s.coreOf h.val
      let before := s.flag (corePg kk) R.CORE_RUN_SHARED &&
        (s.hart (s.fld (corePg kk) R.CORE_RUN_HART0)).a.cls != (s.hart (s.fld (corePg kk) R.CORE_RUN_HART1)).a.cls
      s.doCsrWrite h.val i CSR_XNRTENANT value.toNat insn.toNat (fun s =>
        (if changed && bitN (a.getCsr CSR_XNRCTL) 63 then s.pbFlush h.val else s).checkShare h.val before)))

/-- A CSR write of xnrctl (R117): M-mode only; EPC and EPI keep their value where the written one is out of range. -/
def execXnrctlWrite (h : HartId) (value : Word) (insn : BitVec 32) (s : State) : Out :=
  .next (s.issueAlone h.val (fun s =>
    s.doCsrWrite h.val (.xnrctlWrite h value insn) CSR_XNRCTL value.toNat insn.toNat id))

/-- A trap entry (R121-R123): of a recognised interrupt, or, `exc`, of an exception that an instruction outside this table
raises (R105). -/
def execTrapEntry (h : HartId) (exc : Option (Fin 64)) (tval : Word) (s : State) : Out :=
  .next (if !s.hartOn h.val || (s.hart h.val).io.isSome then s
  else match exc with
    | some c => s.takeTrap h.val ⟨c.val, tval.toNat, 0⟩ 0 false
    | none => match s.recognised h.val with
      | none => s
      | some c => s.takeTrap h.val ⟨c, 0, 0⟩ 0 true)

/-- An epoch closes (R124): on its cycle limit (cause 1, 2^EPC ccyc after it began), its instruction limit (cause 0), or for
another cause of CORE_EPOCH.LAST that an instruction outside this table gives. -/
def execEpochClose (h : HartId) (cause : Fin 8) (s : State) : Out :=
  let v := s.hart h.val
  .next (match v.epoch with
  | none => s
  | some e =>
    let s1 := if cause = 1 then s.toMclk (s.ccycAt (s.coreOf h.val) e.begun (2 ^ bits (v.a.getCsr CSR_XNRCTL) 15 12)) else s
    s1.closeEpoch h.val cause.val)

/-- The checkers clear the oldest closed epoch, 12 + check ccyc after its last retirement, and it commits in 6 ccyc (R126);
snoops that waited for it are answered (R129), and an operation at the head of the reorder buffer that waited for the last
commit is performed (R131). -/
def execEpochCheckClear (h : HartId) (check : Fin 7) (s : State) : Out :=
  .next (if (s.hart h.val).closed.isEmpty then s
  else
    let s1 := s.commitOldest h.val (18 + check.val)
    let v := s1.hart h.val
    match v.head with
    | some i => if v.closed.isEmpty && v.misses.isEmpty then
        s1.setHart h.val { v with head := none } |>.performHart i false else s1
    | none => s1)

/-- A snoop that an LR deferred is served, 64 ccyc after the LR retired (R106). -/
def execLrSnoopDeferEnd (h : HartId) (s : State) : Out :=
  .next (match (s.hart h.val).resv with
  | none => s.retrySnoops (s.coreOf h.val / 4)
  | some r => (s.toMclk (s.ccycAt (s.coreOf h.val) r.since 64)).retrySnoops (s.coreOf h.val / 4))

/-- WFI (R106, R451): with an interrupt pending it retires at once; else the hart waits, and its core enters the deepest
state allowed (CORE_ENTRY). mstatus.TW and hstatus.VTW make it trap in less privileged modes. -/
def execWfi (h : HartId) (s : State) : Out :=
  .next (s.issueAlone h.val (fun s =>
    let a := (s.hart h.val).a
    let insn := 0x10500073
    if a.priv ≠ 3 && bitN (a.getCsr CSR_MSTATUS) 21 then s.trapOn h.val (illegal insn) (.wfi h) 0
    else if a.virt && (a.priv == 0 || bitN (a.getCsr CSR_HSTATUS) 21) then s.trapOn h.val (virtualInsn insn) (.wfi h) 0
    else if a.priv == 0 then s.trapOn h.val (illegal insn) (.wfi h) 0
    else
      let s1 := s.retire h.val
      if s1.intPending h.val then s1 else s1.setHart h.val { s1.hart h.val with wait := some .wfi }))

/-- PAUSE holds issue for 64 ccyc (R106). -/
def execPause (h : HartId) (s : State) : Out :=
  .next (s.issueAlone h.val (fun s =>
    let s1 := s.retire h.val
    s1.setHart h.val { s1.hart h.val with wait := some (.pause (s1.ccycAt (s1.coreOf h.val) s1.now 64)) }))

/-- WRS.STO waits until its reservation is lost or 4,096 ccyc have passed (R106). -/
def execWrsSto (h : HartId) (s : State) : Out :=
  .next (s.issueAlone h.val (fun s =>
    let s1 := s.retire h.val
    let v := s1.hart h.val
    if v.resv.isNone then s1
    else s1.setHart h.val { v with wait := some (.wrs (s1.ccycAt (s1.coreOf h.val) s1.now 4096)) }))

/-- CBO.CLEAN (R143). -/
def execCboClean (h : HartId) (rs1 : Reg) (s : State) : Out :=
  .next (s.issueMem h.val (fun s => s.performHart (.cboClean h rs1) false))
/-- CBO.FLUSH (R143). -/
def execCboFlush (h : HartId) (rs1 : Reg) (s : State) : Out :=
  .next (s.issueMem h.val (fun s => s.performHart (.cboFlush h rs1) false))
/-- CBO.INVAL (R143). -/
def execCboInval (h : HartId) (rs1 : Reg) (s : State) : Out :=
  .next (s.issueMem h.val (fun s => s.performHart (.cboInval h rs1) false))
/-- CBO.ZERO (R144). -/
def execCboZero (h : HartId) (rs1 : Reg) (s : State) : Out :=
  .next (s.issueMem h.val (fun s => s.performHart (.cboZero h rs1) false))
/-- PREFETCH.R (R143). -/
def execPrefetchR (h : HartId) (rs1 : Reg) (off : BitVec 12) (s : State) : Out :=
  .next (s.issueAlone h.val (fun s => s.performHart (.prefetchR h rs1 off) false))
/-- PREFETCH.I (R143). -/
def execPrefetchI (h : HartId) (rs1 : Reg) (off : BitVec 12) (s : State) : Out :=
  .next (s.issueAlone h.val (fun s => s.performHart (.prefetchI h rs1 off) false))
/-- PREFETCH.W (R143). -/
def execPrefetchW (h : HartId) (rs1 : Reg) (off : BitVec 12) (s : State) : Out :=
  .next (s.issueAlone h.val (fun s => s.performHart (.prefetchW h rs1 off) false))

/-- The timebase reaches the hart's compare value: mip.MTIP is 1 (R120). -/
def execMtimecmpReached (h : HartId) (s : State) : Out := .next (s.toAclk (s.hart h.val).cmp.toNat)

/-- A cluster handles SNPINV: its copy is invalidated, its data returned if it owned the line, its line map given (R190). -/
def execSnpinv (f : Flit) (s : State) : Out :=
  let s := s.taken f
  .next (if (stopTile? f.dst.val).isNone then s else s.clusterSnoop (f.dst.val - 12) { f with op := OP_SNPINV })
/-- A cluster handles SNPSHARE (R187). -/
def execSnpshare (f : Flit) (s : State) : Out :=
  let s := s.taken f
  .next (if (stopTile? f.dst.val).isNone then s else s.clusterSnoop (f.dst.val - 12) { f with op := OP_SNPSHARE })
/-- A cluster handles SNPCLEAN (R187). -/
def execSnpclean (f : Flit) (s : State) : Out :=
  let s := s.taken f
  .next (if (stopTile? f.dst.val).isNone then s else s.clusterSnoop (f.dst.val - 12) { f with op := OP_SNPCLEAN })

end Sys2Proof.Machine
end

