-- ==== Sys2Proof/Machine/IrtOps.lean ====
section
/-! DEFINITION. The interrupt router (12 R363-R387): sources, domains, targets, target sets, decisions, claims, withdrawals, edge
capture, and the writes of its registers. -/

namespace Sys2Proof.Machine

-- sources and domains (R363-R366)

/-- Page and offset of the register pair of domain d (R384). -/
def domPg (d : Nat) : Nat := irtPg (1 + d / 128)
def State.domFld (s : State) (d : Nat) (f : Field) : Nat := s.fld (domPg d) (f.nth (d % 128))
/-- Whether BOLT_DOMAIN names domain d (R92). -/
def State.domSecure (s : State) (d : Nat) : Bool := bitN (s.reg (boltPg 0 + 0x110 + 8 * (d / 64))) (d % 64)
/-- OWNER; a secure domain's is tenant 0xFFF (R366). -/
def State.domOwner (s : State) (d : Nat) : Nat := if s.domSecure d then 0xFFF else s.domFld d R.DOM_CTL_OWNER
/-- Class of a domain (R365). -/
def State.domClass (s : State) (d : Nat) : Nat := tctClass (s.tctEntry (s.domOwner d))
def State.domEn (s : State) (d : Nat) : Bool := s.domFld d R.DOM_CTL_EN == 1
def State.domBase (s : State) (d : Nat) : Nat := s.domFld d R.DOM_RANGE_BASE
def State.domCount (s : State) (d : Nat) : Nat := s.domFld d R.DOM_RANGE_COUNT
/-- Scan mode (R365). -/
def State.domScan (s : State) (d : Nat) : Bool := decide (1024 < s.domCount d)
/-- The domain a source lies in (R365). -/
def State.domainOf (s : State) (src : Nat) : Option Nat :=
  (List.range 256).find? (fun d => decide (s.domBase d ≤ src) && decide (src < s.domBase d + s.domCount d))

/-- Address of a source's register, and its half of it (R384). -/
def srcReg (src : Nat) : Nat := irtPg (24 + src / 960) + 0x100 + 8 * ((src % 960) / 2)
def State.srcHalf (s : State) (src : Nat) : Nat := bits (s.reg (srcReg src)) (32 * (src % 2) + 31) (32 * (src % 2))
def State.srcEn (s : State) (src : Nat) : Bool := bitN (s.srcHalf src) 31
def State.srcLevel (s : State) (src : Nat) : Bool := bitN (s.srcHalf src) 30 && decide (src < 2048)
def State.srcSet (s : State) (src : Nat) : Nat := bits (s.srcHalf src) 25 17
def State.srcPri (s : State) (src : Nat) : Nat := bits (s.srcHalf src) 15 8
/-- Whether a source is secure (R366). -/
def State.srcSecure (s : State) (src : Nat) : Bool :=
  bitN (s.reg (boltPg (2 + src / 16384) + 0x100 + 8 * (src / 64 % 256))) (src % 64) ||
  (match s.domainOf src with
   | some d => s.domSecure d
   | none => false)

/-- Address of IRT_PENDn and of IRT_OVRn (R384). -/
def pendReg (n : Nat) : Nat := irtPg (3 + n / 256) + 0x100 + 8 * (n % 256)
def ovrReg (n : Nat) : Nat := irtPg (5 + n / 256) + 0x100 + 8 * (n % 256)
def State.pendBit (s : State) (src : Nat) : Bool := bitN (s.reg (pendReg (src / 64))) (src % 64)
def State.setPend (s : State) (src : Nat) (b : Bool) : State :=
  s.setReg (pendReg (src / 64)) (putBits (s.reg (pendReg (src / 64))) (src % 64) (src % 64) (b01 b))
def State.setOvr (s : State) (src : Nat) : State :=
  s.setReg (ovrReg (src / 64)) (putBits (s.reg (ovrReg (src / 64))) (src % 64) (src % 64) 1)
def State.srcActive (s : State) (src : Nat) : Option Serving := Tab.at? s.router.active src

/-- An event of a source enters its lane (R365, R369): PEND, or OVERRUN where the source is busy; discarded with no enabled domain. -/
def State.irtEvent (s : State) (src : Nat) : State :=
  match s.domainOf src with
  | none => s
  | some d =>
    if !s.domEn d then s
    else if s.pendBit src || (s.srcActive src).isSome then s.setOvr src
    else s.setPend src true

/-- The stop whose block raises a wired source (R363). -/
def wiredStop (src : Nat) : Nat :=
  if src < 1536 then tileStop (src / 16)
  else if src < 1664 then mcStop ((src - 1536) / 8)
  else if src < 1728 then fpStop ((src - 1664) / 8)
  else if src < 1760 then aonStop
  else if src < 1772 then stopAt (src - 1760) 0
  else if src < 1784 then stopAt (src - 1772) 9
  else wardStop

/-- From a wired source's assertion to its event in the lane, and of the wake and awake lanes (R383, R461). -/
def laneCost (stop : Nat) : Nat :=
  match dieOf stop with
  | 4 => 4
  | 0 => 10
  | 1 => 10
  | _ => 16

/-- The counter pages that feed an overflow source (R505). -/
def overflowPages (src : Nat) : List Nat :=
  if src < 1536 then
    if src % 16 = 10 then [meshPg (tileStop (src / 16)), slicePg (src / 16), dmaPg (src / 16), enginePg (src / 16)] else []
  else if 1760 ≤ src ∧ src < 1784 then
    let n := if src < 1772 then stopAt (src - 1760) 0 else stopAt (src - 1772) 9
    meshPg n :: ((match stopMc? n with | some m => [mcPg m 3] | none => []) ++ (match stopFp? n with | some p => [portPg p] | none => []))
  else []

/-- Whether a level source is high (R364, R505). -/
def State.levelHigh (s : State) (src : Nat) : Bool :=
  (overflowPages src).any (fun pg => (List.range 8).any (fun i => bitN (s.reg (pg + 0xE08)) i && bitN (s.reg (pg + 0xE40 + 16 * i)) 62))

/-- Whether mclk is stopped (R459). -/
def State.asleep (s : State) : Bool := s.flag pwrPg R.PWR_PKG_ASLEEP

/-- Length of an exit in aclk: 0 C2, 1 C3, 2 K1, 3 K2, 4 package (R461, R478). -/
def State.exitLength (s : State) (i : Nat) : Nat :=
  let f (x : Field) : Nat := s.fld pwrPg (x.nth i)
  f R.PWR_SEQ_RAMP + f R.PWR_SEQ_BIAS + f R.PWR_SEQ_CLK + f R.PWR_SEQ_RST + f R.PWR_SEQ_RESTORE * (if i = 4 then 4 else 1)

/-- A wake event of the package (R460): it starts the exit from package sleep, and in an entry it is sampled (R454). -/
def State.pkgWake (s : State) : State :=
  if s.asleep then
    { s with power := { s.power with pkgExit := some (s.power.pkgExit.getD (ceilDiv s.now 96 + s.exitLength 4)) } }
  else if s.power.pkgStep = 0 then s
  else { s with power := { s.power with fired := true } }

/-- One event of a wired source (R364): a pulse its block raised, or a level that is high and neither pending nor active. -/
def State.wiredEvent (s : State) (src : Nat) : State :=
  if s.asleep then s
  else match takeFirst (fun w : Nat × Nat => w.2 == src) s.wires with
    | some (w, rest) => ({ s with wires := rest }.toMclk (w.1 + laneCost (wiredStop src))).irtEvent src
    | none => if s.srcLevel src && s.levelHigh src && !s.pendBit src && (s.srcActive src).isNone then s.irtEvent src else s

/-- While clocks are stopped an edge-capture cell latches a wired source, once, and asks for the mesh (R382). -/
def State.edgeCapture (s : State) (src : Nat) : State :=
  if s.asleep then
    match takeFirst (fun w : Nat × Nat => w.2 == src) s.wires with
    | some (w, rest) =>
      let cells := if (Tab.at? s.router.cells src).isSome then s.router.cells else Tab.ins src w.1 s.router.cells
      { s with wires := rest, router := { s.router with cells := cells } }.pkgWake
    | none =>
      if s.srcLevel src && s.levelHigh src then
        { s with router := { s.router with cells := Tab.ins src s.now s.router.cells } }.pkgWake
      else s
  else s

/-- A latched cell presents its event once mclk runs (R382). -/
def State.edgePresent (s : State) (src : Nat) : State :=
  match Tab.at? s.router.cells src with
  | some t =>
    if s.asleep then s
    else ({ s with router := { s.router with cells := Tab.del src s.router.cells } }.toMclk (96 * (t / 96 + 1) + 3)).irtEvent src
  | none => s

-- targets (R370-R372)

def WARD_TARGET : Nat := 6240
/-- Class of a target: its tenant's (R372). -/
def State.tgtClass (s : State) (t : Nat) : Nat := tctClass (s.tctEntry (s.fld (targetBase t) R.TGT_CTL_TENANT))
/-- Whether a target is enabled (R372). -/
def State.tgtEnabled (s : State) (t : Nat) : Bool :=
  s.flag (targetBase t) R.TGT_CTL_EN && tctValid (s.tctEntry (s.fld (targetBase t) R.TGT_CTL_TENANT))
/-- Running priority (R372). -/
def State.runPri (s : State) (t : Nat) : Nat :=
  s.router.active.foldl (fun m e => if e.2.target = t then min m e.2.pre else m) 0xFF
/-- Effective priority (R372). -/
def State.effPri (s : State) (t : Nat) : Nat := min (s.runPri t) (s.fld (targetBase t) R.TGT_CTL_THRESH)
/-- Whether a hart is awake for routing (R372). -/
def State.hartAwake (s : State) (h : Nat) : Bool :=
  let k := s.coreOf h
  let v := s.hart h
  v.started && !v.parked && !v.lost && v.restore.isNone && !s.flag (corePg k) R.CORE_RUN_FENCED &&
    !s.flag (corePg k) R.PG_STATUS_RETIRED && decide ((s.core k).cstate ≤ 1) && decide ((s.cluster (k / 4)).kstate = 0)
/-- Whether a target is awake (R372). -/
def State.tgtAwake (s : State) (t : Nat) : Bool :=
  if t < 6144 then s.hartAwake (t / 16)
  else if t < 6240 then
    (s.engine (t - 6144)).st != .halted && s.fld (enginePg (t - 6144)) R.PG_POWER_CUR == 0 && !s.flag (enginePg (t - 6144)) R.PG_RESET_ACTIVE && !s.flag (enginePg (t - 6144)) R.PG_STATUS_RETIRED
  else true
def isEngineTarget (t : Nat) : Bool := decide (6144 ≤ t) && decide (t < 6240)

-- target sets (R373)

def tsPg (n : Nat) : Nat := irtPg (8 + n / 32)
def State.tsFld (s : State) (n : Nat) (f : Field) : Nat := s.fld (tsPg n) (f.nth (n % 32))
/-- The members of a target set, rising (R373). -/
def State.members (s : State) (n : Nat) : List Nat :=
  let mask (j : Nat) : Bool := bitN (s.reg (tsPg n + 0x108 + 64 * (n % 32) + 8 * (j / 64))) (j % 64)
  match s.tsFld n R.TS_CTL_KIND with
  | 0 => ((List.range 384).filter mask).map (fun j => 16 * j + s.tsFld n R.TS_CTL_LEVEL)
  | 1 => ((List.range 96).filter mask).map (fun j => 6144 + j)
  | 2 => [WARD_TARGET]
  | _ => []

-- items and decisions (R368, R374)

/-- Preemption value of a priority with G group bits (R368). -/
def preemption (pri g : Nat) : Nat := pri / 2 ^ (8 - g) * 2 ^ (8 - g)

/-- The item a source belongs to: itself, or its scan-mode domain; with its target set (R374, R378). The secure sources of a scan-mode domain
that is not secure make an item of their own, which goes to the Ward alone (R366, R94; log entry 117). -/
def State.itemOf (s : State) (src : Nat) : Option (Presented × Nat) :=
  match s.domainOf src with
  | none => none
  | some d =>
    let g := s.domFld d R.DOM_CTL_G
    let cls := Fin.ofNat 16 (s.domClass d)
    if s.domScan d then
      let p := s.domFld d R.DOM_CTL_SPRI
      some (⟨true, d, p, preemption p g, s.domBase d, cls, s.srcSecure src⟩, s.domFld d R.DOM_CTL_SSET)
    else some (⟨false, src, s.srcPri src, preemption (s.srcPri src) g, src, cls, s.srcSecure src⟩, s.srcSet src)

/-- Where an item is presented, if it is. -/
def State.presentedAt (s : State) (x : Presented) : Option Nat :=
  (s.router.held.find? (fun e => e.2.scan == x.scan && e.2.num == x.num && (!x.scan || e.2.secure == x.secure))).map (fun e => e.1)

/-- Whether an enabled source of a scan-mode domain, secure or not as `sec` says, is pending (R366, R378). -/
def State.scanPending (s : State) (d : Nat) (sec : Bool) : Bool :=
  (List.range (s.domCount d)).any (fun i => s.pendBit (s.domBase d + i) && s.srcEn (s.domBase d + i) && s.srcSecure (s.domBase d + i) == sec)

/-- Whether an item waits to be presented (R365, R369, R374, R378). -/
def State.itemWaits (s : State) (src : Nat) (x : Presented) : Bool :=
  match s.domainOf src with
  | none => false
  | some d => s.domEn d && s.tenantOk (s.domOwner d) && (s.presentedAt x).isNone &&
      (if x.scan then s.scanPending d x.secure else s.pendBit src && s.srcEn src)

/-- The targets an item may go to (R366, R374). -/
def State.targetsFor (s : State) (x : Presented) (set : Nat) : List Nat :=
  if x.secure then [WARD_TARGET]
  else (s.members set).filter (fun t => s.tgtEnabled t && s.tgtAwake t && s.tgtClass t == x.cls.val)

/-- Whether one item is more urgent than another (R368). -/
def Presented.before (x y : Presented) : Bool := decide (x.prio < y.prio) || (x.prio == y.prio && decide (x.order < y.order))

/-- The stop and port of a target (R380, R428). -/
def State.tgtStop (s : State) (t : Nat) : Nat × Nat :=
  if t < 6144 then (tileStop (s.coreOf (t / 16) / 4), 1) else if t < 6240 then (tileStop (t - 6144), 3) else (wardStop, 2)

/-- What an IRQ flit says of a target: its presentation or none (R380). -/
def irqWord (x : Option Presented) : Word :=
  match x with
  | none => 0
  | some p => w64 (2 ^ 63 + b01 p.scan <<< 62 + b01 p.secure <<< 61 + p.num <<< 32 + p.prio <<< 8 + p.pre)

/-- Send a change of a target's presentation at mclk t: one flit at a time for a target (R149, R380). -/
def State.irqFlit (s : State) (tgt t : Nat) (cls : Cls) : State :=
  if s.router.flits.contains tgt then
    { s with router := { s.router with changed := s.router.changed.filter (fun c => c.1 != tgt) ++ [(tgt, cls)] } }
  else
    let d := s.tgtStop tgt
    { s with router := { s.router with flits := s.router.flits ++ [tgt] } }.sendAt t
      { mkFlit .snp irtStop 2 d.1 d.2 cls OP_IRQ (tgt % 2048) tgt with detail := irqWord (Tab.at? s.router.held tgt) }

def State.hold (s : State) (tgt : Nat) (x : Presented) : State := { s with router := { s.router with held := Tab.ins tgt x s.router.held } }
def State.unhold (s : State) (tgt : Nat) : State := { s with router := { s.router with held := Tab.del tgt s.router.held } }

/-- Class k's lane starts a decision now, or in the first mclk in which it has started none (R375); answers that mclk. -/
def State.irtLane (s : State) (k : Nat) : Nat × State :=
  let t := max s.now (Tab.get 0 s.router.lanes k)
  (t, { s with router := { s.router with lanes := Tab.set 0 s.router.lanes k (t + 1) } })

/-- The decision of one item, in its class's lane, 6 mclk long (R374, R375). -/
def State.decideItem (s0 : State) (src : Nat) : State :=
  match s0.itemOf src with
  | none => s0
  | some (x, set) =>
    if s0.asleep || !s0.itemWaits src x then s0
    else
      let lane := s0.irtLane x.cls.val
      let s := lane.2
      let done := lane.1 + 6
      let m := s.targetsFor x set
      if m.isEmpty then
        if s.tsFld set R.TS_CTL_ROUTE_WAKE = 1 then
          match (s.members set).find? (fun t => s.tgtEnabled t && s.tgtClass t == x.cls.val) with
          | some t => { s with router := { s.router with wakes := s.router.wakes.filter (· != t) ++ [t] } }
          | none => s
        else s
      else
        let a := m.filter (fun t => decide (x.pre < s.effPri t))
        let f := a.filter (fun t => (Tab.at? s.router.held t).isNone)
        if !f.isEmpty then
          let v := f.foldl (fun v t => max v (s.effPri t)) 0
          let ts := f.filter (fun t => s.effPri t == v)
          let rr := s.tsFld set R.TS_CTL_RR
          let t := ((ts.find? (fun t => decide (rr < t))).orElse (fun _ => ts.head?)).getD 0
          let s1 := if 1 < ts.length then s.setFld (tsPg set) (R.TS_CTL_RR.nth (set % 32)) t else s
          (s1.hold t x).irqFlit t done x.cls
        else
          let r := a.filter (fun t => !isEngineTarget t)
          let worst := r.foldl (fun (b : Option (Nat × Presented)) t =>
            match b, Tab.at? s.router.held t with
            | none, some y => some (t, y)
            | some (u, z), some y => if z.before y then some (t, y) else some (u, z)
            | b, none => b) none
          match worst with
          | some (t, y) => if x.before y then (s.hold t x).irqFlit t done x.cls else s
          | none => s

-- claims, EOI, withdrawals (R376-R379)

/-- The target's claim of the claim-mode source it holds: ACTIVE at the target, PEND clear, the presentation gone (R369, R376). -/
def State.applyClaim (s : State) (t : Nat) (x : Presented) : State :=
  let s1 := (s.setPend x.num false).unhold t
  { s1 with router := { s1.router with active := Tab.ins x.num ⟨t, x.pre⟩ s1.router.active } }.irqFlit t s.now x.cls

/-- A read of TGT_CLAIM (R376, R378): the value and what it does. -/
def State.tgtClaim (s : State) (t : Nat) : Nat × State :=
  match Tab.at? s.router.held t with
  | none => (0x7FFF, s)
  | some x =>
    let v := 2 ^ 63 + b01 x.scan <<< 62 + x.prio <<< 40 + x.num
    (v, if x.scan then s else s.applyClaim t x)

/-- An EOI at a target (R377). -/
def State.applyEoi (s : State) (t src : Nat) : State :=
  match s.srcActive src with
  | some a => if a.target = t then { s with router := { s.router with active := Tab.del src s.router.active } }
              else s.setFld (targetBase t) R.TGT_STATE_BADEOI 1
  | none => s.setFld (targetBase t) R.TGT_STATE_BADEOI 1

/-- A claim or EOI notice of an engine arrives (R376, R377): for a disabled domain it changes no state of the source and sets no
BADEOI. -/
def State.engineNoticeArrives (s : State) (f : Flit) : State :=
  let s0 := s.taken f
  let t := targetOf f.addr.toNat
  let src := (lineWord f.data 0).toNat % 2 ^ 15
  let live := match s.domainOf src with
    | some d => s.domEn d
    | none => false
  if f.detail = 1 then
    match Tab.at? s0.router.held t with
    | some x =>
      if x.num ≠ src then s0
      else if live then s0.applyClaim t x
      else (s0.unhold t).irqFlit t s0.now x.cls
    | none => s0
  else if live then s0.applyEoi t src
  else s0
where
  /-- The target whose page an address lies in. -/
  targetOf (a : Nat) : Nat := bits a 26 12

/-- Whether a presentation at a target is invalid (R376, R379). -/
def State.invalidAt (s : State) (src t : Nat) (x : Presented) (set : Nat) : Bool :=
  let classOk := s.tgtClass t == x.cls.val || x.secure
  if isEngineTarget t then !s.tgtAwake t || !s.tgtEnabled t || !classOk
  else
    !s.tgtAwake t || (!x.secure && !s.tgtEnabled t) || !classOk || (!x.secure && !(s.members set).contains t) ||
    decide (s.fld (targetBase t) R.TGT_CTL_THRESH ≤ x.pre) ||
    (match s.domainOf src with
     | none => true
     | some d => !s.domEn d || (if x.scan then !s.scanPending d x.secure else !s.srcEn src || !s.pendBit src))

/-- The withdrawal of a presentation that has become invalid (R379). -/
def State.withdrawItem (s : State) (src : Nat) : State :=
  match s.itemOf src with
  | none =>
    -- the source has left every domain
    match s.router.held.find? (fun e => !e.2.scan && e.2.num == src && !isEngineTarget e.1) with
    | some e => (s.unhold e.1).irqFlit e.1 s.now e.2.cls
    | none => s
  | some (x, set) =>
    match s.presentedAt x with
    | none => s
    | some t =>
      match Tab.at? s.router.held t with
      | some y => if s.invalidAt src t y set then (s.unhold t).irqFlit t s.now y.cls else s
      | none => s

/-- A target's IRQ flit has been ejected: a newer change leaves (R149, R380). -/
def State.irqEjected (s : State) (t : Nat) : State :=
  let s1 := { s with router := { s.router with flits := s.router.flits.filter (· != t) } }
  match s1.router.changed.find? (fun c => c.1 == t) with
  | some c => { s1 with router := { s1.router with changed := s1.router.changed.filter (fun c => c.1 != t) } }.irqFlit t s1.now c.2
  | none => s1

/-- An IRQ flit reaches its target's stop (R371, R380): a change that waited is sent, in the class of its own domain's owner (R147), and the
hart's line, 1 mclk and the crossing of 3 ccyc later, or the engine's delivery, in the next mclk, follows it (R383). -/
def State.irqArrives (s : State) (f : Flit) : State :=
  let s0 := (s.taken f).irqEjected f.addr.toNat
  let t := f.addr.toNat
  let w := f.detail.toNat
  let on := bitN w 63
  let s1 : State :=
    if t < 6144 then
      let v := s0.hart (t / 16)
      (s0.setHart (t / 16) { v with lines := putBits v.lines (t % 16) (t % 16) (b01 on) }).toMclk (s0.ccycAt (s0.coreOf (t / 16)) (s0.now + 1) 3)
    else if t < 6240 then
      let d : Delivery := ⟨Fin.ofNat 32768 (bits w 46 32), bits w 15 8, bits w 7 0, bitN w 61, false, f.cls⟩
      (s0.setEngine (t - 6144) { s0.engine (t - 6144) with deliv := if on then some d else none }).toMclk (s0.now + 1)
    else s0
  s1

-- doorbells (R367)

/-- A doorbell write reaches the router (R367): its event enters the lane, or it is refused. -/
def State.irqDoorbell (s : State) (f : Flit) : State :=
  let s0 := s.taken f
  let a := f.addr.toNat
  let d := bits a 19 12
  let off := (lineWord f.data 0).toNat % 2 ^ 15
  let hart := f.sport == 1 && (stopTile? f.src.val).isSome
  let ward := f.src.val == wardStop && f.sport == 2
  let secureReq := s.secureClass f.cls.val
  let shape := a % 4096 == 0 && (f.count.val == 4 || f.count.val == 8)
  let owner := s.domOwner d
  let allowed := if s.domSecure d then secureReq
    else ward || (hart && f.priv.val == 3) || f.tenant.val == owner || (s.domFld d R.DOM_CTL_ANYTEN == 1 && !secureReq)
  let ready := s.domEn d && s.tenantOk owner && decide (off < s.domCount d) && decide (2048 ≤ s.domBase d + off)
  if region a ≠ .doorbell ∨ f.op ≠ OP_DOORBELL ∨ !shape then s0.send (replyTo f .rsp OP_ERROR)
  else if ready && allowed then (s0.irtEvent (s.domBase d + off)).send (replyTo f .rsp OP_ACK)
  else
    let s1 := if secureReq then s0 else s0.bump (irtPg 0) R.IRT_REFUSED_COUNT 1
    let who := f.tenant.val <<< 44 + f.cls.val <<< 40 + (f.tag.val % 512) <<< 24
    let s2 := if ready && !allowed then s1.record (irtPg 0) 2 0xA201 a who secureReq else s1
    s2.send (replyTo f .rsp OP_ERROR)

-- register writes (R385-R387)

/-- Whether a requester may access domain d, to read or to write (R385): Safelight reads alone, and a secure domain under a grant (R102). -/
def State.domAccess (s : State) (who : Requester) (d : Nat) (write : Bool) : Bool :=
  if s.domSecure d then who.path == .ward || (!write && s.seesSecure who)
  else who.path == .ward || (!write && who.path == .safelight) || isM who || (who.path == .hart && who.tenant.val == s.domOwner d)

/-- Whether a requester may access the fields of a source (R385); those of a secure source as those of a secure domain (R71). -/
def State.srcAccess (s : State) (who : Requester) (src : Nat) (write : Bool) : Bool :=
  if s.srcSecure src then who.path == .ward || (!write && s.seesSecure who)
  else match s.domainOf src with
    | some d => s.domAccess who d write
    | none => wardOrM who || (!write && who.path == .safelight)

/-- The bits of a 64-source register that a requester may access (R385). -/
def State.pendMask (s : State) (who : Requester) (n : Nat) (write : Bool) : Nat :=
  (List.range 64).foldl (fun m j => if s.srcAccess who (64 * n + j) write then m + 2 ^ j else m) 0

/-- Whether a source or a domain names a target set (R386). -/
def State.setNamed (s : State) (n : Nat) : Bool :=
  (List.range 32768).any (fun src => s.srcSet src == n && (s.srcEn src || s.pendBit src || (s.srcActive src).isSome)) ||
  (List.range 256).any (fun d => s.domEn d && s.domScan d && s.domFld d R.DOM_CTL_SSET == n)

/-- A domain is disabled (R369): PEND and ACTIVE of its sources clear. -/
def State.clearDomain (s : State) (d : Nat) : State :=
  let b := s.domBase d
  let n := s.domCount d
  let s1 := (List.range n).foldl (fun s i => if s.pendBit (b + i) then s.setPend (b + i) false else s) s
  { s1 with router := { s1.router with active := s1.router.active.filter (fun e => !(decide (b ≤ e.1) && decide (e.1 < b + n))) } }

/-- A half of a source-table write, and whether the table refuses it (R386). -/
def State.srcHalfBad (s : State) (src h : Nat) : Bool :=
  bitN h 31 && ((match s.domainOf src with
    | some d => s.tsFld (bits h 25 17) R.TS_CTL_CLASS != s.domClass d
    | none => false) || (src == 32767 && s.tsFld (bits h 25 17) R.TS_CTL_KIND == 1))

/-- The half a requester's write leaves: fields it may write, others kept; TRIG is 0 for message-signalled sources (R385, R386). -/
def State.srcHalfWrite (s : State) (who : Requester) (src v : Nat) : Nat :=
  if s.srcAccess who src true then
    bits v 31 31 <<< 31 + (if src < 2048 then bits v 30 30 <<< 30 else 0) + bits v 25 17 <<< 17 + bits v 15 8 <<< 8
  else s.srcHalf src

/-- A write of a source-table register (R385, R386, R95). -/
def State.srcWrite (s : State) (who : Requester) (a v src : Nat) : RegEffect :=
  let h0 := s.srcHalfWrite who src (bits v 31 0)
  let h1 := s.srcHalfWrite who (src + 1) (bits v 63 32)
  let changes (i h : Nat) : Bool := s.srcSecure i && h != s.srcHalf i && !s.writesSecure who
  { locked := changes src h0 || changes (src + 1) h1
    act := if s.srcHalfBad src h0 || s.srcHalfBad (src + 1) h1 then .no FAULT_ACCESS s else .ok (s.setReg a (h0 + h1 <<< 32)) }

/-- A write of DOM_CTL (R369, R385, R386). -/
def State.domCtlWrite (s : State) (who : Requester) (a v d : Nat) : RegEffect :=
  let g := bits v 43 40
  let bad := g == 0 || decide (8 < g) || s.tsFld (bits v 31 23) R.TS_CTL_KIND == 1
  let w := bits v 63 63 <<< 63 + bits v 61 61 <<< 61 + bits v 55 23 <<< 23
  let s1 := s.setReg a w
  { admitted := wardOrM who, locked := s.domSecure d && !s.writesSecure who
    act := if bad then .no FAULT_ACCESS s else .ok (if s.domEn d && !bitN v 63 then s1.clearDomain d else s1) }

/-- A write of DOM_RANGE (R385, R386). -/
def State.domRangeWrite (s : State) (who : Requester) (a v d : Nat) : RegEffect :=
  let b := bits v 62 48
  let n := bits v 15 0
  let laps := (List.range 256).any (fun e => e != d && n != 0 && s.domCount e != 0 &&
    decide (b < s.domBase e + s.domCount e) && decide (s.domBase e < b + n))
  let same := b == s.domBase d && n == s.domCount d
  { admitted := wardOrM who, locked := s.domSecure d && !s.writesSecure who
    act := if laps || decide (32768 < b + n) || (s.domEn d && !same) then .no FAULT_ACCESS s else .ok (s.setReg a (b <<< 48 + n)) }

/-- A write of TS_CTL (R385, R386). -/
def State.tsCtlWrite (s : State) (who : Requester) (a v n : Nat) : RegEffect :=
  let bad := bits v 63 62 == 3 || decide (8 < bits v 61 58) ||
    ((bits v 51 48 != s.tsFld n R.TS_CTL_CLASS || bits v 63 62 != s.tsFld n R.TS_CTL_KIND) && s.setNamed n)
  let w := bits v 63 57 <<< 57 + bits v 51 48 <<< 48 + s.tsFld n R.TS_CTL_RR
  { admitted := wardOrM who
    locked := (s.secureClass (s.tsFld n R.TS_CTL_CLASS) || s.secureClass (bits v 51 48)) && w != s.reg a && !s.writesSecure who
    act := if bad then .no FAULT_ACCESS s else .ok (s.setReg a w) }

/-- Registers of the router's pages (R384-R386); page i is block 0x40 + i. -/
def State.irtPageWrite (s : State) (i off : Nat) (who : Requester) (v : Nat) : Option RegEffect :=
  let a := irtPg i + off
  if 1 ≤ i ∧ i ≤ 2 then
    if 0x100 ≤ off ∧ off < 0x900 then
      let d := 128 * (i - 1) + (off - 0x100) / 16
      some (if off % 16 = 0 then s.domCtlWrite who a v d else s.domRangeWrite who a v d)
    else none
  else if 3 ≤ i ∧ i ≤ 6 then
    if 0x100 ≤ off ∧ off < 0x900 then
      let n := 256 * ((i - 3) % 2) + (off - 0x100) / 8
      let m := s.pendMask who n true &&& v
      some { act := .ok (s.setReg a (s.reg a - (s.reg a &&& m))) }
    else none
  else if 8 ≤ i ∧ i ≤ 23 then
    if 0x100 ≤ off ∧ off < 0x900 then
      let n := 32 * (i - 8) + (off - 0x100) / 64
      let j := (off - 0x100) % 64
      if j = 0 then some (s.tsCtlWrite who a v n)
      else if j ≤ 0x30 then
        some { admitted := wardOrM who
               locked := s.secureClass (s.tsFld n R.TS_CTL_CLASS) && v != s.reg a && !s.writesSecure who
               -- bits for engines above 95 are reserved (R386)
               act := .ok (s.setReg a (if s.tsFld n R.TS_CTL_KIND = 1 ∧ 0x10 ≤ j then (if j = 0x10 then v % 2 ^ 32 else 0) else v)) }
      else none
    else none
  else if 24 ≤ i ∧ i ≤ 58 then
    let src := 960 * (i - 24) + (off - 0x100) / 8 * 2
    if 0x100 ≤ off ∧ off < 0x1000 ∧ src < 32768 then some (s.srcWrite who a v src) else none
  else none

/-- Whether a requester may use TGT_STATE, TGT_CLAIM and TGT_EOI of a target (R387). -/
def State.tgtUser (s : State) (t : Nat) (who : Requester) : Bool :=
  if t = WARD_TARGET then who.path == .ward
  else wardOrM who || (who.path == .hart && who.tenant.val == s.fld (targetBase t) R.TGT_CTL_TENANT)

/-- Registers of a target page (R377, R387). -/
def State.tgtPageWrite (s : State) (t off : Nat) (who : Requester) (v : Nat) : Option RegEffect :=
  let pg := targetBase t
  if off = 0x100 then
    some { admitted := if t = WARD_TARGET then who.path == .ward else wardOrM who
           act := if t ≠ WARD_TARGET ∧ s.secureClass (tctClass (s.tctEntry (bits v 59 48))) then .no FAULT_ACCESS s
             else .ok (s.setReg (pg + off) (bits v 63 63 <<< 63 + bits v 59 48 <<< 48 + bits v 7 0)) }
  else if off = 0x108 then
    some { admitted := s.tgtUser t who, act := .ok (if bitN v 60 then s.setFld pg R.TGT_STATE_BADEOI 0 else s) }
  else if off = 0x110 then some { admitted := s.tgtUser t who && !isEngineTarget t, act := .ok s }
  else if off = 0x118 then
    some { admitted := s.tgtUser t who && !isEngineTarget t, act := .ok (s.applyEoi t (v % 2 ^ 15)) }
  else none

end Sys2Proof.Machine
end

