-- ==== Sys2Proof/Machine/MemCtl.lean ====
section
/-! DEFINITION. The memory controllers' commands (07 R218-R251): reads and writes, windows and frames, maintenance and
self-refresh, start and training, error correction, injection, freeze and release, mirroring. -/

namespace Sys2Proof.Machine

/-- Offset of a class's register of a freeze frame as the normal world reads it (R250): CLASS_TAG hidden for secure classes. -/
def State.ffCmdWord (s : State) (m i : Nat) : Nat :=
  let w := s.reg (mcPg m 1 + 0x200 + 8 * i)
  if s.secureClass (bits w 26 23) then putBits w 26 18 0 else w

/-- The controller at a message's destination stop, applied. -/
def State.onMc (s : State) (f : Flit) (g : State → Nat → State) : State :=
  match stopMc? f.dst.val with
  | some m => g s m
  | none => s.taken f

/-- The data of an issued read leaves the controller (R229, R237). -/
def State.mcReadData (s : State) (m tag : Nat) : State :=
  let v := s.mc m
  match takeFirst (fun x => x.r.f.tag.val == tag) v.flight with
  | some (x, rest) => ((s.setMc m { v with flight := rest }).toDclk m x.out).mcDeliver m x.out x.r
  | none => s

/-- ALERT_n reports a CA parity error (R240). -/
def State.alertN (s : State) (m : Nat) : State :=
  if s.flag (mcPg m 0) R.PG_STATUS_FROZEN || (s.mc m).frame0.isNone then s else s.freezeMc m (s.dclk m) 2 0 []

/-- A write of MC_FREEZE_CTL (R242, R249). -/
def State.freezeCtl (s : State) (m v : Nat) : Wr :=
  let mode := bits v 1 0
  if mode = 0 then .ok s
  else if !s.flag (mcPg m 0) R.PG_STATUS_FROZEN then .no FAULT_ACCESS s
  else .ok (s.releaseMc m mode false)

/-- No release within MC_FREEZE.TIMEOUT aclk: the channel releases itself in POISON mode (R243). -/
def State.freezeTimeout (s : State) (m : Nat) : State :=
  match (s.mc m).frozenAt with
  | some (_, a) =>
    let s1 := (s.toAclk (a + s.fld (mcPg m 0) R.MC_FREEZE_TIMEOUT)).record (mcPg m 0) 2 0x2002 0 0 false
    s1.releaseMc m 2 true
  | none => s

/-- The next frame starts: written shares take effect (R224, R226). A frozen channel starts none (R240). -/
def State.frameStart (s : State) (m : Nat) : State :=
  match (s.mc m).frame0 with
  | some f =>
    if s.flag (mcPg m 0) R.PG_STATUS_FROZEN then s
    else
    let s1 := s.toDclk m (nextStart f (s.frameLen m) 0 (s.dclk m))
    s1.setMc m { s1.mc m with shares := s1.writtenShares m }
  | none => s

/-- Frame 0 begins: pages 0, 1 and 3 become READY (R233), which ends a domain reset (R484). -/
def State.mcFrame0 (s : State) (m : Nat) : State :=
  match (s.mc m).startEdge with
  | some e =>
    let s1 := s.toAclk e
    let s2 := [0, 1, 3].foldl (fun s i => s.setFld (mcPg m i) R.PG_STATUS_READY 1) (s1.setFld (mcPg m 0) R.PG_RESET_ACTIVE 0)
    s2.setMc m { s2.mc m with startEdge := none, frame0 := some (s2.aclkDclk m e), shares := s2.writtenShares m, scrubBase := s2.tb }
  | none => s

/-- The first failing check of START (R233); 0 when none fails. -/
def State.startFail (s : State) (m : Nat) : Nat :=
  let T (f : Field) : Nat := s.mc2 m f
  let len := T R.MC_WIN_LEN
  let frame := s.frameLen m
  let n := if T R.MC_REF_MODE = 0 then 1 else 4
  if s.flag (mcPg m 0) R.PG_RESET_HOLDRST then 7
  else if T R.MC_CFG_DENSITY = 3 ∨ T R.MC_CFG_STACK = 3 ∨ 4 < T R.MC_CFG_SPEED ∨ (T R.MC_CFG_WIDTH = 1 ∧ T R.MC_CFG_STACK ≠ 0) then 1
  else if 31 < burstBits (T R.MC_CFG_WIDTH) (T R.MC_CFG_DENSITY) (T R.MC_CFG_RANKS) (T R.MC_CFG_STACK) then 2
  else if len < T R.MC_WIN_LAST + max (T R.MC_TIM0_CL + 4) (T R.MC_TIM0_CWL + 4 + T R.MC_TIM0_WR) + T R.MC_TIM0_RP then 3
  else if T R.MC_WIN_MLEN < T R.MC_REF_PERWIN * T R.MC_REF_TRFC + 64 then 4
  else if T R.MC_REF_PERWIN * T R.MC_REF_TREFI < 2 * n * (8 * len + T R.MC_WIN_MLEN) then 5
  else if 65535 < frame then 6
  else 0

/-- A write of MC_CTL.START (R224, R233, R488): SRX and the wait after it where the DIMM is in self-refresh, then ZQ calibration; frame 0 begins
at least 64 aclk later. -/
def State.mcStart (s : State) (m v : Nat) : Wr :=
  let pg := mcPg m 2
  if !bitN v 0 then .ok s
  else
    let fail := s.startFail m
    let s1 := s.setFld pg R.MC_CTL_FAIL fail
    if fail ≠ 0 then .no FAULT_ACCESS s1
    else
      let edge := ceilDiv (s.tb + 64) 64 * 64
      let d := s.dclk m
      let s2 := ((s1.setFld pg R.MC_CTL_START 1).setFld pg R.MC_CTL_STARTED 1).exitSr m d
      .ok ((s2.setMc m { s2.mc m with startEdge := some edge }).startZq m (max d (s2.mc m).cmdFrom))

/-- PHY registers in force take the armed shadows of a subchannel (R234). -/
def State.applyPhy (s : State) (m sub : Nat) : State :=
  let v := s.mc m
  let mine := v.shadow.filter (fun e => e.1 / 512 == sub)
  let s1 := mine.foldl (fun s e => s.setReg (phyPg m sub + 8 * (e.1 % 512)) e.2.toNat) s
  let s2 := s1.setMc m { s1.mc m with shadow := v.shadow.filter (fun e => e.1 / 512 != sub), armed := v.armed.filter (· != sub) }
  ((s2.setFld (phyPg m sub) R.PHY_CTL_APPLY 0).setFld (phyPg m sub) R.PHY_CTL_PEND 0).pulse (mcSource m 4)

/-- A write of a DDRPHY page (R234, R251). -/
def State.phyPageWrite (s : State) (m sub off v : Nat) : Option RegEffect :=
  let pg := phyPg m sub
  if off = 0x100 then
    some { act := if bitN v 0 then .ok ((s.setFld pg R.PHY_CTL_APPLY 1).setMc m { s.mc m with
        armed := if (s.mc m).armed.contains sub then (s.mc m).armed else (s.mc m).armed ++ [sub] }) else .ok s }
  else
    match rowAt .phy off with
    | some r =>
      let w := r.written (s.reg (pg + off)) v
      if s.flag (mcPg m 0) R.PG_STATUS_READY then
        some { act := .ok ((s.setMc m { s.mc m with shadow := Tab.ins (512 * sub + off / 8) (w64 w) (s.mc m).shadow }).setFld pg
          R.PHY_CTL_PEND 1) }
      else some { act := .ok (s.setReg (pg + off) w) }
    | none => none

/-- Key of a device's mode register: rank, chip ID, device and subchannel. -/
def modeKey (sub rank cid dev opc : Nat) : Nat := (((2 * sub + rank) * 4 + cid) * 16 + dev) * 256 + opc

/-- The command of MC_MPC is issued at dclk d (R248): MRW writes the mode register of one device or of all ten, MRR reads it from every
device, and an MPC changes no state of the model. What a device returns that no MRW has written is a free value. -/
def State.issueMpc (s : State) (m d : Nat) : State :=
  let pg := mcPg m 2
  let w := s.reg (pg + 0x218)
  let kind := bits w 61 60
  let sub := bits w 59 59
  let rank := bits w 58 58
  let cid := bits w 57 56
  let opc := bits w 47 40
  let data := bits w 39 32
  let s1 := (s.journalCmd m d (7 + kind) sub rank cid 0 0 0 (opc <<< 8 + data)).setReg (pg + 0x218)
    (putBits (putBits w 63 63 0) 62 62 0)
  let s2 := s1.setMc m { s1.mc m with mpcWaits := false }
  match kind with
  | 0 =>
    let devs := if bits w 55 55 = 1 then [bits w 54 51] else List.range 10
    s2.setMc m { s2.mc m with modeRegs := devs.foldl (fun t d => Tab.ins (modeKey sub rank cid d opc) data t) (s2.mc m).modeRegs }
  | 1 =>
    (List.range 10).foldl (fun s d =>
      let x : Nat × State := match Tab.at? (s.mc m).modeRegs (modeKey sub rank cid d opc) with
        | some v => (v, s)
        | none => let y := s.draw 8
                  (y.1.toNat, y.2)
      let off := 0x220 + 8 * (d / 8)
      x.2.setReg (pg + off) (putBits (x.2.reg (pg + off)) (8 * (d % 8) + 7) (8 * (d % 8)) x.1)) s2
  | _ => s2

/-- A write of MC_MPC (R248): issued at once before START, after it in the next maintenance window. -/
def State.mpcWrite (s : State) (m v : Nat) : Wr :=
  let pg := mcPg m 2
  match rowAt .mc2 0x218 with
  | some r =>
    if s.flag pg R.MC_MPC_BUSY then .no FAULT_ACCESS s
    else
      let s1 := s.setReg (pg + 0x218) (r.written (s.reg (pg + 0x218)) v)
      if !bitN v 63 then .ok s1
      else if s.flag pg R.MC_CTL_STARTED then .ok ((s1.setFld pg R.MC_MPC_BUSY 1).setMc m { s1.mc m with mpcWaits := true })
      else .ok (s1.issueMpc m (s1.dclk m))
  | none => .ok s

/-- A burst address with its rank and chip ID replaced (R222). -/
def State.burstAt (s : State) (m burst rank cid : Nat) : Nat :=
  let rk := s.mc2 m R.MC_CFG_RANKS
  let st := s.mc2 m R.MC_CFG_STACK
  let low := 16 + s.mc2 m R.MC_CFG_DENSITY + 2 + (if s.mc2 m R.MC_CFG_WIDTH = 0 then 7 else 6) + (if s.mc2 m R.MC_MAP_ORDER = 3 then 0 else 3)
  let b := if st = 0 then burst else putBits burst (low + st - 1) low (cid % 2 ^ st)
  if rk = 0 then b else putBits b (low + st) (low + st) rank

/-- The pattern generator writes one burst (R248, R488), in the rank and chip ID that MC_PAT_CTL names, which stand in place of the burst
address's own (DESIGN CHOICE, log entry 111): an all-zero pattern is the codeword of a line of plaintext zeros; what any other pattern leaves in
a line is a free value. -/
def State.patternBurst (s : State) (m sub burst : Nat) : State :=
  let pa := s.paOf m (s.burstAt m burst (s.mc2 m R.MC_PAT_CTL_RANK) (s.mc2 m R.MC_PAT_CTL_CID) <<< 7 + sub <<< 6)
  let at_ := copyAddr pa (s.mcCopy m)
  if s.mc2 m R.MC_PAT_CTL_PATTERN = 3 ∧ s.reg (mcPg m 2 + 0x208) = 0 then
    (s.setMemLine at_ 0).setLineAttr pa (s.mcCopy m) {}
  else
    let x := s.draw 512
    let y := x.2.draw 1
    (y.2.setMemLine at_ x.1).setLineAttr pa (s.mcCopy m) ⟨none, if y.1 = 1 then List.range 9 else [], false⟩

/-- A write of MC_PAT_CTL (R248). -/
def State.patWrite (s : State) (m v : Nat) : Wr :=
  let pg := mcPg m 2
  match rowAt .mc2 0x200 with
  | some r =>
    if s.flag pg R.MC_PAT_CTL_BUSY then .no FAULT_ACCESS s
    else
      let s1 := s.setReg (pg + 0x200) (r.written (s.reg (pg + 0x200)) v)
      if !bitN v 63 then .ok s1
      else
        let s2 := (s1.setFld pg R.MC_PAT_CTL_BUSY 1).setReg (pg + 0x210) 0
        let n := s2.mc2 m R.MC_PAT_CTL_COUNT + 1
        let first := s2.mc2 m R.MC_PAT_CTL_START
        if s2.mc2 m R.MC_PAT_CTL_OP = 1 then .ok s2
        else .ok ((List.range n).foldl (fun s i => s.patternBurst m (s.mc2 m R.MC_PAT_CTL_SUB) (first + i)) s2)
  | none => .ok s

/-- A pattern run ends with the lanes that miscompared (R248). -/
def State.patDone (s : State) (m : Nat) (lanes : BitVec 40) : State :=
  let pg := mcPg m 2
  if s.flag pg R.MC_PAT_CTL_BUSY then
    let s1 := (s.setFld pg R.MC_PAT_CTL_BUSY 0).setFld pg R.MC_PAT_CTL_GO 0
    (s1.setFld pg R.MC_PAT_RESULT_DONE 1).setFld pg R.MC_PAT_RESULT_LANEERR
      (if s1.mc2 m R.MC_PAT_CTL_OP = 0 then 0 else lanes.toNat)
  else s

/-- The refresh commands of a maintenance window close rows (R229, R230). -/
def State.refresh (s : State) (m d : Nat) : State :=
  let per := s.mc2 m R.MC_REF_PERWIN
  let trfc := s.mc2 m R.MC_REF_TRFC
  let ranks := 1 + s.mc2 m R.MC_CFG_RANKS
  (List.range per).foldl (fun s i =>
    let t := d + i * trfc
    let b := (s.mc m).refBank
    let all := s.mc2 m R.MC_REF_MODE = 0
    let s1 := [0, 1].foldl (fun s sub => (List.range ranks).foldl (fun s r =>
      (s.journalCmd m t (if all then 5 else 6) sub r 0 0 (if all then 0 else b) 0 0).count (mcPg m 3) 0x09 none 1) s) s
    let v := s1.mc m
    s1.setMc m { v with
      banks := v.banks.map (fun e => if all ∨ e.1 % 4 = b then (e.1, { e.2 with row := none, refreshed := true, pre := t }) else e)
      refBank := if all then b else (b + 1) % 4 }) s

/-- A column command of the patrol scrub at dclk t, with the ACT and the PRE around it (R238, R241): kind 1 RD, 2 WR. -/
def State.scrubCmd (s : State) (m t kind : Nat) (p : DramAddr) : State :=
  let T (f : Field) : Nat := s.mc2 m f
  let w := t + T R.MC_TIM0_RCD
  let u := max (t + T R.MC_TIM0_RAS) (if kind = 1 then w + T R.MC_TIM0_RTP else w + T R.MC_TIM0_CWL + 4 + T R.MC_TIM0_WR)
  let cmd (s : State) (d kind arg : Nat) : State := s.journalCmd m d kind p.sub p.rank p.cid p.bg p.bank 0 arg
  cmd (cmd (cmd s t 0 p.row) w kind p.col) u 3 0

/-- One patrol-scrub read of each subchannel from dclk t, when the pace calls for it (R236, R238). An uncorrectable line is rewritten with P
in the same window. -/
def State.scrub (s : State) (m t : Nat) : State :=
  let pg := mcPg m 0
  let total := s.channelBytes m / 128
  let pos := s.fld pg R.MC_SCRUB_POS
  let period := s.fld pg R.MC_SCRUB_PERIOD * 3600 * 25000000
  if !s.flag pg R.MC_SCRUB_EN || decide ((s.tb - (s.mc m).scrubBase) * total < pos * period) then s
  else
    let s1 := [0, 1].foldl (fun s sub =>
      let pa := s.paOf m (pos <<< 7 + sub <<< 6)
      let s := s.scrubCmd m t 1 (s.placeOf pa)
      let a := s.lineAttr pa (s.mcCopy m)
      if !s.correctable m (s.placeOf pa) a.errs then
        (((s.scrubCmd m t 2 (s.placeOf pa)).setLineAttr pa (s.mcCopy m) { a with errs := [], poison := true }).record pg 1 0x1012 pa 0
          false).pulse (mcSource m 2)
      else if a.poison || a.errs.isEmpty then s
      else
        ((s.setMc m { s.mc m with rewrite := (s.mc m).rewrite ++ [lineOf pa] }).record pg 0 0x1001 pa 0 false).autoMark m
          (s.placeOf pa) a.errs) s
    if total ≤ pos + 1 then
      let s2 := ((s1.setFld pg R.MC_SCRUB_POS 0).bump pg R.MC_SCRUB_PASSES 1).pulse (mcSource m 3)
      s2.setMc m { s2.mc m with scrubBase := s2.tb, devCorr := [] }
    else s1.setFld pg R.MC_SCRUB_POS (pos + 1)

/-- The oldest corrected line of a list is rewritten (R238). -/
def State.scrubRewrite (s : State) (m t l : Nat) : State :=
  (s.scrubCmd m t 2 (s.placeOf (64 * l))).setLineAttr (64 * l) (s.mcCopy m) { s.lineAttr (64 * l) (s.mcCopy m) with errs := [] }

/-- What the scrub does in a maintenance window (R230, R238): the write of a corrected line of each subchannel, lines to which a journaled write
exists apart, or else a scrub read. -/
def State.scrubWindow (s : State) (m t : Nat) : State :=
  let v := s.mc m
  let todo := v.rewrite.filter (fun l => !v.journal.any (fun e => lineOf e.f.addr.toNat == l))
  match todo with
  | [] => (s.setMc m { v with rewrite := [] }).scrub m t
  | _ :: _ =>
    let one := [0, 1].flatMap (fun sub => (todo.find? (fun l => l % 2 == sub)).toList)
    one.foldl (fun s l => s.scrubRewrite m t l) (s.setMc m { v with rewrite := todo.filter (fun l => !one.contains l) })

/-- The start of the next maintenance window at or after dclk d (R224). -/
def State.nextMaint (s : State) (m f d : Nat) : Nat :=
  let starts := (List.range 4).map (fun q => nextStart f (s.frameLen m) (s.maintStart m q) d)
  starts.foldl min (starts.headD d)

/-- The next maintenance window (R230, R234): armed PHY delays, refresh; in the last 64 dclk the MRR of MR4, of the ranks in turn (`hot`: it
asks more refresh than the frame gives), a waiting MC_MPC command, ZQ calibration every 128 ms, and the scrub. The order of those four within the
64 dclk is a DESIGN CHOICE (log entry 107). Frozen or in self-refresh, the channel refreshes and scrubs nothing. -/
def State.maintWindow (s : State) (m : Nat) (hot : Bool) : State :=
  match (s.mc m).frame0 with
  | none => s
  | some f =>
    if s.flag (mcPg m 0) R.PG_STATUS_FROZEN || (s.mc m).selfRefresh then s
    else
      let d := s.nextMaint m f (s.dclk m)
      let w := d + s.mc2 m R.MC_WIN_MLEN - 64
      let s1 := (s.mc m).armed.foldl (fun s sub => s.applyPhy m sub) ((s.toDclk m d).guardClose m d)
      let s2 := (s1.refresh m d).toDclk m w
      let r := (s2.mc m).mrrRank
      let s3 := [0, 1].foldl (fun s sub => s.journalCmd m w 8 sub r 0 0 0 0 0x0400) s2
      let s4 := s3.setMc m { s3.mc m with mrrRank := (r + 1) % (1 + s3.mc2 m R.MC_CFG_RANKS) }
      let s5 := if hot then (s4.record (mcPg m 0) 0 0x2010 0 0 false).pulse (mcSource m 5) else s4
      let s6 := if (s5.mc m).mpcWaits then s5.issueMpc m (w + 1) else s5
      let s7 := if 3200000 ≤ s6.tb - (s6.mc m).zqAt then s6.startZq m (w + 2) else s6
      s7.scrubWindow m (w + 3)

/-- Whether no request of any class is present at the channel (R231). -/
def State.mcIdle (s : State) (m : Nat) : Bool :=
  let v := s.mc m
  v.reads.isEmpty && v.flight.isEmpty && v.held.isEmpty && v.journal.all (fun e => e.issued.isSome) &&
    !(Tab.get [] s.mesh.ingress (8 * mcStop m + 1)).any (fun f => f.plane == .req)

/-- Self-refresh begins at the start of the next maintenance window, after IDLE x 1,024 dclk with no request (R231). -/
def State.selfRefreshEntry (s : State) (m : Nat) : State :=
  let v := s.mc m
  let idle := s.fld (mcPg m 0) R.MC_SR_IDLE
  match v.frame0 with
  | none => s
  | some f =>
    let d := s.nextMaint m f (max (s.dclk m) (v.lastReq + idle * 1024))
    if idle = 0 ∨ !s.mcIdle m ∨ v.selfRefresh ∨ s.flag (mcPg m 0) R.PG_STATUS_FROZEN then s
    else ((s.toDclk m d).guardClose m d).enterSrAt m d

/-- 128 dclk after its WR command a journaled write is dropped (R241), and the requests of its class that wait behind a full journal are
presented again (R228). -/
def State.journalRelease (s : State) (m : Nat) : State :=
  let v := s.mc m
  if s.flag (mcPg m 0) R.PG_STATUS_FROZEN then s
  else match takeFirst (fun e => e.issued.isSome) v.journal with
  | none => s
  | some (e, rest) =>
    ((s.setMc m { v with journal := rest }).toDclk m (e.issued.getD 0 + 128)).mcResume m (fun k => k == e.f.cls)

/-- The copy from the partner ends (R246): every listed line, or every line, is as the partner holds it. -/
def State.resyncDone (s : State) (m : Nat) : State :=
  let pg := mcPg m 0
  if s.flag pg R.MC_MIRROR_RESYNC then
    let partner := if m % 2 = 0 then m + 1 else m - 1
    let all := s.flag (mcPg partner 0) R.MC_MIRROR_OVERFLOW
    let lines := if all then
        ((s.attrs.map (fun e : Nat × LineAttr => e.1 / 2) ++ s.mem.map (fun e : Nat × Byte => e.1 % 2 ^ 52 / 64)).filter (fun l => match s.channelOf (64 * l) with
          | some (n, _, _) => n == m / 2 * 2
          | none => false)).eraseDups
      else (s.mc partner).resync
    let s1 := lines.foldl (fun s l =>
      let data := s.memLine (copyAddr (64 * l) (partner % 2))
      (s.setMemLine (copyAddr (64 * l) (m % 2)) data).setLineAttr (64 * l) (m % 2) (s.lineAttr (64 * l) (partner % 2))) s
    let s2 := s1.setMc partner { s1.mc partner with resync := [] }
    (((s2.setFld (mcPg partner 0) R.MC_MIRROR_LIST 0).setFld (mcPg partner 0) R.MC_MIRROR_OVERFLOW 0).setFld pg
      R.MC_MIRROR_RESYNC 0).setFld pg R.PG_STATUS_DEGRADED 0
  else s

/-- A write of MC_ECC (R236, R249): a device above 9, or a mark on an x8 DIMM, is refused. -/
def State.eccWrite (s : State) (m v : Nat) : Wr :=
  let bad := (List.range 4).any (fun k => bitN v (5 * k + 4) &&
    (decide (9 < bits v (5 * k + 3) (5 * k)) || s.mc2 m R.MC_CFG_WIDTH == 1))
  let high := (List.range 4).any (fun k => decide (9 < bits v (5 * k + 3) (5 * k)))
  if bad || high then .no FAULT_ACCESS s
  else
    let old := s.reg (mcPg m 0 + 0x140)
    let s1 := match rowAt .mc0 0x140 with
      | some r => s.setReg (mcPg m 0 + 0x140) (r.written (s.reg (mcPg m 0 + 0x140)) v)
      | none => s
    let marked := (List.range 4).any (fun k => bitN v (5 * k + 4))
    .ok ((if marked then s1.raiseHealth 1 (s1.fld (rasPg 0) R.RAS_LOG_SEQ_NEXT) else s1).eccRecheck m old)

/-- A write of MC_INJECT (R249). -/
def State.injectWrite (s : State) (m v : Nat) : State :=
  if !bitN v 63 then s
  else match bits v 62 60 with
  | 4 => s.setMc m { s.mc m with caNext := true }
  | 1 => s.setMc m { s.mc m with inject := some ⟨1, bits v 51 6⟩ }
  | 2 => s.setMc m { s.mc m with inject := some ⟨2, bits v 51 6⟩ }
  | 3 => s.setMc m { s.mc m with inject := some ⟨3, bits v 51 6⟩ }
  | _ => s

/-- Registers of MC page 0 with behaviour of their own (R226, R242, R246, R249). -/
def State.mc0PageWrite (s : State) (m off : Nat) (who : Requester) (v : Nat) : Option RegEffect :=
  let pg := mcPg m 0
  let plain : State := match rowAt .mc0 off with
    | some r => s.setReg (pg + off) (r.written (s.reg (pg + off)) v)
    | none => s
  if off = 0x100 then some { admitted := who.path == .ward, act := .ok plain }
  else if off = 0x108 ∨ off = 0x110 then
    let n := (off - 0x108) / 8
    let share (k w : Nat) : Nat := if k / 8 = n then bits w (8 * (k % 8) + 5) (8 * (k % 8)) else 0
    let all (k : Nat) : Nat := if k / 8 = n then share k v else s.fld pg (R.MC_WINSHARE_SHARE.ofClass k)
    let needed (k : Nat) : Bool := k == 15 || (List.range 4096).any (fun t => tctValid (s.tctEntry t) && tctClass (s.tctEntry t) == k)
    let bad := decide (32 < (List.range 16).foldl (fun t k => t + all k) 0) ||
      ((List.range 16).filter (fun k => k / 8 == n && share k v == 0)).any needed
    some { locked := s.secureFieldLocked who share (s.reg (pg + off)) v, admitted := wardOrM who
           act := if bad then .no FAULT_ACCESS s else .ok plain }
  else if off = 0x118 ∨ off = 0x120 then
    let zero := (List.range 8).any (fun j => bits v (8 * j + 7) (8 * j) == 0)
    let n := (off - 0x118) / 8
    let mask (k w : Nat) : Nat := if k / 8 = n then bits w (8 * (k % 8) + 7) (8 * (k % 8)) else 0
    some { locked := s.secureFieldLocked who mask (s.reg (pg + off)) v, admitted := wardOrM who
           act := if zero then .no FAULT_ACCESS s else .ok plain }
  else if off = 0x130 then some { admitted := wardOrM who, act := .ok plain }
  else if off = 0x138 then
    some { act := .ok (if bits v 55 48 = 0 then plain.setFld pg R.MC_SCRUB_PERIOD (s.fld pg R.MC_SCRUB_PERIOD) else plain) }
  else if off = 0x140 then some { admitted := wardOrM who, act := s.eccWrite m v }
  else if off = 0x148 then
    some { admitted := wardOrM who
           act := .ok (if bits v 31 0 < 25000 ∨ 25000000 < bits v 31 0 then s else plain) }
  else if off = 0x150 then some { act := s.freezeCtl m v }
  else if off = 0x158 then some { admitted := wardOrM who, act := .ok (s.injectWrite m v) }
  else none

/-- Registers of MC page 2 (R233, R247, R248): after START only MC_MPC takes writes. -/
def State.mc2PageWrite (s : State) (m off : Nat) (who : Requester) (v : Nat) : Option RegEffect :=
  let pg := mcPg m 2
  match rowAt .mc2 off with
  | none => none
  | some r =>
    if off = 0x218 then some { act := s.mpcWrite m v }
    else
      let admitted := if off ≤ 0x138 then wardOrM who else true
      if s.flag pg R.MC_CTL_STARTED then some { admitted := admitted, act := .no FAULT_ACCESS s }
      else if off = 0x100 then some { admitted := admitted, act := s.mcStart m v }
      else if off = 0x108 ∧ 4 < bits v 57 55 then some { admitted := admitted, act := .no FAULT_ACCESS s }
      else if off = 0x200 then some { act := s.patWrite m v }
      else some { admitted := admitted, act := .ok (s.setReg (pg + off) (r.written (s.reg (pg + off)) v)) }

/-- MC_READ (R229). -/
def execMcRead (f : Flit) (s : State) : Out := .next (s.onMc f (fun s m => s.mcRead m f))
/-- MC_WRITE (R228). -/
def execMcWrite (f : Flit) (s : State) : Out := .next (s.onMc f (fun s m => s.mcWrite m f))
/-- MC_COMMAND_ISSUE (R227). -/
def execMcCommandIssue (m : McId) (sub : Fin 2) (win : Nat) (s : State) : Out := .next (s.mcIssue m.val sub.val win)
/-- MC_READ_DATA (R237). -/
def execMcReadData (m : McId) (tag : Fin 2048) (s : State) : Out := .next (s.mcReadData m.val tag.val)
/-- ALERT_N (R240). -/
def execAlertN (m : McId) (_sub : Fin 2) (s : State) : Out := .next (s.alertN m.val)
/-- FREEZE_SELF_REFRESH (R240). -/
def execFreezeSelfRefresh (m : McId) (s : State) : Out := .next (s.freezeSr m.val)
/-- FREEZE_TIMEOUT (R243). -/
def execFreezeTimeout (m : McId) (s : State) : Out := .next (s.freezeTimeout m.val)
/-- MC_FRAME_START (R224). -/
def execMcFrameStart (m : McId) (s : State) : Out := .next (s.frameStart m.val)
/-- MAINT_WINDOW (R230). -/
def execMaintWindow (m : McId) (hot : Bool) (s : State) : Out := .next (s.maintWindow m.val hot)
/-- SELF_REFRESH_ENTRY (R231). -/
def execSelfRefreshEntry (m : McId) (s : State) : Out := .next (s.selfRefreshEntry m.val)
/-- MC_FRAME0 (R233). -/
def execMcFrame0 (m : McId) (s : State) : Out := .next (s.mcFrame0 m.val)
/-- MC_PAT_DONE (R248). -/
def execMcPatDone (m : McId) (lanes : BitVec 40) (s : State) : Out := .next (s.patDone m.val lanes)
/-- MIRROR_RESYNC_DONE (R246). -/
def execMirrorResyncDone (m : McId) (s : State) : Out := .next (s.resyncDone m.val)
/-- WRITE_JOURNAL_RELEASE (R241). -/
def execWriteJournalRelease (m : McId) (s : State) : Out := .next (s.journalRelease m.val)

end Sys2Proof.Machine
end

