-- ==== Sys2Proof/Machine/RasOps.lean ====
section
/-! DEFINITION. Recovery (14 R412-R445): the central log, core faults and reprints, moved and switched harts, retirement, DEV_HEALTH's
events, and the writes and reads of the RAS and Negative store pages. -/

namespace Sys2Proof.Machine

-- the central log (R416-R418, R443)

/-- Record number n of the log (R416). -/
def State.logAt (s : State) (n : Nat) : Rec := Tab.get ⟨0, 0, 0, 0⟩ s.log (n % 4096)
/-- Severity of a record (R413). -/
def Rec.sev (r : Rec) : Nat := bits r.w0.toNat 33 32

/-- RAS_LOG_STAT.CONT and FATAL (R417, R443): uncorrected records at or above ACK that the log still holds. -/
def State.logStat (s : State) : State :=
  let next := s.fld (rasPg 0) R.RAS_LOG_SEQ_NEXT
  let lo := max (s.fld (rasPg 0) R.RAS_LOG_ACK_ACK) (next - 4096)
  let held := (List.range (next - lo)).map (fun i => (s.logAt (lo + i)).sev)
  (s.setFld (rasPg 0) R.RAS_LOG_STAT_CONT (b01 (held.any (fun v => decide (2 ≤ v))))).setFld (rasPg 0) R.RAS_LOG_STAT_FATAL
    (b01 (held.any (· == 3)))

/-- The oldest reported record enters the log (R416): its sequence number, RAS_FATAL, the sources of R418, DEV_HEALTH (R439). -/
def State.logRecord (s : State) : State :=
  match s.reports with
  | [] => s
  | r :: rest =>
    let pg := rasPg 0
    let n := s.fld pg R.RAS_LOG_SEQ_NEXT
    let s1 : State := { s with reports := rest, log := Tab.set ⟨0, 0, 0, 0⟩ s.log (n % 4096) r }
    let s2 := s1.setFld pg R.RAS_LOG_SEQ_NEXT (n + 1)
    let s3 := if 4096 ≤ n then s2.bump pg R.RAS_LOG_STAT_OVERWRITTEN 1 else s2
    let s4 := if r.sev = 3 ∧ s3.reg (pg + 0x140) = 0 then s3.putRec pg 0x140 r else s3
    let s5 := s4.logStat.pulse (1744 + r.sev)
    let s6 := if n + 1 - s5.fld pg R.RAS_LOG_ACK_ACK = 3072 then s5.pulse 1748 else s5
    if r.sev = 3 then s6.raiseHealth 2 n else s6

/-- A page's newest corrected record is reported again (R415): 25,000 aclk after the last report at the earliest, while COUNT rises. -/
def State.coalesced (s : State) (pg : Nat) : State :=
  let r := s.recAt pg 0x40
  let n := bits r.w0.toNat 15 0
  let last := Tab.get (0, 0) s.reported (pg / 4096)
  if r.sev = 0 ∧ last.2 < n ∧ 0 < last.2 then
    let s1 := s.toAclk (last.1 + 25000)
    { s1 with reports := s1.reports ++ [r], reported := Tab.set (0, 0) s1.reported (pg / 4096) (s1.tb, n) }
  else s

/-- The PLDM PlatformEventMessage of DEV_HEALTH (R440): PLDM request of type 2, command 0x0A, event class sensorEvent, sensor 0x0001,
stateSensorState, present and previous state + 1. -/
def pldmEvent (now before : Nat) : List Byte :=
  [0x01, 0x80, 0x02, 0x0A, 0x01, 0x00, 0x00, 0x01, 0x00, 0x01, 0x00, BitVec.ofNat 8 (now + 1), BitVec.ofNat 8 (before + 1)]

/-- The Ward sends DEV_HEALTH's event (R440): at once after a change, and again every 1 s until the BMC responds. -/
def State.pldmSend (s : State) : State :=
  let v := s.sideband
  let h := s.fld (rasPg 0) R.RAS_HEALTH_STATE
  if !s.flag (rasPg 0) R.RAS_HEALTH_PLDMPEND || !s.ward.running then s
  else if h = v.sentHealth then
    let s1 := s.toAclk (v.sentAt + 25000000)
    { s1 with sideband := { v with out := v.out ++ [pldmEvent h v.sentBefore], sentAt := s1.tb } }
  else { s with sideband := { v with out := v.out ++ [pldmEvent h v.sentHealth], sentBefore := v.sentHealth, sentHealth := h, sentAt := s.tb } }

-- harts (R423-R430)

/-- Commit everything a hart has retired (R426, R438): its open epoch closes and clears. -/
def State.commitAll (s : State) (h cause n : Nat) : State :=
  let s1 := (s.abandon h).closeEpoch h cause
  let v := s1.hart h
  let s2 := s1.setHart h { v with misses := [], shadow := [], bypass := [], head := none, fenceWait := false }
  v.closed.foldl (fun s _ => s.commitOldest h n) s2

/-- The other hart of a shared core. -/
def State.otherHart (s : State) (k : Nat) : Nat :=
  if (s.core k).second then s.fld (corePg k) R.CORE_RUN_HART0 else s.fld (corePg k) R.CORE_RUN_HART1

/-- The present hart of a shared core leaves it for the other (R426): its epoch closes and commits, its Negative is written and its
prediction state flushed. -/
def State.switchOut (s : State) (k h : Nat) : State :=
  let s1 := (s.commitAll h 6 24).tick h
  let s2 := s1.writeNegative h (s1.hart h).negCopy
  let s3 := s2.setHart h { s2.hart h with predictor := [] }
  s3.setCore k { s3.core k with second := !(s3.core k).second }

/-- A hart's restore ends (R425, R429): it runs again where its Negative could be read, and is lost where it could not. -/
def State.reprintEnd (s : State) (h : Nat) (readable : Bool) : State :=
  let v := s.hart h
  match v.restore with
  | none => s
  | some t =>
    let k := s.coreOf h
    let shared := s.flag (corePg k) R.CORE_RUN_SHARED && s.fld (corePg k) R.CORE_RUN_HART1 == h
    if readable then
      let s1 := s.toMclk t
      let s2 := if shared && !(s1.core k).second then s1.switchOut k (s1.fld (corePg k) R.CORE_RUN_HART0) else s1
      let s3 := s2.setHart h { s2.hart h with restore := none, predictor := [], predEpoch := 0, ran := s2.now }
      (s3.setCore k { s3.core k with turnAt := max s3.now t }).pulse 1750
    else
      let c := k / 4
      let s1 := if shared then s.setFld (corePg k) R.CORE_RUN_SHARED 0 else s.setFld (corePg k) R.PG_RESET_HOLDRST 1
      let s2 := match s1.negSlot c h with
        | some n => s1.setFld (negPg c) (R.CL_NEG_SLOT_LOST.nth n) 1
        | none => s1
      let s3 := s2.setHart h { s2.hart h with restore := none, lost := true }
      (s3.record (clusterPg c) 2 0x4041 0 (s3.coreDetail h 5 k) false).markParked h

/-- The cluster a parked hart moves to (R428): not retired, with a free guest slot and a core, at least H and lowest number. -/
def State.moveTo (s : State) (h : Nat) : Option (Nat × Nat × Nat) :=
  let c := s.coreOf h / 4
  let offer (d : Nat) : Option (Nat × Nat × Nat) :=
    if d = c ∨ s.flag (clusterPg d) R.PG_STATUS_RETIRED then none
    else match (List.range 8).find? (fun n => decide (4 ≤ n) && !s.flag (negPg d) (R.CL_NEG_SLOT_VALID.nth n)), s.reprintCore d h 384 with
      | some n, some k => some (d, n, k)
      | _, _ => none
  (List.range 96).foldl (fun best d =>
    match offer d, best with
    | some x, some b => if pathH (tileStop c) (tileStop x.1) < pathH (tileStop c) (tileStop b.1) then some x else best
    | some x, none => some x
    | none, _ => best) none

/-- Move a parked hart (R428): its Negative goes to a guest slot of the destination, whose cluster reprints it; 0x4022. -/
def State.moveHart (s : State) (h : Nat) : Option State :=
  match s.moveTo h with
  | none => none
  | some (d, n, k) =>
    let c := s.coreOf h / 4
    let cl := s.cluster c
    let s1 := match s.negSlot c h with
      | none => s
      | some m =>
        let dl := s.cluster d
        let z : NegCopy := {}
        let neg := Tab.set z (Tab.set z dl.neg (2 * n) (Tab.get z cl.neg (2 * m))) (2 * n + 1) (Tab.get z cl.neg (2 * m + 1))
        let s' := (s.setCluster d { dl with neg := neg }).setFld (negPg c) (R.CL_NEG_SLOT_PARKED.nth m) 0
        if m < 4 then s' else s'.setReg (negPg c + 0x100 + 8 * m) 0
    let s2 := s1.setReg (negPg d + 0x100 + 8 * n) (2 ^ 63 + h)
    let s3 := s2.startReprint h k (s2.now + 48 + s2.ccyc k (3 + 64))
    some (s3.record (clusterPg d) 0 0x4022 (s3.hart h).a.pc.toNat (s3.coreDetail h 0 k) false)

/-- HART_MOVE (R428): a parked hart moves while RAS_POLICY.MIGRATE = 1. -/
def State.migrate (s : State) (h : Nat) : State :=
  if (s.hart h).parked && !(s.hart h).lost && s.flag (rasPg 0) R.RAS_POLICY_MIGRATE then (s.moveHart h).getD s else s

/-- Harts that run in cluster c, guests included, and are neither parked nor lost. -/
def State.hartsIn (s : State) (c : Nat) : List Nat :=
  (List.range 384).filter (fun h => s.coreOf h / 4 == c && (s.hart h).started && !(s.hart h).parked && !(s.hart h).lost)

/-- Retire cluster c (R438): its harts stop and are parked, the L2 is written back, the harts move, cores and L2 power off; the flag
says that every hart found a destination. -/
def State.retireCluster (s : State) (c : Nat) : State × Bool :=
  let hs := s.hartsIn c
  let s1 := hs.foldl (fun s h =>
    let s' := s.commitAll h 6 24
    (s'.writeNegative h (s'.hart h).negCopy).parkHart h) s
  let s2 := (List.range 4).foldl (fun s i => s.drainL1 (4 * c + i) false) s1
  let s3 := s2.flushL2 c
  let parked := (List.range 384).filter (fun h => s3.coreOf h / 4 == c && (s3.hart h).parked && !(s3.hart h).lost)
  let x := parked.foldl (fun (a : State × Bool) h =>
    match a.1.moveHart h with
    | some t => (t, a.2)
    | none => (a.1, false)) (s3, true)
  let s4 := (List.range 4).foldl (fun s i =>
    let k := 4 * c + i
    let s' := (s.setFld (corePg k) R.PG_STATUS_RETIRED 1).setCore k { s.core k with cstate := 3 }
    if s.isRetired R.RAS_CORE_RET k then s' else s'.markRetired R.RAS_CORE_RET k) x.1
  let s5 := s4.setFld (clusterPg c) R.PG_STATUS_RETIRED 1
  let s6 := s5.setCluster c { s5.cluster c with kstate := 2 }
  ((s6.record (clusterPg c) 2 0x4040 0 0 false).markRetired R.RAS_CL_RET c, x.2)

/-- Retire core k (R430): powered off, record 0x4042; the third retired core of a cluster retires it. -/
def State.retireCore (s : State) (k : Nat) : State :=
  let c := k / 4
  let s1 := (s.setFld (corePg k) R.PG_STATUS_RETIRED 1).setCore k { s.core k with cstate := 3 }
  let s2 := (s1.record (corePg k) 2 0x4042 0 (s1.coreDetail (s1.fld (corePg k) R.CORE_RUN_HART0) 0 k) false).markRetired R.RAS_CORE_RET k
  let n := ((List.range 4).filter (fun i => s2.isRetired R.RAS_CORE_RET (4 * c + i))).length
  if 3 ≤ n ∧ !s2.isRetired R.RAS_CL_RET c then (s2.retireCluster c).1 else s2

/-- Whether a turn of core k may end now, and when (R426, R427): at the 400-aclk boundary, or at once for a long stall, a WFI or an
interrupt that the waiting hart would take, where both harts have one class. -/
def State.turnEnd (s : State) (k h o : Nat) : Option Nat :=
  let v := s.hart h
  let w := s.hart o
  let edge := 96 * (ceilDiv (s.core k).turnAt 96 + 400)
  let idle := w.wait == some .wfi && !s.intPending o
  let one := v.a.cls == w.a.cls
  let stall := bitN (v.a.getCsr CSR_XNRCTL) 17 && !v.misses.isEmpty
  let since := (v.misses.headD ⟨.load 0 0 0 0 .b false false, false, [], [], [], false, s.now⟩).since
  if idle || v.io.isSome || w.parked || w.lost || w.restore.isSome then none
  else if one && (v.wait == some .wfi || (s.recognised o).isSome) then some s.now
  else if one && stall then some (min edge (max s.now (s.ccycAt k since 512)))
  else some edge

/-- A turn ends and the core switches harts, in 142 cycles at 2.4 GHz (R426). -/
def State.hartSwitch (s : State) (k : Nat) : State :=
  match s.coreHart k with
  | none => s
  | some h =>
    let o := s.otherHart k
    if !s.flag (corePg k) R.CORE_RUN_SHARED then s
    else match s.turnEnd k h o with
      | none => s
      | some t =>
        let s1 := s.toMclk t
        let s2 := s1.switchOut k h
        let s3 := s2.toMclk (s1.now + s1.ccyc k 24 + 3 + 48 + s1.ccyc k (3 + 64))
        (match s3.coreHart k with
          | some h2 => (s3.runFrom h2).hpm h2 0x42 0 false
          | none => s3).setCore k { s3.core k with turnAt := s3.now }

-- requests of retirement (R437, R443)

/-- Harts of a core that is retired by request stop, commit, and are reprinted elsewhere (R424). -/
def State.clearCore (s : State) (k : Nat) : State :=
  let hs := (List.range 384).filter (fun h => s.coreOf h == k && (s.hart h).started && !(s.hart h).parked && !(s.hart h).lost)
  let s1 := hs.foldl (fun s h =>
    let s' := s.commitAll h 6 24
    s'.writeNegative h (s'.hart h).negCopy) s
  let s2 := (s1.drainL1 k false).setFld (corePg k) R.CORE_RUN_SHARED 0
  hs.foldl (fun s h => s.reprint h (k / 4)) (s2.setFld (corePg k) R.PG_STATUS_RETIRED 1)

/-- Whether a RAS_REQ is refused (R437): the block is retired already or the last of its kind, or there is none. -/
def State.rasRefused (s : State) (kind n : Nat) : Bool :=
  match kind with
  | 1 => decide (384 ≤ n) || s.isRetired R.RAS_CORE_RET n || decide (383 ≤ s.retiredCount R.RAS_CORE_RET 6)
  | 2 => decide (96 ≤ n) || s.isRetired R.RAS_CL_RET n || decide (95 ≤ s.retiredCount R.RAS_CL_RET 2)
  | 3 => decide (96 ≤ n) || s.isRetired R.RAS_SLC_RET n || decide (95 ≤ s.retiredCount R.RAS_SLC_RET 2) || s.home.retire.isSome
  | 4 => decide (96 ≤ n) || s.isRetired R.RAS_DE_RET n || decide (95 ≤ s.retiredCount R.RAS_DE_RET 2)
  | 5 => decide (384 ≤ n) || !(s.hart n).parked || (s.hart n).lost
  | _ => true

/-- Performance of a RAS_REQ (R428, R437, R438): the state and RESULT; a slice's retirement stays BUSY until its walk is done. -/
def State.rasDo (s : State) (kind n : Nat) : State × Nat :=
  match kind with
  | 1 => ((s.clearCore n).retireCore n, 0)
  | 2 => let x := s.retireCluster n
         (x.1, if x.2 then 0 else 2)
  | 3 => ((s.startRetire n).setFld (rasPg 0) R.RAS_REQ_STAT_BUSY 1, 0)
  | 4 => (s.retireEngine n, 0)
  | _ => match s.moveHart n with
    | some t => (t, 0)
    | none => (s, 2)

/-- A write of RAS_REQ (R443). -/
def State.rasReq (s : State) (v : Nat) : Wr :=
  let pg := rasPg 0
  let kind := bits v 63 60
  let n := bits v 15 0
  if s.flag pg R.RAS_REQ_STAT_BUSY then .no FAULT_ACCESS s
  else
    let s1 := (s.setFld pg R.RAS_REQ_STAT_KIND kind).setFld pg R.RAS_REQ_STAT_NUMBER n
    if s.rasRefused kind n then .ok (s1.setFld pg R.RAS_REQ_STAT_RESULT 1)
    else
      let x := s1.rasDo kind n
      .ok (x.1.setFld pg R.RAS_REQ_STAT_RESULT x.2)

/-- The value RAS_POLICY takes (R443): a threshold written as 0 keeps its value. -/
def State.policyValue (s : State) (v : Nat) : Nat :=
  let old := s.reg (rasPg 0 + 0x108)
  let keep (w : Nat) (x : Nat × Nat) : Nat := if bits v x.1 x.2 = 0 then putBits w x.1 x.2 (bits old x.1 x.2) else w
  [(63, 48), (47, 40), (39, 32), (31, 28), (27, 24), (23, 20), (19, 16)].foldl keep (bits v 63 16 <<< 16 + bits v 1 0)

/-- Registers of the RAS pages (R443, R444): page 0, page 1. -/
def State.rasPageWrite (s : State) (i off : Nat) (who : Requester) (v : Nat) : Option RegEffect :=
  let pg := rasPg i
  let ward := who.path == .ward
  if i = 0 then
    if off = 0x108 then some { admitted := ward, act := .ok (s.setReg (pg + off) (s.policyValue v)) }
    else if off = 0x118 then
      let a := bits v 31 0
      let keep := decide (a < s.fld pg R.RAS_LOG_ACK_ACK) || decide (s.fld pg R.RAS_LOG_SEQ_NEXT < a)
      some { admitted := wardOrM who, act := .ok (if keep then s else (s.setFld pg R.RAS_LOG_ACK_ACK a).logStat) }
    else if off = 0x128 then some { admitted := wardOrM who, act := s.rasReq v }
    else if 0x100 ≤ off ∧ off < 0x160 then some { admitted := ward, act := .ok s }
    else none
  else if 0x100 ≤ off ∧ off < 0x1B0 then some { admitted := ward, act := .ok s }
  else none

/-- The word of cluster c's Negative store at byte offset `a` (R420, R421). -/
def State.negWord (s : State) (c a : Nat) : Word :=
  (Tab.get {} (s.cluster c).neg (2 * (a / 0x1800) + a % 0x1800 / 0xC00)).word (a % 0xC00 / 8)

/-- Store a word of the Negative store. -/
def State.putNegWord (s : State) (c a : Nat) (w : Word) : State :=
  let i := 2 * (a / 0x1800) + a % 0x1800 / 0xC00
  let cl := s.cluster c
  s.setCluster c { cl with neg := Tab.set {} cl.neg i ((Tab.get {} cl.neg i).putWord (a % 0xC00 / 8) w) }

/-- ADDR after an access of CL_NEG_DATA (R445): it wraps after 0xBFF8. -/
def State.negAdvance (s : State) (c : Nat) : State :=
  let a := s.fld (negPg c) R.CL_NEG_ADDR_ADDR * 8
  s.setFld (negPg c) R.CL_NEG_ADDR_ADDR (if a = 0xBFF8 then 0 else a / 8 + 1)

/-- A read of CL_NEG_DATA by the Ward (R445). -/
def State.negRead (s : State) (c : Nat) : Nat × State :=
  ((s.negWord c (s.fld (negPg c) R.CL_NEG_ADDR_ADDR * 8)).toNat, s.negAdvance c)

/-- Registers of a Negative store page (R445). -/
def State.negPageWrite (s : State) (c off : Nat) (who : Requester) (v : Nat) : Option RegEffect :=
  let ward := who.path == .ward
  if off = 0x140 then
    some { admitted := ward
           act := if 0xBFF8 < bits v 15 3 * 8 then .no FAULT_ACCESS s else .ok (s.setFld (negPg c) R.CL_NEG_ADDR_ADDR (bits v 15 3)) }
  else if off = 0x148 then
    some { admitted := ward, act := .ok ((s.putNegWord c (s.fld (negPg c) R.CL_NEG_ADDR_ADDR * 8) (w64 v)).negAdvance c) }
  else none

-- errors of the L2 (R419, R437)

/-- An error in a cluster's L2 (R419, R437). -/
def State.l2Error (s : State) (c : Nat) (e : ArrayError) : State :=
  let pg := clusterPg c
  match e with
  | .corrected l => s.record pg 0 0x4030 (64 * l) 0 false
  | .data l =>
    match Tab.at? (s.cluster c).l2 l with
    | some w => (s.setCluster c { s.cluster c with l2 := Tab.ins l { w with poison := true } (s.cluster c).l2 }).record pg 1 0x4031 (64 * l) 0
        (s.secureClass w.cls.val)
    | none => s
  | .tag _ =>
    let s1 := s.record pg 3 0x4032 0 0 false
    if s1.rasRefused 2 c then s1 else (s1.retireCluster c).1

end Sys2Proof.Machine
end

