-- ==== Sys2Proof/Machine/PowerOps.lean ====
section
/-! DEFINITION. Power states (15 R447-R462): entry sequences of cores, clusters and the package with their abort points, wake events,
exits, operating points (R463, R464), supply supervision (R465-R467) and the thermal supervisor (R468-R472). -/

namespace Sys2Proof.Machine

-- cores (R449-R455)

/-- The harts that core k hosts and runs. -/
def State.coreHarts (s : State) (k : Nat) : List Nat :=
  let own := s.fld (corePg k) R.CORE_RUN_HART0
  let hs := if s.flag (corePg k) R.CORE_RUN_SHARED then [own, s.fld (corePg k) R.CORE_RUN_HART1] else [own]
  hs.filter (fun h => s.coreOf h == k && (s.hart h).started && !(s.hart h).parked && !(s.hart h).lost)

/-- Whether the router asked to wake core k (R381). -/
def State.routerWakes (s : State) (k : Nat) : Bool := s.router.wakes.any (fun t => decide (t < 6144) && s.coreOf (t / 16) == k)

/-- Whether core k has a wake event now (R452). -/
def State.wakeDue (s : State) (k : Nat) : Bool :=
  (s.core k).wake || s.routerWakes k || (s.coreHarts k).any (fun h => s.intPending h || (s.hart h).restore.isSome)

/-- Whether core k may begin an entry (R451, R464): every hart of it in WFI with no interrupt pending, no transition running. -/
def State.maySleep (s : State) (k : Nat) : Bool :=
  let co := s.core k
  let hs := s.coreHarts k
  co.cstate == 0 && co.entry.isNone && co.exitAt.isNone && co.dvfsEnd.isNone && co.domainReset.isNone && co.fencedAt.isNone &&
    !s.flag (corePg k) R.CORE_RUN_FENCED && !s.flag (corePg k) R.PG_STATUS_RETIRED && !hs.isEmpty && !s.wakeDue k &&
    hs.all (fun h => (s.hart h).wait == some .wfi)

/-- The epoch wait (R451): the open epoch closes on its cycle limit and everything commits. -/
def State.epochWait (s : State) (h : Nat) : State :=
  let v := s.hart h
  let s1 := match v.epoch with
    | some e => (s.toMclk (e.begun + s.ccyc (s.coreOf h) (2 ^ bits (v.a.getCsr CSR_XNRCTL) 15 12))).closeEpoch h 1
    | none => s
  ((s1.hart h).closed.foldl (fun s _ => s.commitOldest h 24) s1).retrySnoops (s.coreOf h / 4)

/-- WFI ends on core k: for the harts with an interrupt pending, or, where there is none (a debug halt), for all. -/
def State.endWfi (s : State) (k : Nat) : State :=
  let hs := (s.coreHarts k).filter (fun h => (s.hart h).wait == some .wfi)
  let due := hs.filter (fun h => s.intPending h)
  (if due.isEmpty then hs else due).foldl (fun s h => s.setHart h { s.hart h with wait := none }) s

/-- The first aclk edge at or after a core's wake event reaches AON/PWR: the router's request costs 4 mclk from IO0 (R461). -/
def State.wakeEdge (s : State) (k : Nat) : Nat := ceilDiv (s.now + (if s.routerWakes k then 4 else 0)) 96

/-- A sleeping core begins its exit (R454, R456, R460, R461): C1 in 20 ns; C2 and C3 after their cluster's exit and the package's. -/
def State.startExit (s : State) (k : Nat) : State :=
  let co := s.core k
  let c := k / 4
  let cl := s.cluster c
  let served (s : State) : State := { s with router := { s.router with wakes := s.router.wakes.filter (fun t => !(decide (t < 6144) && s.coreOf (t / 16) == k)) } }
  if co.cstate = 0 ∨ co.exitAt.isSome ∨ s.flag (corePg k) R.PG_STATUS_RETIRED then s
  else if co.cstate = 1 then served (s.setCore k { co with exitAt := some (s.now + 48) })
  else if s.asleep then (s.setCore k { co with wake := true }).pkgWake
  else if cl.kstate ≠ 0 ∨ cl.entry.isSome then
    let s1 := s.setCore k { co with wake := true }
    if cl.entry.isSome || cl.exitAt.isSome then s1
    else s1.setCluster c { cl with exitAt := some (96 * (s.wakeEdge k + s.exitLength (cl.kstate + 1))) }
  else served (s.setCore k { co with exitAt := some (96 * (s.wakeEdge k + s.exitLength (co.cstate - 2))) })

/-- The last abort point of an entry to C1, C2 or C3 stands after this step (R455). -/
def lastAbort (t : Nat) : Nat := if t = 1 then 1 else if t = 2 then 3 else 4

/-- The abort point after step n of core k's entry to state t (R454): abandoned on a wake event. -/
def State.entryPoint (s : State) (k t n : Nat) : State :=
  if s.wakeDue k && decide (n ≤ lastAbort t) then (s.setCore k { s.core k with entry := none, wake := false }).endWfi k
  else s.setCore k { s.core k with entry := some (t, n) }

/-- Core k is in state t (R454): a wake event sampled after the last abort point starts the exit at once. -/
def State.entered (s : State) (k t : Nat) : State :=
  let s1 := (s.tickCore k).setCore k { s.core k with cstate := t, entry := none, wakeList := [], wake := false }
  if s.wakeDue k then s1.startExit k else s1

/-- Dirty lines of a core's L1D. -/
def State.dirtyLines (s : State) (k : Nat) : Nat := ((s.core k).l1d.filter (fun e => e.2.dirty)).length

/-- CORE_ENTRY: the next step of core k's entry, and its abort point (R455). -/
def State.coreEntry (s : State) (k : Nat) : State :=
  let hs := s.coreHarts k
  match (s.core k).entry with
  | none =>
    if s.maySleep k then
      let req := s.fld (corePg k) R.PG_POWER_REQ
      let s1 := hs.foldl (fun s h => s.epochWait h) s
      if s1.flag (corePg k) R.CORE_RUN_FENCED then s1
      else s1.entryPoint k (if req = 2 then 2 else if req = 3 then 3 else 1) 1
    else s
  | some (1, _) => (s.toMclk (s.now + s.ccyc k 1)).entered k 1
  | some (t, 1) =>
    if hs.all (fun h => (s.hart h).misses.isEmpty && (s.hart h).cbos == 0 && (s.hart h).io.isNone) then s.entryPoint k t 2 else s
  | some (2, 2) => ((s.toMclk (s.now + s.dirtyLines k)).drainL1 k true).entryPoint k 2 3
  | some (2, _) => (s.toMclk (96 * (ceilDiv s.now 96 + 4))).entered k 2
  | some (t, 2) => ((hs.foldl (fun s h => s.writeNegative h (s.hart h).negCopy) s).toMclk (s.now + 48)).entryPoint k t 3
  | some (t, 3) => ((s.toMclk (s.now + s.dirtyLines k)).drainL1 k false).entryPoint k t 4
  | some (t, _) => (s.toMclk (96 * (ceilDiv s.now 96 + 4))).entered k t

/-- WAKE_EVENT (R452, R454): sampled in an entry, it ends WFI in C0, and starts the exit of a sleeping core. -/
def State.wakeEvent (s : State) (k : Nat) : State :=
  let co := s.core k
  if co.entry.isSome then s.setCore k { co with wake := true }
  else if co.cstate = 0 then s.endWfi k
  else s.startExit k

-- operating points (R463, R464, R470, R471)

/-- The combined thermal and PROCHOT cap of core k (R464, R470, R471). -/
def State.capOf (s : State) (k : Nat) : Nat :=
  let cap (d : Nat) : Nat := s.fld thermPg (R.THM_CAP_CAP d)
  let t := min (cap (dieOf (tileStop (k / 4)))) (min (cap 4) (cap 5))
  if s.power.prochot then min t (s.fld thermPg R.THM_CTL_PROCHOT_FREQ) else t

/-- The effective point of core k (R464). -/
def State.effPoint (s : State) (k : Nat) : Nat := min (s.fld pwrPg (R.PWR_FREQ_REQ.nth k)) (s.capOf k)

/-- Body bias of a point (R463): forward above 26, else zero. -/
def bodyBias (n : Nat) : Nat := if 26 < n then 1 else 0
/-- SRAM assists of a point at a voltage in mV (R463). -/
def sramAssist (n mv : Nat) : Bool := decide (n ≤ 26) && decide (mv ≤ 650)

/-- DVFS_TRANSITION (R464): 150 aclk; lowering switches the clock at its start, raising at aclk 140. -/
def State.dvfs (s : State) (k : Nat) : State :=
  let co := s.core k
  let n := s.effPoint k
  let cur := s.fld pwrPg (R.PWR_FREQ_CUR.nth k)
  if co.dvfsEnd.isSome ∨ n = cur ∨ 2 ≤ co.cstate ∨ s.power.stretchFrom.isSome ∨ s.flag (corePg k) R.PG_STATUS_RETIRED then s
  else
    let t := ceilDiv s.now 96
    let s1 := (s.toAclk t).tickCore k
    if n < cur then (s1.setFld pwrPg (R.PWR_FREQ_CUR.nth k) n).setCore k { co with dvfsEnd := some (t + 150), dvfsTo := none }
    else s1.setCore k { co with dvfsEnd := some (t + 150), dvfsTo := some n }

/-- DVFS_TRANSITION_END (R464). -/
def State.dvfsDone (s : State) (k : Nat) : State :=
  match (s.core k).dvfsEnd with
  | none => s
  | some t =>
    -- a raise switches the clock 10 aclk before its end
    let s0 := match s.coreHart k with
      | some h =>
        let cur := s.fld pwrPg (R.PWR_FREQ_CUR.nth k)
        let e := s.toAclk t
        (e.tickAt h cur (96 * (t - 10))).tickAt h ((s.core k).dvfsTo.getD cur) e.now
      | none => s.toAclk t
    let s1 := s0.setCore k { s.core k with dvfsEnd := none, dvfsTo := none }
    match (s.core k).dvfsTo with
    | some n => s1.setFld pwrPg (R.PWR_FREQ_CUR.nth k) n
    | none => s1

-- exits (R450, R453, R455, R461)

/-- Core k is in C0 again: a transition that fell due in its sleep is applied (R464). -/
def State.coreAwake (s : State) (k : Nat) : State :=
  let s1 := (s.setCore k { s.core k with cstate := 0, exitAt := none, wake := false, wakeList := [] }).runCore k
  s1.endWfi k

/-- C1_EXIT. -/
def State.c1Exit (s : State) (k : Nat) : State :=
  let co := s.core k
  match co.exitAt with
  | some t => if co.cstate = 1 then (s.toMclk t).coreAwake k else s
  | none => s

/-- C2_EXIT: the wake list is applied to the L1s, or they are invalidated whole where it overflowed (R453). -/
def State.c2Exit (s : State) (k : Nat) : State :=
  let co := s.core k
  match co.exitAt with
  | some t =>
    if co.cstate = 2 then
      let s1 := (s.toMclk t).setFld pwrPg (R.PWR_FREQ_CUR.nth k) (s.effPoint k)
      let l := co.wakeList
      let co1 := if 256 < l.length then { co with l1d := [], l1i := [] }
        else { co with l1d := co.l1d.filter (fun e => !l.contains e.1), l1i := co.l1i.filter (fun x => !l.contains x) }
      (s1.setCore k co1).coreAwake k
    else s
  | none => s

/-- C3_EXIT: each hart is restored from the Negative written on entry, with empty TLBs and predictor (R455, R494). -/
def State.c3Exit (s : State) (k : Nat) : State :=
  let co := s.core k
  match co.exitAt with
  | some t =>
    if co.cstate = 3 then
      let s1 := (s.toMclk t).setFld pwrPg (R.PWR_FREQ_CUR.nth k) (s.effPoint k)
      let s2 := (s.coreHarts k).foldl (fun s h =>
        let v := s.hart h
        let n := s.negative h v.negCopy
        s.setHart h { v with a := n.a, cmp := n.cmp, predictor := [], predEpoch := 0, resv := none }) s1
      s2.coreAwake k
    else s
  | none => s

-- clusters (R456, R457)

/-- Whether a core allows its cluster K1 (R456), and K2. -/
def State.coreK1 (s : State) (k : Nat) : Bool :=
  decide (2 ≤ (s.core k).cstate) || s.flag (corePg k) R.CORE_RUN_FENCED || s.flag (corePg k) R.PG_STATUS_RETIRED ||
    (s.flag (corePg k) R.PG_RESET_HOLDRST && (s.coreHarts k).isEmpty)
def State.coreK2 (s : State) (k : Nat) : Bool :=
  (s.core k).cstate == 3 || s.flag (corePg k) R.CORE_RUN_FENCED || s.flag (corePg k) R.PG_STATUS_RETIRED

def tileCores (c : Nat) : List Nat := (List.range 4).map (fun i => 4 * c + i)

/-- Whether a core of the cluster waits to wake. -/
def State.clusterWake (s : State) (c : Nat) : Bool := (tileCores c).any (fun k => (s.core k).exitAt.isSome || (s.core k).wake || s.wakeDue k)

/-- The deepest state the cluster's REQ and its cores allow (R456). -/
def State.clusterTarget (s : State) (c : Nat) : Nat :=
  let req := s.fld (clusterPg c) R.PG_POWER_REQ
  if req = 2 ∧ (tileCores c).all s.coreK2 then 2 else if 1 ≤ req ∧ (tileCores c).all s.coreK1 then 1 else 0

/-- Every M and O line of the L2 is written back to its home: M to E, O to S (R457). -/
def State.cleanL2 (s : State) (c : Nat) : State :=
  (s.cluster c).l2.foldl (fun s e =>
    match e.2.st with
    | .m => (s.sendWrline c e.1 e.2).setCluster c { s.cluster c with l2 := Tab.ins e.1 { e.2 with st := .e } (s.cluster c).l2 }
    | .o => (s.sendWrline c e.1 e.2).setCluster c { s.cluster c with l2 := Tab.ins e.1 { e.2 with st := .s } (s.cluster c).l2 }
    | _ => s) s

/-- Whether a writeback of cluster c is not yet answered. -/
def State.clusterWrites (s : State) (c : Nat) : Bool :=
  let mine (f : Flit) : Bool := f.plane == .req && f.op == OP_WRLINE && f.src.val == tileStop c && f.sport == 1
  s.mesh.copies.any mine || s.out.any (fun m => mine m.flit)

/-- CLUSTER_ENTRY: the next step of cluster c's entry (R457). -/
def State.clusterEntry (s : State) (c : Nat) : State :=
  let cl := s.cluster c
  let t := s.clusterTarget c
  match cl.entry with
  | none =>
    if cl.kstate ≠ 0 ∨ cl.exitAt.isSome ∨ cl.domainReset.isSome ∨ t = 0 ∨ s.clusterWake c ∨ s.flag (clusterPg c) R.PG_STATUS_RETIRED then s
    else
      let s1 := if t = 1 then (s.cleanL2 c).toMclk (s.now + (cl.l2.filter (fun e => e.2.st == .m || e.2.st == .o)).length)
        else (s.flushL2 c).toMclk (s.now + 4096)
      s1.setCluster c { s1.cluster c with entry := some (t, 1) }
  | some (u, _) =>
    if s.clusterWake c then
      let s1 := s.setCluster c { cl with entry := none }
      (tileCores c).foldl (fun s k => if (s.core k).wake then s.startExit k else s) s1
    else if s.clusterWrites c then s
    else (s.toMclk (96 * (ceilDiv s.now 96 + 2))).setCluster c { cl with entry := none, kstate := u }

/-- K1_EXIT and K2_EXIT: the cluster is in K0, and its cores that wait begin their exits (R456, R461). -/
def State.clusterExit (s : State) (c st : Nat) : State :=
  let cl := s.cluster c
  match cl.exitAt with
  | some t =>
    if cl.kstate = st then
      let s1 := (s.toMclk t).setCluster c { cl with kstate := 0, exitAt := none }
      (tileCores c).foldl (fun s k => if (s.core k).wake then s.startExit k else s) s1
    else s
  | none => s

-- package sleep (R458-R461)

/-- What R458 asks of the part. -/
def State.pkgIdle (s : State) : Bool :=
  (List.range 96).all (fun c => (s.cluster c).kstate == 2 || s.flag (clusterPg c) R.PG_STATUS_RETIRED) &&
  (List.range 96).all (fun c => (s.engine c).st == .idle && (s.queue c).deque.isEmpty) &&
  (List.range 96).all (fun c => (List.range 16).all (fun ch =>
    let st := s.fld (chanPg c ch) R.DMA_CH_STATUS_STATE
    st != 1 && st != 2)) &&
  (List.range 16).all (fun m => !s.flag (mcPg m 0) R.PG_STATUS_FROZEN && !s.flag (mcPg m 0) R.MC_MIRROR_RESYNC &&
    (s.flag (mcPg m 0) R.PG_STATUS_READY || s.flag (mcPg m 0) R.PG_STATUS_RETIRED)) &&
  s.mesh.next.isNone && s.mesh.paused.isNone

/-- PWR_PKG.RESULT changes and source 1,735 is raised (R474). -/
def State.pkgResult (s : State) (r : Nat) : State :=
  if s.fld pwrPg R.PWR_PKG_RESULT = r then s else (s.setFld pwrPg R.PWR_PKG_RESULT r).pulse 1735

/-- A controller enters self-refresh at the start of its next maintenance window (R231, R459). -/
def State.enterSr (s : State) (m : Nat) : State :=
  let v := s.mc m
  match v.frame0 with
  | none => s
  | some f =>
    if v.selfRefresh then s
    else
      let d := s.nextMaint m f (s.dclk m)
      ((s.toDclk m d).guardClose m d).enterSrAt m d

/-- The abort point after step n of the package's entry (R454, R459). -/
def State.pkgPoint (s : State) (n : Nat) : State :=
  if s.power.fired then
    let s1 := (List.range 16).foldl (fun s m => if n = 3 then s.exitSr m (s.dclk m) else s) s
    { s1 with mesh := { s1.mesh with sleep := none }, power := { s1.power with pkgStep := 0, fired := false } }.pkgResult 2
  else { (s.setFld pwrPg R.PWR_PKG_STEP n) with power := { s.power with pkgStep := n } }

/-- PACKAGE_SLEEP_ENTRY: the next step (R459); `consent` is the Ward's answer in step 1. -/
def State.pkgEntry (s : State) (consent : Bool) : State :=
  if s.asleep then s
  else match s.power.pkgStep with
  | 0 =>
    if s.flag pwrPg R.PWR_PKG_ARM && s.power.pkgTry && s.pkgIdle then
      if consent then s.pkgPoint 1 else { s with power := { s.power with pkgTry := false } }.pkgResult 1
    else s
  | 1 =>
    match s.mesh.sleep with
    | none => { s with mesh := { s.mesh with sleep := some (s.mesh.periodStart s.now) } }
    | some t => if s.mesh.quiet then (s.toMclk (t + 48)).pkgPoint 2 else s
  | 2 => ((List.range 16).foldl (fun s m => s.enterSr m) s).pkgPoint 3
  | _ =>
    let s1 := s.toMclk (96 * (ceilDiv s.now 96 + 4))
    let s2 := { ((s1.setFld pwrPg R.PWR_PKG_STEP 4).setFld pwrPg R.PWR_PKG_ASLEEP 1) with power := { s1.power with pkgStep := 4, fired := false } }
    let s3 := s2.pkgResult 3
    if s.power.fired then s3.pkgWake else s3

/-- LOST and WLOST of a page are set (R44). -/
def State.lose (s : State) (pg : Nat) : State := (s.setFld pg R.PG_STATUS_LOST 1).setFld pg R.PG_STATUS_WLOST 1

/-- PACKAGE_SLEEP_EXIT (R461): the mesh restarts in slot 0, every channel leaves self-refresh, MS_RETRY.COUNT and MS_CORR have returned
to their defaults (R494), and the cores that wait begin their exits. -/
def State.pkgWakes (s : State) : State :=
  match s.power.pkgExit with
  | some t =>
    if s.asleep then
      let s1 := s.toAclk t
      let s2 := { (s1.setFld pwrPg R.PWR_PKG_ASLEEP 0) with
        mesh := { s1.mesh with start := some (96 * t), reel0 := 96 * t, sleep := none },
        power := { s1.power with pkgStep := 0, fired := false, pkgExit := none } }
      let s3 := (List.range 16).foldl (fun s m => s.exitSr m (s.dclk m)) s2
      let s4 := (List.range 120).foldl (fun s n =>
        ((s.setFld (meshPg n) R.MS_RETRY_COUNT 0).setFld (meshPg n) R.MS_CORR_COUNT 0).lose (meshPg n)) s3
      (List.range 384).foldl (fun s k => if (s.core k).wake then s.startExit k else s) s4
    else s
  | none => s

-- supplies (R465-R467)

/-- Word 2 of a record of family 0x9 (R475). -/
def aonDetail (source sensor level dur : Nat) : Nat := source <<< 60 + sensor <<< 48 + (level % 65536) <<< 32 + dur % 2 ^ 32

/-- VIN_CORE_WARNING (R466): the stretch begins. -/
def State.vinWarning (s : State) : State :=
  let s1 := (((s.setFld aonPg R.AON_SUPPLY_VIN_WARN 1).setFld aonPg R.AON_SUPPLY_STRETCH 1).bump aonPg R.AON_SUPPLY_VINDIPS 1).pulse 1728
  { s1 with power := { s1.power with stretchFrom := some (s.power.stretchFrom.getD s.now) } }

/-- STRETCH_END (R467): 25 aclk at or above 1.64 V have passed; `mv` is the lowest voltage. -/
def State.stretchEnd (s : State) (mv : Nat) : State :=
  match s.power.stretchFrom with
  | none => s
  | some t =>
    let s0 := s.toMclk (96 * (ceilDiv t 96 + 25))
    -- the current cycle ends on the next grid edge (48 quarters of an mclk) at least 1.25 periods after it began
    let edge := 48 * ceilDiv (s0.gridAt s0.now + 5) 48
    let s1 := { s0 with power := { s0.power with lag := edge - 4 * (s0.now + 1) } }
    let s2 := ((s1.setFld aonPg R.AON_SUPPLY_VIN_WARN 0).setFld aonPg R.AON_SUPPLY_STRETCH 0).pulse 1729
    ({ s2 with power := { s2.power with stretchFrom := none } }).record aonPg 0 0x9001 0 (aonDetail 1 0 mv (s1.tb - t / 96)) false

/-- VDD_AON_WARNING (R467). -/
def State.aonWarning (s : State) : State :=
  let s1 := ((s.setFld aonPg R.AON_SUPPLY_AON_WARN 1).bump aonPg R.AON_SUPPLY_AONDIPS 1).pulse 1730
  { s1 with power := { s1.power with aonFrom := some (s.power.aonFrom.getD s.now) } }

/-- VDD_AON_RECOVERY (R467). -/
def State.aonRecovery (s : State) (mv : Nat) : State :=
  match s.power.aonFrom with
  | none => s
  | some t =>
    let s1 := s.setFld aonPg R.AON_SUPPLY_AON_WARN 0
    ({ s1 with power := { s1.power with aonFrom := none } }).record aonPg 0 0x9002 0 (aonDetail 2 0 mv (s.tb - t / 96)) false

-- temperature (R468-R472)

/-- Reading of sensor n, in 0.125 degree units, signed (R468). -/
def State.temp (s : State) (n : Nat) : Int := signedN 16 (s.fld thermPg (R.THM_SENSE_TEMP.nth n))
/-- Sensors of die d (R468). -/
def dieSensors (d : Nat) : List Nat := (List.range 120).filter (fun n => dieOf n == d)
/-- The hottest sensor of a list. -/
def State.hottest (s : State) (l : List Nat) : Nat := l.foldl (fun b n => if s.temp b < s.temp n then n else b) (l.headD 0)

/-- THM_STATUS.HOTDIE and PROCHOT_OUT as the caps give them (R469, R480). -/
def State.capStatus (s : State) : State :=
  let hot := (List.range 6).foldl (fun m d => if s.fld thermPg (R.THM_CAP_CAP d) < 36 then m + 2 ^ d else m) 0
  (s.setFld thermPg R.THM_STATUS_HOTDIE hot).setFld thermPg R.THM_STATUS_PROCHOT_OUT (b01 (hot != 0))

/-- THERMAL_CAP_REVIEW (R469, R470), every 2,500 aclk. -/
def State.capReview (s : State) : State :=
  let s0 := s.toAclk (2500 * (s.tb / 2500 + 1))
  let th : Int := 8 * (s0.fld thermPg R.THM_CTL_THROTTLE : Int)
  let die (s : State) (d : Nat) : State :=
    let cap := s.fld thermPg (R.THM_CAP_CAP d)
    let l := dieSensors d
    let put (s : State) (v : Nat) : State :=
      { (s.setFld thermPg (R.THM_CAP_CAP d) v) with power := { s.power with capAt := Tab.ins d s.tb s.power.capAt } }
    let h := s.hottest l
    if l.any (fun n => decide (th ≤ s.temp n)) then
      if 8 < cap then
        let s1 := put s (cap - 1)
        if cap = 36 then (s1.record thermPg 0 0x9010 0 (aonDetail 3 h (s.fld thermPg (R.THM_SENSE_TEMP.nth h)) 0) false).pulse 1731 else s1
      else s
    else if l.all (fun n => decide (s.temp n ≤ th - 24)) && decide (cap < 36) &&
        decide ((Tab.get 0 s.power.capAt d) + 25000 ≤ s.tb) then
      let s1 := put s (cap + 1)
      if cap = 35 then s1.pulse 1732 else s1
    else s
  ((List.range 6).foldl die s0).capStatus

/-- The trip (R472): TRIPPED and TRIPSENSOR, and everything but aclk and the sensor clock stops; nothing outside the always-on domain
keeps its state. THERMTRIP_N is low while `off` holds. -/
def State.trip (s : State) (sensor : Nat) : State :=
  let s1 := (s.setFld thermPg R.THM_STATUS_TRIPPED 1).setFld thermPg R.THM_STATUS_TRIPSENSOR sensor
  let keep (e : Nat × Word) : Bool := [aonPg, pwrPg, thermPg, rasPg 0, rasPg 1].any (fun pg => decide (pg ≤ 8 * e.1) && decide (8 * e.1 < pg + 0x1000))
  { now := s1.now, regs := s1.regs.filter keep, reports := s1.reports, log := s1.log, reported := s1.reported,
    ward := { otp := s1.ward.otp, grantNext := s1.ward.grantNext }, power := { s1.power with off := true }, boot := { socket := s1.boot.socket, testMode := s1.boot.testMode },
    tap := s1.tap, free := s1.free, pending := s1.pending }

/-- THERMAL_SAMPLE (R468, R472, R474), every 25 aclk. -/
def State.thermalSample (s : State) (readings : List Word) : State :=
  let s0 := s.toAclk (25 * (s.tb / 25 + 1))
  let s1 := (List.range 120).foldl (fun s n => s.setReg (thermPg + 0x200 + 8 * n) (2 ^ 63 + (readings.getD n 0).toNat % 65536)) s0
  let s2 := s1.setFld thermPg R.THM_STATUS_MAXT (s1.fld thermPg (R.THM_SENSE_TEMP.nth (s1.hottest (List.range 120))))
  let reach (t : Int) : List Nat := (List.range 120).filter (fun n => decide (t ≤ s2.temp n))
  let alert := reach (8 * (s2.fld thermPg R.THM_CTL_ALERT : Int))
  let hot := reach 920
  let s3 := if alert.any (fun n => !s.power.alerted.contains n) then s2.pulse 1734 else s2
  let s4 := { s3 with power := { s3.power with alerted := alert, hot := hot } }
  match hot.find? (fun n => s.power.hot.contains n) with
  | some n => if s.power.off then s4 else s4.trip n
  | none => s4

/-- PROCHOT_ASSERT (R471): the board drives PROCHOT_N low; and its release. -/
def State.prochotIn (s : State) : State :=
  if s.power.prochot then s
  else
    let s1 := (s.setFld thermPg R.THM_STATUS_PROCHOT_IN 1).record thermPg 0 0x9012 0 (aonDetail 4 0 (s.fld thermPg R.THM_STATUS_MAXT) 0) false
    { (s1.pulse 1733) with power := { s1.power with prochot := true } }
def State.prochotOut (s : State) : State :=
  { (s.setFld thermPg R.THM_STATUS_PROCHOT_IN 0) with power := { s.power with prochot := false } }

end Sys2Proof.Machine
end

