-- ==== Sys2Proof/Machine/ResetOps.lean ====
section
/-! DEFINITION. Resets (16 R481-R484), what each register keeps in them (R493-R495), and bring-up (R485-R492). -/

namespace Sys2Proof.Machine

-- retention (R493-R495)

/-- All bits of a register. -/
def ALL : Nat := 2 ^ 64 - 1

/-- The RWB bits of a register, kept at every reset but cold (R494). -/
def RegRow.rwbMask (r : RegRow) : Nat := r.fields.foldl (fun m f => if f.acc = .rwb then putBits m f.hi f.lo ALL else m) 0

/-- Bits of a register that a warm reset keeps, RWB fields apart (R494). PG_STATUS keeps RETIRED, DEGRADED and the notices. -/
def warmKeeps (k : PageKind) (off : Nat) : Nat :=
  if off < 0x100 then
    if off = 0x008 then 0x132 else if off = 0x028 ∨ off = 0x030 then 0 else ALL
  else if 0xE00 ≤ off ∧ counterCount k ≠ 0 then 0
  else match k with
    | .core => if off = 0x100 then ALL else 0
    | .slice => if off = 0x100 then 2 else if off < 0x200 then ALL else 0
    | .meshstop => if off < 0x400 ∨ 0x420 ≤ off then ALL else if off = 0x410 then 0xFF <<< 56 else 0
    | .mc2 => if off = 0x100 then ALL - 2 else ALL
    | .mc0 => if off = 0x130 then 0xFFFF else if off = 0x138 then 2 ^ 63 + 0xFF <<< 48
        else if off = 0x100 ∨ off = 0x128 ∨ off = 0x158 ∨ off = 0x160 then 0 else ALL
    | .phy => if off = 0x100 then 0 else ALL
    | .pwr => if 0x108 ≤ off ∧ off ≤ 0x128 then ALL else 0
    | .therm => if off = 0x110 then 0 else if off = 0x108 then ALL - 0x3F <<< 54 - 2 ^ 61 else ALL
    | .directory | .mc1 | .aon | .tct0 | .tct | .sched | .bolt0 | .bolt1 | .boltSrc | .boltCarve | .bolt7 | .ras0 | .ras1 | .rasHdr
    | .safelight => ALL
    | .hinge | .cluster | .neg | .dwemon | .taskq | .dma | .dmach | .mc3 | .fp0 | .fpl | .irt0 | .irtDom | .irtPend | .irtOvr | .irtSets
    | .irtSrc | .irtHdr | .mbx | .bolt6 | .target => 0

/-- Bits that a domain reset keeps (R484, R494): as a warm reset, and HOLDRST (R49), CORE_RUN.HART0 and FENCED (R430, R484). -/
def domainKeeps (k : PageKind) (off : Nat) : Nat :=
  if off = 0x030 then 0x100
  else match k with
    | .core => if off = 0x108 then 2 ^ 62 + 0xFFFF else warmKeeps k off
    | _ => warmKeeps k off

/-- Whether a page holds a row the matrix marks DEFAULT at a warm reset (R494, R495). -/
def warmLoses : PageKind → Bool
  | .directory | .mc1 | .phy | .aon | .tct0 | .tct | .sched | .bolt0 | .bolt1 | .boltSrc | .boltCarve | .bolt7 | .ras0 | .ras1 | .rasHdr
  | .safelight | .irtHdr => false
  | .hinge | .cluster | .neg | .core | .slice | .dwemon | .taskq | .dma | .dmach | .meshstop | .mc0 | .mc2 | .mc3 | .fp0 | .fpl | .pwr
  | .therm | .irt0 | .irtDom | .irtPend | .irtOvr | .irtSets | .irtSrc | .mbx | .bolt6 | .target => true

/-- A register after a reset that keeps the bits `keep p off` and the RWB fields: its address / 8 and value, none at the default. -/
def afterReset (keep : PageKind → Nat → Nat) (e : Nat × Word) : Option (Nat × Word) :=
  let a := 8 * e.1
  match pageAt a with
  | none => some e
  | some p =>
    let off := a - p.base
    let rwb := match rowAt p.kind off with
      | some r => r.rwbMask
      | none => 0
    let m := keep p.kind off ||| rwb
    let d := resetWord a
    let v : Word := (e.2 &&& w64 m) ||| (d &&& ~~~(w64 m))
    if v = d then none else some (e.1, v)

/-- The registers of a page after a domain reset of its block (R494); LOST and WLOST where a row of it returned to its default. -/
def State.resetPage (s : State) (pg : Nat) : State :=
  let on (e : Nat × Word) : Bool := decide (pg ≤ 8 * e.1) && decide (8 * e.1 < pg + 0x1000)
  let s1 : State := { s with regs := s.regs.filterMap (fun e => if on e then afterReset domainKeeps e else some e) }
  match pageAt pg with
  | some p => if warmLoses p.kind then s1.lose pg else s1
  | none => s1

/-- Every page of the part, rising by address (R35-R38). -/
def allPages : List Page :=
  ((List.range 120).flatMap (fun n => (List.range 256).filterMap (fun b => pageAt (pageBase n b)))) ++
    (List.range 6241).filterMap (fun i => pageAt (targetBase i))

-- cold and warm reset (R481-R483)

/-- COLD_RESET (R472, R481, R496), caused by 0 PWRGOOD, 1 VIN_CORE, 2 VDD_AON: everything but the fuse array is as after first power-up;
the trip's fields stay unless VDD_AON fell below its reset level. -/
def State.coldReset (s : State) (cause : Nat) : State :=
  let s0 : State := { ward := { otp := s.ward.otp }, free := s.free, pending := s.pending }
  let s1 := s0.setReg (aonPg + 0x110) (2 ^ (7 - min cause 2))
  if 2 ≤ cause then s1
  else
    let k (s1 : State) (f : Field) : State := s1.setFld thermPg f (s.fld thermPg f)
    k (k (k s1 R.THM_STATUS_TRIPPED) R.THM_STATUS_TRIPSENSOR) R.THM_STATUS_TRIPLOGGED

/-- A write waiting at controller m is performed if its channel takes it. -/
def State.mcPerform (s : State) (m : Nat) (f : Flit) : State :=
  if s.mcServesAddr m f.addr.toNat && (s.secureClass f.cls.val || !s.carved m f.addr.toNat) then s.storeWrite m f else s

/-- Writes that wait in controller m: journaled without WR (all of them where it is frozen, R242) and in ingress. -/
def State.mcWrites (s : State) (m : Nat) : List Flit :=
  let v := s.mc m
  let frozen := s.flag (mcPg m 0) R.PG_STATUS_FROZEN
  ((v.journal.filter (fun e => frozen || e.issued.isNone)).map (·.f)) ++
    (Tab.get [] s.mesh.ingress (8 * mcStop m + 1)).filter (fun f => f.op == OP_WRLINE && f.plane == .req)

/-- Step 3 of a warm reset at controller m (R483): every write is performed, held reads complete with poison. -/
def State.mcDrain (s : State) (m : Nat) : State :=
  if s.flag (mcPg m 0) R.PG_STATUS_RETIRED then s
  else
    let s1 := (s.mcWrites m).foldl (fun s f => s.mcPerform m f) s
    (s.mc m).held.foldl (fun s r => s.poisonRead m 0x1011 r) s1

/-- What a controller holds after a reset that leaves its DIMM in self-refresh (R483, R484, R494). -/
def Mc.reset (v : Mc) : Mc := { modeRegs := v.modeRegs, shadow := v.shadow, selfRefresh := true }

/-- Step 4 of a warm reset (R483, R494). -/
def State.warmState (s : State) : State :=
  { now := s.now
    regs := s.regs.filterMap (afterReset warmKeeps)
    reports := s.reports, reported := s.reported, log := s.log
    mesh := { sched := s.mesh.sched }
    tct := s.tct, home := s.home, mem := s.mem, attrs := s.attrs
    cores := (s.cores.map (fun e => (e.1, ({ faults := e.2.faults } : CoreState)))).filter (fun e => decide (e.2 ≠ {}))
    slices := (s.slices.map (fun e => (e.1, ({ corr := e.2.corr } : Slice)))).filter (fun e => decide (e.2 ≠ {}))
    mcs := (List.range 16).map (fun m => (m, (s.mc m).reset))
    ward := { otp := s.ward.otp, grantNext := s.ward.grantNext, keys := s.ward.keys }
    engines := ((s.engines.filter (fun e => e.1 != 96)).map (fun e => (e.1, ({ imem := e.2.imem, faults := e.2.faults } : Engine)))).filter
      (fun e => decide (e.2 ≠ {})) ++ wardProcessor
    queues := (s.queues.map (fun e => (e.1, ({ retired := e.2.retired } : Queue)))).filter (fun e => decide (e.2 ≠ {}))
    power := { s.power with pkgStep := 0, pkgTry := false, fired := false, pkgExit := none }
    boot := { socket := s.boot.socket, testMode := s.boot.testMode, done := 1, since := s.tb, warm := true }
    sideband := { sentHealth := s.sideband.sentHealth, sentBefore := s.sideband.sentBefore, sentAt := s.sideband.sentAt }
    tap := s.tap, free := s.free, pending := s.pending }

/-- A warm reset (R483), from RESET_N or from PWR_RESET.WARM; after a trip the part stays shut down (R481). -/
def State.warmReset (s : State) (pin : Bool) : State :=
  if s.power.off then s
  else
    let s1 := (List.range 16).foldl (fun s m => s.mcDrain m) (s.toMclk (96 * ceilDiv s.now 96))
    let s2 := s1.warmState
    let s3 := (allPages.filter (fun p => warmLoses p.kind)).foldr (fun p s => s.lose p.base) s2
    let s4 := (s3.bump aonPg R.AON_RESETCAUSE_WARMS 1).setFld aonPg
      (if pin then R.AON_RESETCAUSE_WARM_PIN else R.AON_RESETCAUSE_WARM_SW) 1
    s4.setFld pwrPg R.PWR_BOOT_STAGE 1

-- starting harts (R490)

/-- Core k starts the hart of CORE_RUN.HART0 at CORE_RESETVEC, once clusters are released, its cluster and it are READY, and neither
is held (R49, R490). -/
def State.startCore (s : State) (k : Nat) : State :=
  let c := k / 4
  let h := s.fld (corePg k) R.CORE_RUN_HART0
  let may := s.flag pwrPg R.PWR_BOOT_RELEASED && s.flag (clusterPg c) R.PG_STATUS_READY && s.flag (corePg k) R.PG_STATUS_READY &&
    !s.flag (corePg k) R.PG_RESET_HOLDRST && !s.flag (clusterPg c) R.PG_RESET_HOLDRST && !s.flag (corePg k) R.PG_STATUS_RETIRED &&
    !s.flag (corePg k) R.CORE_RUN_FENCED && s.coreOf h == k && !(s.hart h).started && !(s.hart h).parked && !(s.hart h).lost
  if may then s.setHart h { a := { pc := w64 (4 * s.fld (corePg k) R.CORE_RESETVEC_ADDR) }, started := true, ran := s.now } else s

def State.startCluster (s : State) (c : Nat) : State := (tileCores c).foldl (fun s k => s.startCore k) s

-- domain resets (R49, R484)

/-- A reset of a block begins: READY clears and ACTIVE is set (R62, R484). -/
def State.beginReset (s : State) (pg : Nat) : State := (s.setFld pg R.PG_RESET_ACTIVE 1).setFld pg R.PG_STATUS_READY 0

/-- Core k's own part of a reset: its harts' uncommitted work is discarded, L1D is drained and the L1s flushed. -/
def State.stopCore (s : State) (k : Nat) : State :=
  let s1 := (s.coreHarts k).foldl (fun s h => (s.discardEpochs h 0).setHart h {}) s
  let s2 := s1.drainL1 k false
  s2.setCore k { faults := (s2.core k).faults, fencedAt := (s2.core k).fencedAt }

/-- Domain reset of core k (R484): a second hart is reprinted elsewhere first (R424). -/
def State.coreReset (s : State) (k : Nat) : State :=
  let o := s.fld (corePg k) R.CORE_RUN_HART1
  let s1 := if s.flag (corePg k) R.CORE_RUN_SHARED then
      let s' := ((s.discardEpochs o 0).setFld (corePg k) R.CORE_RUN_SHARED 0)
      (s'.setCore k { s'.core k with second := false }).reprint o (k / 4)
    else s
  let n := s1.dirtyLines k
  let s2 := ((s1.stopCore k).resetPage (corePg k)).beginReset (corePg k)
  (s2.setCore k { s2.core k with domainReset := some (s.now + n + 480000) }).retrySnoops (k / 4)

/-- A guest hart of a cluster that is reset moves (R428, R484). -/
def State.moveGuest (s : State) (h : Nat) : State :=
  let s1 := s.commitAll h 6 24
  let s2 := (s1.writeNegative h (s1.hart h).negCopy).parkHart h
  (s2.moveHart h).getD s2

/-- The Ward's domain reset of a fenced core ends its BIST, 200 µs long (R430): its page is at its defaults, with LOST and WLOST
(R44, R494), but for FENCED where the core is retired. -/
def State.fencedBist (s : State) (k : Nat) (pass : Bool) : State :=
  match (s.core k).fencedAt with
  | none => s
  | some t =>
    let s1 := ((s.toMclk (t + 480000)).resetPage (corePg k)).setCore k { s.core k with fencedAt := none }
    if pass && decide ((s.core k).faults < s.fld (rasPg 0) R.RAS_POLICY_CORE_RETIRE) then
      (s1.setFld (corePg k) R.CORE_RUN_FENCED 0).setFld (corePg k) R.PG_RESET_HOLDRST 1
    else s1.retireCore k

/-- Domain reset of cluster c (R484): guests move, the L2 is written back, and each core is to start its own hart again. -/
def State.clusterReset (s : State) (c : Nat) : State :=
  let guests := (s.hartsIn c).filter (fun h => h / 4 != c)
  let s1 := guests.foldl (fun s h => s.moveGuest h) s
  let s2 := (tileCores c).foldl (fun s k => s.stopCore k) s1
  let s3 := (s2.retrySnoops c).flushL2 c
  let s4 := (tileCores c).foldl (fun s k =>
    let s' := ((s.resetPage (corePg k)).setFld (corePg k) R.PG_STATUS_READY 0).setFld (corePg k) R.CORE_RUN_HART0 k
    if s.coreOf k / 4 = c then { s' with hartCore := Tab.set k s'.hartCore k k } else s') s3
  let s5 := (s4.resetPage (clusterPg c)).beginReset (clusterPg c)
  s5.setCluster c { neg := (s5.cluster c).neg, domainReset := some (s.now + 4096 + 4800000) }

/-- Domain reset of engine e (R309, R337, R338, R484). -/
def State.engineReset (s : State) (e : Nat) : State :=
  let s1 := s.failTask e
  let g := s1.engine e
  let s2 := (s1.resetPage (enginePg e)).beginReset (enginePg e)
  s2.setEngine e { imem := g.imem, faults := g.faults, st := .scrub, scrubEnd := some (s.now + 2112) }

/-- Domain reset of controller m (R484): refused while frozen; writes are performed, reads complete with poison. -/
def State.mcReset (s : State) (m : Nat) : Wr :=
  if s.flag (mcPg m 0) R.PG_STATUS_FROZEN then .no FAULT_ACCESS s
  else
    let v := s.mc m
    let s1 := (s.mcWrites m).foldl (fun s f => s.mcPerform m f) s
    let waiting := (Tab.get [] s.mesh.ingress (8 * mcStop m + 1)).filter (fun f => f.op == OP_WRLINE && f.plane == .req)
    let s2 := waiting.foldl (fun s f => (s.taken f).mcAnswer m (s.dclk m + 4) (replyTo f .rsp OP_ACK)) s1
    let asked := (Tab.get [] s2.mesh.ingress (8 * mcStop m + 1)).filter (fun f => f.plane == .req)
    let s3 := (v.reads ++ v.flight.map (·.r) ++ asked.map (fun f : Flit => (⟨f, 0, false, false⟩ : McRead))).foldl (fun (s : State) (r : McRead) => (s.taken r.f).poisonRead m 0x1011 r) s2
    let s4 := s3.setMc m v.reset
    let s5 := [mcPg m 0, mcPg m 1, mcPg m 2, mcPg m 3, phyPg m 0, phyPg m 1].foldl (fun s pg => s.resetPage pg) s4
    .ok ([mcPg m 1, mcPg m 3].foldl (fun s pg => s.setFld pg R.PG_STATUS_READY 0) (s5.beginReset (mcPg m 0)))

/-- Domain reset of port p (R484): every link that is UP or HOLD departs, to arrive again. -/
def State.portReset (s : State) (p : Nat) : State :=
  let s1 := (List.range 4).foldl (fun s l => s.surprise p l 0x8020 true) s
  (s1.setFld (portPg p) R.PG_RESET_ACTIVE 1).setPort p { s1.port p with resetEnd := some (ceilDiv s.now 96 + 25000) }

/-- Domain reset of link l of port p (R49). -/
def State.linkReset (s : State) (p l : Nat) : State := (s.surprise p l 0x8020 true).setFld (linkPg p l) R.PG_RESET_ACTIVE 1

/-- PG_RESET.GO of a page (R49): blocks without a domain reset ignore it; a retired block has none. -/
def State.domainGo (s : State) (p : Page) : Wr :=
  if s.flag p.base R.PG_STATUS_RETIRED || s.flag p.base R.PG_RESET_ACTIVE then .ok s
  else match p.kind with
  | .core => .ok (s.coreReset p.inst)
  | .cluster => .ok (s.clusterReset p.inst)
  | .dwemon => .ok (s.engineReset p.inst)
  | .mc0 => s.mcReset p.inst
  | .fp0 => .ok (s.portReset p.inst)
  | .fpl => .ok (s.linkReset p.inst (p.page - 1))
  | _ => .ok s

/-- A block whose reset has ended (R484). -/
def State.endReset (s : State) (pg : Nat) : State := (s.setFld pg R.PG_RESET_ACTIVE 0).setFld pg R.PG_STATUS_READY 1

/-- Port p's registers return to their defaults once its links are down (R484); presence stays latched, for the arrivals. -/
def State.portDone (s : State) (p : Nat) : State :=
  match (s.port p).resetEnd with
  | none => s
  | some t =>
    if (List.range 4).any (fun l => (s.link p l).depart.isSome) then s
    else
      let s1 := s.toAclk t
      let s2 := (List.range 4).foldl (fun s l =>
        let present := s.fld (linkPg p l) R.FP_LNK_STATUS_PRESENT
        (s.resetPage (linkPg p l)).setFld (linkPg p l) R.FP_LNK_STATUS_PRESENT present) (s1.resetPage (portPg p))
      (s2.setFld (portPg p) R.PG_RESET_ACTIVE 0).setPort p { nextTag := (s2.port p).nextTag }

/-- The registers of link l of port p return to their defaults once it is down (R49, R494), with LOST and WLOST (R44); presence stays
latched, for the arrival. -/
def State.linkDone (s : State) (p l : Nat) : State :=
  let present := s.fld (linkPg p l) R.FP_LNK_STATUS_PRESENT
  ((s.resetPage (linkPg p l)).setFld (linkPg p l) R.FP_LNK_STATUS_PRESENT present).setFld (linkPg p l) R.PG_RESET_ACTIVE 0

/-- DOMAIN_RESET_DONE of the page of block b at stop n (R484). -/
def State.domainDone (s : State) (n b : Nat) : State :=
  match pageAt (pageBase n b) with
  | none => s
  | some p =>
    let i := p.inst
    if !s.flag p.base R.PG_RESET_ACTIVE then s
    else match p.kind with
    | .core => match (s.core i).domainReset with
      | some t => (((s.toMclk t).endReset p.base).setCore i { s.core i with domainReset := none }).startCore i
      | none => s
    | .cluster => match (s.cluster i).domainReset with
      | some t =>
        let s1 := ((s.toMclk t).endReset p.base).setCluster i { s.cluster i with domainReset := none }
        let s2 := (tileCores i).foldl (fun s k => if s.flag (corePg k) R.PG_STATUS_RETIRED then s else s.setFld (corePg k) R.PG_STATUS_READY 1) s1
        s2.startCluster i
      | none => s
    | .dwemon => match (s.engine i).scrubEnd with
      | some t => ((s.toMclk t).setEngine i { s.engine i with st := .idle, scrubEnd := none }).setFld p.base R.PG_RESET_ACTIVE 0
      | none => s
    | .fp0 => s.portDone i
    | .fpl => if (s.link i (p.page - 1)).depart.isSome then s else s.linkDone i (p.page - 1)
    | _ => s

-- bring-up (R485-R492)

/-- The boot has failed (R491): STAGE, ERROR_N[1] and DEV_HEALTH. -/
def State.bootFails (s : State) : State :=
  (s.setFld pwrPg R.PWR_BOOT_STAGE 15).raiseHealth 2 (s.fld (rasPg 0) R.RAS_LOG_SEQ_NEXT)

/-- Stage 0 ends (R485, R524): SOCKET_ID and TEST_MODE are sampled; TEST_MODE high stops the boot here. -/
def State.bootAon (s : State) (socket : Nat) (test : Bool) : State :=
  if s.boot.done ≠ 0 ∨ s.boot.testMode ∨ s.power.off then s
  else
    let s1 := s.toAclk 25000
    let s2 : State := { s1 with boot := { s1.boot with socket := socket, testMode := test, done := if test then 0 else 1 } }
    if test then s2 else s2.setFld pwrPg R.PWR_BOOT_STAGE 1

/-- Stage 1 ends (R472, R485): the Ward and the keyway run; a trip not yet logged is logged. -/
def State.bootRom (s : State) : State :=
  if s.boot.done ≠ 1 then s
  else
    let s1 := s.toAclk (s.boot.since + 125000)
    let s2 : State := { s1 with boot := { s1.boot with done := 2 }, ward := { s1.ward with running := true } }
    let s3 := s2.setFld pwrPg R.PWR_BOOT_STAGE 2
    let n := s3.fld thermPg R.THM_STATUS_TRIPSENSOR
    if s3.flag thermPg R.THM_STATUS_TRIPPED && !s3.flag thermPg R.THM_STATUS_TRIPLOGGED then
      (s3.record thermPg 3 0x9020 0 (aonDetail 3 n 920 0) false).setFld thermPg R.THM_STATUS_TRIPLOGGED 1
    else s3

/-- Stage 2 ends (R486, R491), about 40 ms later: an image is authentic, or the boot fails. -/
def State.bootAuth (s : State) (image : Option BootImage) : State :=
  if s.boot.done ≠ 2 ∨ s.fld pwrPg R.PWR_BOOT_STAGE = 15 then s
  else match image with
  | none => s.bootFails
  | some im =>
    let s1 := s.toAclk (s.boot.since + 1125000)
    let s2 : State := { s1 with boot := { s1.boot with done := 3, image := some im } }
    (s2.setFld pwrPg R.PWR_BOOT_STAGE 3).setFld pwrPg R.PWR_BOOT_IMAGE (if im.backup then 2 else 1)

/-- A register setting of the image (R487): one that would change a bolted field is not made. -/
def State.imageSetting (s : State) (a : Nat) (v : Nat) : State :=
  match pageAt a with
  | none => s
  | some p =>
    match rowAt p.kind (a - p.base) with
    | some r => if s.bolted && r.changesRwb (s.reg a) v then s else s.setReg a (r.written (s.reg a) v)
    | none => s

/-- The image's TCT entries and keys, once after a cold reset (R487, R494). -/
def State.imageTables (s : State) (im : BootImage) : State :=
  let s1 := im.tct.foldl (fun (s : State) e =>
    let t := e.1.val
    let v := match rowAt .tct 0x100 with
      | some r => r.written 0 e.2.toNat
      | none => 0
    let s' := s.setReg (tctReg t) v
    { s' with tct := { s'.tct with now := Tab.set (w64 (tctReset t)) s'.tct.now t (w64 v) } }) s
  im.keys.foldl (fun s e => s.loadKey e.1.val e.2) s1

/-- Controller m's START by the Ward (R488). -/
def State.wardStart (s : State) (m : Nat) : State :=
  match s.mcStart m 1 with
  | .ok t => t
  | .no _ t => t

/-- Stage 3 (R485, R487, R488): INVALL on every slice in 4,128 mclk, the image's settings, the mesh in slot 0; after a warm reset each
channel that is not retired is started again. -/
def State.bootMesh (s : State) : State :=
  match s.boot.image with
  | none => s
  | some im =>
    if s.boot.done ≠ 3 then s
    else
      let t := ceilDiv s.now 96
      let s0 : State := { (s.toAclk t) with
        mesh := { s.mesh with start := some (96 * t), reel0 := 96 * t }, boot := { s.boot with done := 4, meshAt := t } }
      let s1 := (List.range 96).foldl (fun s c => (s.setFld (slicePg c) R.SLC_CTL_INITED 1).setFld (slicePg c) R.SLC_CTL_EN 1) s0
      let s2 := (s1.toMclk (96 * t + 4128)).setFld pwrPg R.PWR_BOOT_STAGE 4
      let s3 := if s.boot.warm then s2 else s2.imageTables im
      let s4 := im.settings.foldl (fun s e => s.imageSetting e.1.toNat e.2.toNat) s3
      if s.boot.warm then
        (List.range 16).foldl (fun s m => if s.flag (mcPg m 0) R.PG_STATUS_RETIRED then s else s.wardStart m) s4
      else s4

/-- CHANNEL_TRAINING_DONE (R488): zeroing begins; the second failure retires the channel. -/
def State.trainingDone (s : State) (m : Nat) (pass : Bool) : State :=
  let v := s.mc m
  let pg := mcPg m 0
  if s.boot.done ≠ 4 ∨ s.boot.warm ∨ v.zeroAt.isSome ∨ s.flag (mcPg m 2) R.MC_CTL_STARTED ∨ s.flag pg R.PG_STATUS_RETIRED then s
  else if pass then s.setMc m { v with zeroAt := some s.now }
  else
    let s1 := s.setMc m { v with trainFails := v.trainFails + 1 }
    if 2 ≤ v.trainFails + 1 then ((s1.setFld pg R.PG_STATUS_RETIRED 1).record pg 2 0x2003 0 0 false).markRetired R.RAS_MC_RET m
    else s1

/-- Whether channel m holds copy cp of line l (R223). -/
def State.lineInMc (s : State) (m l cp : Nat) : Bool :=
  match s.channelOf (64 * l) with
  | some (n, _, _) => n == (if s.mirrored then m / 2 * 2 else m) && cp == s.mcCopy m
  | none => false

/-- CHANNEL_ZEROING_DONE (R488): capacity / (4 bytes x data rate) later every line reads zero, and the Ward writes START. -/
def State.zeroingDone (s : State) (m : Nat) : State :=
  match (s.mc m).zeroAt with
  | none => s
  | some t =>
    let s1 := s.toMclk (t + ceilDiv (12 * s.channelBytes m) (16 * s.dclkRate m))
    let s2 : State := { s1 with
      mem := s1.mem.filter (fun e => !s.lineInMc m (e.1 % 2 ^ 52 / 64) (e.1 / 2 ^ 52))
      attrs := s1.attrs.filter (fun e => !s.lineInMc m (e.1 / 2) (e.1 % 2)) }
    (s2.setMc m { s2.mc m with zeroAt := none }).wardStart m

/-- CLUSTER_BIST_DONE (R489, R490): 12 clusters at a time, 2 ms each. -/
def State.bistDone (s : State) (c : Nat) (pass : Bool) : State :=
  if s.boot.done ≠ 4 ∨ s.flag (clusterPg c) R.PG_STATUS_READY ∨ s.flag (clusterPg c) R.PG_STATUS_RETIRED ∨ s.flag (clusterPg c) R.PG_RESET_ACTIVE then s
  else
    let s1 := s.toAclk (s.boot.meshAt + 50000 * (c / 12 + 1))
    if pass then
      let s2 := s1.setFld (clusterPg c) R.PG_STATUS_READY 1
      ((tileCores c).foldl (fun s k => if s.flag (corePg k) R.PG_STATUS_RETIRED then s else s.setFld (corePg k) R.PG_STATUS_READY 1) s2).startCluster c
    else (s1.retireCluster c).1

/-- The boot channel (R490): the first whose page 0 became READY, ties to the lower number. -/
def State.bootChannel (s : State) : Option Nat :=
  ((List.range 16).filter (fun m => s.flag (mcPg m 0) R.PG_STATUS_READY)).foldl (fun b m =>
    match b with
    | none => some m
    | some n => if (s.mc m).scrubBase < (s.mc n).scrubBase then some m else some n) none

/-- BOOT_CHANNEL_READY (R490): the firmware is copied into the boot channel's join region, at one line per two class-15 slots (48 mclk);
the RAS pages are opened to the normal world; the part bolts if AUTO_BOLT; clusters are released. -/
def State.bootChannelReady (s : State) : State :=
  match s.boot.image, s.bootChannel with
  | some im, some m =>
    if s.boot.done ≠ 4 ∨ s.flag pwrPg R.PWR_BOOT_RELEASED ∨ s.fld pwrPg R.PWR_BOOT_STAGE = 15 then s
    else
      let copy := im.firmware.zip (List.range im.firmware.length)
      let s1 := copy.foldl (fun (s : State) x =>
        let pa := s.paOf m (lineBase im.offset + 64 * x.2)
        (if s.mirrored then [0, 1] else [0]).foldl (fun s cp => (s.setMemLine (copyAddr pa cp) x.1).setLineAttr pa cp {}) s) s
      let s2 := (s1.toMclk (s.now + 48 * im.firmware.length)).setFld pwrPg R.PWR_BOOT_BOOTCH m
      let s3 := if s2.bolted then s2 else (s2.setFld (rasPg 0) R.PG_BOLT_WORLD 0).setFld (rasPg 1) R.PG_BOLT_WORLD 0
      let s4 := if im.autoBolt then s3.doBolt else s3
      (List.range 96).foldl (fun s c => s.startCluster c) (s4.setFld pwrPg R.PWR_BOOT_RELEASED 1)
  | _, _ => s

/-- HASH_OPEN (R221, R492): at the first apply edge after all 16 channels are READY; never while one is retired. -/
def State.hashOpen (s : State) : State :=
  if (List.range 16).all (fun m => s.flag (mcPg m 0) R.PG_STATUS_READY && !s.flag (mcPg m 0) R.PG_STATUS_RETIRED) &&
      (List.range 16).any (fun m => !s.flag (mcPg m 0) R.MC_HASH_OPEN) then
    (List.range 16).foldl (fun s m => s.setFld (mcPg m 0) R.MC_HASH_OPEN 1) (s.toAclk s.applyEdge)
  else s

/-- BOOT_TIMEOUT (R491): no channel is READY 10 s after stage 3 began. -/
def State.bootTimeout (s : State) : State :=
  if s.boot.done ≠ 4 ∨ s.bootChannel.isSome ∨ s.flag pwrPg R.PWR_BOOT_RELEASED ∨ s.fld pwrPg R.PWR_BOOT_STAGE = 15 then s
  else (s.toAclk (s.boot.meshAt + 250000000)).bootFails

end Sys2Proof.Machine
end

