-- ==== Sys2Proof/Machine/PageRegs.lean ====
section
/-! DEFINITION. What a write of a block-specific register does on each kind of page (02 R64, R99; 03 R72-R74, R85, R93, R103; 04 R119, R120;
05 R176; 08 R289; 10 R340, R341; 15 R476-R480; 16 R496, R497; 17 R506, R507), and the one function that finds it for a page. -/

namespace Sys2Proof.Machine

/-- The value a write of the Ward's leaves in a register that only the Ward writes: its RO fields take the written bits (R85, R444,
R497), the others act as R9 gives. -/
def RegRow.wardWritten (r : RegRow) (old v : Nat) : Nat :=
  r.fields.foldl (fun w f => if f.acc = .ro then putBits w f.hi f.lo (bits v f.hi f.lo) else w) (r.written old v)

/-- A write that only the Ward may make, of a register it maintains. -/
def State.wardStore (s : State) (g : Page) (off : Nat) (who : Requester) (v : Nat) : RegEffect :=
  { admitted := who.path == .ward
    act := match rowAt g.kind off with
      | some r => .ok (s.setReg (g.base + off) (r.wardWritten (s.reg (g.base + off)) v))
      | none => .ok s }

/-- A plain write that some requesters may make. -/
def State.plainFor (s : State) (adm : Bool) (g : Page) (off v : Nat) : RegEffect :=
  { admitted := adm, act := .ok (s.plainWrite g off v) }

/-- Registers of a counter block (R506, R507, R509). -/
def State.cntPageWrite (s : State) (g : Page) (off : Nat) (who : Requester) (v : Nat) : RegEffect :=
  if off = 0xE08 then { admitted := true, act := .ok ((s.plainWrite g off v).watch g.base) }
  else if 0xE40 ≤ off ∧ off % 16 = 0 then
    let w := if eventListed g.kind (bits v 7 0) then v else putBits v 7 0 0
    { locked := s.secureClass (bits v 55 52), admitted := wardOrM who, act := .ok (s.plainWrite g off w) }
  else s.plainFor (wardOrM who) g off v

/-- KW_HOLD (R99): only the Ward's root writes change it. -/
def State.hingePageWrite (s : State) (g : Page) (off : Nat) (who : Requester) (v : Nat) : Option RegEffect :=
  if off = 0x128 then some { locked := who.path != .ward, act := .ok (s.plainWrite g off v) } else none

/-- The hart that slot i (0 or 1) of core k's CORE_RUN names, if it is in use (R119, R120). -/
def State.runHart (s : State) (k i : Nat) : Option Nat :=
  if i = 0 then some (s.fld (corePg k) R.CORE_RUN_HART0)
  else if s.flag (corePg k) R.CORE_RUN_SHARED then some (s.fld (corePg k) R.CORE_RUN_HART1) else none

/-- A write of CORE_MTIMECMP or CORE_MTIMECMP1 (R120). -/
def State.mtimecmpWrite (s : State) (k i v : Nat) : State :=
  match s.runHart k i with
  | some h => s.setHart h { s.hart h with cmp := w64 v }
  | none => s

/-- A write of CORE_INJECT (R119): an error of kind 1 to 4 in the next epoch. -/
def State.coreInject (s : State) (k v : Nat) : State :=
  if 1 ≤ bits v 3 0 ∧ bits v 3 0 ≤ 4 then s.setCore k { s.core k with inject := bits v 3 0 } else s

/-- Registers of a CORE page (R119, R120). -/
def State.corePageWrite (s : State) (k off : Nat) (who : Requester) (v : Nat) : Option RegEffect :=
  if off = 0x118 then some { admitted := wardOrM who, act := .ok (s.coreInject k v) }
  else if off = 0x120 ∨ off = 0x128 then
    some { admitted := wardOrM who, act := .ok (s.mtimecmpWrite k ((off - 0x120) / 8) v) }
  else none

/-- Registers of a MESHSTOP page (R176). -/
def State.meshPageWrite (s : State) (g : Page) (off : Nat) (who : Requester) (v : Nat) : Option RegEffect :=
  if off = 0x410 then some (s.plainFor (wardOrM who) g off v) else none

/-- DE_HCTX (R289). -/
def State.deHctxWrite (s : State) (e v : Nat) : RegEffect :=
  let t := s.tctEntry (bits v 11 0)
  { locked := s.secureClass (bits v 15 12) || (tctValid t && s.secureClass (tctClass t))
    act := if !tctValid t || tctClass t != bits v 15 12 then .no FAULT_ACCESS s
      else .ok (s.setReg (enginePg e + 0x110) (bits v 15 0)) }

/-- DE_HALT.RESUME (R289). -/
def State.deResume (s : State) (e v : Nat) : State :=
  let g := s.engine e
  if bitN v 63 && g.st == .halted then s.setEngine e { g with shadows := [], st := .idle } else s

/-- Registers of a DWEMON page (R289). -/
def State.dwemonPageWrite (s : State) (g : Page) (off : Nat) (who : Requester) (v : Nat) : RegEffect :=
  if off = 0x110 then { s.deHctxWrite g.inst v with admitted := wardOrM who }
  else if off = 0x118 then { admitted := wardOrM who, act := .ok (s.deResume g.inst v) }
  else s.plainFor (wardOrM who) g off v

/-- Whether class k's spill ring of queue c is empty (R341). -/
def State.ringEmpty (s : State) (c k : Nat) : Bool :=
  s.fld (queuePg c) (R.TQ_SPILL_HEAD_INDEX.nth k) == s.fld (queuePg c) (R.TQ_SPILL_TAIL_INDEX.nth k)

/-- Registers of a TASKQ page (R340, R341). -/
def State.taskqPageWrite (s : State) (g : Page) (off : Nat) (who : Requester) (v : Nat) : RegEffect :=
  let c := g.inst
  let old := s.reg (g.base + off)
  let plain := s.plainFor (wardOrM who) g off v
  if off = 0x108 then { plain with locked := s.secureFieldLocked who (fun k w => bits w k k) old v }
  else if off = 0x110 ∨ off = 0x118 then
    let n := (off - 0x110) / 8
    let share (k w : Nat) : Nat := if k / 8 = n then bits w (8 * (k % 8) + 7) (8 * (k % 8)) else 0
    let sum := (List.range 16).foldl (fun t k => t + if k / 8 = n then share k v else s.fld g.base (R.TQ_SHARE_SHARE.ofClass k)) 0
    { plain with locked := s.secureFieldLocked who share old v, act := if 256 < sum then .no FAULT_ACCESS s else plain.act }
  else if 0x200 ≤ off then
    let k := (off - 0x200) / 0x20
    let changed := match rowAt .taskq off with
      | some r => r.written old v != old
      | none => false
    let bad := !s.ringEmpty c k || (off % 0x20 == 8 && (decide (bits v 4 0 < 4) || decide (16 < bits v 4 0)))
    { plain with
      locked := s.secureClass k && changed && (!s.writesSecure who || s.bolted)
      act := if off % 0x20 < 0x10 && bad then .no FAULT_ACCESS s else plain.act }
  else plain

/-- A write of PWR_PKG (R458, R477): arming allows one more attempt. -/
def State.pkgWrite (s : State) (g : Page) (v : Nat) : State :=
  let s1 := s.plainWrite g 0x100 v
  { s1 with power := { s1.power with pkgTry := bitN v 63 } }

/-- A write of PWR_RESET (R482, R497). -/
def State.pwrReset (s : State) (v : Nat) : State :=
  if bitN v 1 then s.warmReset false
  else if bitN v 0 then s.resetWard.setFld aonPg R.AON_RESETCAUSE_WARD_SW 1
  else s

/-- Registers of the PWR page (R477-R479, R497). -/
def State.pwrPageWrite (s : State) (g : Page) (off : Nat) (who : Requester) (v : Nat) : RegEffect :=
  let plain := s.plainFor (wardOrM who) g off v
  if off = 0x100 then { plain with act := .ok (s.pkgWrite g v) }
  else if off < 0x130 then s.plainFor (who.path == .ward) g off v
  else if off = 0x130 then { plain with act := .ok (s.pwrReset v) }
  else if off = 0x138 then s.wardStore g off who v
  else if 0x200 ≤ off ∧ off < 0xE00 then
    { plain with act := if bits v 7 0 < 8 ∨ 36 < bits v 7 0 then .no FAULT_ACCESS s else plain.act }
  else plain

/-- A write of THM_CTL (R480): a PROCHOT_FREQ outside 8 to 36 leaves a value the manual does not give. -/
def State.thmCtlWrite (s : State) (g : Page) (v : Nat) : State :=
  let s1 := s.plainWrite g 0x100 v
  if bits v 47 40 < 8 ∨ 36 < bits v 47 40 then
    let x := s1.draw 8
    x.2.setFld g.base R.THM_CTL_PROCHOT_FREQ x.1.toNat
  else s1

/-- Registers of the THERM page (R480). -/
def State.thermPageWrite (s : State) (g : Page) (off : Nat) (who : Requester) (v : Nat) : RegEffect :=
  if off = 0x100 then { admitted := wardOrM who, act := .ok (s.thmCtlWrite g v) }
  else if off = 0x108 then s.plainFor (who.path == .ward) g off v
  else s.plainFor (wardOrM who) g off v

/-- Registers of a TCT page (R72-R74). -/
def State.tctPageWrite (s : State) (g : Page) (off : Nat) (who : Requester) (v : Nat) : RegEffect :=
  let plain := s.plainFor (who.path == .ward) g off v
  let masked := match rowAt g.kind off with
    | some r => r.written (s.reg (g.base + off)) v
    | none => 0
  if 0x100 ≤ off ∧ off ≤ 0x8F8 then { plain with act := .ok (s.tctWrite (256 * g.page + (off - 0x100) / 8) masked) }
  else if 0xA00 ≤ off then { plain with act := .ok (s.tctWrite (4096 + (off - 0xA00) / 8) masked) }
  else plain

/-- Registers of a bolt page (R93, R103): only the Ward writes them. -/
def State.boltPageWrite (s : State) (g : Page) (off : Nat) (who : Requester) (v : Nat) : RegEffect :=
  if g.kind = .bolt0 ∧ off = 0x100 then
    { admitted := who.path == .ward, act := .ok (if bitN v 0 then s.doBolt else s) }
  else s.plainFor (who.path == .ward) g off v

/-- The behaviour of a register of its own, if its page gives it one. -/
def State.ownEffect (s : State) (g : Page) (off : Nat) (who : Requester) (v : Nat) : Option RegEffect :=
  match g.kind with
  | .hinge => s.hingePageWrite g off who v
  | .core => s.corePageWrite g.inst off who v
  | .neg => s.negPageWrite g.inst off who v
  | .slice => s.slicePageWrite g.inst off who v
  | .dwemon => some (s.dwemonPageWrite g off who v)
  | .taskq => some (s.taskqPageWrite g off who v)
  | .dma => s.dmaPageWrite g.inst off who v
  | .dmach => s.chanPageWrite (g.inst / 16) (g.inst % 16) off who v
  | .meshstop => s.meshPageWrite g off who v
  | .mc0 => s.mc0PageWrite g.inst off who v
  | .mc2 => s.mc2PageWrite g.inst off who v
  | .phy => s.phyPageWrite (g.inst / 2) (g.inst % 2) off v
  | .fp0 => s.fpPageWrite g.inst off who v
  | .fpl => s.linkPageWrite g.inst (g.page - 1) off who v
  | .aon => some (s.plainFor (wardOrM who) g off v)
  | .pwr => some (s.pwrPageWrite g off who v)
  | .therm => some (s.thermPageWrite g off who v)
  | .irtDom | .irtPend | .irtOvr | .irtSets | .irtSrc => s.irtPageWrite g.page off who v
  | .target => s.tgtPageWrite (bits g.base 26 12) off who v
  | .mbx => if off = 0x100 ∨ off = 0x110 ∨ 0x300 ≤ off then some (s.wardStore g off who v) else s.mbxPageWrite g.inst off who v
  | .tct0 | .tct => some (s.tctPageWrite g off who v)
  | .bolt0 | .bolt1 | .boltSrc | .boltCarve | .bolt6 => some (s.boltPageWrite g off who v)
  | .ras0 => s.rasPageWrite 0 off who v
  | .ras1 => some (s.wardStore g off who v)
  | .cluster | .directory | .mc1 | .mc3 | .safelight | .irt0 | .irtHdr | .sched | .bolt7 | .rasHdr => none

/-- What a write of a block-specific register does (R534). -/
def State.regEffect (s : State) (g : Page) (off : Nat) (who : Requester) (v : Nat) : RegEffect :=
  if 0xE00 ≤ off ∧ counterCount g.kind ≠ 0 then s.cntPageWrite g off who v
  else (s.ownEffect g off who v).getD (s.plainFor true g off v)

/-- The value a write counts as, where a field's own rule keeps it (R53, R176, R443, R480). -/
def State.keptValue (s : State) (g : Page) (off v : Nat) : Nat :=
  let old := s.reg (g.base + off)
  match g.kind with
  | .meshstop => if off = 0x410 ∧ bits v 63 56 = 0 then putBits v 63 56 (bits old 63 56) else v
  | .therm => if off = 0x100 ∧ (bits v 63 56 < 85 ∨ 105 < bits v 63 56) then putBits v 63 56 (bits old 63 56) else v
  | .ras0 => if off = 0x108 then s.policyValue v else v
  | _ => v

end Sys2Proof.Machine
end

