-- ==== Sys2Proof/Machine/PageView.lean ====
section
/-! DEFINITION. What a read of a page register returns (02 R43-R51, R64; 03 R71, R73, R102; 12 R385-R387; 14 R413, R445; 15 R449, R476-R480;
17 R507), and what such a read does (R9 RC, R43, R376, R410, R445). -/

namespace Sys2Proof.Machine

-- the common header (R42-R51)

/-- Whether a maintenance, scrub, training or reset operation of a page's block runs (R43). -/
def State.blockBusy (s : State) (g : Page) : Bool :=
  s.flag g.base R.PG_RESET_ACTIVE ||
  (match g.kind with
   | .core => (s.core g.inst).domainReset.isSome || (s.core g.inst).fencedAt.isSome
   | .cluster => (s.cluster g.inst).domainReset.isSome
   | .dwemon => (s.engine g.inst).scrubEnd.isSome
   | .slice => s.flag g.base R.PG_STATUS_BUSY
   | .mc0 | .mc1 | .mc2 | .mc3 => (s.mc g.inst).zeroAt.isSome || s.flag (mcPg g.inst 0) R.MC_MIRROR_RESYNC ||
       s.flag (mcPg g.inst 2) R.MC_PAT_CTL_BUSY
   | .fpl => s.lnkState g.inst (g.page - 1) == LNK_TRAINING
   | _ => false)

/-- PG_STATUS as a read returns it (R43, R47). -/
def State.statusView (s : State) (g : Page) : Nat :=
  let w := s.reg (g.base + 0x8)
  let w1 := putBits w 0 0 (b01 (s.ready g))
  let w2 := putBits w1 2 2 (b01 (s.blockBusy g))
  putBits w2 6 6 (b01 (s.flag g.base R.PG_BOLT_WORLD))

/-- PG_POWER.CUR (R449, R450). -/
def State.powerCur (s : State) (g : Page) : Nat :=
  if s.flag g.base R.PG_STATUS_RETIRED then 0xF
  else match g.kind with
  | .core =>
    let k := g.inst
    if s.flag g.base R.PG_RESET_HOLDRST && (s.coreHarts k).isEmpty && (s.core k).cstate == 0 then 1 else (s.core k).cstate
  | .cluster => (s.cluster g.inst).kstate
  | .slice | .directory | .dwemon | .taskq | .dma | .dmach | .meshstop => b01 s.asleep
  | _ => 0

/-- PG_POWER.PEND (R48, R449). -/
def State.powerPend (s : State) (g : Page) : Bool :=
  match g.kind with
  | .core => (s.core g.inst).entry.isSome || (s.core g.inst).exitAt.isSome
  | .cluster => (s.cluster g.inst).entry.isSome || (s.cluster g.inst).exitAt.isSome
  | _ => false

/-- Whether a page has a domain reset (R49). -/
def resettable : PageKind → Bool
  | .core | .cluster | .dwemon | .mc0 | .fp0 | .fpl => true
  | _ => false

/-- Words 1 and 2 of a record with SECURE = 1 read zero to the normal world (R413). -/
def State.recordView (s : State) (a i : Nat) (who : Requester) : Nat :=
  if (i = 1 ∨ i = 2) ∧ bitN (s.reg a) 39 ∧ !s.seesSecure who then 0 else s.reg (a + 8 * i)

/-- A header register as a read returns it (R42-R51). -/
def State.headerView (s : State) (g : Page) (off : Nat) (who : Requester) : Nat :=
  let v := s.reg (g.base + off)
  if off = 0x8 then s.statusView g
  else if off = 0x18 then
    if bitN v 1 && s.secureClass (bits v 43 40) && !s.seesSecure who then putBits v 59 24 0 else v
  else if off = 0x20 then putBits v 63 63 (b01 s.bolted)
  else if off = 0x28 then bits v 15 12 <<< 12 + s.powerCur g <<< 8 + b01 (s.powerPend g)
  else if off = 0x30 then if resettable g.kind then v else 0
  else if 0x40 ≤ off ∧ off < 0x60 then s.recordView (g.base + 0x40) ((off - 0x40) / 8) who
  else if 0x60 ≤ off ∧ off < 0x80 then s.recordView (g.base + 0x60) ((off - 0x60) / 8) who
  else v

-- block-specific registers

/-- CNT_VAL shows its count only to those R507 names. -/
def State.cntView (s : State) (g : Page) (off : Nat) (who : Requester) : Nat :=
  let v := s.reg (g.base + off)
  if 0xE48 ≤ off ∧ off % 16 = 8 then
    let sel := s.reg (g.base + off - 8)
    if who.path == .safelight || wardOrM who || (bitN sel 56 && bits sel 55 52 == who.cls.val && who.path == .hart) then v else 0
  else v

/-- DE_STATE and DE_HALT (R289). -/
def State.deView (s : State) (e off : Nat) (who : Requester) : Nat :=
  let g := s.engine e
  let task := match g.task with
    | some d => if s.secureClass (dClass d).val && !s.seesSecure who then 0 else (dClass d).val <<< 56 + (dTenant d).val <<< 44
    | none => 0
  let code := match g.st with
    | .halted => 4
    | .scrub => 5
    | .idle => 0
    | .task => if g.waiting then 3 else 1
    | .handler => if g.waiting then 3 else 2
  if off = 0x108 then code <<< 60 + (if g.st = .task ∨ g.st = .handler then task else 0) + bits g.haltPc 15 2 <<< 2
  else if off = 0x118 then g.haltCause
  else s.reg (enginePg e + off)

/-- Registers of a TASKQ page as a read returns them: fields of secure classes read zero to the normal world (R340). -/
def State.taskqView (s : State) (c off : Nat) (who : Requester) : Nat :=
  let v := s.reg (queuePg c + off)
  let hidden (k : Nat) : Bool := s.secureClass k && !s.seesSecure who
  let perClass (n : Nat) (f : Nat → Nat) : Nat :=
    (List.range 8).foldl (fun w j => w + (if hidden (8 * n + j) then 0 else f (8 * n + j)) <<< (8 * j)) 0
  if off = 0x108 then (List.range 16).foldl (fun w k => w + (if hidden k then 0 else bits v k k) <<< k) 0
  else if off = 0x110 ∨ off = 0x118 then perClass ((off - 0x110) / 8) (fun k => bits v (8 * (k % 8) + 7) (8 * (k % 8)))
  else if off = 0x120 ∨ off = 0x128 then
    perClass ((off - 0x120) / 8) (fun k => (Tab.get [] (s.queue c).deque k).length % 256)
  else if off = 0x148 then
    match (s.queue c).running with
    | some d => if hidden (dClass d).val then 0 else 2 ^ 63 + (dTenant d).val <<< 36 + (dClass d).val <<< 32 + dTag d
    | none => 0
  else if 0x200 ≤ off then if hidden ((off - 0x200) / 0x20) then 0 else v
  else v

/-- Home slice of bucket b, and whether the bucket is held, as DIR_HOMEMAP shows them (R217). -/
def State.homeField (s : State) (b : Nat) : Nat := b01 (s.home.hold.contains b) <<< 7 + Tab.get (b % 96) s.home.map b

/-- Registers of a DIRECTORY page (R217). -/
def State.dirView (s : State) (c off : Nat) : Nat :=
  if off = 0x300 then (s.home.gen % 2 ^ 16) <<< 16 + ((List.range 384).filter (fun b => Tab.get (b % 96) s.home.map b == c)).length
  else (List.range 8).foldl (fun w j => w + s.homeField (8 * ((off - 0x100) / 8) + j) <<< (8 * j)) 0

/-- Registers of a MESHSTOP page (R158, R176). -/
def State.meshView (s : State) (n off : Nat) : Nat :=
  if off < 0x400 then s.mesh.sched.entry n ((off - 0x100) / 8 / 24) ((off - 0x100) / 8 % 24)
  else if off = 0x400 then s.slotNow
  else if off = 0x408 then s.schedWord
  else s.reg (meshPg n + off)

/-- The class of a command of the freeze frame reads zero to the normal world where it is secure (R250). -/
def State.ffView (s : State) (m off : Nat) (who : Requester) : Nat :=
  let v := s.reg (mcPg m 1 + off)
  if 0x200 ≤ off ∧ s.secureClass (bits v 26 23) ∧ !s.seesSecure who then putBits v 26 18 0 else v

/-- PWR_FREQ and PWR_BOOT (R464, R479, R497). -/
def State.pwrView (s : State) (off : Nat) : Nat :=
  let v := s.reg (pwrPg + off)
  if 0x200 ≤ off ∧ off < 0xE00 then
    let k := (off - 0x200) / 8
    let pend := (s.core k).dvfsEnd.isSome || s.effPoint k != s.fld pwrPg (R.PWR_FREQ_CUR.nth k)
    putBits (putBits v 32 32 (b01 pend)) 31 24 (s.capOf k)
  else if off = 0x138 then
    let mcs := (List.range 16).foldl (fun w m => w + b01 (s.flag (mcPg m 0) R.PG_STATUS_READY) <<< m) 0
    let cls := ((List.range 96).filter (fun c => s.flag (clusterPg c) R.PG_STATUS_READY)).length
    let opn := (List.range 16).all (fun m => s.flag (mcPg m 0) R.MC_HASH_OPEN)
    putBits (putBits (putBits v 56 56 (b01 opn)) 47 32 mcs) 6 0 cls
  else v

/-- Registers of the router's pages (R385, R386). -/
def State.irtView (s : State) (g : Page) (off : Nat) (who : Requester) : Nat :=
  let v := s.reg (g.base + off)
  match g.kind with
  | .irtDom =>
    let d := 128 * (g.page - 1) + (off - 0x100) / 16
    let w := if off % 16 = 0 then putBits (putBits (putBits v 62 62 (b01 (s.domSecure d))) 60 60 (b01 (s.domScan d))) 59 56 (s.domClass d) else v
    if s.domAccess who d false then w else 0
  | .irtPend => v &&& s.pendMask who (256 * (g.page - 3) + (off - 0x100) / 8) false
  | .irtOvr => v &&& s.pendMask who (256 * (g.page - 5) + (off - 0x100) / 8) false
  | .irtSets =>
    let n := 32 * (g.page - 8) + (off - 0x100) / 64
    if s.secureClass (s.tsFld n R.TS_CTL_CLASS) && !s.seesSecure who then 0 else v
  | .irtSrc =>
    let src := 960 * (g.page - 24) + (off - 0x100) / 8 * 2
    let half (i : Nat) : Nat :=
      if s.srcAccess who i false then putBits (putBits (s.srcHalf i) 29 29 (b01 (s.pendBit i))) 28 28 (b01 (s.srcActive i).isSome) else 0
    if src < 32768 then half src + half (src + 1) <<< 32 else 0
  | _ => v

/-- Registers of a target page (R376, R387). -/
def State.tgtView (s : State) (t off : Nat) : Nat :=
  let v := s.reg (targetBase t + off)
  if off = 0x108 then
    let held := match Tab.at? s.router.held t with
      | some x => 2 ^ 62 + b01 x.scan <<< 61 + x.num <<< 32 + x.prio <<< 8
      | none => 0
    b01 (s.tgtAwake t) <<< 63 + held + bits v 60 60 <<< 60 + s.runPri t
  else if off = 0x110 then (s.tgtClaim t).1
  else v

/-- SLC_MAINT registers of class k read zero to all but class k, the Ward and granted Safelight (R205). -/
def State.sliceView (s : State) (c off : Nat) (who : Requester) : Nat :=
  let v := s.reg (slicePg c + off)
  if 0x200 ≤ off ∧ off < 0x600 then
    if s.seesSecure who || (who.path == .hart && who.cls.val == (off - 0x200) / 0x40) then v else 0
  else v

/-- A block-specific register as a read that passes every check returns it. -/
def State.blockView (s : State) (g : Page) (off : Nat) (who : Requester) : Nat :=
  let v := s.reg (g.base + off)
  if 0xE00 ≤ off ∧ counterCount g.kind ≠ 0 then s.cntView g off who
  else match g.kind with
  | .core =>
    if off = 0x120 ∨ off = 0x128 then
      match s.runHart g.inst ((off - 0x120) / 8) with
      | some h => (s.hart h).cmp.toNat
      | none => 0
    else v
  | .neg => if off = 0x148 then (s.negRead g.inst).1 else v
  | .slice => s.sliceView g.inst off who
  | .directory => s.dirView g.inst off
  | .dwemon => s.deView g.inst off who
  | .taskq => s.taskqView g.inst off who
  | .meshstop => s.meshView g.inst off
  | .mc0 => if off = 0x128 then s.frameNow g.inst else v
  | .mc1 => s.ffView g.inst off who
  | .fp0 => if off = 0x108 then (s.fabEventRead g.inst).1 else v
  | .aon => if off = 0x100 then s.tb else v
  | .pwr => s.pwrView off
  | .irtDom | .irtPend | .irtOvr | .irtSets | .irtSrc => s.irtView g off who
  | .target => s.tgtView (bits g.base 26 12) off
  | .tct0 => if off = 0x900 then s.tctSync else v
  | .ras0 => if 0x140 ≤ off ∧ off < 0x160 then s.recordView (g.base + 0x140) ((off - 0x140) / 8) who else v
  | .hinge | .cluster | .dma | .dmach | .mc2 | .mc3 | .phy | .fpl | .therm | .safelight | .irt0 | .irtHdr | .mbx | .tct | .sched
  | .bolt0 | .bolt1 | .boltSrc | .boltCarve | .bolt6 | .bolt7 | .ras1 | .rasHdr => v

/-- Whether the normal world reads a page of the secure world normally: blocks 0x80 to 0x86 (R71). -/
def openRead : PageKind → Bool
  | .bolt0 | .bolt1 | .boltSrc | .boltCarve | .bolt6 => true
  | _ => false

/-- Whether a read shows the register (R52, R71): otherwise it returns zero and does nothing. -/
def State.shows (s : State) (g : Page) (who : Requester) : Bool :=
  s.ready g && (!s.securePage g || s.seesSecure who || openRead g.kind)

/-- Whether a register's own rule admits the reader (R387, R445). -/
def State.readAdmitted (s : State) (g : Page) (off : Nat) (who : Requester) : Bool :=
  match g.kind with
  | .neg => if off = 0x140 ∨ off = 0x148 then who.path == .ward else if off < 0x140 then wardOrM who else true
  | .target =>
    let t := bits g.base 26 12
    if t = WARD_TARGET then who.path == .ward
    else if off = 0x108 then s.tgtUser t who || who.path == .safelight
    else if off = 0x110 ∨ off = 0x118 then (s.tgtUser t who || who.path == .safelight) && !isEngineTarget t
    else true
  | _ => true

/-- What a read of a block-specific register does (R9 RC, R376, R410, R445); a Safelight read does nothing (R102). -/
def State.readActs (s : State) (g : Page) (off : Nat) (who : Requester) : State :=
  if who.path = .safelight then s
  else match g.kind with
  | .neg => if off = 0x148 then (s.negRead g.inst).2 else s
  | .fp0 => if off = 0x108 then (s.fabEventRead g.inst).2 else s
  | .target => if off = 0x110 then (s.tgtClaim (bits g.base 26 12)).2 else s
  | _ => s

/-- What a read of a header register does (R43, R44, R60, R102): a hart's read of PG_STATUS clears LOST, the Ward's clears WLOST. -/
def State.headerReadActs (s : State) (g : Page) (off : Nat) (who : Requester) : State :=
  if off ≠ 0x8 then s
  else match who.path with
  | .hart => s.setFld g.base R.PG_STATUS_LOST 0
  | .ward => s.setFld g.base R.PG_STATUS_WLOST 0
  | _ => s

end Sys2Proof.Machine
end

