-- ==== Sys2Proof/Machine/PageAccess.lean ====
section
/-! DEFINITION. An access to a register page (02 R39, R52-R55, R534, R535; 03 R71, R99-R102; 15 R462): its checks in order, writes of the
common header, power and reset requests and the hold (R54), writes of resting blocks, and the answer. -/

namespace Sys2Proof.Machine

/-- The answer of an access: the state it leaves, the data of a read, and whether the response is an error. -/
structure PageAns where
  s : State
  data : Nat := 0
  err : Bool := false

/-- A refused access sets one bit and gets an error response; a refused Safelight read sets none (R102, R534). -/
def State.refuseAccess (s : State) (pg bit : Nat) (who : Requester) (off : Nat) (write : Bool) : PageAns :=
  ⟨if who.path == .safelight && !write then s else s.accessFault pg bit who off write, 0, true⟩

-- power and reset requests (R49, R53, R54, R449)

/-- Whether PG_POWER.REQ of a page accepts a code (R449). -/
def powerCode (k : PageKind) (c : Nat) : Bool :=
  match k with
  | .core => c == 0 || c == 2 || c == 3
  | .cluster => decide (c ≤ 2)
  | _ => c == 0

/-- The hold count of a page's stop is not zero (R54, R99). -/
def State.held (s : State) (g : Page) : Bool := s.fld (hingePg ((pageStop g.base).getD 0)) R.KW_HOLD_COUNT != 0

/-- A request waits for the hold count; a later one replaces it (R54). A page has one waiting request, so a power request replaces a
waiting reset request and the reverse: DESIGN CHOICE (log entry 81). -/
def State.holdRequest (s : State) (g : Page) (v : Nat) : State :=
  let n := (pageStop g.base).getD 0
  let h := s.hinge n
  (s.setHinge n { h with waiting := Tab.ins (g.base / 4096) v h.waiting }).setFld g.base R.PG_STATUS_HOLD 1

/-- A write of PG_POWER (R48, R53, R54, R449). -/
def State.powerWrite (s : State) (g : Page) (who : Requester) (v : Nat) : Wr :=
  let normal := !s.writesSecure who
  let req := bits v 15 12
  if normal && s.securePage g then .no FAULT_LOCKED s
  else if !powerCode g.kind req then .no FAULT_ACCESS s
  else if normal && s.held g then .ok (s.holdRequest g (2 * req))
  else .ok (s.setFld g.base R.PG_POWER_REQ req)

/-- HOLDRST is stored; clearing it lets the block start its work (R49). -/
def State.holdrst (s : State) (g : Page) (v : Nat) : State :=
  let s1 := s.setFld g.base R.PG_RESET_HOLDRST (bits v 8 8)
  if bitN v 8 then s1
  else match g.kind with
  | .core => s1.startCore g.inst
  | .cluster => s1.startCluster g.inst
  | _ => s1

/-- A write of PG_RESET (R49, R53, R54): only a 1 in GO asks for a reset. -/
def State.resetWrite (s : State) (g : Page) (who : Requester) (v : Nat) : Wr :=
  let normal := !s.writesSecure who
  let go := bitN v 0
  if go && normal && s.securePage g then .no FAULT_LOCKED s
  else if !resettable g.kind then .ok s
  else
    let s1 := s.holdrst g v
    if !go then .ok s1
    else if normal && s.held g then .ok (s1.holdRequest g 1)
    else match s1.domainGo g with
      | .ok t => .ok t
      | .no b _ => .no b s

/-- A write of PG_FAULT (R45, R46): bits written 1 clear, and the capture once no access bit is left. -/
def State.faultClear (s : State) (g : Page) (v : Nat) : State :=
  let old := s.reg (g.base + 0x10)
  let new := old - (old &&& v % 128)
  let s1 := s.setReg (g.base + 0x10) new
  if bits new 6 3 = 0 then s1.setReg (g.base + 0x18) 0 else s1

/-- A write of PG_BOLT (R47, R53). -/
def State.pgBoltWrite (s : State) (g : Page) (who : Requester) (v : Nat) : Wr :=
  let changes := match rowAt g.kind 0x20 with
    | some r => r.changesRwb (s.reg (g.base + 0x20)) v
    | none => false
  if s.bolted && changes then .no FAULT_LOCKED s
  else if who.path ≠ .ward then .no FAULT_ACCESS s
  else .ok (s.plainWrite g 0x20 v)

/-- A write of a header register (R42-R51); what has no writable field ignores it (R9, R10). -/
def State.headerWrite (s : State) (g : Page) (off : Nat) (who : Requester) (v : Nat) : Wr :=
  if off = 0x10 then .ok (s.faultClear g v)
  else if off = 0x20 then s.pgBoltWrite g who v
  else if off = 0x28 then s.powerWrite g who v
  else if off = 0x30 then s.resetWrite g who v
  else .ok s

-- blocks at rest (R462)

/-- Whether a page's block is in C3, K2 or retention, so that its registers wait for restore (R462). -/
def State.rests (s : State) (g : Page) : Bool :=
  match g.kind with
  | .core => (s.core g.inst).cstate == 3 || (s.cluster (g.inst / 4)).kstate == 2
  | .neg | .slice | .directory | .dwemon | .taskq | .dma | .dmach | .meshstop => s.asleep
  | _ => false

/-- The state in which a block-specific write has been performed. -/
def State.blockStore (s : State) (g : Page) (off : Nat) (who : Requester) (v : Nat) : State :=
  match (s.regEffect g off who (s.keptValue g off v)).act with
  | .ok t => t
  | .no _ _ => s

/-- Perform held writes in their order, those that `sel` selects by page. -/
def State.storeHeld (s : State) (ps : List PageReq) (sel : Page → Bool) : State :=
  ps.foldl (fun s p =>
    match pageAt p.addr.toNat with
    | some g => if sel g then s.blockStore g (p.addr.toNat % 4096) p.who p.data.toNat else s
    | none => s) s

/-- In a RESTORE step the Hinge of stop n applies the writes it holds for blocks that no longer rest (R462). -/
def State.applyHeld (s : State) (n : Nat) : State :=
  let ps := (s.hinge n).deferred
  if ps.isEmpty then s
  else
    let woke (p : PageReq) : Bool := match pageAt p.addr.toNat with
      | some g => !s.rests g
      | none => true
    let s1 := s.setHinge n { s.hinge n with deferred := ps.filter (fun p => !woke p) }
    s1.storeHeld (ps.filter woke) (fun _ => true)

/-- The state a read of a resting block sees: its held writes as they will be applied (R462). -/
def State.restored (s : State) (g : Page) : State :=
  if s.rests g then s.storeHeld ((s.hinge ((pageStop g.base).getD 0)).deferred) (fun x => x.base == g.base) else s

-- the access (R39, R534)

/-- A write of a block-specific register (R534). -/
def State.blockWrite (s : State) (p : PageReq) (g : Page) (off : Nat) : PageAns :=
  let v := s.keptValue g off p.data.toNat
  let no (b : Nat) : PageAns := s.refuseAccess g.base b p.who off true
  match rowAt g.kind off with
  | none => ⟨s, 0, false⟩
  | some r =>
    if s.securePage g && !s.writesSecure p.who then no FAULT_LOCKED
    else if s.bolted && r.changesRwb (s.reg (g.base + off)) v then no FAULT_LOCKED
    else
      let e := s.regEffect g off p.who v
      if e.locked then no FAULT_LOCKED
      else if !e.admitted then no FAULT_ACCESS
      else if !s.ready g then no FAULT_NOINIT
      else match e.act with
      | .no b t => t.refuseAccess g.base b p.who off true
      | .ok t =>
        if s.rests g then
          let n := (pageStop g.base).getD 0
          ⟨s.setHinge n { s.hinge n with deferred := (s.hinge n).deferred ++ [p] }, 0, false⟩
        else ⟨t, 0, false⟩

/-- A read (R52, R71, R534). -/
def State.pageRead (s : State) (p : PageReq) (g : Page) (off : Nat) : PageAns :=
  if off < 0x100 then ⟨s.headerReadActs g off p.who, s.headerView g off p.who, false⟩
  else if (rowAt g.kind off).isNone then ⟨s, 0, false⟩
  else if !s.readAdmitted g off p.who then s.refuseAccess g.base FAULT_ACCESS p.who off false
  else if !s.shows g p.who then ⟨s, 0, false⟩
  else ⟨s.readActs g off p.who, (s.restored g).blockView g off p.who, false⟩

/-- A page access at its Hinge: the response and its effect (R39, R55, R534). An engine, a channel or a device reaches no page (R32); a
block index with no page is refused in the stop's Hinge page, a target index with none without a bit. PG_FAULT_INFO.OFFSET of such a
fault is the offset within the page addressed: DESIGN CHOICE (log entry 14). -/
def State.performPage (s : State) (p : PageReq) : PageAns :=
  let a := p.addr.toNat
  let write := p.kind.writes
  if p.who.path = .engine ∨ p.who.path = .dma ∨ p.who.path = .fabric then ⟨s, 0, true⟩
  else match pageAt a with
  | none =>
    match region a, pageStop a with
    | .keyway, some n => s.refuseAccess (hingePg n) FAULT_ACCESS p.who (a % 4096) write
    | _, _ => ⟨s, 0, true⟩
  | some g =>
    let off := a % 4096
    if (p.kind ≠ .load ∧ p.kind ≠ .store) ∨ p.size ≠ 8 ∨ off % 8 ≠ 0 then s.refuseAccess g.base FAULT_ACCESS p.who off write
    else if !write then s.pageRead p g off
    else if off < 0x100 then
      match s.headerWrite g off p.who p.data.toNat with
      | .ok t => ⟨t, 0, false⟩
      | .no b t => t.refuseAccess g.base b p.who off true
    else s.blockWrite p g off

/-- An access performed at once, and its response; nothing happens while the part is shut down (R472). -/
def State.accessNow (s : State) (p : PageReq) : State :=
  if s.power.off then s
  else
    let r := s.performPage p
    r.s.respond ⟨p.who, p.tag, p.addr, p.kind.writes, BitVec.ofNat 512 r.data, r.err, s.now⟩

/-- Whether an access is a write (or a read, as `write` says) that addresses a register of a page of a kind that `k` selects, at an
offset and with a value that `f` selects. -/
def names (p : PageReq) (write : Bool) (k : PageKind → Bool) (f : Nat → Nat → Bool) : Bool :=
  p.kind.writes == write &&
  match pageAt p.addr.toNat with
  | some g => k g.kind && f (p.addr.toNat % 4096) p.data.toNat
  | none => false

/-- The access of a command that names a register: performed if it addresses that register. -/
def State.regCommand (s : State) (p : PageReq) (write : Bool) (k : PageKind → Bool) (f : Nat → Nat → Bool) : State :=
  if names p write k f then s.accessNow p else s

end Sys2Proof.Machine
end

