-- ==== Sys2Proof/Machine/Hinge.lean ====
section
/-! DEFINITION. The keyway and its Hinges (02 R54-R64): mesh requests and root requests, turns, stale accesses, time-outs, and held
power and reset requests. -/

namespace Sys2Proof.Machine

/-- The access a hart's request flit asks for (R46, R58, R63). -/
def State.reqOfFlit (s : State) (f : Flit) : PageReq :=
  let h := f.tag.val - 512
  { who := ⟨.hart, f.tenant, f.cls, f.priv, h⟩, addr := f.addr, kind := if f.op = OP_RDIO then .load else .store, size := f.count.val,
    data := lineWord f.data 0, issued := ((s.hart h).io.map (fun w => w.issued)).getD s.tb, tag := f.tag.val }

/-- The answer of a page access of a hart, presented to the mesh at mclk t (R58). -/
def State.answerHart (s : State) (n t : Nat) (p : PageReq) (data : Nat) (err : Bool) : State :=
  let op := if err then OP_ERROR else if p.kind.writes then OP_ACK else OP_IODATA
  s.sendAt t { mkFlit .rsp n 0 (tileStop (s.coreOf p.who.req / 4)) 1 p.who.cls op p.tag p.addr.toNat with
    data := BitVec.ofNat 512 data, detail := w64 data }

/-- A hart's request for a page stands at a Hinge's stop: it crosses in 3 kclk and joins its class's queue of 16, or is refused there
(R56, R57). -/
def State.pageArrival (s : State) (p : PageReq) : State :=
  match pageStop p.addr.toNat with
  | none => s
  | some n =>
    match (Tab.get [] s.mesh.ingress (8 * n)).find? (fun f => f.plane == .req && f.tag.val == 512 + p.who.req && f.addr == p.addr) with
    | none => s
    | some f =>
      let s1 := s.taken f
      let q := s1.reqOfFlit f
      let ready := kclkEdge s1.now + 18
      let h := s1.hinge n
      let mine := Tab.get [] h.classQ f.cls.val
      if 16 ≤ mine.length then
        (s1.accessFault (hingePg n) FAULT_ACCESS q.who (q.addr.toNat % 4096) q.kind.writes).answerHart n (ready + 6 + 3) q 0 true
      else s1.setHinge n { h with classQ := Tab.set [] h.classQ f.cls.val (mine ++ [(ready, q)]) }

/-- The start of the first turn of the root (even turns) at or after mclk t (R56). -/
def rootTurn (t : Nat) : Nat := 24 * ceilDiv t 24
/-- The start of the first turn of class k (odd turn 2k + 1 of 32) at or after mclk t (R56). -/
def classTurn (k t : Nat) : Nat := 12 * (2 * k + 1) + 384 * ceilDiv (t - 12 * (2 * k + 1)) 384

/-- The turns in which accesses of a Hinge wait: start, and class (16 for the root). -/
def State.hingeTurns (s : State) (n : Nat) : List (Nat × Nat) :=
  let h := s.hinge n
  let t0 := max s.now h.from_
  let root := match h.rootQ.map (fun e => e.1) with
    | [] => []
    | r :: t => [(rootTurn (max t0 (t.foldl min r)), 16)]
  root ++ h.classQ.filterMap (fun e => match e.2 with
    | [] => none
    | x :: _ => some (classTurn e.1 (max t0 x.1), e.1))

/-- The access that the root's turn at mclk t serves: the Ward's and the BMC's before Safelight's (R56). -/
def rootPick (q : List (Nat × PageReq)) (t : Nat) : Option ((Nat × PageReq) × List (Nat × PageReq)) :=
  match takeFirst (fun e : Nat × PageReq => decide (e.1 ≤ t) && e.2.who.path != .safelight) q with
  | some x => some x
  | none => takeFirst (fun e : Nat × PageReq => decide (e.1 ≤ t)) q

/-- Perform an access in its turn at mclk t, or discard it as stale (R56, R57, R59, R63). -/
def State.serveTurn (s : State) (n t : Nat) (p : PageReq) : State :=
  let s1 := s.toMclk t
  let s2 := s1.setHinge n { s1.hinge n with from_ := t + 12 }
  if p.issued + 50000 < s2.tb then s2.bump (hingePg n) R.KW_STALE_COUNT 1
  else
    let r := s2.performPage p
    if p.who.path = .hart then r.s.answerHart n (t + 24 + 3) p r.data r.err
    else
      let back := 6 * (4 + keywayLeg n) + (if p.who.path = .safelight then 0 else 9)
      r.s.respond ⟨p.who, p.tag, p.addr, p.kind.writes, BitVec.ofNat 512 r.data, r.err, t + back⟩

/-- The next turn of a Hinge in which an access waits (R56). -/
def State.hingeTurn (s : State) (n : Nat) : State :=
  if s.power.off then s
  else match s.hingeTurns n with
  | [] => s
  | x :: rest =>
    let y := rest.foldl (fun b z => if z.1 < b.1 then z else b) x
    let h := s.hinge n
    if y.2 = 16 then
      match rootPick h.rootQ y.1 with
      | some (e, q) => (s.setHinge n { h with rootQ := q }).serveTurn n y.1 e.2
      | none => s
    else match Tab.get [] h.classQ y.2 with
      | e :: q => (s.setHinge n { h with classQ := Tab.set [] h.classQ y.2 q }).serveTurn n y.1 e.2
      | [] => s

/-- A root request (R55, R57, R59, R60). -/
def State.keywayRequest (s : State) (p : PageReq) : State :=
  if s.power.off then s
  else match p.who.path with
  | .safelight => s.rootRequest { p with who := safelightReq, issued := s.tb }
  | .ward => if decide (2 ≤ s.boot.done) then s.wardRestarts.rootRequest { p with who := wardReq, issued := s.tb } else s
  | .bmc => if s.ward.running then s.rootRequest { p with who := bmcReq, issued := s.tb } else s
  | _ => s

/-- The Ward enters a record whose words the manual does not give (R63). -/
def State.wardTimeoutRecord (s : State) : State :=
  let a := s.draw 64
  let b := a.2.draw 64
  let c := b.2.draw 64
  { c.2 with reports := c.2.reports ++ [⟨a.1, b.1, c.1, w64 c.2.tb⟩] }

/-- No response 50,000 aclk after the first aclk edge after issue (R63): the requester completes the access with an error. -/
def State.pageTimeout (s : State) (p : PageReq) : State :=
  let fail (s : State) : State := s.respond ⟨p.who, p.tag, p.addr, p.kind.writes, 0, true, s.now⟩
  let here := (pageStop p.addr.toNat).isSome
  let answered := s.resps.any (fun r => r.who == p.who && r.tag == p.tag)
  match p.who.path with
  | .hart =>
    match (s.hart p.who.req).io with
    | some w =>
      if w.pa = p.addr && here && !answered then
        let s1 := s.toAclk (w.issued + 50001)
        let tile := tileStop (s1.coreOf p.who.req / 4)
        let s2 := { s1 with mesh := { s1.mesh with copies := s1.mesh.copies.filter (fun f : Flit =>
          !(f.plane == Plane.req && f.tag.val == 512 + p.who.req && f.src.val == tile && f.sport == 1)) } }
        fail (s2.accessFault (corePg (s.coreOf p.who.req)) FAULT_TIMEOUT p.who (p.addr.toNat % 4096) w.write)
      else s
    | none => s
  | .ward => if here && !answered then (fail (s.toAclk (p.issued + 50001))).wardTimeoutRecord else s
  | .bmc =>
    if 256 ≤ p.tag ∧ p.tag < 288 ∧ !answered ∧ (s.mbxState (p.tag - 256)).waiting then
      (s.toAclk (p.issued + 50001)).mbxFinish (p.tag - 256) RES_TIMEOUT 0 []
    else s
  | .safelight => if here && !answered then fail (s.toAclk (p.issued + 50001)) else s
  | _ => s

/-- A request that waited is performed, and HOLD of its page clears (R54). -/
def State.proceed (s : State) (e : Nat × Nat) : State :=
  match pageAt (4096 * e.1) with
  | none => s
  | some g =>
    let s1 := s.setFld g.base R.PG_STATUS_HOLD 0
    if e.2 % 2 = 1 then
      match s1.domainGo g with
      | .ok t => t
      | .no _ _ => s1
    else s1.setFld g.base R.PG_POWER_REQ (e.2 / 2)

/-- The hold count of stop n is zero: what waits there proceeds (R54). -/
def State.heldProceeds (s : State) (n : Nat) : State :=
  let w := (s.hinge n).waiting
  if s.fld (hingePg n) R.KW_HOLD_COUNT ≠ 0 ∨ w.isEmpty then s
  else w.foldl (fun s e => s.proceed e) (s.setHinge n { s.hinge n with waiting := [] })

/-- PAGE_REQUEST_ARRIVAL (R56, R57). -/
def execPageRequestArrival (p : PageReq) (s : State) : Out := .next (s.pageArrival p)
/-- KEYWAY_ROOT_REQUEST (R55, R59). -/
def execKeywayRootRequest (p : PageReq) (s : State) : Out := .next (s.keywayRequest p)
/-- HINGE_TURN (R56). -/
def execHingeTurn (n : Stop) (s : State) : Out := .next (s.hingeTurn n.val)
/-- PAGE_ACCESS_TIMEOUT (R63). -/
def execPageAccessTimeout (p : PageReq) (s : State) : Out := .next (s.pageTimeout p)
/-- HELD_REQUEST_PROCEEDS (R54). -/
def execHeldRequestProceeds (n : Stop) (s : State) : Out := .next (s.heldProceeds n.val)

end Sys2Proof.Machine
end

