-- ==== Sys2Proof/Machine/Irt.lean ====
section
/-! DEFINITION. The commands of the interrupt router (12 R364-R382). -/

namespace Sys2Proof.Machine

/-- WIRED_SOURCE_EVENT (R364). -/
def execWiredSourceEvent (x : Source) (s : State) : Out := .next (s.wiredEvent x.val)
/-- IRQ_DOORBELL (R367). -/
def execIrqDoorbell (f : Flit) (s : State) : Out := .next (s.irqDoorbell f)
/-- ROUTING_DECISION (R374). -/
def execRoutingDecision (x : Source) (s : State) : Out := .next (s.decideItem x.val)
/-- IRQ (R380). -/
def execIrq (f : Flit) (s : State) : Out := .next (s.irqArrives f)
/-- PRESENTATION_WITHDRAW (R379). -/
def execPresentationWithdraw (x : Source) (s : State) : Out := .next (s.withdrawItem x.val)
/-- EDGE_CAPTURE (R382). -/
def execEdgeCapture (x : Source) (s : State) : Out := .next (s.edgeCapture x.val)
/-- EDGE_CAPTURE_PRESENT (R382). -/
def execEdgeCapturePresent (x : Source) (s : State) : Out := .next (s.edgePresent x.val)
/-- ENGINE_NOTICE_ARRIVAL (R376, R377). -/
def execEngineNoticeArrival (f : Flit) (s : State) : Out := .next (s.engineNoticeArrives f)

end Sys2Proof.Machine
end

