-- ==== Sys2Proof/Machine/Jtag.lean ====
section
/-! DEFINITION. The JTAG TAP (18 R530): boundary scan, identity, Safelight page access, and the external debug of R106 behind DTMCS and
DMI, whose registers are those of the RISC-V debug specification (log entry 74). -/

namespace Sys2Proof.Machine

/-- The TAP holds an instruction, and its data register was captured as `tdo` (R530). -/
def State.jtag (s : State) (ir tdo : Nat) (f : Tap → Tap) : State :=
  let t := f s.tap
  { s with tap := { t with ir := ir, tdo := tdo } }

/-- A boundary-scan instruction (R530): the pins are captured, a free value of 2,653 cells, and the update is kept. -/
def State.boundaryScan (s : State) (ir value : Nat) : State :=
  let x := s.draw 2653
  x.2.jtag ir x.1.toNat (fun t => { t with boundary := value % 2 ^ 2653 })

/-- EXTEST (R530). -/
def execExtest (value : Nat) (s : State) : Out := .next (s.boundaryScan 0x00 value)
/-- SAMPLE_PRELOAD (R530). -/
def execSamplePreload (value : Nat) (s : State) : Out := .next (s.boundaryScan 0x01 value)
/-- IDCODE (R530). -/
def execIdcode (_value : Nat) (s : State) : Out := .next (s.jtag 0x02 0x2938443B id)
/-- CLAMP (R530): the bypass register, which captures 0. -/
def execClamp (_value : Nat) (s : State) : Out := .next (s.jtag 0x03 0 id)
/-- HIGHZ (R530). -/
def execHighz (_value : Nat) (s : State) : Out := .next (s.jtag 0x04 0 id)
/-- BYPASS (R530). -/
def execBypass (_value : Nat) (s : State) : Out := .next (s.jtag 0xFF 0 id)
/-- TAP_RESET (R530): IDCODE is selected. -/
def execTapReset (s : State) : Out := .next (s.jtag 0x02 0x2938443B id)

/-- DTMCS (R530): version 1, 7 address bits; the idle hint is free. -/
def execDtmcs (value : Nat) (s : State) : Out :=
  let x := s.draw 3
  .next (x.2.jtag 0x10 (x.1.toNat <<< 12 + 0x71) (fun t => { t with dtmcs := value % 2 ^ 32 }))

-- the debug module behind DMI

def State.dm (s : State) (n : Nat) : Nat := (Tab.get 0 s.tap.dm n).toNat
def State.setDm (s : State) (n v : Nat) : State := { s with tap := { s.tap with dm := Tab.set 0 s.tap.dm n (w64 (v % 2 ^ 32)) } }

/-- The hart dmcontrol selects. -/
def State.dmHart (s : State) : Nat := bits (s.dm 0x10) 15 6 <<< 10 + bits (s.dm 0x10) 25 16

/-- Halt a hart: entry to debug mode closes its epoch (R124), what it has not retired is abandoned, and dpc and dcsr take its pc, cause and
mode. While its I/O-region access is outstanding it does not halt (R121); the request stands in dmcontrol. -/
def State.haltHart (s : State) (h : Nat) : State :=
  if (s.hart h).halted || !(s.hart h).started || (s.hart h).io.isSome then s
  else
    let s := ((s.tick h).abandon h).closeEpoch h 6
    let v := { s.hart h with misses := [], shadow := [], bypass := [], head := none }
    let d := 4 <<< 28 + 3 <<< 6 + (b01 v.a.virt) <<< 5 + v.a.priv
    s.setHart h { v with halted := true, a := (v.a.putCsr 0x7B1 v.a.pc.toNat).putCsr 0x7B0 d }

/-- Resume a hart: its pc and mode are those of dpc and dcsr. -/
def State.resumeHart (s : State) (h : Nat) : State :=
  let v := s.hart h
  if !v.halted then s
  else
    let d := v.a.getCsr 0x7B0
    s.setHart h { v with halted := false, wait := none, ran := s.now, a := { v.a with pc := w64 (v.a.getCsr 0x7B1), priv := bits d 1 0, virt := bitN d 5 } }

/-- abstractcs.cmderr takes its first error. -/
def State.cmdErr (s : State) (e : Nat) : State := if bits (s.dm 0x16) 10 8 = 0 then s.setDm 0x16 (e <<< 8) else s

/-- The program buffer is executed (R106): an ebreak in its first word ends it. The instructions of the base set have no command of their
own, so any other buffer ends with the exception error: DESIGN CHOICE (log entry 74). -/
def State.dmPostexec (s : State) : State :=
  if s.dm 0x20 = 0x00100073 ∨ bits (s.dm 0x20) 15 0 = 0x9002 then s else s.cmdErr 3

/-- The exception of a debugger's access to a CSR, which it makes with the rights of M-mode. -/
def dmCsrFails (n : Nat) (write : Bool) : Bool :=
  !csrDebug n && (csrTrap { priv := 3 } n 0 write).isSome

/-- An abstract command: access register, of 32 or 64 bits, on a halted hart: a CSR as an M-mode access (R106, R116-R118), a write that R67
refuses among the exceptions; then the program buffer where postexec asks for it. -/
def State.dmCommand (s : State) (v : Nat) : State :=
  let h := s.dmHart
  let n := bits v 15 0
  let size := bits v 22 20
  let old := s.dm 0x04 + s.dm 0x05 <<< 32
  let arg := if size = 2 then s.dm 0x04 else old
  let put (s : State) (w : Nat) : State := if size = 2 then s.setDm 0x04 w else (s.setDm 0x04 w).setDm 0x05 (w >>> 32)
  let a := (s.hart h).a
  let r : Reg := Fin.ofNat 32 n
  let bad := n < 0x1000 && (dmCsrFails n (bitN v 16) || (bitN v 16 && n == CSR_XNRTENANT && s.tenantRefused arg))
  let post (s : State) : State := if bitN v 18 then s.dmPostexec else s
  if bits (s.dm 0x16) 10 8 ≠ 0 then s
  else if bits v 31 24 ≠ 0 ∨ size < 2 ∨ 3 < size ∨ 0x1040 ≤ n then s.cmdErr 2
  else if 384 ≤ h ∨ !(s.hart h).halted then s.cmdErr 4
  else if !bitN v 17 then post s
  else if bad then s.cmdErr 3
  else if bitN v 16 then
    post (if n < 0x1000 then (if csrDebug n then s.withArch h (fun a => a.putCsr n arg) else s.writeCsr h n arg)
      else s.withArch h (fun a => if n < 0x1020 then a.putX r (w64 arg) else a.putF r (w64 arg)))
  else post (put s (if n < 0x1000 then s.readCsr h n else if n < 0x1020 then (a.getX r).toNat else (a.getF r).toNat))

/-- A system-bus access, which Safelight performs (R106, R530). -/
def State.dmBus (s : State) (write : Bool) : State :=
  if bits (s.dm 0x38) 19 17 ≠ 3 then s.setDm 0x38 (putBits (s.dm 0x38) 14 12 4)
  else s.rootRequest ⟨safelightReq, BitVec.ofNat 52 (s.dm 0x39 + s.dm 0x3A <<< 32), if write then .store else .load, 8,
    w64 (s.dm 0x3C + s.dm 0x3D <<< 32), s.tb, 1⟩

/-- The response of a system-bus access that has come. -/
def State.dmBusDone (s : State) : State :=
  match takeFirst (fun r => r.who == safelightReq && r.tag == 1) s.resps with
  | none => s
  | some (r, rest) =>
    let s1 : State := { s with resps := rest }.toMclk r.at_
    if r.err then s1.setDm 0x38 (putBits (s.dm 0x38) 14 12 2)
    else if r.write then s1 else (s1.setDm 0x3C r.data.toNat).setDm 0x3D (r.data.toNat >>> 32)

/-- A read of debug-module register n. -/
def State.dmRead (s : State) (n : Nat) : Nat :=
  let v := s.hart s.dmHart
  if n = 0x11 then
    let state := if 384 ≤ s.dmHart ∨ !v.started then 3 <<< 14 else if v.halted then 3 <<< 8 else 3 <<< 10
    3 + 2 ^ 7 + state + (if v.halted then 0 else 3 <<< 16)
  else if n = 0x16 then 16 <<< 24 + 2 + s.dm 0x16
  else if n = 0x38 then 1 <<< 29 + 52 <<< 5 + 2 ^ 3 + s.dm 0x38
  else s.dm n

/-- A write of debug-module register n. -/
def State.dmWrite (s : State) (n v : Nat) : State :=
  if n = 0x10 then
    let s1 := s.setDm 0x10 (putBits v 31 30 0)
    let h := s1.dmHart
    if 384 ≤ h then s1 else if bitN v 31 then s1.haltHart h else if bitN v 30 then s1.resumeHart h else s1
  else if n = 0x16 then s.setDm 0x16 (putBits (s.dm 0x16) 10 8 (bits (s.dm 0x16) 10 8 - (bits (s.dm 0x16) 10 8 &&& bits v 10 8)))
  else if n = 0x17 then s.dmCommand v
  else if n = 0x38 then
    s.setDm 0x38 (bits v 20 15 <<< 15 + (bits (s.dm 0x38) 14 12 - (bits (s.dm 0x38) 14 12 &&& bits v 14 12)) <<< 12)
  else if n = 0x39 then
    let s1 := s.setDm n v
    if bitN (s.dm 0x38) 20 then s1.dmBus false else s1
  else if n = 0x3C then (s.setDm n v).dmBus true
  else if n = 0x04 ∨ n = 0x05 ∨ (0x20 ≤ n ∧ n ≤ 0x2F) ∨ n = 0x3A ∨ n = 0x3D then s.setDm n v
  else s

/-- DMI (R530): the last operation is captured; the update performs a read (1) or a write (2). -/
def execDmi (value : Nat) (s : State) : Out :=
  let n := bits value 40 34
  let s1 := (s.dmBusDone).jtag 0x11 s.tap.dmi id
  let keep (t : State) (v : Nat) : State := { t with tap := { t.tap with dmi := n <<< 34 + v <<< 2 } }
  .next (match value % 4 with
    | 1 => keep s1 (s1.dmRead n)
    | 2 => keep (s1.dmWrite n (bits value 33 2)) (bits value 33 2)
    | _ => s1)

-- Safelight page access

/-- SL_ADDR (R530): an update starts the access; a write takes its data from the last SL_DATA update. -/
def execSlAddr (value : Nat) (s : State) : Out :=
  let s1 := s.jtag 0x40 s.tap.slAddr (fun t => { t with slAddr := value % 2 ^ 53, slResult := 0 })
  let s2 : State := { s1 with resps := s1.resps.filter (fun r => !(r.who == safelightReq && r.tag == 0)) }
  .next (s2.rootRequest ⟨safelightReq, BitVec.ofNat 52 value, if bitN value 52 then .store else .load, 8, w64 s.tap.slData, s.tb, 0⟩)

/-- The response of a Safelight access that has come sets done, error and data (R530). -/
def State.slDone (s : State) : State :=
  match takeFirst (fun r => r.who == safelightReq && r.tag == 0) s.resps with
  | none => s
  | some (r, rest) => { (s.toMclk r.at_) with resps := rest, tap := { s.tap with slResult := 2 ^ 65 + b01 r.err <<< 64 + r.data.toNat } }

/-- SL_DATA (R530): done, error and data are captured; the update holds the data of the next write. -/
def execSlData (value : Nat) (s : State) : Out :=
  let s1 := s.slDone
  .next (s1.jtag 0x41 s1.tap.slResult (fun t => { t with slData := value % 2 ^ 64 }))

end Sys2Proof.Machine
end

