-- ==== Sys2Proof/Machine/Pages.lean ====
section
/-! DEFINITION. The commands that are an access of one register: each performs the access if it addresses that register (R534), and
changes nothing if it does not. -/

namespace Sys2Proof.Machine

/-- Whether a write of a SLICE page's SLC_MAINT_CMD register names operation `op` (R204, R216). -/
def maintCmdIs (op : Nat) (o v : Nat) : Bool := decide (0x200 ≤ o) && decide (o < 0x600) && o % 0x40 == 0 && bits v 3 0 == op

/-- REGISTER_WRITE (R534): any write of a page register. -/
def execRegisterWrite (p : PageReq) (s : State) : Out := .next (if p.kind.writes then s.accessNow p else s)
/-- PG_FAULT_CLEAR (R46). -/
def execPgFaultClear (p : PageReq) (s : State) : Out :=
  .next (s.regCommand p true (fun _ => true) (fun o _ => o == 0x10))
/-- PG_STATUS_READ (R43). -/
def execPgStatusRead (p : PageReq) (s : State) : Out :=
  .next (s.regCommand p false (fun _ => true) (fun o _ => o == 0x8))
/-- POWER_REQUEST (R449). -/
def execPowerRequest (p : PageReq) (s : State) : Out :=
  .next (s.regCommand p true (fun _ => true) (fun o _ => o == 0x28))
/-- KW_HOLD_WRITE (R99). -/
def execKwHoldWrite (p : PageReq) (s : State) : Out :=
  .next (s.regCommand p true (· == .hinge) (fun o _ => o == 0x128))
/-- CORE_DOMAIN_RESET (R484). -/
def execCoreDomainReset (p : PageReq) (s : State) : Out :=
  .next (s.regCommand p true (· == .core) (fun o v => o == 0x30 && bitN v 0))
/-- CLUSTER_DOMAIN_RESET (R484). -/
def execClusterDomainReset (p : PageReq) (s : State) : Out :=
  .next (s.regCommand p true (· == .cluster) (fun o v => o == 0x30 && bitN v 0))
/-- DWEMON_DOMAIN_RESET (R484). -/
def execDwemonDomainReset (p : PageReq) (s : State) : Out :=
  .next (s.regCommand p true (· == .dwemon) (fun o v => o == 0x30 && bitN v 0))
/-- MC_DOMAIN_RESET (R484). -/
def execMcDomainReset (p : PageReq) (s : State) : Out :=
  .next (s.regCommand p true (· == .mc0) (fun o v => o == 0x30 && bitN v 0))
/-- FP_DOMAIN_RESET (R484). -/
def execFpDomainReset (p : PageReq) (s : State) : Out :=
  .next (s.regCommand p true (· == .fp0) (fun o v => o == 0x30 && bitN v 0))
/-- FP_LINK_RESET (R49). -/
def execFpLinkReset (p : PageReq) (s : State) : Out :=
  .next (s.regCommand p true (· == .fpl) (fun o v => o == 0x30 && bitN v 0))
/-- HOLDRST_CLEAR (R49). -/
def execHoldrstClear (p : PageReq) (s : State) : Out :=
  .next (s.regCommand p true resettable (fun o v => o == 0x30 && !bitN v 8))
/-- WARD_MBX_IN_WRITE (R86). -/
def execWardMbxInWrite (p : PageReq) (s : State) : Out :=
  .next (s.regCommand p true (· == .mbx) (fun o _ => decide (0x200 ≤ o) && decide (o ≤ 0x2F8)))
/-- WARD_MBX_DOORBELL (R87). -/
def execWardMbxDoorbell (p : PageReq) (s : State) : Out :=
  .next (s.regCommand p true (· == .mbx) (fun o _ => o == 0x108))
/-- BOLT (R93). -/
def execBolt (p : PageReq) (s : State) : Out :=
  .next (s.regCommand p true (· == .bolt0) (fun o v => o == 0x100 && bitN v 0))
/-- CORE_INJECT (R119). -/
def execCoreInject (p : PageReq) (s : State) : Out :=
  .next (s.regCommand p true (· == .core) (fun o _ => o == 0x118))
/-- MTIMECMP_WRITE (R120). -/
def execMtimecmpWrite (p : PageReq) (s : State) : Out :=
  .next (s.regCommand p true (· == .core) (fun o _ => o == 0x120 || o == 0x128))
/-- SLICE_ENABLE (R202). -/
def execSliceEnable (p : PageReq) (s : State) : Out :=
  .next (s.regCommand p true (· == .slice) (fun o _ => o == 0x100))
/-- SLC_MASK_WRITE (R197). -/
def execSlcMaskWrite (p : PageReq) (s : State) : Out :=
  .next (s.regCommand p true (· == .slice) (fun o _ => decide (0x140 ≤ o) && decide (o ≤ 0x1B8)))
/-- SLC_LATCH_WRITE (R199). -/
def execSlcLatchWrite (p : PageReq) (s : State) : Out :=
  .next (s.regCommand p true (· == .slice) (fun o _ => o == 0x108))
/-- MAINT_INV (R204). -/
def execMaintInv (p : PageReq) (s : State) : Out :=
  .next (s.regCommand p true (· == .slice) (maintCmdIs 0))
/-- MAINT_CLEAN (R204). -/
def execMaintClean (p : PageReq) (s : State) : Out :=
  .next (s.regCommand p true (· == .slice) (maintCmdIs 1))
/-- MAINT_FLUSH (R204). -/
def execMaintFlush (p : PageReq) (s : State) : Out :=
  .next (s.regCommand p true (· == .slice) (maintCmdIs 2))
/-- MAINT_BLANK (R204). -/
def execMaintBlank (p : PageReq) (s : State) : Out :=
  .next (s.regCommand p true (· == .slice) (maintCmdIs 3))
/-- INVALL (R202). -/
def execInvall (p : PageReq) (s : State) : Out :=
  .next (s.regCommand p true (· == .slice) (maintCmdIs 4))
/-- LATCH_FILL (R200). -/
def execLatchFill (p : PageReq) (s : State) : Out :=
  .next (s.regCommand p true (· == .slice) (maintCmdIs 5))
/-- FREEZE_RETRY (R242). -/
def execFreezeRetry (p : PageReq) (s : State) : Out :=
  .next (s.regCommand p true (· == .mc0) (fun o v => o == 0x150 && bits v 1 0 == 1))
/-- FREEZE_POISON (R242). -/
def execFreezePoison (p : PageReq) (s : State) : Out :=
  .next (s.regCommand p true (· == .mc0) (fun o v => o == 0x150 && bits v 1 0 == 2))
/-- FREEZE_RETIRE (R242). -/
def execFreezeRetire (p : PageReq) (s : State) : Out :=
  .next (s.regCommand p true (· == .mc0) (fun o v => o == 0x150 && bits v 1 0 == 3))
/-- MC_START (R233). -/
def execMcStart (p : PageReq) (s : State) : Out :=
  .next (s.regCommand p true (· == .mc2) (fun o v => o == 0x100 && bitN v 0))
/-- PHY_APPLY (R234). -/
def execPhyApply (p : PageReq) (s : State) : Out :=
  .next (s.regCommand p true (· == .phy) (fun o v => o == 0x100 && bitN v 0))
/-- MC_PAT_RUN (R248). -/
def execMcPatRun (p : PageReq) (s : State) : Out :=
  .next (s.regCommand p true (· == .mc2) (fun o v => o == 0x200 && bitN v 63))
/-- MRW (R248). -/
def execMrw (p : PageReq) (s : State) : Out :=
  .next (s.regCommand p true (· == .mc2) (fun o v => o == 0x218 && bitN v 63 && bits v 61 60 == 0))
/-- MRR (R248). -/
def execMrr (p : PageReq) (s : State) : Out :=
  .next (s.regCommand p true (· == .mc2) (fun o v => o == 0x218 && bitN v 63 && bits v 61 60 == 1))
/-- MPC (R248). -/
def execMpc (p : PageReq) (s : State) : Out :=
  .next (s.regCommand p true (· == .mc2) (fun o v => o == 0x218 && bitN v 63 && bits v 61 60 == 2))
/-- MC_ECC_WRITE (R236). -/
def execMcEccWrite (p : PageReq) (s : State) : Out :=
  .next (s.regCommand p true (· == .mc0) (fun o _ => o == 0x140))
/-- INJECT_SYMBOL (R249). -/
def execInjectSymbol (p : PageReq) (s : State) : Out :=
  .next (s.regCommand p true (· == .mc0) (fun o v => o == 0x158 && bitN v 63 && bits v 62 60 == 1))
/-- INJECT_DEVICE (R249). -/
def execInjectDevice (p : PageReq) (s : State) : Out :=
  .next (s.regCommand p true (· == .mc0) (fun o v => o == 0x158 && bitN v 63 && bits v 62 60 == 2))
/-- INJECT_UNCORRECTABLE (R249). -/
def execInjectUncorrectable (p : PageReq) (s : State) : Out :=
  .next (s.regCommand p true (· == .mc0) (fun o v => o == 0x158 && bitN v 63 && bits v 62 60 == 3))
/-- INJECT_CA_PARITY (R249). -/
def execInjectCaParity (p : PageReq) (s : State) : Out :=
  .next (s.regCommand p true (· == .mc0) (fun o v => o == 0x158 && bitN v 63 && bits v 62 60 == 4))
/-- DE_HCTX_WRITE (R289). -/
def execDeHctxWrite (p : PageReq) (s : State) : Out :=
  .next (s.regCommand p true (· == .dwemon) (fun o _ => o == 0x110))
/-- DE_HALT_RESUME (R289). -/
def execDeHaltResume (p : PageReq) (s : State) : Out :=
  .next (s.regCommand p true (· == .dwemon) (fun o v => o == 0x118 && bitN v 63))
/-- DMA_DOORBELL (R348). -/
def execDmaDoorbell (p : PageReq) (s : State) : Out :=
  .next (s.regCommand p true (· == .dmach) (fun o _ => o == 0x118))
/-- DMA_PAUSE (R356). -/
def execDmaPause (p : PageReq) (s : State) : Out :=
  .next (s.regCommand p true (· == .dmach) (fun o v => o == 0x150 && bits v 2 1 == 0))
/-- DMA_RESUME (R358). -/
def execDmaResume (p : PageReq) (s : State) : Out :=
  .next (s.regCommand p true (· == .dmach) (fun o v => o == 0x150 && bitN v 1))
/-- DMA_ABORT (R358). -/
def execDmaAbort (p : PageReq) (s : State) : Out :=
  .next (s.regCommand p true (· == .dmach) (fun o v => o == 0x150 && bitN v 2))
/-- DMA_MODE_WRITE (R354). -/
def execDmaModeWrite (p : PageReq) (s : State) : Out :=
  .next (s.regCommand p true (· == .dma) (fun o _ => o == 0x100))
/-- TGT_CLAIM (R376). -/
def execTgtClaim (p : PageReq) (s : State) : Out :=
  .next (s.regCommand p false (· == .target) (fun o _ => o == 0x110))
/-- TGT_EOI (R377). -/
def execTgtEoi (p : PageReq) (s : State) : Out :=
  .next (s.regCommand p true (· == .target) (fun o _ => o == 0x118))
/-- IRT_PEND_CLEAR (R369). -/
def execIrtPendClear (p : PageReq) (s : State) : Out :=
  .next (s.regCommand p true (· == .irtPend) (fun o _ => decide (0x100 ≤ o) && decide (o ≤ 0x8F8)))
/-- DOMAIN_DISABLE (R369). -/
def execDomainDisable (p : PageReq) (s : State) : Out :=
  .next (s.regCommand p true (· == .irtDom) (fun o v => decide (0x100 ≤ o) && decide (o < 0x900) && o % 16 == 0 && !bitN v 63))
/-- TGT_CTL_WRITE (R379). -/
def execTgtCtlWrite (p : PageReq) (s : State) : Out :=
  .next (s.regCommand p true (· == .target) (fun o _ => o == 0x100))
/-- RELEASE (R404). -/
def execRelease (p : PageReq) (s : State) : Out :=
  .next (s.regCommand p true (· == .fpl) (fun o v => o == 0x108 && bitN v 1))
/-- FP_PRGRESP (R401). -/
def execFpPrgresp (p : PageReq) (s : State) : Out :=
  .next (s.regCommand p true (· == .fp0) (fun o _ => o == 0x138))
/-- FP_ATSINV (R400). -/
def execFpAtsinv (p : PageReq) (s : State) : Out :=
  .next (s.regCommand p true (· == .fp0) (fun o v => o == 0x110 && bitN v 63))
/-- FP_EVENT_READ (R410). -/
def execFpEventRead (p : PageReq) (s : State) : Out :=
  .next (s.regCommand p false (· == .fp0) (fun o _ => o == 0x108))
/-- RAS_RETIRE_CORE (R437). -/
def execRasRetireCore (p : PageReq) (s : State) : Out :=
  .next (s.regCommand p true (· == .ras0) (fun o v => o == 0x128 && bits v 63 60 == 1))
/-- RAS_RETIRE_CLUSTER (R438). -/
def execRasRetireCluster (p : PageReq) (s : State) : Out :=
  .next (s.regCommand p true (· == .ras0) (fun o v => o == 0x128 && bits v 63 60 == 2))
/-- RAS_RETIRE_SLICE (R437). -/
def execRasRetireSlice (p : PageReq) (s : State) : Out :=
  .next (s.regCommand p true (· == .ras0) (fun o v => o == 0x128 && bits v 63 60 == 3))
/-- RAS_RETIRE_ENGINE (R437). -/
def execRasRetireEngine (p : PageReq) (s : State) : Out :=
  .next (s.regCommand p true (· == .ras0) (fun o v => o == 0x128 && bits v 63 60 == 4))
/-- RAS_MOVE_HART (R428). -/
def execRasMoveHart (p : PageReq) (s : State) : Out :=
  .next (s.regCommand p true (· == .ras0) (fun o v => o == 0x128 && bits v 63 60 == 5))
/-- RAS_LOG_ACK_WRITE (R443). -/
def execRasLogAckWrite (p : PageReq) (s : State) : Out :=
  .next (s.regCommand p true (· == .ras0) (fun o _ => o == 0x118))
/-- CL_NEG_DATA_ACCESS (R445). -/
def execClNegDataAccess (p : PageReq) (s : State) : Out :=
  .next (s.regCommand p p.kind.writes (· == .neg) (fun o _ => o == 0x148))
/-- PWR_PKG_WRITE (R458). -/
def execPwrPkgWrite (p : PageReq) (s : State) : Out :=
  .next (s.regCommand p true (· == .pwr) (fun o _ => o == 0x100))
/-- PWR_RESET_WARD (R497). -/
def execPwrResetWard (p : PageReq) (s : State) : Out :=
  .next (s.regCommand p true (· == .pwr) (fun o v => o == 0x130 && bitN v 0 && !bitN v 1))

end Sys2Proof.Machine
end

