-- ==== Sys2Proof/Machine/Power.lean ====
section
/-! DEFINITION. The events of power, supply and temperature (15 R446-R480). -/

namespace Sys2Proof.Machine

/-- CORE_ENTRY (R455). -/
def execCoreEntry (k : CoreId) (s : State) : Out := .next (s.coreEntry k.val)
/-- CLUSTER_ENTRY (R457). -/
def execClusterEntry (c : Tile) (s : State) : Out := .next (s.clusterEntry c.val)
/-- PACKAGE_SLEEP_ENTRY (R459). -/
def execPackageSleepEntry (consent : Bool) (s : State) : Out := .next (s.pkgEntry consent)
/-- WAKE_EVENT (R452, R454). -/
def execWakeEvent (k : CoreId) (s : State) : Out := .next (s.wakeEvent k.val)
/-- C1_EXIT (R450). -/
def execC1Exit (k : CoreId) (s : State) : Out := .next (s.c1Exit k.val)
/-- C2_EXIT (R453, R461). -/
def execC2Exit (k : CoreId) (s : State) : Out := .next (s.c2Exit k.val)
/-- C3_EXIT (R455, R461); the Hinge applies the writes it holds for the core (R462). -/
def execC3Exit (k : CoreId) (s : State) : Out := .next ((s.c3Exit k.val).applyHeld (tileStop (k.val / 4)))
/-- K1_EXIT (R461). -/
def execK1Exit (c : Tile) (s : State) : Out := .next (s.clusterExit c.val 1)
/-- K2_EXIT (R461, R462). -/
def execK2Exit (c : Tile) (s : State) : Out := .next ((s.clusterExit c.val 2).applyHeld (tileStop c.val))
/-- PACKAGE_SLEEP_EXIT (R461): every Hinge applies the writes it holds (R462). -/
def execPackageSleepExit (s : State) : Out := .next ((List.range 120).foldl (fun s n => s.applyHeld n) s.pkgWakes)
/-- DVFS_TRANSITION (R464). -/
def execDvfsTransition (k : CoreId) (s : State) : Out := .next (s.dvfs k.val)
/-- DVFS_TRANSITION_END (R464). -/
def execDvfsTransitionEnd (k : CoreId) (s : State) : Out := .next (s.dvfsDone k.val)
/-- VIN_CORE_WARNING (R466). -/
def execVinCoreWarning (s : State) : Out := .next s.vinWarning
/-- STRETCH_END (R467). -/
def execStretchEnd (mv : BitVec 16) (s : State) : Out := .next (s.stretchEnd mv.toNat)
/-- VDD_AON_WARNING (R467). -/
def execVddAonWarning (s : State) : Out := .next s.aonWarning
/-- VDD_AON_RECOVERY (R467). -/
def execVddAonRecovery (mv : BitVec 16) (s : State) : Out := .next (s.aonRecovery mv.toNat)
/-- THERMAL_SAMPLE (R468). -/
def execThermalSample (readings : List Word) (s : State) : Out := .next (s.thermalSample readings)
/-- THERMAL_CAP_REVIEW (R469). -/
def execThermalCapReview (s : State) : Out := .next s.capReview
/-- PROCHOT_ASSERT (R471). -/
def execProchotAssert (s : State) : Out := .next s.prochotIn
/-- PROCHOT_RELEASE (R471). -/
def execProchotRelease (s : State) : Out := .next s.prochotOut

end Sys2Proof.Machine
end

