-- ==== Sys2Proof/Machine/Ras.lean ====
section
/-! DEFINITION. The events of recovery (14 R412-R445). -/

namespace Sys2Proof.Machine

/-- CORE_FAULT (R423): of a core that runs a hart. -/
def execCoreFault (k : CoreId) (epoch : Nat) (checker : Fin 6) (s : State) : Out :=
  .next (match s.coreHart k.val with
    | some h => if s.hartOn h then s.coreFault k.val epoch checker.val else s
    | none => s)
/-- REPRINT (R425). -/
def execReprint (h : HartId) (readable : Bool) (s : State) : Out := .next (s.reprintEnd h.val readable)
/-- HART_MOVE (R428). -/
def execHartMove (h : HartId) (s : State) : Out := .next (s.migrate h.val)
/-- FENCED_CORE_BIST (R430). -/
def execFencedCoreBist (k : CoreId) (pass : Bool) (s : State) : Out := .next (s.fencedBist k.val pass)
/-- HART_SWITCH (R426). -/
def execHartSwitch (k : CoreId) (s : State) : Out := .next (s.hartSwitch k.val)
/-- LOG_RECORD (R416). -/
def execLogRecord (s : State) : Out := .next s.logRecord
/-- COALESCED_REPORT (R415). -/
def execCoalescedReport (n : Stop) (b : BitVec 8) (s : State) : Out :=
  .next (if (pageAt (pageBase n.val b.toNat)).isSome then s.coalesced (pageBase n.val b.toNat) else s)
/-- PLDM_RESEND (R440). -/
def execPldmResend (s : State) : Out := .next s.pldmSend
/-- L2_ARRAY_ERROR (R437). -/
def execL2ArrayError (c : Tile) (err : ArrayError) (s : State) : Out := .next (s.l2Error c.val err)

end Sys2Proof.Machine
end

