-- ==== Sys2Proof/Machine/Reset.lean ====
section
/-! DEFINITION. The events of reset and bring-up (16 R481-R492). -/

namespace Sys2Proof.Machine

/-- DOMAIN_RESET_DONE (R484). -/
def execDomainResetDone (n : Stop) (b : BitVec 8) (s : State) : Out := .next (s.domainDone n.val b.toNat)
/-- COLD_RESET (R481). -/
def execColdReset (cause : Fin 3) (s : State) : Out := .next (s.coldReset cause.val)
/-- WARM_RESET (R483). -/
def execWarmReset (pin : Bool) (s : State) : Out := .next (s.warmReset pin)
/-- REFCLK_SYS_LOSS (R521): a cold reset recorded as COLD_PWRGOOD. -/
def execRefclkSysLoss (s : State) : Out := .next (s.coldReset 0)
/-- BOOT_AON (R485). -/
def execBootAon (socket : Fin 16) (test : Bool) (s : State) : Out := .next (s.bootAon socket.val test)
/-- BOOT_ROM (R485). -/
def execBootRom (s : State) : Out := .next s.bootRom
/-- BOOT_AUTH (R486). -/
def execBootAuth (image : Option BootImage) (s : State) : Out := .next (s.bootAuth image)
/-- BOOT_MESH (R485, R487). -/
def execBootMesh (s : State) : Out := .next s.bootMesh
/-- CHANNEL_TRAINING_DONE (R488). -/
def execChannelTrainingDone (m : McId) (pass : Bool) (s : State) : Out := .next (s.trainingDone m.val pass)
/-- CHANNEL_ZEROING_DONE (R488). -/
def execChannelZeroingDone (m : McId) (s : State) : Out := .next (s.zeroingDone m.val)
/-- CLUSTER_BIST_DONE (R489). -/
def execClusterBistDone (c : Tile) (pass : Bool) (s : State) : Out := .next (s.bistDone c.val pass)
/-- BOOT_CHANNEL_READY (R490). -/
def execBootChannelReady (s : State) : Out := .next s.bootChannelReady
/-- HASH_OPEN (R492). -/
def execHashOpen (s : State) : Out := .next s.hashOpen
/-- BOOT_TIMEOUT (R491). -/
def execBootTimeout (s : State) : Out := .next s.bootTimeout

end Sys2Proof.Machine
end

