-- ==== Sys2Proof/Machine/Sideband.lean ====
section
/-! DEFINITION. The I3C sideband to the BMC: common command codes, the MCTP endpoint and mailbox requests (18 R527-R529). -/

namespace Sys2Proof.Machine

/-- The I3C target answers a common command code (R527). -/
def State.i3c (s : State) (f : Sideband → Sideband) : State := { s with sideband := f s.sideband }

/-- Static I3C address (R527). -/
def State.i3cStatic (s : State) : Nat := 0x30 + s.boot.socket

/-- ENEC (R527): enable in-band interrupts. -/
def execEnec (value : Word) (s : State) : Out := .next (if bitN value.toNat 0 then s.i3c (fun b => { b with events := true }) else s)
/-- DISEC (R527). -/
def execDisec (value : Word) (s : State) : Out := .next (if bitN value.toNat 0 then s.i3c (fun b => { b with events := false }) else s)
/-- RSTDAA (R527): the dynamic address is given up. -/
def execRstdaa (_value : Word) (s : State) : Out := .next (s.i3c (fun b => { b with dynamic := none }))
/-- SETDASA (R527): a dynamic address for the target at its static address. -/
def execSetdasa (value : Word) (s : State) : Out := .next (s.i3c (fun b => { b with dynamic := some (value.toNat % 128) }))
/-- SETAASA (R527): the static address becomes the dynamic address. -/
def execSetaasa (_value : Word) (s : State) : Out := .next (s.i3c (fun b => { b with dynamic := some s.i3cStatic }))
/-- ENTDAA (R527): the address the controller assigns, by a target that has none. -/
def execEntdaa (value : Word) (s : State) : Out :=
  .next (s.i3c (fun b => if b.dynamic.isNone then { b with dynamic := some (value.toNat % 128) } else b))
/-- SETMWL (R527, R528): at most 256. -/
def execSetmwl (value : Word) (s : State) : Out := .next (s.i3c (fun b => { b with mwl := min 256 (value.toNat % 65536) }))
/-- SETMRL (R527, R528): at most 256. -/
def execSetmrl (value : Word) (s : State) : Out := .next (s.i3c (fun b => { b with mrl := min 256 (value.toNat % 65536) }))
/-- GETMWL (R527). -/
def execGetmwl (_value : Word) (s : State) : Out := .next (s.i3c (fun b => { b with reply := b.mwl }))
/-- GETMRL (R527). -/
def execGetmrl (_value : Word) (s : State) : Out := .next (s.i3c (fun b => { b with reply := b.mrl }))
/-- GETPID (R527): the part serial [31:0] in the low bits; the other 16 bits are free. -/
def execGetpid (_value : Word) (s : State) : Out :=
  let x := s.draw 16
  .next (x.2.i3c (fun b => { b with reply := x.1.toNat <<< 32 + bits Config.partSerial.toNat 31 0 }))
/-- GETBCR (R527). -/
def execGetbcr (_value : Word) (s : State) : Out := .next (s.i3c (fun b => { b with reply := 0x06 }))
/-- GETDCR (R527). -/
def execGetdcr (_value : Word) (s : State) : Out := .next (s.i3c (fun b => { b with reply := 0x00 }))
/-- GETSTATUS (R527): the status word is not given, a free value. -/
def execGetstatus (_value : Word) (s : State) : Out :=
  let x := s.draw 16
  .next (x.2.i3c (fun b => { b with reply := x.1.toNat }))
/-- RSTACT (R527): the reset action is stored. -/
def execRstact (value : Word) (s : State) : Out := .next (s.i3c (fun b => { b with rstact := value.toNat % 256 }))

/-- The Ward serves the endpoint: it runs, and the part is not shut down (R485, R472). -/
def State.bmcServed (s : State) : Bool := decide (2 ≤ s.boot.done) && !s.power.off

/-- An MCTP control message (R528, DSP0236): byte 0 the type, byte 1 request and instance, byte 2 the command. Set and Get Endpoint
ID, the UUID, the versions and the message types are answered, every other command as unsupported. -/
def State.mctpControl (s : State) (m : List Byte) : State :=
  let b1 := (m.getD 1 0).toNat
  let cmd := (m.getD 2 0).toNat
  let head : List Byte := [0x00, BitVec.ofNat 8 (b1 % 32), m.getD 2 0]
  if m.headD 0xFF ≠ 0 ∨ m.length < 3 ∨ b1 < 128 then s
  else if cmd = 1 then
    let op := (m.getD 3 0).toNat % 4
    let e := (m.getD 4 0).toNat
    if m.length < 5 then s.toBmc (head ++ [0x03])
    else if 1 < op ∨ e = 0 ∨ e = 0xFF then s.toBmc (head ++ [0x02])
    else (s.i3c (fun b => { b with eid := e })).toBmc (head ++ [0x00, 0x00, BitVec.ofNat 8 e, 0x00])
  else if cmd = 2 then s.toBmc (head ++ [0x00, BitVec.ofNat 8 s.sideband.eid, 0x00, 0x00])
  else if cmd = 3 then
    let x := s.draw 128
    x.2.toBmc (head ++ [0x00] ++ leBytes 16 x.1.toNat)
  else if cmd = 4 then
    let ty := (m.getD 3 0).toNat
    if ty = 0 ∨ ty = 0xFF then s.toBmc (head ++ [0x00, 0x01, 0xF1, 0xF3, 0xF0, 0x00])
    else if ty = 1 ∨ ty = 5 ∨ ty = 0x7E then
      let x := s.draw 32
      x.2.toBmc (head ++ [0x00, 0x01] ++ leBytes 4 x.1.toNat)
    else s.toBmc (head ++ [0x80])
  else if cmd = 5 then s.toBmc (head ++ [0x00, 0x03, 0x01, 0x05, 0x7E])
  else s.toBmc (head ++ [0x05])

/-- MCTP_CONTROL_MESSAGE (R528). -/
def execMctpControlMessage (msg : List Byte) (s : State) : Out := .next (if s.bmcServed then s.mctpControl msg else s)

/-- PLDM_MESSAGE (R440, R528): the BMC's response to the health event ends its resending; byte 1 has the request bit, byte 2 the PLDM
type 2 (platform), byte 3 the command 0x0A (PlatformEventMessage). Other PLDM messages ask nothing of the part. -/
def execPldmMessage (msg : List Byte) (s : State) : Out :=
  .next (if s.bmcServed && msg.headD 0 == 1 && decide ((msg.getD 1 0).toNat < 128) && (msg.getD 2 0).toNat % 64 == 2 && msg.getD 3 0 == 0x0A
    then s.setFld (rasPg 0) R.RAS_HEALTH_PLDMPEND 0 else s)

/-- Write IN registers of a mailbox. -/
def State.putIn (s : State) (b : Nat) (ws : List Nat) : State :=
  (ws.zip (List.range ws.length)).foldl (fun s x => s.setReg (mbxPg b + 0x200 + 8 * x.2) x.1) s

/-- The bytes of a message as little-endian words, the last padded with zeros (R5). -/
def wordsOf : Nat → List Byte → List Nat
  | 0, _ => []
  | n + 1, m => leValue (m.take 8) :: wordsOf n (m.drop 8)

/-- Whether mailbox b takes a request now (R86, R87). -/
def State.mbxFree (s : State) (b : Nat) : Bool :=
  let st := s.fld (mbxPg b) R.WARD_MBX_STATUS_STATE
  s.flag (mbxPg b) R.WARD_MBX_ASSIGN_EN && st != 1 && st != 2

/-- An SPDM message over MCTP (R528): command SPDM on the next of MBX24 to MBX27 that is free, in rotation; with none free, or longer
than 31 words, it is discarded. The SEQ of that doorbell is free. -/
def State.mctpSpdm (s : State) (m : List Byte) : State :=
  let body := m.drop 1
  let n := ceilDiv body.length 8
  if m.headD 0 ≠ 5 ∨ n = 0 ∨ 31 < n then s
  else match ((List.range 4).map (fun i => (s.sideband.spdmNext + i) % 4)).find? (fun i => s.mbxFree (24 + i)) with
    | none => s
    | some i =>
      let x := (s.putIn (24 + i) ((0x0090 <<< 48 + n <<< 40) :: wordsOf n body)).draw 16
      (x.2.mbxDoorbell (24 + i) x.1.toNat).i3c (fun b => { b with spdmNext := (i + 1) % 4, bmcBusy := b.bmcBusy ++ [32 + (24 + i)] })

/-- MCTP_SPDM_MESSAGE (R528). -/
def execMctpSpdmMessage (msg : List Byte) (s : State) : Out := .next (if s.bmcServed then s.mctpSpdm msg else s)

/-- A mailbox request of the BMC (R86, R529). -/
def State.bmcMbx (s : State) (m : List Byte) : State :=
  let b := (m.getD 3 0).toNat
  let seq := leValue ((m.drop 5).take 2)
  let ws := m.drop 7
  let n := bits (leValue (ws.take 8)) 47 40
  let fits := ws.length == 8 * (n + 1) && decide (n ≤ 31)
  if m.take 3 ≠ [0x7E, 0x1D, 0x4E] ∨ m.length < 7 ∨ m.getD 4 0 ≠ 0x01 then s
  else if b < 24 ∨ 27 < b then s.toBmc (bmcHeader b 0x83 seq)
  else if !fits || !s.flag (mbxPg b) R.WARD_MBX_ASSIGN_EN then s.toBmc (bmcHeader b 0x83 seq)
  else if !s.mbxFree b then
    let s1 := s.setFld (mbxPg b) R.WARD_MBX_STATUS_REJECT 1
    s1.toBmc (bmcHeader b 0x82 seq ++ leBytes 8 (s1.reg (mbxPg b + 0x100)))
  else ((s.putIn b (wordsOf (n + 1) ws)).mbxDoorbell b seq).i3c (fun x => { x with bmcBusy := x.bmcBusy ++ [b] })

/-- BMC_MBX_REQUEST (R529). -/
def execBmcMbxRequest (msg : List Byte) (s : State) : Out := .next (if s.bmcServed then s.bmcMbx msg else s)

end Sys2Proof.Machine
end

