-- ==== Sys2Proof/Machine/Dispatch.lean ====
section
/-! DEFINITION. The dispatch of commands to their meanings, one arm for each command. -/

namespace Sys2Proof.Machine

/-- The effect of a command. -/
def exec (i : Instr) (s : State) : Host.Outcome State Fault Refusal :=
  match i with
  | .registerWrite p => Sys2Proof.Machine.execRegisterWrite p s
  | .pgFaultClear p => Sys2Proof.Machine.execPgFaultClear p s
  | .pgStatusRead p => Sys2Proof.Machine.execPgStatusRead p s
  | .pageRequestArrival p => Sys2Proof.Machine.execPageRequestArrival p s
  | .keywayRootRequest p => Sys2Proof.Machine.execKeywayRootRequest p s
  | .hingeTurn n => Sys2Proof.Machine.execHingeTurn n s
  | .pageAccessTimeout p => Sys2Proof.Machine.execPageAccessTimeout p s
  | .ioResponse h f => Sys2Proof.Machine.execIoResponse h f s
  | .powerRequest p => Sys2Proof.Machine.execPowerRequest p s
  | .heldRequestProceeds n => Sys2Proof.Machine.execHeldRequestProceeds n s
  | .kwHoldWrite p => Sys2Proof.Machine.execKwHoldWrite p s
  | .coreDomainReset p => Sys2Proof.Machine.execCoreDomainReset p s
  | .clusterDomainReset p => Sys2Proof.Machine.execClusterDomainReset p s
  | .dwemonDomainReset p => Sys2Proof.Machine.execDwemonDomainReset p s
  | .mcDomainReset p => Sys2Proof.Machine.execMcDomainReset p s
  | .fpDomainReset p => Sys2Proof.Machine.execFpDomainReset p s
  | .fpLinkReset p => Sys2Proof.Machine.execFpLinkReset p s
  | .domainResetDone n b => Sys2Proof.Machine.execDomainResetDone n b s
  | .holdrstClear p => Sys2Proof.Machine.execHoldrstClear p s
  | .xnrtenantWrite h value insn => Sys2Proof.Machine.execXnrtenantWrite h value insn s
  | .xnrctlWrite h value insn => Sys2Proof.Machine.execXnrctlWrite h value insn s
  | .tctApplyEdge => Sys2Proof.Machine.execTctApplyEdge s
  | .wardMbxInWrite p => Sys2Proof.Machine.execWardMbxInWrite p s
  | .wardMbxDoorbell p => Sys2Proof.Machine.execWardMbxDoorbell p s
  | .mbxAcknowledge b => Sys2Proof.Machine.execMbxAcknowledge b s
  | .mbxFixedCompletion b => Sys2Proof.Machine.execMbxFixedCompletion b s
  | .info b => Sys2Proof.Machine.execInfo b s
  | .otpProvision b => Sys2Proof.Machine.execOtpProvision b s
  | .boltNow b => Sys2Proof.Machine.execBoltNow b s
  | .tenantSet b => Sys2Proof.Machine.execTenantSet b s
  | .tenantClear b => Sys2Proof.Machine.execTenantClear b s
  | .apertureSet b => Sys2Proof.Machine.execApertureSet b s
  | .ctxBase b => Sys2Proof.Machine.execCtxBase b s
  | .keyGen b => Sys2Proof.Machine.execKeyGen b s
  | .keyImport b => Sys2Proof.Machine.execKeyImport b s
  | .keyErase b => Sys2Proof.Machine.execKeyErase b s
  | .schedLoad b => Sys2Proof.Machine.execSchedLoad b s
  | .pageRead b => Sys2Proof.Machine.execPageRead b s
  | .pageWrite b => Sys2Proof.Machine.execPageWrite b s
  | .holdRelease b consent => Sys2Proof.Machine.execHoldRelease b consent s
  | .slNonce b => Sys2Proof.Machine.execSlNonce b s
  | .slGrant b => Sys2Proof.Machine.execSlGrant b s
  | .slGrantEnd => Sys2Proof.Machine.execSlGrantEnd s
  | .logRead b => Sys2Proof.Machine.execLogRead b s
  | .mbxAssign b => Sys2Proof.Machine.execMbxAssign b s
  | .spdm b reply => Sys2Proof.Machine.execSpdm b reply s
  | .wardReset => Sys2Proof.Machine.execWardReset s
  | .wardWatchdogExpiry => Sys2Proof.Machine.execWardWatchdogExpiry s
  | .wardRestartFailure => Sys2Proof.Machine.execWardRestartFailure s
  | .wardPeriodicReset => Sys2Proof.Machine.execWardPeriodicReset s
  | .bolt p => Sys2Proof.Machine.execBolt p s
  | .pbFlush h insn => Sys2Proof.Machine.execPbFlush h insn s
  | .pbBar h insn => Sys2Proof.Machine.execPbBar h insn s
  | .taskSubmit h insn => Sys2Proof.Machine.execTaskSubmit h insn s
  | .coreInject p => Sys2Proof.Machine.execCoreInject p s
  | .mtimecmpWrite p => Sys2Proof.Machine.execMtimecmpWrite p s
  | .mtimecmpReached h => Sys2Proof.Machine.execMtimecmpReached h s
  | .trapEntry h exc tval => Sys2Proof.Machine.execTrapEntry h exc tval s
  | .epochClose h cause => Sys2Proof.Machine.execEpochClose h cause s
  | .epochCheckClear h check => Sys2Proof.Machine.execEpochCheckClear h check s
  | .load h rd rs1 off size sx fp => Sys2Proof.Machine.execLoad h rd rs1 off size sx fp s
  | .store h rs2 rs1 off size fp => Sys2Proof.Machine.execStore h rs2 rs1 off size fp s
  | .fillArrival f => Sys2Proof.Machine.execFillArrival f s
  | .fence h pred succ tso => Sys2Proof.Machine.execFence h pred succ tso s
  | .fenceI h => Sys2Proof.Machine.execFenceI h s
  | .amo h rd rs1 rs2 op size aqrl => Sys2Proof.Machine.execAmo h rd rs1 rs2 op size aqrl s
  | .lr h rd rs1 size aqrl => Sys2Proof.Machine.execLr h rd rs1 size aqrl s
  | .sc h rd rs1 rs2 size aqrl => Sys2Proof.Machine.execSc h rd rs1 rs2 size aqrl s
  | .lrSnoopDeferEnd h => Sys2Proof.Machine.execLrSnoopDeferEnd h s
  | .ioRegionAccess h rd rs1 off size sx write => Sys2Proof.Machine.execIoRegionAccess h rd rs1 off size sx write s
  | .wfi h => Sys2Proof.Machine.execWfi h s
  | .pause h => Sys2Proof.Machine.execPause h s
  | .wrsSto h => Sys2Proof.Machine.execWrsSto h s
  | .cboClean h rs1 => Sys2Proof.Machine.execCboClean h rs1 s
  | .cboFlush h rs1 => Sys2Proof.Machine.execCboFlush h rs1 s
  | .cboInval h rs1 => Sys2Proof.Machine.execCboInval h rs1 s
  | .cboZero h rs1 => Sys2Proof.Machine.execCboZero h rs1 s
  | .prefetchR h rs1 off => Sys2Proof.Machine.execPrefetchR h rs1 off s
  | .prefetchI h rs1 off => Sys2Proof.Machine.execPrefetchI h rs1 off s
  | .prefetchW h rs1 off => Sys2Proof.Machine.execPrefetchW h rs1 off s
  | .flitPresent f => Sys2Proof.Machine.execFlitPresent f s
  | .flitInject n plane => Sys2Proof.Machine.execFlitInject n plane s
  | .flitHop f dest errs => Sys2Proof.Machine.execFlitHop f dest errs s
  | .linkRetrySend n dir plane => Sys2Proof.Machine.execLinkRetrySend n dir plane s
  | .linkRepair n dir plane wires => Sys2Proof.Machine.execLinkRepair n dir plane wires s
  | .failedLinkResolve f => Sys2Proof.Machine.execFailedLinkResolve f s
  | .flitEject f => Sys2Proof.Machine.execFlitEject f s
  | .bounceReceived f => Sys2Proof.Machine.execBounceReceived f s
  | .schedSwapPause => Sys2Proof.Machine.execSchedSwapPause s
  | .schedSwap => Sys2Proof.Machine.execSchedSwap s
  | .sliceRd f => Sys2Proof.Machine.execSliceRd f s
  | .sliceRdown f => Sys2Proof.Machine.execSliceRdown f s
  | .sliceUpgrade f => Sys2Proof.Machine.execSliceUpgrade f s
  | .slicePrefetch f => Sys2Proof.Machine.execSlicePrefetch f s
  | .sliceBlank f => Sys2Proof.Machine.execSliceBlank f s
  | .sliceWrline f => Sys2Proof.Machine.execSliceWrline f s
  | .sliceCmoClean f => Sys2Proof.Machine.execSliceCmoClean f s
  | .sliceCmoFlush f => Sys2Proof.Machine.execSliceCmoFlush f s
  | .sliceCmoInval f => Sys2Proof.Machine.execSliceCmoInval f s
  | .sliceUntrackedRead f => Sys2Proof.Machine.execSliceUntrackedRead f s
  | .sliceUntrackedWrite f => Sys2Proof.Machine.execSliceUntrackedWrite f s
  | .sliceAtomic f => Sys2Proof.Machine.execSliceAtomic f s
  | .bisnp f => Sys2Proof.Machine.execBisnp f s
  | .snoopResponse f => Sys2Proof.Machine.execSnoopResponse f s
  | .sliceFillArrival f => Sys2Proof.Machine.execSliceFillArrival f s
  | .snpinv f => Sys2Proof.Machine.execSnpinv f s
  | .snpshare f => Sys2Proof.Machine.execSnpshare f s
  | .snpclean f => Sys2Proof.Machine.execSnpclean f s
  | .sliceEnable p => Sys2Proof.Machine.execSliceEnable p s
  | .slcMaskWrite p => Sys2Proof.Machine.execSlcMaskWrite p s
  | .slcLatchWrite p => Sys2Proof.Machine.execSlcLatchWrite p s
  | .latchEmptyDone c => Sys2Proof.Machine.execLatchEmptyDone c s
  | .maintInv p => Sys2Proof.Machine.execMaintInv p s
  | .maintClean p => Sys2Proof.Machine.execMaintClean p s
  | .maintFlush p => Sys2Proof.Machine.execMaintFlush p s
  | .maintBlank p => Sys2Proof.Machine.execMaintBlank p s
  | .invall p => Sys2Proof.Machine.execInvall p s
  | .latchFill p => Sys2Proof.Machine.execLatchFill p s
  | .maintDone c k => Sys2Proof.Machine.execMaintDone c k s
  | .sliceArrayError c err => Sys2Proof.Machine.execSliceArrayError c err s
  | .sliceRetire c => Sys2Proof.Machine.execSliceRetire c s
  | .homeMapApply => Sys2Proof.Machine.execHomeMapApply s
  | .sliceRetireWalk c => Sys2Proof.Machine.execSliceRetireWalk c s
  | .mcRead f => Sys2Proof.Machine.execMcRead f s
  | .mcWrite f => Sys2Proof.Machine.execMcWrite f s
  | .mcCommandIssue m sub win => Sys2Proof.Machine.execMcCommandIssue m sub win s
  | .mcReadData m tag => Sys2Proof.Machine.execMcReadData m tag s
  | .alertN m sub => Sys2Proof.Machine.execAlertN m sub s
  | .freezeSelfRefresh m => Sys2Proof.Machine.execFreezeSelfRefresh m s
  | .freezeRetry p => Sys2Proof.Machine.execFreezeRetry p s
  | .freezePoison p => Sys2Proof.Machine.execFreezePoison p s
  | .freezeRetire p => Sys2Proof.Machine.execFreezeRetire p s
  | .freezeTimeout m => Sys2Proof.Machine.execFreezeTimeout m s
  | .mcFrameStart m => Sys2Proof.Machine.execMcFrameStart m s
  | .maintWindow m hot => Sys2Proof.Machine.execMaintWindow m hot s
  | .selfRefreshEntry m => Sys2Proof.Machine.execSelfRefreshEntry m s
  | .mcStart p => Sys2Proof.Machine.execMcStart p s
  | .mcFrame0 m => Sys2Proof.Machine.execMcFrame0 m s
  | .phyApply p => Sys2Proof.Machine.execPhyApply p s
  | .mcPatRun p => Sys2Proof.Machine.execMcPatRun p s
  | .mcPatDone m lanes => Sys2Proof.Machine.execMcPatDone m lanes s
  | .mrw p => Sys2Proof.Machine.execMrw p s
  | .mrr p => Sys2Proof.Machine.execMrr p s
  | .mpc p => Sys2Proof.Machine.execMpc p s
  | .mcEccWrite p => Sys2Proof.Machine.execMcEccWrite p s
  | .injectSymbol p => Sys2Proof.Machine.execInjectSymbol p s
  | .injectDevice p => Sys2Proof.Machine.execInjectDevice p s
  | .injectUncorrectable p => Sys2Proof.Machine.execInjectUncorrectable p s
  | .injectCaParity p => Sys2Proof.Machine.execInjectCaParity p s
  | .mirrorResyncDone m => Sys2Proof.Machine.execMirrorResyncDone m s
  | .add e rd ra rb => Sys2Proof.Machine.execAdd e rd ra rb s
  | .sub e rd ra rb => Sys2Proof.Machine.execSub e rd ra rb s
  | .and e rd ra rb => Sys2Proof.Machine.execAnd e rd ra rb s
  | .or e rd ra rb => Sys2Proof.Machine.execOr e rd ra rb s
  | .xor e rd ra rb => Sys2Proof.Machine.execXor e rd ra rb s
  | .sll e rd ra rb => Sys2Proof.Machine.execSll e rd ra rb s
  | .srl e rd ra rb => Sys2Proof.Machine.execSrl e rd ra rb s
  | .sra e rd ra rb => Sys2Proof.Machine.execSra e rd ra rb s
  | .slt e rd ra rb => Sys2Proof.Machine.execSlt e rd ra rb s
  | .sltu e rd ra rb => Sys2Proof.Machine.execSltu e rd ra rb s
  | .min e rd ra rb => Sys2Proof.Machine.execMin e rd ra rb s
  | .max e rd ra rb => Sys2Proof.Machine.execMax e rd ra rb s
  | .minu e rd ra rb => Sys2Proof.Machine.execMinu e rd ra rb s
  | .maxu e rd ra rb => Sys2Proof.Machine.execMaxu e rd ra rb s
  | .ctz e rd ra => Sys2Proof.Machine.execCtz e rd ra s
  | .popc e rd ra => Sys2Proof.Machine.execPopc e rd ra s
  | .addi e rd ra imm => Sys2Proof.Machine.execAddi e rd ra imm s
  | .andi e rd ra imm => Sys2Proof.Machine.execAndi e rd ra imm s
  | .ori e rd ra imm => Sys2Proof.Machine.execOri e rd ra imm s
  | .xori e rd ra imm => Sys2Proof.Machine.execXori e rd ra imm s
  | .slti e rd ra imm => Sys2Proof.Machine.execSlti e rd ra imm s
  | .sltiu e rd ra imm => Sys2Proof.Machine.execSltiu e rd ra imm s
  | .slli e rd ra sh => Sys2Proof.Machine.execSlli e rd ra sh s
  | .srli e rd ra sh => Sys2Proof.Machine.execSrli e rd ra sh s
  | .srai e rd ra sh => Sys2Proof.Machine.execSrai e rd ra sh s
  | .lui e rd imm => Sys2Proof.Machine.execLui e rd imm s
  | .shori e rd ra imm => Sys2Proof.Machine.execShori e rd ra imm s
  | .mul e rd ra rb => Sys2Proof.Machine.execMul e rd ra rb s
  | .mulh e rd ra rb => Sys2Proof.Machine.execMulh e rd ra rb s
  | .mulhu e rd ra rb => Sys2Proof.Machine.execMulhu e rd ra rb s
  | .div e rd ra rb => Sys2Proof.Machine.execDiv e rd ra rb s
  | .divu e rd ra rb => Sys2Proof.Machine.execDivu e rd ra rb s
  | .rem e rd ra rb => Sys2Proof.Machine.execRem e rd ra rb s
  | .remu e rd ra rb => Sys2Proof.Machine.execRemu e rd ra rb s
  | .lb e rd ra imm => Sys2Proof.Machine.execLb e rd ra imm s
  | .lbu e rd ra imm => Sys2Proof.Machine.execLbu e rd ra imm s
  | .lh e rd ra imm => Sys2Proof.Machine.execLh e rd ra imm s
  | .lhu e rd ra imm => Sys2Proof.Machine.execLhu e rd ra imm s
  | .lw e rd ra imm => Sys2Proof.Machine.execLw e rd ra imm s
  | .lwu e rd ra imm => Sys2Proof.Machine.execLwu e rd ra imm s
  | .ld e rd ra imm => Sys2Proof.Machine.execLd e rd ra imm s
  | .sb e rs ra imm => Sys2Proof.Machine.execSb e rs ra imm s
  | .sh e rs ra imm => Sys2Proof.Machine.execSh e rs ra imm s
  | .sw e rs ra imm => Sys2Proof.Machine.execSw e rs ra imm s
  | .sd e rs ra imm => Sys2Proof.Machine.execSd e rs ra imm s
  | .deSystemReply f => Sys2Proof.Machine.execDeSystemReply f s
  | .leq e rd ra rb cmp width => Sys2Proof.Machine.execLeq e rd ra rb cmp width s
  | .lscan e rd ra rb cmp width => Sys2Proof.Machine.execLscan e rd ra rb cmp width s
  | .crc32c e rd ra rb n => Sys2Proof.Machine.execCrc32c e rd ra rb n s
  | .crc64 e rd ra rb n => Sys2Proof.Machine.execCrc64 e rd ra rb n s
  | .hmix e rd ra rb => Sys2Proof.Machine.execHmix e rd ra rb s
  | .aadd e rd ra rb w32 => Sys2Proof.Machine.execAadd e rd ra rb w32 s
  | .acas e rd ra rb w32 => Sys2Proof.Machine.execAcas e rd ra rb w32 s
  | .lget e ra rb => Sys2Proof.Machine.execLget e ra rb s
  | .lput e ra rb => Sys2Proof.Machine.execLput e ra rb s
  | .lblank e ra => Sys2Proof.Machine.execLblank e ra s
  | .streamEntryComplete f => Sys2Proof.Machine.execStreamEntryComplete f s
  | .sync e n => Sys2Proof.Machine.execSync e n s
  | .tspawn e rd ra => Sys2Proof.Machine.execTspawn e rd ra s
  | .tdone e ra => Sys2Proof.Machine.execTdone e ra s
  | .join e rd ra rb => Sys2Proof.Machine.execJoin e rd ra rb s
  | .wait e => Sys2Proof.Machine.execWait e s
  | .deFence e => Sys2Proof.Machine.execDeFence e s
  | .ibar e => Sys2Proof.Machine.execIbar e s
  | .pflush e => Sys2Proof.Machine.execPflush e s
  | .pbar e => Sys2Proof.Machine.execPbar e s
  | .iret e => Sys2Proof.Machine.execIret e s
  | .brk e => Sys2Proof.Machine.execBrk e s
  | .srd e rd cr => Sys2Proof.Machine.execSrd e rd cr s
  | .swr e ra cr => Sys2Proof.Machine.execSwr e ra cr s
  | .beq e ra a p disp => Sys2Proof.Machine.execBeq e ra a p disp s
  | .bne e ra a p disp => Sys2Proof.Machine.execBne e ra a p disp s
  | .blt e ra a p disp => Sys2Proof.Machine.execBlt e ra a p disp s
  | .bge e ra a p disp => Sys2Proof.Machine.execBge e ra a p disp s
  | .bgt e ra a p disp => Sys2Proof.Machine.execBgt e ra a p disp s
  | .ble e ra a p disp => Sys2Proof.Machine.execBle e ra a p disp s
  | .bodd e ra a p disp => Sys2Proof.Machine.execBodd e ra a p disp s
  | .beven e ra a p disp => Sys2Proof.Machine.execBeven e ra a p disp s
  | .j e a disp => Sys2Proof.Machine.execJ e a disp s
  | .jl e a disp => Sys2Proof.Machine.execJl e a disp s
  | .jr e ra a => Sys2Proof.Machine.execJr e ra a s
  | .jlr e rd ra a => Sys2Proof.Machine.execJlr e rd ra a s
  | .storeBufferDrain e => Sys2Proof.Machine.execStoreBufferDrain e s
  | .systemStoreReply f => Sys2Proof.Machine.execSystemStoreReply f s
  | .taskException e cause tval => Sys2Proof.Machine.execTaskException e cause tval s
  | .engineHalt e cause tval => Sys2Proof.Machine.execEngineHalt e cause tval s
  | .imemPoisonFetch e => Sys2Proof.Machine.execImemPoisonFetch e s
  | .deInterruptEntry e => Sys2Proof.Machine.execDeInterruptEntry e s
  | .deTimer e => Sys2Proof.Machine.execDeTimer e s
  | .deClaim e rd => Sys2Proof.Machine.execDeClaim e rd s
  | .deEoi e ra => Sys2Proof.Machine.execDeEoi e ra s
  | .engineNoticeArrival f => Sys2Proof.Machine.execEngineNoticeArrival f s
  | .deHctxWrite p => Sys2Proof.Machine.execDeHctxWrite p s
  | .deHaltResume p => Sys2Proof.Machine.execDeHaltResume p s
  | .engineMemoryAccess p line => Sys2Proof.Machine.execEngineMemoryAccess p line s
  | .dmemScrub e => Sys2Proof.Machine.execDmemScrub e s
  | .scrubDone e => Sys2Proof.Machine.execScrubDone e s
  | .engineFault e => Sys2Proof.Machine.execEngineFault e s
  | .taskDoorbell f => Sys2Proof.Machine.execTaskDoorbell f s
  | .taskDispatch e => Sys2Proof.Machine.execTaskDispatch e s
  | .taskComplete f => Sys2Proof.Machine.execTaskComplete f s
  | .joinDecrement f => Sys2Proof.Machine.execJoinDecrement f s
  | .continuationRead f => Sys2Proof.Machine.execContinuationRead f s
  | .spillWriteAck f => Sys2Proof.Machine.execSpillWriteAck f s
  | .spillRefill c k => Sys2Proof.Machine.execSpillRefill c k s
  | .refillArrival f => Sys2Proof.Machine.execRefillArrival f s
  | .stealRound c => Sys2Proof.Machine.execStealRound c s
  | .stealBackoffEnd c => Sys2Proof.Machine.execStealBackoffEnd c s
  | .steal f => Sys2Proof.Machine.execSteal f s
  | .stealrsp f => Sys2Proof.Machine.execStealrsp f s
  | .stealBack f => Sys2Proof.Machine.execStealBack f s
  | .stealCopyTimeout c tag => Sys2Proof.Machine.execStealCopyTimeout c tag s
  | .dmaDoorbell p => Sys2Proof.Machine.execDmaDoorbell p s
  | .dmaContextArrival f => Sys2Proof.Machine.execDmaContextArrival f s
  | .dmaDescriptorArrival f => Sys2Proof.Machine.execDmaDescriptorArrival f s
  | .dmaCopy c ch => Sys2Proof.Machine.execDmaCopy c ch s
  | .dmaFill c ch => Sys2Proof.Machine.execDmaFill c ch s
  | .dmaBlank c ch => Sys2Proof.Machine.execDmaBlank c ch s
  | .dmaCrc c ch => Sys2Proof.Machine.execDmaCrc c ch s
  | .dmaBurstStart c ch => Sys2Proof.Machine.execDmaBurstStart c ch s
  | .dmaReadData f => Sys2Proof.Machine.execDmaReadData f s
  | .dmaWriteAck f => Sys2Proof.Machine.execDmaWriteAck f s
  | .dmaDescriptorComplete c ch => Sys2Proof.Machine.execDmaDescriptorComplete c ch s
  | .dmaBusError c ch => Sys2Proof.Machine.execDmaBusError c ch s
  | .dmaPause p => Sys2Proof.Machine.execDmaPause p s
  | .dmaResume p => Sys2Proof.Machine.execDmaResume p s
  | .dmaAbort p => Sys2Proof.Machine.execDmaAbort p s
  | .dmaModeWrite p => Sys2Proof.Machine.execDmaModeWrite p s
  | .wiredSourceEvent x => Sys2Proof.Machine.execWiredSourceEvent x s
  | .irqDoorbell f => Sys2Proof.Machine.execIrqDoorbell f s
  | .routingDecision x => Sys2Proof.Machine.execRoutingDecision x s
  | .irq f => Sys2Proof.Machine.execIrq f s
  | .tgtClaim p => Sys2Proof.Machine.execTgtClaim p s
  | .tgtEoi p => Sys2Proof.Machine.execTgtEoi p s
  | .irtPendClear p => Sys2Proof.Machine.execIrtPendClear p s
  | .domainDisable p => Sys2Proof.Machine.execDomainDisable p s
  | .tgtCtlWrite p => Sys2Proof.Machine.execTgtCtlWrite p s
  | .presentationWithdraw x => Sys2Proof.Machine.execPresentationWithdraw x s
  | .edgeCapture x => Sys2Proof.Machine.execEdgeCapture x s
  | .edgeCapturePresent x => Sys2Proof.Machine.execEdgeCapturePresent x s
  | .linkArrival p l partner => Sys2Proof.Machine.execLinkArrival p l partner s
  | .plannedDeparture p l => Sys2Proof.Machine.execPlannedDeparture p l s
  | .release p => Sys2Proof.Machine.execRelease p s
  | .releaseTimeout p l => Sys2Proof.Machine.execReleaseTimeout p l s
  | .surpriseDeparture p l dpc => Sys2Proof.Machine.execSurpriseDeparture p l dpc s
  | .surpriseInvDone p l => Sys2Proof.Machine.execSurpriseInvDone p l s
  | .dpcClear p => Sys2Proof.Machine.execDpcClear p s
  | .dcdEvent p l add win range => Sys2Proof.Machine.execDcdEvent p l add win range s
  | .inboundRequest r => Sys2Proof.Machine.execInboundRequest r s
  | .d2hRequest r op => Sys2Proof.Machine.execD2hRequest r op s
  | .atsTranslationRequest r => Sys2Proof.Machine.execAtsTranslationRequest r s
  | .pageRequest r group last read => Sys2Proof.Machine.execPageRequest r group last read s
  | .fpPrgresp p => Sys2Proof.Machine.execFpPrgresp p s
  | .fpAtsinv p => Sys2Proof.Machine.execFpAtsinv p s
  | .atsInvDone p => Sys2Proof.Machine.execAtsInvDone p s
  | .atsInvTimeout p => Sys2Proof.Machine.execAtsInvTimeout p s
  | .outboundCompletionTimeout f => Sys2Proof.Machine.execOutboundCompletionTimeout f s
  | .fpEventRead p => Sys2Proof.Machine.execFpEventRead p s
  | .fmBind p l device seq => Sys2Proof.Machine.execFmBind p l device seq s
  | .fmUnbind p l seq => Sys2Proof.Machine.execFmUnbind p l seq s
  | .fmIdeKey p l stream slot wrapped seq => Sys2Proof.Machine.execFmIdeKey p l stream slot wrapped seq s
  | .fmStatus p opcode seq => Sys2Proof.Machine.execFmStatus p opcode seq s
  | .perstRelease p l => Sys2Proof.Machine.execPerstRelease p l s
  | .coreFault k epoch checker => Sys2Proof.Machine.execCoreFault k epoch checker s
  | .reprint h readable => Sys2Proof.Machine.execReprint h readable s
  | .hartMove h => Sys2Proof.Machine.execHartMove h s
  | .fencedCoreBist k pass => Sys2Proof.Machine.execFencedCoreBist k pass s
  | .hartSwitch k => Sys2Proof.Machine.execHartSwitch k s
  | .rasRetireCore p => Sys2Proof.Machine.execRasRetireCore p s
  | .rasRetireCluster p => Sys2Proof.Machine.execRasRetireCluster p s
  | .rasRetireSlice p => Sys2Proof.Machine.execRasRetireSlice p s
  | .rasRetireEngine p => Sys2Proof.Machine.execRasRetireEngine p s
  | .rasMoveHart p => Sys2Proof.Machine.execRasMoveHart p s
  | .logRecord => Sys2Proof.Machine.execLogRecord s
  | .coalescedReport n b => Sys2Proof.Machine.execCoalescedReport n b s
  | .pldmResend => Sys2Proof.Machine.execPldmResend s
  | .rasLogAckWrite p => Sys2Proof.Machine.execRasLogAckWrite p s
  | .clNegDataAccess p => Sys2Proof.Machine.execClNegDataAccess p s
  | .coreEntry k => Sys2Proof.Machine.execCoreEntry k s
  | .clusterEntry c => Sys2Proof.Machine.execClusterEntry c s
  | .packageSleepEntry consent => Sys2Proof.Machine.execPackageSleepEntry consent s
  | .wakeEvent k => Sys2Proof.Machine.execWakeEvent k s
  | .c1Exit k => Sys2Proof.Machine.execC1Exit k s
  | .c2Exit k => Sys2Proof.Machine.execC2Exit k s
  | .c3Exit k => Sys2Proof.Machine.execC3Exit k s
  | .k1Exit c => Sys2Proof.Machine.execK1Exit c s
  | .k2Exit c => Sys2Proof.Machine.execK2Exit c s
  | .packageSleepExit => Sys2Proof.Machine.execPackageSleepExit s
  | .pwrPkgWrite p => Sys2Proof.Machine.execPwrPkgWrite p s
  | .dvfsTransition k => Sys2Proof.Machine.execDvfsTransition k s
  | .dvfsTransitionEnd k => Sys2Proof.Machine.execDvfsTransitionEnd k s
  | .vinCoreWarning => Sys2Proof.Machine.execVinCoreWarning s
  | .stretchEnd mv => Sys2Proof.Machine.execStretchEnd mv s
  | .vddAonWarning => Sys2Proof.Machine.execVddAonWarning s
  | .vddAonRecovery mv => Sys2Proof.Machine.execVddAonRecovery mv s
  | .thermalSample readings => Sys2Proof.Machine.execThermalSample readings s
  | .thermalCapReview => Sys2Proof.Machine.execThermalCapReview s
  | .prochotAssert => Sys2Proof.Machine.execProchotAssert s
  | .coldReset cause => Sys2Proof.Machine.execColdReset cause s
  | .warmReset pin => Sys2Proof.Machine.execWarmReset pin s
  | .pwrResetWard p => Sys2Proof.Machine.execPwrResetWard p s
  | .refclkSysLoss => Sys2Proof.Machine.execRefclkSysLoss s
  | .bootAon socket test => Sys2Proof.Machine.execBootAon socket test s
  | .bootRom => Sys2Proof.Machine.execBootRom s
  | .bootAuth image => Sys2Proof.Machine.execBootAuth image s
  | .bootMesh => Sys2Proof.Machine.execBootMesh s
  | .channelTrainingDone m pass => Sys2Proof.Machine.execChannelTrainingDone m pass s
  | .channelZeroingDone m => Sys2Proof.Machine.execChannelZeroingDone m s
  | .clusterBistDone c pass => Sys2Proof.Machine.execClusterBistDone c pass s
  | .bootChannelReady => Sys2Proof.Machine.execBootChannelReady s
  | .hashOpen => Sys2Proof.Machine.execHashOpen s
  | .bootTimeout => Sys2Proof.Machine.execBootTimeout s
  | .enec value => Sys2Proof.Machine.execEnec value s
  | .disec value => Sys2Proof.Machine.execDisec value s
  | .rstdaa value => Sys2Proof.Machine.execRstdaa value s
  | .setdasa value => Sys2Proof.Machine.execSetdasa value s
  | .setaasa value => Sys2Proof.Machine.execSetaasa value s
  | .entdaa value => Sys2Proof.Machine.execEntdaa value s
  | .setmwl value => Sys2Proof.Machine.execSetmwl value s
  | .setmrl value => Sys2Proof.Machine.execSetmrl value s
  | .getmwl value => Sys2Proof.Machine.execGetmwl value s
  | .getmrl value => Sys2Proof.Machine.execGetmrl value s
  | .getpid value => Sys2Proof.Machine.execGetpid value s
  | .getbcr value => Sys2Proof.Machine.execGetbcr value s
  | .getdcr value => Sys2Proof.Machine.execGetdcr value s
  | .getstatus value => Sys2Proof.Machine.execGetstatus value s
  | .rstact value => Sys2Proof.Machine.execRstact value s
  | .mctpControlMessage msg => Sys2Proof.Machine.execMctpControlMessage msg s
  | .pldmMessage msg => Sys2Proof.Machine.execPldmMessage msg s
  | .mctpSpdmMessage msg => Sys2Proof.Machine.execMctpSpdmMessage msg s
  | .bmcMbxRequest msg => Sys2Proof.Machine.execBmcMbxRequest msg s
  | .extest value => Sys2Proof.Machine.execExtest value s
  | .samplePreload value => Sys2Proof.Machine.execSamplePreload value s
  | .idcode value => Sys2Proof.Machine.execIdcode value s
  | .clamp value => Sys2Proof.Machine.execClamp value s
  | .highz value => Sys2Proof.Machine.execHighz value s
  | .dtmcs value => Sys2Proof.Machine.execDtmcs value s
  | .dmi value => Sys2Proof.Machine.execDmi value s
  | .slAddr value => Sys2Proof.Machine.execSlAddr value s
  | .slData value => Sys2Proof.Machine.execSlData value s
  | .bypass value => Sys2Proof.Machine.execBypass value s
  | .prochotRelease => Sys2Proof.Machine.execProchotRelease s
  | .writeJournalRelease m => Sys2Proof.Machine.execWriteJournalRelease m s
  | .l2ArrayError c err => Sys2Proof.Machine.execL2ArrayError c err s
  | .inboundCompletion f => Sys2Proof.Machine.execInboundCompletion f s
  | .aerError p l uncorrectable rid status => Sys2Proof.Machine.execAerError p l uncorrectable rid status s
  | .ideIntegrityCheckFailed p l => Sys2Proof.Machine.execIdeIntegrityCheckFailed p l s
  | .tapReset => Sys2Proof.Machine.execTapReset s

end Sys2Proof.Machine
end

