-- ==== Sys2Proof/Machine/Package.lean ====
section
/-! DEFINITION. The package (18 R513-R526, R531-R533): the land grid, the supply rails and their limits, what the output pins show of the
state, and the characteristics of the pins. -/

namespace Sys2Proof.Machine

-- lands (R513-R516)

def landRows : Nat := 80
def landCols : Nat := 96

/-- What a land belongs to (R514): the agent of an edge stop, or the centre. -/
inductive LandRegion where
  | agent (stop : Nat)
  | centre
  deriving DecidableEq, Repr

/-- The region of land (row, column), both counted from 1 at the north-west corner (R513, R514). -/
def landRegion (row col : Nat) : Option LandRegion :=
  if row = 0 ∨ landRows < row ∨ col = 0 ∨ landCols < col then none
  else if row ≤ 24 then some (.agent (stopAt ((col - 1) / 8) 0))
  else if row ≤ 56 then some .centre
  else some (.agent (stopAt ((col - 1) / 8) 9))

/-- Lands of a block of 192 (R514): signals, supply, ground. -/
structure BlockLands where
  signals : Nat
  supply : Nat
  ground : Nat
  deriving DecidableEq, Repr
def mcBlockLands : BlockLands := ⟨160, 6, 26⟩
def fpBlockLands : BlockLands := ⟨72, 8, 112⟩

/-- Land groups of the part and their lands (R515). -/
def landGroups : List (String × Nat) :=
  [("DDR", 160 * 16), ("fabric lanes", 64 * 8), ("fabric sideband", 8 * 8), ("reference clocks", 5), ("system sideband", 29),
   ("remote sense", 10), ("reserved", 34), ("supply", 870), ("ground", 3596)]

-- rails (R517-R520, R532)

/-- The supply rails (R517). -/
inductive Rail where
  | vinCore | vddIod | vddqDdr | vddFphy | vddAon | vdd1v8 | vddSpd
  deriving DecidableEq, Repr

/-- A rail's nominal voltage in mV, tolerance in percent, greatest current in mA, lands, and absolute maximum in mV (R515, R517, R532). -/
structure RailSpec where
  nominal : Nat
  tolerance : Nat
  current : Nat
  lands : Nat
  absMax : Nat
  deriving DecidableEq, Repr

def railSpec : Rail → RailSpec
  | .vinCore => ⟨1800, 5, 340000, 520, 2100⟩
  | .vddIod => ⟨800, 3, 110000, 176, 950⟩
  | .vddqDdr => ⟨1100, 3, 40000, 96, 1300⟩
  | .vddFphy => ⟨850, 3, 40000, 64, 1000⟩
  | .vddAon => ⟨750, 3, 1500, 8, 900⟩
  | .vdd1v8 => ⟨1800, 5, 200, 4, 2100⟩
  | .vddSpd => ⟨1000, 5, 50, 2, 1200⟩

/-- Whether a rail at a voltage in mV is within tolerance (R517). -/
def railGood (r : Rail) (mv : Nat) : Bool :=
  let x := railSpec r
  decide (x.nominal * (100 - x.tolerance) ≤ 100 * mv) && decide (100 * mv ≤ x.nominal * (100 + x.tolerance))

/-- A VIN_CORE load step in mA that the supply must bear within 1 us (R518). -/
def vinCoreStep : Nat := 150000

/-- Where bring-up stops while PWRGOOD is high and a rail the part does not supervise is out of tolerance (R520): the boot stage not
completed, and whether boot ends FAILED. -/
def railOutcome : Rail → Option (Nat × Bool)
  | .vddIod => some (1, false)
  | .vddqDdr => some (3, true)
  | .vdd1v8 => some (2, true)
  | _ => none

/-- The board may raise PWRGOOD: every rail has been within tolerance and the references good for `ms` ms (R519). -/
def mayRaisePwrgood (ms : Nat) (mv : Rail → Nat) (refs : Bool) : Bool :=
  refs && decide (1 ≤ ms) &&
    [Rail.vinCore, .vddIod, .vddqDdr, .vddFphy, .vddAon, .vdd1v8, .vddSpd].all (fun r => railGood r (mv r))

-- reference clocks (R521-R523)

/-- REFCLK_SYS and REFCLK_FPn: frequency in kHz, greatest RMS jitter in fs, spread spectrum (R521, R522). -/
structure ClockSpec where
  kHz : Nat
  jitter : Nat
  spread : Bool
  deriving DecidableEq, Repr
def refclkSys : ClockSpec := ⟨25000, 1000, false⟩
def refclkFp : ClockSpec := ⟨100000, 150, false⟩
/-- A REFCLK_SYS frequency in Hz within 25 MHz +- 50 ppm (R521). -/
def refclkSysGood (hz : Nat) : Bool := decide (24998750 ≤ hz) && decide (hz ≤ 25001250)
/-- A down-spread of a partner's transmitter, in parts of 10,000, that the receivers accept (R522). -/
def spreadAccepted (d : Nat) : Bool := decide (d ≤ 50)

-- output pins (R524): true is low

/-- THERMTRIP_N: low from a thermal trip until cold reset (R472). -/
def State.thermtripNLow (s : State) : Bool := s.power.off
/-- PROCHOT_N as the part drives it: low while a die cap is below 36 (R469). -/
def State.prochotNLow (s : State) : Bool := (List.range 6).any (fun d => decide (s.fld thermPg (R.THM_CAP_CAP d) < 36))
/-- FPp_PERST_N[l]: low until the Ward raises it. -/
def State.perstNLow (s : State) (p l : Nat) : Bool := !(s.link p l).perst
/-- MCm_DRST_N: low in cold reset and until the Ward begins training, which follows stage 2 (R485, R488). -/
def State.drstNLow (s : State) : Bool := !s.boot.warm && decide (s.boot.done < 3)
/-- The I3C static address that SOCKET_ID sets (R527). -/
def State.staticAddress (s : State) : Nat := 0x30 + s.boot.socket

-- DC and AC limits of the pins on VDD_1V8 (R525, R526)

/-- VIH and VIL at a VDD_1V8 in mV, and the greatest voltage an input may see (R525, R532). -/
def inputHigh (vdd mv : Nat) : Bool := decide (65 * vdd ≤ 100 * mv) && decide (mv ≤ vdd + 300)
def inputLow (vdd mv : Nat) : Bool := decide (100 * mv ≤ 35 * vdd)
def pinAbsMax (vdd : Nat) : Nat := min (vdd + 300) 2100
/-- VOL of an open drain at 8 mA and of a push-pull output at 4 mA, hysteresis and VOH below VDD_1V8, in mV; leakage in uA; capacitance
in pF (R525). -/
def volOpenDrain : Nat := 400
def volPushPull : Nat := 450
def vohBelow : Nat := 450
def inputHysteresis : Nat := 100
def inputLeakage : Nat := 10
def pinCapacitance : Nat := 5
/-- SPI and JTAG: greatest clock in kHz; setup and hold, and output valid (least and greatest), in ps (R526). -/
structure AcSpec where
  kHz : Nat
  setup : Nat
  hold : Nat
  validMin : Nat
  validMax : Nat
  deriving DecidableEq, Repr
def spiAc : AcSpec := ⟨50000, 4000, 1000, 1000, 6000⟩
def jtagAc : AcSpec := ⟨25000, 5000, 5000, 0, 10000⟩
def spiCsSetupHold : Nat := 10000
def openDrainFall : Nat := 5000

-- thermal and mechanical data, identification (R513, R531-R533)

/-- TDP in W, thermal resistance in mC/W, junction temperatures in C over which the characteristics hold. -/
def tdp : Nat := 760
def thetaJc : Nat := 18
def tjMin : Int := -40
def tjMax : Int := 105
def tjAbsMax : Int := 125
/-- Junction temperature in mC over a lid centre in mC at a power in W (R531). -/
def junction (lid watts : Int) : Int := lid + thetaJc * watts
/-- Storage temperature in C, socket load in N, ESD limits in V (R531, R532). -/
def storageMin : Int := -55
def storageMax : Int := 125
def loadMin : Nat := 1100
def loadMax : Nat := 1800
def esdHuman : Nat := 1000
def esdDevice : Nat := 250
def orderingCode : String := "NR9-384-B0-L7680"
/-- Hexadecimal digit d. -/
def hexDigit (d : Nat) : Char := ("0123456789ABCDEF".toList).getD d '0'
/-- The lid marking of a part serial: 16 hexadecimal digits (R533). -/
def lidSerial (serial : Nat) : List Char := (List.range 16).map (fun j => hexDigit (serial / 16 ^ (15 - j) % 16))

end Sys2Proof.Machine
end

