-- ==== Sys2Proof/Safety.lean ====
section
/-! DEFINITION. The terms in which statements are made: what a command gives, which parts of the state it leaves, the
conditions under which each kind of agent acts, and what holds of every state the part can be in. -/

namespace Sys2Proof.Safety

open Sys2Proof.Machine

/-- The command completes from `s` with a next state of which `P` holds. -/
def Gives (c : Instr) (s : State) (P : State → Prop) : Prop := ∃ t, exec c s = .next t ∧ P t

-- frames: the two states differ at most in the parts named

/-- Nothing differs but the event counters of engine e (R508, R511, R512): registers outside its counter block are as they were, and no wired
source rises but the counters' overflow source. -/
def ButCounts (s t : State) (e : Nat) : Prop :=
  { t with regs := s.regs, wires := s.wires } = s ∧ (∀ a, a < enginePg e + 0xE00 ∨ enginePg e + 0x1000 ≤ a → t.reg a = s.reg a) ∧
  (∀ w ∈ s.wires, w ∈ t.wires) ∧ ∀ w ∈ t.wires, w ∈ s.wires ∨ w.2 = 16 * e + 10

/-- Only the engines differ, and of them only engine e with its event counters. -/
def OnlyEngine (s t : State) (e : Nat) : Prop := ButCounts s { t with engines := s.engines } e ∧ ∀ k, k ≠ e → t.engine k = s.engine k

/-- The canonical form of the tables that hold main memory and the registers: addresses rise, and no byte listed reads as an unlisted one. -/
def Canonical (s : State) : Prop := Memory.wf s.mem = true ∧ Tab.risingFrom none s.regs = true

-- engines

/-- Engine e can run its next instruction: it is in a task or a handler, nothing is awaited, and its pc lies in IMEM (R253, R281, R287). -/
def EngineGoes (s : State) (e : Nat) : Prop := s.deRuns e = true ∧ (s.engine e).pc ≤ 0xFFFC

/-- A system address of engine e is at physical address `pa` with no wait and no fault (R257): itself in handler context, and in task context
as the task's context entry and the engine's translation cache have it. -/
def EngineReaches (s : State) (e ea : Nat) (write : Bool) (pa : Nat) : Prop :=
  (0 < (s.engine e).level ∧ pa = ea) ∨
  ((s.engine e).level = 0 ∧ (s.engine e).ctxDue = false ∧
    (s.cachedXlat 32 0 (s.engine e).tlb (s.engine e).ctx (s.engine e).walk ea write).1 = .pa pa)

/-- The pc after an instruction that does not branch: past a delay slot, where the branch leads (R262). -/
def nextPc (g : Engine) : Nat :=
  match g.slot with
  | none => g.pc + 4
  | some _ => g.after

/-- An engine after an instruction differs only in registers, pc, delay slot and pipeline timing, the interrupt being entered among it. -/
def OnlyPipeline (g h : Engine) : Prop :=
  { h with g := g.g, pc := g.pc, slot := g.slot, after := g.after, waiting := g.waiting, free := g.free, hazard := g.hazard, entry := g.entry } = g

/-- The instruction leaves `v` in rd (g0 discards it), every other register as it was, and goes on to the next instruction; nothing else
changes (R252, R262). -/
def Computes (c : Instr) (s : State) (e : Dwe) (rd : Reg) (v : Word) : Prop :=
  Gives c s fun t =>
    (t.engine e).getG rd = (if rd = 0 then 0 else v) ∧ (∀ r, r ≠ rd → (t.engine e).getG r = (s.engine e).getG r) ∧
    (t.engine e).pc = nextPc (s.engine e) ∧ (t.engine e).slot = none ∧ OnlyPipeline (s.engine e) (t.engine e) ∧ OnlyEngine s t e

/-- The instruction is followed by its delay slot at pc + 4, and that by `target`; it leaves `link` in rd if it names one (R262, R264). -/
def Branches (c : Instr) (s : State) (e : Dwe) (target : Nat) : Prop :=
  Gives c s fun t =>
    (t.engine e).pc = (s.engine e).pc + 4 ∧ (t.engine e).slot = some (s.engine e).pc ∧ (t.engine e).after = target ∧
    (∀ r, (t.engine e).getG r = (s.engine e).getG r) ∧ OnlyPipeline (s.engine e) (t.engine e) ∧ OnlyEngine s t e

/-- n bytes of an engine's DMEM at an offset, lowest first. -/
def dmemBytes (s : State) (e off n : Nat) : List Byte := (List.range n).map (fun i => Tab.get 0 (s.engine e).dmem (off + i))

/-- An access of n bytes at effective address `ea` lies in the DMEM window, at offset `off`, and nothing holds it up: no LGET to its lines
is outstanding and no word of it is poisoned (R255, R270, R278). -/
def DmemAccess (s : State) (e ea n off : Nat) : Prop :=
  0xFFFFFFFFFFFE0000 ≤ ea ∧ ea + n ≤ 2 ^ 64 ∧ 0 < n ∧ off = ea - 0xFFFFFFFFFFFE0000 ∧ (s.engine e).lgetOn off n = false ∧
  (s.engine e).dmemPoison off n = false

/-- Nothing goes ahead of an operation in class k's lane of queue c (R319): no message stands at an agent, and the engine is not to pop an entry of
the class now. -/
def LaneQuiet (s : State) (c k : Nat) : Prop := s.mesh.ingress = [] ∧ ∀ m, s.nextTask c = some (k, m) → s.now < m

-- accesses to register pages

/-- An aligned 8-byte access of a hart, of the Ward, of the BMC or of Safelight names register `off` of page g, while the part runs (R39). -/
def Names (s : State) (p : PageReq) (g : Page) (off : Nat) : Prop :=
  s.power.off = false ∧ (p.who.path = .hart ∨ p.who.path = .ward ∨ p.who.path = .bmc ∨ p.who.path = .safelight) ∧
  p.addr.toNat = g.base + off ∧ pageAt p.addr.toNat = some g ∧ off < 0x1000 ∧ off % 8 = 0 ∧ p.size = 8

/-- A store of `p` reaches a block-specific register: the page exists and is ready, its block does not rest, the world check passes and the write
changes no RWB field of a bolted part (R534). What the register's own rule asks of the writer is for each statement. -/
def Stores (s : State) (p : PageReq) (g : Page) (off : Nat) : Prop :=
  Names s p g off ∧ p.kind = .store ∧ 0x100 ≤ off ∧ (s.securePage g = true → s.writesSecure p.who = true) ∧ s.ready g = true ∧
  s.rests g = false ∧ ∃ r, rowAt g.kind off = some r ∧ (s.bolted = true → r.changesRwb (s.reg (g.base + off)) (s.keptValue g off p.data.toNat) = false)

/-- A register with no behaviour but its fields', and a writer its rule admits: of an AON page, of a DWEMON page but for DE_HCTX and DE_HALT, the
values of a counter block, and the frequency registers of the PWR page with a frequency of 8 to 36 (R289, R476, R478, R506, R509). -/
def FieldsOnly (g : Page) (off : Nat) (who : Requester) (v : Nat) : Prop :=
  wardOrM who = true ∧
  (g.kind = .aon ∨ (g.kind = .dwemon ∧ off < 0xE00 ∧ off ≠ 0x110 ∧ off ≠ 0x118) ∨ (counterCount g.kind ≠ 0 ∧ 0xE40 ≤ off ∧ off % 16 = 8) ∨
    (g.kind = .pwr ∧ 0x200 ≤ off ∧ off < 0xE00 ∧ 8 ≤ v % 256 ∧ v % 256 ≤ 36))

/-- What a field holds after a write, by its access code (R9): RW and RWB take the written bits, a 1 clears W1C and sets W1S, WO reads 0, and the
others stay. -/
def TakesField (f : FieldRow) (old new v : Nat) : Prop :=
  bits new f.hi f.lo = match f.acc with
    | .rw | .rwb => bits v f.hi f.lo
    | .w1c => bits old f.hi f.lo - (bits old f.hi f.lo &&& bits v f.hi f.lo)
    | .w1s => bits old f.hi f.lo ||| bits v f.hi f.lo
    | .wo => 0
    | .ro | .rc => bits old f.hi f.lo

/-- A load of `p` reads a block-specific register that is shown to its requester: the page exists and is ready, is not of a world the
requester does not see, and the register's own rule admits the reader (R52, R71, R534). -/
def Loads (s : State) (p : PageReq) (g : Page) (off : Nat) : Prop :=
  Names s p g off ∧ p.kind = .load ∧ 0x100 ≤ off ∧ s.shows g p.who = true ∧ s.readAdmitted g off p.who = true ∧ s.rests g = false ∧
  (rowAt g.kind off).isSome

/-- The newest response is the access's own, without error, with `d` as its data (R39). -/
def Answered (s t : State) (p : PageReq) (d : Nat) : Prop :=
  t.resps.getLast? = some ⟨p.who, p.tag, p.addr, p.kind.writes, BitVec.ofNat 512 d, false, s.now⟩

/-- The newest response of the access is an error, and the page's fault bit `b` is set (R39, R45). -/
def Refused (s t : State) (p : PageReq) (g : Page) (b : Nat) : Prop :=
  t.resps.getLast? = some ⟨p.who, p.tag, p.addr, p.kind.writes, 0, true, s.now⟩ ∧ (t.reg (g.base + 0x10)).testBit b = true

-- harts

/-- Hart h can issue its next instruction: it runs, waits for nothing, and at most one of its epochs awaits commit (R127, R130, R131). -/
def HartGoes (s : State) (h : Nat) : Prop :=
  s.hartOn h = true ∧ (s.hart h).head = none ∧ (s.hart h).io = none ∧ (s.hart h).wait = none ∧ (s.hart h).misses = [] ∧
  (s.hart h).closed.length ≤ 1 ∧ (s.hart h).fenced = false

/-- Hart h can issue and none of its epochs is uncommitted. -/
def HartClear (s : State) (h : Nat) : Prop := HartGoes s h ∧ (s.hart h).epoch = none ∧ (s.hart h).closed = []

/-- The hart as an operation at the head of the reorder buffer finds it (R131). -/
def headOf (s : State) (h : Nat) : State := s.setHart h { s.hart h with head := none }

/-- The hart as an instruction that it issues finds it: nothing stands in its fill shadow (R134). -/
def issueOf (s : State) (h : Nat) : State := s.setHart h { s.hart h with shadow := [], bypass := [] }

/-- The cluster of hart h holds line l under no key, and has no writeback of it on its way. -/
def Lacks (s : State) (h l : Nat) : Prop :=
  Tab.at? (s.cluster (s.coreOf h / 4)).l2 l = none ∧ Tab.at? (s.cluster (s.coreOf h / 4)).evicting l = none

/-- Hart h's instruction waits as miss `m` for line l, which its cluster asks of its home with `op`; the hart's registers and pc are as they were
(R134, R145). -/
def Asks (s t : State) (h : Nat) (m : Miss) (op : Fin 32) (l detail : Nat) : Prop :=
  (t.hart h).misses = [m] ∧ (t.hart h).a.pc = (s.hart h).a.pc ∧ (t.hart h).a.x = (s.hart h).a.x ∧
  ∃ x, t.out = s.out ++ [x] ∧ x.at_ = s.atStop (s.coreOf h) ∧ x.flit.op = op ∧ x.flit.plane = .req ∧ x.flit.addr = BitVec.ofNat 52 (64 * l) ∧
    x.flit.tag = Fin.ofNat 2048 h ∧ x.flit.detail = BitVec.ofNat 64 detail

/-- Hart h's instruction retires: the pc moves on by 4, rd holds `v` (x0 reads 0), every other integer register is as it was, and neither memory
nor another hart changes. -/
def Retires (s t : State) (h : Nat) (rd : Reg) (v : Word) : Prop :=
  (t.hart h).a.pc = (s.hart h).a.pc + 4 ∧ (t.hart h).a.getX rd = (if rd = 0 then 0 else v) ∧
  (∀ r, r ≠ rd → (t.hart h).a.getX r = (s.hart h).a.getX r) ∧ t.mem = s.mem ∧ ∀ k, k ≠ h → t.hart k = s.hart k

/-- The hart's newest stores hold the n bytes of `v` at pa (R125). -/
def Buffers (t : State) (h pa n v : Nat) : Prop :=
  ∀ j, j < n → (t.hart h).bufferedByte (pa + j) = some (BitVec.ofNat 8 (v / 2 ^ (8 * j)))

-- slices

/-- Slice c takes a request of another agent at once: it is for this tile and homed here, the slice is enabled and not frozen, the line's window (if it is fabric
memory) is open, nothing of the slice is in hand, and the request's class has a fill buffer (R193, R194, R203). -/
def SliceTakes (s : State) (c : Nat) (f : Flit) : Prop :=
  f.dst.val = tileStop c ∧ c < 96 ∧ s.flag (slicePg c) R.PG_STATUS_FROZEN = false ∧ s.homeOf f.addr.toNat = c ∧
  s.flag (slicePg c) R.SLC_CTL_EN = true ∧
  ((region f.addr.toNat).isFabricMem = false ∨ ((s.windowAt f.addr.toNat).isSome ∧ s.windowHold f.addr.toNat = false)) ∧
  (s.slice c).bufs = [] ∧ (s.slice c).lanes = [] ∧ (s.slice c).snpWait = [] ∧ 0 < s.fillShare c f.cls.val ∧ isMaint f = false

/-- The one line slice c holds is that of address pa, as `w`. -/
def OneCopy (s : State) (c pa : Nat) (w : DataWay) : Prop :=
  ∃ i, (s.slice c).ways = [(i, w)] ∧ i / 16 = dataSet pa ∧ w.line = lineOf pa

/-- The one line slice c holds is that of address pa, as `w` but for its recency. -/
def StillHolds (s : State) (c pa : Nat) (w : DataWay) : Prop := ∃ u, OneCopy s c pa { w with used := u }

/-- The one directory entry of slice c is that of pa's block, with PRES and the state of pa's line. -/
def OneEntry (s : State) (c pa : Nat) (pres : List Nat) (st : LineState) : Prop :=
  ∃ i d, (s.slice c).dir = [(i, d)] ∧ i / 16 = dirSet pa ∧ d.block = blockOf pa ∧ d.ls.length = 4 ∧ d.pres = pres ∧ d.lineState (bits pa 7 6) = st

/-- A request of a cluster of the part, on REQ, by its CLUSTER port. -/
def ClusterAsks (f : Flit) : Prop := f.plane = .req ∧ fromCluster f = true

/-- One more message than before, presented at mclk `u`. -/
def SendsOne (s t : State) (u : Nat) (P : Flit → Prop) : Prop := ∃ f, t.out = s.out ++ [⟨u, f⟩] ∧ P f

/-- An answer to message f: to its sender, with its tag and class. -/
def AnswerTo (f : Flit) (op : Fin 32) (g : Flit) : Prop :=
  g.op = op ∧ g.dst = f.src ∧ g.dport = f.sport ∧ g.tag = f.tag ∧ g.cls = f.cls ∧ g.plane = (if f.plane = .bulk then .bulk else .rsp)

-- memory controllers

/-- Controller m takes a request on REQ at once: it is for its stop, the channel is neither frozen nor retired, and no write of its class ahead of it lacks a
journal entry (R221, R228, R241, R242). -/
def McTakes (s : State) (m : McId) (f : Flit) : Prop :=
  f.dst.val = mcStop m ∧ f.plane = .req ∧ s.flag (mcPg m 0) R.PG_STATUS_FROZEN = false ∧ s.mcRetired m = false ∧ s.mcBlocked m f = false

/-- A line that a slice writes back (R222). -/
def IsVictim (f : Flit) : Prop := f.sport = 2 ∧ (stopTile? f.src.val).isSome

/-- Request f stands in its ingress queue and stays there. -/
def StaysQueued (c : Instr) (s : State) (f : Flit) : Prop :=
  (Tab.get [] s.mesh.ingress (8 * f.dst.val + f.dport.val)).contains f = true → Gives c s fun t => t = s

/-- A normal-world or secure request that no check of the controller refuses (R94, R221, R222). -/
def McAdmits (s : State) (m : McId) (f : Flit) : Prop :=
  s.mcServesAddr m f.addr.toNat = true ∧ (s.secureClass f.cls.val = true ∨ s.carved m f.addr.toNat = false) ∧ s.bgAllowed m f.cls.val f.addr.toNat = true

-- fabric ports

/-- The link of the request is UP, its function entry n is the one that matches, and the entry's tenant enters the data hierarchy in the link's
world (R69, R70, R395). -/
def Matches (s : State) (i : Inbound) (n : Nat) : Prop :=
  s.lnkState i.port i.link = LNK_UP ∧ s.fnMatch i = some n ∧ s.tenantOk (s.fnFld i.port i.link n R.FP_FN_TENANT) = true ∧
  s.secureClass (tctClass (s.tctEntry (s.fnFld i.port i.link n R.FP_FN_TENANT))) = s.linkSecure i.port i.link

/-- The port hands the request's link one message more, and nothing goes to the mesh. -/
def HandsOut (s t : State) (p : PortId) (m : FabMsg) : Prop := (t.port p).tx = (s.port p).tx ++ [m] ∧ t.out = s.out ∧ t.mem = s.mem

/-- The request is answered with a failed completion of a status: 1 Unsupported Request, 2 completer abort. -/
def Declines (s t : State) (i : Inbound) (status : Nat) : Prop :=
  HandsOut s t i.port ⟨i.link, .completion, i.rid.toNat, i.tag, status, i.addr.toNat, 0⟩

/-- Port p's newest record has a code, and the port's fault bits show it (R409). -/
def PortLogs (t : State) (p : PortId) (code : Nat) : Prop := bits (t.reg (portPg p + 0x40)) 31 16 = code

/-- The newest event of port p's queue has a kind and names the link (R410). -/
def Queues (s t : State) (p : PortId) (l : LinkId) (kind : Nat) : Prop :=
  ∃ e, (t.port p).events = (s.port p).events ++ [e] ∧ bits e.toNat 63 63 = 1 ∧ bits e.toNat 61 58 = kind ∧ bits e.toNat 57 56 = l.val

-- mailboxes of the Ward

/-- The Ward serves a request with command `cmd` in mailbox b: BUSY, and not answered (R87, R88). -/
def Asked (s : State) (b cmd : Nat) : Prop := s.fld (mbxPg b) R.WARD_MBX_STATUS_STATE = 2 ∧ (s.mbxState b).held = none ∧ s.mbxCmd b = cmd

/-- Mailbox b is DONE with a result and a reply, and its source is raised (R87). -/
def Published (s t : State) (b result : Nat) (out : List Word) : Prop :=
  t.fld (mbxPg b) R.WARD_MBX_STATUS_STATE = 3 ∧ t.fld (mbxPg b) R.WARD_MBX_STATUS_RESULT = result ∧
  t.reg (mbxPg b + 0x300) = s.mbxCmd b * 2 ^ 48 + out.length * 2 ^ 40 ∧
  (∀ i w, out[i]? = some w → t.reg (mbxPg b + 0x308 + 8 * i) = w.toNat) ∧ ∃ u, (u, 1792 + b) ∈ t.wires

/-- The request of mailbox b is served with a result and a reply: published at once, or, on a tenant's mailbox, held until `fixed` aclk after its
doorbell's edge (R88). -/
def Served (s t : State) (b fixed result : Nat) (out : List Word) : Prop :=
  (b < 8 ∨ 23 < b → Published s t b result out) ∧
  (8 ≤ b → b ≤ 23 → (t.mbxState b).held = some ⟨(s.mbxState b).edge + fixed, result, out⟩ ∧ t.regs = s.regs)

/-- Pages of the blocks as `pageAt` gives them (R36, R37). -/
def chanPage (c ch : Nat) : Page := ⟨chanPg c ch, .dmach, 0x009, 16 * c + ch, 0⟩
def dmaPage (c : Nat) : Page := ⟨dmaPg c, .dma, 0x008, c, 0⟩
def hingePage (n : Nat) : Page := ⟨hingePg n, .hinge, 0x001, n, 0⟩
def corePage (k : Nat) : Page := ⟨corePg k, .core, 0x003, k, 0⟩
def clusterPage (c : Nat) : Page := ⟨clusterPg c, .cluster, 0x002, c, 0⟩
def slicePage (c : Nat) : Page := ⟨slicePg c, .slice, 0x004, c, 0⟩
def enginePage (e : Nat) : Page := ⟨enginePg e, .dwemon, 0x006, e, 0⟩
def negPage (c : Nat) : Page := ⟨negPg c, .neg, 0x002, c, 1⟩
def mc0Page (m : Nat) : Page := ⟨mcPg m 0, .mc0, 0x010, m, 0⟩
def mc2Page (m : Nat) : Page := ⟨mcPg m 2, .mc2, 0x010, m, 2⟩
def phyPage (m sub : Nat) : Page := ⟨phyPg m sub, .phy, 0x011, 2 * m + sub, 0⟩
def portPage (p : Nat) : Page := ⟨portPg p, .fp0, 0x018, p, 0⟩
def linkPage (p l : Nat) : Page := ⟨linkPg p l, .fpl, 0x018, p, l + 1⟩
def mbxPage (b : Nat) : Page := ⟨mbxPg b, .mbx, 0x030, b, 0⟩
def pwrPage : Page := ⟨pwrPg, .pwr, 0x032, 0, 0⟩
def bolt0Page : Page := ⟨boltPg 0, .bolt0, 0x037, 0, 0⟩
def ras0Page : Page := ⟨rasPg 0, .ras0, 0x038, 0, 0⟩
/-- Page i, from 0 to 63, of the router. -/
def irtPage (i : Nat) : Page := ⟨irtPg i, irtBlock (0x40 + i), 0x020, 0, i⟩
/-- Target page i of the router; targets of harts have packed instance numbers (R38). -/
def targetPage (i : Nat) : Page := ⟨targetBase i, .target, 0x021, (targetInst i).getD 0, 0⟩

end Sys2Proof.Safety
end

