-- ==== Sys2Proof/Certificates/Slice0/Obligations.lean ====
section
/-! DEFINITION. The statements about the model, each a proposition that names the rules of the manual it formalises. -/

open Sys2Proof Sys2Proof.Machine Sys2Proof.Safety

-- Dwemon engines

/-- R266, R267: each instruction of the ALU group, and of the immediate group with imm16 sign-extended or zero-extended as it has it, leaves its result in rd,
changes no other register and nothing else of the part, and is followed by the next instruction; each takes 1 cycle, of
3 mclk on the Ward (R290). -/
def Obligations.DwemonAluAndImmediateResults : Prop :=
  (∀ (s : State) (e : Dwe) (rd ra rb : Reg), EngineGoes s e →
     let a := (s.engine e).getG ra
     let b := (s.engine e).getG rb
     let n := b.toNat % 64
     Computes (.add e rd ra rb) s e rd (a + b) ∧ Computes (.sub e rd ra rb) s e rd (a - b) ∧
     Computes (.and e rd ra rb) s e rd (a &&& b) ∧ Computes (.or e rd ra rb) s e rd (a ||| b) ∧
     Computes (.xor e rd ra rb) s e rd (a ^^^ b) ∧
     Computes (.sll e rd ra rb) s e rd (BitVec.ofNat 64 (a.toNat * 2 ^ n)) ∧
     Computes (.srl e rd ra rb) s e rd (BitVec.ofNat 64 (a.toNat / 2 ^ n)) ∧
     Computes (.sra e rd ra rb) s e rd (BitVec.ofInt 64 (a.toInt / 2 ^ n)) ∧
     Computes (.slt e rd ra rb) s e rd (if a.toInt < b.toInt then 1 else 0) ∧
     Computes (.sltu e rd ra rb) s e rd (if a.toNat < b.toNat then 1 else 0) ∧
     Computes (.min e rd ra rb) s e rd (BitVec.ofInt 64 (Min.min a.toInt b.toInt)) ∧
     Computes (.max e rd ra rb) s e rd (BitVec.ofInt 64 (Max.max a.toInt b.toInt)) ∧
     Computes (.minu e rd ra rb) s e rd (BitVec.ofNat 64 (Min.min a.toNat b.toNat)) ∧
     Computes (.maxu e rd ra rb) s e rd (BitVec.ofNat 64 (Max.max a.toNat b.toNat)) ∧
     (a = 0 → Computes (.ctz e rd ra) s e rd 64) ∧
     (∀ i < 64, a.getLsbD i = true → (∀ j < i, a.getLsbD j = false) → Computes (.ctz e rd ra) s e rd (BitVec.ofNat 64 i)) ∧
     Computes (.popc e rd ra) s e rd (BitVec.ofNat 64 ((Finset.range 64).filter (fun i => a.getLsbD i)).card) ∧
     (∀ c ∈ [Instr.add e rd ra rb, .sub e rd ra rb, .and e rd ra rb, .or e rd ra rb, .xor e rd ra rb, .sll e rd ra rb, .srl e rd ra rb, .sra e rd ra rb,
         .slt e rd ra rb, .sltu e rd ra rb, .min e rd ra rb, .max e rd ra rb, .minu e rd ra rb, .maxu e rd ra rb, .ctz e rd ra, .popc e rd ra],
       Gives c s fun t => ∃ x, max (s.engine e).free s.now ≤ x ∧ (t.engine e).free = x + dweCycle e)) ∧
  (∀ (s : State) (e : Dwe) (rd ra : Reg) (imm : BitVec 16) (sh : BitVec 6), EngineGoes s e →
     let a := (s.engine e).getG ra
     let sx : Word := BitVec.ofInt 64 imm.toInt
     let zx : Word := BitVec.ofNat 64 imm.toNat
     Computes (.addi e rd ra imm) s e rd (a + sx) ∧ Computes (.andi e rd ra imm) s e rd (a &&& zx) ∧
     Computes (.ori e rd ra imm) s e rd (a ||| zx) ∧ Computes (.xori e rd ra imm) s e rd (a ^^^ zx) ∧
     Computes (.slti e rd ra imm) s e rd (if a.toInt < imm.toInt then 1 else 0) ∧
     Computes (.sltiu e rd ra imm) s e rd (if a.toNat < sx.toNat then 1 else 0) ∧
     Computes (.slli e rd ra sh) s e rd (BitVec.ofNat 64 (a.toNat * 2 ^ sh.toNat)) ∧
     Computes (.srli e rd ra sh) s e rd (BitVec.ofNat 64 (a.toNat / 2 ^ sh.toNat)) ∧
     Computes (.srai e rd ra sh) s e rd (BitVec.ofInt 64 (a.toInt / 2 ^ sh.toNat)) ∧
     Computes (.lui e rd imm) s e rd (BitVec.ofInt 64 (imm.toInt * 2 ^ 16)) ∧
     Computes (.shori e rd ra imm) s e rd (BitVec.ofNat 64 (a.toNat * 2 ^ 16 + imm.toNat)) ∧
     (∀ c ∈ [Instr.addi e rd ra imm, .andi e rd ra imm, .ori e rd ra imm, .xori e rd ra imm, .slti e rd ra imm, .sltiu e rd ra imm, .slli e rd ra sh,
         .srli e rd ra sh, .srai e rd ra sh, .lui e rd imm, .shori e rd ra imm],
       Gives c s fun t => ∃ x, max (s.engine e).free s.now ≤ x ∧ (t.engine e).free = x + dweCycle e))

/-- R268: multiplies and divides, a zero divisor and the overflow of -2^63 / -1 among them; a divide holds X for 34 cycles, and a multiply's
result is ready 3 cycles after issue. -/
def Obligations.DwemonMultiplyDivideResults : Prop :=
  ∀ (s : State) (e : Dwe) (rd ra rb : Reg), EngineGoes s e →
    let a := (s.engine e).getG ra
    let b := (s.engine e).getG rb
    Computes (.mul e rd ra rb) s e rd (BitVec.ofInt 64 (a.toInt * b.toInt)) ∧
    Computes (.mulh e rd ra rb) s e rd (BitVec.ofInt 64 (a.toInt * b.toInt / 2 ^ 64)) ∧
    Computes (.mulhu e rd ra rb) s e rd (BitVec.ofNat 64 (a.toNat * b.toNat / 2 ^ 64)) ∧
    (b ≠ 0 → Computes (.div e rd ra rb) s e rd (BitVec.ofInt 64 (a.toInt.tdiv b.toInt)) ∧
      Computes (.divu e rd ra rb) s e rd (BitVec.ofNat 64 (a.toNat / b.toNat)) ∧
      Computes (.rem e rd ra rb) s e rd (BitVec.ofInt 64 (a.toInt.tmod b.toInt)) ∧
      Computes (.remu e rd ra rb) s e rd (BitVec.ofNat 64 (a.toNat % b.toNat))) ∧
    (b = 0 → Computes (.div e rd ra rb) s e rd (BitVec.allOnes 64) ∧ Computes (.divu e rd ra rb) s e rd (BitVec.allOnes 64) ∧
      Computes (.rem e rd ra rb) s e rd a ∧ Computes (.remu e rd ra rb) s e rd a) ∧
    (∀ c ∈ [Instr.div e rd ra rb, .divu e rd ra rb, .rem e rd ra rb, .remu e rd ra rb], Gives c s fun t =>
      max (s.engine e).free s.now + 34 * dweCycle e ≤ (t.engine e).free) ∧
    (∀ c ∈ [Instr.mul e rd ra rb, .mulh e rd ra rb, .mulhu e rd ra rb], Gives c s fun t =>
      ∃ x, max (s.engine e).free s.now ≤ x ∧ (t.engine e).free = x + dweCycle e ∧ (t.engine e).hazard = some (rd, x + 3 * dweCycle e))

/-- R271, R272: LEQ and LSCAN compare the lanes of the DMEM line at ra; CRC32C, CRC64 and HMIX leave the value of their step. Where
ra lies outside DMEM or is not aligned to 64 bytes in task context, LEQ and LSCAN end the task with ACCESS or ALIGN. -/
def Obligations.DwemonLineCompareAndCrc : Prop :=
  ∀ (s : State) (e : Dwe) (rd ra rb : Reg) (cmp width n : Fin 4), EngineGoes s e →
    let a := (s.engine e).getG ra
    let b := (s.engine e).getG rb
    let w := 8 * 2 ^ width.val
    let hit (off i : Nat) : Prop :=
      let lane := leValue (dmemBytes s e (off + i * (w / 8)) (w / 8))
      let v := b.toNat % 2 ^ w
      (cmp = 0 ∧ lane = v) ∨ (cmp = 1 ∧ lane ≠ v) ∨ (cmp = 2 ∧ lane < v) ∨ (cmp = 3 ∧ v ≤ lane)
    (∀ off, DmemAccess s e a.toNat 64 off → off % 64 = 0 →
      (∃ m : Word, (∀ i < 64, m.getLsbD i = true ↔ i < 512 / w ∧ hit off i) ∧ Computes (.leq e rd ra rb cmp width) s e rd m) ∧
      ((∀ i < 512 / w, ¬ hit off i) → Computes (.lscan e rd ra rb cmp width) s e rd (BitVec.ofNat 64 (512 / w))) ∧
      (∀ i < 512 / w, hit off i → (∀ j < i, ¬ hit off j) → Computes (.lscan e rd ra rb cmp width) s e rd (BitVec.ofNat 64 i))) ∧
    ((s.engine e).level = 0 → (s.engine e).ending = none →
      ∀ c ∈ [Instr.leq e rd ra rb cmp width, .lscan e rd ra rb cmp width],
        (a.toNat < 0xFFFFFFFFFFFE0000 → Gives c s fun t => (t.engine e).cause.toNat % 16 = 4 ∧ (t.engine e).tval = a) ∧
        (0xFFFFFFFFFFFE0000 ≤ a.toNat → a.toNat % 64 ≠ 0 → Gives c s fun t => (t.engine e).cause.toNat % 16 = 3 ∧ (t.engine e).tval = a)) ∧
    Computes (.crc32c e rd ra rb n) s e rd (BitVec.ofNat 64 (crcBytes 0x82F63B78 (2 ^ n.val) b.toNat (a.toNat % 2 ^ 32))) ∧
    Computes (.crc64 e rd ra rb n) s e rd (BitVec.ofNat 64 (crcBytes 0xC96C5795D7870F42 (2 ^ n.val) b.toNat a.toNat)) ∧
    Computes (.hmix e rd ra rb) s e rd
      (let x1 := (a ^^^ ((b <<< 23) ||| (b >>> 41))) * 0xA3B195C4E67D2F0B
       let x2 := (x1 ^^^ (x1 >>> 29)) * 0x5C27E8D14B9603A7
       x2 ^^^ (x2 >>> 32))

/-- R269: a load of DMEM that no store in the buffer touches leaves the bytes at ra + sext(imm), little-endian, sign- or zero-extended;
one whose address lies in no window raises ACCESS with the address in DE_TVAL. -/
def Obligations.DwemonDmemLoads : Prop :=
  ∀ (s : State) (e : Dwe) (rd ra : Reg) (imm : BitVec 16), EngineGoes s e →
    let ea := ((s.engine e).getG ra + BitVec.ofInt 64 imm.toInt).toNat
    let m (off n : Nat) : Nat := leValue (dmemBytes s e off n)
    ((s.engine e).sbuf = [] →
      (∀ off, DmemAccess s e ea 1 off → Computes (.lb e rd ra imm) s e rd (BitVec.ofInt 64 (BitVec.ofNat 8 (m off 1)).toInt) ∧
        Computes (.lbu e rd ra imm) s e rd (BitVec.ofNat 64 (m off 1))) ∧
      (∀ off, DmemAccess s e ea 2 off → Computes (.lh e rd ra imm) s e rd (BitVec.ofInt 64 (BitVec.ofNat 16 (m off 2)).toInt) ∧
        Computes (.lhu e rd ra imm) s e rd (BitVec.ofNat 64 (m off 2))) ∧
      (∀ off, DmemAccess s e ea 4 off → Computes (.lw e rd ra imm) s e rd (BitVec.ofInt 64 (BitVec.ofNat 32 (m off 4)).toInt) ∧
        Computes (.lwu e rd ra imm) s e rd (BitVec.ofNat 64 (m off 4))) ∧
      (∀ off, DmemAccess s e ea 8 off → Computes (.ld e rd ra imm) s e rd (BitVec.ofNat 64 (m off 8)))) ∧
    (2 ^ 63 ≤ ea → ea < 0xFFFFFFFFFFFC0000 → (s.engine e).level = 0 → (s.engine e).ending = none →
      ∀ c ∈ [Instr.lb e rd ra imm, .lbu e rd ra imm, .lh e rd ra imm, .lhu e rd ra imm, .lw e rd ra imm, .lwu e rd ra imm, .ld e rd ra imm],
        Gives c s fun t => (t.engine e).cause.toNat % 16 = 4 ∧ (t.engine e).tval.toNat = ea)

/-- R269, R295, R297: a store to DMEM enters the store buffer as its youngest entry, with the low bytes of the register, and leaves DMEM
alone; draining the oldest entry writes exactly its bytes of DMEM. -/
def Obligations.DwemonStoresAndDrains : Prop :=
  (∀ (s : State) (e : Dwe) (rs ra : Reg) (imm : BitVec 16) (off : Nat), EngineGoes s e → 2 ≤ (s.engine e).sbFree →
    let ea := ((s.engine e).getG ra + BitVec.ofInt 64 imm.toInt).toNat
    ∀ x ∈ [(Instr.sb e rs ra imm, 1), (.sh e rs ra imm, 2), (.sw e rs ra imm, 4), (.sd e rs ra imm, 8)],
      0xFFFFFFFFFFFE0000 ≤ ea → ea + x.2 ≤ 2 ^ 64 → off = ea - 0xFFFFFFFFFFFE0000 → (s.engine e).lgetOn off x.2 = false →
      Gives x.1 s fun t =>
        (∃ b, (t.engine e).sbuf = (s.engine e).sbuf ++ [b] ∧ b.window = 0 ∧ b.addr = off ∧ b.size = x.2 ∧
          b.data = ((s.engine e).getG rs).toNat % 2 ^ (8 * x.2)) ∧
        (t.engine e).dmem = (s.engine e).dmem ∧ (∀ r, (t.engine e).getG r = (s.engine e).getG r) ∧
        (t.engine e).pc = nextPc (s.engine e) ∧ OnlyEngine s t e) ∧
  (∀ (s : State) (e : Dwe) (b : SbEntry) (rest : List SbEntry), (s.engine e).sbuf = b :: rest → b.window = 0 →
    (s.engine e).lgetOn b.addr b.size = false →
    Gives (.storeBufferDrain e) s fun t =>
      (t.engine e).sbuf = rest ∧ dmemBytes t e b.addr b.size = leBytes b.size b.data ∧
      (∀ a, a < b.addr ∨ b.addr + b.size ≤ a → Tab.get 0 (t.engine e).dmem a = Tab.get 0 (s.engine e).dmem a) ∧ OnlyEngine s t e)

/-- R260, R262, R263, R264: a conditional branch that is taken is followed by its delay slot and then the target pc + 4 x disp; one that is not taken
goes on after its delay slot, which runs unless the branch annuls it. J and JL go to pc + 4 x disp, JR and JLR to ra; the annul bit skips the delay slot; JL
links pc + 8 in g31 and JLR in rd, and both push it on the return stack, whose ninth entry is lost; JR and JLR through g31 pop it. A JLR whose rd is its ra
is ILLEGAL. -/
def Obligations.DwemonBranchesAndJumps : Prop :=
  (∀ (s : State) (e : Dwe) (ra : Reg) (a p : Bool) (disp : BitVec 15), EngineGoes s e → (s.engine e).slot = none →
     let v := (s.engine e).getG ra
     let target := (BitVec.ofNat 64 (s.engine e).pc + BitVec.ofInt 64 (4 * disp.toInt)).toNat
     ∀ x ∈ [(Instr.beq e ra a p disp, decide (v = 0)), (.bne e ra a p disp, decide (v ≠ 0)), (.blt e ra a p disp, decide (v.toInt < 0)),
         (.bge e ra a p disp, decide (0 ≤ v.toInt)), (.bgt e ra a p disp, decide (0 < v.toInt)), (.ble e ra a p disp, decide (v.toInt ≤ 0)),
         (.bodd e ra a p disp, decide (v.toNat % 2 = 1)), (.beven e ra a p disp, decide (v.toNat % 2 = 0))],
       (x.2 = true → Branches x.1 s e target) ∧
       (x.2 = false → a = false → Branches x.1 s e ((s.engine e).pc + 8)) ∧
       (x.2 = false → a = true → Gives x.1 s fun t =>
         (t.engine e).pc = (s.engine e).pc + 8 ∧ (t.engine e).slot = none ∧ (∀ r, (t.engine e).getG r = (s.engine e).getG r) ∧
         OnlyEngine s t e)) ∧
  (∀ (s : State) (e : Dwe) (rd ra : Reg) (a : Bool) (disp : BitVec 25), EngineGoes s e → (s.engine e).slot = none →
     let g := s.engine e
     let direct := (BitVec.ofNat 64 g.pc + BitVec.ofInt 64 (4 * disp.toInt)).toNat
     let popped := if ra.val = 31 then g.rstack.drop 1 else g.rstack
     let goes (t : State) (target : Nat) : Prop :=
       OnlyEngine s t e ∧ (if a then (t.engine e).pc = target ∧ (t.engine e).slot = none
         else (t.engine e).pc = g.pc + 4 ∧ (t.engine e).slot = some g.pc ∧ (t.engine e).after = target)
     let links (t : State) (r : Reg) : Prop :=
       ∀ q, (t.engine e).getG q = if q = r ∧ r ≠ 0 then BitVec.ofNat 64 (g.pc + 8) else g.getG q
     (Gives (.j e a disp) s fun t => goes t direct ∧ (∀ q, (t.engine e).getG q = g.getG q) ∧ (t.engine e).rstack = g.rstack) ∧
     (Gives (.jl e a disp) s fun t => goes t direct ∧ links t 31 ∧ (t.engine e).rstack = ((g.pc + 8) :: g.rstack).take 8) ∧
     (Gives (.jr e ra a) s fun t => goes t (g.getG ra).toNat ∧ (∀ q, (t.engine e).getG q = g.getG q) ∧ (t.engine e).rstack = popped) ∧
     (rd ≠ ra → Gives (.jlr e rd ra a) s fun t => goes t (g.getG ra).toNat ∧ links t rd ∧
       (t.engine e).rstack = ((g.pc + 8) :: popped).take 8) ∧
     (rd = ra → g.level = 0 → Gives (.jlr e rd ra a) s fun t => (t.engine e).cause.toNat % 16 = 1))

/-- R273, R279, R269: with older stores performed and a system address that translates to main memory, AADD, ACAS and JOIN send one BATOMIC to
the home with their operands and wait; the reply to the engine's load, atomic or JOIN ends the wait with the old value in rd. -/
def Obligations.DwemonAtomicsAndReplies : Prop :=
  (∀ (s : State) (e : Dwe) (rd ra rb : Reg) (pa : Nat), EngineGoes s e →
    let g := s.engine e
    let ea := (g.getG ra).toNat
    ea < 2 ^ 63 → EngineReaches s e ea true pa → s.engineRefused e pa = false → s.mainMemory pa = true → g.drained = true →
    g.async = false →
    let asks (t : State) (w0 : Word) : Prop := ∃ f, t.out = s.out ++ [⟨s.now, f⟩] ∧ f.plane = .bulk ∧ f.op = OP_BATOMIC ∧
      f.addr = BitVec.ofNat 52 pa ∧ f.dst = Fin.ofNat 120 (tileStop (s.homeOf pa)) ∧ f.dport = 2 ∧ f.tenant = (s.engineIds e).1 ∧
      f.cls = (s.engineIds e).2 ∧ lineWord f.data 0 = w0
    let waits (t : State) (m : MWait) : Prop := (t.engine e).mwait = some m ∧ (t.engine e).pc = g.pc ∧
      (∀ r, (t.engine e).getG r = g.getG r) ∧ { t with engines := s.engines, out := s.out } = s
    (ea % 8 = 0 → Gives (.aadd e rd ra rb false) s fun t => asks t (g.getG rb) ∧ waits t (.atomic rd false ea)) ∧
    (ea % 8 = 0 → Gives (.acas e rd ra rb false) s fun t => asks t (g.getG rb) ∧ waits t (.atomic rd false ea)) ∧
    (ea % 64 = 0 → g.level = 0 → Gives (.join e rd ra rb) s fun t => asks t (g.getG rb) ∧ waits t (.join rd (g.getG rb) pa ea))) ∧
  (∀ (s : State) (e : Tile) (rd : Reg) (f : Flit), f.dst.val = e.val + 12 → replyFails f = false → f.poison = false →
    let g := s.engine e
    let done (v : Word) : Prop := Gives (.deSystemReply f) s fun t =>
      (t.engine e).getG rd = (if rd = 0 then 0 else v) ∧ (∀ r, r ≠ rd → (t.engine e).getG r = g.getG r) ∧ (t.engine e).mwait = none ∧
      (t.engine e).pc = nextPc g ∧ ButCounts s { t with engines := s.engines, mesh := s.mesh } e
    (∀ pa ea, g.mwait = some (.load rd 8 false pa ea) → f.tag = 0 → f.op = OP_DATA → pa % 64 ≤ 56 →
      done (BitVec.ofNat 64 (f.data.toNat >>> (8 * (pa % 64))))) ∧
    (∀ ea, g.mwait = some (.atomic rd false ea) → f.tag = 1 → done (lineWord f.data 0)))

/-- R274-R277: LGET, LPUT and LBLANK of aligned lines that translate take one stream entry and send their message to the home; the reply of
an LGET writes its 64 bytes of DMEM and nothing else there; SYNC n goes on when at most n entries are outstanding, and n above 32 is ILLEGAL. -/
def Obligations.DwemonStreamUnit : Prop :=
  (∀ (s : State) (e : Dwe) (ra rb : Reg) (pa lea : Nat), EngineGoes s e →
    let g := s.engine e
    g.stream = [] → lea % 64 = 0 → lea < 0x20000 → s.tenantOk (s.engineIds e).1.val = true → s.mainMemory pa = true →
    let sends (t : State) (op : Fin 32) (sys : Nat) : Prop :=
      (∃ f, t.out = s.out ++ [⟨s.now, f⟩] ∧ f.plane = .bulk ∧ f.op = op ∧ f.addr = BitVec.ofNat 52 pa ∧
        f.dst = Fin.ofNat 120 (tileStop (s.homeOf pa)) ∧ (op = OP_BWRLINE → sys = 1 →
          f.data = BitVec.ofNat 512 (leValue (dmemBytes s e lea 64)))) ∧
      (t.engine e).stream.length = 1 ∧ (t.engine e).pc = nextPc g ∧ ButCounts s { t with engines := s.engines, out := s.out } e
    ((g.getG ra).toNat = 0xFFFFFFFFFFFE0000 + lea → (g.getG rb).toNat % 64 = 0 → (g.getG rb).toNat < 2 ^ 63 →
      (EngineReaches s e (g.getG rb).toNat false pa → Gives (.lget e ra rb) s fun t => sends t OP_BRD 0) ∧
      (EngineReaches s e (g.getG rb).toNat true pa → Gives (.lput e ra rb) s fun t => sends t OP_BWRLINE 1)) ∧
    ((g.getG ra).toNat % 64 = 0 → (g.getG ra).toNat < 2 ^ 63 → EngineReaches s e (g.getG ra).toNat true pa →
      Gives (.lblank e ra) s fun t => sends t OP_BWRLINE 2)) ∧
  (∀ (s : State) (e : Tile) (f : Flit) (x : StreamEntry), f.dst.val = e.val + 12 → (s.engine e).stream = [x] → x.kind = 0 →
    f.tag.val = 128 + x.id → f.plane = .bulk → f.op = OP_BDATA → f.poison = false → (s.engine e).ending = none →
    Gives (.streamEntryComplete f) s fun t =>
      dmemBytes t e x.dmem 64 = leBytes 64 f.data.toNat ∧ (t.engine e).stream = [] ∧
      (∀ a, a < x.dmem ∨ x.dmem + 64 ≤ a → Tab.get 0 (t.engine e).dmem a = Tab.get 0 (s.engine e).dmem a) ∧
      { t with engines := s.engines, mesh := s.mesh } = s) ∧
  (∀ (s : State) (e : Dwe) (n : Fin 64), EngineGoes s e →
    (n.val ≤ 32 → (s.engine e).stream.length ≤ n.val → (s.engine e).async = false → Gives (.sync e n) s fun t =>
      (t.engine e).pc = nextPc (s.engine e) ∧ OnlyPipeline (s.engine e) (t.engine e) ∧ OnlyEngine s t e) ∧
    (32 < n.val → (s.engine e).level = 0 → Gives (.sync e n) s fun t => (t.engine e).cause.toNat % 16 = 1))

/-- R281: what each instruction of the system group does to the engine: WAIT stops issue, FENCE and IBAR with nothing outstanding go on,
PFLUSH empties the return stack and target cache, PBAR advances the prediction epoch and flushes from 15 to 0, BREAK under DE_CTL.DEBUG halts
(R289), and IRET returns to the saved pc where no interrupt qualifies (R305). An enabled counter that selects event 0x01 counts the instruction
(R508, R512). -/
def Obligations.DwemonSystemGroup : Prop :=
  ∀ (s : State) (e : Dwe), EngineGoes s e →
    let g := s.engine e
    let goes (t : State) : Prop := (t.engine e).pc = nextPc g ∧ (∀ r, (t.engine e).getG r = g.getG r) ∧ OnlyEngine s t e
    (Gives (.wait e) s fun t => goes t ∧ (t.engine e).waiting = true) ∧
    (g.drained = true → g.stream = [] → g.async = false → Gives (.deFence e) s fun t => goes t ∧ OnlyPipeline g (t.engine e)) ∧
    (g.sbuf = [] → g.async = false → Gives (.ibar e) s fun t => goes t ∧ OnlyPipeline g (t.engine e)) ∧
    (Gives (.pflush e) s fun t => goes t ∧ (t.engine e).rstack = [] ∧ (t.engine e).tcache = []) ∧
    (g.pred < 15 → Gives (.pbar e) s fun t => goes t ∧ (t.engine e).pred = g.pred + 1 ∧ (t.engine e).rstack = g.rstack) ∧
    (g.pred = 15 → Gives (.pbar e) s fun t => goes t ∧ (t.engine e).pred = 0 ∧ (t.engine e).rstack = [] ∧ (t.engine e).tcache = []) ∧
    (g.slot = none → s.flag (enginePg e) R.DE_CTL_DEBUG = true → Gives (.brk e) s fun t =>
      (t.engine e).st = .halted ∧ (t.engine e).haltCause = 8 ∧ (t.engine e).haltPc = g.pc ∧ OnlyEngine s t e) ∧
    (∀ sh rest, g.slot = none → g.shadows = sh :: rest → (s.dePend e = 0) → Gives (.iret e) s fun t =>
      (t.engine e).pc = sh.epc ∧ (t.engine e).shadows = rest ∧ (t.engine e).ie = sh.esave.getLsbD 0 ∧
      (∀ r, (t.engine e).getG r = g.getG r) ∧ OnlyEngine s t e) ∧
    (g.shadows = [] → Gives (.iret e) s fun t => (t.engine e).cause.toNat % 16 = 1) ∧
    (∀ i, i < 4 → e.val < 96 → Canonical s → s.secureClass (s.engineIds e).2.val = false → s.holdsSecure (enginePg e) = false →
      s.flag (enginePg e) R.CNT_CTL_FREEZE = false →
      s.reg (enginePg e + 0xE40 + 16 * i) = 2 ^ 63 + 1 → Gives (.pflush e) s fun t =>
        t.reg (enginePg e + 0xE48 + 16 * i) = (s.reg (enginePg e + 0xE48 + 16 * i) % 2 ^ 48 + 1) % 2 ^ 48)

/-- R282, R288: SRD reads DE_STATUS, DE_TIME and DE_ID in any context; in handler context SWR and SRD carry DE_IEN, DE_EVEC and DE_TIMECMP; DE_CLAIM
read gives the delivery held and marks it claimed, DE_EOI written tells the router (R376, R377); in task context each of these is ILLEGAL. -/
def Obligations.DwemonControlRegisters : Prop :=
  ∀ (s : State) (e : Dwe) (rd ra : Reg), EngineGoes s e →
    let g := s.engine e
    let v := (g.getG ra).toNat
    Computes (.srd e rd 0x000) s e rd (BitVec.ofNat 64 (2 * g.shadows.length + b01 g.ie)) ∧
    Computes (.srd e rd 0x010) s e rd (BitVec.ofNat 64 (s.now / 96)) ∧
    Computes (.srd e rd 0x028) s e rd (BitVec.ofNat 64 e.val) ∧
    (0 < g.level →
      Computes (.srd e rd 0x009) s e rd (BitVec.ofNat 64 g.ien) ∧ Computes (.srd e rd 0x011) s e rd g.timecmp ∧
      (Gives (.swr e ra 0x009) s fun t => (t.engine e).ien = v % 16 ∧ (t.engine e).pc = nextPc g ∧ OnlyEngine s t e) ∧
      (Gives (.swr e ra 0x001) s fun t => (t.engine e).evec = v / 256 % 256 * 256 ∧ OnlyEngine s t e) ∧
      (Gives (.swr e ra 0x011) s fun t => (t.engine e).timecmp = g.getG ra ∧ OnlyEngine s t e) ∧
      (g.deliv = none → Computes (.deClaim e rd) s e rd 0x7FFF) ∧
      (∀ d, g.deliv = some d → d.claimed = false → Gives (.deClaim e rd) s fun t =>
        (t.engine e).getG rd = (if rd = 0 then 0 else BitVec.ofNat 64 d.src.val) ∧ (t.engine e).deliv = some { d with claimed := true } ∧
        t.out.length = s.out.length + 1 ∧ ButCounts s { t with engines := s.engines, out := s.out } e) ∧
      (Gives (.deEoi e ra) s fun t => (∃ f, t.out = s.out ++ [⟨s.now, f⟩] ∧ f.op = OP_WRIO ∧ f.detail = 2 ∧
          lineWord f.data 0 = BitVec.ofNat 64 (v % 2 ^ 15)) ∧ ButCounts s { t with engines := s.engines, out := s.out } e)) ∧
    (g.level = 0 → ∀ c ∈ [Instr.srd e rd 0x009, .swr e ra 0x009, .deClaim e rd, .deEoi e ra], Gives c s fun t =>
      (t.engine e).cause.toNat % 16 = 1)

/-- R280, R284-R286, R298, R299, R301, R303: an exception in task context discards the undrained stores and ends the task with status 0x8100 + cause; in handler
context it halts the engine with record 0x6001; an uncorrectable IMEM word raises POISON at its pc; a sampled interrupt saves pc, status and
running priority in a new level and goes to its vector; a more urgent one sampled in the first cycles of an entry takes it over, changing only cause, running
priority and vector; the timer is pending once the timebase reaches DE_TIMECMP. -/
def Obligations.DwemonExceptionsAndInterrupts : Prop :=
  ∀ (s : State) (e : Dwe),
    let g := s.engine e
    (∀ (k : Tile) (cause : Fin 9) (tval : Word), k.val = e.val → cause ≠ 0 → g.level = 0 → g.task.isSome → g.ending = none → g.stream ≠ [] →
      Gives (.taskException k cause tval) s fun t =>
        (t.engine e).ending = some (0x8100 + cause.val) ∧ (t.engine e).sbuf = [] ∧ (t.engine e).cause.toNat % 2 ^ 61 = cause.val ∧
        (t.engine e).tval = tval ∧ (t.engine e).dmem = g.dmem ∧ OnlyEngine s t e) ∧
    (∀ (cause : Fin 9) (tval : Word), cause ≠ 0 → 0 < g.level → (s.queue e).running = none →
      Gives (.engineHalt e cause tval) s fun t =>
        (t.engine e).st = .halted ∧ (t.engine e).haltCause = cause.val ∧
        (e.val < 96 → bits (t.reg (enginePg e + 0x40)) 31 16 = 0x6001 ∧ bits (t.reg (enginePg e + 0x10)) 2 2 = 1) ∧
        (∀ k, k ≠ e.val → t.engine k = s.engine k) ∧ t.mem = s.mem) ∧
    (s.deRuns e = true → g.level = 0 → Gives (.imemPoisonFetch e) s fun t =>
      (t.engine e).cause.toNat % 16 = 6 ∧ (t.engine e).tval = BitVec.ofNat 64 g.pc ∧
      (e.val < 96 → bits (t.reg (enginePg e + 0x40)) 31 28 = 6)) ∧
    (∀ code c0, g.st ≠ .halted → g.st ≠ .scrub → g.ending = none → g.entry = some c0 → dweEdge e s.now ≤ c0 + 4 * dweCycle e →
      0 < g.level → s.sampled e g.ie (g.level - 1) g.runpri = some code → Gives (.deInterruptEntry e) s fun t =>
        (t.engine e).level = g.level ∧ (∀ sh, g.shadows.head? = some sh → ∃ u, (t.engine e).shadows = u :: g.shadows.tail ∧ u.epc = sh.epc ∧
          u.esave = sh.esave ∧ u.pri = (g.prio code).2) ∧
        (t.engine e).pc = g.evec + 16 * code ∧ (t.engine e).cause.toNat % 2 ^ 61 = code ∧ (t.engine e).free = g.free ∧ OnlyEngine s t e) ∧
    (∀ code, g.st ≠ .halted → g.st ≠ .scrub → g.ending = none → g.slot = none → g.entry = none → code < 4 → s.sampled e g.ie g.level g.runpri = some code →
      Gives (.deInterruptEntry e) s fun t =>
        (t.engine e).level = g.level + 1 ∧ (∃ sh, (t.engine e).shadows = sh :: g.shadows ∧ sh.epc = g.pc ∧ sh.esave = g.status) ∧
        (t.engine e).pc = g.evec + 16 * code ∧ (t.engine e).st = .handler ∧ (t.engine e).cause.toNat = 2 ^ 63 + code ∧
        (∀ r, (t.engine e).getG r = g.getG r) ∧ OnlyEngine s t e) ∧
    (Gives (.deTimer e) s fun t => bitN (t.dePend e) 3 = true ∧ s.now ≤ t.now ∧ { t with now := s.now } = s)

/-- R258, R309, R310, R337, R283: a scrub due zeroes DMEM for 2,048 mclk and leaves it without an owner class; an engine error halts the
engine with record 0x6002; the Ward reads and writes engine memory in place, and a hart below M-mode is refused; a drained store that is
answered with an error is recorded in DE_STRMERR. -/
def Obligations.EngineMemoryAndScrub : Prop :=
  (∀ (s : State) (e : Tile),
    let g := s.engine e
    (g.scrubDue = true → g.scrubEnd = none → Gives (.dmemScrub e) s fun t =>
      (t.engine e).st = .scrub ∧ (t.engine e).scrubEnd = some (s.now + 2048) ∧ (∀ a, Tab.get 0 (t.engine e).dmem a = 0) ∧
      (t.engine e).dpoison = [] ∧ OnlyEngine s t e) ∧
    (∀ u, g.scrubEnd = some u → s.flag (enginePg e) R.PG_RESET_ACTIVE = false → g.task = none → Gives (.scrubDone e) s fun t =>
      (t.engine e).scrubEnd = none ∧ (t.engine e).owner = none ∧ (t.engine e).st = .idle ∧ t.now = max s.now u) ∧
    (g.st ≠ .halted → g.faults + 1 < s.fld (rasPg 0) R.RAS_POLICY_DE_RETIRE → (s.queue e).running = none →
      Gives (.engineFault e) s fun t =>
        (t.engine e).st = .halted ∧ (t.engine e).faults = g.faults + 1 ∧ bits (t.reg (enginePg e + 0x40)) 31 16 = 0x6002 ∧
        (∀ k, k ≠ e.val → t.engine k = s.engine k)) ∧
    (∀ (f : Flit) (b : SbEntry), f.dst.val = e.val + 12 → g.sysOut = [b] → b.addr = f.addr.toNat → replyFails f = true → g.ending = none →
      g.strmerr = 0 → Gives (.systemStoreReply f) s fun t =>
        (t.engine e).sysOut = [] ∧ (t.engine e).strmerr = BitVec.ofNat 64 (2 ^ 63 + 2 ^ 60 + b.ea % 2 ^ 58) ∧
        { t with engines := s.engines, mesh := s.mesh } = s)) ∧
  (∀ (s : State) (e : Tile) (off : Nat) (line : Line) (p : PageReq), off % 8 = 0 → off < 0x20000 →
    p.addr.toNat = taskDoorbellAddr e + 0x80000 + off → p.size = 8 → s.mesh.ingress = [] → (s.engine e).lgetOn off 8 = false →
    (s.engine e).scrubEnd = none →
    let answer (t : State) (d : Line) (err : Bool) : Prop :=
      t.resps = s.resps ++ [⟨p.who, p.tag, p.addr, p.kind.writes, d, err, s.now⟩]
    (p.who.path = .ward → p.kind = .load → Gives (.engineMemoryAccess p line) s fun t =>
      answer t (BitVec.ofNat 512 (leValue (dmemBytes s e off 8))) false ∧ { t with resps := s.resps } = s) ∧
    (p.who.path = .ward → p.kind = .store → Gives (.engineMemoryAccess p line) s fun t =>
      answer t 0 false ∧ dmemBytes t e off 8 = leBytes 8 p.data.toNat ∧
      (∀ a, a < off ∨ off + 8 ≤ a → Tab.get 0 (t.engine e).dmem a = Tab.get 0 (s.engine e).dmem a) ∧
      { t with resps := s.resps, engines := s.engines } = s) ∧
    (p.who.path = .hart → p.who.priv.val ≠ 3 → Gives (.engineMemoryAccess p line) s fun t => answer t 0 true ∧ { t with resps := s.resps } = s))

/-- R279, R114, R317, R327: TSPAWN of a checked descriptor with room in the deque puts it, its priority clamped, on top of its class and leaves 0
in rd, and a descriptor that fails a check leaves 2; TDONE with nothing outstanding ends the task, whose engine is free at once where the
descriptor asks for no record. -/
def Obligations.TaskSpawnAndDone : Prop :=
  (∀ (s : State) (e : Dwe) (rd ra : Reg) (off : Nat), e.val < 96 → EngineGoes s e → (s.engine e).level = 0 →
    DmemAccess s e ((s.engine e).getG ra).toNat 64 off → off % 64 = 0 →
    let d : Line := BitVec.ofNat 512 (leValue (dmemBytes s e off 64))
    let ids := s.engineIds e
    let wrote (t : State) (v : Word) : Prop := (t.engine e).getG rd = (if rd = 0 then 0 else v) ∧
      (∀ r, r ≠ rd → (t.engine e).getG r = (s.engine e).getG r) ∧ (t.engine e).pc = nextPc (s.engine e) ∧
      ButCounts s { t with engines := s.engines, queues := s.queues } e
    (s.taskCheck e d ids.1 ids.2 = true → (s.queue e).retired = false →
      ((s.queue e).entries ids.2.val).length < s.queueShare e ids.2.val → Gives (.tspawn e rd ra) s fun t =>
        wrote t 0 ∧ (t.queue e).entries ids.2.val = (s.queue e).entries ids.2.val ++ [s.clampPriority d]) ∧
    (s.taskCheck e d ids.1 ids.2 = false → Gives (.tspawn e rd ra) s fun t => wrote t 2 ∧ (t.queue e).deque = (s.queue e).deque)) ∧
  (∀ (s : State) (e : Dwe) (ra : Reg) (d : Line), e.val < 96 → EngineGoes s e → (s.engine e).level = 0 → (s.engine e).slot = none →
    (s.engine e).ctxDue = false →
    ((s.engine e).getG ra).toNat < 2 ^ 15 → (s.engine e).drained = true → (s.engine e).stream = [] → (s.engine e).async = false →
    (s.engine e).task = some d → (s.engine e).ended = false → dCrec d = 0 → dJblk d = 0 →
    Gives (.tdone e ra) s fun t => (t.engine e).task = none ∧ (t.engine e).st = .idle ∧ (t.queue e).running = none ∧
      ButCounts s { t with engines := s.engines, queues := s.queues } e)

-- task queues

/-- R316, R317: a full-line write of a task doorbell that passes the checks and finds room is pushed on top of its class, sets DOORBELL pending
and is answered; one that fails a check is not pushed, and is answered all the same: each once it
has been decided, 3 mclk after its lane takes it (R319). -/
def Obligations.TaskDoorbellSubmits : Prop :=
  ∀ (s : State) (e : Tile) (f : Flit), f.dst.val = e.val + 12 → f.plane = .req → f.op = OP_WRLINE → f.count = 64 →
    f.addr.toNat = taskDoorbellAddr e → LaneQuiet s e f.cls.val → (s.queue e).retired = false →
    let k := f.cls.val
    let acked (t : State) : Prop := ∃ m ∈ t.out, m.flit.dst = f.src ∧ m.flit.tag = f.tag ∧ s.now + 3 ≤ m.at_
    (s.taskCheck e f.data f.tenant f.cls = true → ((s.queue e).entries k).length < s.queueShare e k → Gives (.taskDoorbell f) s fun t =>
      (t.queue e).entries k = (s.queue e).entries k ++ [s.clampPriority f.data] ∧ (t.engine e).ipDoor = true ∧ acked t ∧
      ButCounts s { t with queues := s.queues, engines := s.engines, out := s.out } e) ∧
    (s.taskCheck e f.data f.tenant f.cls = false → dCrec f.data = 0 → Gives (.taskDoorbell f) s fun t =>
      (t.queue e).deque = (s.queue e).deque ∧ acked t ∧ { t with queues := s.queues, out := s.out } = s)

/-- R254, R320, R322, R323: a free engine takes the topmost of the most urgent entries of the first class it considers and, when the checks pass, starts
its kernel no sooner than 35 mclk later: the entry address, g1 to g5 from the descriptor's arguments and g6 its first word, every other register 0. -/
def Obligations.TaskDispatchStartsKernel : Prop :=
  ∀ (s : State) (e : Tile) (k : Nat) (d : Line) (rest : List Line), s.engineFree e = true →
    (s.classOrder e).find? (fun k => !((s.queue e).entries k).isEmpty) = some k → popBest ((s.queue e).entries k) = some (d, rest) →
    s.dispatchCheck e d = none → s.mesh.ingress = [] → (s.engine e).owner = none ∨ (s.engine e).owner = some (dClass d) →
    Gives (.taskDispatch e) s fun t =>
      (t.engine e).st = .task ∧ (t.engine e).task = some d ∧ (t.engine e).pc = 4 * (s.kernelEntry e (dKernel d) / 2 ^ 16 % 2 ^ 14) ∧
      (∀ i : Fin 5, (t.engine e).getG (Fin.ofNat 32 (i.val + 1)) = lineWord d (3 + i.val)) ∧ (t.engine e).getG 6 = lineWord d 0 ∧
      (∀ r : Reg, 6 < r.val → (t.engine e).getG r = 0) ∧ (t.engine e).owner = some (dClass d) ∧
      (t.queue e).entries k = rest ∧ (t.queue e).running = some d ∧ s.now + 35 ≤ (t.engine e).startF ∧
      ButCounts s { t with engines := s.engines, queues := s.queues, out := s.out } e

/-- R78, R327, R329, R330, R331: the BACK of a completion write frees the engine; a join's reply with an old value other than 1 ends it, and one of 1 reads the
continuation, after the tenant's context entry where that is not yet known; a valid continuation is pushed; a spill write's BACK makes the entry readable; a refill is read at HEAD, which advances, and arrives
at the bottom of its class, or is logged and discarded where it is poisoned. -/
def Obligations.CompletionsJoinsAndSpills : Prop :=
  ∀ (s : State) (e : Tile) (f : Flit) (x : Compl), f.dst.val = e.val + 12 → replyFails f = false → f.poison = false →
    (s.queue e).compl = [x] → x.tag = f.tag.val → x.due = .access →
    (x.phase = .write → x.joins = false → x.frees = true → (s.engine e).st = .task → Gives (.taskComplete f) s fun t =>
      (t.queue e).compl = [] ∧ (t.engine e).task = none ∧ (t.engine e).st = .idle ∧ (t.queue e).running = none ∧
      { t with engines := s.engines, queues := s.queues, mesh := s.mesh } = s) ∧
    (x.phase = .join → lineWord f.data 0 ≠ 1 → Gives (.joinDecrement f) s fun t =>
      (t.queue e).compl = [] ∧ { t with queues := s.queues, mesh := s.mesh } = s) ∧
    (∀ a, x.phase = .join → lineWord f.data 0 = 1 → x.ctx = none → s.ctxAddr x.tenant.val = some a → s.tenantOk x.tenant.val = true →
      Gives (.joinDecrement f) s fun t =>
        (∃ m, t.out = s.out ++ [m] ∧ m.flit.op = OP_BRD ∧ m.flit.addr.toNat / 64 = a / 64 % 2 ^ 46 ∧ m.flit.tag.val = x.tag) ∧
        (t.queue e).compl = [{ x with phase := .cont, due := .context }]) ∧
    (∀ cx pa, x.phase = .join → lineWord f.data 0 = 1 → x.ctx = some cx → s.tenantOk x.tenant.val = true →
      (s.ctxTranslate cx x.lines (dJblk x.desc + 64) false).reached = .pa pa → s.mainMemory pa = true → Gives (.joinDecrement f) s fun t =>
        (∃ m, t.out = s.out ++ [m] ∧ m.flit.op = OP_BRD ∧ m.flit.addr = BitVec.ofNat 52 pa ∧ m.flit.cls = x.cls) ∧
        (t.queue e).compl = [{ x with phase := .cont, lines := [] }]) ∧
    (x.phase = .cont → dValid f.data = true → LaneQuiet s e x.cls.val → (s.queue e).retired = false → s.taskCheck e f.data x.tenant x.cls = true →
      ((s.queue e).entries x.cls.val).length < s.queueShare e x.cls.val → Gives (.continuationRead f) s fun t =>
        (t.queue e).entries x.cls.val = (s.queue e).entries x.cls.val ++ [s.clampPriority f.data] ∧ (t.queue e).compl = []) ∧
    (∀ (k : Cls) (n : Nat), (s.queue e).spills = [(k, n)] → f.tag.val = 512 + 32 * k.val + n % 32 → Gives (.spillWriteAck f) s fun t =>
      (t.queue e).spills = [] ∧ { t with queues := s.queues, mesh := s.mesh } = s) ∧
    (∀ k : Cls, s.mayRefill e k.val = true → s.spillHead e k.val + 1 < 2 ^ 32 → Gives (.spillRefill e k) s fun t =>
      t.spillHead e k.val = s.spillHead e k.val + 1 ∧
      (∃ m, t.out = s.out ++ [m] ∧ m.flit.op = OP_BRD ∧ m.flit.addr = BitVec.ofNat 52 (s.spillAddr e k.val (s.spillHead e k.val))) ∧
      (t.queue e).deque = (s.queue e).deque) ∧
    (∀ r : Refill, (s.queue e).refills = [r] → r.tag = f.tag.val → Gives (.refillArrival f) s fun t =>
      (t.queue e).entries (dClass f.data).val = f.data :: (s.queue e).entries (dClass f.data).val ∧ (t.queue e).refills = [] ∧
      ButCounts s { t with queues := s.queues, mesh := s.mesh } e)

/-- R332-R336: an idle engine with no entries asks the first victim of its order; a backoff's end begins a new round; a victim gives up half its
stealable entries, at most 4 and at most what the thief has room for, from the bottom, and keeps a copy of each; the thief answers each with BACK,
which drops the copy; a copy unanswered for 1,536 mclk goes back to the bottom with record 0x6012. -/
def Obligations.TaskStealing : Prop :=
  (∀ (s : State) (e : Tile) (k : Cls) (v : Nat) (more : List (Cls × Nat)), s.flag (queuePg e) R.TQ_CTL_STEAL_EN = true → s.engineFree e = true →
    (s.queue e).round = none → (s.queue e).cut = false → (∀ k ∈ s.classOrder e, (s.queue e).entries k = []) →
    (s.classOrder e).flatMap (fun k => (s.victims e).map (fun v => (Fin.ofNat 16 k, v))) = (k, v) :: more →
    let asks (t : State) : Prop := ∃ m, t.out = s.out ++ [m] ∧ m.flit.op = OP_STEAL ∧ m.flit.cls = k ∧ m.flit.dst = Fin.ofNat 120 (tileStop v) ∧
      m.flit.detail.toNat = s.queueFree e k.val % 2 ^ 64 ∧ (t.queue e).round = some more
    ((s.queue e).backoff = none → Gives (.stealRound e) s fun t => asks t ∧ { t with queues := s.queues, out := s.out } = s) ∧
    (∀ u, (s.queue e).backoff = some u → Gives (.stealBackoffEnd e) s fun t => asks t ∧ (t.queue e).backoff = none ∧ t.now = max s.now u)) ∧
  (∀ (s : State) (v : Tile) (f : Flit), f.dst.val = v.val + 12 → (s.queue v).retired = false → LaneQuiet s v f.cls.val →
    let l := (s.queue v).entries f.cls.val
    let n := min (min 4 (((l.filter dStealOk).length + 1) / 2)) f.detail.toNat
    Gives (.steal f) s fun t =>
      (n = 0 → (t.queue v).deque = (s.queue v).deque ∧ ∃ m, t.out = s.out ++ [m] ∧ m.flit.op = OP_STEALRSP ∧ m.flit.detail = 0) ∧
      (0 < n → t.out.length = s.out.length + n ∧ (t.queue v).stolen.length = (s.queue v).stolen.length + n ∧
        ((t.queue v).entries f.cls.val).length + n = l.length ∧
        (t.queue v).stolen.map (·.desc) = (s.queue v).stolen.map (·.desc) ++ (l.filter dStealOk).take n)) ∧
  (∀ (s : State) (c : Tile) (f : Flit), f.dst.val = c.val + 12 →
    (f.detail = 2 → Gives (.stealrsp f) s fun t =>
      (∃ m, t.out = s.out ++ [m] ∧ m.flit.op = OP_BACK ∧ m.flit.tag = f.tag ∧ m.flit.dst = f.src) ∧
      (t.queue c).entries (dClass f.data).val = f.data :: (s.queue c).entries (dClass f.data).val ∧ (t.queue c).round = none) ∧
    (Gives (.stealBack f) s fun t => (∀ x ∈ (t.queue c).stolen, x.tag ≠ f.tag.val) ∧
      (∀ x ∈ (s.queue c).stolen, x.tag ≠ f.tag.val → x ∈ (t.queue c).stolen) ∧ { t with queues := s.queues, mesh := s.mesh } = s) ∧
    (∀ x : StolenCopy, x.tag < 2048 → (s.queue c).stolen = [x] → Gives (.stealCopyTimeout c (Fin.ofNat 2048 x.tag)) s fun t =>
      (t.queue c).entries (dClass x.desc).val = x.desc :: (s.queue c).entries (dClass x.desc).val ∧ (t.queue c).stolen = [] ∧
      t.now = max s.now (x.at_ + 1536) ∧ bits (t.reg (queuePg c + 0x40)) 31 16 = 0x6012))

-- DMA

/-- R348, R354, R356, R358: a doorbell of the channel's tenant sets TAIL, and starts an IDLE channel with work; PAUSE drains a running channel, which is
PAUSED once nothing of it is outstanding; RESUME and the clearing of PAUSE set a halted or paused channel going; ABORT of one without a descriptor makes
it IDLE; MODE is written while no channel runs. -/
def Obligations.DmaChannelControl : Prop :=
  (∀ (s : State) (c : Tile) (ch : Chan) (p : PageReq),
    let pg := chanPg c ch
    let e := s.tctEntry (s.chTenant c ch)
    let v := p.data.toNat
    (Stores s p (chanPage c ch) 0x118 → s.chUser c ch p.who = true → s.chWorldOk c ch = true → tctValid e = true → tctSuspend e = false →
      tctDmaOk e = true → s.flag pg R.DMA_CH_CTL_EN = true → v % 2 ^ 16 < s.chRing c ch →
      (s.chState c ch ≠ CH_IDLE → Gives (.dmaDoorbell p) s fun t => Answered s t p 0 ∧ t.chTail c ch = v % 2 ^ 16 ∧
        t.flag pg R.DMA_CH_STATUS_NOTOWN = false ∧ t.chState c ch = s.chState c ch ∧ t.mem = s.mem) ∧
      (s.chState c ch = CH_IDLE → v % 2 ^ 16 ≠ s.chHead c ch → s.flag pg R.DMA_CH_RUN_PAUSE = true → Gives (.dmaDoorbell p) s fun t =>
        Answered s t p 0 ∧ t.chTail c ch = v % 2 ^ 16 ∧ t.chState c ch = CH_PAUSED)) ∧
    (Stores s p (chanPage c ch) 0x118 → s.chUser c ch p.who = true → s.chWorldOk c ch = true → s.chRing c ch ≤ v % 2 ^ 16 →
      Gives (.dmaDoorbell p) s fun t => Refused s t p (chanPage c ch) 6 ∧ t.chTail c ch = s.chTail c ch ∧ t.dmas = s.dmas) ∧
    (Stores s p (chanPage c ch) 0x150 → s.chUser c ch p.who = true →
      (v = 1 → s.chState c ch = CH_RUN → (s.dma c ch).lines ≠ [] → (∀ l ∈ (s.dma c ch).lines, l.st = .reading) → Gives (.dmaPause p) s fun t =>
        Answered s t p 0 ∧ t.chState c ch = CH_PAUSING ∧ t.flag pg R.DMA_CH_RUN_PAUSE = true ∧ t.dmas = s.dmas) ∧
      (v = 2 → s.chState c ch = CH_HALTED → bitN (s.reg (tctPg 0 + 0x908)) 0 = true → s.tenantOk (s.chTenant c ch) = true →
        s.chWorldOk c ch = true → Gives (.dmaResume p) s fun t =>
          Answered s t p 0 ∧ t.chState c ch = CH_RUN ∧ (t.dma c ch).phase = .context ∧ (t.dma c ch).credit = 0 ∧
          ∃ m, t.out = s.out ++ [m] ∧ m.at_ = s.now + 3 ∧ m.flit.op = OP_BRD) ∧
      (v % 8 = 4 → s.chState c ch = CH_PAUSED → (s.dma c ch).descs = [] → Gives (.dmaAbort p) s fun t =>
        Answered s t p 0 ∧ t.chState c ch = CH_IDLE ∧ t.fld pg R.DMA_CH_STATUS_CAUSE = 0 ∧ t.out = s.out))) ∧
  (∀ (s : State) (c : Tile) (p : PageReq), Stores s p (dmaPage c) 0x100 → wardOrM p.who = true →
    (∀ j < 16, s.chState c j ≠ CH_RUN ∧ s.chState c j ≠ CH_PAUSING) → (∀ j < 16, s.flag (chanPg c j) R.DMA_CH_CTL_EN = false) →
    Gives (.dmaModeWrite p) s fun t => Answered s t p 0 ∧ t.fld (dmaPg c) R.DMA_CTL_MODE = p.data.toNat % 2 ∧ t.dmas = s.dmas)

/-- R344, R345, R350: the context entry's data is the channel's context, and the descriptor at HEAD is read next, or first the line of a page table that
its translation needs (R22); a good descriptor is held to be decoded, one
not owned makes the channel IDLE with NOTOWN; taking up a descriptor loads its length and addresses for COPY, FILL, BLANK and CRC. -/
def Obligations.DmaDescriptors : Prop :=
  (∀ (s : State) (c : Tile) (ch : Chan) (f : Flit), f.dst.val = c.val + 12 → f.dport = 4 → f.plane = .bulk → f.op = OP_BDATA → f.poison = false →
    let pg := chanPg c ch
    let d := s.dma c ch
    let base := 32 * s.fld pg R.DMA_CH_RINGBASE_BASE
    (f.tag.val = 128 * ch.val → d.phase = .context → s.chState c ch = CH_RUN → d.descs = [] → s.chHead c ch ≠ s.chTail c ch →
      base % (32 * s.chRing c ch) = 0 →
      let at_ := (s.ctxTranslate (some f.data) [] (base + 32 * s.chHead c ch) false).reached
      (∀ pa, at_ = .pa pa → s.dmaAdmitted c ch pa = true → Gives (.dmaContextArrival f) s fun t =>
        (t.dma c ch).ctx = some f.data ∧ (t.dma c ch).phase = .fetch ∧
        ∃ m, t.out = s.out ++ [m] ∧ m.flit.op = OP_BRD ∧ m.flit.addr = BitVec.ofNat 52 (lineBase pa) ∧ m.flit.cls = s.chClass c ch) ∧
      (∀ l, at_ = .ask l → s.chMay c ch = true → d.walkDue = none → Gives (.dmaContextArrival f) s fun t =>
        (t.dma c ch).ctx = some f.data ∧ (t.dma c ch).walkDue = some l ∧
        ∃ m, t.out = s.out ++ [m] ∧ m.flit.op = OP_BRD ∧ m.flit.addr = BitVec.ofNat 52 (lineBase (64 * l)) ∧
          m.flit.tag = Fin.ofNat 2048 (128 * ch.val + 5) ∧ m.flit.cls = s.chClass c ch)) ∧
    (f.tag.val = 128 * ch.val + 1 → d.phase = .fetch → d.descs = [] → s.chHead c ch < s.chRing c ch →
      let va := base + 32 * s.chHead c ch
      let x : DmaDesc := { index := s.chHead c ch, pa := f.addr.toNat + va % 64
                           words := (List.range 4).map (fun j => lineWord f.data (va % 64 / 8 + j)) }
      (x.own = true → x.refused = false → s.chState c ch = CH_RUN → s.dmaService c = false → Gives (.dmaDescriptorArrival f) s fun t =>
        (t.dma c ch).descs = [x] ∧ (t.dma c ch).phase = .decoded ∧ (t.dma c ch).goAt = s.now + 2 ∧
        { t with dmas := s.dmas, mesh := s.mesh } = s) ∧
      (x.own = false → Gives (.dmaDescriptorArrival f) s fun t =>
        t.chState c ch = CH_IDLE ∧ t.flag pg R.DMA_CH_STATUS_NOTOWN = true ∧ { t with dmas := s.dmas, mesh := s.mesh, regs := s.regs } = s))) ∧
  (∀ (s : State) (c : Tile) (ch : Chan) (x : DmaDesc) (rest : List DmaDesc),
    let pg := chanPg c ch
    (s.dma c ch).descs = x :: rest → (s.dma c ch).phase = .decoded → (s.dma c ch).err = none → s.chState c ch = CH_RUN → x.len < 2 ^ 25 →
    let taken (t : State) : Prop := (t.dma c ch).phase = .active ∧ (t.dma c ch).descs = { x with live := true } :: rest ∧
      t.chRem c ch = x.len ∧ t.now = max s.now (s.dma c ch).goAt ∧ { t with dmas := s.dmas, regs := s.regs, now := s.now } = s
    (x.op = 1 → Gives (.dmaCopy c ch) s fun t => taken t ∧ t.reg (pg + 0x130) = x.src ∧ t.reg (pg + 0x138) = x.dst) ∧
    (x.op = 2 → Gives (.dmaFill c ch) s fun t => taken t ∧ t.reg (pg + 0x138) = x.dst) ∧
    (x.op = 3 → Gives (.dmaBlank c ch) s fun t => taken t ∧ t.reg (pg + 0x138) = x.dst) ∧
    (x.op = 4 → Gives (.dmaCrc c ch) s fun t => taken t ∧ t.reg (pg + 0x130) = x.src ∧ t.reg (pg + 0x140) = x.dst))

/-- R345, R347, R351, R353, R356, R357: a burst of one line asks for it and spends its credit; its data is written on, and the answered write advances the
exact registers by the line's bytes; a descriptor all of whose lines are performed is written back, and once that is answered DONE counts it and HEAD
advances; in BRINGUP mode a bus error halts its channel alone with BUSERR and record 0x7001 or 0x7002. -/
def Obligations.DmaLinesAndCompletion : Prop :=
  (∀ (s : State) (c : Tile) (ch : Chan) (x : DmaDesc),
    let pg := chanPg c ch
    let d := s.dma c ch
    d.descs = [x] → d.err = none → d.halt = 0 → s.chState c ch = CH_RUN → s.dmaService c = false →
    (∀ pa, d.phase = .active → d.lines = [] → d.want = [] → x.op = 1 → 0 < x.linesLeft → s.fld pg R.DMA_CH_CTL_BURST = 1 → 0 < s.dmaS c ch →
      256 ≤ s.dmaCredit c ch s.now → x.src + x.begun < 2 ^ 64 →
      (s.cachedXlat 8 0 d.tlb d.ctx d.walk (x.src + x.begun) false).1 = .pa pa → s.dmaAdmitted c ch pa = true →
      Gives (.dmaBurstStart c ch) s fun t =>
        (∃ m, t.out = s.out ++ [m] ∧ m.flit.op = OP_BRD ∧ m.flit.addr = BitVec.ofNat 52 (lineBase pa) ∧ m.flit.tag = Fin.ofNat 2048 (128 * ch.val + 8)) ∧
        (∃ l, (t.dma c ch).lines = [l] ∧ l.st = .reading ∧ l.pos = x.begun ∧ l.n = x.lineBytes x.begun) ∧
        (t.dma c ch).credit + 256 = s.dmaCredit c ch s.now ∧ t.now = s.now ∧ t.mem = s.mem) ∧
    (∀ (l : DmaLine) (f : Flit), d.phase = .active → d.lines = [l] → x.live = true → l.index = x.index → l.pos = x.len - s.chRem c ch →
      f.dst.val = c.val + 12 → f.dport = 4 → f.tag.val = 128 * ch.val + l.id → 8 ≤ l.id → l.id < 128 → f.poison = false → f.plane = .bulk →
      (x.op = 4 → l.st = .reading → f.op = OP_BDATA → l.n ≤ s.chRem c ch → Gives (.dmaReadData f) s fun t =>
        t.chRem c ch = s.chRem c ch - l.n ∧ t.reg (pg + 0x130) = (s.reg (pg + 0x130) + l.n) % 2 ^ 64 ∧
        t.reg (pg + 0x140) = crcLine x.crc64 (s.reg (pg + 0x140)) f.data (l.va % 64) l.n % 2 ^ 64 ∧ (t.dma c ch).lines = []) ∧
      (x.op = 2 → l.st = .writing → f.op = OP_BACK → f.detail = 0 → l.n ≤ s.chRem c ch → Gives (.dmaWriteAck f) s fun t =>
        t.chRem c ch = s.chRem c ch - l.n ∧ t.reg (pg + 0x138) = (s.reg (pg + 0x138) + l.n) % 2 ^ 64 ∧ (t.dma c ch).lines = [])) ∧
    (∀ pa, d.phase = .active → x.live = true → s.chRem c ch = 0 → d.lines = [] → x.op ≠ 4 →
      (s.cachedXlat 8 0 d.tlb d.ctx d.walk (32 * s.fld pg R.DMA_CH_RINGBASE_BASE + 32 * x.index) true).1 = .pa pa →
      s.dmaAdmitted c ch pa = true → Gives (.dmaDescriptorComplete c ch) s fun t =>
        (t.dma c ch).phase = .writeBack ∧ ∃ m, t.out = s.out ++ [m] ∧ m.flit.op = OP_WRPART ∧ m.flit.addr = BitVec.ofNat 52 pa ∧
          bitN (lineWord m.flit.data 0).toNat 63 = false ∧ bits (lineWord m.flit.data 1).toNat 63 48 = if x.poisoned then 2 else 1) ∧
    (d.phase = .backed → x.irq = false → x.stop = true → d.lines = [] → d.walkDue = none → s.chRing c ch ≤ 2 ^ 16 → Gives (.dmaDescriptorComplete c ch) s fun t =>
      t.chHead c ch = (s.chHead c ch + 1) % s.chRing c ch ∧ t.chState c ch = CH_PAUSED ∧ t.out = s.out)) ∧
  (∀ (s : State) (c : Tile) (ch : Chan) (e : DmaErr),
    let pg := chanPg c ch
    (s.dma c ch).err = some e → e.kind < 4 → (s.dma c ch).lines = [] → (s.dma c ch).walkDue = none → (s.dma c ch).phase = .active → s.dmaService c = false →
    s.flag pg R.DMA_CH_IRQ_ERR_EN = false → Gives (.dmaBusError c ch) s fun t =>
      t.chState c ch = CH_HALTED ∧ t.fld pg R.DMA_CH_STATUS_CAUSE = 1 ∧
      t.reg (pg + 0x148) = 2 ^ 63 + b01 e.write * 2 ^ 62 + e.kind * 2 ^ 60 + e.va % 2 ^ 58 ∧
      bits (t.reg (dmaPg c + 0x40)) 31 16 = (if e.write then 0x7002 else 0x7001) ∧ t.mem = s.mem)

-- the interrupt router

/-- R364, R365, R367, R369, R382: a wired source's pulse and an admitted doorbell write make an idle source of an enabled domain pending, and one that is pending
overruns; a doorbell to a disabled domain, and any access of a doorbell that is no write of its shape (R32), is refused with ERROR; in package sleep a source is latched in its cell and asks for the exit, and
the cell's event comes once mclk runs. -/
def Obligations.RouterTakesEvents : Prop :=
  (∀ (s : State) (x : Source) (u d : Nat), s.wires = [(u, x.val)] → s.domainOf x.val = some d →
    let after := max s.now (u + laneCost (wiredStop x.val))
    (s.asleep = false → s.domEn d = true → s.pendBit x.val = false → s.srcActive x.val = none → Gives (.wiredSourceEvent x) s fun t =>
      t.pendBit x.val = true ∧ t.wires = [] ∧ t.now = after ∧ (∀ y : Source, y ≠ x → t.pendBit y.val = s.pendBit y.val) ∧
      { t with regs := s.regs, wires := s.wires, now := s.now } = s) ∧
    (s.asleep = false → s.domEn d = true → s.pendBit x.val = true → Gives (.wiredSourceEvent x) s fun t =>
      t.pendBit x.val = true ∧ bitN (t.reg (ovrReg (x.val / 64))) (x.val % 64) = true) ∧
    (s.asleep = false → s.domEn d = false → Gives (.wiredSourceEvent x) s fun t => t.wires = [] ∧ t.regs = s.regs) ∧
    (s.asleep = true → Tab.at? s.router.cells x.val = none → Gives (.edgeCapture x) s fun t =>
      Tab.at? t.router.cells x.val = some u ∧ t.wires = [] ∧ t.power.pkgExit.isSome ∧ { t with wires := s.wires, router := s.router, power := s.power } = s)) ∧
  (∀ (s : State) (x : Source) (u d : Nat), Tab.at? s.router.cells x.val = some u → s.asleep = false → s.domainOf x.val = some d → s.domEn d = true →
    s.pendBit x.val = false → s.srcActive x.val = none → Gives (.edgeCapturePresent x) s fun t =>
      t.pendBit x.val = true ∧ Tab.at? t.router.cells x.val = none ∧ s.now ≤ t.now) ∧
  (∀ (s : State) (f : Flit) (d : Nat), d < 256 → f.addr.toNat = domainDoorbellAddr d → f.count = 8 → s.mesh.ingress = [] →
    let off := (lineWord f.data 0).toNat % 2 ^ 15
    let src := s.domBase d + off
    (s.domEn d = true → s.domSecure d = false → f.tenant.val = s.domOwner d → s.tenantOk (s.domOwner d) = true → off < s.domCount d →
      2048 ≤ src → src < 32768 → s.domainOf src = some d → s.pendBit src = false → s.srcActive src = none → f.op = OP_DOORBELL → Gives (.irqDoorbell f) s fun t =>
        t.pendBit src = true ∧ (∃ m, t.out = s.out ++ [m] ∧ m.flit.op = OP_ACK ∧ m.flit.dst = f.src ∧ m.flit.tag = f.tag) ∧
        { t with regs := s.regs, out := s.out } = s) ∧
    (s.domEn d = false ∨ f.op ≠ OP_DOORBELL → Gives (.irqDoorbell f) s fun t =>
      (∃ m, t.out = s.out ++ [m] ∧ m.flit.op = OP_ERROR ∧ m.flit.dst = f.src) ∧ (∀ y : Source, t.pendBit y.val = s.pendBit y.val)))

/-- R368, R374, R375, R380: an item that waits and has one target it is admitted at, with nothing presented there, is presented to it by an IRQ flit
6 mclk after its class's lane takes it; the flit sets the hart's line, or is the engine's delivery; a presentation that has become invalid is withdrawn. -/
def Obligations.RouterDecidesAndPresents : Prop :=
  (∀ (s : State) (x : Source) (y : Presented) (set tgt : Nat), s.itemOf x.val = some (y, set) → s.asleep = false →
    (s.itemWaits x.val y = true → s.targetsFor y set = [tgt] → y.pre < s.effPri tgt → Tab.at? s.router.held tgt = none →
      tgt ∉ s.router.flits → Gives (.routingDecision x) s fun t =>
        Tab.at? t.router.held tgt = some y ∧ (∃ m, t.out = s.out ++ [m] ∧ m.at_ = max s.now (Tab.get 0 s.router.lanes y.cls.val) + 6 ∧ m.flit.op = OP_IRQ ∧ m.flit.plane = .snp ∧
          m.flit.addr = BitVec.ofNat 52 tgt ∧ m.flit.detail = irqWord (some y)) ∧ { t with router := s.router, out := s.out } = s) ∧
    (s.presentedAt y = some tgt → Tab.at? s.router.held tgt = some y → s.invalidAt x.val tgt y set = true → tgt ∉ s.router.flits →
      Gives (.presentationWithdraw x) s fun t => Tab.at? t.router.held tgt = none ∧
        (∃ m, t.out = s.out ++ [m] ∧ m.flit.op = OP_IRQ ∧ m.flit.detail = 0) ∧ { t with router := s.router, out := s.out } = s)) ∧
  (∀ (s : State) (f : Flit) (tgt : Nat), f.addr.toNat = tgt → (∀ x ∈ s.router.changed, x.1 ≠ tgt) →
    (tgt < 6144 → Gives (.irq f) s fun t => (t.hart (tgt / 16)).lines.testBit (tgt % 16) = f.detail.getLsbD 63 ∧ tgt ∉ t.router.flits ∧
      (∀ h, h ≠ tgt / 16 → t.hart h = s.hart h) ∧ s.now < t.now ∧
      { t with harts := s.harts, router := s.router, mesh := s.mesh, now := s.now } = s) ∧
    (6144 ≤ tgt → tgt < 6240 → f.detail.getLsbD 63 = true → Gives (.irq f) s fun t =>
      (∃ d, (t.engine (tgt - 6144)).deliv = some d ∧ d.src.val = bits f.detail.toNat 46 32 ∧ d.prio = bits f.detail.toNat 15 8 ∧
        d.preempt = bits f.detail.toNat 7 0 ∧ d.claimed = false) ∧ t.now = s.now + 1 ∧
      { t with engines := s.engines, router := s.router, mesh := s.mesh, now := s.now } = s))

/-- R369, R376, R377, R379, R385, R387: a claim returns the presented item and makes it ACTIVE, or none; an EOI ends the service of a source that is ACTIVE at its
target and otherwise sets BADEOI; a 1 written to a PEND bit by M-mode clears it; disabling a domain clears PEND and ACTIVE of its sources; TGT_CTL is
stored; an engine's claim notice makes the held source ACTIVE. -/
def Obligations.RouterClaimsAndControl : Prop :=
  (∀ (s : State) (tgt : Nat) (p : PageReq), tgt < 6144 → isM p.who = true → p.who.path = .hart →
    (Loads s p (targetPage tgt) 0x110 →
      (Tab.at? s.router.held tgt = none → Gives (.tgtClaim p) s fun t => Answered s t p 0x7FFF ∧ { t with resps := s.resps } = s) ∧
      (∀ x, Tab.at? s.router.held tgt = some x → x.scan = false → x.prio < 256 → x.num < 32768 → Gives (.tgtClaim p) s fun t =>
        Answered s t p (2 ^ 63 + x.prio * 2 ^ 40 + x.num) ∧ t.srcActive x.num = some ⟨tgt, x.pre⟩ ∧ t.pendBit x.num = false ∧
        Tab.at? t.router.held tgt = none)) ∧
    (Stores s p (targetPage tgt) 0x118 →
      let src := p.data.toNat % 2 ^ 15
      (∀ a, s.srcActive src = some a → a.target = tgt → Gives (.tgtEoi p) s fun t =>
        Answered s t p 0 ∧ t.srcActive src = none ∧ { t with resps := s.resps, router := s.router } = s) ∧
      (s.srcActive src = none → Gives (.tgtEoi p) s fun t =>
        Answered s t p 0 ∧ t.flag (targetBase tgt) R.TGT_STATE_BADEOI = true ∧ t.router = s.router)) ∧
    (Stores s p (targetPage tgt) 0x100 → s.secureClass (tctClass (s.tctEntry (p.data.toNat / 2 ^ 48 % 2 ^ 12))) = false →
      Gives (.tgtCtlWrite p) s fun t => Answered s t p 0 ∧ t.flag (targetBase tgt) R.TGT_CTL_EN = p.data.getLsbD 63 ∧
        t.fld (targetBase tgt) R.TGT_CTL_TENANT = p.data.toNat / 2 ^ 48 % 2 ^ 12 ∧ t.fld (targetBase tgt) R.TGT_CTL_THRESH = p.data.toNat % 2 ^ 8)) ∧
  (∀ (s : State) (src d : Nat) (p : PageReq), src < 32768 → s.domainOf src = some d → d < 256 → s.domSecure d = false → isM p.who = true →
    p.who.path = .hart →
    (Stores s p (irtPage (3 + src / 64 / 256)) (0x100 + 8 * (src / 64 % 256)) → p.data.getLsbD (src % 64) = true → Gives (.irtPendClear p) s fun t =>
      Answered s t p 0 ∧ t.pendBit src = false ∧ { t with resps := s.resps, regs := s.regs } = s) ∧
    (Stores s p (irtPage (1 + d / 128)) (0x100 + 16 * (d % 128)) → s.domEn d = true → p.data.getLsbD 63 = false →
      1 ≤ bits p.data.toNat 43 40 → bits p.data.toNat 43 40 ≤ 8 → s.tsFld (bits p.data.toNat 31 23) R.TS_CTL_KIND ≠ 1 →
      s.domBase d + s.domCount d ≤ 32768 → Gives (.domainDisable p) s fun t =>
        Answered s t p 0 ∧ t.domEn d = false ∧ t.pendBit src = false ∧ t.srcActive src = none)) ∧
  (∀ (s : State) (e : Tile) (f : Flit) (x : Presented) (d : Nat), f.addr.toNat = targetBase (6144 + e.val) → f.detail = 1 →
    Tab.at? s.router.held (6144 + e.val) = some x → x.num < 2 ^ 15 → lineWord f.data 0 = BitVec.ofNat 64 x.num → s.domainOf x.num = some d →
    s.domEn d = true → Gives (.engineNoticeArrival f) s fun t =>
      t.srcActive x.num = some ⟨6144 + e.val, x.pre⟩ ∧ t.pendBit x.num = false ∧ Tab.at? t.router.held (6144 + e.val) = none)

-- register pages, the keyway and its Hinges

/-- R39, R53, R534: a write of a block-specific register is performed and answered without data where its block admits it; refused with LOCKED
where a secure world or class forbids it, with ACCESS where the register's rule does not admit the writer or the access is no aligned 8-byte
store, with NOINIT where the block is not READY. A refusal changes only the page's fault registers. The last clause gives every field of R9, and what stays, for the registers
that do nothing but hold what is written. -/
def Obligations.PageWriteChecks : Prop :=
  ∀ (s : State) (p : PageReq) (g : Page) (off : Nat),
    let v := s.keptValue g off p.data.toNat
    let e := s.regEffect g off p.who v
    let refused (b : Nat) : Prop := Gives (.registerWrite p) s fun t => Refused s t p g b ∧ { t with regs := s.regs, resps := s.resps } = s
    (Stores s p g off → ∀ u, e.locked = false → e.admitted = true → e.act = .ok u →
      Gives (.registerWrite p) s fun t => Answered s t p 0 ∧ t = { u with resps := t.resps }) ∧
    (Stores s p g off → e.locked = true → refused 3) ∧
    (Stores s p g off → e.locked = false → e.admitted = false → refused 6) ∧
    (Names s p g off → p.kind = .store → 0x100 ≤ off → s.securePage g = true → s.writesSecure p.who = false → (rowAt g.kind off).isSome → refused 3) ∧
    (Names s p g off → p.kind = .store → 0x100 ≤ off → s.securePage g = false → s.bolted = false → (rowAt g.kind off).isSome → e.locked = false →
      e.admitted = true → s.ready g = false → refused 4) ∧
    (Names s { p with size := 8 } g off → p.kind.writes = true → p.size ≠ 8 → refused 6) ∧
    (Names s p g off → p.kind = .amo ∨ p.kind = .lrsc ∨ p.kind = .cbo → refused 6) ∧
    (Names s p g off → p.kind = .store → 0x100 ≤ off → rowAt g.kind off = none → Gives (.registerWrite p) s fun t =>
      Answered s t p 0 ∧ { t with resps := s.resps } = s) ∧
    (Stores s p g off → FieldsOnly g off p.who p.data.toNat → Gives (.registerWrite p) s fun t => Answered s t p 0 ∧
      (∀ r, rowAt g.kind off = some r →
        (∀ f ∈ r.fields, TakesField f (s.reg (g.base + off)) (t.reg (g.base + off)) p.data.toNat) ∧
        (∀ i, i < 64 → (∀ f ∈ r.fields, i < f.lo ∨ f.hi < i) → (t.reg (g.base + off)).testBit i = (s.reg (g.base + off)).testBit i)) ∧
      (∀ a, a / 8 ≠ (g.base + off) / 8 → t.reg a = s.reg a) ∧ { t with regs := s.regs, resps := s.resps } = s)

/-- R43, R44, R46, R48, R49, R54, R99, R449: a 1 written to PG_FAULT clears the bit, and PG_FAULT_INFO with the last access bit; a hart's read of PG_STATUS
returns it and clears LOST, the Ward's WLOST; a power request is stored, refused for a code the block does not have, or waits while the hold
count is not zero and proceeds when it is; HOLDRST clears; only the Ward writes KW_HOLD. -/
def Obligations.HeaderRegisters : Prop :=
  (∀ (s : State) (p : PageReq) (g : Page), Names s p g 0x10 → p.kind = .store → Gives (.pgFaultClear p) s fun t =>
    let old := s.reg (g.base + 0x10)
    let new := old - (old &&& p.data.toNat % 128)
    Answered s t p 0 ∧ t.reg (g.base + 0x10) = new ∧ t.reg (g.base + 0x18) = (if bits new 6 3 = 0 then 0 else s.reg (g.base + 0x18)) ∧
    (∀ a, a / 8 ≠ (g.base + 0x10) / 8 → a / 8 ≠ (g.base + 0x18) / 8 → t.reg a = s.reg a) ∧ { t with resps := s.resps, regs := s.regs } = s) ∧
  (∀ (s : State) (p : PageReq) (g : Page), Names s p g 0x8 → p.kind = .load →
    (p.who.path = .hart → Gives (.pgStatusRead p) s fun t => Answered s t p (s.statusView g) ∧ t.flag g.base R.PG_STATUS_LOST = false ∧
      t.fld g.base R.PG_STATUS_WLOST = s.fld g.base R.PG_STATUS_WLOST ∧ { t with resps := s.resps, regs := s.regs } = s) ∧
    (p.who.path = .ward → Gives (.pgStatusRead p) s fun t => Answered s t p (s.statusView g) ∧ t.flag g.base R.PG_STATUS_WLOST = false ∧
      t.fld g.base R.PG_STATUS_LOST = s.fld g.base R.PG_STATUS_LOST) ∧
    (p.who.path = .safelight → Gives (.pgStatusRead p) s fun t => Answered s t p (s.statusView g) ∧ { t with resps := s.resps } = s)) ∧
  (∀ (s : State) (p : PageReq) (g : Page), Names s p g 0x28 → p.kind = .store →
    let req := bits p.data.toNat 15 12
    let n := (pageStop g.base).getD 0
    (s.securePage g = true → s.writesSecure p.who = false → Gives (.powerRequest p) s fun t => Refused s t p g 3) ∧
    (s.securePage g = false → powerCode g.kind req = false → Gives (.powerRequest p) s fun t => Refused s t p g 6) ∧
    (s.securePage g = false → powerCode g.kind req = true → s.held g = false → Gives (.powerRequest p) s fun t =>
      Answered s t p 0 ∧ t.fld g.base R.PG_POWER_REQ = req ∧ { t with resps := s.resps, regs := s.regs } = s) ∧
    (s.securePage g = false → powerCode g.kind req = true → s.held g = true → s.writesSecure p.who = false → Gives (.powerRequest p) s fun t =>
      Answered s t p 0 ∧ t.flag g.base R.PG_STATUS_HOLD = true ∧ t.fld g.base R.PG_POWER_REQ = s.fld g.base R.PG_POWER_REQ ∧
      Tab.at? (t.hinge n).waiting (g.base / 4096) = some (2 * req))) ∧
  (∀ (s : State) (n : Stop) (g : Page) (w q : Nat), s.fld (hingePg n.val) R.KW_HOLD_COUNT = 0 → (s.hinge n.val).waiting = [(w, 2 * q)] →
    pageAt (4096 * w) = some g → q < 16 → Gives (.heldRequestProceeds n) s fun t =>
      t.flag g.base R.PG_STATUS_HOLD = false ∧ t.fld g.base R.PG_POWER_REQ = q ∧ (t.hinge n.val).waiting = [] ∧
      { t with regs := s.regs, hinges := s.hinges } = s) ∧
  (∀ (s : State) (p : PageReq) (g : Page), Names s p g 0x30 → p.kind = .store → resettable g.kind = true → p.data.getLsbD 8 = false →
    p.data.getLsbD 0 = false → Gives (.holdrstClear p) s fun t => Answered s t p 0 ∧ t.flag g.base R.PG_RESET_HOLDRST = false ∧
      { t with resps := s.resps, regs := s.regs, harts := s.harts } = s) ∧
  (∀ (s : State) (p : PageReq) (n : Stop), Stores s p (hingePage n.val) 0x128 →
    (p.who.path = .ward → Gives (.kwHoldWrite p) s fun t => Answered s t p 0 ∧
      t.fld (hingePg n.val) R.KW_HOLD_COUNT = p.data.toNat % 256 ∧ { t with resps := s.resps, regs := s.regs } = s) ∧
    (p.who.path ≠ .ward → Gives (.kwHoldWrite p) s fun t => Refused s t p (hingePage n.val) 3 ∧
      t.fld (hingePg n.val) R.KW_HOLD_COUNT = s.fld (hingePg n.val) R.KW_HOLD_COUNT))

/-- R55 to R60, R63: a hart's request crosses into its Hinge in 3 kclk and joins its class's queue, or is refused where 16 wait; a root request joins the root's
queue; an access is performed in the next turn of its class and answered 24 + 3 mclk after it, or, when more than 50,000 aclk old, is
discarded and counted; one that got no answer by then ends with an error at its requester. -/
def Obligations.KeywayAndHinges : Prop :=
  (∀ (s : State) (p : PageReq) (n : Nat) (f : Flit), pageStop p.addr.toNat = some n →
    (Tab.get [] s.mesh.ingress (8 * n)).find? (fun x => x.plane == .req && x.tag.val == 512 + p.who.req && x.addr == p.addr) = some f →
    let mine := Tab.get [] (s.hinge n).classQ f.cls.val
    let q := (s.taken f).reqOfFlit f
    let ready := kclkEdge s.now + 18
    (mine.length < 16 → Gives (.pageRequestArrival p) s fun t => Tab.get [] (t.hinge n).classQ f.cls.val = mine ++ [(ready, q)] ∧
      (∀ k, k ≠ f.cls.val → Tab.get [] (t.hinge n).classQ k = Tab.get [] (s.hinge n).classQ k) ∧ (t.hinge n).rootQ = (s.hinge n).rootQ ∧
      (∀ m, m ≠ n → t.hinge m = s.hinge m) ∧ { t with hinges := s.hinges, mesh := s.mesh } = s) ∧
    (16 ≤ mine.length → Gives (.pageRequestArrival p) s fun t => (t.reg (hingePg n + 0x10)).testBit 6 = true ∧
      (∃ m, t.out = s.out ++ [m] ∧ m.at_ = ready + 9 ∧ m.flit.op = OP_ERROR ∧ m.flit.plane = .rsp) ∧ t.hinges = s.hinges)) ∧
  (∀ (s : State) (p : PageReq) (n : Nat), s.power.off = false → pageStop p.addr.toNat = some n →
    (p.who.path = .ward → s.ward.running = true → Gives (.keywayRootRequest p) s fun t =>
      (t.hinge n).rootQ = (s.hinge n).rootQ ++ [(kclkEdge s.now + 6 * (3 + keywayLeg n), { p with who := wardReq, issued := s.tb })] ∧
      { t with hinges := s.hinges } = s) ∧
    (p.who.path = .safelight → Gives (.keywayRootRequest p) s fun t =>
      (t.hinge n).rootQ = (s.hinge n).rootQ ++ [(kclkEdge s.now + 6 * keywayLeg n, { p with who := safelightReq, issued := s.tb })] ∧
      { t with hinges := s.hinges } = s)) ∧
  (∀ (s : State) (n : Stop) (k r : Nat) (p : PageReq), s.power.off = false → k < 16 → p.who.path = .hart → (s.hinge n.val).classQ = [(k, [(r, p)])] →
    (s.hinge n.val).rootQ = [] →
    let turn := classTurn k (max (max s.now (s.hinge n.val).from_) r)
    let u0 := (s.setHinge n.val { s.hinge n.val with classQ := [] }).toMclk turn
    let u := u0.setHinge n.val { u0.hinge n.val with from_ := turn + 12 }
    let a := u.performPage p
    (turn / 96 ≤ p.issued + 50000 → Gives (.hingeTurn n) s fun t => t.now = a.s.now ∧ t.regs = a.s.regs ∧ t.hinge n.val = a.s.hinge n.val ∧
      (∃ m, t.out = a.s.out ++ [m] ∧ m.at_ = turn + 24 + 3 ∧ m.flit.plane = .rsp ∧ m.flit.tag = Fin.ofNat 2048 p.tag ∧
        m.flit.op = (if a.err then OP_ERROR else if p.kind.writes then OP_ACK else OP_IODATA) ∧ m.flit.data = BitVec.ofNat 512 a.data)) ∧
    (p.issued + 50000 < turn / 96 → Gives (.hingeTurn n) s fun t => t.out = s.out ∧ t.resps = s.resps ∧ (t.hinge n.val).classQ = [] ∧
      t.fld (hingePg n.val) R.KW_STALE_COUNT = (s.fld (hingePg n.val) R.KW_STALE_COUNT + 1) % 2 ^ 48)) ∧
  (∀ (s : State) (p : PageReq) (h : HartId) (w : IoWait), p.who.path = .hart → p.who.req = h.val → (s.hart h.val).io = some w → w.pa = p.addr →
    (pageStop p.addr.toNat).isSome → (∀ r ∈ s.resps, r.who ≠ p.who) → s.coreOf h.val < 384 → Gives (.pageAccessTimeout p) s fun t =>
      t.now = max s.now (96 * (w.issued + 50001)) ∧ (t.reg (corePg (s.coreOf h.val) + 0x10)).testBit 5 = true ∧
      t.resps = s.resps ++ [⟨p.who, p.tag, p.addr, p.kind.writes, 0, true, t.now⟩] ∧ t.harts = s.harts)

/-- R49, R484: a 1 written to GO while nothing holds the request resets the block: ACTIVE is 1 and READY 0, until its end, when ACTIVE is 0 again and READY
1; HOLDRST is as written. A core's L1s are empty after their drain, a cluster's L2 too, and its Negative stays where it has no guest; an engine scrubs
DMEM and keeps IMEM; a frozen controller refuses with ACCESS. -/
def Obligations.DomainResets : Prop :=
  (∀ (s : State) (p : PageReq) (g : Page), Names s p g 0x30 → p.kind = .store → p.data.getLsbD 0 = true →
    s.writesSecure p.who = true ∨ (s.securePage g = false ∧ s.held g = false) → s.flag g.base R.PG_STATUS_RETIRED = false →
    s.flag g.base R.PG_RESET_ACTIVE = false →
    (∀ k : CoreId, g = corePage k.val → (s.flag g.base R.CORE_RUN_SHARED = true → s.coreOf (s.fld g.base R.CORE_RUN_HART1) = k.val) →
      Gives (.coreDomainReset p) s fun t => Answered s t p 0 ∧ t.flag g.base R.PG_RESET_ACTIVE = true ∧ t.flag g.base R.PG_STATUS_READY = false ∧
        t.flag g.base R.PG_RESET_HOLDRST = p.data.getLsbD 8 ∧ t.flag g.base R.CORE_RUN_SHARED = false ∧
        (t.core k.val).domainReset = some (s.now + s.dirtyLines k.val + 480000) ∧
        (t.core k.val).l1d = [] ∧ (t.core k.val).l1i = [] ∧ t.now = s.now) ∧
    (∀ c : Tile, g = clusterPage c.val → Gives (.clusterDomainReset p) s fun t =>
      Answered s t p 0 ∧ t.flag g.base R.PG_RESET_ACTIVE = true ∧ t.flag g.base R.PG_STATUS_READY = false ∧
      t.flag g.base R.PG_RESET_HOLDRST = p.data.getLsbD 8 ∧ (t.cluster c.val).l2 = [] ∧ (t.cluster c.val).snoops = [] ∧
      ((∀ h ∈ s.hartsIn c.val, h / 4 = c.val) → (t.cluster c.val).neg = (s.cluster c.val).neg) ∧
      (t.cluster c.val).domainReset = some (s.now + 4096 + 4800000) ∧
      (∀ k ∈ tileCores c.val, t.flag (corePg k) R.PG_STATUS_READY = false ∧ t.fld (corePg k) R.CORE_RUN_HART0 = k)) ∧
    (∀ e : Tile, g = enginePage e.val → Gives (.dwemonDomainReset p) s fun t => Answered s t p 0 ∧
      t.flag g.base R.PG_RESET_ACTIVE = true ∧ t.flag g.base R.PG_STATUS_READY = false ∧ t.flag g.base R.PG_RESET_HOLDRST = p.data.getLsbD 8 ∧
      (t.engine e.val).st = .scrub ∧ (t.engine e.val).imem = (s.engine e.val).imem ∧ (t.engine e.val).scrubEnd = some (s.now + 2112) ∧
      (t.engine e.val).g = [] ∧ (t.engine e.val).task = none ∧ (t.queue e.val).running = none ∧
      ((s.queue e.val).running = none → ∀ j, j ≠ e.val → t.engine j = s.engine j)) ∧
    (∀ m : McId, g = mc0Page m.val →
      (s.flag g.base R.PG_STATUS_FROZEN = true → Gives (.mcDomainReset p) s fun t => Refused s t p g 6 ∧ t.mcs = s.mcs) ∧
      (s.flag g.base R.PG_STATUS_FROZEN = false → Gives (.mcDomainReset p) s fun t => Answered s t p 0 ∧ t.flag g.base R.PG_RESET_ACTIVE = true ∧
        t.flag g.base R.PG_STATUS_READY = false ∧ (t.mc m.val).selfRefresh = true ∧ (t.mc m.val).modeRegs = (s.mc m.val).modeRegs ∧
        (t.mc m.val).journal = [] ∧ (t.mc m.val).reads = [])) ∧
    (∀ q : PortId, g = portPage q.val → Gives (.fpDomainReset p) s fun t => Answered s t p 0 ∧
      t.flag g.base R.PG_RESET_ACTIVE = true ∧ (t.port q.val).resetEnd = some (ceilDiv s.now 96 + 25000)) ∧
    (∀ (q : PortId) (l : LinkId), g = linkPage q.val l.val → Gives (.fpLinkReset p) s fun t => Answered s t p 0 ∧
      t.flag g.base R.PG_RESET_ACTIVE = true)) ∧
  (∀ (s : State) (n : Stop) (b : BitVec 8) (g : Page), pageAt (pageBase n.val b.toNat) = some g → s.flag g.base R.PG_RESET_ACTIVE = true →
    (∀ u, g.kind = .core → (s.core g.inst).domainReset = some u → Gives (.domainResetDone n b) s fun t => t.now = max s.now u ∧
      t.flag g.base R.PG_RESET_ACTIVE = false ∧ t.flag g.base R.PG_STATUS_READY = true ∧ (t.core g.inst).domainReset = none) ∧
    (∀ u, g.kind = .cluster → (s.cluster g.inst).domainReset = some u → Gives (.domainResetDone n b) s fun t => t.now = max s.now u ∧
      t.flag g.base R.PG_RESET_ACTIVE = false ∧ t.flag g.base R.PG_STATUS_READY = true ∧ (t.cluster g.inst).domainReset = none ∧
      ∀ k ∈ tileCores g.inst, s.flag (corePg k) R.PG_STATUS_RETIRED = false → t.flag (corePg k) R.PG_STATUS_READY = true) ∧
    (∀ u, g.kind = .fp0 → (s.port g.inst).resetEnd = some u → (∀ l, l < 4 → (s.link g.inst l).depart = none) → Gives (.domainResetDone n b) s fun t =>
      t.now = max s.now (96 * u) ∧ t.flag g.base R.PG_RESET_ACTIVE = false ∧ (t.port g.inst).events = [] ∧ (t.port g.inst).resetEnd = none ∧
      ∀ l, l < 4 → t.fld (linkPg g.inst l) R.FP_LNK_STATUS_PRESENT = s.fld (linkPg g.inst l) R.FP_LNK_STATUS_PRESENT) ∧
    (g.kind = .fpl → (s.link g.inst (g.page - 1)).depart = none → Gives (.domainResetDone n b) s fun t => t.flag g.base R.PG_RESET_ACTIVE = false ∧
      t.flag g.base R.PG_STATUS_LOST = true ∧ t.flag g.base R.PG_STATUS_WLOST = true ∧ t.now = s.now ∧
      t.fld g.base R.FP_LNK_STATUS_PRESENT = s.fld g.base R.FP_LNK_STATUS_PRESENT) ∧
    (∀ u, g.kind = .dwemon → (s.engine g.inst).scrubEnd = some u → Gives (.domainResetDone n b) s fun t => t.now = max s.now u ∧
      t.flag g.base R.PG_RESET_ACTIVE = false ∧ (t.engine g.inst).st = .idle ∧ (t.engine g.inst).scrubEnd = none))

-- the Ward: tenant class table, mailboxes, keys, bolting, grants, resets

/-- R72 to R77: TENANT_SET, TENANT_CLEAR and APERTURE_SET write an entry that every replica applies at the apply edge, which the reply names; requests that break
their rules are refused; at the edge the entry is in force and no other changes; CTX_BASE is stored. -/
def Obligations.TenantTable : Prop :=
  (∀ (s : State) (b : Mbx) (t0 : Nat), b.val < 8 → Asked s b.val 0x10 → s.mbxIn b.val 1 = t0 →
    let v0 := s.mbxIn b.val 2
    let v := bits v0 63 60 * 2 ^ 60 + bits v0 33 16 * 2 ^ 16 + bits v0 3 0
    let old := s.tctWritten t0
    (t0 < 0xFFF → (tctValid old = true → tctClass old = tctClass v ∧ tctKey old = tctKey v) → s.secureClass (tctClass v) = false →
      (tctDmaOk v = true → bits (s.apertureWritten (tctAperture v)) 63 56 ≠ 0) → (∀ p < 4, s.mesh.sched.share p (tctClass v) ≠ 0) →
      Gives (.tenantSet b) s fun t => Published s t b.val 0 [w64 s.applyEdge] ∧ t.reg (tctReg t0) = v ∧ t.tct.now = s.tct.now ∧
        t.tct.pend = s.tct.pend.filter (fun p => p.ix != t0) ++ [⟨t0, w64 v, s.applyEdge⟩]) ∧
    (t0 = 0xFFF → Gives (.tenantSet b) s fun t => Published s t b.val 2 [] ∧ t.tct = s.tct) ∧
    (t0 < 0xFFF → tctValid old = true → (tctClass old ≠ tctClass v ∨ tctKey old ≠ tctKey v) →
      Gives (.tenantSet b) s fun t => Published s t b.val 4 [] ∧ t.tct = s.tct) ∧
    (t0 < 0xFFF → tctValid old = false → s.secureClass (tctClass v) = true → Gives (.tenantSet b) s fun t => Published s t b.val 2 [] ∧ t.tct = s.tct)) ∧
  (∀ (s : State) (b : Mbx) (t0 : Nat), b.val < 8 → Asked s b.val 0x11 → s.mbxIn b.val 1 = t0 → 0 < t0 → t0 < 0xFFF →
    (s.tenantInUse t0 = false → Gives (.tenantClear b) s fun t => Published s t b.val 0 [w64 s.applyEdge] ∧
      t.tct.pend = s.tct.pend.filter (fun p => p.ix != t0) ++ [⟨t0, w64 (putBits (s.tctWritten t0) 63 60 0), s.applyEdge⟩]) ∧
    (s.tenantInUse t0 = true → Gives (.tenantClear b) s fun t => Published s t b.val 4 [] ∧ t.tct = s.tct)) ∧
  (∀ (s : State) (b : Mbx), b.val < 8 → Asked s b.val 0x12 → s.mbxIn b.val 1 < 64 → bits (s.mbxIn b.val 2) 63 56 ≠ 0 →
    Gives (.apertureSet b) s fun t => Published s t b.val 0 [w64 s.applyEdge] ∧ t.tct.pend = s.tct.pend.filter (fun p => p.ix != 4096 + s.mbxIn b.val 1) ++
      [⟨4096 + s.mbxIn b.val 1, w64 (bits (s.mbxIn b.val 2) 63 53 * 2 ^ 53), s.applyEdge⟩]) ∧
  (∀ (s : State) (b : Mbx), b.val < 8 → Asked s b.val 0x18 → Gives (.ctxBase b) s fun t => Published s t b.val 0 [] ∧
    t.reg (tctPg 0 + 0x908) = bits (s.mbxIn b.val 1) 51 18 * 2 ^ 18 + s.mbxIn b.val 1 % 2 ∧ t.tct = s.tct) ∧
  (∀ (s : State) (p : TctPend) (l : List TctPend), s.tct.pend = p :: l → (s.tct.pend.map (·.ix)).Nodup → Gives .tctApplyEdge s fun t =>
    t.now = max s.now (96 * p.edge) ∧ t.tct.pend = s.tct.pend.filter (fun q => decide (p.edge < q.edge)) ∧
    (∀ q ∈ s.tct.pend, q.edge ≤ p.edge → q.ix < 4096 → t.tctEntry q.ix = q.value.toNat) ∧
    (∀ j, j < 4096 → (∀ q ∈ s.tct.pend, q.edge ≤ p.edge → q.ix ≠ j) → t.tctEntry j = s.tctEntry j) ∧ { t with now := s.now, tct := s.tct } = s)

/-- R60, R85 to R91, R416: the mailbox's user writes IN and rings while no request is outstanding; a doorbell makes the request PENDING with its SEQ, one while it is
outstanding sets REJECT; the Ward takes it as BUSY or completes what it does not know; tenants' replies wait for the fixed time; what INFO, LOG_READ,
MBX_ASSIGN, SPDM, PAGE_READ and PAGE_WRITE reply. -/
def Obligations.MailboxProtocol : Prop :=
  (∀ (s : State) (p : PageReq) (b : Mbx), s.mbxUser b.val p.who = true →
    let st := s.fld (mbxPg b.val) R.WARD_MBX_STATUS_STATE
    (∀ off, Stores s p (mbxPage b.val) off → 0x200 ≤ off → off ≤ 0x2F8 → st ≠ 1 → st ≠ 2 → Gives (.wardMbxInWrite p) s fun t =>
      Answered s t p 0 ∧ t.reg (mbxPg b.val + off) = p.data.toNat ∧ { t with resps := s.resps, regs := s.regs } = s) ∧
    (∀ off, Stores s p (mbxPage b.val) off → 0x200 ≤ off → off ≤ 0x2F8 → st = 1 ∨ st = 2 → Gives (.wardMbxInWrite p) s fun t =>
      Refused s t p (mbxPage b.val) 6 ∧ t.reg (mbxPg b.val + off) = s.reg (mbxPg b.val + off) ∧ t.flag (mbxPg b.val) R.WARD_MBX_STATUS_REJECT = true) ∧
    (Stores s p (mbxPage b.val) 0x108 → st ≠ 1 → st ≠ 2 → Gives (.wardMbxDoorbell p) s fun t => Answered s t p 0 ∧
      t.fld (mbxPg b.val) R.WARD_MBX_STATUS_STATE = 1 ∧ t.fld (mbxPg b.val) R.WARD_MBX_STATUS_SEQ = p.data.toNat % 2 ^ 16 ∧
      (t.mbxState b.val).edge = ceilDiv s.now 96 ∧ (t.mbxState b.val).held = none) ∧
    (Stores s p (mbxPage b.val) 0x108 → st = 1 ∨ st = 2 → Gives (.wardMbxDoorbell p) s fun t => Answered s t p 0 ∧
      t.flag (mbxPg b.val) R.WARD_MBX_STATUS_REJECT = true ∧ t.fld (mbxPg b.val) R.WARD_MBX_STATUS_STATE = st ∧ t.ward = s.ward)) ∧
  (∀ (s : State) (b : Mbx), s.fld (mbxPg b.val) R.WARD_MBX_STATUS_STATE = 1 →
    let edge := if s.ward.running = false ∧ (s.mbxState b.val).again = true then ceilDiv s.now 96 else (s.mbxState b.val).edge
    (∀ c, b.val < 28 → mbxCommands.find? (fun c => c.1 == s.mbxCmd b.val) = some c → c.2.1 b.val = true → c.2.2 = some (s.mbxLen b.val) →
      Gives (.mbxAcknowledge b) s fun t => t.fld (mbxPg b.val) R.WARD_MBX_STATUS_STATE = 2 ∧ (t.mbxState b.val).held = none ∧ t.ward.running = true ∧
        t.resps = s.resps) ∧
    (mbxCommands.find? (fun c => c.1 == s.mbxCmd b.val) = none →
      (b.val < 8 → Gives (.mbxAcknowledge b) s fun t => Published s t b.val 1 []) ∧
      (8 ≤ b.val → b.val ≤ 23 → Gives (.mbxAcknowledge b) s fun t =>
        (t.mbxState b.val).held = some ⟨edge + 2500, 1, []⟩ ∧ t.fld (mbxPg b.val) R.WARD_MBX_STATUS_STATE = 2))) ∧
  (∀ (s : State) (b : Mbx) (r : MbxReply), (s.mbxState b.val).held = some r → r.result < 2 ^ 16 → r.out.length ≤ 31 → Gives (.mbxFixedCompletion b) s fun t =>
    t.now = max s.now (96 * r.due) ∧ Published s t b.val r.result r.out ∧ (t.mbxState b.val).held = none) ∧
  (∀ (s : State) (b : Mbx), Asked s b.val 0x01 →
    let out := [Config.partSerial, Config.wardVersion, w64 (s.reg (boltPg 0 + 0x100))]
    Gives (.info b) s fun t => Served s t b.val 2500 0 out) ∧
  (∀ (s : State) (b : Mbx) (reply : List Word), Asked s b.val 0x90 →
    let request := w64 (s.mbxIn b.val 1)
    let code := bits request.toNat 15 8
    let answer := bits ((reply.headD 0).toNat) 15 8
    (code = 0xE0 → Gives (.spdm b reply) s fun t => Served s t b.val 500000 0 (s.spdmMeasurements b.val request).1 ∧ t.ward.sessions = s.ward.sessions) ∧
    (code ∉ spdmRequests → Gives (.spdm b reply) s fun t => Served s t b.val 500000 0 (spdmError 7 code) ∧ t.ward.sessions = s.ward.sessions) ∧
    (code = 0xE4 → 8 ≤ s.ward.sessions → Gives (.spdm b reply) s fun t => Served s t b.val 500000 0 (spdmError 10 0) ∧ t.ward.sessions = s.ward.sessions) ∧
    (code ∈ spdmRequests → code ≠ 0xE0 → (code = 0xE4 → s.ward.sessions < 8) → answer = code - 0x80 → Gives (.spdm b reply) s fun t =>
      Served s t b.val 500000 0 (reply.take 31) ∧
      t.ward.sessions = (if code = 0xE4 then s.ward.sessions + 1 else if code = 0xEC then s.ward.sessions - 1 else s.ward.sessions))) ∧
  (∀ (s : State) (b : Mbx), b.val < 8 →
    (Asked s b.val 0x80 → 8 ≤ s.mbxIn b.val 1 → s.mbxIn b.val 1 ≤ 23 → s.mbxIn b.val 2 ≤ 1 → s.mbxIn b.val 3 < 0xFFF → Gives (.mbxAssign b) s fun t =>
      Published s t b.val 0 [] ∧ t.flag (mbxPg (s.mbxIn b.val 1)) R.WARD_MBX_ASSIGN_EN = (s.mbxIn b.val 2 == 1) ∧
      t.fld (mbxPg (s.mbxIn b.val 1)) R.WARD_MBX_ASSIGN_USER = 1 ∧ t.fld (mbxPg (s.mbxIn b.val 1)) R.WARD_MBX_ASSIGN_TENANT = s.mbxIn b.val 3) ∧
    (Asked s b.val 0x70 → s.mbxIn b.val 1 < s.fld (rasPg 0) R.RAS_LOG_SEQ_NEXT → s.fld (rasPg 0) R.RAS_LOG_SEQ_NEXT ≤ s.mbxIn b.val 1 + 4096 →
      let r := normalRec (Tab.get ⟨0, 0, 0, 0⟩ s.log (s.mbxIn b.val 1 % 4096))
      Gives (.logRead b) s fun t => Published s t b.val 0 [r.w0, r.w1, r.w2, r.w3] ∧ t.log = s.log) ∧
    (Asked s b.val 0x70 → s.fld (rasPg 0) R.RAS_LOG_SEQ_NEXT ≤ s.mbxIn b.val 1 → Gives (.logRead b) s fun t => Published s t b.val 3 [])) ∧
  (∀ (s : State) (b : Mbx) (write : Bool), 24 ≤ b.val → Asked s b.val (if write then 0x41 else 0x40) → s.mbxIn b.val 1 < 2 ^ 52 →
    let c : Instr := if write then .pageWrite b else .pageRead b
    let a : PA := BitVec.ofNat 52 (s.mbxIn b.val 1)
    (∀ n, (s.mbxState b.val).waiting = false → pageStop a.toNat = some n → Gives c s fun t => (t.mbxState b.val).waiting = true ∧
      (t.hinge n).rootQ = (s.hinge n).rootQ ++ [(kclkEdge s.now + 6 * (3 + keywayLeg n),
        ⟨bmcReq, a, if write then .store else .load, 8, if write then w64 (s.mbxIn b.val 2) else 0, s.tb, 256 + b.val⟩)] ∧ t.regs = s.regs) ∧
    (∀ r, (s.mbxState b.val).waiting = true → s.resps = [r] → r.who = bmcReq → r.tag = 256 + b.val →
      (r.err = false → Gives c s fun t => t.now = max s.now r.at_ ∧ t.resps = [] ∧
        Published s t b.val 0 (if write then [] else [r.data.setWidth 64])) ∧
      (r.err = true → Gives c s fun t => Published s t b.val 2 [])))

/-- R81, R83, R89, R93, R96, R101, R103, R104: an unnamed key index whose lines are on no way takes a fresh key (a free value), an imported one or none; an OTP slot is
written once and not after bolting; BOLT is set by the Ward; a nonce is fresh; a request whose signature verifies with a nonce of the last 60 s begins a grant until its
expiry, and one that verifies with none does not; HOLD_RELEASE needs the Ward's consent and no carve-out. -/
def Obligations.KeysBoltsAndGrants : Prop :=
  (∀ (s : State) (b : Mbx) (k : Nat), b.val < 8 → s.mbxIn b.val 1 = k → 0 < k → k < 4096 →
    let ix : KeyIx := Fin.ofNat 4096 k
    let calm := s.keyNamed k = false ∧ s.keyInFlight ix = false ∧ s.keyHeld ix = false
    let idle := calm ∧ s.keyCached ix = false
    let slot := s.mbxIn b.val 2
    (Asked s b.val 0x20 → idle → Gives (.keyGen b) s fun t => Published s t b.val 0 [] ∧ Tab.get 0 t.ward.keys k = Config.freeValue 512 s.free ∧
      t.free = s.free + 1 ∧ ∀ j, j ≠ k → Tab.get 0 t.ward.keys j = Tab.get 0 s.ward.keys j) ∧
    (Asked s b.val 0x20 → s.keyNamed k = true → Gives (.keyGen b) s fun t => Published s t b.val 4 [] ∧ t.ward.keys = s.ward.keys) ∧
    (Asked s b.val 0x22 → idle → Gives (.keyErase b) s fun t => Published s t b.val 0 [] ∧ Tab.get 0 t.ward.keys k = 0) ∧
    (Asked s b.val 0x20 → calm → s.keyCached ix = true → Gives (.keyGen b) s fun t => t.ward.keys = s.ward.keys ∧
      t.fld (mbxPg b.val) R.WARD_MBX_STATUS_STATE = 2 ∧ ∀ c, c < 96 → ∀ e ∈ (t.slice c).ways, e.2.key ≠ ix) ∧
    (Asked s b.val 0x21 → slot < 8 → (s.otpSlot slot).written = true → (s.otpSlot slot).type = 2 →
      let key := (s.otpSlot slot).key
      let words := s.inBytes b.val 3 9
      (∀ v, idle → keyUnwrap key 8 words = some v → Gives (.keyImport b) s fun t => Published s t b.val 0 [] ∧
        Tab.get 0 t.ward.keys k = BitVec.ofNat 512 (bytesNat v) ∧ ∀ j, j ≠ k → Tab.get 0 t.ward.keys j = Tab.get 0 s.ward.keys j) ∧
      (keyUnwrap key 8 words = none → Gives (.keyImport b) s fun t => Published s t b.val 8 [] ∧ t.ward.keys = s.ward.keys))) ∧
  (∀ (s : State) (b : Mbx), b.val < 8 →
    let i := s.mbxIn b.val 1
    (Asked s b.val 0x02 → i < 8 → s.mbxIn b.val 2 < 4 → s.bolted = false → (s.otpSlot i).written = false → Gives (.otpProvision b) s fun t =>
      Published s t b.val 0 [] ∧ (t.otpSlot i).written = true ∧ (t.otpSlot i).type.val = s.mbxIn b.val 2 ∧
      (∀ w, w < (if s.mbxIn b.val 2 = 2 then 4 else 6) → ((t.otpSlot i).value >>> (64 * w)).setWidth 64 = w64 (s.mbxIn b.val (3 + w))) ∧ ∀ j, j ≠ i → t.otpSlot j = s.otpSlot j) ∧
    (Asked s b.val 0x02 → i < 8 → s.mbxIn b.val 2 < 4 → s.bolted = true ∨ (s.otpSlot i).written = true → Gives (.otpProvision b) s fun t =>
      Published s t b.val 5 [] ∧ t.ward.otp = s.ward.otp) ∧
    (Asked s b.val 0x08 → Gives (.boltNow b) s fun t => t.bolted = true ∧ Published s t b.val 0 []) ∧
    (Asked s b.val 0x50 → i < 120 →
      (∀ m j, stopMc? i = some m → j < 16 → s.flag (boltPg (4 + m / 8)) (R.BOLT_CARVE_BASE_EN.nth (16 * (m % 8) + j)) = false) →
      (Gives (.holdRelease b true) s fun t => Published s t b.val 0 [0] ∧ t.fld (hingePg i) R.KW_HOLD_COUNT = 0) ∧
      (Gives (.holdRelease b false) s fun t => Published s t b.val 2 [] ∧ t.fld (hingePg i) R.KW_HOLD_COUNT = s.fld (hingePg i) R.KW_HOLD_COUNT)) ∧
    (∀ m j c, Asked s b.val 0x50 → i < 120 → stopMc? i = some m → j < 16 →
      s.flag (boltPg (4 + m / 8)) (R.BOLT_CARVE_BASE_EN.nth (16 * (m % 8) + j)) = true → Gives (.holdRelease b c) s fun t =>
        Published s t b.val 2 [] ∧ t.fld (hingePg i) R.KW_HOLD_COUNT = s.fld (hingePg i) R.KW_HOLD_COUNT)) ∧
  (∀ (s : State) (p : PageReq), Stores s p bolt0Page 0x100 → p.who.path = .ward → p.data.getLsbD 0 = true → Gives (.bolt p) s fun t =>
    Answered s t p 0 ∧ t.bolted = true ∧ { t with resps := s.resps, regs := s.regs } = s) ∧
  (∀ (s : State) (b : Mbx), 24 ≤ b.val →
    let w1 := s.mbxIn b.val 1
    let w2 := s.mbxIn b.val 2
    (Asked s b.val 0x60 → Gives (.slNonce b) s fun t => t.ward.nonces = s.ward.nonces ++ [⟨Config.freeValue 384 s.free, s.tb⟩] ∧
      t.free = s.free + 1 ∧ Published s t b.val 0 ((List.range 6).map (fun i => (Config.freeValue 384 s.free >>> (64 * i)).setWidth 64))) ∧
    let good (n : Nonce) : Prop := s.tb ≤ n.issued + 1500000000 ∧ s.grantSigned b.val n = true
    (∀ n ∈ s.ward.nonces, Asked s b.val 0x61 → w1 % 2 = 1 → w1 < 4 → 0 < w2 → w2 ≤ 86400 → good n → (∀ m ∈ s.ward.nonces, m ≠ n → ¬ good m) →
      Gives (.slGrant b) s fun t => t.grantActive = true ∧ t.flag (boltPg 6) R.SL_GRANT_WRITE = (w1 == 3) ∧
        t.reg (boltPg 6 + 0x108) = (s.tb + w2 * 25000000) % 2 ^ 64 ∧ n ∉ t.ward.nonces ∧ (∀ m ∈ s.ward.nonces, m ≠ n → m ∈ t.ward.nonces) ∧
        Published s t b.val 0 [w64 (s.ward.grantNext % 2 ^ 16)]) ∧
    (Asked s b.val 0x61 → w1 % 2 = 1 → w1 < 4 → 0 < w2 → w2 ≤ 86400 → (∀ n ∈ s.ward.nonces, ¬ good n) → Gives (.slGrant b) s fun t =>
      Published s t b.val 8 [] ∧ t.grantActive = s.grantActive)) ∧
  (∀ s : State, s.grantActive = true → Gives .slGrantEnd s fun t => t.grantActive = false ∧ t.flag (boltPg 6) R.SL_GRANT_WRITE = false ∧
    t.now = max s.now (96 * s.reg (boltPg 6 + 0x108)) ∧ { t with now := s.now, regs := s.regs } = s)

/-- R84, R103, R442: a reset of the Ward stops it, ends its sessions, its nonces and a grant, returns BUSY requests to PENDING and counts; a watchdog expiry does so
and the third within 1 s makes it fail; so does a restart that takes more than 100 ms; while it has failed it is reset every 10 s. -/
def Obligations.WardResets : Prop :=
  (∀ s : State,
    let isReset (u t : State) : Prop := t.ward.running = false ∧ t.ward.sessions = 0 ∧ t.ward.nonces = [] ∧ t.ward.resetAt = u.tb ∧ t.grantActive = false ∧
      t.ward.keys = s.ward.keys ∧ t.ward.otp = s.ward.otp ∧ t.fld aonPg R.AON_RESETCAUSE_WARDS = (s.fld aonPg R.AON_RESETCAUSE_WARDS + 1) % 2 ^ 16 ∧
      (∀ b, b < 32 → t.fld (mbxPg b) R.WARD_MBX_STATUS_STATE =
        (if s.fld (mbxPg b) R.WARD_MBX_STATUS_STATE = 2 then 1 else s.fld (mbxPg b) R.WARD_MBX_STATUS_STATE)) ∧
      t.mem = s.mem ∧ t.tct = s.tct
    (Gives .wardReset s fun t => isReset s t ∧ { t with ward := s.ward, regs := s.regs, engines := s.engines } = s ∧
      (∀ e, e < 96 → t.engine e = s.engine e) ∧ (t.engine 96).dmem = (s.engine 96).dmem ∧ (t.engine 96).level = 1) ∧
    (Gives .wardWatchdogExpiry s fun t => isReset s t ∧ t.flag aonPg R.AON_RESETCAUSE_WARD_WDOG = true ∧
      t.ward.expiries = s.ward.expiries.filter (fun u => decide (s.tb < u + 25000000)) ++ [s.tb] ∧
      (2 ≤ (s.ward.expiries.filter (fun u => decide (s.tb < u + 25000000))).length → t.ward.failed = true ∧ t.errorN1Low = true)) ∧
    (s.ward.running = false → Gives .wardRestartFailure s fun t => t.now = max s.now (96 * (s.ward.resetAt + 2500000)) ∧ t.ward.failed = true ∧
      2 ≤ t.fld (rasPg 0) R.RAS_HEALTH_STATE) ∧
    (s.ward.failed = true → s.ward.running = false → Gives .wardPeriodicReset s fun t => t.now = max s.now (96 * (s.ward.resetAt + 250000000)) ∧ isReset t t))

-- harts and their clusters

/-- R105, R109, R125, R129, R130, R140, R142: a load whose lines are at hand returns, for each byte, what the hart's own newest stores hold, else its line; a line the
cluster lacks is asked of its home and the load waits, as does one whose walk lacks a line; a store, of one or two lines, enters the store buffer of the
open epoch once the cluster owns them, and memory is not written; a translation fault is taken. -/
def Obligations.HartLoadsAndStores : Prop :=
  (∀ (s : State) (h : HartId) (rd rs1 : Reg) (off : BitVec 12) (size : MemSize) (sx fp : Bool), HartGoes s h.val → size ≠ .q →
    let s0 := issueOf s h.val
    let va := ((s.hart h.val).a.getX rs1 + off.signExtend 64).toNat
    let n := size.bytes
    let c : Instr := .load h rd rs1 off size sx fp
    let x := s0.parts h.val false (accessParts va n)
    let allowed := s.tenantOk (s.hart h.val).a.tenant.val = true
    let hits (v : Nat) : Prop := Gives c s fun t =>
      (fp = false → Retires s t h.val rd (extendTo n v sx)) ∧
      (fp = true → Retires s t h.val 0 0 ∧ (t.hart h.val).a.getF rd = w64 (v % 2 ^ (8 * n) + (if n < 8 then 2 ^ 64 - 2 ^ (8 * n) else 0)))
    (∀ e, x = .stop e → Gives c s fun t => t = s0.trapOn h.val e c (e.tval - va)) ∧
    (∀ l, x = .ask l → allowed → Lacks s h.val l → Gives c s fun t => Asks s t h.val ⟨c, false, [], [l], [], false, s.now⟩ OP_RD l 0) ∧
    (∀ ps, x = .parts ps → allowed →
      (∀ p ∈ ps, p.kind ≠ 2 ∧ ((s.hart h.val).buffered p.pa p.n = true ∨ ∃ w, s0.hartLine h.val (p.pa / 64) (p.kind == 1) = some w ∧ w.poison = false)) →
      hits (leValue (ps.flatMap (fun p => (List.range p.n).map (fun j => s0.hartByte h.val (p.pa + j) (p.kind == 1)))))) ∧
    (∀ pa k, x = .parts [⟨pa, n, k⟩] → k ≠ 2 → allowed → (s.hart h.val).buffered pa n = false → Lacks s h.val (pa / 64) → Gives c s fun t =>
      Asks s t h.val ⟨c, false, if k = 1 then [pa / 64] else [], [pa / 64], [], false, s.now⟩ OP_RD (pa / 64) (if k = 1 then 1 else 0))) ∧
  (∀ (s : State) (h : HartId) (rs2 rs1 : Reg) (off : BitVec 12) (size : MemSize) (fp : Bool), HartGoes s h.val → size ≠ .q →
    let s0 := issueOf s h.val
    let va := ((s.hart h.val).a.getX rs1 + off.signExtend 64).toNat
    let n := size.bytes
    let v := (if fp then (s.hart h.val).a.getF rs2 else (s.hart h.val).a.getX rs2).toNat % 2 ^ (8 * n)
    let c : Instr := .store h rs2 rs1 off size fp
    let x := s0.parts h.val true (accessParts va n)
    let allowed := s.tenantOk (s.hart h.val).a.tenant.val = true
    (∀ e, x = .stop e → Gives c s fun t => t = s0.trapOn h.val e c (e.tval - va)) ∧
    (∀ l, x = .ask l → allowed → Lacks s h.val l → Gives c s fun t => Asks s t h.val ⟨c, false, [], [l], [], false, s.now⟩ OP_RD l 0) ∧
    (∀ p s1, x = .parts [p] → p.n = n → p.kind ≠ 2 → p.pa % 64 + n ≤ 64 → allowed → s0.bring h.val (p.pa / 64) true = .ready s1 →
      (s.hart h.val).entries + 1 ≤ 64 → Gives c s fun t => Retires s t h.val 0 0 ∧ Buffers t h.val p.pa n v) ∧
    (∀ p q s1, x = .parts [p, q] → p.n + q.n = n → p.kind ≠ 2 → q.kind ≠ 2 → p.pa % 64 + p.n = 64 → q.pa % 64 = 0 → allowed →
      s0.bringAll h.val true [p.pa / 64, q.pa / 64] = some (s1, []) → (s.hart h.val).entries + 2 ≤ 64 → Gives c s fun t =>
        Retires s t h.val 0 0 ∧ Buffers t h.val p.pa p.n v ∧ Buffers t h.val q.pa q.n (v / 2 ^ (8 * p.n))) ∧
    (∀ p, x = .parts [p] → p.kind ≠ 2 → allowed → Lacks s h.val (p.pa / 64) → Gives c s fun t =>
      Asks s t h.val ⟨c, true, [], [p.pa / 64], [], false, s.now⟩ OP_RDOWN (p.pa / 64) 0))

/-- R105, R106, R131, R142: an AMO, an LR and an SC are performed on a naturally aligned address once every earlier epoch has committed, each as an epoch of its own:
an AMO leaves the old value in rd and its result in the store buffer; an LR reserves its line; an SC stores and returns 0 where the
reservation holds, else 1, and ends it. A misaligned one takes an address-misaligned exception, a width they do not have an illegal-instruction one. -/
def Obligations.HartAtomics : Prop :=
  ∀ (s : State) (h : HartId) (rd rs1 rs2 : Reg) (size : MemSize) (aqrl : BitVec 2) (pa k : Nat) (s1 : State), HartClear s h.val →
    s.tenantOk (s.hart h.val).a.tenant.val = true →
    let s0 := issueOf s h.val
    let a := (s.hart h.val).a
    let va := (a.getX rs1).toNat
    let n := size.bytes
    let old := s1.hartValue h.val pa n false
    let owned := va % n = 0 ∧ k ≠ 2 ∧ pa % 64 + n ≤ 64 ∧ s0.translate h.val va true false false = .place pa k ∧
      (headOf s0 h.val).bring h.val (pa / 64) true = .ready s1 ∧ s1.linePoison h.val (pa / 64) false = false
    let shared := va % n = 0 ∧ k ≠ 2 ∧ pa % 64 + n ≤ 64 ∧ s0.translate h.val va false false false = .place pa k ∧
      (headOf s0 h.val).bring h.val (pa / 64) false = .ready s1 ∧ s1.linePoison h.val (pa / 64) false = false
    (∀ op, size ≠ .q → owned → Gives (.amo h rd rs1 rs2 op size aqrl) s fun t => Retires s t h.val rd (extendTo n old true) ∧
      Buffers t h.val pa n (amoResult op n old ((a.getX rs2).toNat % 2 ^ (8 * n)) (a.getX rd).toNat) ∧ (t.hart h.val).epoch = none) ∧
    (size = .q → rd.val % 2 = 0 → rs2.val % 2 = 0 → owned → Gives (.amo h rd rs1 rs2 .cas size aqrl) s fun t =>
      (t.hart h.val).a.pc = a.pc + 4 ∧ (rd ≠ 0 → (t.hart h.val).a.getPair rd = old % 2 ^ 128) ∧ t.mem = s.mem ∧
      Buffers t h.val pa n (amoResult .cas n old (a.getPair rs2 % 2 ^ (8 * n)) (a.getPair rd)) ∧ (t.hart h.val).epoch = none) ∧
    (size = .w ∨ size = .d → shared → Gives (.lr h rd rs1 size aqrl) s fun t => Retires s t h.val rd (extendTo n old true) ∧
      (t.hart h.val).resv = some ⟨pa / 64, s.now⟩ ∧ (t.hart h.val).epoch = none) ∧
    (size = .w ∨ size = .d → owned →
      (∀ r, (s.hart h.val).resv = some r → r.line = pa / 64 → Gives (.sc h rd rs1 rs2 size aqrl) s fun t =>
        Retires s t h.val rd 0 ∧ Buffers t h.val pa n ((a.getX rs2).toNat % 2 ^ (8 * n)) ∧ (t.hart h.val).resv = none) ∧
      ((∀ r, (s.hart h.val).resv = some r → r.line ≠ pa / 64) → Gives (.sc h rd rs1 rs2 size aqrl) s fun t =>
        Retires s t h.val rd 1 ∧ (∀ j, (t.hart h.val).bufferedByte j = none) ∧ (t.hart h.val).resv = none)) ∧
    (size = .w ∨ size = .d → va % n ≠ 0 →
      (∀ op, Gives (.amo h rd rs1 rs2 op size aqrl) s fun t => t = s0.trapOn h.val ⟨6, va, 0⟩ (.amo h rd rs1 rs2 op size aqrl) 0) ∧
      (Gives (.lr h rd rs1 size aqrl) s fun t => t = s0.trapOn h.val ⟨4, va, 0⟩ (.lr h rd rs1 size aqrl) 0) ∧
      (Gives (.sc h rd rs1 rs2 size aqrl) s fun t => t = s0.trapOn h.val ⟨6, va, 0⟩ (.sc h rd rs1 rs2 size aqrl) 0)) ∧
    (size ≠ .w → size ≠ .d →
      (∃ w, Gives (.lr h rd rs1 size aqrl) s fun t => t = s0.trapOn h.val (illegal w) (.lr h rd rs1 size aqrl) 0) ∧
      (∃ w, Gives (.sc h rd rs1 rs2 size aqrl) s fun t => t = s0.trapOn h.val (illegal w) (.sc h rd rs1 rs2 size aqrl) 0))

/-- R106, R110, R111, R112, R131, R143, R144, R451: a FENCE and a FENCE.I close the epoch; PB.FLUSH and PB.BAR clear and advance prediction state, and any other word of
the custom spaces but TASK.SUBMIT's is illegal; PAUSE, WFI and WRS.STO make the hart wait; a cache-block operation travels with its epoch;
CBO.ZERO asks for its line by BLANK; a PREFETCH asks for a line the cluster lacks and never traps. -/
def Obligations.HartFencesAndCacheOps : Prop :=
  ∀ (s : State) (h : HartId), HartGoes s h.val →
    let s0 := issueOf s h.val
    let v := s.hart h.val
    let k := s.coreOf h.val
    let allowed := s.tenantOk v.a.tenant.val = true
    let done (t : State) : Prop := Retires s t h.val 0 0
    (∀ pred succ tso, Gives (.fence h pred succ tso) s fun t => done t ∧ (t.hart h.val).epoch = none ∧
      (t.hart h.val).fenceWait = (v.fenceWait || tso || (pred.getLsbD 0 && (succ.getLsbD 0 || succ.getLsbD 1)))) ∧
    (Gives (.fenceI h) s fun t => done t ∧ (t.hart h.val).epoch = none ∧ t.now = max s.now (s.ccycAt k s.now 40)) ∧
    (Gives (.pbFlush h 0x0000000B) s fun t => done t ∧ (t.hart h.val).predictor = [] ∧ (t.hart h.val).predEpoch = v.predEpoch ∧
      t.now = max s.now (s.ccycAt k s.now 32)) ∧
    (Gives (.pbBar h 0x0000100B) s fun t => done t ∧ (t.hart h.val).predEpoch = (v.predEpoch + 1) % 16 ∧
      (t.hart h.val).predictor = (if v.predEpoch = 15 then [] else v.predictor) ∧
      t.now = max s.now (s.ccycAt k s.now (if v.predEpoch = 15 then 32 else 1))) ∧
    (∀ w : BitVec 32, w ≠ 0x0000000B → w ≠ 0x0000100B → (∀ rd rs1, w ≠ submitWord rd rs1) →
      ∀ c ∈ [Instr.pbFlush h w, .pbBar h w], Gives c s fun t => t = s0.trapOn h.val (illegal w.toNat) c 0) ∧
    (Gives (.pause h) s fun t => done t ∧ (t.hart h.val).wait = some (.pause (s.ccycAt k s.now 64)) ∧ t.now = s.now) ∧
    (v.a.virt = false → v.a.priv = 3 ∨ (v.a.priv = 1 ∧ bitN (v.a.getCsr CSR_MSTATUS) 21 = false) → Gives (.wfi h) s fun t => done t ∧
      (t.hart h.val).wait = (if t.intPending h.val then none else some .wfi)) ∧
    (v.a.virt = false → v.a.priv = 0 ∨ (v.a.priv = 1 ∧ bitN (v.a.getCsr CSR_MSTATUS) 21 = true) → Gives (.wfi h) s fun t =>
      t = s0.trapOn h.val (illegal 0x10500073) (.wfi h) 0) ∧
    (Gives (.wrsSto h) s fun t => done t ∧
      (t.hart h.val).wait = (if v.resv.isSome then some (.wrs (s.ccycAt k s.now 4096)) else none)) ∧
    (∀ rs1 pa kind j (c : Instr), (c, kind) ∈ [(Instr.cboClean h rs1, 0), (.cboFlush h rs1, 1), (.cboInval h rs1, 2)] → allowed → j ≠ 2 →
      v.a.priv = 3 ∨ (kind ≠ 2 ∧ cboEnabled v.a (fun e => bitN e 6) = none) →
      s0.translate h.val ((v.a.getX rs1).toNat / 64 * 64) false false false = .place pa j → Gives c s fun t => done t ∧
        ∃ e ∈ (t.hart h.val).epoch.toList ++ (t.hart h.val).closed, ∃ f, e.cbos.getLast? = some f ∧ f.op = OP_CMO ∧ f.detail = BitVec.ofNat 64 kind ∧
          f.addr = BitVec.ofNat 52 (lineBase pa) ∧ f.tag = Fin.ofNat 2048 (1024 + h.val)) ∧
    (∀ rs1 pa j, v.a.priv = 3 ∨ cboEnabled v.a (fun e => bitN e 7) = none → j ≠ 2 → allowed →
      s0.translate h.val ((v.a.getX rs1).toNat / 64 * 64) true false false = .place pa j → Lacks s h.val (pa / 64) → Gives (.cboZero h rs1) s fun t =>
        Asks s t h.val ⟨.cboZero h rs1, true, [], [pa / 64], [], false, s.now⟩ OP_BLANK (pa / 64) 0) ∧
    (∀ rs1 off kind (c : Instr), (c, kind) ∈ [(Instr.prefetchR h rs1 off, 0), (.prefetchI h rs1 off, 1), (.prefetchW h rs1 off, 2)] →
      let va := (v.a.getX rs1 + off.signExtend 64).toNat
      let x := s0.translate h.val va (kind == 2) (kind == 1) false
      ((∃ e, x = .stop e) ∨ (∃ pa j, x = .place pa j ∧ j ≠ 0) ∨ (∃ pa w, x = .place pa 0 ∧ s0.hartLine h.val (pa / 64) false = some w) →
        Gives c s fun t => done t ∧ t.out = s.out) ∧
      (∀ pa, x = .place pa 0 → allowed → Lacks s h.val (pa / 64) → Gives c s fun t =>
        done t ∧ ∃ m, t.out = s.out ++ [m] ∧ m.at_ = s.atStop k ∧ m.flit.op = OP_PREFETCH ∧ m.flit.detail = BitVec.ofNat 64 kind ∧
          m.flit.addr = BitVec.ofNat 52 (64 * (pa / 64))))

/-- R67, R116, R117, R119, R120, R121, R122, R123: xnrtenant is written in M- and HS-mode with a class and tenant that the table has and no secure class, and xnrctl in M-mode;
else an illegal-instruction exception, or in VS-mode a virtual-instruction one. A trap saves the pc, cause and value, and goes to its mode's handler in 31 ccyc. The timer compare is written through
the core's page and its time makes MTIP pending; CORE_INJECT arms an error. -/
def Obligations.HartTrapsCsrsAndTimer : Prop :=
  (∀ (s : State) (h : HartId) (value : Word) (insn : BitVec 32), HartGoes s h.val →
    let s0 := issueOf s h.val
    let a := (s.hart h.val).a
    let v := value.toNat
    let e := s.tctEntry (v % 2 ^ 12)
    (1 ≤ a.priv → a.virt = false → s.secureClass (bits v 15 12) = false → tctValid e = true → tctClass e = bits v 15 12 →
      Gives (.xnrtenantWrite h value insn) s fun t => Retires s t h.val 0 0 ∧ (t.hart h.val).a.getCsr CSR_XNRTENANT = v % 2 ^ 16 ∧
        (t.hart h.val).epoch = none ∧
        (a.getCsr CSR_XNRTENANT ≠ v % 2 ^ 16 → bitN (a.getCsr CSR_XNRCTL) 63 = true → (t.hart h.val).predictor = [])) ∧
    (a.virt = false → a.priv = 0 ∨ s.secureClass (bits v 15 12) = true ∨ tctValid e = false ∨ tctClass e ≠ bits v 15 12 →
      Gives (.xnrtenantWrite h value insn) s fun t => t = s0.trapOn h.val (illegal insn.toNat) (.xnrtenantWrite h value insn) 0) ∧
    (a.virt = true → a.priv = 1 → Gives (.xnrtenantWrite h value insn) s fun t =>
      t = s0.trapOn h.val ⟨22, insn.toNat, 0⟩ (.xnrtenantWrite h value insn) 0) ∧
    (a.priv = 3 → Gives (.xnrctlWrite h value insn) s fun t => Retires s t h.val 0 0 ∧
      let new := (t.hart h.val).a.getCsr CSR_XNRCTL
      bits new 63 63 = bits v 63 63 ∧ bits new 27 24 = bits v 27 24 ∧ bits new 17 16 = bits v 17 16 ∧
      bits new 15 12 = (if 7 ≤ bits v 15 12 ∧ bits v 15 12 ≤ 11 then bits v 15 12 else bits (a.getCsr CSR_XNRCTL) 15 12) ∧
      bits new 11 8 = (if 6 ≤ bits v 11 8 ∧ bits v 11 8 ≤ 10 then bits v 11 8 else bits (a.getCsr CSR_XNRCTL) 11 8) ∧
      bits new 62 28 = 0 ∧ bits new 23 18 = 0 ∧ bits new 7 0 = 0 ∧ (t.hart h.val).epoch = none) ∧
    (a.priv ≠ 3 → Gives (.xnrctlWrite h value insn) s fun t => t = s0.trapOn h.val (illegal insn.toNat) (.xnrctlWrite h value insn) 0)) ∧
  (∀ (s : State) (h : HartId) (exc : Option (Fin 64)) (tval : Word) (c : Nat), HartClear s h.val →
    (∀ x, exc = some x → c = x.val) → (exc = none → s.recognised h.val = some c) →
    let a := (s.hart h.val).a
    let intr := exc.isNone
    let code := c + (if intr then 2 ^ 63 else 0)
    let val := if intr then 0 else tval.toNat
    Gives (.trapEntry h exc tval) s fun t =>
      let b := (t.hart h.val).a
      t.now = max s.now (s.ccycAt (s.coreOf h.val) s.now 31) ∧ b.x = a.x ∧ t.mem = s.mem ∧
      (∃ e, (t.hart h.val).epoch = some e ∧ e.begun = s.ccycAt (s.coreOf h.val) s.now 8) ∧
      (∀ k, k ≠ h.val → t.hart k = s.hart k) ∧
      (trapTarget a c intr = 3 → c < 64 → b.getCsr CSR_MEPC = a.pc.toNat ∧ b.getCsr CSR_MCAUSE = code ∧ b.getCsr CSR_MTVAL = val ∧ b.priv = 3 ∧ b.virt = false ∧
        b.pc = w64 (vectorOf (a.getCsr CSR_MTVEC) c intr) ∧ bitN (b.getCsr CSR_MSTATUS) 3 = false ∧
        bitN (b.getCsr CSR_MSTATUS) 7 = bitN (a.getCsr CSR_MSTATUS) 3 ∧ bits (b.getCsr CSR_MSTATUS) 12 11 = a.priv % 4) ∧
      (trapTarget a c intr = 1 → c < 64 → b.getCsr CSR_SEPC = a.pc.toNat ∧ b.getCsr CSR_SCAUSE = code ∧ b.getCsr CSR_STVAL = val ∧ b.priv = 1 ∧ b.virt = false ∧
        b.pc = w64 (vectorOf (a.getCsr CSR_STVEC) c intr)) ∧
      (trapTarget a c intr = 0 → 1 ≤ c → c < 64 → b.getCsr CSR_VSEPC = a.pc.toNat ∧ b.getCsr CSR_VSTVAL = val ∧ b.priv = 1 ∧ b.virt = true ∧
        b.getCsr CSR_VSCAUSE = (if intr then c - 1 + 2 ^ 63 else c))) ∧
  (∀ (s : State) (h : HartId), Gives (.mtimecmpReached h) s fun t => t.now = max s.now (96 * (s.hart h.val).cmp.toNat) ∧ bitN (t.mip h.val) 7 = true ∧
    { t with now := s.now } = s) ∧
  (∀ (s : State) (p : PageReq) (k : CoreId), wardOrM p.who = true →
    (∀ j, s.runHart k.val j = some (s.fld (corePg k.val) (if j = 0 then R.CORE_RUN_HART0 else R.CORE_RUN_HART1)) → j < 2 →
      Stores s p (corePage k.val) (0x120 + 8 * j) → Gives (.mtimecmpWrite p) s fun t => Answered s t p 0 ∧
        (t.hart (s.fld (corePg k.val) (if j = 0 then R.CORE_RUN_HART0 else R.CORE_RUN_HART1))).cmp = p.data ∧ { t with resps := s.resps, harts := s.harts } = s) ∧
    (Stores s p (corePage k.val) 0x118 → 1 ≤ p.data.toNat % 16 → p.data.toNat % 16 ≤ 4 → Gives (.coreInject p) s fun t =>
      Answered s t p 0 ∧ (t.core k.val).inject = p.data.toNat % 16 ∧ { t with resps := s.resps, cores := s.cores } = s))

/-- R58, R114, R121, R124, R126, R131, R134, R143: an epoch closes with its cause; a cleared epoch's stores enter L1D and the L2 owns the line; a reply brings its line, or ends
the wait for a cache-block operation or a writeback, or raises an access fault; an I/O-region access leaves at the head of the buffer and retires on its response;
TASK.SUBMIT offers its descriptor to the cluster's queue and returns the result. -/
def Obligations.EpochsRepliesAndIo : Prop :=
  (∀ (s : State) (h : HartId) (e : Epoch) (cause : Fin 8), (s.hart h.val).epoch = some e → cause ≠ 1 → Gives (.epochClose h cause) s fun t =>
    (t.hart h.val).epoch = none ∧ (t.hart h.val).closed = (s.hart h.val).closed ++ [{ e with cause := cause.val, closedAt := s.now }] ∧
    t.fld (corePg (s.coreOf h.val)) R.CORE_EPOCH_LAST = cause.val ∧ { t with harts := s.harts, regs := s.regs } = s) ∧
  (∀ (s : State) (h : HartId) (e : Epoch), (s.hart h.val).epoch = some e → Gives (.epochClose h 1) s fun t =>
    t.now = max s.now (s.ccycAt (s.coreOf h.val) e.begun (2 ^ bits ((s.hart h.val).a.getCsr CSR_XNRCTL) 15 12)) ∧ (t.hart h.val).epoch = none ∧
    t.fld (corePg (s.coreOf h.val)) R.CORE_EPOCH_LAST = 1) ∧
  (∀ (s : State) (h : HartId) (check : Fin 7) (e : Epoch) (rest : List Epoch) (l : Nat) (b : BufLine) (w : L2Line),
    let k := s.coreOf h.val
    let old := ((Tab.at? (s.core k).l1d l).map (fun x : L1Line => x.data)).getD w.data
    (s.hart h.val).closed = e :: rest → e.inject = 0 → e.cbos = [] → e.stores = [(l, b)] → b.mask ≠ 0 → Tab.at? (s.cluster (k / 4)).l2 l = some w →
    (s.cluster (k / 4)).snoops = [] → (s.hart h.val).head = none → Gives (.epochCheckClear h check) s fun t =>
      (t.hart h.val).closed = rest ∧ t.now = max s.now (s.ccycAt k e.closedAt (18 + check.val)) ∧
      t.fld (corePg k) R.CORE_EPOCH_COMMITS = (s.fld (corePg k) R.CORE_EPOCH_COMMITS + 1) % 2 ^ 48 ∧
      (∃ d, Tab.at? (t.core k).l1d l = some ⟨d, true⟩ ∧ ∀ i < 64, bits d.toNat (8 * i + 7) (8 * i) =
        (if bitN b.mask i then bits b.data.toNat (8 * i + 7) (8 * i) else bits old.toNat (8 * i + 7) (8 * i))) ∧
      Tab.at? (t.cluster (k / 4)).l2 l = some { w with st := .m } ∧ t.mem = s.mem) ∧
  (∀ (s : State) (f : Flit) (c : Tile), f.dst.val = tileStop c.val →
    let l := f.addr.toNat / 64
    let got : L2Line := { st := grantState f.detail.toNat, data := f.data, key := f.key, poison := f.poison, cls := f.cls }
    (384 ≤ f.tag.val → f.tag.val < 512 → f.op = OP_DATA → Tab.at? (s.cluster c.val).l2 l = none → Gives (.fillArrival f) s fun t =>
      Tab.at? (t.cluster c.val).l2 l = some got ∧ t.harts = s.harts) ∧
    (∀ h : HartId, f.tag.val = 1024 + h.val → Gives (.fillArrival f) s fun t => (t.hart h.val).cbos = (s.hart h.val).cbos - 1 ∧
      ((s.hart h.val).closed = [] → (s.hart h.val).cbos = 1 → (t.hart h.val).fenceWait = false)) ∧
    (1536 ≤ f.tag.val → Gives (.fillArrival f) s fun t => Tab.at? (t.cluster c.val).evicting l = none ∧ t.harts = s.harts) ∧
    (∀ (h : HartId) (m : Miss), f.tag.val = h.val → (s.hart h.val).misses = [m] → m.lines.contains l = true → f.op = OP_DATA → m.own = false → m.err = false →
      let p := max 1 (s.point (s.coreOf h.val))
      let u0 := s.taken f
      let u := u0.setHart h.val { u0.hart h.val with misses := [{ m with lines := m.lines.filter (· != l), got := Tab.ins l got m.got }] }
      let u1 := u.toMclk (cclkOf p (fillEnd p (s.now + 1)))
      (m.lines.filter (· != l) ≠ [] → Gives (.fillArrival f) s fun t => t = u1) ∧
      (m.lines.filter (· != l) = [] → Gives (.fillArrival f) s fun t => t = (u1.setHart h.val { u1.hart h.val with
        misses := [], shadow := Tab.ins l got m.got, bypass := m.nc, head := none }).performHart m.instr true)) ∧
    (∀ (h : HartId) (m : Miss), f.tag.val = h.val → (s.hart h.val).misses = [m] → m.lines.contains l = true → f.op = OP_ERROR →
      Gives (.fillArrival f) s fun t => let u := s.taken f
        let u1 := u.setHart h.val { u.hart h.val with misses := [{ m with lines := m.lines.filter (· != l), err := true }] }
        t = u1.trapOn h.val (accessTrap u1 h.val m.instr) m.instr 0)) ∧
  (∀ (s : State) (h : HartId) (r : Resv) (f : Flit) (t0 : Nat), (s.hart h.val).resv = some r →
    let c := s.coreOf h.val / 4
    let u := s.toMclk (s.ccycAt (s.coreOf h.val) r.since 64)
    (s.cluster c).snoops = [(t0, f)] → u.snoopWaits c (f.addr.toNat / 64) = false → Gives (.lrSnoopDeferEnd h) s fun t => t.now = u.now ∧
      (t.cluster c).snoops = [] ∧ ∃ m, t.out.getLast? = some m ∧ m.flit.plane = .rsp ∧ m.flit.tag = f.tag ∧ m.flit.dst = f.src) ∧
  (∀ (s : State) (h : HartId) (rd rs1 : Reg) (off : BitVec 12) (size : MemSize) (sx write : Bool) (pa : Nat), HartClear s h.val → size ≠ .q →
    let s0 := issueOf s h.val
    let va := ((s.hart h.val).a.getX rs1 + off.signExtend 64).toNat
    let c : Instr := .ioRegionAccess h rd rs1 off size sx write
    s0.parts h.val write (accessParts va size.bytes) = .parts [⟨pa, size.bytes, 2⟩] →
    (va % size.bytes = 0 → s.tenantOk (s.hart h.val).a.tenant.val = true → write = true ∨ region pa ≠ .doorbell → Gives c s fun t =>
      (t.hart h.val).io = some ⟨c, BitVec.ofNat 52 pa, write, s.tb⟩ ∧ (t.hart h.val).a = (s.hart h.val).a ∧
      ∃ m, t.out = s.out ++ [m] ∧ m.at_ = s.atStop (s.coreOf h.val) ∧ m.flit.plane = .req ∧ m.flit.tag = Fin.ofNat 2048 (512 + h.val) ∧
        m.flit.count.val = size.bytes ∧ m.flit.addr = BitVec.ofNat 52 pa ∧
        m.flit.op = (if region pa = .doorbell then OP_DOORBELL else if write then OP_WRIO else OP_RDIO)) ∧
    (va % size.bytes = 0 → s.tenantOk (s.hart h.val).a.tenant.val = false ∨ (write = false ∧ region pa = .doorbell) → Gives c s fun t =>
      t = s0.trapOn h.val ⟨if write then 7 else 5, va, 0⟩ c 0) ∧
    (va % size.bytes ≠ 0 → Gives c s fun t => t = (s0.refusePage h.val pa write).trapOn h.val ⟨if write then 7 else 5, va, 0⟩ c 0)) ∧
  (∀ (s : State) (h : HartId) (f : Flit) (w : IoWait) (rd rs1 : Reg) (off : BitVec 12) (size : MemSize) (sx : Bool), (s.hart h.val).io = some w →
    w.instr = .ioRegionAccess h rd rs1 off size sx false → f.tag.val = 512 + h.val →
    let u := (s.taken f)
    let p := max 1 (s.point (s.coreOf h.val))
    let w1 := (u.setHart h.val { u.hart h.val with io := none }).toMclk (cclkOf p (fillEnd p (s.now + 1)))
    (f.op ≠ OP_ERROR → Gives (.ioResponse h (some f)) s fun t => Retires s t h.val rd (extendTo size.bytes f.data.toNat sx) ∧ (t.hart h.val).io = none ∧
      t.now = w1.now) ∧
    (f.op = OP_ERROR → Gives (.ioResponse h (some f)) s fun t =>
      t = w1.trapOn h.val ⟨if w.write then 7 else 5, ((s.hart h.val).a.getX rs1 + off.signExtend 64).toNat, 0⟩ w.instr 0)) ∧
  (∀ (s : State) (h : HartId) (rd rs1 : Reg) (pa k : Nat) (s1 : State), HartClear s h.val →
    let s0 := issueOf s h.val
    let a := (s.hart h.val).a
    let va := (a.getX rs1).toNat
    let c := s.coreOf h.val / 4
    let d : Line := BitVec.ofNat 512 (s1.hartValue h.val (lineBase pa) 64 false)
    let i : Instr := .taskSubmit h (submitWord rd rs1)
    let may := a.priv = 3 ∨ (a.virt = false ∧ bitN (a.getCsr CSR_XNRCTL) (if a.priv = 1 then 24 else 25) = true)
    (may → va % 64 = 0 → s0.translate h.val va false false false = .place pa k → k = 0 → s.tenantOk a.tenant.val = true →
      (headOf s0 h.val).bring h.val (pa / 64) false = .ready s1 → s1.linePoison h.val (pa / 64) false = false → LaneQuiet s c a.cls.val →
      Gives i s fun t =>
        let r := s1.submit c d a.tenant a.cls (s1.now + 3)
        Retires s t h.val rd (w64 r.2.1) ∧ t.queue c = r.1.queue c ∧ (t.hart h.val).epoch = none) ∧
    (a.virt = false → ¬ may → Gives i s fun t => t = s0.trapOn h.val (illegal (submitWord rd rs1).toNat) i 0) ∧
    (may → va % 64 ≠ 0 → Gives i s fun t => t = s0.trapOn h.val ⟨4, va, 0⟩ i 0))

/-- R129, R145, R187, R190: a snoop of a line that an uncommitted epoch holds waits; else it is answered with the line where the cluster owned it, 11 mclk later where no
core of the cluster holds it, and the copy is invalidated, shared or cleaned; one of a line the cluster does not hold is answered without data. -/
def Obligations.ClusterAnswersSnoops : Prop :=
  ∀ (s : State) (f : Flit) (c : Tile), f.dst.val = tileStop c.val →
    let l := f.addr.toNat / 64
    let held (t : State) : Option L2Line := Tab.at? (t.cluster c.val).l2 l
    let sends (t : State) (w : Option L2Line) : Prop := ∃ m, t.out = s.out ++ [m] ∧ m.at_ = s.snoopEnd c.val l s.now ∧ m.flit.plane = .rsp ∧
      m.flit.dst = f.src ∧ m.flit.tag = f.tag ∧ m.flit.op = (if w.isSome then OP_SNPDATA else OP_SNPRSP) ∧
      (∀ x, w = some x → m.flit.data = x.data ∧ m.flit.key = x.key) ∧
      ((∀ i < 4, Tab.at? (s.core (4 * c.val + i)).l1d l = none ∧ l ∉ (s.core (4 * c.val + i)).l1i) → m.at_ = s.now + 11)
    (s.snoopWaits c.val l = true → ∀ p ∈ [(Instr.snpinv f, OP_SNPINV), (.snpshare f, OP_SNPSHARE), (.snpclean f, OP_SNPCLEAN)],
      Gives p.1 s fun t => (t.cluster c.val).snoops = (s.cluster c.val).snoops ++ [(s.now, { f with op := p.2 })] ∧ t.out = s.out) ∧
    (s.snoopWaits c.val l = false → (∀ h ∈ s.clusterHarts c.val, (s.hart h).misses = []) →
      (∀ w, s.dirtyL1 c.val l = none → held s = some w → (s.cluster c.val).kstate ≠ 1 →
        let data (b : Bool) : Option L2Line := if b then some w else none
        (Gives (.snpinv f) s fun t => held t = none ∧ sends t (data (w.st != .s)) ∧
          ∀ i < 4, (s.core (4 * c.val + i)).cstate ≠ 2 → Tab.at? (t.core (4 * c.val + i)).l1d l = none) ∧
        (Gives (.snpshare f) s fun t => held t = some { w with st := if w.st = .m ∨ w.st = .o then .o else .s } ∧ sends t (data (w.st != .s))) ∧
        (Gives (.snpclean f) s fun t => held t = some { w with st := if w.st = .m then .e else if w.st = .o then .s else w.st } ∧
          sends t (data (w.st == .m || w.st == .o)))) ∧
      (held s = none → Tab.at? (s.cluster c.val).evicting l = none → s.dirtyL1 c.val l = none → ∀ i ∈ [Instr.snpinv f, .snpshare f, .snpclean f],
        Gives i s fun t => held t = none ∧ sends t none))

-- the scheduled mesh

/-- R162: of the 24 slots of a plane whose shares sum to at most 24, exactly SHARE[k] are dealt to class k, and with the reset shares the table of the rule
results. -/
def Obligations.SlotsAreDealtByShares : Prop :=
  (∀ (d : Sched) (p k : Nat), k < 16 → ((List.range 16).foldl (fun t j => t + d.share p j) 0) ≤ 24 →
    ((List.range 24).filter (fun i => d.dealt p i == some k)).length = d.share p k) ∧
  (∀ p : Nat, p < 4 → (List.range 24).map (fun i => ({} : Sched).dealt p i) =
    [0, 0, 6, 13, 0, 3, 10, 0, 0, 7, 14, 0, 4, 11, 0, 1, 8, 15, 0, 5, 12, 0, 2, 9].map some)

/-- R159, R160, R161, R29: what a slot of class k injects depends on no other class: two states that differ only in what waits of other classes
have the same flits on their way, and the same class-k queue, after the slot; of the registers only the stop's counters, which a secure class blinds (R98), may differ. -/
def Obligations.InjectionKeepsClassesApart : Prop :=
  ∀ (s u : State) (n : Stop) (p : Plane),
    let k : Cls := Fin.ofNat 16 (bits (s.mesh.sched.entry n.val p.ix (s.mesh.slotAt s.now)) 59 56)
    { u with mesh := { u.mesh with queues := s.mesh.queues } } = s → u.injQueue n.val p k = s.injQueue n.val p k →
    ∃ t v, exec (.flitInject n p) s = .next t ∧ exec (.flitInject n p) u = .next v ∧ v.mesh.moving = t.mesh.moving ∧
      v.injQueue n.val p k = t.injQueue n.val p k ∧
      (∀ a, a < meshPg n.val + 0xE00 ∨ meshPg n.val + 0x1000 ≤ a → v.reg a = t.reg a) ∧
      (∀ j : Cls, j ≠ k → v.injQueue n.val p j = u.injQueue n.val p j ∧ t.injQueue n.val p j = s.injQueue n.val p j)

/-- R148, R150, R153, R154, R156, R159, R175: a presented message joins its class's queue, or the crossbar to its own stop; the slot of its class puts it on the link
of its route 2 mclk later; a hop takes 1 or 4 mclk, and more than 3 bytes in error make the receiver discard it; ejection takes 2 mclk, and the message
stands in the ingress queue of its port, or is bounced where that is full. -/
def Obligations.MeshCarriesFlits : Prop :=
  (∀ (s : State) (f g : Flit) (u : Nat), s.out = [⟨u, f⟩] → s.rehome f = some g →
    let q := s.injQueue g.src.val g.plane g.cls
    let copies := if bounceable g then s.mesh.copies ++ [g] else s.mesh.copies
    let freed := if Tab.get 0 s.mesh.freed (queueKey g.src.val g.plane g.cls) = max s.now u + 1 then 1 else 0
    let room := (q.map (fun x => if x.part = 1 then 2 else 1)).sum + freed + (if twoFlits g then 2 else 1) ≤ 16
    (g.dst ≠ g.src → room → Gives (.flitPresent f) s fun t => t.now = max s.now u ∧ t.out = [] ∧ t.mesh.copies = copies ∧
      t.injQueue g.src.val g.plane g.cls = q ++ [if twoFlits g then { g with part := 1 } else g] ∧ t.mesh.moving = s.mesh.moving) ∧
    (g.dst = g.src → Gives (.flitPresent f) s fun t => t.now = max s.now u ∧ t.out = [] ∧ t.mesh.copies = copies ∧
      t.mesh.moving = s.mesh.moving ++ [⟨g, g.src.val, g.src.val, t.now, 0, 0, false⟩] ∧ t.mesh.queues = s.mesh.queues) ∧
    (g.dst ≠ g.src → ¬ room → Gives (.flitPresent f) s fun t => t = s)) ∧
  (∀ (s : State) (n : Stop) (p : Plane) (f : Flit) (rest : List Flit) (d m : Nat),
    let e := s.mesh.sched.entry n.val p.ix (s.mesh.slotAt s.now)
    let k : Cls := Fin.ofNat 16 (bits e 59 56)
    s.mesh.injects s.now = true → Tab.get 0 s.mesh.injected (4 * n.val + p.ix) ≠ s.now + 1 → bitN e 63 = true →
    (s.injQueue n.val p k = f :: rest → f.part ≠ 2 → admits e n.val (s.mesh.reelAt s.now) f.dst.val = true → routeDir n.val f.dst.val = some d →
      neighbour n.val d = some m → s.flag (meshPg n.val) (R.MS_LINK_FAILED f.plane.ix d) = false → Gives (.flitInject n p) s fun t =>
        t.injQueue n.val p k = (if f.part = 1 then { f with part := 2 } :: rest else rest) ∧ t.mesh.moving = s.mesh.moving ++ [⟨f, n.val, m, s.now + 2, 0, 0, false⟩] ∧ t.now = s.now ∧ t.out = s.out ∧
        (∀ j, j ≠ queueKey n.val p k → Tab.get [] t.mesh.queues j = Tab.get [] s.mesh.queues j)) ∧
    ((∀ x ∈ s.injQueue n.val p k, admits e n.val (s.mesh.reelAt s.now) x.dst.val = false) → Gives (.flitInject n p) s fun t => t.mesh = s.mesh)) ∧
  (∀ (s : State) (v : Moving) (dest : Stop) (errs : Fin 77), s.mesh.moving = [v] → v.next = dest.val → v.at_ ≠ dest.val → v.waits = false →
    let u := v.sent + hopCost v.at_ dest.val
    (errs.val ≤ 3 → v.flit.dst = dest → Gives (.flitHop v.flit dest errs) s fun t => t.now = max s.now u ∧
      t.mesh.moving = [{ v with at_ := dest.val, sent := u, tries := 0 }] ∧
      t.fld (meshPg dest.val) R.MS_CORR_COUNT = (s.fld (meshPg dest.val) R.MS_CORR_COUNT + (if errs = 0 then 0 else 1)) % 2 ^ 48) ∧
    (∀ d m, errs.val ≤ 3 → routeDir dest.val v.flit.dst.val = some d → neighbour dest.val d = some m →
      s.flag (meshPg dest.val) (R.MS_LINK_FAILED v.flit.plane.ix d) = false → Gives (.flitHop v.flit dest errs) s fun t =>
        t.now = max s.now u ∧ t.mesh.moving = [{ v with at_ := dest.val, next := m, sent := u, tries := 0 }]) ∧
    (3 < errs.val → Gives (.flitHop v.flit dest errs) s fun t => t.mesh.moving = [{ v with tries := v.tries + 1, waits := true }] ∧
      t.fld (meshPg dest.val) R.MS_RETRY_COUNT = (s.fld (meshPg dest.val) R.MS_RETRY_COUNT + 1) % 2 ^ 48)) ∧
  (∀ (s : State) (v : Moving), s.mesh.moving = [v] → v.at_ = v.flit.dst.val → v.next = v.flit.dst.val → v.waits = false → v.flit.plane = .req →
    (stopTile? v.flit.dst.val).isSome → v.flit.dport.val < 5 → v.flit.op.val < v.flit.plane.opCount →
    let f := v.flit
    let key := 8 * f.dst.val + f.dport.val
    let mine := (Tab.get [] s.mesh.ingress key).filter (fun g => g.plane == f.plane && g.cls == f.cls)
    (f.part = 0 → mine.length < 32 → Gives (.flitEject f) s fun t => t.now = max s.now (v.sent + 2) ∧ t.mesh.moving = [] ∧
      Tab.get [] t.mesh.ingress key = Tab.get [] s.mesh.ingress key ++ [f] ∧ (∀ j, j ≠ key → Tab.get [] t.mesh.ingress j = Tab.get [] s.mesh.ingress j) ∧ t.out = s.out) ∧
    (f.part = 0 → 32 ≤ mine.length → Gives (.flitEject f) s fun t => t.mesh.ingress = s.mesh.ingress ∧
      ∃ m, t.out = s.out ++ [m] ∧ m.flit = bounceOf f ∧ m.flit.op = OP_BOUNCE ∧ m.flit.plane = .rsp) ∧
    (f.part = 1 → s.mesh.halves = [] → Gives (.flitEject f) s fun t => t.mesh.halves = [f] ∧ t.mesh.ingress = s.mesh.ingress) ∧
    (f.part = 2 → s.mesh.halves = [{ f with part := 1 }] → mine.length < 32 → Gives (.flitEject f) s fun t => t.mesh.halves = [] ∧
      Tab.get [] t.mesh.ingress key = Tab.get [] s.mesh.ingress key ++ [{ f with part := 0 }])) ∧
  (∀ (s : State) (f c : Flit), s.mesh.copies = [c] → c.src = f.dst → c.sport = f.dport → c.tag = f.tag → c.cls = f.cls → c.addr = f.addr →
    (c.plane = .bulk ↔ f.plane = .bulk) → Gives (.bounceReceived f) s fun t => t.mesh.copies = [] ∧ t.out = s.out ++ [⟨s.now + senderTerms c, c⟩])

/-- R173, R174, R175, R435: the sender resends its copy on the retry lane 24 mclk later; after LIMIT tries the hop is repaired with spare wires, and without enough of them
the link fails and the flit is discarded; the Ward then ends the request that waits with an error. -/
def Obligations.LinksRetryAndFail : Prop :=
  (∀ (s : State) (n : Stop) (dir : Fin 4) (p : Plane) (v : Moving) (m : Nat), neighbour n.val dir.val = some m → s.mesh.moving = [v] → v.waits = true →
    v.at_ = n.val → v.next = m → v.flit.plane = p →
    let limit := s.fld (meshPg m) R.MS_RETRY_LIMIT
    (v.tries < limit → Gives (.linkRetrySend n dir p) s fun t => t.now = max s.now (v.sent + 24) ∧
      t.mesh.moving = [{ v with sent := v.sent + 24, late := v.late + 1, waits := false }]) ∧
    (∀ wires, limit ≤ v.tries → 1 ≤ wires → wires ≤ 8 →
      let used := s.fld (meshPg n.val) (R.MS_LINK_SPARES p.ix dir.val) + wires
      let u := s.mesh.periodStart s.now
      (used ≤ 8 → Gives (.linkRepair n dir p wires) s fun t => t.now = max s.now u ∧ t.fld (meshPg n.val) (R.MS_LINK_SPARES p.ix dir.val) = used ∧
        (∃ k, t.mesh.moving = [{ v with sent := v.sent + 24 * k, late := v.late + k, tries := 1, waits := false }] ∧ 1 ≤ k ∧ u ≤ v.sent + 24 * k) ∧
        1 ≤ t.fld (rasPg 0) R.RAS_HEALTH_STATE) ∧
      (8 < used → Gives (.linkRepair n dir p wires) s fun t => t.flag (meshPg n.val) (R.MS_LINK_FAILED p.ix dir.val) = true ∧ t.mesh.moving = [] ∧
        t.mesh.drops = s.mesh.drops ++ [⟨v.flit, n.val⟩] ∧ bits (t.reg (meshPg n.val + 0x40)) 31 16 = 0x3020))) ∧
  (∀ (s : State) (d : Dropped), s.mesh.drops = [d] → isRequest d.flit = true → Gives (.failedLinkResolve d.flit) s fun t =>
    t.mesh.drops = [] ∧ 2 ≤ t.fld (rasPg 0) R.RAS_HEALTH_STATE ∧
    let r := errorReply d.flit
    let key := 8 * r.dst.val + r.dport.val
    r.dst = d.flit.src ∧ Tab.get [] t.mesh.ingress key = Tab.get [] s.mesh.ingress key ++ [r])

/-- R166 to R170: a SCHED_LOAD that passes the checks arms the schedule and its swap edge, and one that fails reports why and changes nothing; injection pauses at the
first period start at or after the edge, and the tables swap at least two periods later, with no flit on its way. -/
def Obligations.SchedulesSwap : Prop :=
  (∀ (s : State) (b : Mbx), b.val < 8 → Asked s b.val 0x30 → s.mesh.next = none →
    match s.schedCheck (s.mbxIn b.val 1) with
    | none => Gives (.schedLoad b) s fun t => t.mesh.next = some (s.schedOf (s.mbxIn b.val 1)) ∧ t.mesh.sched = s.mesh.sched ∧
        t.mesh.edge = some ((s.tb + 127) / 64 * 64) ∧ Published s t b.val 0 [BitVec.ofNat 64 (s.schedOf (s.mbxIn b.val 1)).gen, 0, 0]
    | some e => Gives (.schedLoad b) s fun t => t.mesh = s.mesh ∧
        Published s t b.val (e.result % 2 ^ 16) [BitVec.ofNat 64 (e.code * 2 ^ 56), BitVec.ofNat 64 e.out2, BitVec.ofNat 64 e.out3]) ∧
  (∀ (s : State) (e : Nat), s.mesh.edge = some e → s.mesh.paused = none → Gives .schedSwapPause s fun t =>
    let u := s.mesh.periodStart (96 * e)
    t.mesh.paused = some u ∧ t.now = max s.now u ∧ (∀ x, t.mesh.injects x = false) ∧ t.mesh.sched = s.mesh.sched ∧ { t with now := s.now, mesh := s.mesh } = s) ∧
  (∀ (s : State) (p : Nat) (d : Sched), s.mesh.paused = some p → s.mesh.next = some d →
    (s.mesh.quiet = true → Gives .schedSwap s fun t => t.mesh.sched = d ∧ t.mesh.next = none ∧ t.mesh.edge = none ∧ t.mesh.paused = none ∧ t.mesh.load = none ∧
      p + 48 ≤ t.now ∧ s.now ≤ t.now ∧ t.mesh.reel0 = max (p + 48) (s.mesh.periodStart s.now) ∧ t.mesh.queues = s.mesh.queues) ∧
    (s.mesh.quiet = false → Gives .schedSwap s fun t => t = s))


-- slices and coherence

/-- R187, R188, R189, R190, R195, R210: reads, ownership requests, prefetches, BLANK and WRLINE of a cluster: what the slice sends and when, and the line's copy and
directory state after; a miss fills from the line's controller, an owner elsewhere is snooped, and the last response or the fill completes the request. -/
def Obligations.SlicesServeClusters : Prop :=
  (∀ (s : State) (c : Nat) (f : Flit) (w : DataWay), SliceTakes s c f → ClusterAsks f → (s.slice c).dir = [] → s.dirWays c f.cls.val ≠ [] →
    OneCopy s c f.addr.toNat w → w.key = f.key →
    let pa := f.addr.toNat
    let served (t : State) : Prop := (t.slice c).bufs = [] ∧ StillHolds t c pa w ∧ OneEntry t c pa [reqCluster f] .x ∧
      SendsOne s t (s.now + 14) fun g => AnswerTo f OP_DATA g ∧ g.data = w.data ∧ g.poison = w.poison ∧ g.detail = w64 GRANT_E
    (f.detail ≠ 1 → Gives (.sliceRd f) s served) ∧ Gives (.sliceRdown f) s served ∧ Gives (.sliceUpgrade f) s served ∧ Gives (.slicePrefetch f) s served) ∧
  (∀ (s : State) (c : Nat) (f : Flit), SliceTakes s c f → ClusterAsks f → (s.slice c).ways = [] → s.dataWays c f.cls.val ≠ [] →
    s.dirWays c f.cls.val ≠ [] →
    let pa := f.addr.toNat
    ((s.slice c).dir = [] → Gives (.sliceBlank f) s fun t => (t.slice c).bufs = [] ∧ (∃ w, OneCopy t c pa w ∧ w.data = 0 ∧ w.dirty = true ∧ w.key = f.key) ∧
      OneEntry t c pa [reqCluster f] .x ∧ SendsOne s t (s.now + 14) fun g => AnswerTo f OP_DATA g ∧ g.data = 0 ∧ g.detail = w64 GRANT_E) ∧
    ((s.slice c).dir = [] → ∀ m, s.memOwner pa = some (.mc m) → s.mirrored = false → f.detail ≠ 1 → Gives (.sliceRd f) s fun t =>
      (∃ b, (t.slice c).bufs = [b] ∧ b.phase = .fill ∧ b.req.f = f ∧ SendsOne s t (s.now + 6) fun g => g.op = OP_RD ∧ g.plane = .req ∧
        g.dst.val = mcStop m ∧ g.tag.val = b.id % 2048 ∧ g.addr.toNat = lineBase pa ∧ g.key = f.key ∧ g.cls = f.cls) ∧ OneEntry t c pa [] .i) ∧
    (∀ pres st, OneEntry s c pa pres st → reqCluster f ∈ pres → (st = .x ∨ st = .o) → Gives (.sliceWrline f) s fun t =>
      (∃ w, OneCopy t c pa w ∧ w.data = f.data ∧ w.dirty = true ∧ w.poison = f.poison) ∧ lineStateOf (t.slice c) pa = (if st = .x then .i else .s) ∧
      SendsOne s t (s.now + 14) (AnswerTo f OP_ACK)) ∧
    (∀ k, OneEntry s c pa [k] .x → k ≠ reqCluster f → k < 96 → f.detail ≠ 1 → ((s.slice c).snpOut.filter (· == k)).length < 2 →
      (∀ w, Tab.at? (s.cluster k).l2 (lineOf pa) = some w → w.key = f.key) → Gives (.sliceRd f) s fun t =>
      (∃ b, (t.slice c).bufs = [b] ∧ b.phase = .snoop ∧ b.waitFor = [k] ∧ b.req = ⟨.rd, f⟩ ∧ SendsOne s t (s.now + 6) fun g => g.plane = .snp ∧
        g.op = OP_SNPSHARE ∧ g.dst.val = tileStop k ∧ g.cls = f.cls ∧ g.addr.toNat = lineBase pa ∧ g.tag.val = b.id % 2048) ∧ OneEntry t c pa [k] .x)) ∧
  (∀ (s : State) (c k : Nat) (b : FillBuf) (r f : Flit), c < 96 → f.dst.val = tileStop c → f.src.val = tileStop k → (s.slice c).bufs = [b] →
    (s.slice c).lanes = [] → b.id = f.tag.val → b.phase = .snoop → b.req = ⟨.rd, r⟩ → b.waiting = [] → b.wb = 0 → b.ownerHeld = false → b.snooped = true →
    s.flag (slicePg c) R.PG_STATUS_FROZEN = false → (s.slice c).snpWait = [] → isMaint r = false →
    (s.slice c).ways = [] → OneEntry s c r.addr.toNat [k] .x → f.addr = r.addr → f.op = OP_SNPDATA → f.key = r.key → f.detail.toNat % 16 ≠ 0 →
    (b.waitFor = [k] → Gives (.snoopResponse f) s fun t => (t.slice c).bufs = [] ∧
      OneEntry t c r.addr.toNat (insertRising (reqCluster r) [k]) (if bitN f.detail.toNat 5 then .o else .s) ∧
      SendsOne s t (s.now + 2) fun g => AnswerTo r (if r.plane = .bulk then OP_BDATA else OP_DATA) g ∧ g.data = f.data ∧ g.detail = w64 GRANT_S) ∧
    (∀ j, j ≠ k → b.waitFor = [k, j] → Gives (.snoopResponse f) s fun t => t.out = s.out ∧
      ∃ b1, (t.slice c).bufs = [b1] ∧ b1.waitFor = [j] ∧ b1.data = some (f.data, bitN f.detail.toNat 5, f.poison))) ∧
  (∀ (s : State) (c : Nat) (b : FillBuf) (r f : Flit), c < 96 → f.dst.val = tileStop c → (s.slice c).bufs = [b] → (s.slice c).lanes = [] →
    b.id = f.tag.val → b.phase = .fill → b.req = ⟨.rd, r⟩ → b.waiting = [] → b.wb = 0 → (s.slice c).ways = [] →
    s.flag (slicePg c) R.PG_STATUS_FROZEN = false → isMaint r = false → s.dataWays c r.cls.val ≠ [] →
    OneEntry s c r.addr.toNat [] .i → f.op = OP_DATA → f.detail ≠ 1 → Gives (.sliceFillArrival f) s fun t => (t.slice c).bufs = [] ∧
      (∃ w, OneCopy t c r.addr.toNat w ∧ w.data = f.data ∧ w.dirty = false ∧ w.key = r.key) ∧ OneEntry t c r.addr.toNat [reqCluster r] .x ∧
      SendsOne s t (s.now + 2) fun g => AnswerTo r (if r.plane = .bulk then OP_BDATA else OP_DATA) g ∧ g.data = f.data ∧ g.detail = w64 GRANT_E)

/-- R187, R201, R207, R210, R273: what engines, DMA engines and fabric devices ask of a present line: reads, writes, BLANK and atomics take 14 mclk and leave the directory alone; a CMO
cleans or removes the slice's copy, its dirty data written to memory first; and a back-invalidate snoop is answered as a flush. -/
def Obligations.SlicesServeTheRest : Prop :=
  (∀ (s : State) (c : Nat) (f : Flit) (w : DataWay), SliceTakes s c f → (s.slice c).dir = [] → OneCopy s c f.addr.toNat w → w.key = f.key →
    let pa := f.addr.toNat
    let data : Fin 32 := if f.plane = .bulk then OP_BDATA else OP_DATA
    let done : Fin 32 := if f.plane = .bulk then OP_BACK else OP_ACK
    let read (t : State) : Prop := StillHolds t c pa w ∧ (t.slice c).dir = [] ∧
      SendsOne s t (s.now + 14) fun g => AnswerTo f data g ∧ g.data = w.data ∧ g.poison = w.poison
    Gives (.sliceUntrackedRead f) s read ∧
    (f.detail = 1 ∨ fromCluster f = false → Gives (.sliceRd f) s read) ∧
    (w.poison = true → Gives (.sliceAtomic f) s fun t => StillHolds t c pa w ∧ (t.slice c).dir = [] ∧
      SendsOne s t (s.now + 14) fun g => AnswerTo f data g ∧ g.poison = true) ∧
    (¬(f.plane = .bulk ∧ f.detail = 2) → Gives (.sliceUntrackedWrite f) s fun t => (t.slice c).dir = [] ∧
      (∃ v, OneCopy t c pa v ∧ v.data = mergeWrite w.data f ∧ v.dirty = true) ∧ SendsOne s t (s.now + 14) (AnswerTo f done)) ∧
    (f.plane = .bulk → Gives (.sliceBlank f) s fun t => (t.slice c).dir = [] ∧ (∃ v, OneCopy t c pa v ∧ v.data = 0 ∧ v.dirty = true) ∧
      SendsOne s t (s.now + 14) (AnswerTo f done)) ∧
    (pa % 8 = 0 → bitN f.detail.toNat 1 = false → w.poison = false → Gives (.sliceAtomic f) s fun t => (t.slice c).dir = [] ∧
      let i := pa % 64 / 8
      let old := lineWord w.data i
      let new := if bitN f.detail.toNat 0 then (if old = lineWord f.data 1 then lineWord f.data 0 else old) else old + lineWord f.data 0
      (∃ v, OneCopy t c pa v ∧ v.data = setLineWord w.data i new ∧ v.dirty = true) ∧
      SendsOne s t (s.now + 14) fun g => AnswerTo f data g ∧ lineWord g.data 0 = old) ∧
    (pa % 4 = 0 → bitN f.detail.toNat 1 = true → w.poison = false → Gives (.sliceAtomic f) s fun t => (t.slice c).dir = [] ∧
      let i := pa % 64
      let old := bits w.data.toNat (8 * i + 31) (8 * i)
      let arg := (lineWord f.data 0).toNat % 2 ^ 32
      let new := if bitN f.detail.toNat 0 then (if old = (lineWord f.data 1).toNat % 2 ^ 32 then arg else old) else old + arg
      (∃ v, OneCopy t c pa v ∧ v.data = lineMerge w.data i 4 new ∧ v.dirty = true) ∧
      SendsOne s t (s.now + 14) fun g => AnswerTo f data g ∧ (lineWord g.data 0).toNat = old) ∧
    (w.dirty = false → ClusterAsks f →
      Gives (.sliceCmoClean f) s (fun t => StillHolds t c pa w ∧ SendsOne s t (s.now + 14) (AnswerTo f OP_ACK)) ∧
      Gives (.sliceCmoFlush f) s (fun t => (t.slice c).ways = [] ∧ SendsOne s t (s.now + 14) (AnswerTo f OP_ACK))) ∧
    (w.dirty = false → Gives (.bisnp f) s fun t => (t.slice c).ways = [] ∧ SendsOne s t (s.now + 14) fun g => g.op = OP_SNPRSP ∧ g.plane = .rsp ∧ g.dst = f.src) ∧
    (ClusterAsks f → f.detail ≠ 1 → Gives (.sliceCmoInval f) s fun t => (t.slice c).ways = [] ∧ SendsOne s t (s.now + 14) (AnswerTo f OP_ACK)) ∧
    (∀ m, s.memOwner pa = some (.mc m) → s.mirrored = false → w.dirty = true → ClusterAsks f → Gives (.sliceCmoFlush f) s fun t => (t.slice c).ways = [] ∧
      ∃ b r, (t.slice c).bufs = [b] ∧ b.wb = 1 ∧ b.after = some r ∧ AnswerTo f OP_ACK r ∧ SendsOne s t (s.now + 14) fun g => g.op = OP_WRLINE ∧
        g.dst.val = mcStop m ∧ g.data = w.data ∧ g.key = w.key ∧ g.cls = w.cls ∧ g.addr.toNat = lineBase pa)) ∧
  (∀ (s : State) (c : Nat) (b : FillBuf) (r f : Flit), c < 96 → f.dst.val = tileStop c → (s.slice c).bufs = [b] → (s.slice c).lanes = [] →
    b.id = f.tag.val → b.phase = .ack → b.wb = 1 → b.after = some r → isMaint r = false → b.waiting = [] → f.op = OP_ACK → Gives (.sliceFillArrival f) s fun t =>
      (t.slice c).bufs = [] ∧ t.out = s.out ++ [⟨s.now, r⟩]) ∧
  (∀ (s : State) (c : Nat) (f : Flit), f.dst.val = tileStop c → c < 96 → f.plane ≠ .bulk →
    (s.homeOf f.addr.toNat ≠ c → Gives (.sliceRd f) s fun t => t.slices = s.slices ∧ SendsOne s t s.now (AnswerTo f OP_BOUNCE)) ∧
    (s.homeOf f.addr.toNat = c → s.flag (slicePg c) R.PG_STATUS_FROZEN = false → s.flag (slicePg c) R.SLC_CTL_EN = false → Gives (.sliceRd f) s fun t => t.slices = s.slices ∧
      SendsOne s t (s.now + 6) (AnswerTo f OP_ERROR) ∧ bits (t.reg (slicePg c + 0x40)) 31 16 = 0x5011))

/-- R197, R199, R200, R202, R205: what writes of a slice's registers do: enable only after INVALL, masks, latching, which empties the ways it takes,
and the start of a maintenance operation, LATCH-FILL among them, of the requester's own class. -/
def Obligations.SliceRegistersAct : Prop :=
  ∀ (s : State) (c k : Nat) (p : PageReq), c < 96 → k < 16 →
    let pg := slicePg c
    let P := slicePage c
    let v := p.data.toNat
    let mask (x : State) (j : Nat) : Nat := x.fld pg (R.SLC_MASK_WAYS.nth j)
    (Stores s p P 0x100 → wardOrM p.who = true →
      (v % 2 = 1 → s.flag pg R.SLC_CTL_INITED = false → Gives (.sliceEnable p) s fun t => Refused s t p P 4 ∧ t.slices = s.slices ∧
        t.fld pg R.SLC_CTL_EN = s.fld pg R.SLC_CTL_EN) ∧
      (s.flag pg R.SLC_CTL_INITED = true → Gives (.sliceEnable p) s fun t => Answered s t p 0 ∧ t.slices = s.slices ∧ t.fld pg R.SLC_CTL_EN = v % 2)) ∧
    (Stores s p P (0x140 + 8 * k) → wardOrM p.who = true →
      let w := v % 4096
      let added (j : Nat) : Bool := bitN v j && !bitN (mask s k) j
      (w = 0 → s.maskLocked c k p.who v = false → Gives (.slcMaskWrite p) s fun t => Refused s t p P 6 ∧ ∀ j, mask t j = mask s j) ∧
      (p.who.path = .hart → s.secureClass k = false → (∃ i j, i < 12 ∧ j < 16 ∧ s.secureClass j = true ∧ added i = true ∧ bitN (mask s j) i = true) →
        Gives (.slcMaskWrite p) s fun t => Refused s t p P 3 ∧ ∀ j, mask t j = mask s j) ∧
      (w ≠ 0 → p.who.path = .hart → s.maskLocked c k p.who v = false → Gives (.slcMaskWrite p) s fun t => Answered s t p 0 ∧ mask t k = w ∧
        ∀ j, j < 16 → j ≠ k → mask t j = mask s j) ∧
      (w ≠ 0 → p.who.path = .ward → s.secureClass k = true → s.bolted = false →
        let rest (j : Nat) : Nat := mask s j - (mask s j &&& w)
        ((∀ j, j < 16 → s.secureClass j = false → rest j ≠ 0) → Gives (.slcMaskWrite p) s fun t => Answered s t p 0 ∧ mask t k = w ∧
          (∀ j, j < 16 → s.secureClass j = false → mask t j = rest j) ∧ ∀ j, j < 16 → s.secureClass j = true → j ≠ k → mask t j = mask s j) ∧
        ((∃ j, j < 16 ∧ s.secureClass j = false ∧ rest j = 0) → Gives (.slcMaskWrite p) s fun t => Refused s t p P 6 ∧ ∀ j, mask t j = mask s j))) ∧
    (Stores s p P 0x108 → wardOrM p.who = true → s.secureClass (s.fld pg R.SLC_LATCH_OWNER) = false → s.secureClass (bits v 19 16) = false →
      s.fld pg R.SLC_LATCH_WAYS = 0 → v % 4096 ≠ 0 → Gives (.slcLatchWrite p) s fun t => Answered s t p 0 ∧ t.fld pg R.SLC_LATCH_WAYS = v % 4096 ∧
        t.fld pg R.SLC_LATCH_OWNER = bits v 19 16 ∧ (t.slice c).ways = (s.slice c).ways.filter (fun e => !bitN (v % 4096) (e.1 % 16)) ∧
        (t.slice c).latchEnds = some (s.now + 4096) ∧ t.flag pg R.PG_STATUS_BUSY = true) ∧
    (∀ u, (s.slice c).latchEnds = some u → (s.slice c).wbDue = 0 → (s.slice c).walkEnds = none → (s.slice c).maint = [] →
      ∀ n : Tile, n.val = c → Gives (.latchEmptyDone n) s fun t => t.now = max s.now u ∧ (t.slice c).latchEnds = none ∧ t.flag pg R.PG_STATUS_BUSY = false) ∧
    (Stores s p P (0x200 + 0x40 * k) → p.who.cls.val = k → p.who.path = .hart →
      let way := s.fld pg (R.SLC_MAINT_SETWAY_WAY.nth k)
      let begun (op scope : Nat) (t : State) : Prop := Answered s t p 0 ∧ t.flag pg (R.SLC_MAINT_STAT_BUSY.nth k) = true ∧
        Tab.at? (t.slice c).maint k = some ⟨op, scope, 64 * s.fld pg (R.SLC_MAINT_ADDR_ADDR.nth k), s.fld pg (R.SLC_MAINT_LEN_LEN.nth k),
          way, s.fld pg (R.SLC_MAINT_SETWAY_SET.nth k), s.tenantKey p.who.tenant.val, p.who.tenant, false, s.now, 0, false, 0, 0, s.now, s.now⟩
      (s.flag pg (R.SLC_MAINT_STAT_BUSY.nth k) = true → v % 16 = 0 → Gives (.maintInv p) s fun t => Refused s t p P 6 ∧ t.slices = s.slices ∧
        t.fld pg (R.SLC_MAINT_STAT_RESULT.nth k) = 1) ∧
      (s.flag pg (R.SLC_MAINT_STAT_BUSY.nth k) = false →
        (∀ scope, scope ≤ 1 ∨ (scope = 2 ∧ way < 12) → bits v 7 4 = scope →
          (v % 16 = 0 → Gives (.maintInv p) s (begun 0 scope)) ∧ (v % 16 = 1 → Gives (.maintClean p) s (begun 1 scope)) ∧
          (v % 16 = 2 → Gives (.maintFlush p) s (begun 2 scope)) ∧ (v % 16 = 3 → Gives (.maintBlank p) s (begun 3 scope))) ∧
        (v % 256 = 0x34 → p.who.priv = 3 → s.flag pg R.SLC_CTL_EN = false → Gives (.invall p) s fun t => begun 4 3 t ∧ t.flag pg R.PG_STATUS_BUSY = true) ∧
        (v % 256 = 0x34 → p.who.priv ≠ 3 → Gives (.invall p) s fun t => Refused s t p P 6 ∧ t.slices = s.slices) ∧
        (v % 256 = 5 → s.fld pg R.SLC_LATCH_OWNER ≠ k → Gives (.latchFill p) s fun t => Refused s t p P 6 ∧ t.slices = s.slices) ∧
        (v % 256 = 5 → s.fld pg R.SLC_LATCH_OWNER = k → Gives (.latchFill p) s (begun 5 0))))

/-- R202, R204, R205, R206, R211, R212, R213: how maintenance ends, with its result and time; what errors in a slice's arrays do; and how the Ward retires a slice. -/
def Obligations.SlicesEndAndRetire : Prop :=
  (∀ (s : State) (c : Tile) (k : Cls) (r : MaintRun),
    let pg := slicePg c
    let stat (t : State) (result lines : Nat) : Prop := t.flag pg (R.SLC_MAINT_STAT_BUSY.nth k) = false ∧
      t.fld pg (R.SLC_MAINT_STAT_RESULT.nth k) = result ∧ t.fld pg (R.SLC_MAINT_STAT_LINES.nth k) = lines ∧ Tab.at? (t.slice c).maint k = none
    let fresh := r.busy = false ∧ r.seen = 0 ∧ r.lines = 0 ∧ r.result = 0 ∧ r.next = r.begun ∧ r.done = r.begun ∧ r.ward = false ∧ r.scope = 0
    let calm := (s.slice c).bufs = [] ∧ (s.slice c).lanes = [] ∧ (s.slice c).dir = []
    let acted := max s.now r.begun + 14
    (s.slice c).maint = [(k.val, r)] →
    (r.op = 4 → Gives (.maintDone c k) s fun t => stat t 0 0 ∧ t.now = max s.now (r.begun + 4128) ∧ (t.slice c).ways = [] ∧ (t.slice c).dir = [] ∧
      (t.slice c).bufs = [] ∧ (t.slice c).lanes = [] ∧ t.flag pg R.SLC_CTL_INITED = true) ∧
    (r.op ≠ 4 → s.flag pg R.PG_STATUS_FROZEN = true → r.lines < 2 ^ 48 → Gives (.maintDone c k) s fun t => stat t 5 r.lines) ∧
    (r.op ≠ 4 → s.flag pg R.PG_STATUS_FROZEN = false → s.flag pg R.PG_STATUS_RETIRED = false →
      (fresh → s.homeOf r.addr ≠ c → Gives (.maintDone c k) s fun t => stat t 2 0 ∧ t.now = max s.now (r.begun + 6) ∧ (t.slice c).ways = (s.slice c).ways) ∧
      (fresh → calm → s.homeOf r.addr = c → r.addr % 64 = 0 →
        (r.op < 3 → (s.slice c).ways = [] → Gives (.maintDone c k) s fun t => stat t 0 0 ∧ t.now = max s.now (r.begun + 6)) ∧
        (∀ w, OneCopy s c r.addr w → w.dirty = false → w.poison = false →
          (r.op < 3 → w.key = r.key → (r.key ≠ 0 ∨ w.cls = k) → Gives (.maintDone c k) s fun t => stat t 0 1 ∧ t.now = acted ∧
            (if r.op = 1 then StillHolds t c r.addr w else (t.slice c).ways = [])) ∧
          (r.op < 3 → w.key ≠ r.key → Gives (.maintDone c k) s fun t => stat t 0 0 ∧ t.now = max s.now (r.begun + 14) ∧
            (t.slice c).ways = (s.slice c).ways) ∧
          (r.op = 5 → s.emptyLatched c (lineOf r.addr) = [] → Gives (.maintDone c k) s fun t => stat t 3 0 ∧ t.now = max s.now (r.begun + 6) ∧
            (t.slice c).ways = (s.slice c).ways) ∧
          (∀ j l, r.op = 5 → w.key = r.key → (r.key ≠ 0 ∨ w.cls = k) → s.emptyLatched c (lineOf r.addr) = j :: l → Gives (.maintDone c k) s fun t =>
            stat t 0 1 ∧ t.now = acted ∧ ∃ u, (t.slice c).ways = [(16 * dataSet r.addr + j, { w with used := u })])) ∧
        (r.op = 3 → (s.slice c).ways = [] → s.ownerOf (lineOf r.addr) = none → s.dataWays c k ≠ [] → 0 < s.fillShare c k → Gives (.maintDone c k) s fun t => stat t 0 1 ∧ t.now = acted ∧
          ∃ w, OneCopy t c r.addr w ∧ w.data = 0 ∧ w.dirty = true ∧ w.key = r.key ∧ w.cls = k)) ∧
      (r.busy = false → r.seen = (s.maintLines c k r).length → s.maintLines c k r ≠ [] → (r.scope = 0 → s.homeOf r.addr = c) → (s.slice c).lanes = [] →
        r.result < 8 → r.lines < 2 ^ 48 → Gives (.maintDone c k) s fun t => stat t r.result r.lines ∧ t.now = max s.now r.done))) ∧
  (∀ (s : State) (c : Tile), let pg := slicePg c
    let logged (t : State) (code fault : Nat) : Prop := bits (t.reg (pg + 0x40)) 31 16 = code ∧ (t.reg (pg + 0x10)).testBit fault = true ∧
      ∃ u, (u, 16 * c.val + 5) ∈ t.wires
    (∀ l, Gives (.sliceArrayError c (.corrected l)) s fun t => logged t 0x5001 0 ∧ (t.slice c).ways = (s.slice c).ways ∧
      t.fld pg R.PG_STATUS_FROZEN = s.fld pg R.PG_STATUS_FROZEN) ∧
    (∀ l w, OneCopy s c (64 * l) w → Gives (.sliceArrayError c (.data l)) s fun t => logged t 0x5010 1 ∧ OneCopy t c (64 * l) { w with poison := true }) ∧
    (∀ set, Gives (.sliceArrayError c (.tag set)) s fun t => logged t 0x5020 2 ∧ t.flag pg R.PG_STATUS_FROZEN = true ∧ t.slices = s.slices) ∧
    (s.home.retire = none → s.flag pg R.PG_STATUS_RETIRED = false → s.flag pg R.PG_STATUS_FROZEN = true → s.retiredCount R.RAS_SLC_RET 2 < 95 →
      Gives (.sliceRetire c) s fun t => t.home.retire = some c.val ∧ t.home.map = s.home.map ∧ ∃ q, t.home.pend = some q ∧ q.map = none ∧
        q.edge % 64 = 0 ∧ s.tb + 64 ≤ q.edge ∧ q.edge < s.tb + 128 ∧ ∀ b, b ∈ q.hold ↔ (b < 384 ∧ s.bucketHome b = c)) ∧
    (s.home.retire = some c.val → s.home.pend = none → (s.slice c).walked = false → s.flag pg R.PG_STATUS_FROZEN = false → (s.slice c).bufs = [] →
      (s.slice c).lanes = [] → (s.slice c).dir = [] → (∀ e ∈ (s.slice c).ways, e.1 % 16 < 12) → (∃ x, x < 96 ∧ x ≠ c.val ∧ s.isRetired R.RAS_SLC_RET x = false) →
      Gives (.sliceRetireWalk c) s fun t => (t.slice c).ways = [] ∧ (t.slice c).walked = true ∧ ∃ q m, t.home.pend = some q ∧ q.map = some m ∧ q.hold = [] ∧
        q.edge % 64 = 0 ∧ ∀ b, b < 384 →
          let h := Tab.get (b % 96) m b
          (s.bucketHome b ≠ c → h = s.bucketHome b) ∧ (s.bucketHome b = c → h ≠ c ∧ h < 96 ∧ s.isRetired R.RAS_SLC_RET h = false))) ∧
  (∀ (s : State) (q : HomePend), s.home.pend = some q → s.home.gen < 65535 →
    (q.map = none → Gives .homeMapApply s fun t => t.now = max s.now (96 * q.edge) ∧ t.home.hold = q.hold ∧ t.home.map = s.home.map ∧
      t.home.gen = s.home.gen + 1 ∧ t.home.pend = none ∧ t.regs = s.regs) ∧
    (∀ m (c : Tile), q.map = some m → s.home.retire = some c.val → Gives .homeMapApply s fun t => t.now = max s.now (96 * q.edge) ∧ t.home.hold = q.hold ∧
      t.home.map = m ∧ t.home.gen = s.home.gen + 1 ∧ t.home.pend = none ∧ t.home.retire = none ∧ t.flag (slicePg c) R.SLC_CTL_EN = false ∧
      t.flag (slicePg c) R.PG_STATUS_RETIRED = true ∧ t.flag (dirPg c) R.PG_STATUS_RETIRED = true ∧ t.isRetired R.RAS_SLC_RET c = true))


-- memory controllers

/-- R94, R221, R222, R227, R228, R229, R231, R237, R239, R241, R242, R245: intake and answers of reads and writes, the commands a class's window issues and their
times, the guard's precharge, what a WR stores and what read data delivers under its key index, and the journal's release. The dclk at which a guard's PRE issues is the
model's choice (log entry 109), and that a request waits behind an unjournaled write of its class (log entry 108). -/
def Obligations.MemoryControllersServe : Prop :=
  (∀ (s : State) (m : McId) (f : Flit), McTakes s m f →
    let d := s.intoMcAt m s.now
    let at_ (n : Nat) : Nat := s.outOfMcAt m (d + n)
    let pa := f.addr.toNat
    let code (t : State) : Nat := bits (t.reg (mcPg m 0 + 0x40)) 31 16
    let newest := ((s.mc m).journal.filter (fun e => lineOf e.f.addr.toNat == lineOf pa)).getLast?
    let victimOrMine : Prop := IsVictim f ∨ s.bgAllowed m f.cls.val pa = true
    let uncarved : Prop := s.secureClass f.cls.val = true ∨ s.carved m pa = false
    (McAdmits s m f → (newest = none ∨ ∃ e, newest = some e ∧ e.f.key ≠ f.key) → Gives (.mcRead f) s fun t =>
      (t.mc m).reads = (s.mc m).reads ++ [⟨f, d + 4, false, false⟩] ∧ (t.mc m).journal = (s.mc m).journal ∧ t.out = s.out ∧ t.mem = s.mem ∧
      (t.mc m).selfRefresh = false ∧ ((s.mc m).selfRefresh = false → t.mc m = { s.mc m with reads := (s.mc m).reads ++ [⟨f, d + 4, false, false⟩] }) ∧
      ((s.mc m).selfRefresh = true → t.flag (mcPg m 0) R.MC_SR_IN_SR = false ∧ (t.mc m).cmdFrom = d + 1 + s.mc2 m R.MC_REF_TRFC + 8 ∧
        ∃ w, (t.mc m).cmds.head? = some w ∧ bits w.toNat 35 32 = 11)) ∧
    (∀ e, McAdmits s m f → newest = some e → e.f.key = f.key → Gives (.mcRead f) s fun t => (t.mc m).reads = (s.mc m).reads ∧
      SendsOne s t (at_ 6) fun g => AnswerTo f OP_DATA g ∧ g.data = e.f.data ∧ g.poison = e.f.poison) ∧
    (¬McAdmits s m f → Gives (.mcRead f) s fun t => (t.mc m).reads = (s.mc m).reads ∧ t.mem = s.mem ∧ SendsOne s t (at_ 4) (AnswerTo f OP_ERROR)) ∧
    (s.mcServesAddr m pa = true → uncarved → victimOrMine → (s.mc m).journalFull f.cls = false →
      (s.mirrored = false ∨ s.mcReads (if m.val % 2 = 0 then m.val + 1 else m.val - 1) = true → Gives (.mcWrite f) s fun t =>
        (t.mc m).journal = (s.mc m).journal ++ [⟨f, none, false⟩] ∧ (t.mc m).resync = (s.mc m).resync ∧ t.mem = s.mem ∧ SendsOne s t (at_ 4) (AnswerTo f OP_ACK)) ∧
      (s.mirrored = true → s.mcReads (if m.val % 2 = 0 then m.val + 1 else m.val - 1) = false → (s.mc m).resync.length < 4096 → Gives (.mcWrite f) s fun t =>
        (t.mc m).journal = (s.mc m).journal ++ [⟨f, none, false⟩] ∧ lineOf pa ∈ (t.mc m).resync ∧ SendsOne s t (at_ 4) (AnswerTo f OP_ACK))) ∧
    (s.mcServesAddr m pa = true → uncarved → victimOrMine → (s.mc m).journalFull f.cls = true → (s.mc m).selfRefresh = false → StaysQueued (.mcWrite f) s f) ∧
    (s.mcServesAddr m pa = true → ¬uncarved → Gives (.mcWrite f) s fun t =>
      (t.mc m).journal = (s.mc m).journal ∧ t.mem = s.mem ∧ code t = 0xA102 ∧ SendsOne s t (at_ 4) (AnswerTo f OP_ACK)) ∧
    (s.mcServesAddr m pa = true → uncarved → ¬victimOrMine → Gives (.mcWrite f) s fun t =>
      (t.mc m).journal = (s.mc m).journal ∧ t.mem = s.mem ∧ code t = 0xA101 ∧ SendsOne s t (at_ 4) (AnswerTo f OP_ACK)) ∧
    (s.mcServesAddr m pa = false → Gives (.mcWrite f) s fun t => (t.mc m).journal = (s.mc m).journal ∧ t.mem = s.mem ∧ SendsOne s t (at_ 4) (AnswerTo f OP_ERROR))) ∧
  (∀ (s : State) (m : McId) (f : Flit), f.dst.val = mcStop m → f.plane = .req →
    (s.flag (mcPg m 0) R.PG_STATUS_FROZEN = true → StaysQueued (.mcRead f) s f ∧ StaysQueued (.mcWrite f) s f) ∧
    (s.flag (mcPg m 0) R.PG_STATUS_FROZEN = false → s.mcRetired m = true → s.mcBlocked m f = false →
      (Gives (.mcRead f) s fun t => SendsOne s t (s.outOfMcAt m (s.intoMcAt m s.now + 4)) (fun g => AnswerTo f OP_DATA g ∧ g.poison = true) ∧
        bits (t.reg (mcPg m 0 + 0x40)) 31 16 = 0x1011 ∧ t.mem = s.mem) ∧
      (Gives (.mcWrite f) s fun t => SendsOne s t (s.outOfMcAt m (s.intoMcAt m s.now + 4)) (AnswerTo f OP_ACK) ∧
        t.fld (mcPg m 1) R.MC_FF_STATUS_DROPPED = (s.fld (mcPg m 1) R.MC_FF_STATUS_DROPPED + 1) % 2 ^ 32 ∧ (t.mc m).journal = (s.mc m).journal ∧ t.mem = s.mem))) ∧
  (∀ (s : State) (m : McId) (sub : Fin 2) (win f0 : Nat),
    let v := s.mc m
    let last := s.mc2 m R.MC_WIN_LAST
    let len := s.frameLen m
    let d0 := max (s.dclk m) v.cmdFrom
    let start := nextStart f0 len (s.winStart m win) (d0 - last)
    let occ := 32 * ((start - f0) / max len 1) + win + 1
    let from_ := max d0 start
    v.frame0 = some f0 → win < 32 → 0 < s.mc2 m R.MC_WIN_LEN → s.flag (mcPg m 0) R.PG_STATUS_FROZEN = false → v.selfRefresh = false →
    (∀ k b, s.winOwner m win = some k → v.reads = [] → v.journal = [] → v.banks = [(bankKey b, { row := some b.row, win := 1, act := 0 })] → b.sub < 2 → b.rank < 2 →
      b.cid < 4 → b.bg < 8 → b.bank < 4 → s.mc2 m R.MC_MAP_ORDER ≠ 3 → f0 + s.mc2 m R.MC_WIN_LEN ≤ start → Gives (.mcCommandIssue m sub win) s fun t =>
        (Tab.get {} (t.mc m).banks (bankKey b)).row = none ∧ t.out = s.out ∧ t.mem = s.mem ∧
        ∃ w, (t.mc m).cmds.head? = some w ∧ bits w.toNat 35 32 = 4 ∧ bits w.toNat 39 39 = b.sub ∧ bits w.toNat 38 38 = b.rank) ∧
    (∀ f : Flit,
      let pa := f.addr.toNat
      let bank (x : State) : Bank := Tab.get {} (x.mc m).banks (bankKey (s.placeOf pa))
      s.winOwner m win = some f.cls.val → bits pa 6 6 = sub.val → v.timing = [] →
      (∀ at_, v.reads = [⟨f, at_, false, false⟩] → v.journal = [] →
        let e := max from_ at_
        (v.banks = [] → e + s.mc2 m R.MC_TIM0_RCD ≤ start + last → Gives (.mcCommandIssue m sub win) s fun t =>
          (bank t).row = some (s.placeOf pa).row ∧ (bank t).act = e ∧ (bank t).win = occ ∧ (bank t).cls = f.cls.val ∧ (t.mc m).reads.length = 1 ∧
          (t.mc m).flight = v.flight ∧ t.out = s.out) ∧
        (v.banks = [] → start + last < e + s.mc2 m R.MC_TIM0_RCD → Gives (.mcCommandIssue m sub win) s fun t => t = s) ∧
        ((bank s).row = some (s.placeOf pa).row → (bank s).win = occ → max e ((bank s).act + s.mc2 m R.MC_TIM0_RCD) ≤ start + last →
          Gives (.mcCommandIssue m sub win) s fun t => (t.mc m).reads = [] ∧ (bank t).row = (bank s).row ∧ t.mem = s.mem ∧
            (t.mc m).flight = v.flight ++ [⟨⟨f, at_, false, false⟩, max e ((bank s).act + s.mc2 m R.MC_TIM0_RCD) + s.mc2 m R.MC_TIM0_CL + 4 + 6 + 3 +
              (if f.key = 0 then 0 else 8)⟩])) ∧
      (v.reads = [] → v.journal = [⟨f, none, false⟩] → v.inject = none → (bank s).row = some (s.placeOf pa).row → (bank s).win = occ →
        max from_ ((bank s).act + s.mc2 m R.MC_TIM0_RCD) ≤ start + last → Gives (.mcCommandIssue m sub win) s fun t =>
          t.memLine (copyAddr pa (s.mcCopy m)) = f.data ∧ (∀ a, a / 64 ≠ copyAddr pa (s.mcCopy m) / 64 → t.memByte a = s.memByte a) ∧
          t.lineAttr pa (s.mcCopy m) = ⟨s.keyOf f.key.val, [], f.poison⟩ ∧
          ∃ e, (t.mc m).journal = [e] ∧ e.f = f ∧ e.issued = some (max from_ ((bank s).act + s.mc2 m R.MC_TIM0_RCD))))) ∧
  (∀ (s : State) (m : McId) (x : McFlight) (tag : Fin 2048), (s.mc m).flight = [x] → x.r.f.tag = tag → x.r.f.plane = .req →
    let f := x.r.f
    let pa := f.addr.toNat
    let p := s.placeOf pa
    let k := 2 * p.sub + p.rank
    let a := s.lineAttr pa (s.mcCopy m)
    let stored := crossKey a.key (s.keyOf f.key.val) pa (s.memLine (copyAddr pa (s.mcCopy m)))
    let fixes := s.correctable m p a.errs
    let answers (t : State) (P : Flit → Prop) : Prop := (t.mc m).flight = [] ∧ t.mem = s.mem ∧ SendsOne s t (s.outOfMcAt m x.out) fun g => AnswerTo f OP_DATA g ∧ P g
    let code (t : State) : Nat := bits (t.reg (mcPg m 0 + 0x40)) 31 16
    let counted (dev : Nat) : Bool := decide (s.fld (mcPg m 0) R.MC_ECC_THRESH ≤ s.corrections m k dev + 1)
    (fixes = true → a.poison = false → Gives (.mcReadData m tag) s fun t => answers t fun g => g.data = stored ∧ g.poison = false) ∧
    (fixes = true → a.poison = true → Gives (.mcReadData m tag) s fun t => answers t (fun g => g.poison = true) ∧ code t = 0x1011) ∧
    (fixes = true → a.poison = false → a.errs ≠ [] → s.mirrored = false → (s.flag (mcPg m 0) R.MC_ECC_AUTO = false ∨ ∀ dev, counted dev = false) →
      Gives (.mcReadData m tag) s fun t => answers t (fun g => g.data = stored ∧ g.poison = false) ∧
        code t = (if s.flag (mcPg m 0) (R.MC_ECC_VALID k) then 0x1002 else 0x1001)) ∧
    (∀ dev, fixes = true → a.poison = false → a.errs ≠ [] → (∀ e ∈ a.errs, symbolDevice e = dev) → dev < 10 → k < 4 → s.mirrored = false →
      s.flag (mcPg m 0) R.MC_ECC_AUTO = true → s.flag (mcPg m 0) (R.MC_ECC_VALID k) = false → s.mc2 m R.MC_CFG_WIDTH = 0 → counted dev = true →
      Gives (.mcReadData m tag) s fun t => answers t (fun g => g.data = stored ∧ g.poison = false) ∧ t.flag (mcPg m 0) (R.MC_ECC_VALID k) = true ∧
        t.fld (mcPg m 0) (R.MC_ECC_DEV k) = dev ∧ code t = 0x1003 ∧ (∃ u, (u, mcSource m 1) ∈ t.wires) ∧ 1 ≤ t.fld (rasPg 0) R.RAS_HEALTH_STATE) ∧
    (fixes = false → x.r.again = true → Gives (.mcReadData m tag) s fun t => answers t (fun g => g.poison = true) ∧ code t = 0x1011) ∧
    (fixes = false → x.r.again = false → s.mirrored = true → m.val % 2 = 0 → s.mcReads (m + 1) = true → Gives (.mcReadData m tag) s fun t =>
      (t.mc m).flight = [] ∧ t.mem = s.mem ∧ SendsOne s t (s.outOfMcAt m x.out) fun g => AnswerTo f OP_ERROR g ∧ g.detail = 1) ∧
    (fixes = false → x.r.again = false → s.mirrored = false → Gives (.mcReadData m tag) s fun t =>
      t.out = s.out ∧ t.mem = s.mem ∧ t.flag (mcPg m 0) R.PG_STATUS_FROZEN = true ∧ (t.mc m).reads = [] ∧
      (t.mc m).held = oldestFirst ((s.mc m).held ++ [{ x.r with again := true }] ++ (s.mc m).reads) ∧
      t.fld (mcPg m 1) R.MC_FF_STATUS_CAUSE = 1 ∧ bits (t.reg (mcPg m 1 + 0x110)) 51 6 = lineOf pa ∧ code t = 0x1010 ∧ ∃ u, (u, mcSource m 0) ∈ t.wires)) ∧
  (∀ (s : State) (m : McId) (e : JournalEntry) (d : Nat), (s.mc m).journal = [e] → e.issued = some d → s.flag (mcPg m 0) R.PG_STATUS_FROZEN = false →
    let queue := (Tab.get [] s.mesh.ingress (8 * mcStop m + 1)).filter (fun f => f.plane == .req && f.cls == e.f.cls)
    let released (t : State) : Prop := t.now = max s.now (s.dclkMclk m (d + 128)) ∧ t.mem = s.mem
    (queue = [] → Gives (.writeJournalRelease m) s fun t => (t.mc m).journal = [] ∧ released t ∧ t.out = s.out) ∧
    (∀ f, queue = [f] → f.op = OP_WRLINE → f.dst.val = mcStop m → f.dport = 1 → s.mcRetired m = false → s.mirrored = false →
      s.mcServesAddr m f.addr.toNat = true → (s.secureClass f.cls.val = true ∨ s.carved m f.addr.toNat = false) →
      (IsVictim f ∨ s.bgAllowed m f.cls.val f.addr.toNat = true) → Gives (.writeJournalRelease m) s fun t =>
        (t.mc m).journal = [⟨f, none, false⟩] ∧ released t ∧ ∃ g, t.out = s.out ++ [g] ∧ g.flit = replyTo f .rsp OP_ACK))

/-- R224, R226, R230, R231, R233, R234, R248: START and its checks, frame 0, frames and maintenance windows, self-refresh, PHY delays, and the training registers. -/
def Obligations.MemoryFramesAndTraining : Prop :=
  (∀ (s : State) (m : McId) (p : PageReq), Stores s p (mc2Page m) 0x100 → wardOrM p.who = true → p.data.getLsbD 0 = true →
    let pg := mcPg m 2
    let T (f : Field) : Nat := s.mc2 m f
    (s.flag pg R.MC_CTL_STARTED = true → Gives (.mcStart p) s fun t => Refused s t p (mc2Page m) 6 ∧ t.mcs = s.mcs) ∧
    (s.flag pg R.MC_CTL_STARTED = false → s.flag (mcPg m 0) R.PG_RESET_HOLDRST = true → Gives (.mcStart p) s fun t => Refused s t p (mc2Page m) 6 ∧
      t.fld pg R.MC_CTL_FAIL = 7 ∧ t.flag pg R.MC_CTL_STARTED = false ∧ t.mcs = s.mcs) ∧
    (s.flag pg R.MC_CTL_STARTED = false → s.flag (mcPg m 0) R.PG_RESET_HOLDRST = false →
      T R.MC_CFG_DENSITY ≠ 3 → T R.MC_CFG_STACK ≠ 3 → T R.MC_CFG_SPEED ≤ 4 → (T R.MC_CFG_WIDTH = 0 ∨ T R.MC_CFG_STACK = 0) →
      burstBits (T R.MC_CFG_WIDTH) (T R.MC_CFG_DENSITY) (T R.MC_CFG_RANKS) (T R.MC_CFG_STACK) ≤ 31 →
      let fits : Bool := decide (T R.MC_WIN_LAST + max (T R.MC_TIM0_CL + 4) (T R.MC_TIM0_CWL + 4 + T R.MC_TIM0_WR) + T R.MC_TIM0_RP ≤ T R.MC_WIN_LEN)
      (fits = false → Gives (.mcStart p) s fun t => Refused s t p (mc2Page m) 6 ∧ t.fld pg R.MC_CTL_FAIL = 3 ∧ t.flag pg R.MC_CTL_STARTED = false) ∧
      (fits = true → T R.MC_REF_PERWIN * T R.MC_REF_TRFC + 64 ≤ T R.MC_WIN_MLEN →
        2 * (if T R.MC_REF_MODE = 0 then 1 else 4) * (8 * T R.MC_WIN_LEN + T R.MC_WIN_MLEN) ≤ T R.MC_REF_PERWIN * T R.MC_REF_TREFI → s.frameLen m ≤ 65535 →
        Gives (.mcStart p) s fun t => Answered s t p 0 ∧ t.fld pg R.MC_CTL_FAIL = 0 ∧ t.flag pg R.MC_CTL_STARTED = true ∧ (t.mc m).selfRefresh = false ∧
          (∃ e, (t.mc m).startEdge = some e ∧ e % 64 = 0 ∧ s.tb + 64 ≤ e ∧ e < s.tb + 128) ∧
          ∃ w, (t.mc m).cmds.head? = some w ∧ bits w.toNat 35 32 = 9))) ∧
  (∀ (s : State) (m : McId),
    (∀ e, (s.mc m).startEdge = some e → s.now ≤ 96 * e → Gives (.mcFrame0 m) s fun t => t.now = 96 * e ∧ (t.mc m).frame0 = some (s.dclkAt m (96 * e)) ∧
      (∀ i, i = 0 ∨ i = 1 ∨ i = 3 → t.flag (mcPg m i) R.PG_STATUS_READY = true) ∧ (t.mc m).shares = s.writtenShares m) ∧
    (∀ f, (s.mc m).frame0 = some f → s.flag (mcPg m 0) R.PG_STATUS_FROZEN = false → Gives (.mcFrameStart m) s fun t =>
      t.mc m = { s.mc m with shares := s.writtenShares m } ∧ t.regs = s.regs ∧ t.now = max s.now (s.dclkMclk m (nextStart f (s.frameLen m) 0 (s.dclk m)))) ∧
    (s.flag (mcPg m 0) R.PG_STATUS_FROZEN = true → Gives (.mcFrameStart m) s fun t => t = s) ∧
    (∀ f hot, (s.mc m).frame0 = some f → s.flag (mcPg m 0) R.PG_STATUS_FROZEN = false → (s.mc m).selfRefresh = false → Gives (.maintWindow m hot) s fun t =>
      (∃ q d, q < 4 ∧ d = nextStart f (s.frameLen m) (s.maintStart m q) (s.dclk m) ∧ (∀ j, j < 4 → d ≤ nextStart f (s.frameLen m) (s.maintStart m j) (s.dclk m)) ∧
        t.now = max (max s.now (s.dclkMclk m d)) (s.dclkMclk m (d + s.mc2 m R.MC_WIN_MLEN - 64))) ∧
      (∀ l, (s.mc m).rewrite = [l] → (s.mc m).journal = [] → (t.mc m).rewrite = [] ∧
        t.lineAttr (64 * l) (s.mcCopy m) = { s.lineAttr (64 * l) (s.mcCopy m) with errs := [] }) ∧
      (∀ sub, sub < 2 → (s.mc m).mrrRank < 2 → ∃ w ∈ (t.mc m).cmds, bits w.toNat 35 32 = 8 ∧ bits w.toNat 39 39 = sub ∧ bits w.toNat 38 38 = (s.mc m).mrrRank) ∧
      ((s.mc m).mpcWaits = true → (t.mc m).mpcWaits = false ∧ t.flag (mcPg m 2) R.MC_MPC_BUSY = false) ∧
      (s.tb < (s.mc m).zqAt + 3200000 ∨ (t.mc m).zqAt = t.tb) ∧
      (1 ≤ s.mc2 m R.MC_REF_PERWIN → s.mc2 m R.MC_REF_MODE = 0 → ∀ e ∈ (t.mc m).banks, e.2.row = none) ∧ (hot = true → ∃ u, (u, mcSource m 5) ∈ t.wires) ∧
      (∀ (sub : Fin 2) (o : Nat) (w : Word), (s.mc m).armed = [sub.val] → (s.mc m).shadow = [(512 * sub.val + o, w)] → 64 ≤ o → o < 512 →
        t.reg (phyPg m sub.val + 8 * o) = w.toNat ∧ (t.mc m).shadow = [] ∧ t.flag (phyPg m sub.val) R.PHY_CTL_PEND = false ∧
        t.flag (phyPg m sub.val) R.PHY_CTL_APPLY = false ∧ ∃ u, (u, mcSource m 4) ∈ t.wires)) ∧
    (∀ f, (s.mc m).frame0 = some f → s.fld (mcPg m 0) R.MC_SR_IDLE ≠ 0 → s.mcIdle m = true → (s.mc m).selfRefresh = false →
      s.flag (mcPg m 0) R.PG_STATUS_FROZEN = false → Gives (.selfRefreshEntry m) s fun t => (t.mc m).selfRefresh = true ∧ t.flag (mcPg m 0) R.MC_SR_IN_SR = true ∧
        (t.mc m).banks = [] ∧ t.mem = s.mem ∧ (∀ sub, sub < 2 → ∃ w ∈ (t.mc m).cmds, bits w.toNat 35 32 = 10 ∧ bits w.toNat 39 39 = sub) ∧
        t.now = max s.now (s.dclkMclk m (s.nextMaint m f (max (s.dclk m) ((s.mc m).lastReq + s.fld (mcPg m 0) R.MC_SR_IDLE * 1024))))) ∧
    (s.fld (mcPg m 0) R.MC_SR_IDLE = 0 → Gives (.selfRefreshEntry m) s fun t => t = s) ∧
    (∀ lanes, s.flag (mcPg m 2) R.MC_PAT_CTL_BUSY = true → Gives (.mcPatDone m lanes) s fun t => t.flag (mcPg m 2) R.MC_PAT_CTL_BUSY = false ∧
      t.flag (mcPg m 2) R.MC_PAT_RESULT_DONE = true ∧ t.fld (mcPg m 2) R.MC_PAT_RESULT_LANEERR = (if s.mc2 m R.MC_PAT_CTL_OP = 0 then 0 else lanes.toNat))) ∧
  (∀ (s : State) (m : McId) (sub : Fin 2) (p : PageReq), Stores s p (phyPage m sub) 0x100 → p.data.getLsbD 0 = true → Gives (.phyApply p) s fun t =>
    Answered s t p 0 ∧ sub.val ∈ (t.mc m).armed ∧ t.flag (phyPg m sub) R.PHY_CTL_APPLY = true ∧ (t.mc m).shadow = (s.mc m).shadow) ∧
  (∀ (s : State) (m : McId) (p : PageReq),
    let pg := mcPg m 2
    let v := p.data.toNat
    let key (d : Nat) : Nat := modeKey (bits v 59 59) (bits v 58 58) (bits v 57 56) d (bits v 47 40)
    let byte (t : State) (d : Nat) : Nat := bits (t.reg (pg + 0x220 + 8 * (d / 8))) (8 * (d % 8) + 7) (8 * (d % 8))
    (Stores s p (mc2Page m) 0x200 → s.flag pg R.MC_CTL_STARTED = false → s.flag pg R.MC_PAT_CTL_BUSY = false → bitN v 63 = true → Gives (.mcPatRun p) s fun t =>
      Answered s t p 0 ∧ t.flag pg R.MC_PAT_CTL_BUSY = true ∧ t.reg (pg + 0x210) = 0 ∧
      (bits v 61 60 ≠ 1 → bits v 59 58 = 3 → s.reg (pg + 0x208) = 0 → ∀ i, i ≤ bits v 47 32 →
        t.memLine (copyAddr (s.paOf m (s.burstAt m (bits v 30 0 + i) (bits v 56 56) (bits v 55 54) <<< 7 + bits v 57 57 <<< 6)) (s.mcCopy m)) = 0)) ∧
    (Stores s p (mc2Page m) 0x218 → s.flag pg R.MC_MPC_BUSY = false → bitN v 63 = true →
      (s.flag pg R.MC_CTL_STARTED = false →
        (bits v 61 60 = 0 → Gives (.mrw p) s fun t => Answered s t p 0 ∧ t.flag pg R.MC_MPC_BUSY = false ∧
          ∀ d, d < 10 → (bitN v 55 = false ∨ d = bits v 54 51) → Tab.at? (t.mc m).modeRegs (key d) = some (bits v 39 32)) ∧
        (bits v 61 60 = 1 → Gives (.mrr p) s fun t => Answered s t p 0 ∧ (t.mc m).modeRegs = (s.mc m).modeRegs ∧
          ∀ d w, d < 10 → Tab.at? (s.mc m).modeRegs (key d) = some w → w < 256 → byte t d = w) ∧
        (bits v 61 60 = 2 → Gives (.mpc p) s fun t => Answered s t p 0 ∧ t.flag pg R.MC_MPC_BUSY = false ∧ (t.mc m).modeRegs = (s.mc m).modeRegs ∧
          ∃ w, (t.mc m).cmds.head? = some w ∧ bits w.toNat 35 32 = 9 ∧ bits w.toNat 15 8 = bits v 47 40)) ∧
      (s.flag pg R.MC_CTL_STARTED = true → bits v 61 60 = 0 → Gives (.mrw p) s fun t => Answered s t p 0 ∧ t.flag pg R.MC_MPC_BUSY = true ∧
        (t.mc m).mpcWaits = true ∧ (t.mc m).modeRegs = (s.mc m).modeRegs)))

/-- R236, R240, R242, R243, R246, R249: injections and marked devices, the freeze on a CA parity error, self-refresh in it, its three releases and its timeout, and the end
of a mirror copy. -/
def Obligations.MemoryFreezes : Prop :=
  (∀ (s : State) (m : McId) (p : PageReq),
    let pg := mcPg m 0
    let ff := mcPg m 1
    let v := p.data.toNat
    (Stores s p (mc0Page m) 0x158 → wardOrM p.who = true → bitN v 63 = true →
      let armed (k : Nat) (t : State) : Prop := Answered s t p 0 ∧ (t.mc m).inject = some ⟨k, bits v 51 6⟩ ∧ t.mem = s.mem
      (bits v 62 60 = 1 → Gives (.injectSymbol p) s (armed 1)) ∧ (bits v 62 60 = 2 → Gives (.injectDevice p) s (armed 2)) ∧
      (bits v 62 60 = 3 → Gives (.injectUncorrectable p) s (armed 3)) ∧
      (bits v 62 60 = 4 → Gives (.injectCaParity p) s fun t => Answered s t p 0 ∧ (t.mc m).caNext = true ∧ (t.mc m).inject = (s.mc m).inject)) ∧
    (Stores s p (mc0Page m) 0x140 → wardOrM p.who = true →
      ((∃ k, k < 4 ∧ 9 < bits v (5 * k + 3) (5 * k)) → Gives (.mcEccWrite p) s fun t => Refused s t p (mc0Page m) 6 ∧ t.reg (pg + 0x140) = s.reg (pg + 0x140)) ∧
      (s.mc2 m R.MC_CFG_WIDTH = 1 → (∃ k, k < 4 ∧ bitN v (5 * k + 4) = true) → Gives (.mcEccWrite p) s fun t => Refused s t p (mc0Page m) 6 ∧
        t.reg (pg + 0x140) = s.reg (pg + 0x140)) ∧
      (s.mc2 m R.MC_CFG_WIDTH = 0 → (∀ k, k < 4 → bits v (5 * k + 3) (5 * k) ≤ 9) → Gives (.mcEccWrite p) s fun t => Answered s t p 0 ∧
        t.fld pg R.MC_ECC_AUTO = bits v 63 63 ∧ t.fld pg R.MC_ECC_THRESH = bits v 55 48 ∧
        (bitN v 63 = false ∨ (s.mc m).devCorr = [] → ∀ k, k < 4 → t.fld pg (R.MC_ECC_VALID k) = bits v (5 * k + 4) (5 * k + 4) ∧
          t.fld pg (R.MC_ECC_DEV k) = bits v (5 * k + 3) (5 * k)) ∧
        (∀ k dev n, k < 4 → dev < 10 → (s.mc m).devCorr = [(16 * k + dev, n)] → bitN v 63 = true → bits v 55 48 ≤ n → 0 < n →
          (s.flag pg R.MC_ECC_AUTO = false ∨ n < s.fld pg R.MC_ECC_THRESH) → bitN v (5 * k + 4) = false →
          t.flag pg (R.MC_ECC_VALID k) = true ∧ t.fld pg (R.MC_ECC_DEV k) = dev) ∧
        ((∃ k, k < 4 ∧ bitN v (5 * k + 4) = true) → 1 ≤ t.fld (rasPg 0) R.RAS_HEALTH_STATE))) ∧
    (Stores s p (mc0Page m) 0x150 →
      (s.flag pg R.PG_STATUS_FROZEN = false → v % 4 = 1 → Gives (.freezeRetry p) s fun t => Refused s t p (mc0Page m) 6 ∧ t.mcs = s.mcs) ∧
      (s.flag pg R.PG_STATUS_FROZEN = true → s.mirrored = true → v % 4 = 1 → (s.mc (if m.val % 2 = 0 then m.val + 1 else m.val - 1)).resync ≠ [] → Gives (.freezeRetry p) s fun t =>
        t.flag pg R.PG_STATUS_FROZEN = false ∧ t.flag pg R.MC_MIRROR_RESYNC = true) ∧
      (s.flag pg R.PG_STATUS_FROZEN = true → (Tab.get [] s.mesh.ingress (8 * mcStop m + 1)).filter (fun f => f.plane == .req) = [] →
        (v % 4 = 1 → s.mirrored = false → Gives (.freezeRetry p) s fun t => t.flag pg R.PG_STATUS_FROZEN = false ∧ t.fld ff R.MC_FF_STATUS_LAST = 1 ∧
          (t.mc m).held = [] ∧ (t.mc m).reads = (s.mc m).held.map (fun r => { r with seen := false }) ++ (s.mc m).reads ∧ (t.mc m).stopped = none ∧
          (∃ e, (t.mc m).frame0 = some (s.dclkAt m (6144 * e)) ∧ t.now ≤ 6144 * e ∧ 6144 * e < t.now + 6144) ∧
          ∀ j, (s.mc m).journal = [j] → t.memLine j.f.addr.toNat = j.f.data ∧
            (∀ kind, kind = 0 ∨ kind = 2 ∨ kind = 3 → ∃ w ∈ (t.mc m).cmds, bits w.toNat 35 32 = kind)) ∧
        (v % 4 = 2 → (s.mc m).journal = [] → Gives (.freezePoison p) s fun t => t.flag pg R.PG_STATUS_FROZEN = false ∧ t.fld ff R.MC_FF_STATUS_LAST = 2 ∧
          t.fld ff R.MC_FF_STATUS_TIMEDOUT = 0 ∧ (t.mc m).held = [] ∧ (t.mc m).reads = (s.mc m).reads ∧ t.mem = s.mem ∧
          t.out.map (fun x => x.flit) = s.out.map (fun x => x.flit) ++ (s.mc m).held.map (fun r => mcData r.f 0 true)) ∧
        (v % 4 = 3 → Gives (.freezeRetire p) s fun t => t.flag pg R.PG_STATUS_FROZEN = false ∧ t.flag pg R.PG_STATUS_RETIRED = true ∧
          t.fld ff R.MC_FF_STATUS_DROPPED = (s.mc m).journal.length % 2 ^ 32 ∧ (t.mc m).journal = [] ∧ t.mem = s.mem ∧
          bits (t.reg (pg + 0x40)) 31 16 = 0x2003 ∧ t.isRetired R.RAS_MC_RET m = true ∧ (∀ sub, sub < 2 → t.flag (phyPg m sub) R.PG_STATUS_READY = false) ∧
          t.out.map (fun x => x.flit) = s.out.map (fun x => x.flit) ++ ((s.mc m).held ++ (s.mc m).reads).map (fun r => mcData r.f 0 true))))) ∧
  (∀ (s : State) (m : McId) (sub : Fin 2), s.flag (mcPg m 0) R.PG_STATUS_FROZEN = false → (s.mc m).frame0.isSome → Gives (.alertN m sub) s fun t =>
    t.flag (mcPg m 0) R.PG_STATUS_FROZEN = true ∧ t.fld (mcPg m 1) R.MC_FF_STATUS_CAUSE = 2 ∧ t.flag (mcPg m 1) R.MC_FF_STATUS_VALID = true ∧
    t.reg (mcPg m 1 + 0x108) = s.tb % 2 ^ 64 ∧ t.reg (mcPg m 1 + 0x118) = 0 ∧ t.reg (mcPg m 1 + 0x120) = 0 ∧
    (∀ i, i < 64 → t.reg (mcPg m 1 + 0x200 + 8 * i) = ((t.mc m).cmds.getD i 0).toNat) ∧
    (t.mc m).held = oldestFirst ((s.mc m).held ++ (s.mc m).flight.map (fun x => x.r) ++ (s.mc m).reads) ∧ (t.mc m).journal = (s.mc m).journal ∧
    (t.mc m).frozenAt = some (s.dclk m, s.tb) ∧ bits (t.reg (mcPg m 0 + 0x40)) 31 16 = 0x2001 ∧ (∃ u, (u, mcSource m 0) ∈ t.wires) ∧ t.mem = s.mem ∧ t.out = s.out) ∧
  (∀ (s : State) (m : McId) (d a : Nat), (s.mc m).frozenAt = some (d, a) →
    ((s.mc m).frozenSr = false → Gives (.freezeSelfRefresh m) s fun t => (t.mc m).frozenSr = true ∧ (t.mc m).stopped = some (d + 64) ∧
      t.flag (mcPg m 0) R.MC_SR_IN_SR = true ∧ t.now = max s.now (s.dclkMclk m (d + 64)) ∧ t.mem = s.mem ∧
      ∀ kind sub, kind = 4 ∨ kind = 7 ∨ kind = 10 → sub < 2 → ∃ w ∈ (t.mc m).cmds, bits w.toNat 35 32 = kind ∧ bits w.toNat 39 39 = sub) ∧
    ((Tab.get [] s.mesh.ingress (8 * mcStop m + 1)).filter (fun f => f.plane == .req) = [] → (s.mc m).held = [] → Gives (.freezeTimeout m) s fun t =>
      96 * (a + s.fld (mcPg m 0) R.MC_FREEZE_TIMEOUT) ≤ t.now ∧ t.flag (mcPg m 0) R.PG_STATUS_FROZEN = false ∧
      t.fld (mcPg m 1) R.MC_FF_STATUS_LAST = 2 ∧ t.fld (mcPg m 1) R.MC_FF_STATUS_TIMEDOUT = 1 ∧ bits (t.reg (mcPg m 0 + 0x40)) 31 16 = 0x2002)) ∧
  (∀ (s : State) (m : McId),
    let partner := if m.val % 2 = 0 then m.val + 1 else m.val - 1
    let mine (l : Nat) : Nat := copyAddr (64 * l) (m % 2)
    let theirs (l : Nat) : Nat := copyAddr (64 * l) (partner % 2)
    let asPartner (t : State) (l : Nat) : Prop := t.memLine (mine l) = s.memLine (theirs l) ∧ t.lineAttr (64 * l) (m % 2) = s.lineAttr (64 * l) (partner % 2)
    s.flag (mcPg m 0) R.MC_MIRROR_RESYNC = true → (∀ l ∈ (s.mc partner).resync, l < 2 ^ 46) → Gives (.mirrorResyncDone m) s fun t =>
      t.flag (mcPg m 0) R.MC_MIRROR_RESYNC = false ∧ (t.mc partner).resync = [] ∧ t.fld (mcPg partner 0) R.MC_MIRROR_LIST = 0 ∧
      t.flag (mcPg partner 0) R.MC_MIRROR_OVERFLOW = false ∧ t.flag (mcPg m 0) R.PG_STATUS_DEGRADED = false ∧
      (s.flag (mcPg partner 0) R.MC_MIRROR_OVERFLOW = false → (∀ l ∈ (s.mc partner).resync, asPartner t l) ∧
        ∀ a, (∀ l ∈ (s.mc partner).resync, a / 64 ≠ mine l / 64) → t.memByte a = s.memByte a) ∧
      (s.flag (mcPg partner 0) R.MC_MIRROR_OVERFLOW = true → ∀ l x r, l < 2 ^ 46 → s.channelOf (64 * l) = some (m.val / 2 * 2, x, r) → asPartner t l))


-- fabric ports

/-- R32, R68, R69, R70, R77, R393, R395, R396, R399, R400, R401, R409: what a device's requests become: matched, admitted, translated and served line by line in the tenant's class, or
declined; D2H requests, translation and page requests, invalidations, and the completions of the part's own requests. The tags of the lines are the model's choice. -/
def Obligations.DevicesReachThePart : Prop :=
  (∀ (s : State) (i : Inbound),
    let p := i.port
    let l := i.link
    let va := i.addr.toNat
    let tenant (n : Nat) : Nat := s.fnFld p l n R.FP_FN_TENANT
    let pieces (pa : Nat) : List (Nat × Nat) := writePieces i.write (linePieces pa 65 0 i.len)
    let enters (n pa : Nat) (t : State) : Prop := t.mem = s.mem ∧ (t.port p).tx = (s.port p).tx ∧
      t.out.map (fun m => (m.flit.addr.toNat, m.flit.count.val)) =
        s.out.map (fun m => (m.flit.addr.toNat, m.flit.count.val)) ++ (pieces pa).map (fun x => (pa + x.1, x.2)) ∧
      (t.link p l).inbound.map (fun w => (w.req, w.pos, w.got)) =
        (s.link p l).inbound.map (fun w => (w.req, w.pos, w.got)) ++ (pieces pa).map (fun x => (i, x.1, none)) ∧
      (t.link p l).inbound.map (fun w => w.tag) = (s.link p l).inbound.map (fun w => w.tag) ++ (t.out.drop s.out.length).map (fun m => m.flit.tag.val) ∧
      ∀ m ∈ t.out.drop s.out.length, m.at_ = s.stopIn p l ∧ m.flit.plane = .req ∧ m.flit.src.val = fpStop p ∧
        m.flit.dst.val = tileStop (s.homeOf m.flit.addr.toNat) % 120 ∧ m.flit.cls = s.fnClass p l n ∧ m.flit.tenant.val = tenant n % 4096 ∧ m.flit.key = s.tenantKey (tenant n) ∧
        (i.write = false → m.flit.op = OP_RD) ∧ (i.write = true → m.flit.poison = i.poison ∧ m.flit.op = (if m.flit.count.val = 64 then OP_WRLINE else OP_WRPART))
    let inMemory (pa : Nat) : Prop := ∀ x ∈ pieces pa, pa + x.1 < 2 ^ 52 ∧ (region (pa + x.1) = .dram ∨ region (pa + x.1) = .fabricMem)
    let reaches (n pa : Nat) : Prop :=
      (s.cachedXlat 64 n (s.link p l).tlb (s.fnCtx p l n) (s.link p l).walk va i.write).1 = .pa pa ∧ s.ctxAwaited p l n = false
    (s.lnkState p l = LNK_HOLD → Gives (.inboundRequest i) s fun t => Declines s t i 1 ∧ (i.poison = true → PortLogs t p 0x8010)) ∧
    ((s.link p l).waits = [] →
      (s.lnkState p l = LNK_UP → s.fnMatch i = none → Gives (.inboundRequest i) s fun t => Declines s t i 1 ∧ PortLogs t p 0x8040) ∧
      (∀ n, s.lnkState p l = LNK_UP → s.fnMatch i = some n → s.tenantOk (tenant n) = false → Gives (.inboundRequest i) s fun t => Declines s t i 1) ∧
      (∀ n, s.lnkState p l = LNK_UP → s.fnMatch i = some n → s.tenantOk (tenant n) = true → s.secureClass (tctClass (s.tctEntry (tenant n))) ≠ s.linkSecure p l →
        Gives (.inboundRequest i) s fun t => Declines s t i 1 ∧ (t.reg (portPg p + 0x10)).testBit 3 = true) ∧
      (∀ n, Matches s i n → 1 ≤ i.len → va / 4096 = (va + i.len - 1) / 4096 →
        (i.translated = true → s.fnFld p l n R.FP_FN_ATS = 0 → Gives (.inboundRequest i) s fun t => Declines s t i 1) ∧
        (i.translated = true → s.fnFld p l n R.FP_FN_ATS = 1 → (region va = .dram ∨ region va = .fabricMem) → inMemory va → Gives (.inboundRequest i) s (enters n va)) ∧
        (∀ pa, i.translated = false → region va ≠ .doorbell → reaches n pa → (region pa = .dram ∨ region pa = .fabricMem) → inMemory pa →
          Gives (.inboundRequest i) s (enters n pa)) ∧
        (i.translated = false → region va = .doorbell →
          (i.write = false → Gives (.inboundRequest i) s fun t => Declines s t i 1) ∧
          (i.write = true → va % 8 + i.len ≤ 8 → Gives (.inboundRequest i) s fun t => SendsOne s t (s.stopIn p l) fun g => g.op = OP_DOORBELL ∧ g.addr.toNat = va ∧
            g.dst.val = (ioDest va).1 % 120 ∧ g.cls = s.fnClass p l n ∧ g.count.val = i.len)) ∧
        (i.translated = false → region va ≠ .doorbell → s.ctxAwaited p l n = true → Gives (.inboundRequest i) s fun t =>
          (t.link p l).waits = [(i, false)] ∧ t.out = s.out ∧ (t.port p).tx = (s.port p).tx) ∧
        (∀ line, i.translated = false → region va ≠ .doorbell → s.ctxAwaited p l n = false → (s.link p l).reads = [] →
          (s.cachedXlat 64 n (s.link p l).tlb (s.fnCtx p l n) (s.link p l).walk va i.write).1 = .ask line → Gives (.inboundRequest i) s fun t =>
          (t.link p l).waits = [(i, false)] ∧ (t.port p).tx = (s.port p).tx ∧ ∃ tag, (t.link p l).reads = [(tag, .walk line)] ∧
          SendsOne s t s.now fun g => g = s.tableRead (fpStop p) 1 tag (Fin.ofNat 4096 (tenant n)) (s.fnClass p l n) (s.tenantKey (tenant n)) (64 * line)) ∧
        (i.translated = false → region va ≠ .doorbell → s.ctxAwaited p l n = false →
          (s.cachedXlat 64 n (s.link p l).tlb (s.fnCtx p l n) (s.link p l).walk va i.write).1 = .fail →
          (bitN (ctxWord (s.fnCtx p l n) 2) 63 = false → Gives (.inboundRequest i) s fun t => Declines s t i 1 ∧ PortLogs t p 0x8041) ∧
          (bitN (ctxWord (s.fnCtx p l n) 2) 63 = true → Gives (.inboundRequest i) s fun t => PortLogs t p 0x8041 ∧
            (t.port p).tx = (s.port p).tx ++ [⟨l, .completion, i.rid.toNat, i.tag, 1, i.addr.toNat, 0⟩] ∧
            SendsOne s t s.now fun g => g.op = OP_DOORBELL ∧ g.dst.val = irtStop % 120 ∧ g.cls = s.fnClass p l n)))) ∧
    (s.lnkState p l = LNK_UP → (∃ x, (s.link p l).partner = some x ∧ x.cxl = true) →
      (∀ op, op = .wrCur ∨ op = .itoMWr ∨ op = .woWrInv ∨ op = .woWrInvF → Gives (.d2hRequest i op) s fun t => exec (.inboundRequest { i with write := true }) s = .next t) ∧
      Gives (.d2hRequest i .rdCurr) s (fun t => exec (.inboundRequest { i with write := false }) s = .next t) ∧
      Gives (.d2hRequest i .other) s fun t => Declines s t i 2 ∧ PortLogs t p 0x8042) ∧
    (∀ n, Matches s i n → (s.link p l).waits = [] →
      let reach (w : Bool) : Reached := (s.ctxTranslate (s.fnCtx p l n) (s.link p l).walk va w).reached
      (s.fnFld p l n R.FP_FN_ATS = 0 → Gives (.atsTranslationRequest i) s fun t => Declines s t i 1) ∧
      (s.fnFld p l n R.FP_FN_ATS = 1 → s.ctxAwaited p l n = true → Gives (.atsTranslationRequest i) s fun t =>
        (t.link p l).waits = [(i, true)] ∧ t.out = s.out ∧ (t.port p).tx = (s.port p).tx) ∧
      (∀ pa, s.fnFld p l n R.FP_FN_ATS = 1 → s.ctxAwaited p l n = false →
        let granted (t : State) (g : Nat) : Prop := ∃ m, HandsOut s t p m ∧ m.link = l ∧ m.kind = .atsTranslation ∧ m.tag = i.tag ∧ lineWord m.data 0 = w64 g ∧
          (g ≠ 0 → m.addr = pa / 4096 * 4096)
        (reach false = .pa pa → reach true = .fail → Gives (.atsTranslationRequest i) s fun t => granted t 1) ∧
        (reach false = .pa pa → reach true = .pa pa → Gives (.atsTranslationRequest i) s fun t => granted t 3) ∧
        (reach false = .fail → reach true = .fail → Gives (.atsTranslationRequest i) s fun t => granted t 0))) ∧
    (∀ n (group : BitVec 9) (last read : Bool), Matches s i n →
      let prq (f : Field) : Nat := s.fld (portPg p) f
      let used := (prq R.FP_PRQ_TAIL_INDEX + 2 ^ 32 - prq R.FP_PRQ_HEAD_INDEX) % 2 ^ 32
      (s.fnFld p l n R.FP_FN_PRI = 1 → prq R.FP_PRQ_EN = 1 → used ≠ 2 ^ prq R.FP_PRQ_LOG → Gives (.pageRequest i group last read) s fun t =>
        t.fld (portPg p) R.FP_PRQ_TAIL_INDEX = (prq R.FP_PRQ_TAIL_INDEX + 1) % 2 ^ 32 ∧ (∃ u, (u, 1664 + 8 * p.val + 3) ∈ t.wires) ∧
        SendsOne s t (s.stopIn p l) fun g => g.op = OP_WRPART ∧ g.key = 0 ∧ g.count = 16 ∧ g.cls = s.fnClass p l n ∧
          g.addr = BitVec.ofNat 52 (prq R.FP_PRQ_BASE <<< 12 + 16 * (prq R.FP_PRQ_TAIL_INDEX % 2 ^ prq R.FP_PRQ_LOG))) ∧
      (last = true → (s.fnFld p l n R.FP_FN_PRI ≠ 1 ∨ prq R.FP_PRQ_EN = 0) → Gives (.pageRequest i group last read) s fun t =>
        HandsOut s t p ⟨l, .prgResponse, i.rid.toNat, group.toNat, 15, 0, 0⟩) ∧
      (s.fnFld p l n R.FP_FN_PRI = 1 → prq R.FP_PRQ_EN = 1 → used = 2 ^ prq R.FP_PRQ_LOG → last = true → Gives (.pageRequest i group last read) s fun t =>
        t.fld (portPg p) R.FP_PRQ_FULL = 1 ∧ HandsOut s t p ⟨l, .prgResponse, i.rid.toNat, group.toNat, 15, 0, 0⟩))) ∧
  (∀ (s : State) (p : PortId) (q : PageReq),
    let pg := portPg p
    let v := q.data.toNat
    (Stores s q (portPage p) 0x138 → wardOrM q.who = true → Gives (.fpPrgresp q) s fun t =>
      Answered s t q 0 ∧ HandsOut s t p ⟨Fin.ofNat 4 (bits v 50 49), .prgResponse, bits v 15 0, bits v 59 51, bits v 63 60, 0, 0⟩) ∧
    (Stores s q (portPage p) 0x110 → wardOrM q.who = true → bitN v 63 = true → s.fld pg R.FP_ATSINV_ADDR_SIZE ≤ 40 →
      let l := bits v 59 58
      let named (n : Nat) : Prop := s.fnFld p l n R.FP_FN_VALID = 1 ∧ s.fnFld p l n R.FP_FN_ATS = 1 ∧ s.fnFld p l n R.FP_FN_RID = bits v 15 0
      (s.flag pg R.FP_ATSINV_BUSY = true → Gives (.fpAtsinv q) s fun t => Refused s t q (portPage p) 6 ∧ t.ports = s.ports) ∧
      (s.flag pg R.FP_ATSINV_BUSY = false → (∀ n, n < 256 → ¬named n) → Gives (.fpAtsinv q) s fun t => Answered s t q 0 ∧
        t.fld pg R.FP_ATSINV_RESULT = 2 ∧ t.flag pg R.FP_ATSINV_BUSY = false ∧ ∃ u, (u, 1664 + 8 * p.val + 4) ∈ t.wires) ∧
      (s.flag pg R.FP_ATSINV_BUSY = false → (∃ n, n < 256 ∧ named n ∧ s.fnFld p l n R.FP_FN_PV = 0) → Gives (.fpAtsinv q) s fun t => Answered s t q 0 ∧
        t.flag pg R.FP_ATSINV_BUSY = true ∧ (t.port p).atsAt = some s.tb ∧ ∃ m, (t.port p).tx = (s.port p).tx ++ [m] ∧ m.kind = .atsInvalidate ∧
        m.rid = bits v 15 0 ∧ m.addr = s.fld pg R.FP_ATSINV_ADDR_ADDR <<< 12)) ∧
    (s.flag pg R.FP_ATSINV_BUSY = true → Gives (.atsInvDone p) s fun t => t.flag pg R.FP_ATSINV_BUSY = false ∧ t.fld pg R.FP_ATSINV_RESULT = 0 ∧
      ∃ u, (u, 1664 + 8 * p.val + 4) ∈ t.wires) ∧
    (∀ a, (s.port p).atsAt = some a → Gives (.atsInvTimeout p) s fun t => t.now = max s.now (96 * (a + 2500000)) ∧ t.flag pg R.FP_ATSINV_BUSY = false ∧
      t.fld pg R.FP_ATSINV_RESULT = 1 ∧ PortLogs t p 0x8061 ∧ ∃ u, (u, 1664 + 8 * p.val + 4) ∈ t.wires) ∧
    (∀ e rest, Loads s q (portPage p) 0x108 → q.who.path ≠ .safelight → (s.port p).events = e :: rest → Gives (.fpEventRead q) s fun t =>
      Answered s t q (putBits e.toNat 62 62 (b01 (s.port p).lost)) ∧ (t.port p).events = rest ∧ (t.port p).lost = false)) ∧
  (∀ (s : State) (p : PortId) (l : LinkId) (o : Outbound), (s.link p l).outstanding = [o] → (∀ k : LinkId, k ≠ l → (s.link p k).outstanding = []) →
    Tab.get [] s.mesh.ingress (8 * fpStop p + 1) = [] →
    (∀ r : Flit, r.src.val = fpStop p → r.dst = o.f.src → r.dport = o.f.sport → r.tag = o.f.tag → Gives (.inboundCompletion r) s fun t =>
      (t.link p l).outstanding = [] ∧ t.out = s.out ++ [⟨s.stopIn p l, if r.op = OP_ERROR then errorReply o.f else fabReply o.f r.data r.poison⟩] ∧
      (r.poison = true → PortLogs t p 0x8010)) ∧
    (o.f.dst.val = fpStop p → Gives (.outboundCompletionTimeout o.f) s fun t => (t.link p l).outstanding = [] ∧ t.now = max s.now (o.at_ + 2400000) ∧
      PortLogs t p 0x8060 ∧ t.out = s.out ++ [⟨t.now + 7, errorReply o.f⟩]))

/-- R86, R398, R402, R404, R405, R406, R407, R408, R409: arrival of a partner, planned and surprise departure, dynamic capacity, the fabric manager's messages, and link errors. -/
def Obligations.LinksComeAndGo : Prop :=
  ∀ (s : State) (p : PortId) (l : LinkId),
    let pg := linkPg p l
    let state (t : State) : Nat := t.lnkState p l
    let room := s.linkSecure p l = false ∧ (s.port p).events.length < 32
    let win (t : State) (w : Nat) (f : Field) : Nat := t.fld (portPg p) (f.nth w)
    let cleared (t : State) : Prop := state t = LNK_DOWN ∧ (∀ n, n < 256 → t.fnFld p l n R.FP_FN_VALID = 0) ∧
      ∀ w, w ∈ s.linkWindows p l → win t w R.FP_WIN_BASE_EN = 0
    (∀ x : Partner, x.flitMode = true → x.rate ≠ 0 → x.width ≠ 0 → room → s.splitWidth p l ≠ 0 →
      s.flag pg R.PG_RESET_HOLDRST = false → s.flag (portPg p) R.PG_RESET_HOLDRST = false → (s.link p l).perst = true → state s = LNK_DOWN →
      (∀ b, b < 32 → s.fld (mbxPg b) R.WARD_MBX_STATUS_STATE ≠ 2) →
      (s.ward.running = false → Gives (.linkArrival p l x) s fun t => state t = LNK_DOWN ∧ t.flag pg R.FP_LNK_STATUS_PRESENT = true ∧ t.ports = s.ports) ∧
      (s.ward.running = true → x.ide = true → (s.link p l).ideKey = none → x.functions = [] → x.cxl = false → Gives (.linkArrival p l x) s fun t =>
        state t = LNK_TRAINING ∧ (t.link p l).waitsKey = true ∧ (t.port p).events = (s.port p).events) ∧
      (∀ r a w, s.ward.running = true → (x.ide = false ∨ (s.link p l).ideKey.isSome) → x.functions = [] → x.cxl = true → 2 ≤ x.devType.val → x.ranges = [r] → 0 < r.units →
        s.freeUnits r.units = some a → w < 16 → win s w R.FP_WIN_BASE_EN = 0 → (∀ j, j < w → win s j R.FP_WIN_BASE_EN = 1) → Gives (.linkArrival p l x) s fun t =>
          state t = LNK_UP ∧ win t w R.FP_WIN_BASE_EN = 1 ∧ win t w R.FP_WIN_BASE_LINK = l ∧ win t w R.FP_WIN_BASE_BASE = a ∧ win t w R.FP_WIN_LIMIT_LIMIT = a + r.units - 1) ∧
      (s.ward.running = true → (x.ide = false ∨ (s.link p l).ideKey.isSome) → (x.cxl = false ∨ x.devType.val < 2) → x.functions = [] → Gives (.linkArrival p l x) s fun t => state t = LNK_UP ∧ Queues s t p l EV_ARRIVED ∧
        t.fld pg R.FP_LNK_STATUS_WIDTH = min x.width.val (s.splitWidth p l) ∧ t.fld pg R.FP_LNK_STATUS_RATE = x.rate.val ∧
        ∃ u, (u, 1664 + 8 * p.val) ∈ t.wires) ∧
      (∀ rid n, s.ward.running = true → (x.ide = false ∨ (s.link p l).ideKey.isSome) → (x.cxl = false ∨ x.devType.val < 2) → x.functions = [rid] → n < 256 → s.fnFld p l n R.FP_FN_VALID = 0 → (∀ j, j < n → s.fnFld p l j R.FP_FN_VALID = 1) →
        Gives (.linkArrival p l x) s fun t => state t = LNK_UP ∧ t.fnFld p l n R.FP_FN_VALID = 1 ∧ t.fnFld p l n R.FP_FN_RID = rid.toNat ∧
          t.fnFld p l n R.FP_FN_TENANT = 0 ∧ t.fnFld p l n R.FP_FN_ATS = 0)) ∧
    (∀ x : Partner, x.flitMode = false → room → s.ward.running = true → s.splitWidth p l ≠ 0 → s.flag pg R.PG_RESET_HOLDRST = false →
      s.flag (portPg p) R.PG_RESET_HOLDRST = false → (s.link p l).perst = true → state s = LNK_DOWN → Gives (.linkArrival p l x) s fun t =>
        state t = LNK_NOFLIT ∧ Queues s t p l EV_NOFLIT) ∧
    (state s = LNK_UP → (s.link p l).depart = none → s.flag pg R.FP_LNK_CTL_DEPART = true → room → Gives (.plannedDeparture p l) s fun t =>
      state t = LNK_UP ∧ (t.link p l).depart = some { phase := 1, since := s.tb } ∧ Queues s t p l EV_DEPART_REQ) ∧
    (∀ d, (s.link p l).depart = some d →
      let held (t : State) : Prop := state t = LNK_HOLD ∧ (∀ w, w ∈ s.linkWindows p l → win t w R.FP_WIN_BASE_HOLD = 1) ∧
        (∃ e, (t.link p l).depart = some e ∧ e.phase = 2) ∧ (∀ w ws (c : Tile), s.linkWindows p l = w :: ws → s.wardMaintBusy = false →
          ∃ r, Tab.at? (t.slice c).maint 15 = some r ∧ r.op = 2 ∧ r.scope = 1 ∧ r.addr = win s w R.FP_WIN_BASE_BASE <<< 28 ∧ r.ward = true)
      (∀ q, d.phase = 1 → Stores s q (linkPage p l) 0x108 → wardOrM q.who = true → bitN q.data.toNat 0 = false → bitN q.data.toNat 1 = true →
        bits q.data.toNat 11 8 = s.fld pg R.FP_LNK_CTL_CLASS → Gives (.release q) s fun t => Answered s t q 0 ∧ held t) ∧
      (d.phase = 1 → Gives (.releaseTimeout p l) s fun t => t.now = max s.now (96 * (d.since + 250000000)) ∧ held t) ∧
      (d.phase = 2 → d.todo = [] → s.wardMaintBusy = false → (s.link p l).outstanding = [] → (s.link p l).inbound = [] → (s.link p l).waits = [] → room →
        Gives (.plannedDeparture p l) s fun t => cleared t ∧ Queues s t p l EV_DEPARTED) ∧
      (d.phase = 3 → d.todo = [] → s.wardMaintBusy = false → room → Gives (.surpriseInvDone p l) s fun t => cleared t ∧ Queues s t p l EV_DEPARTED)) ∧
    (state s = LNK_UP ∨ state s = LNK_HOLD → s.linkSecure p l = false → (s.port p).events.length < 31 →
      let gone (t : State) : Prop := state t = LNK_GONE ∧ (∀ w, w ∈ s.linkWindows p l → win t w R.FP_WIN_BASE_GONE = 1) ∧ (t.link p l).outstanding = [] ∧
        (∃ e, (t.link p l).depart = some e ∧ e.phase = 3) ∧
        t.out.map (fun x => x.flit) = s.out.map (fun x => x.flit) ++ (s.link p l).outstanding.map (fun o => fabReply o.f 0 (fabReads o.f))
      Gives (.surpriseDeparture p l false) s (fun t => gone t ∧ Queues s t p l EV_SURPRISE ∧ PortLogs t p 0x8020) ∧
      Gives (.surpriseDeparture p l true) s (fun t => gone t ∧ (t.link p l).dpc = true ∧ PortLogs t p 0x8030 ∧ ∃ u, (u, 1664 + 8 * p.val + 2) ∈ t.wires) ∧
      Gives (.ideIntegrityCheckFailed p l) s gone) ∧
    (∀ q : PageReq, region q.addr.toNat = .ecam → (ioDest q.addr.toNat).1 = fpStop p → bits q.addr.toNat 27 12 = rootRid p l → q.kind.writes = true →
      q.who.path = .ward → (s.link p l).dpc = true → (s.link p l).depart = none → Gives (.dpcClear q) s fun t => (t.link p l).dpc = false ∧
        t.flag pg R.FP_LNK_STATUS_PRESENT = true) ∧
    (∀ (w : Fin 16) (r : HdmRange), state s = LNK_UP → win s w R.FP_WIN_BASE_EN = 1 → win s w R.FP_WIN_BASE_LINK = l → 1 ≤ r.units → room →
      (s.unitsTaken (win s w R.FP_WIN_LIMIT_LIMIT + 1) (win s w R.FP_WIN_LIMIT_LIMIT + r.units) = false → win s w R.FP_WIN_LIMIT_LIMIT + r.units < 0x800000 →
        Gives (.dcdEvent p l true w r) s fun t => win t w R.FP_WIN_BASE_EN = 1 ∧ win t w R.FP_WIN_BASE_BASE = win s w R.FP_WIN_BASE_BASE ∧
          win t w R.FP_WIN_LIMIT_LIMIT = win s w R.FP_WIN_LIMIT_LIMIT + r.units ∧ Queues s t p l EV_DCD_ADD) ∧
      ((s.link p l).dcd = none → win s w R.FP_WIN_BASE_BASE + r.units ≤ win s w R.FP_WIN_LIMIT_LIMIT + 1 → Gives (.dcdEvent p l false w r) s fun t =>
        t.regs = s.regs ∧ Queues s t p l EV_DCD_RELEASE ∧ ∃ d, (t.link p l).dcd = some d ∧ d.win = w ∧ d.flushing = false ∧ d.since = s.tb) ∧
      (∀ d, (s.link p l).dcd = some d → d.win = w → d.flushing = true → s.wardMaintBusy = false → Gives (.dcdEvent p l false w r) s fun t => (t.link p l).dcd = none ∧
        (d.keep < win s w R.FP_WIN_BASE_BASE → win t w R.FP_WIN_BASE_EN = 0) ∧
        (win s w R.FP_WIN_BASE_BASE ≤ d.keep → d.keep < 2 ^ 24 → win t w R.FP_WIN_LIMIT_LIMIT = d.keep ∧ win t w R.FP_WIN_BASE_EN = 1))) ∧
    Gives (.perstRelease p l) s (fun t => (t.link p l).perst = true) ∧
    (∀ (rid : BitVec 16) (st : BitVec 32), Gives (.aerError p l false rid st) s (fun t => PortLogs t p 0x8001 ∧ ∃ u, (u, 1664 + 8 * p.val + 1) ∈ t.wires) ∧
      Gives (.aerError p l true rid st) s fun t => t.regs = s.regs ∧ ∃ u, (u, 1664 + 8 * p.val + 2) ∈ t.wires) ∧
    (∀ b : Mbx, 28 ≤ b.val → s.ward.running = true → s.fld (mbxPg b) R.WARD_MBX_STATUS_STATE = 1 → s.mbxIn b 1 = p.val →
      (s.mbxCmd b = 0x100 → s.mbxLen b = 3 → s.mbxIn b 2 = l.val → (state s = LNK_DOWN ∨ state s = LNK_NOFLIT) → Gives (.mbxAcknowledge b) s fun t =>
        t.flag pg R.FP_LNK_STATUS_PRESENT = true ∧ t.fld (mbxPg b) R.WARD_MBX_STATUS_STATE = 2) ∧
      (s.mbxCmd b = 0x101 → s.mbxLen b = 2 → s.mbxIn b 2 = l.val → state s = LNK_UP → (s.link p l).depart = none → room → Gives (.mbxAcknowledge b) s fun t =>
        (t.link p l).depart = some { phase := 1, since := s.tb } ∧ Queues s t p l EV_DEPART_REQ ∧ t.fld (mbxPg b) R.WARD_MBX_STATUS_STATE = 2) ∧
      (∀ k, s.mbxCmd b = 0x102 → s.mbxLen b = 14 → s.mbxIn b 2 = l.val → s.mbxIn b 4 < 8 → (s.otpSlot (s.mbxIn b 4)).written = true →
        (s.otpSlot (s.mbxIn b 4)).type = 2 → keyUnwrap (s.otpSlot (s.mbxIn b 4)).key 9 (s.inBytes b 5 10) = some k → (s.link p l).waitsKey = false →
        Gives (.mbxAcknowledge b) s fun t => Published s t b 0 [] ∧ (t.link p l).ideKey = some (BitVec.ofNat 576 (bytesNat k))) ∧
      (s.mbxCmd b = 0x103 → s.mbxLen b = 1 → Gives (.mbxAcknowledge b) s fun t => Published s t b 0 ((List.range 4).map (fun k => s.lnkWord p k)))) ∧
    (∀ (b : Nat) (seq : BitVec 16), 28 ≤ b → b < 32 → s.flag (mbxPg b) R.WARD_MBX_ASSIGN_EN = false →
      (s.fld (mbxPg b) R.WARD_MBX_STATUS_STATE = 0 ∨ s.fld (mbxPg b) R.WARD_MBX_STATUS_STATE = 3) →
      (∀ j, 28 ≤ j → j < b → s.fld (mbxPg j) R.WARD_MBX_STATUS_STATE = 1 ∨ s.fld (mbxPg j) R.WARD_MBX_STATUS_STATE = 2) →
      Gives (.fmUnbind p l seq) s fun t => bits (t.reg (portPg 0 + 0x40)) 31 16 = 0x8070 ∧ t.fld (mbxPg b) R.WARD_MBX_STATUS_STATE = s.fld (mbxPg b) R.WARD_MBX_STATUS_STATE) ∧
    (∀ (b : Nat) (seq : BitVec 16), 28 ≤ b → b < 32 → s.flag (mbxPg b) R.WARD_MBX_ASSIGN_EN = true → (s.fld (mbxPg b) R.WARD_MBX_STATUS_STATE = 0 ∨ s.fld (mbxPg b) R.WARD_MBX_STATUS_STATE = 3) →
      (∀ j, 28 ≤ j → j < b → s.fld (mbxPg j) R.WARD_MBX_STATUS_STATE = 1 ∨ s.fld (mbxPg j) R.WARD_MBX_STATUS_STATE = 2) →
      let asks (cmd : Nat) (args : List Nat) (t : State) : Prop := t.fld (mbxPg b) R.WARD_MBX_STATUS_STATE = 1 ∧ t.fld (mbxPg b) R.WARD_MBX_STATUS_SEQ = seq.toNat ∧
        t.mbxCmd b = cmd ∧ ∀ i a, args[i]? = some a → t.mbxIn b (i + 1) = a
      (∀ dev, dev < 2 ^ 64 → Gives (.fmBind p l dev seq) s (asks 0x100 [p, l, dev])) ∧ Gives (.fmUnbind p l seq) s (asks 0x101 [p, l]) ∧
      (∀ stream slot wrapped, stream < 2 ^ 64 → slot < 2 ^ 64 → Gives (.fmIdeKey p l stream slot wrapped seq) s
        (asks 0x102 ([p.val, l.val, stream, slot] ++ (List.range 10).map (fun j => wrapped.toNat / 2 ^ (64 * j) % 2 ^ 64)))) ∧
      Gives (.fmStatus p 0xC103 seq) s (asks 0x103 [p]) ∧
      (∀ op : BitVec 16, op ≠ 0xC001 → op ≠ 0xC103 → Gives (.fmStatus p op seq) s fun t => PortLogs t p 0x8070 ∧ t.mbxCmd b = s.mbxCmd b))

/-- R423, R424, R425, R426, R428, R429, R430: a core fault fences the core, discards the uncommitted epochs and reprints the hart on an idle core
from the Negative of the oldest of them, or parks it; how a restore, a move, the BIST of a fenced core and a switch of a shared core end. -/
def Obligations.CoreFaultsMoveHarts : Prop :=
  ∀ (s : State) (h : HartId) (k : CoreId),
    let v := s.hart h
    let fenced (j : Nat) : Prop := s.flag (corePg j) R.CORE_RUN_FENCED = true ∨ s.flag (corePg j) R.PG_STATUS_RETIRED = true
    let idle (j : Nat) : Prop := ¬fenced j ∧ s.flag (corePg j) R.PG_RESET_HOLDRST = true ∧ s.flag (corePg j) R.PG_STATUS_READY = true
    let named (t : State) : Prop := bitN (t.fld (rasPg 1) (R.RAS_PARK.nth (h / 64))) (h.val % 64) = true ∧ ∃ u, (u, 1751) ∈ t.wires
    let logged (t : State) (pg code : Nat) : Prop := bits (t.reg (pg + 0x40)) 31 16 = code ∧ (t.reg (pg + 0x10)).testBit 2 = true
    (∀ i checker, s.coreHart k = some h.val → s.hartOn h = true → s.coreOf h = k → s.flag (corePg k) R.CORE_RUN_SHARED = false →
      let faulted (t : State) : Prop := t.flag (corePg k) R.CORE_RUN_FENCED = true ∧ logged t (corePg k) 0x4020 ∧ (t.core k).l1d = [] ∧
        (t.core k).faults = (s.core k).faults + 1 ∧ t.mem = s.mem ∧ ((s.cluster (k / 4)).snoops = [] → t.now = s.now ∧ ∀ g, g ≠ h.val → t.hart g = s.hart g)
      (∀ j, j / 4 = k / 4 → j ≠ k → idle j → (∀ x, x / 4 = k / 4 → x < j → x ≠ k → ¬idle x) → Gives (.coreFault k i checker) s fun t => faulted t ∧
        t.coreOf h = j ∧ t.flag (corePg j) R.PG_RESET_HOLDRST = false ∧ (t.hart h).restore = some (s.now + 3 + 6 + 48 + s.ccyc j (3 + 64)) ∧
        (∀ e rest, (v.closed ++ v.epoch.toList).drop i = e :: rest → e.io = false → (t.hart h).a = (s.negative h e.copy).a ∧
          (t.hart h).closed = v.closed.take i ∧ (t.hart h).epoch = none)) ∧
      ((∀ j, j / 4 = k / 4 → j ≠ k → fenced j) → Gives (.coreFault k i checker) s fun t => faulted t ∧ t.coreOf h = k ∧ (t.hart h).parked = true ∧
        named t ∧ logged t (clusterPg (k / 4)) 0x4021)) ∧
    (∀ u, v.restore = some u → s.coreOf h = k → s.flag (corePg k) R.CORE_RUN_SHARED = false →
      (Gives (.reprint h true) s fun t => t.now = max s.now u ∧ t.hart h = { v with restore := none, predictor := [], predEpoch := 0, ran := t.now } ∧
        t.mem = s.mem ∧ ∃ w, (w, 1750) ∈ t.wires) ∧
      Gives (.reprint h false) s fun t => (t.hart h) = { v with restore := none, lost := true } ∧ named t ∧ logged t (clusterPg (k / 4)) 0x4041 ∧ t.mem = s.mem) ∧
    (v.parked = true → v.lost = false → s.flag (rasPg 0) R.RAS_POLICY_MIGRATE = true →
      (∀ d n j, s.moveTo h = some (d, n, j) → Gives (.hartMove h) s fun t => t.coreOf h = j ∧ (t.hart h).parked = false ∧
        (t.hart h).restore = some (s.now + 48 + s.ccyc j (3 + 64)) ∧ t.flag (negPg d) (R.CL_NEG_SLOT_VALID.nth n) = true ∧
        t.fld (negPg d) (R.CL_NEG_SLOT_HART.nth n) = h.val ∧ bits (t.reg (clusterPg d + 0x40)) 31 16 = 0x4022 ∧
        ∀ m x, s.negSlot (s.coreOf h / 4) h = some m → x < 2 →
          Tab.get {} (t.cluster d).neg (2 * n + x) = Tab.get {} (s.cluster (s.coreOf h / 4)).neg (2 * m + x)) ∧
      (s.moveTo h = none → Gives (.hartMove h) s fun t => t = s)) ∧
    (∀ u, (s.core k).fencedAt = some u →
      ((s.core k).faults < s.fld (rasPg 0) R.RAS_POLICY_CORE_RETIRE → Gives (.fencedCoreBist k true) s fun t => t.now = max s.now (u + 480000) ∧
        t.flag (corePg k) R.CORE_RUN_FENCED = false ∧ t.flag (corePg k) R.PG_RESET_HOLDRST = true ∧ t.flag (corePg k) R.PG_STATUS_LOST = true ∧
        t.flag (corePg k) R.PG_STATUS_WLOST = true ∧ (t.core k).fencedAt = none ∧ t.harts = s.harts) ∧
      ((∀ i, i < 384 → i ≠ k → i / 4 = k / 4 → s.isRetired R.RAS_CORE_RET i = false) → Gives (.fencedCoreBist k false) s fun t =>
        t.now = max s.now (u + 480000) ∧ t.flag (corePg k) R.PG_STATUS_RETIRED = true ∧ t.isRetired R.RAS_CORE_RET k = true ∧ (t.core k).cstate = 3 ∧
        logged t (corePg k) 0x4042 ∧ 1 ≤ t.fld (rasPg 0) R.RAS_HEALTH_STATE ∧ t.harts = s.harts)) ∧
    (s.flag (corePg k) R.CORE_RUN_SHARED = true → s.coreHart k = some h.val → s.coreOf h = k →
      (s.turnEnd k h (s.otherHart k) = none → Gives (.hartSwitch k) s fun t => t = s) ∧
      (∀ u, s.turnEnd k h (s.otherHart k) = some u → v.epoch = none → v.closed = [] → s.otherHart k ≠ h.val → s.negSlot (k / 4) h ≠ none → Gives (.hartSwitch k) s fun t =>
        (t.core k).second = !(s.core k).second ∧ t.now = max s.now u + (s.toMclk u).ccyc k 24 + 3 + 48 + (s.toMclk u).ccyc k (3 + 64) ∧ (t.core k).turnAt = t.now ∧
        (t.negative h v.negCopy).a = (t.hart h).a ∧ (t.negative h v.negCopy).cmp = v.cmp ∧ (t.hart h).predictor = [] ∧ (t.hart h).misses = [] ∧
        { (t.hart h).a with csr := v.a.csr } = v.a ∧ t.mem = s.mem))

/-- R413, R415, R416, R418, R428, R437, R438, R440, R443, R445, R289: the central log and its registers, requests of retirement, the Negative store as the Ward
reads and writes it, errors of the L2, and the host context and resumption of an engine. -/
def Obligations.RecoveryRegistersAct : Prop :=
  (∀ (s : State) (p : PageReq) (kind n : Nat), Stores s p ras0Page 0x128 → wardOrM p.who = true → bits p.data.toNat 63 60 = kind →
    bits p.data.toNat 15 0 = n → 1 ≤ kind → kind ≤ 5 →
    let c : Instr := match kind with
      | 1 => .rasRetireCore p
      | 2 => .rasRetireCluster p
      | 3 => .rasRetireSlice p
      | 4 => .rasRetireEngine p
      | _ => .rasMoveHart p
    let pg := rasPg 0
    let asked (t : State) (result : Nat) : Prop := Answered s t p 0 ∧ t.fld pg R.RAS_REQ_STAT_KIND = kind ∧ t.fld pg R.RAS_REQ_STAT_NUMBER = n ∧
      t.fld pg R.RAS_REQ_STAT_RESULT = result
    (s.flag pg R.RAS_REQ_STAT_BUSY = true → Gives c s fun t => Refused s t p ras0Page 6 ∧ t.fld pg R.RAS_REQ_STAT_NUMBER = s.fld pg R.RAS_REQ_STAT_NUMBER) ∧
    (s.flag pg R.RAS_REQ_STAT_BUSY = false →
      (s.rasRefused kind n = true → Gives c s fun t => asked t 1 ∧ t.harts = s.harts ∧ t.cores = s.cores ∧ t.home = s.home ∧ t.queues = s.queues) ∧
      (s.rasRefused kind n = false →
        (kind = 1 → (∀ h, h < 384 → s.coreOf h = n → (s.hart h).started = false) →
          (∀ i, i < 384 → i ≠ n → i / 4 = n / 4 → s.isRetired R.RAS_CORE_RET i = false) → Gives c s fun t => asked t 0 ∧
            t.flag (corePg n) R.PG_STATUS_RETIRED = true ∧ t.isRetired R.RAS_CORE_RET n = true ∧ (t.core n).cstate = 3 ∧
            bits (t.reg (corePg n + 0x40)) 31 16 = 0x4042) ∧
        (kind = 2 → (∀ h, h < 384 → s.coreOf h / 4 = n → (s.hart h).started = false ∧ (s.hart h).parked = false) → (s.cluster n).l2 = [] →
          Gives c s fun t => asked t 0 ∧ t.flag (clusterPg n) R.PG_STATUS_RETIRED = true ∧ t.isRetired R.RAS_CL_RET n = true ∧ (t.cluster n).kstate = 2 ∧
            bits (t.reg (clusterPg n + 0x40)) 31 16 = 0x4040 ∧ ∀ i, i < 384 → i / 4 = n → t.flag (corePg i) R.PG_STATUS_RETIRED = true) ∧
        (kind = 3 → Gives c s fun t => asked t 0 ∧ t.flag pg R.RAS_REQ_STAT_BUSY = true ∧ t.home.retire = some n ∧ t.slices = s.slices) ∧
        (kind = 4 → (s.queue n).running = none → (s.queue n).deque = [] → Gives c s fun t => asked t 0 ∧ t.isRetired R.RAS_DE_RET n = true ∧
          (t.queue n).retired = true ∧ t.flag (enginePg n) R.PG_STATUS_RETIRED = true ∧ bits (t.reg (enginePg n + 0x40)) 31 16 = 0x6030) ∧
        (kind = 5 → (s.moveTo n = none → Gives c s fun t => asked t 2 ∧ t.harts = s.harts) ∧
          ∀ d m j, s.moveTo n = some (d, m, j) → Gives c s fun t => asked t 0 ∧ t.coreOf n = j ∧ (t.hart n).parked = false)))) ∧
  (∀ (s : State) (r : Rec) (rest : List Rec), s.reports = r :: rest →
    let pg := rasPg 0
    let n := s.fld pg R.RAS_LOG_SEQ_NEXT
    n < 2 ^ 32 - 1 → Gives .logRecord s fun t => t.reports = rest ∧ t.logAt n = r ∧ t.fld pg R.RAS_LOG_SEQ_NEXT = n + 1 ∧
      (∀ i, i % 4096 ≠ n % 4096 → t.logAt i = s.logAt i) ∧ (∃ u, (u, 1744 + r.sev) ∈ t.wires) ∧
      (2 ≤ r.sev → s.fld pg R.RAS_LOG_ACK_ACK ≤ n → t.flag pg R.RAS_LOG_STAT_CONT = true) ∧
      (r.sev = 3 → 2 ≤ t.fld pg R.RAS_HEALTH_STATE ∧ (s.fld pg R.RAS_LOG_ACK_ACK ≤ n → t.flag pg R.RAS_LOG_STAT_FATAL = true)) ∧
      (r.sev ≠ 3 → t.fld pg R.RAS_HEALTH_STATE = s.fld pg R.RAS_HEALTH_STATE)) ∧
  (∀ (s : State) (n : Stop) (b : BitVec 8) (g : Page) (u m : Nat), pageAt (pageBase n b.toNat) = some g → Tab.get (0, 0) s.reported (pageBase n b.toNat / 4096) = (u, m) →
    let r := s.recAt (pageBase n b.toNat) 0x40
    (r.sev = 0 → 0 < m → m < bits r.w0.toNat 15 0 → Gives (.coalescedReport n b) s fun t => t.now = max s.now (96 * (u + 25000)) ∧ t.reports = s.reports ++ [r] ∧
      t.regs = s.regs) ∧
    (bits r.w0.toNat 15 0 ≤ m → Gives (.coalescedReport n b) s fun t => t = s)) ∧
  (∀ s : State, s.flag (rasPg 0) R.RAS_HEALTH_PLDMPEND = true → s.ward.running = true →
    let v := s.sideband
    let x := s.fld (rasPg 0) R.RAS_HEALTH_STATE
    (x ≠ v.sentHealth → Gives .pldmResend s fun t => t.sideband.out = v.out ++ [pldmEvent x v.sentHealth] ∧ t.sideband.sentHealth = x ∧ t.now = s.now) ∧
    (x = v.sentHealth → Gives .pldmResend s fun t => t.sideband.out = v.out ++ [pldmEvent x v.sentBefore] ∧ t.now = max s.now (96 * (v.sentAt + 25000000)))) ∧
  (∀ (s : State) (p : PageReq), Stores s p ras0Page 0x118 → wardOrM p.who = true →
    let a := p.data.toNat % 2 ^ 32
    let ack (t : State) : Nat := t.fld (rasPg 0) R.RAS_LOG_ACK_ACK
    Gives (.rasLogAckWrite p) s fun t => Answered s t p 0 ∧
      ack t = if ack s ≤ a ∧ a ≤ s.fld (rasPg 0) R.RAS_LOG_SEQ_NEXT then a else ack s) ∧
  (∀ (s : State) (p : PageReq) (c : Nat), c < 96 →
    let pg := negPg c
    let a := 8 * s.fld pg R.CL_NEG_ADDR_ADDR
    let advanced (t : State) : Prop := t.fld pg R.CL_NEG_ADDR_ADDR = if a = 0xBFF8 then 0 else a / 8 + 1
    (p.who.path = .ward → a ≤ 0xBFF8 →
      (Loads s p (negPage c) 0x148 → Gives (.clNegDataAccess p) s fun t => Answered s t p (s.negWord c a).toNat ∧ advanced t ∧ t.clusters = s.clusters) ∧
      (Stores s p (negPage c) 0x148 → Gives (.clNegDataAccess p) s fun t => Answered s t p 0 ∧ advanced t ∧
        (a % 0xC00 / 8 ≠ 2 → t.negWord c a = w64 p.data.toNat) ∧ (negCsrAt (a % 0xC00 / 8) ≠ some CSR_TSELECT → ∀ x, x < 0xC000 → x / 8 ≠ a / 8 → t.negWord c x = s.negWord c x))) ∧
    (p.who.path ≠ .ward → Stores s p (negPage c) 0x148 → Gives (.clNegDataAccess p) s fun t => Refused s t p (negPage c) 6 ∧ t.clusters = s.clusters)) ∧
  (∀ (s : State) (c : Tile) (l : Nat),
    let pg := clusterPg c
    let newest (t : State) (code : Nat) : Prop := bits (t.reg (pg + 0x40)) 31 16 = code
    (Gives (.l2ArrayError c (.corrected l)) s fun t => newest t 0x4030 ∧ t.clusters = s.clusters) ∧
    (∀ w, Tab.at? (s.cluster c).l2 l = some w → Gives (.l2ArrayError c (.data l)) s fun t => newest t 0x4031 ∧
      Tab.at? (t.cluster c).l2 l = some { w with poison := true }) ∧
    (s.rasRefused 2 c = true → Gives (.l2ArrayError c (.tag l)) s fun t => newest t 0x4032 ∧ t.clusters = s.clusters) ∧
    (s.rasRefused 2 c = false → (∀ h, h < 384 → s.coreOf h / 4 = c → (s.hart h).started = false ∧ (s.hart h).parked = false) → (s.cluster c).l2 = [] →
      Gives (.l2ArrayError c (.tag l)) s fun t => newest t 0x4040 ∧ t.flag pg R.PG_STATUS_RETIRED = true ∧ t.isRetired R.RAS_CL_RET c = true)) ∧
  (∀ (s : State) (p : PageReq) (e : Nat), e < 96 →
    let P := enginePage e
    let x := s.tctEntry (bits p.data.toNat 11 0)
    let k := bits p.data.toNat 15 12
    (Stores s p P 0x110 → wardOrM p.who = true →
      (s.secureClass k = true → Gives (.deHctxWrite p) s fun t => Refused s t p P 3 ∧ t.reg (enginePg e + 0x110) = s.reg (enginePg e + 0x110)) ∧
      (s.secureClass k = false → s.secureClass (tctClass x) = false → (tctValid x = false ∨ tctClass x ≠ k) → Gives (.deHctxWrite p) s fun t =>
        Refused s t p P 6 ∧ t.reg (enginePg e + 0x110) = s.reg (enginePg e + 0x110)) ∧
      (s.secureClass k = false → tctValid x = true → tctClass x = k → Gives (.deHctxWrite p) s fun t => Answered s t p 0 ∧
        t.reg (enginePg e + 0x110) = p.data.toNat % 2 ^ 16)) ∧
    (Stores s p P 0x118 → wardOrM p.who = true → p.data.toNat.testBit 63 = true → (s.engine e).st = .halted → Gives (.deHaltResume p) s fun t =>
      Answered s t p 0 ∧ t.engine e = { s.engine e with shadows := [], st := .idle } ∧ ∀ j, j ≠ e → t.engine j = s.engine j))

/-- R449, R450, R452-R457, R459, R461: each step of the entries of cores, clusters and the package, the abort points on the way, what a wake event does, and the exits. -/
def Obligations.PowerStatesEnterAndExit : Prop :=
  (∀ (s : State) (k : CoreId) (h : Nat), s.coreHarts k = [h] →
    let co := s.core k
    let v := s.hart h
    let req := s.fld (corePg k) R.PG_POWER_REQ
    let edge := 96 * (ceilDiv s.now 96 + 4)
    let stands (t : State) (x n : Nat) : Prop := (t.core k).entry = some (x, n) ∧ (t.core k).cstate = co.cstate
    let later (u : Nat) : State := s.toMclk u
    (s.maySleep k = true → v.epoch = none → v.closed = [] → (s.cluster (k / 4)).snoops = [] → Gives (.coreEntry k) s fun t => t.now = s.now ∧
      stands t (if req = 2 then 2 else if req = 3 then 3 else 1) 1) ∧
    (∀ n, co.entry = some (1, n) → Gives (.coreEntry k) s fun t => (t.core k).cstate = 1 ∧ (t.core k).entry = none ∧ t.now = s.now + s.ccyc k 1) ∧
    (∀ x, x = 2 ∨ x = 3 →
      (co.entry = some (x, 1) → v.misses = [] → v.cbos = 0 → v.io = none →
        (s.wakeDue k = false → Gives (.coreEntry k) s fun t => stands t x 2 ∧ t.now = s.now) ∧
        (s.wakeDue k = true → v.wait = some .wfi → Gives (.coreEntry k) s fun t => (t.core k).entry = none ∧ (t.hart h).wait = none ∧ t.now = s.now)) ∧
      (∀ n, lastAbort x ≤ n → co.entry = some (x, n) → Gives (.coreEntry k) s fun t => (t.core k).cstate = x ∧ (t.core k).entry = none ∧ t.now = edge)) ∧
    (co.entry = some (2, 2) → (later (s.now + s.dirtyLines k)).wakeDue k = false → Gives (.coreEntry k) s fun t => stands t 2 3 ∧
      t.now = s.now + s.dirtyLines k ∧ (∀ e ∈ (t.core k).l1d, e.2.dirty = false)) ∧
    (co.entry = some (3, 2) → (later (s.now + 48)).wakeDue k = false → s.negSlot (s.coreOf h / 4) h ≠ none → Gives (.coreEntry k) s fun t => stands t 3 3 ∧
      t.now = s.now + 48 ∧ (t.negative h v.negCopy).a = ((s.tick h).hart h).a ∧ (t.negative h v.negCopy).cmp = v.cmp) ∧
    (co.entry = some (3, 3) → (later (s.now + s.dirtyLines k)).wakeDue k = false → Gives (.coreEntry k) s fun t => stands t 3 4 ∧
      t.now = s.now + s.dirtyLines k ∧ (t.core k).l1d = [] ∧ (t.core k).l1i = []) ∧
    (co.entry ≠ none → Gives (.wakeEvent k) s fun t => (t.core k).wake = true ∧ stands t ((co.entry.map Prod.fst).getD 0) ((co.entry.map Prod.snd).getD 0)) ∧
    (co.entry = none → s.flag (corePg k) R.PG_STATUS_RETIRED = false →
      (co.cstate = 0 → v.wait = some .wfi → Gives (.wakeEvent k) s fun t => (t.hart h).wait = none ∧ (t.hart h).a = v.a) ∧
      (co.cstate ≠ 0 → co.exitAt = none → Gives (.wakeEvent k) s fun t => t.now = s.now ∧
        (co.cstate = 1 → (t.core k).exitAt = some (s.now + 48)) ∧
        (2 ≤ co.cstate → s.asleep = false → (s.cluster (k / 4)).entry = none →
          ((s.cluster (k / 4)).kstate = 0 → (t.core k).exitAt = some (96 * (s.wakeEdge k + s.exitLength (co.cstate - 2)))) ∧
          ((s.cluster (k / 4)).kstate ≠ 0 → (s.cluster (k / 4)).exitAt = none → (t.core k).wake = true ∧
            (t.cluster (k / 4)).exitAt = some (96 * (s.wakeEdge k + s.exitLength ((s.cluster (k / 4)).kstate + 1))))))) ∧
    (∀ u, co.exitAt = some u → (s.hinge (tileStop (k / 4))).deferred = [] →
      let awake (t : State) : Prop := (t.core k).cstate = 0 ∧ (t.core k).exitAt = none ∧ t.now = max s.now u
      (co.cstate = 1 → Gives (.c1Exit k) s fun t => awake t ∧ (t.core k).l1d = co.l1d ∧ (t.hart h).a = v.a) ∧
      (co.cstate = 2 → s.effPoint k < 256 → Gives (.c2Exit k) s fun t => awake t ∧ t.fld pwrPg (R.PWR_FREQ_CUR.nth k) = s.effPoint k ∧
        (co.wakeList.length ≤ 256 → (t.core k).l1d = co.l1d.filter (fun e => !co.wakeList.contains e.1)) ∧
        (256 < co.wakeList.length → (t.core k).l1d = [] ∧ (t.core k).l1i = [])) ∧
      (co.cstate = 3 → Gives (.c3Exit k) s fun t => awake t ∧ (t.hart h).a = (s.negative h v.negCopy).a ∧ (t.hart h).cmp = (s.negative h v.negCopy).cmp ∧
        (t.hart h).predictor = []))) ∧
  (∀ (s : State) (c : Tile),
    let cl := s.cluster c
    let edge := 96 * (ceilDiv s.now 96 + 2)
    (cl.kstate = 0 → cl.entry = none → cl.exitAt = none → cl.domainReset = none → s.clusterWake c = false → s.flag (clusterPg c) R.PG_STATUS_RETIRED = false →
      (s.clusterTarget c = 1 → Gives (.clusterEntry c) s fun t => (t.cluster c).entry = some (1, 1) ∧ ∀ l w, Tab.at? (t.cluster c).l2 l = some w →
        w.st ≠ .m ∧ w.st ≠ .o) ∧
      (s.clusterTarget c = 2 → Gives (.clusterEntry c) s fun t => (t.cluster c).entry = some (2, 1) ∧ (∀ l, Tab.at? (t.cluster c).l2 l = none) ∧
        t.now = s.now + 4096) ∧
      (s.clusterTarget c = 0 → Gives (.clusterEntry c) s fun t => t = s)) ∧
    (∀ u n, cl.entry = some (u, n) →
      (s.clusterWake c = false → s.clusterWrites c = false → Gives (.clusterEntry c) s fun t => (t.cluster c).kstate = u ∧ (t.cluster c).entry = none ∧
        t.now = edge) ∧
      (s.clusterWake c = false → s.clusterWrites c = true → Gives (.clusterEntry c) s fun t => t = s)) ∧
    (∀ u, cl.exitAt = some u → (∀ k, (s.core k).wake = false) → (s.hinge (tileStop c)).deferred = [] →
      let up (t : State) : Prop := t.cluster c = { cl with kstate := 0, exitAt := none } ∧ t.now = max s.now u
      (cl.kstate = 1 → Gives (.k1Exit c) s up) ∧ (cl.kstate = 2 → Gives (.k2Exit c) s up))) ∧
  (∀ (s : State) (consent : Bool),
    let w := s.power
    let step (t : State) (n : Nat) : Prop := t.fld pwrPg R.PWR_PKG_STEP = n ∧ t.power.pkgStep = n
    (s.asleep = false →
      (w.pkgStep = 0 → w.fired = false → s.flag pwrPg R.PWR_PKG_ARM = true → w.pkgTry = true → s.pkgIdle = true → Gives (.packageSleepEntry consent) s fun t =>
        (consent = true → step t 1) ∧ (consent = false → t.fld pwrPg R.PWR_PKG_RESULT = 1 ∧ t.power.pkgTry = false)) ∧
      (w.pkgStep = 1 → (s.mesh.sleep = none → Gives (.packageSleepEntry consent) s fun t => t.mesh.sleep = some (s.mesh.periodStart s.now) ∧ t.power = w) ∧
        (∀ u, s.mesh.sleep = some u → s.mesh.quiet = true → w.fired = false → Gives (.packageSleepEntry consent) s fun t => step t 2 ∧ t.now = max s.now (u + 48)) ∧
        (∀ u, s.mesh.sleep = some u → s.mesh.quiet = true → w.fired = true → Gives (.packageSleepEntry consent) s fun t => t.power.pkgStep = 0 ∧
          t.mesh.sleep = none ∧ t.fld pwrPg R.PWR_PKG_RESULT = 2)) ∧
      (w.pkgStep = 2 → w.fired = false → Gives (.packageSleepEntry consent) s fun t => step t 3 ∧ ∀ m, m < 16 → (s.mc m).frame0 ≠ none →
        (t.mc m).selfRefresh = true) ∧
      (w.pkgStep = 3 → w.fired = false → Gives (.packageSleepEntry consent) s fun t => step t 4 ∧ t.asleep = true ∧ t.fld pwrPg R.PWR_PKG_RESULT = 3 ∧
        t.now = 96 * (ceilDiv s.now 96 + 4))) ∧
    (∀ u, s.asleep = true → w.pkgExit = some u → (∀ n, (s.hinge n).deferred = []) → (∀ k, (s.core k).wake = false) → Gives .packageSleepExit s fun t =>
      t.asleep = false ∧ t.mesh.sleep = none ∧ t.mesh.start = some (96 * u) ∧ t.now = max s.now (96 * u) ∧ (∀ m, m < 16 → (t.mc m).selfRefresh = false) ∧
      ∀ n, n < 120 → t.fld (meshPg n) R.MS_RETRY_COUNT = 0 ∧ t.flag (meshPg n) R.PG_STATUS_LOST = true))

/-- R458, R464, R466-R472, R474: arming of package sleep; transitions of 150 aclk between operating points; supply warnings and the stretch; sampling,
the review of the caps, PROCHOT_N and the trip. -/
def Obligations.PointsSuppliesAndHeat : Prop :=
  (∀ (s : State) (p : PageReq), Stores s p pwrPage 0x100 → wardOrM p.who = true → Gives (.pwrPkgWrite p) s fun t => Answered s t p 0 ∧
    t.flag pwrPg R.PWR_PKG_ARM = p.data.toNat.testBit 63 ∧ t.power.pkgTry = p.data.toNat.testBit 63 ∧ t.fld pwrPg R.PWR_PKG_RESULT = s.fld pwrPg R.PWR_PKG_RESULT) ∧
  (∀ (s : State) (k : CoreId),
    let co := s.core k
    let n := s.effPoint k
    let cur (t : State) : Nat := t.fld pwrPg (R.PWR_FREQ_CUR.nth k)
    let edge := ceilDiv s.now 96
    (co.dvfsEnd = none → co.cstate < 2 → s.power.stretchFrom = none → s.flag (corePg k) R.PG_STATUS_RETIRED = false →
      (n < cur s → Gives (.dvfsTransition k) s fun t => cur t = n ∧ t.now = 96 * edge ∧ t.core k = { co with dvfsEnd := some (edge + 150), dvfsTo := none }) ∧
      (cur s < n → Gives (.dvfsTransition k) s fun t => cur t = cur s ∧ t.now = 96 * edge ∧ t.core k = { co with dvfsEnd := some (edge + 150), dvfsTo := some n }) ∧
      (n = cur s → Gives (.dvfsTransition k) s fun t => t = s)) ∧
    (∀ u, co.dvfsEnd = some u → (∀ x, co.dvfsTo = some x → x < 256) → Gives (.dvfsTransitionEnd k) s fun t => t.now = max s.now (96 * u) ∧
      cur t = co.dvfsTo.getD (cur s) ∧ t.core k = { co with dvfsEnd := none, dvfsTo := none })) ∧
  (∀ (s : State) (mv : BitVec 16),
    let v (t : State) (f : Field) : Nat := t.fld aonPg f
    let logged (t : State) (code : Nat) : Prop := bits (t.reg (aonPg + 0x40)) 31 16 = code
    let raised (t : State) (src : Nat) : Prop := ∃ u, (u, src) ∈ t.wires
    (Gives .vinCoreWarning s fun t => v t R.AON_SUPPLY_VIN_WARN = 1 ∧ v t R.AON_SUPPLY_STRETCH = 1 ∧
      v t R.AON_SUPPLY_VINDIPS = (v s R.AON_SUPPLY_VINDIPS + 1) % 2 ^ 32 ∧ raised t 1728 ∧ t.power.stretchFrom ≠ none ∧ t.mem = s.mem) ∧
    (∀ u, s.power.stretchFrom = some u → Gives (.stretchEnd mv) s fun t => v t R.AON_SUPPLY_VIN_WARN = 0 ∧ v t R.AON_SUPPLY_STRETCH = 0 ∧ raised t 1729 ∧
      t.power.stretchFrom = none ∧ t.now = max s.now (96 * (ceilDiv u 96 + 25)) ∧ logged t 0x9001) ∧
    (Gives .vddAonWarning s fun t => v t R.AON_SUPPLY_AON_WARN = 1 ∧ v t R.AON_SUPPLY_AONDIPS = (v s R.AON_SUPPLY_AONDIPS + 1) % 2 ^ 16 ∧ raised t 1730 ∧
      t.power.stretchFrom = s.power.stretchFrom) ∧
    (∀ u, s.power.aonFrom = some u → Gives (.vddAonRecovery mv) s fun t => v t R.AON_SUPPLY_AON_WARN = 0 ∧ t.power.aonFrom = none ∧ logged t 0x9002)) ∧
  (∀ (s : State) (readings : List Word),
    let reading (n : Nat) : Nat := (readings.getD n 0).toNat % 65536
    let hot (n : Nat) : Prop := 920 ≤ signedN 16 (reading n)
    let u := 96 * (25 * (s.tb / 25 + 1))
    ((∀ n, n < 120 → n ∈ s.power.hot → ¬hot n) → Gives (.thermalSample readings) s fun t => t.now = u ∧
      (∀ n, n < 120 → t.fld thermPg (R.THM_SENSE_TEMP.nth n) = reading n) ∧ (∀ n, n ∈ t.power.hot ↔ n < 120 ∧ hot n) ∧
      (∃ n, n < 120 ∧ t.fld thermPg R.THM_STATUS_MAXT = reading n) ∧ (∀ n, n < 120 → signedN 16 (reading n) ≤ signedN 16 (t.fld thermPg R.THM_STATUS_MAXT)) ∧
      ((∃ n, n < 120 ∧ n ∉ s.power.alerted ∧ (8 * s.fld thermPg R.THM_CTL_ALERT : Nat) ≤ signedN 16 (reading n)) → ∃ x, (x, 1734) ∈ t.wires)) ∧
    (∀ n, n < 120 → n ∈ s.power.hot → hot n → (∀ m, m < n → m ∈ s.power.hot → ¬hot m) → s.power.off = false → Gives (.thermalSample readings) s fun t =>
      t.power.off = true ∧ t.flag thermPg R.THM_STATUS_TRIPPED = true ∧ t.fld thermPg R.THM_STATUS_TRIPSENSOR = n ∧ t.mem = [])) ∧
  (∀ s : State,
    let cap (t : State) (d : Nat) : Nat := t.fld thermPg (R.THM_CAP_CAP d)
    let high := 8 * (s.fld thermPg R.THM_CTL_THROTTLE : Int)
    let any (d : Nat) : Prop := ∃ n, n < 120 ∧ dieOf n = d ∧ high ≤ s.temp n
    let cool (d : Nat) : Prop := ∀ n, n < 120 → dieOf n = d → s.temp n ≤ high - 24
    let due := 2500 * (s.tb / 2500 + 1)
    (∀ d, d < 6 → cap s d ≤ 36) → Gives .thermalCapReview s fun t => t.now = 96 * due ∧ ∀ d, d < 6 →
      (any d → cap t d = if 8 < cap s d then cap s d - 1 else cap s d) ∧
      (any d → cap s d = 36 → ∃ x, (x, 1731) ∈ t.wires) ∧
      (cool d → cap s d < 36 → Tab.get 0 s.power.capAt d + 25000 ≤ due → cap t d = cap s d + 1) ∧
      (cool d → due < Tab.get 0 s.power.capAt d + 25000 → cap t d = cap s d) ∧ (¬any d → ¬cool d → cap t d = cap s d) ∧
      ((t.fld thermPg R.THM_STATUS_HOTDIE).testBit d = true ↔ cap t d < 36)) ∧
  (∀ s : State,
    (s.power.prochot = false → Gives .prochotAssert s fun t => t.power.prochot = true ∧ t.flag thermPg R.THM_STATUS_PROCHOT_IN = true ∧
      bits (t.reg (thermPg + 0x40)) 31 16 = 0x9012 ∧ (∃ x, (x, 1733) ∈ t.wires) ∧ ∀ k, t.effPoint k ≤ s.fld thermPg R.THM_CTL_PROCHOT_FREQ) ∧
    (s.power.prochot = true → Gives .prochotAssert s fun t => t = s) ∧
    Gives .prochotRelease s fun t => t.power.prochot = false ∧ t.flag thermPg R.THM_STATUS_PROCHOT_IN = false ∧ t.out = s.out ∧ t.mem = s.mem)

/-- R481, R483, R485-R488, R490-R492, R494-R497, R521: what cold, warm and Ward resets leave, and what each stage of bring-up does. -/
def Obligations.ResetsAndBringUp : Prop :=
  (∀ (s : State) (cause : Fin 3),
    let zero : State := State.reset
    Gives (.coldReset cause) s (fun t => t.reg (aonPg + 0x110) = 2 ^ (7 - cause.val) ∧
      { t with regs := zero.regs, ward := zero.ward, free := zero.free, pending := zero.pending } = zero ∧
      t.ward = { zero.ward with otp := s.ward.otp } ∧ (∀ a, a % 8 = 0 → a ≠ aonPg + 0x110 → a ≠ thermPg + 0x108 → t.reg a = (resetWord a).toNat) ∧
      (cause.val < 2 → t.fld thermPg R.THM_STATUS_TRIPPED = s.fld thermPg R.THM_STATUS_TRIPPED ∧
        t.fld thermPg R.THM_STATUS_TRIPSENSOR = s.fld thermPg R.THM_STATUS_TRIPSENSOR) ∧
      (cause.val = 2 → t.fld thermPg R.THM_STATUS_TRIPPED = 0)) ∧
    Gives .refclkSysLoss s fun t => exec (.coldReset 0) s = .next t) ∧
  (∀ (s : State) (pin : Bool),
    (s.power.off = true → Gives (.warmReset pin) s fun t => t = s) ∧
    (s.power.off = false → Tab.risingFrom none s.regs = true → (∀ m, m < 16 → s.mcWrites m = [] ∧ (s.mc m).held = []) → Gives (.warmReset pin) s fun t =>
      t.harts = [] ∧ t.clusters = [] ∧ t.dmas = [] ∧ t.ports = [] ∧ t.mem = s.mem ∧ t.attrs = s.attrs ∧ t.tct = s.tct ∧ t.home = s.home ∧ t.log = s.log ∧
      t.ward.keys = s.ward.keys ∧ t.ward.otp = s.ward.otp ∧ t.mesh.sched = s.mesh.sched ∧ t.mesh.start = none ∧ t.boot.done = 1 ∧ t.boot.warm = true ∧
      (∀ m, m < 16 → (t.mc m).selfRefresh = true) ∧ t.bolted = s.bolted ∧ t.fld pwrPg R.PWR_BOOT_STAGE = 1 ∧ t.fld pwrPg R.PWR_BOOT_RELEASED = 0 ∧
      t.fld aonPg R.AON_RESETCAUSE_WARMS = (s.fld aonPg R.AON_RESETCAUSE_WARMS + 1) % 2 ^ 16 ∧
      (if pin then t.flag aonPg R.AON_RESETCAUSE_WARM_PIN = true else t.flag aonPg R.AON_RESETCAUSE_WARM_SW = true) ∧
      (∀ k, k < 384 → t.reg (corePg k + 0x100) = s.reg (corePg k + 0x100) ∧ t.fld (corePg k) R.CORE_RUN_HART0 = k ∧
        t.flag (corePg k) R.PG_STATUS_LOST = true ∧ t.flag (corePg k) R.PG_STATUS_RETIRED = s.flag (corePg k) R.PG_STATUS_RETIRED) ∧
      (∀ c, c < 96 → t.fld (slicePg c) R.SLC_CTL_EN = 0 ∧ t.fld (slicePg c) R.SLC_CTL_INITED = s.fld (slicePg c) R.SLC_CTL_INITED))) ∧
  (∀ (s : State) (p : PageReq), Stores s p pwrPage 0x130 → wardOrM p.who = true → p.data.toNat % 4 = 1 → Gives (.pwrResetWard p) s fun t =>
    Answered s t p 0 ∧ t.ward.running = false ∧ t.ward.sessions = 0 ∧ t.flag aonPg R.AON_RESETCAUSE_WARD_SW = true ∧ t.harts = s.harts ∧ t.mem = s.mem ∧
    ∀ b, b < 32 → s.fld (mbxPg b) R.WARD_MBX_STATUS_STATE = 2 → t.fld (mbxPg b) R.WARD_MBX_STATUS_STATE = 1) ∧
  (∀ (s : State) (socket : Fin 16) (image : Option BootImage),
    let b := s.boot
    let stage (t : State) : Nat := t.fld pwrPg R.PWR_BOOT_STAGE
    let failed (t : State) : Prop := stage t = 15 ∧ 2 ≤ t.fld (rasPg 0) R.RAS_HEALTH_STATE ∧ t.errorN1Low = true ∧ t.harts = s.harts
    (b.done = 0 → b.testMode = false → s.power.off = false →
      (Gives (.bootAon socket false) s fun t => t.now = max s.now 2400000 ∧ t.boot.done = 1 ∧ t.boot.socket = socket ∧ stage t = 1) ∧
      Gives (.bootAon socket true) s fun t => t.boot.testMode = true ∧ t.boot.done = 0 ∧ t.regs = s.regs) ∧
    (b.done = 1 → Gives .bootRom s fun t => t.now = max s.now (96 * (b.since + 125000)) ∧ t.boot.done = 2 ∧ t.ward.running = true ∧ stage t = 2 ∧
      (s.flag thermPg R.THM_STATUS_TRIPPED = true → s.flag thermPg R.THM_STATUS_TRIPLOGGED = false → bits (t.reg (thermPg + 0x40)) 31 16 = 0x9020 ∧
        t.flag thermPg R.THM_STATUS_TRIPLOGGED = true ∧ t.flag thermPg R.THM_STATUS_TRIPPED = true)) ∧
    (b.done = 2 → stage s ≠ 15 →
      (image = none → Gives (.bootAuth image) s failed) ∧
      (∀ im, image = some im → Gives (.bootAuth image) s fun t => t.now = max s.now (96 * (b.since + 1125000)) ∧ t.boot.done = 3 ∧ t.boot.image = image ∧
        stage t = 3 ∧ t.fld pwrPg R.PWR_BOOT_IMAGE = if im.backup then 2 else 1)) ∧
    (∀ im, b.image = some im → b.done = 3 → b.warm = false → im.settings = [] → im.tct = [] → Gives .bootMesh s fun t => t.boot.done = 4 ∧ stage t = 4 ∧
      t.mesh.start = some (96 * ceilDiv s.now 96) ∧ t.mesh.reel0 = 96 * ceilDiv s.now 96 ∧ t.now = 96 * ceilDiv s.now 96 + 4128 ∧
      (∀ c, c < 96 → t.flag (slicePg c) R.SLC_CTL_EN = true ∧ t.flag (slicePg c) R.SLC_CTL_INITED = true) ∧
      ∀ k v, im.keys = [(k, v)] → Tab.get 0 t.ward.keys k.val = v) ∧
    (∀ im e, b.image = some im → b.done = 3 → b.warm = false → im.settings = [] → im.tct = [e] → Gives .bootMesh s fun t => t.boot.done = 4 ∧
      ∃ r, rowAt .tct 0x100 = some r ∧ t.tctEntry e.1.val = r.written 0 e.2.toNat) ∧
    (∀ im a v p r, b.image = some im → b.done = 3 → b.warm = false → im.settings = [(a, v)] → im.tct = [] → im.keys = [] → pageAt a.toNat = some p →
      rowAt p.kind (a.toNat - p.base) = some r → p.kind ≠ .slice → p.kind ≠ .pwr → Gives .bootMesh s fun t => t.boot.done = 4 ∧
      t.reg a.toNat = if s.bolted = true ∧ r.changesRwb (s.reg a.toNat) v.toNat = true then s.reg a.toNat else r.written (s.reg a.toNat) v.toNat % 2 ^ 64) ∧
    (∀ im, b.image = some im → b.done = 3 → b.warm = true → im.settings = [] → Gives .bootMesh s fun t => t.boot.done = 4 ∧ stage t = 4 ∧ t.ward.keys = s.ward.keys ∧
      t.tct = s.tct ∧ t.mem = s.mem ∧ ∀ m, m < 16 → s.flag (mcPg m 0) R.PG_STATUS_RETIRED = false → s.startFail m = 0 → t.flag (mcPg m 2) R.MC_CTL_STARTED = true ∧
        (t.mc m).selfRefresh = false ∧ (t.mc m).startEdge.isSome) ∧
    (b.done = 4 → s.bootChannel = none → s.flag pwrPg R.PWR_BOOT_RELEASED = false → stage s ≠ 15 → Gives .bootTimeout s fun t => failed t ∧
      t.now = max s.now (96 * (b.meshAt + 250000000))) ∧
    (∀ im m, b.image = some im → s.bootChannel = some m → b.done = 4 → s.flag pwrPg R.PWR_BOOT_RELEASED = false → stage s ≠ 15 →
      Gives .bootChannelReady s fun t => t.flag pwrPg R.PWR_BOOT_RELEASED = true ∧ t.fld pwrPg R.PWR_BOOT_BOOTCH = m % 16 ∧
        t.now = s.now + 48 * im.firmware.length ∧ (im.autoBolt = true → t.bolted = true) ∧
        (im.firmware = [] → t.mem = s.mem) ∧ (∀ l, im.firmware = [l] → t.memLine (s.paOf m (lineBase im.offset)) = l) ∧
        ∀ k, k < 384 → s.flag (clusterPg (k / 4)) R.PG_STATUS_READY = true → s.flag (corePg k) R.PG_STATUS_READY = true →
          s.flag (corePg k) R.PG_RESET_HOLDRST = false → s.flag (clusterPg (k / 4)) R.PG_RESET_HOLDRST = false →
          s.flag (corePg k) R.PG_STATUS_RETIRED = false → s.flag (corePg k) R.CORE_RUN_FENCED = false → s.fld (corePg k) R.CORE_RUN_HART0 = k →
          s.coreOf k = k → s.hart k = {} →
          (t.hart k).started = true ∧ (t.hart k).a.pc = w64 (4 * s.fld (corePg k) R.CORE_RESETVEC_ADDR))) ∧
  (∀ (s : State) (m : McId),
    let v := s.mc m
    let pg := mcPg m 0
    (s.boot.done = 4 → s.boot.warm = false → v.zeroAt = none → s.flag (mcPg m 2) R.MC_CTL_STARTED = false → s.flag pg R.PG_STATUS_RETIRED = false →
      (Gives (.channelTrainingDone m true) s fun t => (t.mc m).zeroAt = some s.now ∧ t.mem = s.mem ∧ t.regs = s.regs) ∧
      (v.trainFails = 0 → Gives (.channelTrainingDone m false) s fun t => (t.mc m).trainFails = 1 ∧ t.regs = s.regs) ∧
      (1 ≤ v.trainFails → Gives (.channelTrainingDone m false) s fun t => t.flag pg R.PG_STATUS_RETIRED = true ∧
        bits (t.reg (pg + 0x40)) 31 16 = 0x2003 ∧ t.isRetired R.RAS_MC_RET m = true)) ∧
    (∀ u, v.zeroAt = some u → s.startFail m = 0 → Gives (.channelZeroingDone m) s fun t =>
      t.now = max s.now (u + ceilDiv (12 * s.channelBytes m) (16 * s.dclkRate m)) ∧ t.flag (mcPg m 2) R.MC_CTL_STARTED = true ∧ (t.mc m).zeroAt = none ∧
      (∀ a, t.memByte a = if s.lineInMc m (a % 2 ^ 52 / 64) (a / 2 ^ 52) then 0 else s.memByte a) ∧
      ∀ pa cp, cp < 2 → t.lineAttr pa cp = if s.lineInMc m (lineOf pa) cp then {} else s.lineAttr pa cp)) ∧
  (∀ (s : State) (c : Tile), s.boot.done = 4 → s.flag (clusterPg c) R.PG_STATUS_READY = false → s.flag (clusterPg c) R.PG_STATUS_RETIRED = false →
    s.flag (clusterPg c) R.PG_RESET_ACTIVE = false →
    let late := max s.now (96 * (s.boot.meshAt + 50000 * (c / 12 + 1)))
    (s.flag pwrPg R.PWR_BOOT_RELEASED = false → Gives (.clusterBistDone c true) s fun t => t.now = late ∧ t.flag (clusterPg c) R.PG_STATUS_READY = true ∧
      t.harts = s.harts ∧ ∀ k, k < 384 → k / 4 = c → s.flag (corePg k) R.PG_STATUS_RETIRED = false → t.flag (corePg k) R.PG_STATUS_READY = true) ∧
    ((∀ h, h < 384 → s.coreOf h / 4 = c → (s.hart h).started = false ∧ (s.hart h).parked = false) → (s.cluster c).l2 = [] →
      Gives (.clusterBistDone c false) s fun t => t.now = late ∧ t.flag (clusterPg c) R.PG_STATUS_RETIRED = true ∧
        bits (t.reg (clusterPg c + 0x40)) 31 16 = 0x4040)) ∧
  (∀ s : State,
    let ready (m : Nat) : Prop := s.flag (mcPg m 0) R.PG_STATUS_READY = true ∧ s.flag (mcPg m 0) R.PG_STATUS_RETIRED = false
    let openNow (t : State) (m : Nat) : Prop := t.flag (mcPg m 0) R.MC_HASH_OPEN = true
    ((∀ m, m < 16 → ready m) → (∃ m, m < 16 ∧ ¬openNow s m) → Gives .hashOpen s fun t => (∀ m, m < 16 → openNow t m) ∧
      t.now = max s.now (96 * s.applyEdge)) ∧
    ((∃ m, m < 16 ∧ ¬ready m) → Gives .hashOpen s fun t => t = s))

/-- R83, R86, R87, R89, R440, R527, R528, R529, R530: the common command codes of the I3C target, MCTP control messages (their bytes as DSP0236 has them, log entry 70),
the BMC's mailbox requests and responses, and the instructions of the TAP (halting through DMI as the RISC-V debug specification has it, log entry 74). -/
def Obligations.BmcAndTapAreServed : Prop :=
  (∀ (s : State) (v : Word),
    let b := s.sideband
    let n := v.toNat
    let becomes (c : Instr) (x : Sideband) : Prop := Gives c s fun t => t = { s with sideband := x }
    (n.testBit 0 = true → becomes (.enec v) { b with events := true } ∧ becomes (.disec v) { b with events := false }) ∧
    (n.testBit 0 = false → becomes (.enec v) b ∧ becomes (.disec v) b) ∧
    becomes (.rstdaa v) { b with dynamic := none } ∧ becomes (.setdasa v) { b with dynamic := some (n % 128) } ∧
    becomes (.setaasa v) { b with dynamic := some (0x30 + s.boot.socket) } ∧
    (b.dynamic = none → becomes (.entdaa v) { b with dynamic := some (n % 128) }) ∧ (b.dynamic ≠ none → becomes (.entdaa v) b) ∧
    becomes (.setmwl v) { b with mwl := min 256 (n % 2 ^ 16) } ∧ becomes (.setmrl v) { b with mrl := min 256 (n % 2 ^ 16) } ∧
    becomes (.getmwl v) { b with reply := b.mwl } ∧ becomes (.getmrl v) { b with reply := b.mrl } ∧
    becomes (.getbcr v) { b with reply := 0x06 } ∧ becomes (.getdcr v) { b with reply := 0x00 } ∧ becomes (.rstact v) { b with rstact := n % 256 } ∧
    (Gives (.getpid v) s fun t => t.sideband.reply % 2 ^ 32 = bits Config.partSerial.toNat 31 0 ∧ { t with sideband := b, free := s.free } = s) ∧
    Gives (.getstatus v) s fun t => ∃ x, t = { s with sideband := { b with reply := x }, free := s.free + 1 }) ∧
  (∀ (s : State) (m : List Byte),
    let tells (t : State) (r : List Byte) : Prop := t.sideband.out = s.sideband.out ++ [r]
    let kept (t : State) : Prop := { t with sideband := s.sideband } = s
    (s.boot.done < 2 → (Gives (.mctpControlMessage m) s fun t => t = s) ∧ (Gives (.pldmMessage m) s fun t => t = s) ∧ (Gives (.mctpSpdmMessage m) s fun t => t = s) ∧
      Gives (.bmcMbxRequest m) s fun t => t = s) ∧
    (2 ≤ s.boot.done → s.power.off = false →
      (∀ (i : Nat) (e : Byte), 128 ≤ i → i < 256 → e ≠ 0 → e ≠ 0xFF → m = [0x00, BitVec.ofNat 8 i, 0x01, 0x00, e] → Gives (.mctpControlMessage m) s fun t =>
        t.sideband.eid = e.toNat ∧ tells t [0x00, BitVec.ofNat 8 (i % 32), 0x01, 0x00, 0x00, e, 0x00] ∧ kept t) ∧
      (∀ i : Nat, 128 ≤ i → i < 256 → m = [0x00, BitVec.ofNat 8 i, 0x05] → Gives (.mctpControlMessage m) s fun t =>
        tells t [0x00, BitVec.ofNat 8 (i % 32), 0x05, 0x00, 0x03, 0x01, 0x05, 0x7E] ∧ kept t) ∧
      (∀ (i : Nat) (rest : List Byte), i < 128 → m = [0x01, BitVec.ofNat 8 i, 0x02, 0x0A] ++ rest → Gives (.pldmMessage m) s fun t =>
        t.flag (rasPg 0) R.RAS_HEALTH_PLDMPEND = false ∧ { t with regs := s.regs } = s) ∧
      (∀ (x : List Byte) (i : Nat), m = 5 :: x → 0 < x.length → x.length ≤ 248 → i < 4 → s.sideband.spdmNext = i → s.mbxFree (24 + i) = true →
        Gives (.mctpSpdmMessage m) s fun t => t.fld (mbxPg (24 + i)) R.WARD_MBX_STATUS_STATE = 1 ∧ t.mbxCmd (24 + i) = 0x90 ∧
          t.mbxLen (24 + i) = ceilDiv x.length 8 ∧ t.sideband.spdmNext = (i + 1) % 4) ∧
      (∀ (b seq : Nat) (ws : List Byte), b < 256 → seq < 2 ^ 16 → m = [0x7E, 0x1D, 0x4E, BitVec.ofNat 8 b, 0x01] ++ leBytes 2 seq ++ ws →
        let n := bits (leValue (ws.take 8)) 47 40
        let state (t : State) : Nat := t.fld (mbxPg b) R.WARD_MBX_STATUS_STATE
        let head (k : Byte) : List Byte := [0x7E, 0x1D, 0x4E, BitVec.ofNat 8 b, k] ++ leBytes 2 seq
        ((b < 24 ∨ 27 < b ∨ ws.length ≠ 8 * (n + 1)) → Gives (.bmcMbxRequest m) s fun t => tells t (head 0x83) ∧ kept t) ∧
        (24 ≤ b → b ≤ 27 → ws.length = 8 * (n + 1) → n ≤ 31 → s.flag (mbxPg b) R.WARD_MBX_ASSIGN_EN = true →
          ((state s = 1 ∨ state s = 2) → Gives (.bmcMbxRequest m) s fun t => t.flag (mbxPg b) R.WARD_MBX_STATUS_REJECT = true ∧ state t = state s ∧
            tells t (head 0x82 ++ leBytes 8 (t.reg (mbxPg b + 0x100))) ∧ ∀ j, j < 32 → t.reg (mbxPg b + 0x200 + 8 * j) = s.reg (mbxPg b + 0x200 + 8 * j)) ∧
          (state s ≠ 1 → state s ≠ 2 → Gives (.bmcMbxRequest m) s fun t => state t = 1 ∧ t.fld (mbxPg b) R.WARD_MBX_STATUS_SEQ = seq ∧
            (∀ j, j ≤ n → t.reg (mbxPg b + 0x200 + 8 * j) = leValue ((ws.drop (8 * j)).take 8)) ∧ b ∈ t.sideband.bmcBusy ∧ t.sideband.out = s.sideband.out))))) ∧
  (∀ (s : State) (v : Nat),
    let holds (t : State) (ir tdo : Nat) : Prop := t = { s with tap := { s.tap with ir := ir, tdo := tdo } }
    let outside (t : State) : Prop := { t with tap := s.tap, free := s.free } = s
    (Gives (.extest v) s fun t => t.tap.ir = 0x00 ∧ t.tap.boundary = v % 2 ^ 2653 ∧ outside t) ∧
    (Gives (.samplePreload v) s fun t => t.tap.ir = 0x01 ∧ t.tap.boundary = v % 2 ^ 2653 ∧ outside t) ∧
    (Gives (.idcode v) s fun t => holds t 0x02 0x2938443B) ∧ (Gives .tapReset s fun t => holds t 0x02 0x2938443B) ∧
    (Gives (.clamp v) s fun t => holds t 0x03 0) ∧ (Gives (.highz v) s fun t => holds t 0x04 0) ∧ (Gives (.bypass v) s fun t => holds t 0xFF 0) ∧
    (Gives (.dtmcs v) s fun t => t.tap.ir = 0x10 ∧ t.tap.tdo % 2 ^ 12 = 0x71 ∧ t.tap.dtmcs = v % 2 ^ 32 ∧ outside t) ∧
    (v % 4 = 0 → s.resps = [] → Gives (.dmi v) s fun t => holds t 0x11 s.tap.dmi) ∧
    (∀ h : Nat, h < 384 → v = 0x10 <<< 34 + (2 ^ 31 + h <<< 16) <<< 2 + 2 → s.resps = [] → (s.hart h).started = true → (s.hart h).halted = false →
      (s.hart h).io = none → Gives (.dmi v) s fun t => t.tap.ir = 0x11 ∧ t.tap.tdo = s.tap.dmi ∧ (t.hart h).halted = true ∧
        (t.hart h).a.getCsr 0x7B1 = (s.hart h).a.pc.toNat ∧ (t.hart h).epoch = none ∧ ∀ g, g ≠ h → t.hart g = s.hart g) ∧
    (∀ h : Nat, h < 384 → v = 0x17 <<< 34 + (3 <<< 20 + 2 ^ 17 + 0xF14) <<< 2 + 2 → s.resps = [] → s.dmHart = h → (s.hart h).halted = true →
      bits (s.dm 0x16) 10 8 = 0 → Gives (.dmi v) s fun t => t.dm 0x04 = h ∧ t.dm 0x05 = 0 ∧ t.harts = s.harts) ∧
    (∀ n, pageStop (v % 2 ^ 52) = some n → s.resps = [] → Gives (.slAddr v) s fun t => t.tap.ir = 0x40 ∧ t.tap.slResult = 0 ∧
      (t.hinge n).rootQ = (s.hinge n).rootQ ++ [(kclkEdge s.now + 6 * keywayLeg n, ⟨safelightReq, BitVec.ofNat 52 v, if v.testBit 52 then .store else .load, 8,
        w64 s.tap.slData, s.tb, 0⟩)]) ∧
    (s.resps = [] → Gives (.slData v) s fun t => t.tap = { s.tap with ir := 0x41, tdo := s.tap.slResult, slData := v % 2 ^ 64 } ∧ { t with tap := s.tap } = s) ∧
    (∀ r, s.resps = [r] → r.who = safelightReq → r.tag = 0 → Gives (.slData v) s fun t => t.resps = [] ∧ t.now = max s.now r.at_ ∧
      t.tap.tdo = 2 ^ 65 + (if r.err then 2 ^ 64 else 0) + r.data.toNat))

-- the machine as a whole

/-- A step takes the command at the front of the queue and runs it on the state with the queue's rest; on an empty queue the block idles for one
mclk (the model's choice, log entry 1). -/
def Obligations.StepRunsTheFrontCommand : Prop :=
  (∀ (c : Instr) (q : List Instr) (s : State), step { s with pending := c :: q } = exec c { s with pending := q }) ∧
  ∀ s : State, s.pending = [] → step s = .next { s with now := s.now + 1 }

/-- R11, R48, R85, R119, R217, R340, R443, R445, R478, R479, R480: after a cold reset every register holds its Reset column value, of which some are named here; the tables
are canonical, no hart has started, no message is on its way, and every byte of memory reads 0 (log entry 5). -/
def Obligations.ResetState : Prop :=
  let z := State.reset
  Canonical z ∧ z.pending = [] ∧ z.out = [] ∧ z.reports = [] ∧ (∀ a, z.memByte a = 0) ∧ (∀ h, (z.hart h).started = false) ∧ z.bolted = false ∧
  (∀ a, z.reg a = (resetWord a).toNat) ∧
  z.fld (rasPg 0) R.RAS_HEALTH_STATE = 0 ∧ z.fld (rasPg 0) R.RAS_POLICY_CORE_RETIRE = 2 ∧ z.fld (rasPg 0) R.RAS_POLICY_DE_RETIRE = 2 ∧
  z.fld (rasPg 0) R.RAS_POLICY_CL_MAX = 2 ∧ z.flag (rasPg 0) R.RAS_POLICY_MIGRATE = true ∧
  z.fld thermPg R.THM_CTL_THROTTLE = 100 ∧ z.fld thermPg R.THM_CTL_ALERT = 95 ∧ z.fld thermPg R.THM_CTL_PROCHOT_FREQ = 8 ∧
  (z.exitLength 0 = 30 ∧ z.exitLength 1 = 700 ∧ z.exitLength 2 = 100 ∧ z.exitLength 3 = 1500 ∧ z.exitLength 4 = 10000) ∧
  (∀ k : CoreId, z.fld (corePg k) R.CORE_RUN_HART0 = k ∧ z.fld pwrPg (R.PWR_FREQ_REQ.nth k) = 26 ∧ z.fld pwrPg (R.PWR_FREQ_CUR.nth k) = 26) ∧
  (∀ c : Tile, z.flag (slicePg c) R.SLC_CTL_EN = false ∧ z.flag (negPg c) (R.CL_NEG_SLOT_VALID.nth 3) = true ∧
    z.flag (negPg c) (R.CL_NEG_SLOT_VALID.nth 4) = false ∧ z.fld (negPg c) (R.CL_NEG_SLOT_HART.nth 3) = 4 * c + 3) ∧
  (∀ d : Fin 6, z.fld thermPg (R.THM_CAP_CAP d) = 36) ∧ (∀ b : Mbx, z.fld (mbxPg b) R.WARD_MBX_STATUS_STATE = 0)

/-- Every step from a state whose tables are canonical leaves them so, takes exactly the front command off the queue, and, a cold reset apart, never
turns the clock back. -/
def Obligations.EveryStepKeepsTheMachineCanonical : Prop :=
  ∀ s t : State, step s = .next t →
    (Canonical s → Canonical t) ∧ t.pending = s.pending.tail ∧
    ((∀ cause, s.pending.head? ≠ some (.coldReset cause)) → s.pending.head? ≠ some .refclkSysLoss → s.now ≤ t.now)
end

