-- ==== Sys2Proof/Laws/Tab.lean ====
section
/-! SUPPORT. Sparse tables: a read after a write, and the canonical form every operation keeps. -/

namespace Sys2Proof.Machine

variable {α : Type}

theorem Tab.get_ins_self (d : α) (t : Tab α) (k : Nat) (v : α) : Tab.get d (Tab.ins k v t) k = v := by
  induction t with
  | nil => simp [Tab.ins, Tab.get]
  | cons e t ih =>
    obtain ⟨j, u⟩ := e
    simp only [Tab.ins]
    split
    · simp [Tab.get]
    · split
      · simp [Tab.get]
      · rename_i h; simp [Tab.get, h, ih]

theorem Tab.get_ins_ne (d : α) (t : Tab α) {k j : Nat} (v : α) (h : k ≠ j) : Tab.get d (Tab.ins k v t) j = Tab.get d t j := by
  induction t with
  | nil => simp [Tab.ins, Tab.get, h]
  | cons e t ih =>
    obtain ⟨i, u⟩ := e
    simp only [Tab.ins]
    split
    · simp [Tab.get, h]
    · split
      · rename_i hi; subst hi; simp [Tab.get, h]
      · simp only [Tab.get]; split <;> simp [ih]

theorem Tab.get_del_self (d : α) (t : Tab α) (k : Nat) : Tab.get d (Tab.del k t) k = d := by
  induction t with
  | nil => rfl
  | cons e t ih =>
    obtain ⟨i, u⟩ := e
    by_cases hi : i = k
    · simpa [Tab.del, hi] using ih
    · have : Tab.del k ((i, u) :: t) = (i, u) :: Tab.del k t := by simp [Tab.del, hi]
      rw [this]; simp [Tab.get, hi, ih]

theorem Tab.get_del_ne (d : α) (t : Tab α) {k j : Nat} (h : k ≠ j) : Tab.get d (Tab.del k t) j = Tab.get d t j := by
  induction t with
  | nil => rfl
  | cons e t ih =>
    obtain ⟨i, u⟩ := e
    by_cases hi : i = k
    · have : Tab.del k ((i, u) :: t) = Tab.del k t := by simp [Tab.del, hi]
      rw [this, ih]; simp [Tab.get, hi, h]
    · have : Tab.del k ((i, u) :: t) = (i, u) :: Tab.del k t := by simp [Tab.del, hi]
      rw [this]; simp only [Tab.get]; split <;> simp [ih]

@[simp] theorem Tab.get_set_self [DecidableEq α] (d : α) (t : Tab α) (k : Nat) (v : α) : Tab.get d (Tab.set d t k v) k = v := by
  unfold Tab.set; split
  · rename_i h; rw [Tab.get_del_self, h]
  · exact Tab.get_ins_self d t k v

theorem Tab.get_set_ne [DecidableEq α] (d e : α) (t : Tab α) {k j : Nat} (v : α) (h : k ≠ j) :
    Tab.get d (Tab.set e t k v) j = Tab.get d t j := by
  unfold Tab.set; split
  · exact Tab.get_del_ne d t h
  · exact Tab.get_ins_ne d t v h

/-- Keys above every key of a rising table may be asked for from a lower bound. -/
theorem Tab.risingFrom_weaken {t : Tab α} {a b : Nat} (h : Tab.risingFrom (some b) t = true) (hab : a ≤ b) :
    Tab.risingFrom (some a) t = true := by
  cases t with
  | nil => rfl
  | cons e t =>
    obtain ⟨j, u⟩ := e
    simp only [Tab.risingFrom, Bool.and_eq_true, decide_eq_true_eq] at h ⊢
    exact ⟨by omega, h.2⟩

theorem Tab.risingFrom_ins {t : Tab α} {b : Option Nat} {k : Nat} (v : α) (h : Tab.risingFrom b t = true) (hk : ∀ m, b = some m → m < k) :
    Tab.risingFrom b (Tab.ins k v t) = true := by
  induction t generalizing b with
  | nil => cases b <;> simp_all [Tab.ins, Tab.risingFrom]
  | cons e t ih =>
    obtain ⟨j, u⟩ := e
    simp only [Tab.risingFrom, Bool.and_eq_true] at h
    simp only [Tab.ins]
    split
    · rename_i hkj
      cases b <;> simp_all [Tab.risingFrom]
    · split
      · rename_i hjk; subst hjk
        simp only [Tab.risingFrom, Bool.and_eq_true]; exact h
      · simp only [Tab.risingFrom, Bool.and_eq_true]
        exact ⟨h.1, ih h.2 (by intro m hm; cases hm; omega)⟩

theorem Tab.risingFrom_filter {t : Tab α} {b : Option Nat} (p : Nat × α → Bool) (h : Tab.risingFrom b t = true) :
    Tab.risingFrom b (t.filter p) = true := by
  induction t generalizing b with
  | nil => exact h
  | cons e t ih =>
    obtain ⟨j, u⟩ := e
    simp only [Tab.risingFrom, Bool.and_eq_true] at h
    by_cases hp : p (j, u) = true
    · simp only [List.filter_cons, hp, if_true, Tab.risingFrom, Bool.and_eq_true]
      exact ⟨h.1, ih h.2⟩
    · simp only [List.filter_cons, hp]
      refine ih ?_
      cases b with
      | none =>
        have := h.2
        cases t with
        | nil => rfl
        | cons e t => simp only [Tab.risingFrom, Bool.and_eq_true] at this ⊢; exact ⟨trivial, this.2⟩
      | some m => exact Tab.risingFrom_weaken h.2 (by simpa using Nat.le_of_lt (by simpa using h.1))

theorem Tab.mem_ins {t : Tab α} {k : Nat} {v : α} {e : Nat × α} (h : e ∈ Tab.ins k v t) : e = (k, v) ∨ e ∈ t := by
  induction t with
  | nil => simp_all [Tab.ins]
  | cons f t ih =>
    obtain ⟨j, u⟩ := f
    simp only [Tab.ins] at h
    split at h
    · simpa using h
    · split at h
      · simp only [List.mem_cons] at h ⊢; tauto
      · simp only [List.mem_cons] at h ⊢
        rcases h with h | h
        · tauto
        · have := ih h; tauto

/-- Writing keeps the canonical form, where the entry written by default is the key's own. -/
theorem Tab.wf_set [DecidableEq α] {d : Nat → α} {t : Tab α} (k : Nat) (v : α) (h : Tab.wf d t = true) :
    Tab.wf d (Tab.set (d k) t k v) = true := by
  simp only [Tab.wf, Bool.and_eq_true, List.all_eq_true, decide_eq_true_eq] at h ⊢
  unfold Tab.set
  split
  · exact ⟨Tab.risingFrom_filter _ h.1, fun e he => h.2 e (List.mem_of_mem_filter he)⟩
  · rename_i hv
    refine ⟨Tab.risingFrom_ins v h.1 (by intro m hm; cases hm), fun e he => ?_⟩
    rcases Tab.mem_ins he with rfl | he
    · exact hv
    · exact h.2 e he

theorem Tab.wf_filter [DecidableEq α] {d : Nat → α} {t : Tab α} (p : Nat × α → Bool) (h : Tab.wf d t = true) :
    Tab.wf d (t.filter p) = true := by
  simp only [Tab.wf, Bool.and_eq_true, List.all_eq_true, decide_eq_true_eq] at h ⊢
  exact ⟨Tab.risingFrom_filter p h.1, fun e he => h.2 e (List.mem_of_mem_filter he)⟩

end Sys2Proof.Machine
end

