-- ==== Sys2Proof/Laws/Register.lean ====
section
/-! SUPPORT. Registers, fields and memory: a read after a write, and what a write leaves alone. -/

namespace Sys2Proof.Machine

theorem bits_lt (w hi lo : Nat) : bits w hi lo < 2 ^ (hi + 1 - lo) := Nat.mod_lt _ (by positivity)

theorem State.reg_lt (s : State) (a : Nat) : s.reg a < 2 ^ 64 := by unfold State.reg; exact (BitVec.isLt _)

@[simp] theorem State.reg_setReg (s : State) (a v : Nat) : (s.setReg a v).reg a = v % 2 ^ 64 := by
  simp [State.reg, State.setReg, w64]

theorem State.reg_setReg_ne (s : State) {a b : Nat} (v : Nat) (h : a / 8 ≠ b / 8) : (s.setReg a v).reg b = s.reg b := by
  simp only [State.reg, State.setReg]; rw [Tab.get_set_ne _ _ _ _ h]

theorem State.fld_setReg_ne (s : State) {a pg : Nat} {f : Field} (v : Nat) (h : a / 8 ≠ (pg + f.off) / 8) :
    (s.setReg a v).fld pg f = s.fld pg f := by
  unfold State.fld; rw [State.reg_setReg_ne _ _ h]

theorem State.reg_setFld_ne (s : State) {pg b : Nat} {f : Field} (v : Nat) (h : (pg + f.off) / 8 ≠ b / 8) :
    (s.setFld pg f v).reg b = s.reg b := State.reg_setReg_ne _ _ h

theorem State.fld_setFld_other (s : State) {pg pg' : Nat} {f f' : Field} (v : Nat) (h : (pg + f.off) / 8 ≠ (pg' + f'.off) / 8) :
    (s.setFld pg f v).fld pg' f' = s.fld pg' f' := State.fld_setReg_ne _ _ h

/-- A number is its high part, a field and its low part. -/
theorem bits_split (w hi lo : Nat) (h : lo ≤ hi) :
    w = w / 2 ^ (hi + 1) * 2 ^ (hi + 1) + bits w hi lo * 2 ^ lo + w % 2 ^ lo := by
  have e : 2 ^ (hi + 1) = 2 ^ lo * 2 ^ (hi + 1 - lo) := by rw [← pow_add]; congr 1; omega
  have h1 := Nat.div_add_mod w (2 ^ lo)
  have h2 := Nat.div_add_mod (w / 2 ^ lo) (2 ^ (hi + 1 - lo))
  rw [Nat.div_div_eq_div_mul, ← e] at h2
  simp only [bits, Nat.shiftRight_eq_div_pow]
  rw [e] at h2 ⊢
  calc w = 2 ^ lo * (w / 2 ^ lo) + w % 2 ^ lo := h1.symm
    _ = 2 ^ lo * (2 ^ (hi + 1 - lo) * (w / (2 ^ lo * 2 ^ (hi + 1 - lo))) + w / 2 ^ lo % 2 ^ (hi + 1 - lo)) + w % 2 ^ lo := by rw [h2]
    _ = _ := by ring

theorem putBits_eq (w hi lo v : Nat) (h : lo ≤ hi) :
    putBits w hi lo v = w / 2 ^ (hi + 1) * 2 ^ (hi + 1) + (v % 2 ^ (hi + 1 - lo)) * 2 ^ lo + w % 2 ^ lo := by
  have := bits_split w hi lo h
  unfold putBits
  rw [Nat.shiftLeft_eq, Nat.shiftLeft_eq]
  omega

/-- Reading a field after it was replaced gives its new value. -/
theorem bits_putBits (w hi lo v : Nat) (h : lo ≤ hi) : bits (putBits w hi lo v) hi lo = v % 2 ^ (hi + 1 - lo) := by
  have e : 2 ^ (hi + 1) = 2 ^ lo * 2 ^ (hi + 1 - lo) := by rw [← pow_add]; congr 1; omega
  have hl : w % 2 ^ lo < 2 ^ lo := Nat.mod_lt _ (by positivity)
  rw [putBits_eq w hi lo v h]
  simp only [bits, Nat.shiftRight_eq_div_pow]
  have : (w / 2 ^ (hi + 1) * 2 ^ (hi + 1) + v % 2 ^ (hi + 1 - lo) * 2 ^ lo + w % 2 ^ lo) / 2 ^ lo =
      w / 2 ^ (hi + 1) * 2 ^ (hi + 1 - lo) + v % 2 ^ (hi + 1 - lo) := by
    have : w / 2 ^ (hi + 1) * 2 ^ (hi + 1) + v % 2 ^ (hi + 1 - lo) * 2 ^ lo + w % 2 ^ lo =
        w % 2 ^ lo + 2 ^ lo * (w / 2 ^ (hi + 1) * 2 ^ (hi + 1 - lo) + v % 2 ^ (hi + 1 - lo)) := by rw [e]; ring
    rw [this, Nat.add_mul_div_left _ _ (by positivity), Nat.div_eq_of_lt hl]; omega
  rw [this, Nat.add_comm, Nat.add_mul_mod_self_right, Nat.mod_mod]

theorem putBits_lt (w hi lo v n : Nat) (h : lo ≤ hi) (hw : w < 2 ^ n) (hn : hi < n) : putBits w hi lo v < 2 ^ n := by
  obtain ⟨m, rfl⟩ : ∃ m, n = hi + 1 + m := ⟨n - (hi + 1), by omega⟩
  have e : 2 ^ (hi + 1) = 2 ^ lo * 2 ^ (hi + 1 - lo) := by rw [← pow_add]; congr 1; omega
  have hl : w % 2 ^ lo < 2 ^ lo := Nat.mod_lt _ (by positivity)
  have hv : v % 2 ^ (hi + 1 - lo) < 2 ^ (hi + 1 - lo) := Nat.mod_lt _ (by positivity)
  have hq : w / 2 ^ (hi + 1) < 2 ^ m := Nat.div_lt_of_lt_mul (by rw [← pow_add]; exact hw)
  rw [putBits_eq w hi lo v h]
  have h1 : v % 2 ^ (hi + 1 - lo) * 2 ^ lo + w % 2 ^ lo < 2 ^ (hi + 1) := by
    rw [e]
    calc _ < v % 2 ^ (hi + 1 - lo) * 2 ^ lo + 2 ^ lo := by omega
      _ = (v % 2 ^ (hi + 1 - lo) + 1) * 2 ^ lo := by ring
      _ ≤ 2 ^ (hi + 1 - lo) * 2 ^ lo := Nat.mul_le_mul_right _ hv
      _ = _ := by ring
  calc _ < w / 2 ^ (hi + 1) * 2 ^ (hi + 1) + 2 ^ (hi + 1) := by omega
    _ = (w / 2 ^ (hi + 1) + 1) * 2 ^ (hi + 1) := by ring
    _ ≤ 2 ^ m * 2 ^ (hi + 1) := Nat.mul_le_mul_right _ hq
    _ = _ := by rw [← pow_add, Nat.add_comm]

/-- A field reads as it was last stored. -/
theorem State.fld_setFld (s : State) (pg : Nat) (f : Field) (v : Nat) (h : f.lo ≤ f.hi) (hh : f.hi < 64) :
    (s.setFld pg f v).fld pg f = v % 2 ^ (f.hi + 1 - f.lo) := by
  unfold State.fld State.setFld
  rw [State.reg_setReg, Nat.mod_eq_of_lt (putBits_lt _ _ _ _ 64 h (State.reg_lt s _) hh), bits_putBits _ _ _ _ h]

@[simp] theorem State.memByte_setMemByte (s : State) (a : Nat) (b : Byte) : (s.setMemByte a b).memByte a = b := by
  simp [State.memByte, State.setMemByte]

theorem State.memByte_setMemByte_ne (s : State) {a c : Nat} (b : Byte) (h : a ≠ c) : (s.setMemByte a b).memByte c = s.memByte c := by
  simp only [State.memByte, State.setMemByte]; exact Tab.get_set_ne _ _ _ _ h

/-- Storing bytes leaves every other byte. -/
theorem State.memByte_setMemBytes_out (l : List Byte) : ∀ (s : State) (a c : Nat), (c < a ∨ a + l.length ≤ c) →
    (s.setMemBytes a l).memByte c = s.memByte c := by
  induction l with
  | nil => intros; rfl
  | cons b t ih =>
    intro s a c h
    simp only [State.setMemBytes]
    simp only [List.length_cons] at h
    rw [ih _ _ _ (by omega), State.memByte_setMemByte_ne _ _ (by omega)]

theorem State.mem_setMemBytes_wf (l : List Byte) : ∀ (s : State) (a : Nat), Memory.wf s.mem = true →
    Memory.wf (s.setMemBytes a l).mem = true := by
  induction l with
  | nil => intro s a h; exact h
  | cons b t ih =>
    intro s a h
    exact ih _ _ (Tab.wf_set (d := fun _ => (0 : Byte)) a b h)

/-- Storing a line keeps the canonical form of memory. -/
theorem State.mem_setMemLine_wf (s : State) (pa : Nat) (l : Line) (h : Memory.wf s.mem = true) :
    Memory.wf (s.setMemLine pa l).mem = true := State.mem_setMemBytes_wf _ _ _ h

/-- Storing one byte keeps the canonical form of memory. -/
theorem State.mem_setMemByte_wf (s : State) (a : Nat) (b : Byte) (h : Memory.wf s.mem = true) :
    Memory.wf (s.setMemByte a b).mem = true := Tab.wf_set (d := fun _ => (0 : Byte)) a b h

theorem length_leBytes (n v : Nat) : (leBytes n v).length = n := by
  induction n generalizing v with
  | zero => rfl
  | succ n ih => simp [leBytes, ih]

/-- Storing a line leaves every byte outside it. -/
theorem State.memByte_setMemLine_out (s : State) (pa : Nat) (l : Line) (c : Nat) (h : c / 64 ≠ pa / 64) :
    (s.setMemLine pa l).memByte c = s.memByte c := by
  refine State.memByte_setMemBytes_out _ _ _ _ ?_
  rw [length_leBytes]; unfold lineBase
  omega

end Sys2Proof.Machine
end

