-- ==== Sys2Proof/Laws/State.lean ====
section
/-! SUPPORT. Every update of the state leaves every other field, and what is read from it, as it was; a block that is read back is the one
written. Each lemma is a conjunction of equations, which simp takes apart. -/

namespace Sys2Proof.Machine

@[simp] theorem State.toMclk_frame (s : State) (t : Nat) :
    (s.toMclk t).regs = s.regs ∧ (s.toMclk t).hinges = s.hinges ∧ (s.toMclk t).resps = s.resps ∧ (s.toMclk t).reports = s.reports ∧
    (s.toMclk t).reported = s.reported ∧ (s.toMclk t).log = s.log ∧ (s.toMclk t).wires = s.wires ∧ (s.toMclk t).out = s.out ∧
    (s.toMclk t).mesh = s.mesh ∧ (s.toMclk t).tct = s.tct ∧ (s.toMclk t).home = s.home ∧ (s.toMclk t).mem = s.mem ∧ (s.toMclk t).attrs = s.attrs ∧
    (s.toMclk t).harts = s.harts ∧ (s.toMclk t).hartCore = s.hartCore ∧ (s.toMclk t).cores = s.cores ∧ (s.toMclk t).clusters = s.clusters ∧
    (s.toMclk t).slices = s.slices ∧ (s.toMclk t).mcs = s.mcs ∧ (s.toMclk t).ward = s.ward ∧ (s.toMclk t).engines = s.engines ∧
    (s.toMclk t).queues = s.queues ∧ (s.toMclk t).dmas = s.dmas ∧ (s.toMclk t).router = s.router ∧ (s.toMclk t).ports = s.ports ∧
    (s.toMclk t).links = s.links ∧ (s.toMclk t).power = s.power ∧ (s.toMclk t).boot = s.boot ∧ (s.toMclk t).sideband = s.sideband ∧
    (s.toMclk t).tap = s.tap ∧ (s.toMclk t).free = s.free ∧ (s.toMclk t).pending = s.pending ∧ (∀ (x0 : Nat), (s.toMclk t).reg x0 = s.reg x0) ∧
    (∀ (x0 : Nat) (x1 : Field), (s.toMclk t).fld x0 x1 = s.fld x0 x1) ∧ (∀ (x0 : Nat) (x1 : Field), (s.toMclk t).flag x0 x1 = s.flag x0 x1) ∧
    (∀ (x0 : Nat), (s.toMclk t).hart x0 = s.hart x0) ∧ (∀ (x0 : Nat), (s.toMclk t).core x0 = s.core x0) ∧
    (∀ (x0 : Nat), (s.toMclk t).cluster x0 = s.cluster x0) ∧ (∀ (x0 : Nat), (s.toMclk t).slice x0 = s.slice x0) ∧
    (∀ (x0 : Nat), (s.toMclk t).mc x0 = s.mc x0) ∧ (∀ (x0 : Nat), (s.toMclk t).engine x0 = s.engine x0) ∧
    (∀ (x0 : Nat), (s.toMclk t).queue x0 = s.queue x0) ∧ (∀ (x0 x1 : Nat), (s.toMclk t).dma x0 x1 = s.dma x0 x1) ∧
    (∀ (x0 : Nat), (s.toMclk t).port x0 = s.port x0) ∧ (∀ (x0 x1 : Nat), (s.toMclk t).link x0 x1 = s.link x0 x1) ∧
    (∀ (x0 : Nat), (s.toMclk t).hinge x0 = s.hinge x0) ∧ (∀ (x0 : Nat), (s.toMclk t).mbxState x0 = s.mbxState x0) ∧
    (∀ (x0 : Nat), (s.toMclk t).memByte x0 = s.memByte x0) ∧ (∀ (x0 x1 : Nat), (s.toMclk t).lineAttr x0 x1 = s.lineAttr x0 x1) :=
  ⟨rfl, rfl, rfl, rfl, rfl, rfl, rfl, rfl, rfl, rfl, rfl, rfl, rfl, rfl, rfl, rfl, rfl, rfl, rfl, rfl, rfl, rfl, rfl, rfl, rfl, rfl, rfl, rfl, rfl,
   rfl, rfl, rfl, fun _ => rfl, fun _ _ => rfl, fun _ _ => rfl, fun _ => rfl, fun _ => rfl, fun _ => rfl, fun _ => rfl, fun _ => rfl, fun _ => rfl,
   fun _ => rfl, fun _ _ => rfl, fun _ => rfl, fun _ _ => rfl, fun _ => rfl, fun _ => rfl, fun _ => rfl, fun _ _ => rfl⟩

@[simp] theorem State.setReg_frame (s : State) (a v : Nat) :
    (s.setReg a v).now = s.now ∧ (s.setReg a v).hinges = s.hinges ∧ (s.setReg a v).resps = s.resps ∧ (s.setReg a v).reports = s.reports ∧
    (s.setReg a v).reported = s.reported ∧ (s.setReg a v).log = s.log ∧ (s.setReg a v).wires = s.wires ∧ (s.setReg a v).out = s.out ∧
    (s.setReg a v).mesh = s.mesh ∧ (s.setReg a v).tct = s.tct ∧ (s.setReg a v).home = s.home ∧ (s.setReg a v).mem = s.mem ∧
    (s.setReg a v).attrs = s.attrs ∧ (s.setReg a v).harts = s.harts ∧ (s.setReg a v).hartCore = s.hartCore ∧ (s.setReg a v).cores = s.cores ∧
    (s.setReg a v).clusters = s.clusters ∧ (s.setReg a v).slices = s.slices ∧ (s.setReg a v).mcs = s.mcs ∧ (s.setReg a v).ward = s.ward ∧
    (s.setReg a v).engines = s.engines ∧ (s.setReg a v).queues = s.queues ∧ (s.setReg a v).dmas = s.dmas ∧ (s.setReg a v).router = s.router ∧
    (s.setReg a v).ports = s.ports ∧ (s.setReg a v).links = s.links ∧ (s.setReg a v).power = s.power ∧ (s.setReg a v).boot = s.boot ∧
    (s.setReg a v).sideband = s.sideband ∧ (s.setReg a v).tap = s.tap ∧ (s.setReg a v).free = s.free ∧ (s.setReg a v).pending = s.pending ∧
    (∀ (x0 : Nat), (s.setReg a v).hart x0 = s.hart x0) ∧ (∀ (x0 : Nat), (s.setReg a v).core x0 = s.core x0) ∧
    (∀ (x0 : Nat), (s.setReg a v).cluster x0 = s.cluster x0) ∧ (∀ (x0 : Nat), (s.setReg a v).slice x0 = s.slice x0) ∧
    (∀ (x0 : Nat), (s.setReg a v).mc x0 = s.mc x0) ∧ (∀ (x0 : Nat), (s.setReg a v).engine x0 = s.engine x0) ∧
    (∀ (x0 : Nat), (s.setReg a v).queue x0 = s.queue x0) ∧ (∀ (x0 x1 : Nat), (s.setReg a v).dma x0 x1 = s.dma x0 x1) ∧
    (∀ (x0 : Nat), (s.setReg a v).port x0 = s.port x0) ∧ (∀ (x0 x1 : Nat), (s.setReg a v).link x0 x1 = s.link x0 x1) ∧
    (∀ (x0 : Nat), (s.setReg a v).hinge x0 = s.hinge x0) ∧ (∀ (x0 : Nat), (s.setReg a v).mbxState x0 = s.mbxState x0) ∧
    (∀ (x0 : Nat), (s.setReg a v).memByte x0 = s.memByte x0) ∧ (∀ (x0 x1 : Nat), (s.setReg a v).lineAttr x0 x1 = s.lineAttr x0 x1) :=
  ⟨rfl, rfl, rfl, rfl, rfl, rfl, rfl, rfl, rfl, rfl, rfl, rfl, rfl, rfl, rfl, rfl, rfl, rfl, rfl, rfl, rfl, rfl, rfl, rfl, rfl, rfl, rfl, rfl, rfl,
   rfl, rfl, rfl, fun _ => rfl, fun _ => rfl, fun _ => rfl, fun _ => rfl, fun _ => rfl, fun _ => rfl, fun _ => rfl, fun _ _ => rfl, fun _ => rfl,
   fun _ _ => rfl, fun _ => rfl, fun _ => rfl, fun _ => rfl, fun _ _ => rfl⟩

@[simp] theorem State.setFld_frame (s : State) (pg : Nat) (f : Field) (v : Nat) :
    (s.setFld pg f v).now = s.now ∧ (s.setFld pg f v).hinges = s.hinges ∧ (s.setFld pg f v).resps = s.resps ∧ (s.setFld pg f v).reports = s.reports ∧
    (s.setFld pg f v).reported = s.reported ∧ (s.setFld pg f v).log = s.log ∧ (s.setFld pg f v).wires = s.wires ∧ (s.setFld pg f v).out = s.out ∧
    (s.setFld pg f v).mesh = s.mesh ∧ (s.setFld pg f v).tct = s.tct ∧ (s.setFld pg f v).home = s.home ∧ (s.setFld pg f v).mem = s.mem ∧
    (s.setFld pg f v).attrs = s.attrs ∧ (s.setFld pg f v).harts = s.harts ∧ (s.setFld pg f v).hartCore = s.hartCore ∧
    (s.setFld pg f v).cores = s.cores ∧ (s.setFld pg f v).clusters = s.clusters ∧ (s.setFld pg f v).slices = s.slices ∧
    (s.setFld pg f v).mcs = s.mcs ∧ (s.setFld pg f v).ward = s.ward ∧ (s.setFld pg f v).engines = s.engines ∧ (s.setFld pg f v).queues = s.queues ∧
    (s.setFld pg f v).dmas = s.dmas ∧ (s.setFld pg f v).router = s.router ∧ (s.setFld pg f v).ports = s.ports ∧ (s.setFld pg f v).links = s.links ∧
    (s.setFld pg f v).power = s.power ∧ (s.setFld pg f v).boot = s.boot ∧ (s.setFld pg f v).sideband = s.sideband ∧ (s.setFld pg f v).tap = s.tap ∧
    (s.setFld pg f v).free = s.free ∧ (s.setFld pg f v).pending = s.pending ∧ (∀ (x0 : Nat), (s.setFld pg f v).hart x0 = s.hart x0) ∧
    (∀ (x0 : Nat), (s.setFld pg f v).core x0 = s.core x0) ∧ (∀ (x0 : Nat), (s.setFld pg f v).cluster x0 = s.cluster x0) ∧
    (∀ (x0 : Nat), (s.setFld pg f v).slice x0 = s.slice x0) ∧ (∀ (x0 : Nat), (s.setFld pg f v).mc x0 = s.mc x0) ∧
    (∀ (x0 : Nat), (s.setFld pg f v).engine x0 = s.engine x0) ∧ (∀ (x0 : Nat), (s.setFld pg f v).queue x0 = s.queue x0) ∧
    (∀ (x0 x1 : Nat), (s.setFld pg f v).dma x0 x1 = s.dma x0 x1) ∧ (∀ (x0 : Nat), (s.setFld pg f v).port x0 = s.port x0) ∧
    (∀ (x0 x1 : Nat), (s.setFld pg f v).link x0 x1 = s.link x0 x1) ∧ (∀ (x0 : Nat), (s.setFld pg f v).hinge x0 = s.hinge x0) ∧
    (∀ (x0 : Nat), (s.setFld pg f v).mbxState x0 = s.mbxState x0) ∧ (∀ (x0 : Nat), (s.setFld pg f v).memByte x0 = s.memByte x0) ∧
    (∀ (x0 x1 : Nat), (s.setFld pg f v).lineAttr x0 x1 = s.lineAttr x0 x1) :=
  ⟨rfl, rfl, rfl, rfl, rfl, rfl, rfl, rfl, rfl, rfl, rfl, rfl, rfl, rfl, rfl, rfl, rfl, rfl, rfl, rfl, rfl, rfl, rfl, rfl, rfl, rfl, rfl, rfl, rfl,
   rfl, rfl, rfl, fun _ => rfl, fun _ => rfl, fun _ => rfl, fun _ => rfl, fun _ => rfl, fun _ => rfl, fun _ => rfl, fun _ _ => rfl, fun _ => rfl,
   fun _ _ => rfl, fun _ => rfl, fun _ => rfl, fun _ => rfl, fun _ _ => rfl⟩

@[simp] theorem State.setMemByte_frame (s : State) (a : Nat) (b : Byte) :
    (s.setMemByte a b).now = s.now ∧ (s.setMemByte a b).regs = s.regs ∧ (s.setMemByte a b).hinges = s.hinges ∧ (s.setMemByte a b).resps = s.resps ∧
    (s.setMemByte a b).reports = s.reports ∧ (s.setMemByte a b).reported = s.reported ∧ (s.setMemByte a b).log = s.log ∧
    (s.setMemByte a b).wires = s.wires ∧ (s.setMemByte a b).out = s.out ∧ (s.setMemByte a b).mesh = s.mesh ∧ (s.setMemByte a b).tct = s.tct ∧
    (s.setMemByte a b).home = s.home ∧ (s.setMemByte a b).attrs = s.attrs ∧ (s.setMemByte a b).harts = s.harts ∧
    (s.setMemByte a b).hartCore = s.hartCore ∧ (s.setMemByte a b).cores = s.cores ∧ (s.setMemByte a b).clusters = s.clusters ∧
    (s.setMemByte a b).slices = s.slices ∧ (s.setMemByte a b).mcs = s.mcs ∧ (s.setMemByte a b).ward = s.ward ∧
    (s.setMemByte a b).engines = s.engines ∧ (s.setMemByte a b).queues = s.queues ∧ (s.setMemByte a b).dmas = s.dmas ∧
    (s.setMemByte a b).router = s.router ∧ (s.setMemByte a b).ports = s.ports ∧ (s.setMemByte a b).links = s.links ∧
    (s.setMemByte a b).power = s.power ∧ (s.setMemByte a b).boot = s.boot ∧ (s.setMemByte a b).sideband = s.sideband ∧
    (s.setMemByte a b).tap = s.tap ∧ (s.setMemByte a b).free = s.free ∧ (s.setMemByte a b).pending = s.pending ∧
    (∀ (x0 : Nat), (s.setMemByte a b).reg x0 = s.reg x0) ∧ (∀ (x0 : Nat) (x1 : Field), (s.setMemByte a b).fld x0 x1 = s.fld x0 x1) ∧
    (∀ (x0 : Nat) (x1 : Field), (s.setMemByte a b).flag x0 x1 = s.flag x0 x1) ∧ (∀ (x0 : Nat), (s.setMemByte a b).hart x0 = s.hart x0) ∧
    (∀ (x0 : Nat), (s.setMemByte a b).core x0 = s.core x0) ∧ (∀ (x0 : Nat), (s.setMemByte a b).cluster x0 = s.cluster x0) ∧
    (∀ (x0 : Nat), (s.setMemByte a b).slice x0 = s.slice x0) ∧ (∀ (x0 : Nat), (s.setMemByte a b).mc x0 = s.mc x0) ∧
    (∀ (x0 : Nat), (s.setMemByte a b).engine x0 = s.engine x0) ∧ (∀ (x0 : Nat), (s.setMemByte a b).queue x0 = s.queue x0) ∧
    (∀ (x0 x1 : Nat), (s.setMemByte a b).dma x0 x1 = s.dma x0 x1) ∧ (∀ (x0 : Nat), (s.setMemByte a b).port x0 = s.port x0) ∧
    (∀ (x0 x1 : Nat), (s.setMemByte a b).link x0 x1 = s.link x0 x1) ∧ (∀ (x0 : Nat), (s.setMemByte a b).hinge x0 = s.hinge x0) ∧
    (∀ (x0 : Nat), (s.setMemByte a b).mbxState x0 = s.mbxState x0) ∧ (∀ (x0 x1 : Nat), (s.setMemByte a b).lineAttr x0 x1 = s.lineAttr x0 x1) :=
  ⟨rfl, rfl, rfl, rfl, rfl, rfl, rfl, rfl, rfl, rfl, rfl, rfl, rfl, rfl, rfl, rfl, rfl, rfl, rfl, rfl, rfl, rfl, rfl, rfl, rfl, rfl, rfl, rfl, rfl,
   rfl, rfl, rfl, fun _ => rfl, fun _ _ => rfl, fun _ _ => rfl, fun _ => rfl, fun _ => rfl, fun _ => rfl, fun _ => rfl, fun _ => rfl, fun _ => rfl,
   fun _ => rfl, fun _ _ => rfl, fun _ => rfl, fun _ _ => rfl, fun _ => rfl, fun _ => rfl, fun _ _ => rfl⟩

@[simp] theorem State.setLineAttr_frame (s : State) (pa cp : Nat) (x : LineAttr) :
    (s.setLineAttr pa cp x).now = s.now ∧ (s.setLineAttr pa cp x).regs = s.regs ∧ (s.setLineAttr pa cp x).hinges = s.hinges ∧
    (s.setLineAttr pa cp x).resps = s.resps ∧ (s.setLineAttr pa cp x).reports = s.reports ∧ (s.setLineAttr pa cp x).reported = s.reported ∧
    (s.setLineAttr pa cp x).log = s.log ∧ (s.setLineAttr pa cp x).wires = s.wires ∧ (s.setLineAttr pa cp x).out = s.out ∧
    (s.setLineAttr pa cp x).mesh = s.mesh ∧ (s.setLineAttr pa cp x).tct = s.tct ∧ (s.setLineAttr pa cp x).home = s.home ∧
    (s.setLineAttr pa cp x).mem = s.mem ∧ (s.setLineAttr pa cp x).harts = s.harts ∧ (s.setLineAttr pa cp x).hartCore = s.hartCore ∧
    (s.setLineAttr pa cp x).cores = s.cores ∧ (s.setLineAttr pa cp x).clusters = s.clusters ∧ (s.setLineAttr pa cp x).slices = s.slices ∧
    (s.setLineAttr pa cp x).mcs = s.mcs ∧ (s.setLineAttr pa cp x).ward = s.ward ∧ (s.setLineAttr pa cp x).engines = s.engines ∧
    (s.setLineAttr pa cp x).queues = s.queues ∧ (s.setLineAttr pa cp x).dmas = s.dmas ∧ (s.setLineAttr pa cp x).router = s.router ∧
    (s.setLineAttr pa cp x).ports = s.ports ∧ (s.setLineAttr pa cp x).links = s.links ∧ (s.setLineAttr pa cp x).power = s.power ∧
    (s.setLineAttr pa cp x).boot = s.boot ∧ (s.setLineAttr pa cp x).sideband = s.sideband ∧ (s.setLineAttr pa cp x).tap = s.tap ∧
    (s.setLineAttr pa cp x).free = s.free ∧ (s.setLineAttr pa cp x).pending = s.pending ∧ (∀ (x0 : Nat), (s.setLineAttr pa cp x).reg x0 = s.reg x0) ∧
    (∀ (x0 : Nat) (x1 : Field), (s.setLineAttr pa cp x).fld x0 x1 = s.fld x0 x1) ∧
    (∀ (x0 : Nat) (x1 : Field), (s.setLineAttr pa cp x).flag x0 x1 = s.flag x0 x1) ∧ (∀ (x0 : Nat), (s.setLineAttr pa cp x).hart x0 = s.hart x0) ∧
    (∀ (x0 : Nat), (s.setLineAttr pa cp x).core x0 = s.core x0) ∧ (∀ (x0 : Nat), (s.setLineAttr pa cp x).cluster x0 = s.cluster x0) ∧
    (∀ (x0 : Nat), (s.setLineAttr pa cp x).slice x0 = s.slice x0) ∧ (∀ (x0 : Nat), (s.setLineAttr pa cp x).mc x0 = s.mc x0) ∧
    (∀ (x0 : Nat), (s.setLineAttr pa cp x).engine x0 = s.engine x0) ∧ (∀ (x0 : Nat), (s.setLineAttr pa cp x).queue x0 = s.queue x0) ∧
    (∀ (x0 x1 : Nat), (s.setLineAttr pa cp x).dma x0 x1 = s.dma x0 x1) ∧ (∀ (x0 : Nat), (s.setLineAttr pa cp x).port x0 = s.port x0) ∧
    (∀ (x0 x1 : Nat), (s.setLineAttr pa cp x).link x0 x1 = s.link x0 x1) ∧ (∀ (x0 : Nat), (s.setLineAttr pa cp x).hinge x0 = s.hinge x0) ∧
    (∀ (x0 : Nat), (s.setLineAttr pa cp x).mbxState x0 = s.mbxState x0) ∧ (∀ (x0 : Nat), (s.setLineAttr pa cp x).memByte x0 = s.memByte x0) :=
  ⟨rfl, rfl, rfl, rfl, rfl, rfl, rfl, rfl, rfl, rfl, rfl, rfl, rfl, rfl, rfl, rfl, rfl, rfl, rfl, rfl, rfl, rfl, rfl, rfl, rfl, rfl, rfl, rfl, rfl,
   rfl, rfl, rfl, fun _ => rfl, fun _ _ => rfl, fun _ _ => rfl, fun _ => rfl, fun _ => rfl, fun _ => rfl, fun _ => rfl, fun _ => rfl, fun _ => rfl,
   fun _ => rfl, fun _ _ => rfl, fun _ => rfl, fun _ _ => rfl, fun _ => rfl, fun _ => rfl, fun _ => rfl⟩

@[simp] theorem State.sendAt_frame (s : State) (t : Nat) (f : Flit) :
    (s.sendAt t f).now = s.now ∧ (s.sendAt t f).regs = s.regs ∧ (s.sendAt t f).hinges = s.hinges ∧ (s.sendAt t f).resps = s.resps ∧
    (s.sendAt t f).reports = s.reports ∧ (s.sendAt t f).reported = s.reported ∧ (s.sendAt t f).log = s.log ∧ (s.sendAt t f).wires = s.wires ∧
    (s.sendAt t f).mesh = s.mesh ∧ (s.sendAt t f).tct = s.tct ∧ (s.sendAt t f).home = s.home ∧ (s.sendAt t f).mem = s.mem ∧
    (s.sendAt t f).attrs = s.attrs ∧ (s.sendAt t f).harts = s.harts ∧ (s.sendAt t f).hartCore = s.hartCore ∧ (s.sendAt t f).cores = s.cores ∧
    (s.sendAt t f).clusters = s.clusters ∧ (s.sendAt t f).slices = s.slices ∧ (s.sendAt t f).mcs = s.mcs ∧ (s.sendAt t f).ward = s.ward ∧
    (s.sendAt t f).engines = s.engines ∧ (s.sendAt t f).queues = s.queues ∧ (s.sendAt t f).dmas = s.dmas ∧ (s.sendAt t f).router = s.router ∧
    (s.sendAt t f).ports = s.ports ∧ (s.sendAt t f).links = s.links ∧ (s.sendAt t f).power = s.power ∧ (s.sendAt t f).boot = s.boot ∧
    (s.sendAt t f).sideband = s.sideband ∧ (s.sendAt t f).tap = s.tap ∧ (s.sendAt t f).free = s.free ∧ (s.sendAt t f).pending = s.pending ∧
    (∀ (x0 : Nat), (s.sendAt t f).reg x0 = s.reg x0) ∧ (∀ (x0 : Nat) (x1 : Field), (s.sendAt t f).fld x0 x1 = s.fld x0 x1) ∧
    (∀ (x0 : Nat) (x1 : Field), (s.sendAt t f).flag x0 x1 = s.flag x0 x1) ∧ (∀ (x0 : Nat), (s.sendAt t f).hart x0 = s.hart x0) ∧
    (∀ (x0 : Nat), (s.sendAt t f).core x0 = s.core x0) ∧ (∀ (x0 : Nat), (s.sendAt t f).cluster x0 = s.cluster x0) ∧
    (∀ (x0 : Nat), (s.sendAt t f).slice x0 = s.slice x0) ∧ (∀ (x0 : Nat), (s.sendAt t f).mc x0 = s.mc x0) ∧
    (∀ (x0 : Nat), (s.sendAt t f).engine x0 = s.engine x0) ∧ (∀ (x0 : Nat), (s.sendAt t f).queue x0 = s.queue x0) ∧
    (∀ (x0 x1 : Nat), (s.sendAt t f).dma x0 x1 = s.dma x0 x1) ∧ (∀ (x0 : Nat), (s.sendAt t f).port x0 = s.port x0) ∧
    (∀ (x0 x1 : Nat), (s.sendAt t f).link x0 x1 = s.link x0 x1) ∧ (∀ (x0 : Nat), (s.sendAt t f).hinge x0 = s.hinge x0) ∧
    (∀ (x0 : Nat), (s.sendAt t f).mbxState x0 = s.mbxState x0) ∧ (∀ (x0 : Nat), (s.sendAt t f).memByte x0 = s.memByte x0) ∧
    (∀ (x0 x1 : Nat), (s.sendAt t f).lineAttr x0 x1 = s.lineAttr x0 x1) :=
  ⟨rfl, rfl, rfl, rfl, rfl, rfl, rfl, rfl, rfl, rfl, rfl, rfl, rfl, rfl, rfl, rfl, rfl, rfl, rfl, rfl, rfl, rfl, rfl, rfl, rfl, rfl, rfl, rfl, rfl,
   rfl, rfl, rfl, fun _ => rfl, fun _ _ => rfl, fun _ _ => rfl, fun _ => rfl, fun _ => rfl, fun _ => rfl, fun _ => rfl, fun _ => rfl, fun _ => rfl,
   fun _ => rfl, fun _ _ => rfl, fun _ => rfl, fun _ _ => rfl, fun _ => rfl, fun _ => rfl, fun _ => rfl, fun _ _ => rfl⟩

@[simp] theorem State.send_frame (s : State) (f : Flit) :
    (s.send f).now = s.now ∧ (s.send f).regs = s.regs ∧ (s.send f).hinges = s.hinges ∧ (s.send f).resps = s.resps ∧ (s.send f).reports = s.reports ∧
    (s.send f).reported = s.reported ∧ (s.send f).log = s.log ∧ (s.send f).wires = s.wires ∧ (s.send f).mesh = s.mesh ∧ (s.send f).tct = s.tct ∧
    (s.send f).home = s.home ∧ (s.send f).mem = s.mem ∧ (s.send f).attrs = s.attrs ∧ (s.send f).harts = s.harts ∧ (s.send f).hartCore = s.hartCore ∧
    (s.send f).cores = s.cores ∧ (s.send f).clusters = s.clusters ∧ (s.send f).slices = s.slices ∧ (s.send f).mcs = s.mcs ∧ (s.send f).ward = s.ward ∧
    (s.send f).engines = s.engines ∧ (s.send f).queues = s.queues ∧ (s.send f).dmas = s.dmas ∧ (s.send f).router = s.router ∧
    (s.send f).ports = s.ports ∧ (s.send f).links = s.links ∧ (s.send f).power = s.power ∧ (s.send f).boot = s.boot ∧
    (s.send f).sideband = s.sideband ∧ (s.send f).tap = s.tap ∧ (s.send f).free = s.free ∧ (s.send f).pending = s.pending ∧
    (∀ (x0 : Nat), (s.send f).reg x0 = s.reg x0) ∧ (∀ (x0 : Nat) (x1 : Field), (s.send f).fld x0 x1 = s.fld x0 x1) ∧
    (∀ (x0 : Nat) (x1 : Field), (s.send f).flag x0 x1 = s.flag x0 x1) ∧ (∀ (x0 : Nat), (s.send f).hart x0 = s.hart x0) ∧
    (∀ (x0 : Nat), (s.send f).core x0 = s.core x0) ∧ (∀ (x0 : Nat), (s.send f).cluster x0 = s.cluster x0) ∧
    (∀ (x0 : Nat), (s.send f).slice x0 = s.slice x0) ∧ (∀ (x0 : Nat), (s.send f).mc x0 = s.mc x0) ∧
    (∀ (x0 : Nat), (s.send f).engine x0 = s.engine x0) ∧ (∀ (x0 : Nat), (s.send f).queue x0 = s.queue x0) ∧
    (∀ (x0 x1 : Nat), (s.send f).dma x0 x1 = s.dma x0 x1) ∧ (∀ (x0 : Nat), (s.send f).port x0 = s.port x0) ∧
    (∀ (x0 x1 : Nat), (s.send f).link x0 x1 = s.link x0 x1) ∧ (∀ (x0 : Nat), (s.send f).hinge x0 = s.hinge x0) ∧
    (∀ (x0 : Nat), (s.send f).mbxState x0 = s.mbxState x0) ∧ (∀ (x0 : Nat), (s.send f).memByte x0 = s.memByte x0) ∧
    (∀ (x0 x1 : Nat), (s.send f).lineAttr x0 x1 = s.lineAttr x0 x1) :=
  ⟨rfl, rfl, rfl, rfl, rfl, rfl, rfl, rfl, rfl, rfl, rfl, rfl, rfl, rfl, rfl, rfl, rfl, rfl, rfl, rfl, rfl, rfl, rfl, rfl, rfl, rfl, rfl, rfl, rfl,
   rfl, rfl, rfl, fun _ => rfl, fun _ _ => rfl, fun _ _ => rfl, fun _ => rfl, fun _ => rfl, fun _ => rfl, fun _ => rfl, fun _ => rfl, fun _ => rfl,
   fun _ => rfl, fun _ _ => rfl, fun _ => rfl, fun _ _ => rfl, fun _ => rfl, fun _ => rfl, fun _ => rfl, fun _ _ => rfl⟩

@[simp] theorem State.respond_frame (s : State) (r : Resp) :
    (s.respond r).now = s.now ∧ (s.respond r).regs = s.regs ∧ (s.respond r).hinges = s.hinges ∧ (s.respond r).reports = s.reports ∧
    (s.respond r).reported = s.reported ∧ (s.respond r).log = s.log ∧ (s.respond r).wires = s.wires ∧ (s.respond r).out = s.out ∧
    (s.respond r).mesh = s.mesh ∧ (s.respond r).tct = s.tct ∧ (s.respond r).home = s.home ∧ (s.respond r).mem = s.mem ∧
    (s.respond r).attrs = s.attrs ∧ (s.respond r).harts = s.harts ∧ (s.respond r).hartCore = s.hartCore ∧ (s.respond r).cores = s.cores ∧
    (s.respond r).clusters = s.clusters ∧ (s.respond r).slices = s.slices ∧ (s.respond r).mcs = s.mcs ∧ (s.respond r).ward = s.ward ∧
    (s.respond r).engines = s.engines ∧ (s.respond r).queues = s.queues ∧ (s.respond r).dmas = s.dmas ∧ (s.respond r).router = s.router ∧
    (s.respond r).ports = s.ports ∧ (s.respond r).links = s.links ∧ (s.respond r).power = s.power ∧ (s.respond r).boot = s.boot ∧
    (s.respond r).sideband = s.sideband ∧ (s.respond r).tap = s.tap ∧ (s.respond r).free = s.free ∧ (s.respond r).pending = s.pending ∧
    (∀ (x0 : Nat), (s.respond r).reg x0 = s.reg x0) ∧ (∀ (x0 : Nat) (x1 : Field), (s.respond r).fld x0 x1 = s.fld x0 x1) ∧
    (∀ (x0 : Nat) (x1 : Field), (s.respond r).flag x0 x1 = s.flag x0 x1) ∧ (∀ (x0 : Nat), (s.respond r).hart x0 = s.hart x0) ∧
    (∀ (x0 : Nat), (s.respond r).core x0 = s.core x0) ∧ (∀ (x0 : Nat), (s.respond r).cluster x0 = s.cluster x0) ∧
    (∀ (x0 : Nat), (s.respond r).slice x0 = s.slice x0) ∧ (∀ (x0 : Nat), (s.respond r).mc x0 = s.mc x0) ∧
    (∀ (x0 : Nat), (s.respond r).engine x0 = s.engine x0) ∧ (∀ (x0 : Nat), (s.respond r).queue x0 = s.queue x0) ∧
    (∀ (x0 x1 : Nat), (s.respond r).dma x0 x1 = s.dma x0 x1) ∧ (∀ (x0 : Nat), (s.respond r).port x0 = s.port x0) ∧
    (∀ (x0 x1 : Nat), (s.respond r).link x0 x1 = s.link x0 x1) ∧ (∀ (x0 : Nat), (s.respond r).hinge x0 = s.hinge x0) ∧
    (∀ (x0 : Nat), (s.respond r).mbxState x0 = s.mbxState x0) ∧ (∀ (x0 : Nat), (s.respond r).memByte x0 = s.memByte x0) ∧
    (∀ (x0 x1 : Nat), (s.respond r).lineAttr x0 x1 = s.lineAttr x0 x1) :=
  ⟨rfl, rfl, rfl, rfl, rfl, rfl, rfl, rfl, rfl, rfl, rfl, rfl, rfl, rfl, rfl, rfl, rfl, rfl, rfl, rfl, rfl, rfl, rfl, rfl, rfl, rfl, rfl, rfl, rfl,
   rfl, rfl, rfl, fun _ => rfl, fun _ _ => rfl, fun _ _ => rfl, fun _ => rfl, fun _ => rfl, fun _ => rfl, fun _ => rfl, fun _ => rfl, fun _ => rfl,
   fun _ => rfl, fun _ _ => rfl, fun _ => rfl, fun _ _ => rfl, fun _ => rfl, fun _ => rfl, fun _ => rfl, fun _ _ => rfl⟩

@[simp] theorem State.setHart_frame (s : State) (h : Nat) (v : HartState) :
    (s.setHart h v).now = s.now ∧ (s.setHart h v).regs = s.regs ∧ (s.setHart h v).hinges = s.hinges ∧ (s.setHart h v).resps = s.resps ∧
    (s.setHart h v).reports = s.reports ∧ (s.setHart h v).reported = s.reported ∧ (s.setHart h v).log = s.log ∧ (s.setHart h v).wires = s.wires ∧
    (s.setHart h v).out = s.out ∧ (s.setHart h v).mesh = s.mesh ∧ (s.setHart h v).tct = s.tct ∧ (s.setHart h v).home = s.home ∧
    (s.setHart h v).mem = s.mem ∧ (s.setHart h v).attrs = s.attrs ∧ (s.setHart h v).hartCore = s.hartCore ∧ (s.setHart h v).cores = s.cores ∧
    (s.setHart h v).clusters = s.clusters ∧ (s.setHart h v).slices = s.slices ∧ (s.setHart h v).mcs = s.mcs ∧ (s.setHart h v).ward = s.ward ∧
    (s.setHart h v).engines = s.engines ∧ (s.setHart h v).queues = s.queues ∧ (s.setHart h v).dmas = s.dmas ∧ (s.setHart h v).router = s.router ∧
    (s.setHart h v).ports = s.ports ∧ (s.setHart h v).links = s.links ∧ (s.setHart h v).power = s.power ∧ (s.setHart h v).boot = s.boot ∧
    (s.setHart h v).sideband = s.sideband ∧ (s.setHart h v).tap = s.tap ∧ (s.setHart h v).free = s.free ∧ (s.setHart h v).pending = s.pending ∧
    (∀ (x0 : Nat), (s.setHart h v).reg x0 = s.reg x0) ∧ (∀ (x0 : Nat) (x1 : Field), (s.setHart h v).fld x0 x1 = s.fld x0 x1) ∧
    (∀ (x0 : Nat) (x1 : Field), (s.setHart h v).flag x0 x1 = s.flag x0 x1) ∧ (∀ (x0 : Nat), (s.setHart h v).core x0 = s.core x0) ∧
    (∀ (x0 : Nat), (s.setHart h v).cluster x0 = s.cluster x0) ∧ (∀ (x0 : Nat), (s.setHart h v).slice x0 = s.slice x0) ∧
    (∀ (x0 : Nat), (s.setHart h v).mc x0 = s.mc x0) ∧ (∀ (x0 : Nat), (s.setHart h v).engine x0 = s.engine x0) ∧
    (∀ (x0 : Nat), (s.setHart h v).queue x0 = s.queue x0) ∧ (∀ (x0 x1 : Nat), (s.setHart h v).dma x0 x1 = s.dma x0 x1) ∧
    (∀ (x0 : Nat), (s.setHart h v).port x0 = s.port x0) ∧ (∀ (x0 x1 : Nat), (s.setHart h v).link x0 x1 = s.link x0 x1) ∧
    (∀ (x0 : Nat), (s.setHart h v).hinge x0 = s.hinge x0) ∧ (∀ (x0 : Nat), (s.setHart h v).mbxState x0 = s.mbxState x0) ∧
    (∀ (x0 : Nat), (s.setHart h v).memByte x0 = s.memByte x0) ∧ (∀ (x0 x1 : Nat), (s.setHart h v).lineAttr x0 x1 = s.lineAttr x0 x1) :=
  ⟨rfl, rfl, rfl, rfl, rfl, rfl, rfl, rfl, rfl, rfl, rfl, rfl, rfl, rfl, rfl, rfl, rfl, rfl, rfl, rfl, rfl, rfl, rfl, rfl, rfl, rfl, rfl, rfl, rfl,
   rfl, rfl, rfl, fun _ => rfl, fun _ _ => rfl, fun _ _ => rfl, fun _ => rfl, fun _ => rfl, fun _ => rfl, fun _ => rfl, fun _ => rfl, fun _ => rfl,
   fun _ _ => rfl, fun _ => rfl, fun _ _ => rfl, fun _ => rfl, fun _ => rfl, fun _ => rfl, fun _ _ => rfl⟩

@[simp] theorem State.withArch_frame (s : State) (h : Nat) (g : Arch → Arch) :
    (s.withArch h g).now = s.now ∧ (s.withArch h g).regs = s.regs ∧ (s.withArch h g).hinges = s.hinges ∧ (s.withArch h g).resps = s.resps ∧
    (s.withArch h g).reports = s.reports ∧ (s.withArch h g).reported = s.reported ∧ (s.withArch h g).log = s.log ∧ (s.withArch h g).wires = s.wires ∧
    (s.withArch h g).out = s.out ∧ (s.withArch h g).mesh = s.mesh ∧ (s.withArch h g).tct = s.tct ∧ (s.withArch h g).home = s.home ∧
    (s.withArch h g).mem = s.mem ∧ (s.withArch h g).attrs = s.attrs ∧ (s.withArch h g).hartCore = s.hartCore ∧ (s.withArch h g).cores = s.cores ∧
    (s.withArch h g).clusters = s.clusters ∧ (s.withArch h g).slices = s.slices ∧ (s.withArch h g).mcs = s.mcs ∧ (s.withArch h g).ward = s.ward ∧
    (s.withArch h g).engines = s.engines ∧ (s.withArch h g).queues = s.queues ∧ (s.withArch h g).dmas = s.dmas ∧ (s.withArch h g).router = s.router ∧
    (s.withArch h g).ports = s.ports ∧ (s.withArch h g).links = s.links ∧ (s.withArch h g).power = s.power ∧ (s.withArch h g).boot = s.boot ∧
    (s.withArch h g).sideband = s.sideband ∧ (s.withArch h g).tap = s.tap ∧ (s.withArch h g).free = s.free ∧ (s.withArch h g).pending = s.pending ∧
    (∀ (x0 : Nat), (s.withArch h g).reg x0 = s.reg x0) ∧ (∀ (x0 : Nat) (x1 : Field), (s.withArch h g).fld x0 x1 = s.fld x0 x1) ∧
    (∀ (x0 : Nat) (x1 : Field), (s.withArch h g).flag x0 x1 = s.flag x0 x1) ∧ (∀ (x0 : Nat), (s.withArch h g).core x0 = s.core x0) ∧
    (∀ (x0 : Nat), (s.withArch h g).cluster x0 = s.cluster x0) ∧ (∀ (x0 : Nat), (s.withArch h g).slice x0 = s.slice x0) ∧
    (∀ (x0 : Nat), (s.withArch h g).mc x0 = s.mc x0) ∧ (∀ (x0 : Nat), (s.withArch h g).engine x0 = s.engine x0) ∧
    (∀ (x0 : Nat), (s.withArch h g).queue x0 = s.queue x0) ∧ (∀ (x0 x1 : Nat), (s.withArch h g).dma x0 x1 = s.dma x0 x1) ∧
    (∀ (x0 : Nat), (s.withArch h g).port x0 = s.port x0) ∧ (∀ (x0 x1 : Nat), (s.withArch h g).link x0 x1 = s.link x0 x1) ∧
    (∀ (x0 : Nat), (s.withArch h g).hinge x0 = s.hinge x0) ∧ (∀ (x0 : Nat), (s.withArch h g).mbxState x0 = s.mbxState x0) ∧
    (∀ (x0 : Nat), (s.withArch h g).memByte x0 = s.memByte x0) ∧ (∀ (x0 x1 : Nat), (s.withArch h g).lineAttr x0 x1 = s.lineAttr x0 x1) :=
  ⟨rfl, rfl, rfl, rfl, rfl, rfl, rfl, rfl, rfl, rfl, rfl, rfl, rfl, rfl, rfl, rfl, rfl, rfl, rfl, rfl, rfl, rfl, rfl, rfl, rfl, rfl, rfl, rfl, rfl,
   rfl, rfl, rfl, fun _ => rfl, fun _ _ => rfl, fun _ _ => rfl, fun _ => rfl, fun _ => rfl, fun _ => rfl, fun _ => rfl, fun _ => rfl, fun _ => rfl,
   fun _ _ => rfl, fun _ => rfl, fun _ _ => rfl, fun _ => rfl, fun _ => rfl, fun _ => rfl, fun _ _ => rfl⟩

@[simp] theorem State.setCore_frame (s : State) (k : Nat) (v : CoreState) :
    (s.setCore k v).now = s.now ∧ (s.setCore k v).regs = s.regs ∧ (s.setCore k v).hinges = s.hinges ∧ (s.setCore k v).resps = s.resps ∧
    (s.setCore k v).reports = s.reports ∧ (s.setCore k v).reported = s.reported ∧ (s.setCore k v).log = s.log ∧ (s.setCore k v).wires = s.wires ∧
    (s.setCore k v).out = s.out ∧ (s.setCore k v).mesh = s.mesh ∧ (s.setCore k v).tct = s.tct ∧ (s.setCore k v).home = s.home ∧
    (s.setCore k v).mem = s.mem ∧ (s.setCore k v).attrs = s.attrs ∧ (s.setCore k v).harts = s.harts ∧ (s.setCore k v).hartCore = s.hartCore ∧
    (s.setCore k v).clusters = s.clusters ∧ (s.setCore k v).slices = s.slices ∧ (s.setCore k v).mcs = s.mcs ∧ (s.setCore k v).ward = s.ward ∧
    (s.setCore k v).engines = s.engines ∧ (s.setCore k v).queues = s.queues ∧ (s.setCore k v).dmas = s.dmas ∧ (s.setCore k v).router = s.router ∧
    (s.setCore k v).ports = s.ports ∧ (s.setCore k v).links = s.links ∧ (s.setCore k v).power = s.power ∧ (s.setCore k v).boot = s.boot ∧
    (s.setCore k v).sideband = s.sideband ∧ (s.setCore k v).tap = s.tap ∧ (s.setCore k v).free = s.free ∧ (s.setCore k v).pending = s.pending ∧
    (∀ (x0 : Nat), (s.setCore k v).reg x0 = s.reg x0) ∧ (∀ (x0 : Nat) (x1 : Field), (s.setCore k v).fld x0 x1 = s.fld x0 x1) ∧
    (∀ (x0 : Nat) (x1 : Field), (s.setCore k v).flag x0 x1 = s.flag x0 x1) ∧ (∀ (x0 : Nat), (s.setCore k v).hart x0 = s.hart x0) ∧
    (∀ (x0 : Nat), (s.setCore k v).cluster x0 = s.cluster x0) ∧ (∀ (x0 : Nat), (s.setCore k v).slice x0 = s.slice x0) ∧
    (∀ (x0 : Nat), (s.setCore k v).mc x0 = s.mc x0) ∧ (∀ (x0 : Nat), (s.setCore k v).engine x0 = s.engine x0) ∧
    (∀ (x0 : Nat), (s.setCore k v).queue x0 = s.queue x0) ∧ (∀ (x0 x1 : Nat), (s.setCore k v).dma x0 x1 = s.dma x0 x1) ∧
    (∀ (x0 : Nat), (s.setCore k v).port x0 = s.port x0) ∧ (∀ (x0 x1 : Nat), (s.setCore k v).link x0 x1 = s.link x0 x1) ∧
    (∀ (x0 : Nat), (s.setCore k v).hinge x0 = s.hinge x0) ∧ (∀ (x0 : Nat), (s.setCore k v).mbxState x0 = s.mbxState x0) ∧
    (∀ (x0 : Nat), (s.setCore k v).memByte x0 = s.memByte x0) ∧ (∀ (x0 x1 : Nat), (s.setCore k v).lineAttr x0 x1 = s.lineAttr x0 x1) :=
  ⟨rfl, rfl, rfl, rfl, rfl, rfl, rfl, rfl, rfl, rfl, rfl, rfl, rfl, rfl, rfl, rfl, rfl, rfl, rfl, rfl, rfl, rfl, rfl, rfl, rfl, rfl, rfl, rfl, rfl,
   rfl, rfl, rfl, fun _ => rfl, fun _ _ => rfl, fun _ _ => rfl, fun _ => rfl, fun _ => rfl, fun _ => rfl, fun _ => rfl, fun _ => rfl, fun _ => rfl,
   fun _ _ => rfl, fun _ => rfl, fun _ _ => rfl, fun _ => rfl, fun _ => rfl, fun _ => rfl, fun _ _ => rfl⟩

@[simp] theorem State.setCluster_frame (s : State) (c : Nat) (v : Cluster) :
    (s.setCluster c v).now = s.now ∧ (s.setCluster c v).regs = s.regs ∧ (s.setCluster c v).hinges = s.hinges ∧ (s.setCluster c v).resps = s.resps ∧
    (s.setCluster c v).reports = s.reports ∧ (s.setCluster c v).reported = s.reported ∧ (s.setCluster c v).log = s.log ∧
    (s.setCluster c v).wires = s.wires ∧ (s.setCluster c v).out = s.out ∧ (s.setCluster c v).mesh = s.mesh ∧ (s.setCluster c v).tct = s.tct ∧
    (s.setCluster c v).home = s.home ∧ (s.setCluster c v).mem = s.mem ∧ (s.setCluster c v).attrs = s.attrs ∧ (s.setCluster c v).harts = s.harts ∧
    (s.setCluster c v).hartCore = s.hartCore ∧ (s.setCluster c v).cores = s.cores ∧ (s.setCluster c v).slices = s.slices ∧
    (s.setCluster c v).mcs = s.mcs ∧ (s.setCluster c v).ward = s.ward ∧ (s.setCluster c v).engines = s.engines ∧
    (s.setCluster c v).queues = s.queues ∧ (s.setCluster c v).dmas = s.dmas ∧ (s.setCluster c v).router = s.router ∧
    (s.setCluster c v).ports = s.ports ∧ (s.setCluster c v).links = s.links ∧ (s.setCluster c v).power = s.power ∧ (s.setCluster c v).boot = s.boot ∧
    (s.setCluster c v).sideband = s.sideband ∧ (s.setCluster c v).tap = s.tap ∧ (s.setCluster c v).free = s.free ∧
    (s.setCluster c v).pending = s.pending ∧ (∀ (x0 : Nat), (s.setCluster c v).reg x0 = s.reg x0) ∧
    (∀ (x0 : Nat) (x1 : Field), (s.setCluster c v).fld x0 x1 = s.fld x0 x1) ∧
    (∀ (x0 : Nat) (x1 : Field), (s.setCluster c v).flag x0 x1 = s.flag x0 x1) ∧ (∀ (x0 : Nat), (s.setCluster c v).hart x0 = s.hart x0) ∧
    (∀ (x0 : Nat), (s.setCluster c v).core x0 = s.core x0) ∧ (∀ (x0 : Nat), (s.setCluster c v).slice x0 = s.slice x0) ∧
    (∀ (x0 : Nat), (s.setCluster c v).mc x0 = s.mc x0) ∧ (∀ (x0 : Nat), (s.setCluster c v).engine x0 = s.engine x0) ∧
    (∀ (x0 : Nat), (s.setCluster c v).queue x0 = s.queue x0) ∧ (∀ (x0 x1 : Nat), (s.setCluster c v).dma x0 x1 = s.dma x0 x1) ∧
    (∀ (x0 : Nat), (s.setCluster c v).port x0 = s.port x0) ∧ (∀ (x0 x1 : Nat), (s.setCluster c v).link x0 x1 = s.link x0 x1) ∧
    (∀ (x0 : Nat), (s.setCluster c v).hinge x0 = s.hinge x0) ∧ (∀ (x0 : Nat), (s.setCluster c v).mbxState x0 = s.mbxState x0) ∧
    (∀ (x0 : Nat), (s.setCluster c v).memByte x0 = s.memByte x0) ∧ (∀ (x0 x1 : Nat), (s.setCluster c v).lineAttr x0 x1 = s.lineAttr x0 x1) :=
  ⟨rfl, rfl, rfl, rfl, rfl, rfl, rfl, rfl, rfl, rfl, rfl, rfl, rfl, rfl, rfl, rfl, rfl, rfl, rfl, rfl, rfl, rfl, rfl, rfl, rfl, rfl, rfl, rfl, rfl,
   rfl, rfl, rfl, fun _ => rfl, fun _ _ => rfl, fun _ _ => rfl, fun _ => rfl, fun _ => rfl, fun _ => rfl, fun _ => rfl, fun _ => rfl, fun _ => rfl,
   fun _ _ => rfl, fun _ => rfl, fun _ _ => rfl, fun _ => rfl, fun _ => rfl, fun _ => rfl, fun _ _ => rfl⟩

@[simp] theorem State.setSlice_frame (s : State) (c : Nat) (v : Slice) :
    (s.setSlice c v).now = s.now ∧ (s.setSlice c v).regs = s.regs ∧ (s.setSlice c v).hinges = s.hinges ∧ (s.setSlice c v).resps = s.resps ∧
    (s.setSlice c v).reports = s.reports ∧ (s.setSlice c v).reported = s.reported ∧ (s.setSlice c v).log = s.log ∧ (s.setSlice c v).wires = s.wires ∧
    (s.setSlice c v).out = s.out ∧ (s.setSlice c v).mesh = s.mesh ∧ (s.setSlice c v).tct = s.tct ∧ (s.setSlice c v).home = s.home ∧
    (s.setSlice c v).mem = s.mem ∧ (s.setSlice c v).attrs = s.attrs ∧ (s.setSlice c v).harts = s.harts ∧ (s.setSlice c v).hartCore = s.hartCore ∧
    (s.setSlice c v).cores = s.cores ∧ (s.setSlice c v).clusters = s.clusters ∧ (s.setSlice c v).mcs = s.mcs ∧ (s.setSlice c v).ward = s.ward ∧
    (s.setSlice c v).engines = s.engines ∧ (s.setSlice c v).queues = s.queues ∧ (s.setSlice c v).dmas = s.dmas ∧ (s.setSlice c v).router = s.router ∧
    (s.setSlice c v).ports = s.ports ∧ (s.setSlice c v).links = s.links ∧ (s.setSlice c v).power = s.power ∧ (s.setSlice c v).boot = s.boot ∧
    (s.setSlice c v).sideband = s.sideband ∧ (s.setSlice c v).tap = s.tap ∧ (s.setSlice c v).free = s.free ∧ (s.setSlice c v).pending = s.pending ∧
    (∀ (x0 : Nat), (s.setSlice c v).reg x0 = s.reg x0) ∧ (∀ (x0 : Nat) (x1 : Field), (s.setSlice c v).fld x0 x1 = s.fld x0 x1) ∧
    (∀ (x0 : Nat) (x1 : Field), (s.setSlice c v).flag x0 x1 = s.flag x0 x1) ∧ (∀ (x0 : Nat), (s.setSlice c v).hart x0 = s.hart x0) ∧
    (∀ (x0 : Nat), (s.setSlice c v).core x0 = s.core x0) ∧ (∀ (x0 : Nat), (s.setSlice c v).cluster x0 = s.cluster x0) ∧
    (∀ (x0 : Nat), (s.setSlice c v).mc x0 = s.mc x0) ∧ (∀ (x0 : Nat), (s.setSlice c v).engine x0 = s.engine x0) ∧
    (∀ (x0 : Nat), (s.setSlice c v).queue x0 = s.queue x0) ∧ (∀ (x0 x1 : Nat), (s.setSlice c v).dma x0 x1 = s.dma x0 x1) ∧
    (∀ (x0 : Nat), (s.setSlice c v).port x0 = s.port x0) ∧ (∀ (x0 x1 : Nat), (s.setSlice c v).link x0 x1 = s.link x0 x1) ∧
    (∀ (x0 : Nat), (s.setSlice c v).hinge x0 = s.hinge x0) ∧ (∀ (x0 : Nat), (s.setSlice c v).mbxState x0 = s.mbxState x0) ∧
    (∀ (x0 : Nat), (s.setSlice c v).memByte x0 = s.memByte x0) ∧ (∀ (x0 x1 : Nat), (s.setSlice c v).lineAttr x0 x1 = s.lineAttr x0 x1) :=
  ⟨rfl, rfl, rfl, rfl, rfl, rfl, rfl, rfl, rfl, rfl, rfl, rfl, rfl, rfl, rfl, rfl, rfl, rfl, rfl, rfl, rfl, rfl, rfl, rfl, rfl, rfl, rfl, rfl, rfl,
   rfl, rfl, rfl, fun _ => rfl, fun _ _ => rfl, fun _ _ => rfl, fun _ => rfl, fun _ => rfl, fun _ => rfl, fun _ => rfl, fun _ => rfl, fun _ => rfl,
   fun _ _ => rfl, fun _ => rfl, fun _ _ => rfl, fun _ => rfl, fun _ => rfl, fun _ => rfl, fun _ _ => rfl⟩

@[simp] theorem State.setMc_frame (s : State) (m : Nat) (v : Mc) :
    (s.setMc m v).now = s.now ∧ (s.setMc m v).regs = s.regs ∧ (s.setMc m v).hinges = s.hinges ∧ (s.setMc m v).resps = s.resps ∧
    (s.setMc m v).reports = s.reports ∧ (s.setMc m v).reported = s.reported ∧ (s.setMc m v).log = s.log ∧ (s.setMc m v).wires = s.wires ∧
    (s.setMc m v).out = s.out ∧ (s.setMc m v).mesh = s.mesh ∧ (s.setMc m v).tct = s.tct ∧ (s.setMc m v).home = s.home ∧ (s.setMc m v).mem = s.mem ∧
    (s.setMc m v).attrs = s.attrs ∧ (s.setMc m v).harts = s.harts ∧ (s.setMc m v).hartCore = s.hartCore ∧ (s.setMc m v).cores = s.cores ∧
    (s.setMc m v).clusters = s.clusters ∧ (s.setMc m v).slices = s.slices ∧ (s.setMc m v).ward = s.ward ∧ (s.setMc m v).engines = s.engines ∧
    (s.setMc m v).queues = s.queues ∧ (s.setMc m v).dmas = s.dmas ∧ (s.setMc m v).router = s.router ∧ (s.setMc m v).ports = s.ports ∧
    (s.setMc m v).links = s.links ∧ (s.setMc m v).power = s.power ∧ (s.setMc m v).boot = s.boot ∧ (s.setMc m v).sideband = s.sideband ∧
    (s.setMc m v).tap = s.tap ∧ (s.setMc m v).free = s.free ∧ (s.setMc m v).pending = s.pending ∧ (∀ (x0 : Nat), (s.setMc m v).reg x0 = s.reg x0) ∧
    (∀ (x0 : Nat) (x1 : Field), (s.setMc m v).fld x0 x1 = s.fld x0 x1) ∧ (∀ (x0 : Nat) (x1 : Field), (s.setMc m v).flag x0 x1 = s.flag x0 x1) ∧
    (∀ (x0 : Nat), (s.setMc m v).hart x0 = s.hart x0) ∧ (∀ (x0 : Nat), (s.setMc m v).core x0 = s.core x0) ∧
    (∀ (x0 : Nat), (s.setMc m v).cluster x0 = s.cluster x0) ∧ (∀ (x0 : Nat), (s.setMc m v).slice x0 = s.slice x0) ∧
    (∀ (x0 : Nat), (s.setMc m v).engine x0 = s.engine x0) ∧ (∀ (x0 : Nat), (s.setMc m v).queue x0 = s.queue x0) ∧
    (∀ (x0 x1 : Nat), (s.setMc m v).dma x0 x1 = s.dma x0 x1) ∧ (∀ (x0 : Nat), (s.setMc m v).port x0 = s.port x0) ∧
    (∀ (x0 x1 : Nat), (s.setMc m v).link x0 x1 = s.link x0 x1) ∧ (∀ (x0 : Nat), (s.setMc m v).hinge x0 = s.hinge x0) ∧
    (∀ (x0 : Nat), (s.setMc m v).mbxState x0 = s.mbxState x0) ∧ (∀ (x0 : Nat), (s.setMc m v).memByte x0 = s.memByte x0) ∧
    (∀ (x0 x1 : Nat), (s.setMc m v).lineAttr x0 x1 = s.lineAttr x0 x1) :=
  ⟨rfl, rfl, rfl, rfl, rfl, rfl, rfl, rfl, rfl, rfl, rfl, rfl, rfl, rfl, rfl, rfl, rfl, rfl, rfl, rfl, rfl, rfl, rfl, rfl, rfl, rfl, rfl, rfl, rfl,
   rfl, rfl, rfl, fun _ => rfl, fun _ _ => rfl, fun _ _ => rfl, fun _ => rfl, fun _ => rfl, fun _ => rfl, fun _ => rfl, fun _ => rfl, fun _ => rfl,
   fun _ _ => rfl, fun _ => rfl, fun _ _ => rfl, fun _ => rfl, fun _ => rfl, fun _ => rfl, fun _ _ => rfl⟩

@[simp] theorem State.setEngine_frame (s : State) (e : Nat) (v : Engine) :
    (s.setEngine e v).now = s.now ∧ (s.setEngine e v).regs = s.regs ∧ (s.setEngine e v).hinges = s.hinges ∧ (s.setEngine e v).resps = s.resps ∧
    (s.setEngine e v).reports = s.reports ∧ (s.setEngine e v).reported = s.reported ∧ (s.setEngine e v).log = s.log ∧
    (s.setEngine e v).wires = s.wires ∧ (s.setEngine e v).out = s.out ∧ (s.setEngine e v).mesh = s.mesh ∧ (s.setEngine e v).tct = s.tct ∧
    (s.setEngine e v).home = s.home ∧ (s.setEngine e v).mem = s.mem ∧ (s.setEngine e v).attrs = s.attrs ∧ (s.setEngine e v).harts = s.harts ∧
    (s.setEngine e v).hartCore = s.hartCore ∧ (s.setEngine e v).cores = s.cores ∧ (s.setEngine e v).clusters = s.clusters ∧
    (s.setEngine e v).slices = s.slices ∧ (s.setEngine e v).mcs = s.mcs ∧ (s.setEngine e v).ward = s.ward ∧ (s.setEngine e v).queues = s.queues ∧
    (s.setEngine e v).dmas = s.dmas ∧ (s.setEngine e v).router = s.router ∧ (s.setEngine e v).ports = s.ports ∧ (s.setEngine e v).links = s.links ∧
    (s.setEngine e v).power = s.power ∧ (s.setEngine e v).boot = s.boot ∧ (s.setEngine e v).sideband = s.sideband ∧ (s.setEngine e v).tap = s.tap ∧
    (s.setEngine e v).free = s.free ∧ (s.setEngine e v).pending = s.pending ∧ (∀ (x0 : Nat), (s.setEngine e v).reg x0 = s.reg x0) ∧
    (∀ (x0 : Nat) (x1 : Field), (s.setEngine e v).fld x0 x1 = s.fld x0 x1) ∧
    (∀ (x0 : Nat) (x1 : Field), (s.setEngine e v).flag x0 x1 = s.flag x0 x1) ∧ (∀ (x0 : Nat), (s.setEngine e v).hart x0 = s.hart x0) ∧
    (∀ (x0 : Nat), (s.setEngine e v).core x0 = s.core x0) ∧ (∀ (x0 : Nat), (s.setEngine e v).cluster x0 = s.cluster x0) ∧
    (∀ (x0 : Nat), (s.setEngine e v).slice x0 = s.slice x0) ∧ (∀ (x0 : Nat), (s.setEngine e v).mc x0 = s.mc x0) ∧
    (∀ (x0 : Nat), (s.setEngine e v).queue x0 = s.queue x0) ∧ (∀ (x0 x1 : Nat), (s.setEngine e v).dma x0 x1 = s.dma x0 x1) ∧
    (∀ (x0 : Nat), (s.setEngine e v).port x0 = s.port x0) ∧ (∀ (x0 x1 : Nat), (s.setEngine e v).link x0 x1 = s.link x0 x1) ∧
    (∀ (x0 : Nat), (s.setEngine e v).hinge x0 = s.hinge x0) ∧ (∀ (x0 : Nat), (s.setEngine e v).mbxState x0 = s.mbxState x0) ∧
    (∀ (x0 : Nat), (s.setEngine e v).memByte x0 = s.memByte x0) ∧ (∀ (x0 x1 : Nat), (s.setEngine e v).lineAttr x0 x1 = s.lineAttr x0 x1) :=
  ⟨rfl, rfl, rfl, rfl, rfl, rfl, rfl, rfl, rfl, rfl, rfl, rfl, rfl, rfl, rfl, rfl, rfl, rfl, rfl, rfl, rfl, rfl, rfl, rfl, rfl, rfl, rfl, rfl, rfl,
   rfl, rfl, rfl, fun _ => rfl, fun _ _ => rfl, fun _ _ => rfl, fun _ => rfl, fun _ => rfl, fun _ => rfl, fun _ => rfl, fun _ => rfl, fun _ => rfl,
   fun _ _ => rfl, fun _ => rfl, fun _ _ => rfl, fun _ => rfl, fun _ => rfl, fun _ => rfl, fun _ _ => rfl⟩

@[simp] theorem State.setQueue_frame (s : State) (c : Nat) (v : Queue) :
    (s.setQueue c v).now = s.now ∧ (s.setQueue c v).regs = s.regs ∧ (s.setQueue c v).hinges = s.hinges ∧ (s.setQueue c v).resps = s.resps ∧
    (s.setQueue c v).reports = s.reports ∧ (s.setQueue c v).reported = s.reported ∧ (s.setQueue c v).log = s.log ∧ (s.setQueue c v).wires = s.wires ∧
    (s.setQueue c v).out = s.out ∧ (s.setQueue c v).mesh = s.mesh ∧ (s.setQueue c v).tct = s.tct ∧ (s.setQueue c v).home = s.home ∧
    (s.setQueue c v).mem = s.mem ∧ (s.setQueue c v).attrs = s.attrs ∧ (s.setQueue c v).harts = s.harts ∧ (s.setQueue c v).hartCore = s.hartCore ∧
    (s.setQueue c v).cores = s.cores ∧ (s.setQueue c v).clusters = s.clusters ∧ (s.setQueue c v).slices = s.slices ∧ (s.setQueue c v).mcs = s.mcs ∧
    (s.setQueue c v).ward = s.ward ∧ (s.setQueue c v).engines = s.engines ∧ (s.setQueue c v).dmas = s.dmas ∧ (s.setQueue c v).router = s.router ∧
    (s.setQueue c v).ports = s.ports ∧ (s.setQueue c v).links = s.links ∧ (s.setQueue c v).power = s.power ∧ (s.setQueue c v).boot = s.boot ∧
    (s.setQueue c v).sideband = s.sideband ∧ (s.setQueue c v).tap = s.tap ∧ (s.setQueue c v).free = s.free ∧ (s.setQueue c v).pending = s.pending ∧
    (∀ (x0 : Nat), (s.setQueue c v).reg x0 = s.reg x0) ∧ (∀ (x0 : Nat) (x1 : Field), (s.setQueue c v).fld x0 x1 = s.fld x0 x1) ∧
    (∀ (x0 : Nat) (x1 : Field), (s.setQueue c v).flag x0 x1 = s.flag x0 x1) ∧ (∀ (x0 : Nat), (s.setQueue c v).hart x0 = s.hart x0) ∧
    (∀ (x0 : Nat), (s.setQueue c v).core x0 = s.core x0) ∧ (∀ (x0 : Nat), (s.setQueue c v).cluster x0 = s.cluster x0) ∧
    (∀ (x0 : Nat), (s.setQueue c v).slice x0 = s.slice x0) ∧ (∀ (x0 : Nat), (s.setQueue c v).mc x0 = s.mc x0) ∧
    (∀ (x0 : Nat), (s.setQueue c v).engine x0 = s.engine x0) ∧ (∀ (x0 x1 : Nat), (s.setQueue c v).dma x0 x1 = s.dma x0 x1) ∧
    (∀ (x0 : Nat), (s.setQueue c v).port x0 = s.port x0) ∧ (∀ (x0 x1 : Nat), (s.setQueue c v).link x0 x1 = s.link x0 x1) ∧
    (∀ (x0 : Nat), (s.setQueue c v).hinge x0 = s.hinge x0) ∧ (∀ (x0 : Nat), (s.setQueue c v).mbxState x0 = s.mbxState x0) ∧
    (∀ (x0 : Nat), (s.setQueue c v).memByte x0 = s.memByte x0) ∧ (∀ (x0 x1 : Nat), (s.setQueue c v).lineAttr x0 x1 = s.lineAttr x0 x1) :=
  ⟨rfl, rfl, rfl, rfl, rfl, rfl, rfl, rfl, rfl, rfl, rfl, rfl, rfl, rfl, rfl, rfl, rfl, rfl, rfl, rfl, rfl, rfl, rfl, rfl, rfl, rfl, rfl, rfl, rfl,
   rfl, rfl, rfl, fun _ => rfl, fun _ _ => rfl, fun _ _ => rfl, fun _ => rfl, fun _ => rfl, fun _ => rfl, fun _ => rfl, fun _ => rfl, fun _ => rfl,
   fun _ _ => rfl, fun _ => rfl, fun _ _ => rfl, fun _ => rfl, fun _ => rfl, fun _ => rfl, fun _ _ => rfl⟩

@[simp] theorem State.setDma_frame (s : State) (c ch : Nat) (v : Dma) :
    (s.setDma c ch v).now = s.now ∧ (s.setDma c ch v).regs = s.regs ∧ (s.setDma c ch v).hinges = s.hinges ∧ (s.setDma c ch v).resps = s.resps ∧
    (s.setDma c ch v).reports = s.reports ∧ (s.setDma c ch v).reported = s.reported ∧ (s.setDma c ch v).log = s.log ∧
    (s.setDma c ch v).wires = s.wires ∧ (s.setDma c ch v).out = s.out ∧ (s.setDma c ch v).mesh = s.mesh ∧ (s.setDma c ch v).tct = s.tct ∧
    (s.setDma c ch v).home = s.home ∧ (s.setDma c ch v).mem = s.mem ∧ (s.setDma c ch v).attrs = s.attrs ∧ (s.setDma c ch v).harts = s.harts ∧
    (s.setDma c ch v).hartCore = s.hartCore ∧ (s.setDma c ch v).cores = s.cores ∧ (s.setDma c ch v).clusters = s.clusters ∧
    (s.setDma c ch v).slices = s.slices ∧ (s.setDma c ch v).mcs = s.mcs ∧ (s.setDma c ch v).ward = s.ward ∧ (s.setDma c ch v).engines = s.engines ∧
    (s.setDma c ch v).queues = s.queues ∧ (s.setDma c ch v).router = s.router ∧ (s.setDma c ch v).ports = s.ports ∧
    (s.setDma c ch v).links = s.links ∧ (s.setDma c ch v).power = s.power ∧ (s.setDma c ch v).boot = s.boot ∧
    (s.setDma c ch v).sideband = s.sideband ∧ (s.setDma c ch v).tap = s.tap ∧ (s.setDma c ch v).free = s.free ∧
    (s.setDma c ch v).pending = s.pending ∧ (∀ (x0 : Nat), (s.setDma c ch v).reg x0 = s.reg x0) ∧
    (∀ (x0 : Nat) (x1 : Field), (s.setDma c ch v).fld x0 x1 = s.fld x0 x1) ∧
    (∀ (x0 : Nat) (x1 : Field), (s.setDma c ch v).flag x0 x1 = s.flag x0 x1) ∧ (∀ (x0 : Nat), (s.setDma c ch v).hart x0 = s.hart x0) ∧
    (∀ (x0 : Nat), (s.setDma c ch v).core x0 = s.core x0) ∧ (∀ (x0 : Nat), (s.setDma c ch v).cluster x0 = s.cluster x0) ∧
    (∀ (x0 : Nat), (s.setDma c ch v).slice x0 = s.slice x0) ∧ (∀ (x0 : Nat), (s.setDma c ch v).mc x0 = s.mc x0) ∧
    (∀ (x0 : Nat), (s.setDma c ch v).engine x0 = s.engine x0) ∧ (∀ (x0 : Nat), (s.setDma c ch v).queue x0 = s.queue x0) ∧
    (∀ (x0 : Nat), (s.setDma c ch v).port x0 = s.port x0) ∧ (∀ (x0 x1 : Nat), (s.setDma c ch v).link x0 x1 = s.link x0 x1) ∧
    (∀ (x0 : Nat), (s.setDma c ch v).hinge x0 = s.hinge x0) ∧ (∀ (x0 : Nat), (s.setDma c ch v).mbxState x0 = s.mbxState x0) ∧
    (∀ (x0 : Nat), (s.setDma c ch v).memByte x0 = s.memByte x0) ∧ (∀ (x0 x1 : Nat), (s.setDma c ch v).lineAttr x0 x1 = s.lineAttr x0 x1) :=
  ⟨rfl, rfl, rfl, rfl, rfl, rfl, rfl, rfl, rfl, rfl, rfl, rfl, rfl, rfl, rfl, rfl, rfl, rfl, rfl, rfl, rfl, rfl, rfl, rfl, rfl, rfl, rfl, rfl, rfl,
   rfl, rfl, rfl, fun _ => rfl, fun _ _ => rfl, fun _ _ => rfl, fun _ => rfl, fun _ => rfl, fun _ => rfl, fun _ => rfl, fun _ => rfl, fun _ => rfl,
   fun _ => rfl, fun _ => rfl, fun _ _ => rfl, fun _ => rfl, fun _ => rfl, fun _ => rfl, fun _ _ => rfl⟩

@[simp] theorem State.setPort_frame (s : State) (p : Nat) (v : Port) :
    (s.setPort p v).now = s.now ∧ (s.setPort p v).regs = s.regs ∧ (s.setPort p v).hinges = s.hinges ∧ (s.setPort p v).resps = s.resps ∧
    (s.setPort p v).reports = s.reports ∧ (s.setPort p v).reported = s.reported ∧ (s.setPort p v).log = s.log ∧ (s.setPort p v).wires = s.wires ∧
    (s.setPort p v).out = s.out ∧ (s.setPort p v).mesh = s.mesh ∧ (s.setPort p v).tct = s.tct ∧ (s.setPort p v).home = s.home ∧
    (s.setPort p v).mem = s.mem ∧ (s.setPort p v).attrs = s.attrs ∧ (s.setPort p v).harts = s.harts ∧ (s.setPort p v).hartCore = s.hartCore ∧
    (s.setPort p v).cores = s.cores ∧ (s.setPort p v).clusters = s.clusters ∧ (s.setPort p v).slices = s.slices ∧ (s.setPort p v).mcs = s.mcs ∧
    (s.setPort p v).ward = s.ward ∧ (s.setPort p v).engines = s.engines ∧ (s.setPort p v).queues = s.queues ∧ (s.setPort p v).dmas = s.dmas ∧
    (s.setPort p v).router = s.router ∧ (s.setPort p v).links = s.links ∧ (s.setPort p v).power = s.power ∧ (s.setPort p v).boot = s.boot ∧
    (s.setPort p v).sideband = s.sideband ∧ (s.setPort p v).tap = s.tap ∧ (s.setPort p v).free = s.free ∧ (s.setPort p v).pending = s.pending ∧
    (∀ (x0 : Nat), (s.setPort p v).reg x0 = s.reg x0) ∧ (∀ (x0 : Nat) (x1 : Field), (s.setPort p v).fld x0 x1 = s.fld x0 x1) ∧
    (∀ (x0 : Nat) (x1 : Field), (s.setPort p v).flag x0 x1 = s.flag x0 x1) ∧ (∀ (x0 : Nat), (s.setPort p v).hart x0 = s.hart x0) ∧
    (∀ (x0 : Nat), (s.setPort p v).core x0 = s.core x0) ∧ (∀ (x0 : Nat), (s.setPort p v).cluster x0 = s.cluster x0) ∧
    (∀ (x0 : Nat), (s.setPort p v).slice x0 = s.slice x0) ∧ (∀ (x0 : Nat), (s.setPort p v).mc x0 = s.mc x0) ∧
    (∀ (x0 : Nat), (s.setPort p v).engine x0 = s.engine x0) ∧ (∀ (x0 : Nat), (s.setPort p v).queue x0 = s.queue x0) ∧
    (∀ (x0 x1 : Nat), (s.setPort p v).dma x0 x1 = s.dma x0 x1) ∧ (∀ (x0 x1 : Nat), (s.setPort p v).link x0 x1 = s.link x0 x1) ∧
    (∀ (x0 : Nat), (s.setPort p v).hinge x0 = s.hinge x0) ∧ (∀ (x0 : Nat), (s.setPort p v).mbxState x0 = s.mbxState x0) ∧
    (∀ (x0 : Nat), (s.setPort p v).memByte x0 = s.memByte x0) ∧ (∀ (x0 x1 : Nat), (s.setPort p v).lineAttr x0 x1 = s.lineAttr x0 x1) :=
  ⟨rfl, rfl, rfl, rfl, rfl, rfl, rfl, rfl, rfl, rfl, rfl, rfl, rfl, rfl, rfl, rfl, rfl, rfl, rfl, rfl, rfl, rfl, rfl, rfl, rfl, rfl, rfl, rfl, rfl,
   rfl, rfl, rfl, fun _ => rfl, fun _ _ => rfl, fun _ _ => rfl, fun _ => rfl, fun _ => rfl, fun _ => rfl, fun _ => rfl, fun _ => rfl, fun _ => rfl,
   fun _ => rfl, fun _ _ => rfl, fun _ _ => rfl, fun _ => rfl, fun _ => rfl, fun _ => rfl, fun _ _ => rfl⟩

@[simp] theorem State.setLink_frame (s : State) (p l : Nat) (v : Link) :
    (s.setLink p l v).now = s.now ∧ (s.setLink p l v).regs = s.regs ∧ (s.setLink p l v).hinges = s.hinges ∧ (s.setLink p l v).resps = s.resps ∧
    (s.setLink p l v).reports = s.reports ∧ (s.setLink p l v).reported = s.reported ∧ (s.setLink p l v).log = s.log ∧
    (s.setLink p l v).wires = s.wires ∧ (s.setLink p l v).out = s.out ∧ (s.setLink p l v).mesh = s.mesh ∧ (s.setLink p l v).tct = s.tct ∧
    (s.setLink p l v).home = s.home ∧ (s.setLink p l v).mem = s.mem ∧ (s.setLink p l v).attrs = s.attrs ∧ (s.setLink p l v).harts = s.harts ∧
    (s.setLink p l v).hartCore = s.hartCore ∧ (s.setLink p l v).cores = s.cores ∧ (s.setLink p l v).clusters = s.clusters ∧
    (s.setLink p l v).slices = s.slices ∧ (s.setLink p l v).mcs = s.mcs ∧ (s.setLink p l v).ward = s.ward ∧ (s.setLink p l v).engines = s.engines ∧
    (s.setLink p l v).queues = s.queues ∧ (s.setLink p l v).dmas = s.dmas ∧ (s.setLink p l v).router = s.router ∧ (s.setLink p l v).ports = s.ports ∧
    (s.setLink p l v).power = s.power ∧ (s.setLink p l v).boot = s.boot ∧ (s.setLink p l v).sideband = s.sideband ∧ (s.setLink p l v).tap = s.tap ∧
    (s.setLink p l v).free = s.free ∧ (s.setLink p l v).pending = s.pending ∧ (∀ (x0 : Nat), (s.setLink p l v).reg x0 = s.reg x0) ∧
    (∀ (x0 : Nat) (x1 : Field), (s.setLink p l v).fld x0 x1 = s.fld x0 x1) ∧
    (∀ (x0 : Nat) (x1 : Field), (s.setLink p l v).flag x0 x1 = s.flag x0 x1) ∧ (∀ (x0 : Nat), (s.setLink p l v).hart x0 = s.hart x0) ∧
    (∀ (x0 : Nat), (s.setLink p l v).core x0 = s.core x0) ∧ (∀ (x0 : Nat), (s.setLink p l v).cluster x0 = s.cluster x0) ∧
    (∀ (x0 : Nat), (s.setLink p l v).slice x0 = s.slice x0) ∧ (∀ (x0 : Nat), (s.setLink p l v).mc x0 = s.mc x0) ∧
    (∀ (x0 : Nat), (s.setLink p l v).engine x0 = s.engine x0) ∧ (∀ (x0 : Nat), (s.setLink p l v).queue x0 = s.queue x0) ∧
    (∀ (x0 x1 : Nat), (s.setLink p l v).dma x0 x1 = s.dma x0 x1) ∧ (∀ (x0 : Nat), (s.setLink p l v).port x0 = s.port x0) ∧
    (∀ (x0 : Nat), (s.setLink p l v).hinge x0 = s.hinge x0) ∧ (∀ (x0 : Nat), (s.setLink p l v).mbxState x0 = s.mbxState x0) ∧
    (∀ (x0 : Nat), (s.setLink p l v).memByte x0 = s.memByte x0) ∧ (∀ (x0 x1 : Nat), (s.setLink p l v).lineAttr x0 x1 = s.lineAttr x0 x1) :=
  ⟨rfl, rfl, rfl, rfl, rfl, rfl, rfl, rfl, rfl, rfl, rfl, rfl, rfl, rfl, rfl, rfl, rfl, rfl, rfl, rfl, rfl, rfl, rfl, rfl, rfl, rfl, rfl, rfl, rfl,
   rfl, rfl, rfl, fun _ => rfl, fun _ _ => rfl, fun _ _ => rfl, fun _ => rfl, fun _ => rfl, fun _ => rfl, fun _ => rfl, fun _ => rfl, fun _ => rfl,
   fun _ => rfl, fun _ _ => rfl, fun _ => rfl, fun _ => rfl, fun _ => rfl, fun _ => rfl, fun _ _ => rfl⟩

@[simp] theorem State.setHinge_frame (s : State) (n : Nat) (v : Hinge) :
    (s.setHinge n v).now = s.now ∧ (s.setHinge n v).regs = s.regs ∧ (s.setHinge n v).resps = s.resps ∧ (s.setHinge n v).reports = s.reports ∧
    (s.setHinge n v).reported = s.reported ∧ (s.setHinge n v).log = s.log ∧ (s.setHinge n v).wires = s.wires ∧ (s.setHinge n v).out = s.out ∧
    (s.setHinge n v).mesh = s.mesh ∧ (s.setHinge n v).tct = s.tct ∧ (s.setHinge n v).home = s.home ∧ (s.setHinge n v).mem = s.mem ∧
    (s.setHinge n v).attrs = s.attrs ∧ (s.setHinge n v).harts = s.harts ∧ (s.setHinge n v).hartCore = s.hartCore ∧ (s.setHinge n v).cores = s.cores ∧
    (s.setHinge n v).clusters = s.clusters ∧ (s.setHinge n v).slices = s.slices ∧ (s.setHinge n v).mcs = s.mcs ∧ (s.setHinge n v).ward = s.ward ∧
    (s.setHinge n v).engines = s.engines ∧ (s.setHinge n v).queues = s.queues ∧ (s.setHinge n v).dmas = s.dmas ∧ (s.setHinge n v).router = s.router ∧
    (s.setHinge n v).ports = s.ports ∧ (s.setHinge n v).links = s.links ∧ (s.setHinge n v).power = s.power ∧ (s.setHinge n v).boot = s.boot ∧
    (s.setHinge n v).sideband = s.sideband ∧ (s.setHinge n v).tap = s.tap ∧ (s.setHinge n v).free = s.free ∧ (s.setHinge n v).pending = s.pending ∧
    (∀ (x0 : Nat), (s.setHinge n v).reg x0 = s.reg x0) ∧ (∀ (x0 : Nat) (x1 : Field), (s.setHinge n v).fld x0 x1 = s.fld x0 x1) ∧
    (∀ (x0 : Nat) (x1 : Field), (s.setHinge n v).flag x0 x1 = s.flag x0 x1) ∧ (∀ (x0 : Nat), (s.setHinge n v).hart x0 = s.hart x0) ∧
    (∀ (x0 : Nat), (s.setHinge n v).core x0 = s.core x0) ∧ (∀ (x0 : Nat), (s.setHinge n v).cluster x0 = s.cluster x0) ∧
    (∀ (x0 : Nat), (s.setHinge n v).slice x0 = s.slice x0) ∧ (∀ (x0 : Nat), (s.setHinge n v).mc x0 = s.mc x0) ∧
    (∀ (x0 : Nat), (s.setHinge n v).engine x0 = s.engine x0) ∧ (∀ (x0 : Nat), (s.setHinge n v).queue x0 = s.queue x0) ∧
    (∀ (x0 x1 : Nat), (s.setHinge n v).dma x0 x1 = s.dma x0 x1) ∧ (∀ (x0 : Nat), (s.setHinge n v).port x0 = s.port x0) ∧
    (∀ (x0 x1 : Nat), (s.setHinge n v).link x0 x1 = s.link x0 x1) ∧ (∀ (x0 : Nat), (s.setHinge n v).mbxState x0 = s.mbxState x0) ∧
    (∀ (x0 : Nat), (s.setHinge n v).memByte x0 = s.memByte x0) ∧ (∀ (x0 x1 : Nat), (s.setHinge n v).lineAttr x0 x1 = s.lineAttr x0 x1) :=
  ⟨rfl, rfl, rfl, rfl, rfl, rfl, rfl, rfl, rfl, rfl, rfl, rfl, rfl, rfl, rfl, rfl, rfl, rfl, rfl, rfl, rfl, rfl, rfl, rfl, rfl, rfl, rfl, rfl, rfl,
   rfl, rfl, rfl, fun _ => rfl, fun _ _ => rfl, fun _ _ => rfl, fun _ => rfl, fun _ => rfl, fun _ => rfl, fun _ => rfl, fun _ => rfl, fun _ => rfl,
   fun _ => rfl, fun _ _ => rfl, fun _ => rfl, fun _ _ => rfl, fun _ => rfl, fun _ => rfl, fun _ _ => rfl⟩

@[simp] theorem State.setMbxState_frame (s : State) (b : Nat) (v : MbxState) :
    (s.setMbxState b v).now = s.now ∧ (s.setMbxState b v).regs = s.regs ∧ (s.setMbxState b v).hinges = s.hinges ∧
    (s.setMbxState b v).resps = s.resps ∧ (s.setMbxState b v).reports = s.reports ∧ (s.setMbxState b v).reported = s.reported ∧
    (s.setMbxState b v).log = s.log ∧ (s.setMbxState b v).wires = s.wires ∧ (s.setMbxState b v).out = s.out ∧ (s.setMbxState b v).mesh = s.mesh ∧
    (s.setMbxState b v).tct = s.tct ∧ (s.setMbxState b v).home = s.home ∧ (s.setMbxState b v).mem = s.mem ∧ (s.setMbxState b v).attrs = s.attrs ∧
    (s.setMbxState b v).harts = s.harts ∧ (s.setMbxState b v).hartCore = s.hartCore ∧ (s.setMbxState b v).cores = s.cores ∧
    (s.setMbxState b v).clusters = s.clusters ∧ (s.setMbxState b v).slices = s.slices ∧ (s.setMbxState b v).mcs = s.mcs ∧
    (s.setMbxState b v).engines = s.engines ∧ (s.setMbxState b v).queues = s.queues ∧ (s.setMbxState b v).dmas = s.dmas ∧
    (s.setMbxState b v).router = s.router ∧ (s.setMbxState b v).ports = s.ports ∧ (s.setMbxState b v).links = s.links ∧
    (s.setMbxState b v).power = s.power ∧ (s.setMbxState b v).boot = s.boot ∧ (s.setMbxState b v).sideband = s.sideband ∧
    (s.setMbxState b v).tap = s.tap ∧ (s.setMbxState b v).free = s.free ∧ (s.setMbxState b v).pending = s.pending ∧
    (∀ (x0 : Nat), (s.setMbxState b v).reg x0 = s.reg x0) ∧ (∀ (x0 : Nat) (x1 : Field), (s.setMbxState b v).fld x0 x1 = s.fld x0 x1) ∧
    (∀ (x0 : Nat) (x1 : Field), (s.setMbxState b v).flag x0 x1 = s.flag x0 x1) ∧ (∀ (x0 : Nat), (s.setMbxState b v).hart x0 = s.hart x0) ∧
    (∀ (x0 : Nat), (s.setMbxState b v).core x0 = s.core x0) ∧ (∀ (x0 : Nat), (s.setMbxState b v).cluster x0 = s.cluster x0) ∧
    (∀ (x0 : Nat), (s.setMbxState b v).slice x0 = s.slice x0) ∧ (∀ (x0 : Nat), (s.setMbxState b v).mc x0 = s.mc x0) ∧
    (∀ (x0 : Nat), (s.setMbxState b v).engine x0 = s.engine x0) ∧ (∀ (x0 : Nat), (s.setMbxState b v).queue x0 = s.queue x0) ∧
    (∀ (x0 x1 : Nat), (s.setMbxState b v).dma x0 x1 = s.dma x0 x1) ∧ (∀ (x0 : Nat), (s.setMbxState b v).port x0 = s.port x0) ∧
    (∀ (x0 x1 : Nat), (s.setMbxState b v).link x0 x1 = s.link x0 x1) ∧ (∀ (x0 : Nat), (s.setMbxState b v).hinge x0 = s.hinge x0) ∧
    (∀ (x0 : Nat), (s.setMbxState b v).memByte x0 = s.memByte x0) ∧ (∀ (x0 x1 : Nat), (s.setMbxState b v).lineAttr x0 x1 = s.lineAttr x0 x1) :=
  ⟨rfl, rfl, rfl, rfl, rfl, rfl, rfl, rfl, rfl, rfl, rfl, rfl, rfl, rfl, rfl, rfl, rfl, rfl, rfl, rfl, rfl, rfl, rfl, rfl, rfl, rfl, rfl, rfl, rfl,
   rfl, rfl, rfl, fun _ => rfl, fun _ _ => rfl, fun _ _ => rfl, fun _ => rfl, fun _ => rfl, fun _ => rfl, fun _ => rfl, fun _ => rfl, fun _ => rfl,
   fun _ => rfl, fun _ _ => rfl, fun _ => rfl, fun _ _ => rfl, fun _ => rfl, fun _ => rfl, fun _ _ => rfl⟩

@[simp] theorem State.setDm_frame (s : State) (n v : Nat) :
    (s.setDm n v).now = s.now ∧ (s.setDm n v).regs = s.regs ∧ (s.setDm n v).hinges = s.hinges ∧ (s.setDm n v).resps = s.resps ∧
    (s.setDm n v).reports = s.reports ∧ (s.setDm n v).reported = s.reported ∧ (s.setDm n v).log = s.log ∧ (s.setDm n v).wires = s.wires ∧
    (s.setDm n v).out = s.out ∧ (s.setDm n v).mesh = s.mesh ∧ (s.setDm n v).tct = s.tct ∧ (s.setDm n v).home = s.home ∧ (s.setDm n v).mem = s.mem ∧
    (s.setDm n v).attrs = s.attrs ∧ (s.setDm n v).harts = s.harts ∧ (s.setDm n v).hartCore = s.hartCore ∧ (s.setDm n v).cores = s.cores ∧
    (s.setDm n v).clusters = s.clusters ∧ (s.setDm n v).slices = s.slices ∧ (s.setDm n v).mcs = s.mcs ∧ (s.setDm n v).ward = s.ward ∧
    (s.setDm n v).engines = s.engines ∧ (s.setDm n v).queues = s.queues ∧ (s.setDm n v).dmas = s.dmas ∧ (s.setDm n v).router = s.router ∧
    (s.setDm n v).ports = s.ports ∧ (s.setDm n v).links = s.links ∧ (s.setDm n v).power = s.power ∧ (s.setDm n v).boot = s.boot ∧
    (s.setDm n v).sideband = s.sideband ∧ (s.setDm n v).free = s.free ∧ (s.setDm n v).pending = s.pending ∧
    (∀ (x0 : Nat), (s.setDm n v).reg x0 = s.reg x0) ∧ (∀ (x0 : Nat) (x1 : Field), (s.setDm n v).fld x0 x1 = s.fld x0 x1) ∧
    (∀ (x0 : Nat) (x1 : Field), (s.setDm n v).flag x0 x1 = s.flag x0 x1) ∧ (∀ (x0 : Nat), (s.setDm n v).hart x0 = s.hart x0) ∧
    (∀ (x0 : Nat), (s.setDm n v).core x0 = s.core x0) ∧ (∀ (x0 : Nat), (s.setDm n v).cluster x0 = s.cluster x0) ∧
    (∀ (x0 : Nat), (s.setDm n v).slice x0 = s.slice x0) ∧ (∀ (x0 : Nat), (s.setDm n v).mc x0 = s.mc x0) ∧
    (∀ (x0 : Nat), (s.setDm n v).engine x0 = s.engine x0) ∧ (∀ (x0 : Nat), (s.setDm n v).queue x0 = s.queue x0) ∧
    (∀ (x0 x1 : Nat), (s.setDm n v).dma x0 x1 = s.dma x0 x1) ∧ (∀ (x0 : Nat), (s.setDm n v).port x0 = s.port x0) ∧
    (∀ (x0 x1 : Nat), (s.setDm n v).link x0 x1 = s.link x0 x1) ∧ (∀ (x0 : Nat), (s.setDm n v).hinge x0 = s.hinge x0) ∧
    (∀ (x0 : Nat), (s.setDm n v).mbxState x0 = s.mbxState x0) ∧ (∀ (x0 : Nat), (s.setDm n v).memByte x0 = s.memByte x0) ∧
    (∀ (x0 x1 : Nat), (s.setDm n v).lineAttr x0 x1 = s.lineAttr x0 x1) :=
  ⟨rfl, rfl, rfl, rfl, rfl, rfl, rfl, rfl, rfl, rfl, rfl, rfl, rfl, rfl, rfl, rfl, rfl, rfl, rfl, rfl, rfl, rfl, rfl, rfl, rfl, rfl, rfl, rfl, rfl,
   rfl, rfl, rfl, fun _ => rfl, fun _ _ => rfl, fun _ _ => rfl, fun _ => rfl, fun _ => rfl, fun _ => rfl, fun _ => rfl, fun _ => rfl, fun _ => rfl,
   fun _ => rfl, fun _ _ => rfl, fun _ => rfl, fun _ _ => rfl, fun _ => rfl, fun _ => rfl, fun _ => rfl, fun _ _ => rfl⟩

@[simp] theorem State.setInjQueue_frame (s : State) (n : Nat) (p : Plane) (k : Cls) (q : List Flit) :
    (s.setInjQueue n p k q).now = s.now ∧ (s.setInjQueue n p k q).regs = s.regs ∧ (s.setInjQueue n p k q).hinges = s.hinges ∧
    (s.setInjQueue n p k q).resps = s.resps ∧ (s.setInjQueue n p k q).reports = s.reports ∧ (s.setInjQueue n p k q).reported = s.reported ∧
    (s.setInjQueue n p k q).log = s.log ∧ (s.setInjQueue n p k q).wires = s.wires ∧ (s.setInjQueue n p k q).out = s.out ∧
    (s.setInjQueue n p k q).tct = s.tct ∧ (s.setInjQueue n p k q).home = s.home ∧ (s.setInjQueue n p k q).mem = s.mem ∧
    (s.setInjQueue n p k q).attrs = s.attrs ∧ (s.setInjQueue n p k q).harts = s.harts ∧ (s.setInjQueue n p k q).hartCore = s.hartCore ∧
    (s.setInjQueue n p k q).cores = s.cores ∧ (s.setInjQueue n p k q).clusters = s.clusters ∧ (s.setInjQueue n p k q).slices = s.slices ∧
    (s.setInjQueue n p k q).mcs = s.mcs ∧ (s.setInjQueue n p k q).ward = s.ward ∧ (s.setInjQueue n p k q).engines = s.engines ∧
    (s.setInjQueue n p k q).queues = s.queues ∧ (s.setInjQueue n p k q).dmas = s.dmas ∧ (s.setInjQueue n p k q).router = s.router ∧
    (s.setInjQueue n p k q).ports = s.ports ∧ (s.setInjQueue n p k q).links = s.links ∧ (s.setInjQueue n p k q).power = s.power ∧
    (s.setInjQueue n p k q).boot = s.boot ∧ (s.setInjQueue n p k q).sideband = s.sideband ∧ (s.setInjQueue n p k q).tap = s.tap ∧
    (s.setInjQueue n p k q).free = s.free ∧ (s.setInjQueue n p k q).pending = s.pending ∧ (∀ (x0 : Nat), (s.setInjQueue n p k q).reg x0 = s.reg x0) ∧
    (∀ (x0 : Nat) (x1 : Field), (s.setInjQueue n p k q).fld x0 x1 = s.fld x0 x1) ∧
    (∀ (x0 : Nat) (x1 : Field), (s.setInjQueue n p k q).flag x0 x1 = s.flag x0 x1) ∧ (∀ (x0 : Nat), (s.setInjQueue n p k q).hart x0 = s.hart x0) ∧
    (∀ (x0 : Nat), (s.setInjQueue n p k q).core x0 = s.core x0) ∧ (∀ (x0 : Nat), (s.setInjQueue n p k q).cluster x0 = s.cluster x0) ∧
    (∀ (x0 : Nat), (s.setInjQueue n p k q).slice x0 = s.slice x0) ∧ (∀ (x0 : Nat), (s.setInjQueue n p k q).mc x0 = s.mc x0) ∧
    (∀ (x0 : Nat), (s.setInjQueue n p k q).engine x0 = s.engine x0) ∧ (∀ (x0 : Nat), (s.setInjQueue n p k q).queue x0 = s.queue x0) ∧
    (∀ (x0 x1 : Nat), (s.setInjQueue n p k q).dma x0 x1 = s.dma x0 x1) ∧ (∀ (x0 : Nat), (s.setInjQueue n p k q).port x0 = s.port x0) ∧
    (∀ (x0 x1 : Nat), (s.setInjQueue n p k q).link x0 x1 = s.link x0 x1) ∧ (∀ (x0 : Nat), (s.setInjQueue n p k q).hinge x0 = s.hinge x0) ∧
    (∀ (x0 : Nat), (s.setInjQueue n p k q).mbxState x0 = s.mbxState x0) ∧ (∀ (x0 : Nat), (s.setInjQueue n p k q).memByte x0 = s.memByte x0) ∧
    (∀ (x0 x1 : Nat), (s.setInjQueue n p k q).lineAttr x0 x1 = s.lineAttr x0 x1) :=
  ⟨rfl, rfl, rfl, rfl, rfl, rfl, rfl, rfl, rfl, rfl, rfl, rfl, rfl, rfl, rfl, rfl, rfl, rfl, rfl, rfl, rfl, rfl, rfl, rfl, rfl, rfl, rfl, rfl, rfl,
   rfl, rfl, rfl, fun _ => rfl, fun _ _ => rfl, fun _ _ => rfl, fun _ => rfl, fun _ => rfl, fun _ => rfl, fun _ => rfl, fun _ => rfl, fun _ => rfl,
   fun _ => rfl, fun _ _ => rfl, fun _ => rfl, fun _ _ => rfl, fun _ => rfl, fun _ => rfl, fun _ => rfl, fun _ _ => rfl⟩

@[simp] theorem State.arrive_frame (s : State) (f : Flit) :
    (s.arrive f).now = s.now ∧ (s.arrive f).regs = s.regs ∧ (s.arrive f).hinges = s.hinges ∧ (s.arrive f).resps = s.resps ∧
    (s.arrive f).reports = s.reports ∧ (s.arrive f).reported = s.reported ∧ (s.arrive f).log = s.log ∧ (s.arrive f).wires = s.wires ∧
    (s.arrive f).out = s.out ∧ (s.arrive f).tct = s.tct ∧ (s.arrive f).home = s.home ∧ (s.arrive f).mem = s.mem ∧ (s.arrive f).attrs = s.attrs ∧
    (s.arrive f).harts = s.harts ∧ (s.arrive f).hartCore = s.hartCore ∧ (s.arrive f).cores = s.cores ∧ (s.arrive f).clusters = s.clusters ∧
    (s.arrive f).slices = s.slices ∧ (s.arrive f).mcs = s.mcs ∧ (s.arrive f).ward = s.ward ∧ (s.arrive f).engines = s.engines ∧
    (s.arrive f).queues = s.queues ∧ (s.arrive f).dmas = s.dmas ∧ (s.arrive f).router = s.router ∧ (s.arrive f).ports = s.ports ∧
    (s.arrive f).links = s.links ∧ (s.arrive f).power = s.power ∧ (s.arrive f).boot = s.boot ∧ (s.arrive f).sideband = s.sideband ∧
    (s.arrive f).tap = s.tap ∧ (s.arrive f).free = s.free ∧ (s.arrive f).pending = s.pending ∧ (∀ (x0 : Nat), (s.arrive f).reg x0 = s.reg x0) ∧
    (∀ (x0 : Nat) (x1 : Field), (s.arrive f).fld x0 x1 = s.fld x0 x1) ∧ (∀ (x0 : Nat) (x1 : Field), (s.arrive f).flag x0 x1 = s.flag x0 x1) ∧
    (∀ (x0 : Nat), (s.arrive f).hart x0 = s.hart x0) ∧ (∀ (x0 : Nat), (s.arrive f).core x0 = s.core x0) ∧
    (∀ (x0 : Nat), (s.arrive f).cluster x0 = s.cluster x0) ∧ (∀ (x0 : Nat), (s.arrive f).slice x0 = s.slice x0) ∧
    (∀ (x0 : Nat), (s.arrive f).mc x0 = s.mc x0) ∧ (∀ (x0 : Nat), (s.arrive f).engine x0 = s.engine x0) ∧
    (∀ (x0 : Nat), (s.arrive f).queue x0 = s.queue x0) ∧ (∀ (x0 x1 : Nat), (s.arrive f).dma x0 x1 = s.dma x0 x1) ∧
    (∀ (x0 : Nat), (s.arrive f).port x0 = s.port x0) ∧ (∀ (x0 x1 : Nat), (s.arrive f).link x0 x1 = s.link x0 x1) ∧
    (∀ (x0 : Nat), (s.arrive f).hinge x0 = s.hinge x0) ∧ (∀ (x0 : Nat), (s.arrive f).mbxState x0 = s.mbxState x0) ∧
    (∀ (x0 : Nat), (s.arrive f).memByte x0 = s.memByte x0) ∧ (∀ (x0 x1 : Nat), (s.arrive f).lineAttr x0 x1 = s.lineAttr x0 x1) :=
  ⟨rfl, rfl, rfl, rfl, rfl, rfl, rfl, rfl, rfl, rfl, rfl, rfl, rfl, rfl, rfl, rfl, rfl, rfl, rfl, rfl, rfl, rfl, rfl, rfl, rfl, rfl, rfl, rfl, rfl,
   rfl, rfl, rfl, fun _ => rfl, fun _ _ => rfl, fun _ _ => rfl, fun _ => rfl, fun _ => rfl, fun _ => rfl, fun _ => rfl, fun _ => rfl, fun _ => rfl,
   fun _ => rfl, fun _ _ => rfl, fun _ => rfl, fun _ _ => rfl, fun _ => rfl, fun _ => rfl, fun _ => rfl, fun _ _ => rfl⟩

@[simp] theorem State.moveMesh_frame (s : State) (l : List Moving) :
    (s.moveMesh l).now = s.now ∧ (s.moveMesh l).regs = s.regs ∧ (s.moveMesh l).hinges = s.hinges ∧ (s.moveMesh l).resps = s.resps ∧
    (s.moveMesh l).reports = s.reports ∧ (s.moveMesh l).reported = s.reported ∧ (s.moveMesh l).log = s.log ∧ (s.moveMesh l).wires = s.wires ∧
    (s.moveMesh l).out = s.out ∧ (s.moveMesh l).tct = s.tct ∧ (s.moveMesh l).home = s.home ∧ (s.moveMesh l).mem = s.mem ∧
    (s.moveMesh l).attrs = s.attrs ∧ (s.moveMesh l).harts = s.harts ∧ (s.moveMesh l).hartCore = s.hartCore ∧ (s.moveMesh l).cores = s.cores ∧
    (s.moveMesh l).clusters = s.clusters ∧ (s.moveMesh l).slices = s.slices ∧ (s.moveMesh l).mcs = s.mcs ∧ (s.moveMesh l).ward = s.ward ∧
    (s.moveMesh l).engines = s.engines ∧ (s.moveMesh l).queues = s.queues ∧ (s.moveMesh l).dmas = s.dmas ∧ (s.moveMesh l).router = s.router ∧
    (s.moveMesh l).ports = s.ports ∧ (s.moveMesh l).links = s.links ∧ (s.moveMesh l).power = s.power ∧ (s.moveMesh l).boot = s.boot ∧
    (s.moveMesh l).sideband = s.sideband ∧ (s.moveMesh l).tap = s.tap ∧ (s.moveMesh l).free = s.free ∧ (s.moveMesh l).pending = s.pending ∧
    (∀ (x0 : Nat), (s.moveMesh l).reg x0 = s.reg x0) ∧ (∀ (x0 : Nat) (x1 : Field), (s.moveMesh l).fld x0 x1 = s.fld x0 x1) ∧
    (∀ (x0 : Nat) (x1 : Field), (s.moveMesh l).flag x0 x1 = s.flag x0 x1) ∧ (∀ (x0 : Nat), (s.moveMesh l).hart x0 = s.hart x0) ∧
    (∀ (x0 : Nat), (s.moveMesh l).core x0 = s.core x0) ∧ (∀ (x0 : Nat), (s.moveMesh l).cluster x0 = s.cluster x0) ∧
    (∀ (x0 : Nat), (s.moveMesh l).slice x0 = s.slice x0) ∧ (∀ (x0 : Nat), (s.moveMesh l).mc x0 = s.mc x0) ∧
    (∀ (x0 : Nat), (s.moveMesh l).engine x0 = s.engine x0) ∧ (∀ (x0 : Nat), (s.moveMesh l).queue x0 = s.queue x0) ∧
    (∀ (x0 x1 : Nat), (s.moveMesh l).dma x0 x1 = s.dma x0 x1) ∧ (∀ (x0 : Nat), (s.moveMesh l).port x0 = s.port x0) ∧
    (∀ (x0 x1 : Nat), (s.moveMesh l).link x0 x1 = s.link x0 x1) ∧ (∀ (x0 : Nat), (s.moveMesh l).hinge x0 = s.hinge x0) ∧
    (∀ (x0 : Nat), (s.moveMesh l).mbxState x0 = s.mbxState x0) ∧ (∀ (x0 : Nat), (s.moveMesh l).memByte x0 = s.memByte x0) ∧
    (∀ (x0 x1 : Nat), (s.moveMesh l).lineAttr x0 x1 = s.lineAttr x0 x1) :=
  ⟨rfl, rfl, rfl, rfl, rfl, rfl, rfl, rfl, rfl, rfl, rfl, rfl, rfl, rfl, rfl, rfl, rfl, rfl, rfl, rfl, rfl, rfl, rfl, rfl, rfl, rfl, rfl, rfl, rfl,
   rfl, rfl, rfl, fun _ => rfl, fun _ _ => rfl, fun _ _ => rfl, fun _ => rfl, fun _ => rfl, fun _ => rfl, fun _ => rfl, fun _ => rfl, fun _ => rfl,
   fun _ => rfl, fun _ _ => rfl, fun _ => rfl, fun _ _ => rfl, fun _ => rfl, fun _ => rfl, fun _ => rfl, fun _ _ => rfl⟩

-- a block read back

@[simp] theorem State.hart_setHart (s : State) (k : Nat) (v : HartState) : (s.setHart k v).hart k = v := Tab.get_set_self _ _ _ _

theorem State.hart_setHart_ne (s : State) {k j : Nat} (v : HartState) (h : k ≠ j) : (s.setHart k v).hart j = s.hart j :=
  Tab.get_set_ne _ _ _ _ h

@[simp] theorem State.core_setCore (s : State) (k : Nat) (v : CoreState) : (s.setCore k v).core k = v := Tab.get_set_self _ _ _ _

theorem State.core_setCore_ne (s : State) {k j : Nat} (v : CoreState) (h : k ≠ j) : (s.setCore k v).core j = s.core j :=
  Tab.get_set_ne _ _ _ _ h

@[simp] theorem State.cluster_setCluster (s : State) (k : Nat) (v : Cluster) : (s.setCluster k v).cluster k = v := Tab.get_set_self _ _ _ _

theorem State.cluster_setCluster_ne (s : State) {k j : Nat} (v : Cluster) (h : k ≠ j) : (s.setCluster k v).cluster j = s.cluster j :=
  Tab.get_set_ne _ _ _ _ h

@[simp] theorem State.slice_setSlice (s : State) (k : Nat) (v : Slice) : (s.setSlice k v).slice k = v := Tab.get_set_self _ _ _ _

theorem State.slice_setSlice_ne (s : State) {k j : Nat} (v : Slice) (h : k ≠ j) : (s.setSlice k v).slice j = s.slice j :=
  Tab.get_set_ne _ _ _ _ h

@[simp] theorem State.mc_setMc (s : State) (k : Nat) (v : Mc) : (s.setMc k v).mc k = v := Tab.get_set_self _ _ _ _

theorem State.mc_setMc_ne (s : State) {k j : Nat} (v : Mc) (h : k ≠ j) : (s.setMc k v).mc j = s.mc j :=
  Tab.get_set_ne _ _ _ _ h

@[simp] theorem State.engine_setEngine (s : State) (k : Nat) (v : Engine) : (s.setEngine k v).engine k = v := Tab.get_set_self _ _ _ _

theorem State.engine_setEngine_ne (s : State) {k j : Nat} (v : Engine) (h : k ≠ j) : (s.setEngine k v).engine j = s.engine j :=
  Tab.get_set_ne _ _ _ _ h

@[simp] theorem State.queue_setQueue (s : State) (k : Nat) (v : Queue) : (s.setQueue k v).queue k = v := Tab.get_set_self _ _ _ _

theorem State.queue_setQueue_ne (s : State) {k j : Nat} (v : Queue) (h : k ≠ j) : (s.setQueue k v).queue j = s.queue j :=
  Tab.get_set_ne _ _ _ _ h

@[simp] theorem State.port_setPort (s : State) (k : Nat) (v : Port) : (s.setPort k v).port k = v := Tab.get_set_self _ _ _ _

theorem State.port_setPort_ne (s : State) {k j : Nat} (v : Port) (h : k ≠ j) : (s.setPort k v).port j = s.port j :=
  Tab.get_set_ne _ _ _ _ h

@[simp] theorem State.hinge_setHinge (s : State) (k : Nat) (v : Hinge) : (s.setHinge k v).hinge k = v := Tab.get_set_self _ _ _ _

theorem State.hinge_setHinge_ne (s : State) {k j : Nat} (v : Hinge) (h : k ≠ j) : (s.setHinge k v).hinge j = s.hinge j :=
  Tab.get_set_ne _ _ _ _ h

@[simp] theorem State.mbxState_setMbxState (s : State) (k : Nat) (v : MbxState) : (s.setMbxState k v).mbxState k = v := Tab.get_set_self _ _ _ _

theorem State.mbxState_setMbxState_ne (s : State) {k j : Nat} (v : MbxState) (h : k ≠ j) : (s.setMbxState k v).mbxState j = s.mbxState j :=
  Tab.get_set_ne _ _ _ _ h

@[simp] theorem State.dma_setDma (s : State) (p l : Nat) (v : Dma) : (s.setDma p l v).dma p l = v := Tab.get_set_self _ _ _ _

theorem State.dma_setDma_ne (s : State) {p l q m : Nat} (v : Dma) (h : 16 * p + l ≠ 16 * q + m) : (s.setDma p l v).dma q m = s.dma q m :=
  Tab.get_set_ne _ _ _ _ h

@[simp] theorem State.link_setLink (s : State) (p l : Nat) (v : Link) : (s.setLink p l v).link p l = v := Tab.get_set_self _ _ _ _

theorem State.link_setLink_ne (s : State) {p l q m : Nat} (v : Link) (h : 4 * p + l ≠ 4 * q + m) : (s.setLink p l v).link q m = s.link q m :=
  Tab.get_set_ne _ _ _ _ h

@[simp] theorem State.lineAttr_setLineAttr (s : State) (pa cp : Nat) (a : LineAttr) : (s.setLineAttr pa cp a).lineAttr pa cp = a :=
  Tab.get_set_self _ _ _ _

@[simp] theorem State.now_toMclk (s : State) (t : Nat) : (s.toMclk t).now = max s.now t := rfl

@[simp] theorem State.out_sendAt (s : State) (t : Nat) (f : Flit) : (s.sendAt t f).out = s.out ++ [⟨t, f⟩] := rfl

@[simp] theorem State.out_send (s : State) (f : Flit) : (s.send f).out = s.out ++ [⟨s.now, f⟩] := rfl

@[simp] theorem State.resps_respond (s : State) (r : Resp) : (s.respond r).resps = s.resps ++ [r] := rfl

theorem State.draw_eq (s : State) (w : Nat) : s.draw w = (Config.freeValue w s.free, { s with free := s.free + 1 }) := rfl

/-- Taking a message from its ingress queue touches the mesh alone. -/
theorem State.taken_only (s : State) (f : Flit) : { s.taken f with mesh := s.mesh } = s := by
  have h : ∀ o : Option (Flit × List Flit), { (match o with
      | some (_, rest) => { s with mesh := { s.mesh with
          ingress := Tab.set [] s.mesh.ingress (8 * f.dst.val + f.dport.val) rest } }
      | none => s : State) with mesh := s.mesh } = s := by
    intro o; cases o <;> rfl
  exact h _

theorem State.taken_none (s : State) (f : Flit) (h : s.mesh.ingress = []) : s.taken f = s := by
  unfold State.taken; rw [h]; rfl

/-- A pulse touches the wired sources alone, and raises its own at most (R364). -/
theorem State.pulse_only (s : State) (src : Nat) :
    { s.pulse src with wires := s.wires } = s ∧ (∀ w ∈ s.wires, w ∈ (s.pulse src).wires) ∧
    ∀ w ∈ (s.pulse src).wires, w ∈ s.wires ∨ w = (s.now, src) := by
  unfold State.pulse; split
  · exact ⟨rfl, fun _ h => h, fun _ h => .inl h⟩
  · refine ⟨rfl, fun _ h => List.mem_append_left _ h, fun w h => ?_⟩
    rcases List.mem_append.mp h with h | h
    · exact .inl h
    · exact .inr (List.mem_singleton.mp h)

/-- Nothing is listed in memory at reset, so it has its canonical form. -/
theorem reset_mem_wf : Memory.wf State.reset.mem = true := rfl

end Sys2Proof.Machine
end

/-! What every step keeps (R8, R481, R485): the canonical form of the tables, the commands that still wait, and the clock's direction. The
relation `Follows s t` says that `t` may come after `s`; each operation of the model has one rule, named after it, that carries the relation
over the operation. -/

namespace Sys2Proof.Machine

open Safety

/-- `t` may come after `s` within one command: canonical tables stay canonical, the queue is the same and the clock has not gone back. -/
structure Follows (s t : State) : Prop where
  canonical : Canonical s → Canonical t
  queue : t.pending = s.pending
  clock : s.now ≤ t.now

/-- Whichever way the write went, its state follows. -/
def Wr.Follows (s₀ : State) : Wr → Prop
  | .ok t => Machine.Follows s₀ t
  | .no _ t => Machine.Follows s₀ t

/-- The state a register's effect leaves follows. -/
def RegEffect.Follows (s₀ : State) (e : RegEffect) : Prop := e.act.Follows s₀

/-- The state a page access leaves follows. -/
def PageAns.Follows (s₀ : State) (a : PageAns) : Prop := Machine.Follows s₀ a.s

/-- Wherever a port's access came, its state follows. -/
def PortAt.Follows (s₀ : State) : PortAt → Prop
  | .pa _ t => Machine.Follows s₀ t
  | .waits t => Machine.Follows s₀ t
  | .fail t => Machine.Follows s₀ t

/-- Wherever a channel's access came, its state follows. -/
def DmaAt.Follows (s₀ : State) : DmaAt → Prop
  | .pa _ t => Machine.Follows s₀ t
  | .waits t => Machine.Follows s₀ t
  | .fail t => Machine.Follows s₀ t

/-- Where a completion waits for a read, the state that asked for it follows. -/
def ComplAt.Follows (s₀ : State) : ComplAt → Prop
  | .waits t => Machine.Follows s₀ t
  | .pa _ _ => True
  | .fail _ => True

/-- Where a line is at hand, its state follows. -/
def Found.Follows (s₀ : State) : Found → Prop
  | .ready t => Machine.Follows s₀ t
  | .wait => True
  | .miss => True

/-- A state that is given follows. -/
def OptFollows (s₀ : State) : Option State → Prop
  | some t => Follows s₀ t
  | none => True

/-- A state that is given with a value follows. -/
def OptFstFollows {α : Type} (s₀ : State) : Option (State × α) → Prop
  | some r => Follows s₀ r.1
  | none => True

/-- The state of a register's own effect, where it has one, follows. -/
def OptEffectFollows (s₀ : State) : Option RegEffect → Prop
  | some e => e.Follows s₀
  | none => True

/-- The state a command completes with follows. -/
def OutFollows (s₀ : State) : Out → Prop
  | .next t => Follows s₀ t
  | .fault _ => True
  | .refused _ => True

/-- Writing keeps keys rising, whatever the default written. -/
theorem Tab.risingFrom_set {α : Type} [DecidableEq α] (d : α) {t : Tab α} (k : Nat) (v : α) (h : Tab.risingFrom none t = true) :
    Tab.risingFrom none (Tab.set d t k v) = true := by
  unfold Tab.set
  split
  · exact Tab.risingFrom_filter _ h
  · exact Tab.risingFrom_ins v h (by simp)

/-- Keys above every key of a rising table, found from no bound. -/
theorem Tab.risingFrom_none {α : Type} {t : Tab α} {b : Option Nat} (h : Tab.risingFrom b t = true) : Tab.risingFrom none t = true := by
  cases t with
  | nil => rfl
  | cons e t =>
    obtain ⟨j, u⟩ := e
    simp only [Tab.risingFrom, Bool.and_eq_true] at h ⊢
    exact ⟨trivial, h.2⟩

/-- A map that keeps each key it keeps an entry for keeps keys rising. -/
theorem Tab.risingFrom_filterMap {α : Type} {t : Tab α} {f : Nat × α → Option (Nat × α)} (hf : ∀ e e', f e = some e' → e'.1 = e.1) {b : Option Nat}
    (h : Tab.risingFrom b t = true) : Tab.risingFrom b (t.filterMap f) = true := by
  induction t generalizing b with
  | nil => exact h
  | cons e t ih =>
    obtain ⟨j, u⟩ := e
    simp only [Tab.risingFrom, Bool.and_eq_true] at h
    obtain ⟨hb, ht⟩ := h
    cases he : f (j, u) with
    | none =>
      rw [List.filterMap_cons_none he]
      refine ih ?_
      cases b with
      | none => exact Tab.risingFrom_none ht
      | some m => exact Tab.risingFrom_weaken ht (Nat.le_of_lt (of_decide_eq_true hb))
    | some e' =>
      obtain ⟨j', u'⟩ := e'
      obtain rfl : j' = j := hf _ _ he
      rw [List.filterMap_cons_some he]
      simp only [Tab.risingFrom, Bool.and_eq_true]
      exact ⟨hb, ih ht⟩

/-- A reset leaves a register at its address. -/
theorem afterReset_key {keep : PageKind → Nat → Nat} {e e' : Nat × Word} (h : afterReset keep e = some e') : e'.1 = e.1 := by
  unfold afterReset at h
  dsimp only at h
  split at h
  · cases h; rfl
  · obtain ⟨-, h⟩ := Option.ite_none_left_eq_some.mp h
    cases h; rfl

variable {s₀ s t : State}

-- the branches of a definition

theorem Wr.Follows.ite {c : Prop} [Decidable c] {a b : Wr} (ha : a.Follows s₀) (hb : b.Follows s₀) : (if c then a else b).Follows s₀ := by
  split <;> assumption

theorem Wr.Follows.ok (h : Machine.Follows s₀ t) : (Wr.ok t).Follows s₀ := h

theorem Wr.Follows.no {b : Nat} (h : Machine.Follows s₀ t) : (Wr.no b t).Follows s₀ := h

theorem Wr.Follows.of_ok {w : Wr} (h : w.Follows s₀) (e : w = .ok t) : Machine.Follows s₀ t := by subst e; exact h

theorem Wr.Follows.of_no {w : Wr} {b : Nat} (h : w.Follows s₀) (e : w = .no b t) : Machine.Follows s₀ t := by subst e; exact h

theorem RegEffect.Follows.ite {c : Prop} [Decidable c] {a b : RegEffect} (ha : a.Follows s₀) (hb : b.Follows s₀) :
    (if c then a else b).Follows s₀ := by
  split <;> assumption

theorem RegEffect.Follows.mk {locked admitted : Bool} {w : Wr} (h : w.Follows s₀) : (RegEffect.mk locked admitted w).Follows s₀ := h

theorem RegEffect.Follows.act {e : RegEffect} (h : e.Follows s₀) : e.act.Follows s₀ := h

theorem PageAns.Follows.ite {c : Prop} [Decidable c] {a b : PageAns} (ha : a.Follows s₀) (hb : b.Follows s₀) :
    (if c then a else b).Follows s₀ := by
  split <;> assumption

theorem PageAns.Follows.mk {data : Nat} {err : Bool} (h : Machine.Follows s₀ t) : (PageAns.mk t data err).Follows s₀ := h

theorem PageAns.Follows.state {a : PageAns} (h : a.Follows s₀) : Machine.Follows s₀ a.s := h

theorem PortAt.Follows.ite {c : Prop} [Decidable c] {a b : PortAt} (ha : a.Follows s₀) (hb : b.Follows s₀) :
    (if c then a else b).Follows s₀ := by
  split <;> assumption

theorem PortAt.Follows.pa {a : Nat} (h : Machine.Follows s₀ t) : (PortAt.pa a t).Follows s₀ := h

theorem PortAt.Follows.waits (h : Machine.Follows s₀ t) : (PortAt.waits t).Follows s₀ := h

theorem PortAt.Follows.fail (h : Machine.Follows s₀ t) : (PortAt.fail t).Follows s₀ := h

theorem PortAt.Follows.of_pa {x : PortAt} {a : Nat} (h : x.Follows s₀) (e : x = .pa a t) : Machine.Follows s₀ t := by subst e; exact h

theorem PortAt.Follows.of_waits {x : PortAt} (h : x.Follows s₀) (e : x = .waits t) : Machine.Follows s₀ t := by subst e; exact h

theorem PortAt.Follows.of_fail {x : PortAt} (h : x.Follows s₀) (e : x = .fail t) : Machine.Follows s₀ t := by subst e; exact h

theorem DmaAt.Follows.ite {c : Prop} [Decidable c] {a b : DmaAt} (ha : a.Follows s₀) (hb : b.Follows s₀) : (if c then a else b).Follows s₀ := by
  split <;> assumption

theorem DmaAt.Follows.pa {a : Nat} (h : Machine.Follows s₀ t) : (DmaAt.pa a t).Follows s₀ := h

theorem DmaAt.Follows.waits (h : Machine.Follows s₀ t) : (DmaAt.waits t).Follows s₀ := h

theorem DmaAt.Follows.fail (h : Machine.Follows s₀ t) : (DmaAt.fail t).Follows s₀ := h

theorem DmaAt.Follows.of_pa {x : DmaAt} {a : Nat} (h : x.Follows s₀) (e : x = .pa a t) : Machine.Follows s₀ t := by subst e; exact h

theorem DmaAt.Follows.of_waits {x : DmaAt} (h : x.Follows s₀) (e : x = .waits t) : Machine.Follows s₀ t := by subst e; exact h

theorem DmaAt.Follows.of_fail {x : DmaAt} (h : x.Follows s₀) (e : x = .fail t) : Machine.Follows s₀ t := by subst e; exact h

theorem ComplAt.Follows.ite {c : Prop} [Decidable c] {a b : ComplAt} (ha : a.Follows s₀) (hb : b.Follows s₀) :
    (if c then a else b).Follows s₀ := by
  split <;> assumption

theorem ComplAt.Follows.waits (h : Machine.Follows s₀ t) : (ComplAt.waits t).Follows s₀ := h

theorem ComplAt.Follows.of_waits {x : ComplAt} (h : x.Follows s₀) (e : x = .waits t) : Machine.Follows s₀ t := by subst e; exact h

theorem Found.Follows.ite {c : Prop} [Decidable c] {a b : Found} (ha : a.Follows s₀) (hb : b.Follows s₀) : (if c then a else b).Follows s₀ := by
  split <;> assumption

theorem Found.Follows.ready (h : Machine.Follows s₀ t) : (Found.ready t).Follows s₀ := h

theorem Found.Follows.of_ready {x : Found} (h : x.Follows s₀) (e : x = .ready t) : Machine.Follows s₀ t := by subst e; exact h

theorem OptFollows.ite {c : Prop} [Decidable c] {a b : Option State} (ha : OptFollows s₀ a) (hb : OptFollows s₀ b) :
    OptFollows s₀ (if c then a else b) := by
  split <;> assumption

theorem OptFollows.given (h : Follows s₀ t) : OptFollows s₀ (some t) := h

theorem OptFollows.of_some {o : Option State} (h : OptFollows s₀ o) (e : o = some t) : Follows s₀ t := by subst e; exact h

theorem OptFollows.getD {o : Option State} (ho : OptFollows s₀ o) (ht : Follows s₀ t) : Follows s₀ (o.getD t) := by
  cases o with
  | none => exact ht
  | some _ => exact ho

theorem OptFstFollows.ite {α : Type} {c : Prop} [Decidable c] {a b : Option (State × α)} (ha : OptFstFollows s₀ a) (hb : OptFstFollows s₀ b) :
    OptFstFollows s₀ (if c then a else b) := by
  split <;> assumption

theorem OptFstFollows.given {α : Type} {p : State × α} (h : Follows s₀ p.1) : OptFstFollows s₀ (some p) := h

theorem OptFstFollows.of_some {α : Type} {o : Option (State × α)} {r : State × α} (h : OptFstFollows s₀ o) (e : o = some r) :
    Follows s₀ r.1 := by
  subst e; exact h

theorem OptFstFollows.of_given {α : Type} {o : Option (State × α)} {x : α} (h : OptFstFollows s₀ o) (e : o = some (t, x)) : Follows s₀ t := by
  subst e; exact h

theorem OptEffectFollows.ite {c : Prop} [Decidable c] {a b : Option RegEffect} (ha : OptEffectFollows s₀ a) (hb : OptEffectFollows s₀ b) :
    OptEffectFollows s₀ (if c then a else b) := by
  split <;> assumption

theorem OptEffectFollows.given {e : RegEffect} (h : e.Follows s₀) : OptEffectFollows s₀ (some e) := h

theorem OptEffectFollows.getD {o : Option RegEffect} {e : RegEffect} (ho : OptEffectFollows s₀ o) (he : e.Follows s₀) :
    (o.getD e).Follows s₀ := by
  cases o with
  | none => exact he
  | some _ => exact ho

theorem OutFollows.ite {c : Prop} [Decidable c] {a b : Out} (ha : OutFollows s₀ a) (hb : OutFollows s₀ b) : OutFollows s₀ (if c then a else b) := by
  split <;> assumption

theorem OutFollows.next (h : Follows s₀ t) : OutFollows s₀ (.next t) := h

theorem OutFollows.of_next {o : Out} (h : OutFollows s₀ o) (e : o = .next t) : Follows s₀ t := by subst e; exact h

namespace Follows

theorem ite {c : Prop} [Decidable c] {a b : State} (ha : Follows s₀ a) (hb : Follows s₀ b) : Follows s₀ (if c then a else b) := by
  split <;> assumption

theorem ite_fst {α : Type} {c : Prop} [Decidable c] {a b : State × α} (ha : Follows s₀ a.1) (hb : Follows s₀ b.1) :
    Follows s₀ (if c then a else b).1 := by
  split <;> assumption

theorem ite_snd {α : Type} {c : Prop} [Decidable c] {a b : α × State} (ha : Follows s₀ a.2) (hb : Follows s₀ b.2) :
    Follows s₀ (if c then a else b).2 := by
  split <;> assumption

theorem fst {α : Type} {x : α} (h : Follows s₀ t) : Follows s₀ (t, x).1 := h

theorem snd {α : Type} {x : α} (h : Follows s₀ t) : Follows s₀ (x, t).2 := h

theorem of_fst {α : Type} {p : State × α} {x : α} (h : Follows s₀ p.1) (e : p = (t, x)) : Follows s₀ t := by subst e; exact h

theorem of_snd {α : Type} {p : α × State} {x : α} (h : Follows s₀ p.2) (e : p = (x, t)) : Follows s₀ t := by subst e; exact h

theorem foldl {α : Type} {f : State → α → State} {l : List α} (h : Follows s₀ s) (hf : ∀ s x, Follows s₀ s → Follows s₀ (f s x)) :
    Follows s₀ (l.foldl f s) := by
  induction l generalizing s with
  | nil => exact h
  | cons x l ih => exact ih (hf s x h)

theorem foldr {α : Type} {f : α → State → State} {l : List α} (h : Follows s₀ s) (hf : ∀ x s, Follows s₀ s → Follows s₀ (f x s)) :
    Follows s₀ (l.foldr f s) := by
  induction l with
  | nil => exact h
  | cons x l ih => exact hf x _ ih

theorem foldl_fst {α β : Type} {f : State × β → α → State × β} {l : List α} {p : State × β} (h : Follows s₀ p.1)
    (hf : ∀ p x, Follows s₀ p.1 → Follows s₀ (f p x).1) : Follows s₀ (l.foldl f p).1 := by
  induction l generalizing p with
  | nil => exact h
  | cons x l ih => exact ih (hf p x h)

theorem refl (s : State) : Follows s s := ⟨id, rfl, le_rfl⟩

-- the operations of the state that touch what `Follows` speaks of

/-- An update of any other part of the state. -/
theorem update {hinges resps reports reported log wires out mesh tct home attrs harts hartCore cores clusters slices mcs ward engines queues
    dmas router ports links power boot sideband tap free} (h : Follows s₀ s) :
    Follows s₀ { s with
      hinges := hinges, resps := resps, reports := reports, reported := reported, log := log, wires := wires, out := out, mesh := mesh
      tct := tct, home := home, attrs := attrs, harts := harts, hartCore := hartCore, cores := cores, clusters := clusters, slices := slices
      mcs := mcs, ward := ward, engines := engines, queues := queues, dmas := dmas, router := router, ports := ports, links := links
      power := power, boot := boot, sideband := sideband, tap := tap, free := free } :=
  ⟨h.canonical, h.queue, h.clock⟩

end Follows
end Sys2Proof.Machine

namespace Sys2Proof.Machine

open Safety

namespace Follows

variable {s₀ s t : State}

-- time, registers, error records, sources and messages

theorem toMclk {t'} (hs : Follows s₀ s) : Follows s₀ (s.toMclk t') := ⟨hs.canonical, hs.queue, hs.clock.trans (le_max_left _ _)⟩

theorem toAclk {t'} (hs : Follows s₀ s) : Follows s₀ (s.toAclk t') := hs.toMclk

theorem setReg {a v} (hs : Follows s₀ s) : Follows s₀ (s.setReg a v) := by
  refine ⟨fun hc => ?_, hs.queue, hs.clock⟩
  obtain ⟨hm, hr⟩ := hs.canonical hc
  exact ⟨hm, Tab.risingFrom_set _ _ _ hr⟩

theorem setFld {pg f v} (hs : Follows s₀ s) : Follows s₀ (s.setFld pg f v) := hs.setReg

theorem bump {pg f n} (hs : Follows s₀ s) : Follows s₀ (s.bump pg f n) := hs.setFld

theorem accessFault {pg b who off write} (hs : Follows s₀ s) : Follows s₀ (s.accessFault pg b who off write) := .ite hs.setReg.setFld hs.setReg.setReg

theorem pulse {src} (hs : Follows s₀ s) : Follows s₀ (s.pulse src) := .ite hs hs.update

theorem putRec {pg off r} (hs : Follows s₀ s) : Follows s₀ (s.putRec pg off r) := hs.setReg.setReg.setReg.setReg

theorem record {pg sev code addr detail secure} (hs : Follows s₀ s) : Follows s₀ (s.record pg sev code addr detail secure) := by
  unfold State.record
  split
  · exact hs
  · refine .ite hs.setReg.putRec ?_
    dsimp only
    split
    · exact hs.setReg.putRec.putRec.update.pulse
    · exact hs.setReg.putRec.putRec.update

theorem draw {w} (hs : Follows s₀ s) : Follows s₀ (s.draw w).2 := .snd hs.update

theorem sendAt {t' f} (hs : Follows s₀ s) : Follows s₀ (s.sendAt t' f) := hs.update

theorem send {f} (hs : Follows s₀ s) : Follows s₀ (s.send f) := hs.sendAt

theorem raiseHealth {v seq} (hs : Follows s₀ s) : Follows s₀ (s.raiseHealth v seq) :=
  .ite hs (Follows.ite hs.setFld.setFld.setFld.setFld hs.setFld.setFld.setFld).pulse

theorem arrive {f} (hs : Follows s₀ s) : Follows s₀ (s.arrive f) := hs.update

theorem taken {f} (hs : Follows s₀ s) : Follows s₀ (s.taken f) := by
  unfold State.taken
  dsimp only
  split
  · exact hs.update
  · exact hs

theorem respond {r} (hs : Follows s₀ s) : Follows s₀ (s.respond r) := hs.update

-- the uncore counters

theorem blind {pg} (hs : Follows s₀ s) : Follows s₀ (s.blind pg) := hs.setReg

theorem watch {pg} (hs : Follows s₀ s) : Follows s₀ (s.watch pg) := .ite hs.blind hs

theorem countOne {pg ev cls um i} (hs : Follows s₀ s) : Follows s₀ (countOne pg ev cls um s i) := by
  unfold Machine.countOne
  refine .ite (.ite hs.setReg ?_) hs
  dsimp only
  split
  · exact .ite hs.setReg.setReg.pulse hs.setReg.setReg
  · exact hs.setReg.setReg

theorem count {pg ev cls um} (hs : Follows s₀ s) : Follows s₀ (s.count pg ev cls um) := .ite hs.blind (.ite hs (hs.foldl (fun _ _ h1 => h1.countOne)))

-- the line store

theorem setMemByte {a b} (hs : Follows s₀ s) : Follows s₀ (s.setMemByte a b) := by
  refine ⟨fun hc => ?_, hs.queue, hs.clock⟩
  obtain ⟨hm, hr⟩ := hs.canonical hc
  exact ⟨State.mem_setMemByte_wf s a b hm, hr⟩

theorem setMemBytes {a x3} (hs : Follows s₀ s) : Follows s₀ (s.setMemBytes a x3) := by
  induction x3 generalizing s a with
  | nil => exact hs
  | cons x l ih => exact ih hs.setMemByte

theorem setMemLine {pa l} (hs : Follows s₀ s) : Follows s₀ (s.setMemLine pa l) := hs.setMemBytes

theorem setLineAttr {pa cp a} (hs : Follows s₀ s) : Follows s₀ (s.setLineAttr pa cp a) := hs.update

-- the L3 slice

theorem setSlice {c v} (hs : Follows s₀ s) : Follows s₀ (s.setSlice c v) := hs.update

theorem writebackAt {u c id pa data poison key cls} (hs : Follows s₀ s) : Follows s₀ (s.writebackAt u c id pa data poison key cls).1 := by
  unfold State.writebackAt
  dsimp only
  split
  · exact .fst hs
  · exact .fst hs.sendAt
  · exact .fst (hs.foldl (fun _ _ h1 => h1.sendAt))

theorem writeback {c id pa data poison key cls} (hs : Follows s₀ s) : Follows s₀ (s.writeback c id pa data poison key cls).1 := hs.writebackAt

theorem askFill {c id f t' partner} (hs : Follows s₀ s) : OptFollows s₀ (s.askFill c id f t' partner) := by
  unfold State.askFill
  dsimp only
  split
  · exact trivial
  · exact .given hs.sendAt
  · exact .given hs.sendAt

theorem sendSnoops {c t'} (hs : Follows s₀ s) : Follows s₀ (s.sendSnoops c t') :=
  hs.setSlice.foldl (fun _ _ h1 => .ite h1.setSlice h1.setSlice.sendAt)

theorem snoopAll {c id op cls pa t' targets} (hs : Follows s₀ s) : Follows s₀ (s.snoopAll c id op cls pa t' targets) :=
  (hs.foldl (fun _ _ h1 => h1.setSlice.count)).sendSnoops

theorem snoopAnswered {c k} (hs : Follows s₀ s) : Follows s₀ (s.snoopAnswered c k) := by
  unfold State.snoopAnswered
  dsimp only
  split
  · exact hs.setSlice.sendSnoops
  · exact hs

theorem maintReturn {c k u f} (hs : Follows s₀ s) : Follows s₀ (s.maintReturn c k u f) := by
  unfold State.maintReturn
  dsimp only
  split
  · exact hs
  · exact (Follows.ite hs hs.count).setSlice

theorem slicePresent {c u f} (hs : Follows s₀ s) : Follows s₀ (s.slicePresent c u f) := .ite hs.maintReturn hs.sendAt

theorem allocLine {c id f data dirty poison} (hs : Follows s₀ s) : OptFstFollows s₀ (s.allocLine c id f data dirty poison) := by
  unfold State.allocLine
  dsimp only
  split
  · exact .given (.fst hs.setSlice)
  · split
    · exact trivial
    · exact .given (.fst hs.setSlice)
    · exact .ite (.given (.fst hs.writeback.setSlice.count)) (.given (.fst hs.setSlice))

theorem endBufAt {u c id n after} (hs : Follows s₀ s) : Follows s₀ (s.endBufAt u c id n after) := by
  unfold State.endBufAt
  dsimp only
  split
  · split
    · exact hs.slicePresent
    · exact hs
  · refine .ite ?_ (.ite hs.setSlice hs.setSlice)
    split
    · exact hs.setSlice.slicePresent
    · exact hs.setSlice

theorem endBuf {c id n after} (hs : Follows s₀ s) : Follows s₀ (s.endBuf c id n after) := hs.endBufAt

theorem takeBuf {c held r ph wait victim} (hs : Follows s₀ s) : Follows s₀ (s.takeBuf c held r ph wait victim).1 := by
  unfold State.takeBuf
  dsimp only
  split
  · exact .fst hs.setSlice
  · exact .fst hs.setSlice

theorem placeLine {c id f data dirty poison} (hs : Follows s₀ s) : Follows s₀ (s.placeLine c id f data dirty poison).1 := by
  unfold State.placeLine
  split
  · exact .fst (hs.allocLine.of_given ‹_›)
  · exact .ite_fst (.fst hs.writeback) (.fst hs)

theorem finish {c id r st snp mem} (hs : Follows s₀ s) : Follows s₀ (s.finish c id r st snp mem) := by
  unfold State.finish
  extract_lets +onlyGivenNames f pa s1 sl way buf held slice? line dirtyOwner snooped tDeliver tModify tCmo keep setD grantTo _ rep done wb
  have h1 : Follows s₀ s1 := hs.setSlice
  have hkeep : Follows s₀ (keep s1).1 := by
    unfold keep
    split
    · split
      · exact h1.allocLine.of_some ‹_›
      · exact .fst h1
    · exact .fst h1
  have hset {s st} (h : Follows s₀ s) : Follows s₀ (setD s st) := h.setSlice
  have hgrant {s st} (h : Follows s₀ s) : Follows s₀ (grantTo s st) := (hset h).setSlice
  have hdone {t x f} (h : Follows s₀ t) : Follows s₀ (done (t, x) f) := .ite h.endBuf h.slicePresent.endBuf
  clear_value keep setD grantTo done wb
  split
  case h_1 | h_2 | h_3 | h_4 => exact (hgrant hkeep).slicePresent.endBuf
  case h_5 => exact hdone (hgrant h1.placeLine).count
  case h_6 =>
    extract_lets owner leave p s2
    have hleave {s} (h : Follows s₀ s) : Follows s₀ (leave s) := .ite h.setSlice h
    have h2 : Follows s₀ s2 := .ite (hset h1.placeLine) h1.placeLine
    exact .ite (hleave h1).slicePresent.endBuf (hdone (hleave h2))
  case h_7 | h_8 | h_9 | h_10 =>
    cases wb with
    | some => exact (hset h1.setSlice).writebackAt.endBufAt
    | none => exact (hset h1.setSlice).endBufAt
  case h_11 =>
    refine Follows.endBuf (Follows.sendAt ?_)
    cases wb with
    | some => exact (hset h1.setSlice).writebackAt
    | none => exact .fst (hset h1.setSlice)
  case h_12 | h_13 => exact (hset h1.setSlice).endBufAt
  case h_14 => exact (hset (.ite_fst (.fst h1) hkeep)).slicePresent.endBuf
  case h_15 => exact hdone (hset h1.placeLine)
  case h_16 | h_17 => exact hdone (hset (.ite_fst h1.placeLine h1.placeLine))
  case h_18 | h_19 => exact hdone (hset h1.placeLine).count
  case h_20 =>
    split
    · exact h1.endBufAt
    · exact h1.setSlice.endBufAt

theorem failReq {c id u f} (hs : Follows s₀ s) : Follows s₀ (s.failReq c id u f) := hs.setSlice.slicePresent.endBuf

theorem afterSnoops {c id r st snp} (hs : Follows s₀ s) : Follows s₀ (s.afterSnoops c id r st snp) := by
  unfold State.afterSnoops
  refine .ite ?_ hs.finish
  split
  · exact (hs.askFill.of_some ‹_›).setSlice
  · exact hs.failReq

theorem decideKeyed {c inBuf r} (hs : Follows s₀ s) : OptFollows s₀ (s.decideKeyed c inBuf r) := by
  unfold State.decideKeyed
  dsimp only
  split
  · exact .ite (.given (hs.takeBuf.foldl (fun _ _ h1 => h1.snoopAll)).count) trivial
  · split
    · refine .ite (.given (Follows.snoopAll (Follows.takeBuf ?_))) trivial
      split
      · exact hs.setSlice
      · exact hs
    · refine .ite (.given (Follows.afterSnoops (Follows.takeBuf ?_))) (.ite trivial (.given (Follows.finish ?_)))
      · split
        · exact hs.setSlice
        · exact hs
      · split
        · exact hs.setSlice
        · exact hs

theorem rekeyed {c id r} (hs : Follows s₀ s) : Follows s₀ (s.rekeyed c id r) := by
  unfold State.rekeyed
  refine OptFollows.getD (Follows.decideKeyed (Follows.setSlice ?_)) (Follows.setSlice ?_)
  · split
    · exact .ite_fst hs.writeback (.fst hs)
    · exact .fst hs
  · split
    · exact .ite_fst hs.writeback (.fst hs)
    · exact .fst hs

theorem writebackAlone {c l data poison key cls} (hs : Follows s₀ s) : Follows s₀ (s.writebackAlone c l data poison key cls) := hs.writeback.setSlice

theorem decideReq {c r} (hs : Follows s₀ s) : OptFollows s₀ (s.decideReq c r) := by
  unfold State.decideReq
  extract_lets f pa way s1 pres t s2
  have h1 : Follows s₀ s1 := .ite hs hs.count.count
  refine .ite h1.decideKeyed (.ite ?_ (.ite trivial (.given (.ite h1.takeBuf.snoopAll.count.rekeyed h1.takeBuf.snoopAll.count))))
  clear_value s2 t pres s1 way
  split
  · exact .ite h1.decideKeyed (Follows.ite h1.writebackAlone h1).setSlice.decideKeyed
  · exact h1.decideKeyed

theorem serveOne {c r} (hs : Follows s₀ s) : Follows s₀ (s.serveOne c r).1 := by
  unfold State.serveOne
  refine .ite_fst (.fst hs) ?_
  split
  · exact .ite_fst (.fst hs.setSlice) (.ite_fst (.fst hs) (.fst hs.sendAt))
  · split
    · exact .fst (hs.decideReq.of_some ‹_›)
    · exact .fst hs

theorem enterLane {c r} (hs : Follows s₀ s) : Follows s₀ (s.enterLane c r) := .ite hs.serveOne.setSlice hs.serveOne

theorem drainLanes {c} (hs : Follows s₀ s) : Follows s₀ (s.drainLanes c) := .ite hs (hs.setSlice.foldl (fun _ _ h1 => h1.enterLane))

theorem sliceRecord {pg c sev code addr detail sec} (hs : Follows s₀ s) : Follows s₀ (s.sliceRecord pg c sev code addr detail sec) := hs.record.pulse

theorem sliceRequest {c r} (hs : Follows s₀ s) : Follows s₀ (s.sliceRequest c r) :=
  .ite hs.sendAt (.ite hs.setSlice (.ite hs.sendAt.sliceRecord (.ite hs.sendAt hs.enterLane.drainLanes)))

theorem snoopResponse {c f} (hs : Follows s₀ s) : Follows s₀ (s.snoopResponse c f) := by
  unfold State.snoopResponse
  extract_lets _ s' _ _ _ _ _ s0
  have hs' : Follows s₀ s' := hs.snoopAnswered
  have hs0 : Follows s₀ s0 := .ite hs'.setSlice hs'
  refine .ite (.ite hs'.writebackAlone hs') ?_
  split
  · exact hs'
  · extract_lets _ _ _ x s1 _ _ _ s2 _ _ _ s3 s3'
    have hx : Follows s₀ x.1 := .ite_fst hs0.writeback (.fst hs0)
    have hs1 : Follows s₀ s1 := .ite hx.setSlice hx
    have hs2 : Follows s₀ s2 := hs1.setSlice
    have hs3 : Follows s₀ s3 := hs2.setSlice
    have hs3' : Follows s₀ s3' := hs2.setSlice
    refine .ite hs2 ?_
    split
    · exact .ite (.ite hs3.rekeyed.drainLanes hs3.snoopAll) hs2.afterSnoops.drainLanes
    · exact hs2.rekeyed.drainLanes
    · exact (OptFollows.getD hs3'.decideKeyed hs3').drainLanes
    · exact hs2

theorem fillArrival {c f} (hs : Follows s₀ s) : Follows s₀ (s.fillArrival c f) := by
  unfold State.fillArrival
  dsimp only
  split
  · exact .ite hs.setSlice hs
  · refine .ite (.ite hs (.ite (Follows.drainLanes (Follows.finish (Follows.ite ?_ hs)))
      (.ite (OptFollows.getD hs.askFill hs) hs.failReq.drainLanes))) (.ite hs (.ite (Follows.drainLanes ?_) hs.setSlice))
    · split
      · exact hs.send.setSlice
      · exact hs
    · split
      · exact hs.setSlice.slicePresent
      · exact hs.setSlice

-- what coherence with a cluster is needed for a walk

theorem setCluster {c v} (hs : Follows s₀ s) : Follows s₀ (s.setCluster c v) := hs.update

theorem setCore {k v} (hs : Follows s₀ s) : Follows s₀ (s.setCore k v) := hs.update

theorem setHart {h v} (hs : Follows s₀ s) : Follows s₀ (s.setHart h v) := hs.update

-- faults of the tenant context table

theorem faultSource {c t' cls stop port} (hs : Follows s₀ s) : Follows s₀ (s.faultSource c t' cls stop port) := .ite hs.send hs

-- the hart behind its commands

theorem tickAt {h p t'} (hs : Follows s₀ s) : Follows s₀ (s.tickAt h p t') := .ite hs.setHart hs

theorem tick {h} (hs : Follows s₀ s) : Follows s₀ (s.tick h) := hs.tickAt

theorem runFrom {h} (hs : Follows s₀ s) : Follows s₀ (s.runFrom h) := hs.setHart

theorem tickCore {k} (hs : Follows s₀ s) : Follows s₀ (s.tickCore k) := by
  unfold State.tickCore
  split
  · exact hs.tick
  · exact hs

theorem runCore {k} (hs : Follows s₀ s) : Follows s₀ (s.runCore k) := by
  unfold State.runCore
  split
  · exact hs.runFrom
  · exact hs

theorem hpm {h ev um exact} (hs : Follows s₀ s) : Follows s₀ (s.hpm h ev um exact) := hs.setHart

theorem writeNegative {h copy} (hs : Follows s₀ s) : Follows s₀ (s.writeNegative h copy) := by
  unfold State.writeNegative
  dsimp only
  split
  · exact hs
  · exact hs.setCluster

theorem openEpoch {h io} (hs : Follows s₀ s) : Follows s₀ (s.openEpoch h io) := by
  unfold State.openEpoch
  dsimp only
  split
  · exact hs
  · exact hs.writeNegative.setCore.setHart

theorem closeEpoch {h cause} (hs : Follows s₀ s) : Follows s₀ (s.closeEpoch h cause) := by
  unfold State.closeEpoch
  dsimp only
  split
  · exact hs
  · exact hs.setHart.setFld

theorem withArch {h f} (hs : Follows s₀ s) : Follows s₀ (s.withArch h f) := hs.setHart

-- the plain write of a page register

theorem plainWrite {p off v} (hs : Follows s₀ s) : Follows s₀ (s.plainWrite p off v) := by
  unfold State.plainWrite
  split
  · exact hs.setReg
  · exact hs

theorem markRetired {f n} (hs : Follows s₀ s) : Follows s₀ (s.markRetired f n) := hs.setFld.raiseHealth

-- the DMA engines

theorem setDma {c ch d} (hs : Follows s₀ s) : Follows s₀ (s.setDma c ch d) := hs.update

theorem setChState {c ch v} (hs : Follows s₀ s) : Follows s₀ (s.setChState c ch v) := hs.setFld

theorem chLocked {c ch write} (hs : Follows s₀ s) : Follows s₀ (s.chLocked c ch write) := .ite hs hs.accessFault

theorem dmaXlat {c ch va write want} (hs : Follows s₀ s) : DmaAt.Follows s₀ (s.dmaXlat c ch va write want) := by
  unfold State.dmaXlat
  dsimp only
  split
  · exact .pa hs.setDma
  · exact .fail hs.setDma
  · exact .ite (.waits hs.setDma) (.waits hs.setDma.send)

theorem dmaRaise {c ch k off} (hs : Follows s₀ s) : Follows s₀ (s.dmaRaise c ch k off) := .ite hs.send hs.chLocked.record

theorem dmaRecord {c ch sev code pa} (hs : Follows s₀ s) : Follows s₀ (s.dmaRecord c ch sev code pa) := hs.record

theorem dmaCount {c ch ev} (hs : Follows s₀ s) : Follows s₀ (s.dmaCount c ch ev) := hs.count

theorem dmaSettle {c ch} (hs : Follows s₀ s) : Follows s₀ (s.dmaSettle c ch) := .ite hs (.ite hs.setDma.setChState hs.setDma.setFld.setChState)

theorem dmaHalt {c ch cause code e} (hs : Follows s₀ s) : Follows s₀ (s.dmaHalt c ch cause code e) := by
  unfold State.dmaHalt
  extract_lets pg w d s1 s2 s3
  have h1 : Follows s₀ s1 := hs.setDma.setReg.dmaRecord
  have h2 : Follows s₀ s2 := .ite h1.dmaRaise h1
  have h3 : Follows s₀ s3 := .ite h2.faultSource h2
  exact h3.dmaCount.setChState.dmaSettle

theorem dmaPageFail {c ch va write} (hs : Follows s₀ s) : Follows s₀ (s.dmaPageFail c ch va write) := hs.dmaHalt

theorem dmaFail {c ch e} (hs : Follows s₀ s) : Follows s₀ (s.dmaFail c ch e) := .ite hs hs.setDma

theorem dmaRefuse {c ch e} (hs : Follows s₀ s) : Follows s₀ (s.dmaRefuse c ch e) := hs.chLocked.dmaFail

theorem dmaEngineHalt {c ch e} (hs : Follows s₀ s) : Follows s₀ (s.dmaEngineHalt c ch e) :=
  (Follows.ite hs.setFld hs.setReg).dmaRecord.pulse.foldl (fun _ _ h1 => .ite (Follows.ite h1.setDma.dmaRaise h1.setDma).dmaCount.setChState.dmaSettle
    h1)

theorem dmaBusError {c ch} (hs : Follows s₀ s) : Follows s₀ (s.dmaBusError c ch) := by
  unfold State.dmaBusError
  split
  · exact hs
  · exact .ite hs.dmaEngineHalt hs.dmaHalt

theorem dmaReadDesc {c ch i t' ahead} (hs : Follows s₀ s) : Follows s₀ (s.dmaReadDesc c ch i t' ahead) := by
  unfold State.dmaReadDesc
  refine .ite (Follows.ite hs hs.setDma).dmaRefuse ?_
  split
  · exact (Follows.ite (hs.dmaXlat.of_fail ‹_›) (hs.dmaXlat.of_fail ‹_›).setDma).dmaPageFail
  · exact .ite (hs.dmaXlat.of_waits ‹_›) (hs.dmaXlat.of_waits ‹_›).setDma
  · exact .ite (Follows.ite (hs.dmaXlat.of_pa ‹_›) (hs.dmaXlat.of_pa ‹_›).setDma).sendAt
      (Follows.ite (hs.dmaXlat.of_pa ‹_›) (hs.dmaXlat.of_pa ‹_›).setDma).dmaFail

theorem dmaNext {c ch t'} (hs : Follows s₀ s) : Follows s₀ (s.dmaNext c ch t') := by
  unfold State.dmaNext
  refine .ite hs.setDma.setChState (.ite hs.setDma.dmaHalt ?_)
  split
  · exact .ite hs.setDma.dmaReadDesc hs.setDma
  · exact hs.dmaReadDesc

theorem dmaGo {c ch} (hs : Follows s₀ s) : Follows s₀ (s.dmaGo c ch) := by
  unfold State.dmaGo
  refine .ite hs.setFld.setChState ?_
  dsimp only
  split
  · exact .ite hs.setFld.setDma.setChState.watch.sendAt hs.setFld.setDma.setChState.watch.setDma.dmaRefuse
  · exact hs.setFld.setDma.setChState.watch.setDma.dmaNext

theorem dmaContext {c ch f bad} (hs : Follows s₀ s) : Follows s₀ (s.dmaContext c ch f bad) :=
  .ite (.ite hs hs.setDma) (.ite hs.draw.setDma.dmaFail (.ite hs.setDma.dmaNext hs.setDma.dmaSettle))

theorem dmaWriteBack {c ch d status} (hs : Follows s₀ s) : Follows s₀ (s.dmaWriteBack c ch d status) := by
  unfold State.dmaWriteBack
  refine .ite hs.setDma.dmaRefuse ?_
  split
  · exact (hs.dmaXlat.of_fail ‹_›).setDma.dmaPageFail
  · exact (hs.dmaXlat.of_waits ‹_›).setDma
  · exact .ite (hs.dmaXlat.of_pa ‹_›).setDma.send (hs.dmaXlat.of_pa ‹_›).setDma.dmaFail

theorem dmaAhead {c ch} (hs : Follows s₀ s) : Follows s₀ (s.dmaAhead c ch) := .ite hs.dmaReadDesc hs

theorem dmaDescriptor {c ch f bad} (hs : Follows s₀ s) : Follows s₀ (s.dmaDescriptor c ch f bad) := by
  unfold State.dmaDescriptor
  extract_lets _ _ _ _ s0 _ s1 s1'
  have hs0 : Follows s₀ s0 := .ite hs.dmaRecord hs
  have hs1 : Follows s₀ s1 := hs0.setDma.dmaWriteBack
  have hs1' : Follows s₀ s1' := hs0.setDma
  exact .ite hs (.ite hs.setDma.dmaFail (.ite (.ite hs0 hs0.setDma.dmaAhead) (.ite hs0.setDma.setFld.setChState
    (.ite (.ite hs1.dmaHalt hs1) (.ite hs1'.dmaAhead hs1'.dmaSettle)))))

theorem dmaTake {c ch op} (hs : Follows s₀ s) : Follows s₀ (s.dmaTake c ch op) := by
  unfold State.dmaTake
  extract_lets d pg
  split
  · refine .ite hs ?_
    extract_lets s1 s2 s3
    have h1 : Follows s₀ s1 := hs.toMclk.setDma.setFld
    have h2 : Follows s₀ s2 := .ite h1.setReg h1
    have h3 : Follows s₀ s3 := .ite h2 h2.setReg
    exact .ite h3.setReg h3
  · exact hs

theorem dmaWrite {c ch id pa data poison blank} (hs : Follows s₀ s) : Follows s₀ (s.dmaWrite c ch id pa data poison blank) := hs.send.dmaCount

theorem dmaLine {c ch x pos} (hs : Follows s₀ s) : Follows s₀ (s.dmaLine c ch x pos) := by
  unfold State.dmaLine
  refine .ite hs.dmaRefuse ?_
  split
  · exact (hs.dmaXlat.of_fail ‹_›).dmaPageFail
  · exact hs.dmaXlat.of_waits ‹_›
  · exact .ite (hs.dmaXlat.of_pa ‹_›).dmaFail (.ite (hs.dmaXlat.of_pa ‹_›).setDma.send.dmaCount (hs.dmaXlat.of_pa ‹_›).setDma.dmaWrite)
  · exact hs.dmaXlat.of_pa ‹_›

theorem dmaLines {c ch index x5} (hs : Follows s₀ s) : Follows s₀ (s.dmaLines c ch index x5) := by
  induction x5 generalizing s with
  | zero =>
    exact hs
  | succ n ih =>
    rw [State.dmaLines]
    split
    · exact .ite hs (.ite hs.dmaLine.setDma (ih hs.dmaLine))
    · exact hs

theorem dmaBurst {c ch} (hs : Follows s₀ s) : Follows s₀ (s.dmaBurst c ch) := by
  unfold State.dmaBurst
  dsimp only
  split
  · exact hs
  · exact .ite hs hs.toMclk.setDma.dmaCount.dmaLines

theorem dmaPerformed {c ch x l} (hs : Follows s₀ s) : Follows s₀ (s.dmaPerformed c ch x l) :=
  .ite (Follows.ite hs.setFld.setReg hs.setFld).setReg (Follows.ite hs.setFld.setReg hs.setFld).setReg

theorem dmaPump {c ch fuel} (hs : Follows s₀ s) : Follows s₀ (s.dmaPump c ch fuel) := by
  induction fuel generalizing s with
  | zero =>
    exact hs
  | succ n ih =>
    rw [State.dmaPump]
    split
    · exact hs
    · dsimp only
      split
      · exact hs
      · refine .ite (ih hs.setDma.dmaPerformed) ?_
        split
        · refine .ite hs (.ite hs.setDma.dmaRefuse ?_)
          split
          · exact (hs.dmaXlat.of_fail ‹_›).setDma.dmaPageFail
          · exact hs.dmaXlat.of_waits ‹_›
          · exact .ite (hs.dmaXlat.of_pa ‹_›).setDma.dmaFail (ih (hs.dmaXlat.of_pa ‹_›).setDma.dmaWrite)
        · exact hs

theorem dmaLineReply {c ch k f bad} (hs : Follows s₀ s) : Follows s₀ (s.dmaLineReply c ch k f bad) := by
  unfold State.dmaLineReply
  dsimp only
  split
  · exact hs
  · exact (Follows.ite hs.setDma.dmaFail (.ite (Follows.ite hs.dmaRecord hs).setDma hs.setDma)).dmaPump.dmaSettle

theorem dmaTable {c ch f bad} (hs : Follows s₀ s) : Follows s₀ (s.dmaTable c ch f bad) := by
  unfold State.dmaTable
  refine .ite hs (Follows.dmaSettle (Follows.dmaPump (hs.setDma.foldl (fun _ _ h1 => ?_))))
  split
  · exact .ite h1.dmaReadDesc h1
  · split
    · exact h1.dmaWriteBack
    · exact h1
  · exact h1.dmaLines

theorem dmaComplete {c ch} (hs : Follows s₀ s) : Follows s₀ (s.dmaComplete c ch) := by
  unfold State.dmaComplete
  extract_lets d pg
  split
  · exact hs
  · refine .ite hs (.ite hs.dmaWriteBack (.ite ?_ hs))
    extract_lets s1 _ s2 s3
    have h1 : Follows s₀ s1 := .ite hs.dmaRaise hs
    have h2 : Follows s₀ s2 := h1.bump.setFld.dmaCount.setDma
    have h3 : Follows s₀ s3 := .ite h2.setFld h2
    exact .ite h3.setChState.dmaSettle h3.dmaNext.dmaAhead

theorem dmaWritten {c ch k f bad} (hs : Follows s₀ s) : Follows s₀ (s.dmaWritten c ch k f bad) :=
  .ite (.ite (.ite hs.dmaRecord hs) (.ite hs.setDma.dmaSettle (.ite hs.setDma.dmaFail hs.setDma))) (.ite hs.dmaRecord hs)

theorem dmaAbort {c ch} (hs : Follows s₀ s) : Follows s₀ (s.dmaAbort c ch) := by
  unfold State.dmaAbort
  dsimp only
  split
  · exact hs.setDma.setFld.setChState
  · exact (Follows.ite hs.dmaWriteBack.dmaRaise hs.dmaWriteBack).bump.setFld.dmaCount.setDma.setFld.setChState

theorem dmaRunWrite {c ch v} (hs : Follows s₀ s) : Wr.Follows s₀ (s.dmaRunWrite c ch v) :=
  .ite (.no hs) (.ok (.ite hs.setFld.dmaAbort (.ite hs.setFld.dmaGo (.ite hs.setFld.dmaGo (.ite hs.setFld.setChState.dmaSettle hs.setFld)))))

theorem dmaDoorbell {c ch v} (hs : Follows s₀ s) : Wr.Follows s₀ (s.dmaDoorbell c ch v) := by
  unfold State.dmaDoorbell
  refine .ite (.no hs) (.ok (.ite hs.setFld.setFld.dmaGo ?_))
  split
  · exact .ite hs.setFld.setFld.sendAt hs.setFld.setFld
  · exact .ite hs.setFld.setFld.setDma hs.setFld.setFld

theorem chanPageWrite {c ch off who v} (hs : Follows s₀ s) : OptEffectFollows s₀ (s.chanPageWrite c ch off who v) :=
  .ite (.given (.mk (.ite (.no hs) (.ok (Follows.ite hs hs.setDma).setReg)))) (.ite (.given (.mk (.ite (.no hs) (.ok hs.setReg))))
    (.ite (.given (.mk (.ite (.no hs) (.ok hs.setReg)))) (.ite (.given (.mk hs.dmaDoorbell))
    (.ite (.given (.mk (.ok (.ite hs.setReg hs)))) (.ite (.given (.mk hs.dmaRunWrite)) (.ite (.given (.mk (.ok (.ite hs.setReg hs)))) trivial))))))

theorem dmaPageWrite {c off who v} (hs : Follows s₀ s) : OptEffectFollows s₀ (s.dmaPageWrite c off who v) := by
  unfold State.dmaPageWrite
  refine .ite (.given (.mk (.ite (.no hs) (.ok ?_)))) (.ite (.given (.mk (.ok (.ite hs.setReg hs)))) trivial)
  split
  · exact .ite hs.setFld.setFld hs.setFld
  · exact hs.setFld

-- the commands of the DMA engines

theorem dmaReply {f act} (hs : Follows s₀ s) (hact : ∀ s x2 x3 x4 x5, Follows s₀ s → Follows s₀ (act s x2 x3 x4 x5)) :
    Follows s₀ (s.dmaReply f act) := by
  unfold State.dmaReply
  dsimp only
  split
  · exact .ite (hact _ _ _ _ _ hs.taken) hs.taken
  · exact hs.taken

theorem execDmaContextArrival {f} (hs : Follows s₀ s) : OutFollows s₀ (execDmaContextArrival f s) :=
  .next (hs.dmaReply (fun _ _ _ _ _ h1 => .ite h1.dmaContext h1))

theorem execDmaDescriptorArrival {f} (hs : Follows s₀ s) : OutFollows s₀ (execDmaDescriptorArrival f s) :=
  .next (hs.dmaReply (fun _ _ _ _ _ h1 => .ite h1.dmaDescriptor (.ite h1.dmaTable h1)))

theorem execDmaCopy {c ch} (hs : Follows s₀ s) : OutFollows s₀ (execDmaCopy c ch s) := .next hs.dmaTake

theorem execDmaFill {c ch} (hs : Follows s₀ s) : OutFollows s₀ (execDmaFill c ch s) := .next hs.dmaTake

theorem execDmaBlank {c ch} (hs : Follows s₀ s) : OutFollows s₀ (execDmaBlank c ch s) := .next hs.dmaTake

theorem execDmaCrc {c ch} (hs : Follows s₀ s) : OutFollows s₀ (execDmaCrc c ch s) := .next hs.dmaTake

theorem execDmaBurstStart {c ch} (hs : Follows s₀ s) : OutFollows s₀ (execDmaBurstStart c ch s) := .next hs.dmaBurst

theorem execDmaReadData {f} (hs : Follows s₀ s) : OutFollows s₀ (execDmaReadData f s) :=
  .next (hs.dmaReply (fun _ _ _ _ _ h1 => .ite h1.dmaLineReply (.ite h1.dmaTable h1)))

theorem execDmaWriteAck {f} (hs : Follows s₀ s) : OutFollows s₀ (execDmaWriteAck f s) :=
  .next (hs.dmaReply (fun _ _ _ _ _ h1 => .ite h1.dmaLineReply h1.dmaWritten))

theorem execDmaDescriptorComplete {c ch} (hs : Follows s₀ s) : OutFollows s₀ (execDmaDescriptorComplete c ch s) := .next hs.dmaComplete

theorem execDmaBusError {c ch} (hs : Follows s₀ s) : OutFollows s₀ (execDmaBusError c ch s) := .next hs.dmaBusError

-- the cluster and its lines

theorem cleanL1 {c l} (hs : Follows s₀ s) : Follows s₀ (s.cleanL1 c l) := by
  unfold State.cleanL1
  split
  · exact hs
  · refine Follows.foldl ?_ (fun _ _ h1 => ?_)
    · split
      · exact hs.setCluster
      · exact hs
    · dsimp only
      split
      · exact h1.setCore
      · exact h1

theorem dropL1 {c l keep} (hs : Follows s₀ s) : Follows s₀ (s.dropL1 c l keep) := hs.foldl (fun _ _ h1 => .ite h1 (.ite h1.setCore h1.setCore))

theorem sendWrline {c l w} (hs : Follows s₀ s) : Follows s₀ (s.sendWrline c l w) := hs.setCluster.sendAt

theorem evictL2 {c l} (hs : Follows s₀ s) : Follows s₀ (s.evictL2 c l) := by
  unfold State.evictL2
  dsimp only
  split
  · exact hs.cleanL1
  · exact .ite hs.cleanL1.setCluster.dropL1.sendWrline hs.cleanL1.setCluster.dropL1

theorem installL2 {c l w} (hs : Follows s₀ s) : Follows s₀ (s.installL2 c l w) := by
  unfold State.installL2
  refine Follows.setCluster (Follows.ite hs ?_)
  dsimp only
  split
  · exact hs
  · exact hs.evictL2

theorem installL1 {k l d} (hs : Follows s₀ s) : Follows s₀ (s.installL1 k l d) := by
  unfold State.installL1
  refine .ite hs (Follows.setCore (Follows.ite hs ?_))
  split
  · exact (Follows.ite hs.cleanL1 hs).setCore
  · exact hs

theorem dropForeign {c l key} (hs : Follows s₀ s) : Follows s₀ (s.dropForeign c l key) := by
  unfold State.dropForeign
  split
  · exact .ite hs hs.evictL2
  · exact hs

theorem installShadow {h} (hs : Follows s₀ s) : Follows s₀ (s.installShadow h) := hs.setHart.foldl (fun _ _ h1 => .ite h1 h1.installL2)

theorem bring {h l own} (hs : Follows s₀ s) : Found.Follows s₀ (s.bring h l own) := by
  unfold State.bring
  dsimp only
  split
  · exact trivial
  · exact .ite trivial (.ite trivial (.ite trivial (.ready (Follows.ite (Follows.ite hs (.ite hs hs.cleanL1)).dropL1
      (.ite hs (.ite hs hs.cleanL1))).installL1.setCluster)))

theorem askHome {h l op tag detail} (hs : Follows s₀ s) : Follows s₀ (s.askHome h l op tag detail) := hs.sendAt

theorem missLines {h ls nc own op i front} (hs : Follows s₀ s) : Follows s₀ (s.missLines h ls nc own op i front) :=
  .ite hs (hs.foldl (fun _ _ h1 => (Follows.ite h1 h1.dropForeign).askHome.hpm)).setHart

theorem bufferStore {h pa n v} (hs : Follows s₀ s) : Follows s₀ (s.bufferStore h pa n v) := by
  unfold State.bufferStore
  dsimp only
  split
  · exact hs
  · exact hs.setHart

theorem loseResv {c l} (hs : Follows s₀ s) : Follows s₀ (s.loseResv c l) := by
  unfold State.loseResv
  refine hs.foldl (fun _ _ h1 => ?_)
  dsimp only
  split
  · exact .ite h1.setHart h1
  · exact h1

theorem refetch {ks} (hs : Follows s₀ s) : Follows s₀ (s.refetch ks) := by
  unfold State.refetch
  refine hs.foldl (fun _ _ h1 => ?_)
  split
  · exact h1
  · dsimp only
    split
    · exact h1.hpm.setHart
    · exact h1.hpm.setHart
    · exact h1.hpm

theorem serveSnoop {c t' f} (hs : Follows s₀ s) : Follows s₀ (s.serveSnoop c t' f) := by
  unfold State.serveSnoop
  dsimp only
  split
  · split
    · exact hs.cleanL1.sendAt
    · exact hs.cleanL1.sendAt
  · exact .ite hs.cleanL1.setCluster.dropL1.loseResv.refetch.sendAt (.ite hs.cleanL1.setCluster.sendAt hs.cleanL1.setCluster.sendAt)

theorem snoopShadow {c f} (hs : Follows s₀ s) : Follows s₀ (s.snoopShadow c f) :=
  hs.foldl (fun _ _ h1 => .ite (.ite h1.setHart.askHome h1.setHart) h1.setHart)

theorem snoopAt {c t' f} (hs : Follows s₀ s) : Follows s₀ (s.snoopAt c t' f) := .ite hs.setCluster hs.snoopShadow.serveSnoop

theorem clusterSnoop {c f} (hs : Follows s₀ s) : Follows s₀ (s.clusterSnoop c f) := hs.snoopAt

theorem retrySnoops {c} (hs : Follows s₀ s) : Follows s₀ (s.retrySnoops c) := hs.setCluster.foldl (fun _ _ h1 => h1.snoopAt)

theorem flushL2 {c} (hs : Follows s₀ s) : Follows s₀ (s.flushL2 c) := hs.foldl (fun _ _ h1 => h1.evictL2)

theorem fillL1I {h} (hs : Follows s₀ s) : Follows s₀ (s.fillL1I h) := by
  unfold State.fillL1I
  dsimp only
  split
  · exact .ite hs hs.setCore
  · exact hs

theorem retire {h} (hs : Follows s₀ s) : Follows s₀ (s.retire h) :=
  .ite hs.openEpoch.installShadow.fillL1I.setHart.closeEpoch hs.openEpoch.installShadow.fillL1I.setHart

-- the task queue

theorem setEngine {e v} (hs : Follows s₀ s) : Follows s₀ (s.setEngine e v) := hs.update

theorem setQueue {c v} (hs : Follows s₀ s) : Follows s₀ (s.setQueue c v) := hs.update

theorem queueSend {m c op k tag pa t' key data} (hs : Follows s₀ s) : Follows s₀ (s.queueSend m c op k tag pa t' key data) := hs.sendAt

theorem laneEnter {c k m} (hs : Follows s₀ s) : Follows s₀ (s.laneEnter c k m).1 := .fst hs.setQueue

theorem disableRing {c k} (hs : Follows s₀ s) : Follows s₀ (s.disableRing c k) := hs.setFld.record

theorem pushed {c k l m} (hs : Follows s₀ s) : Follows s₀ (s.pushed c k l m) := hs.setQueue.watch

theorem pushTop {c d m} (hs : Follows s₀ s) : Follows s₀ (s.pushTop c d m) := hs.pushed

theorem pushBottom {c d m} (hs : Follows s₀ s) : Follows s₀ (s.pushBottom c d m) := hs.pushed

theorem offer {c d0 m} (hs : Follows s₀ s) : Follows s₀ (s.offer c d0 m).1 :=
  .ite_fst (.fst hs.pushTop) (.ite_fst (.ite_fst (.fst hs.disableRing) (.fst hs.setQueue.queueSend.setFld.count)) (.fst hs))

theorem complFault {c ctx t' k va} (hs : Follows s₀ s) : Follows s₀ (s.complFault c ctx t' k va) := hs.record.faultSource

theorem dropCompl {c tag} (hs : Follows s₀ s) : Follows s₀ (s.dropCompl c tag) := hs.setQueue

theorem freeEngine {c} (hs : Follows s₀ s) : Follows s₀ (s.freeEngine c) := hs.setEngine.setQueue

theorem putCompl {c x} (hs : Follows s₀ s) : Follows s₀ (s.putCompl c x) := hs.setQueue

theorem complReach {c x va write m} (hs : Follows s₀ s) : ComplAt.Follows s₀ (s.complReach c x va write m) := by
  unfold State.complReach
  refine .ite trivial ?_
  split
  · exact .waits hs.putCompl.sendAt
  · dsimp only
    split
    · exact .ite trivial trivial
    · exact trivial
    · exact .waits hs.putCompl.sendAt

theorem complFails {c x va} (hs : Follows s₀ s) : Follows s₀ (s.complFails c x va) := hs.complFault

theorem startJoin {c x m} (hs : Follows s₀ s) : Follows s₀ (s.startJoin c x m) := by
  unfold State.startJoin
  refine .ite hs.dropCompl ?_
  split
  · exact hs.complReach.of_waits ‹_›
  · exact hs.dropCompl.complFails
  · exact hs.putCompl.queueSend

theorem completed {c x m} (hs : Follows s₀ s) : Follows s₀ (s.completed c x m) := (Follows.ite hs.freeEngine hs).startJoin

theorem recordGo {c x m} (hs : Follows s₀ s) : Follows s₀ (s.recordGo c x m) := by
  unfold State.recordGo
  refine .ite hs.completed ?_
  split
  · exact hs.complReach.of_waits ‹_›
  · exact hs.complFails.completed
  · exact hs.putCompl.queueSend

theorem startCont {c x m} (hs : Follows s₀ s) : Follows s₀ (s.startCont c x m) := by
  unfold State.startCont
  split
  · exact hs.complReach.of_waits ‹_›
  · exact hs.dropCompl.complFails
  · exact hs.putCompl.queueSend

theorem complGo {c x} (hs : Follows s₀ s) : Follows s₀ (s.complGo c x) := by
  unfold State.complGo
  split
  · exact hs.recordGo
  · exact hs.startJoin
  · exact hs.startCont

theorem newCompl {c d rec_ ctx t' k phase joins frees} (hs : Follows s₀ s) : Follows s₀ (s.newCompl c d rec_ ctx t' k phase joins frees).1 :=
  .fst hs.setQueue

theorem writeRecord {c d ctx t' k status engine cycles joins frees m} (hs : Follows s₀ s) :
    Follows s₀ (s.writeRecord c d ctx t' k status engine cycles joins frees m) :=
  hs.newCompl.recordGo

theorem submitRecorded {c d ctx t' k m} (hs : Follows s₀ s) : Follows s₀ (s.submitRecorded c d ctx t' k m).1 :=
  .ite_fst (.fst hs.writeRecord) (.ite_fst (.fst hs.offer.writeRecord) (.fst hs.offer))

theorem askContext {c d} (hs : Follows s₀ s) : Follows s₀ (s.askContext c d) := by
  unfold State.askContext
  split
  · exact hs.sendAt
  · exact hs

theorem startTask {c d first} (hs : Follows s₀ s) : Follows s₀ (s.startTask c d first) :=
  .ite hs.setEngine.setQueue.count hs.setEngine.setQueue.count.askContext

theorem dispatchOne {c d m} (hs : Follows s₀ s) : Follows s₀ (s.dispatchOne c d m) := by
  unfold State.dispatchOne
  dsimp only
  split
  · exact hs.setEngine.writeRecord
  · exact hs.startTask

theorem dispatch {c} (hs : Follows s₀ s) : Follows s₀ (s.dispatch c) := by
  unfold State.dispatch
  split
  · exact hs
  · split
    · exact hs
    · exact hs.setQueue.laneEnter.dispatchOne

theorem nextSteal {c} (hs : Follows s₀ s) : Follows s₀ (s.nextSteal c) := by
  unfold State.nextSteal
  refine .ite hs.setQueue ?_
  split
  · exact hs
  · exact hs.setQueue
  · exact hs.setQueue.send

theorem stealRound {c} (hs : Follows s₀ s) : Follows s₀ (s.stealRound c) := .ite hs.setQueue.nextSteal hs

theorem answerSteal {v f} (hs : Follows s₀ s) : Follows s₀ (s.answerSteal v f) :=
  .ite hs.laneEnter.count.sendAt (hs.laneEnter.setQueue.foldl (fun _ _ h1 => h1.setQueue.count.sendAt))

theorem surrender {c d frees} (hs : Follows s₀ s) : Follows s₀ (s.surrender c d frees) := by
  unfold State.surrender
  split
  · exact hs.send
  · exact hs.writeRecord.record

theorem failTask {c} (hs : Follows s₀ s) : Follows s₀ (s.failTask c) := by
  unfold State.failTask
  split
  · exact hs
  · refine .ite ?_ hs.setEngine.setQueue.writeRecord.record
    split
    · exact hs.setEngine.setQueue.send.bump.record
    · exact hs.setEngine.setQueue.surrender

theorem submit {c d t' k m} (hs : Follows s₀ s) : Follows s₀ (s.submit c d t' k m).1 :=
  .ite_fst (.fst hs.laneEnter) (.ite_fst (.fst hs.laneEnter.surrender) (.fst hs.laneEnter.offer))

theorem doorbellSubmit {c d ctx t' k} (hs : Follows s₀ s) : Follows s₀ (s.doorbellSubmit c d ctx t' k).1 :=
  .ite_fst (.fst hs.laneEnter.surrender) (.fst hs.laneEnter.submitRecorded)

theorem retireEngine {e} (hs : Follows s₀ s) : Follows s₀ (s.retireEngine e) :=
  (hs.failTask.setQueue.foldl (fun _ _ h1 => h1.surrender)).setEngine.setFld.record.markRetired

theorem refill {c k} (hs : Follows s₀ s) : Follows s₀ (s.refill c k) := .ite hs.setQueue.queueSend.setFld hs

theorem refillArrive {c f} (hs : Follows s₀ s) : Follows s₀ (s.refillArrive c f) := by
  unfold State.refillArrive
  dsimp only
  split
  · exact hs
  · exact .ite hs.setQueue.disableRing (.ite hs.setQueue.record hs.setQueue.laneEnter.pushBottom)

theorem doorbellArrive {c f} (hs : Follows s₀ s) : Follows s₀ (s.doorbellArrive c f) :=
  (Follows.ite hs.doorbellSubmit.setEngine hs.doorbellSubmit).sendAt

theorem laneOwner {c k} (hs : Follows s₀ s) : Follows s₀ (s.laneOwner c k) := by
  unfold State.laneOwner
  dsimp only
  split
  · exact .ite (hs.foldl (fun _ _ h1 => h1.taken.refillArrive)).dispatch (hs.foldl (fun _ _ h1 => h1.taken.refillArrive))
  · exact hs.foldl (fun _ _ h1 => h1.taken.refillArrive)

theorem laneOffers {c k f} (hs : Follows s₀ s) : Follows s₀ (s.laneOffers c k f) := hs.laneOwner.foldl (fun _ _ h1 => h1.taken.doorbellArrive)

theorem laneSteals {c k f} (hs : Follows s₀ s) : Follows s₀ (s.laneSteals c k f) := hs.laneOffers.foldl (fun _ _ h1 => h1.taken.answerSteal)

-- the Dwemon engine behind its instructions

theorem maybeEnd {e} (hs : Follows s₀ s) : Follows s₀ (s.maybeEnd e) := by
  unfold State.maybeEnd
  dsimp only
  split
  · exact .ite hs.setEngine.writeRecord hs
  · exact hs

theorem haltEngine {e cause pc code} (hs : Follows s₀ s) : Follows s₀ (s.haltEngine e cause pc code) :=
  .ite hs.setEngine hs.setEngine.record.pulse.failTask

theorem deException {e cause tval write} (hs : Follows s₀ s) : Follows s₀ (s.deException e cause tval write) :=
  .ite hs.setEngine.haltEngine hs.setEngine.maybeEnd

theorem deRun {e srcs f} (hs : Follows s₀ s) (hf : ∀ s x2 x3, Follows s₀ s → Follows s₀ (f s x2 x3)) : Follows s₀ (s.deRun e srcs f) :=
  .ite hs (.ite hs.setEngine.deException (.ite (hf _ _ _ hs.setEngine).setEngine (hf _ _ _ hs.setEngine)))

theorem deEvent {e ev} (hs : Follows s₀ s) : Follows s₀ (s.deEvent e ev) := .ite hs hs.count

theorem deEnd {e g} (hs : Follows s₀ s) : Follows s₀ (s.deEnd e g) := .ite hs.setEngine hs.setEngine.count

theorem deAlu {e rd srcs n late f} (hs : Follows s₀ s) : Follows s₀ (s.deAlu e rd srcs n late f) := hs.deRun (fun _ _ _ h1 => h1.deEnd)

theorem deBranch {e ra a p disp cond word} (hs : Follows s₀ s) : Follows s₀ (s.deBranch e ra a p disp cond word) :=
  hs.deRun (fun _ _ _ h1 => .ite h1.deException (.ite (Follows.ite h1 h1.deEvent).deEnd
    (.ite (Follows.ite h1 h1.deEvent).deEvent.deEnd (Follows.ite h1 h1.deEvent).deEnd)))

theorem deJump {e g x cost a target rd} (hs : Follows s₀ s) : Follows s₀ (s.deJump e g x cost a target rd) := .ite hs.deEvent.deEnd hs.deEnd

theorem deJumpReg {e rd ra a link word} (hs : Follows s₀ s) : Follows s₀ (s.deJumpReg e rd ra a link word) :=
  hs.deRun (fun _ _ _ h1 => .ite h1.deException (Follows.ite h1 h1.deEvent).deJump)

theorem deXlat {e g ea write act} (hs : Follows s₀ s) (hact : ∀ x1 x2, Follows s₀ (act x1 x2)) : Follows s₀ (s.deXlat e g ea write act) := by
  unfold State.deXlat
  refine .ite (hact _ _) (.ite hs ?_)
  dsimp only
  split
  · exact hact _ _
  · exact hs.setEngine.faultSource.deException
  · exact .ite hs.setEngine.send hs.setEngine.deException

theorem engineReq {e op tag pa n ids key data detail} (hs : Follows s₀ s) : Follows s₀ (s.engineReq e op tag pa n ids key data detail) := hs.send

theorem deLoad {e rd ra imm n sx} (hs : Follows s₀ s) : Follows s₀ (s.deLoad e rd ra imm n sx) := by
  unfold State.deLoad
  refine hs.deRun (fun _ _ _ h1 => ?_)
  dsimp only
  split
  · exact h1.deException
  · refine .ite h1.deException (.ite (.ite h1.deException (h1.deXlat (fun _ _ => .ite h1.deException ?_))) (.ite h1 (.ite h1.deException ?_)))
    · split
      · exact h1.deEnd
      · exact h1
      · exact h1.setEngine.engineReq
    · split
      · exact h1
      · exact h1.deEnd
      · exact h1.deEnd

theorem deStore {e rs ra imm n} (hs : Follows s₀ s) : Follows s₀ (s.deStore e rs ra imm n) := by
  unfold State.deStore
  refine hs.deRun (fun _ _ _ h1 => ?_)
  dsimp only
  split
  · exact h1.deException
  · exact .ite h1.deException (.ite h1.deException (.ite (.ite h1.deException (h1.deXlat (fun _ _ => .ite h1 h1.deEnd)))
      (.ite h1 (.ite h1 h1.deEnd))))

theorem sbDrain {e} (hs : Follows s₀ s) : Follows s₀ (s.sbDrain e) := by
  unfold State.sbDrain
  dsimp only
  split
  · exact hs
  · exact .ite (.ite hs hs.setEngine) (.ite (.ite hs.setEngine hs.setEngine.accessFault) (.ite hs.setEngine.engineReq hs.setEngine))

theorem sbDrainAll {e x3} (hs : Follows s₀ s) : Follows s₀ (s.sbDrainAll e x3) := by
  induction x3 generalizing s with
  | zero =>
    exact hs
  | succ n ih =>
    rw [State.sbDrainAll]
    exact .ite hs (ih hs.sbDrain)

theorem sendStream {e t'} (hs : Follows s₀ s) : Follows s₀ (s.sendStream e t') := hs.send

theorem deStream {e kind lineReg sysReg} (hs : Follows s₀ s) : Follows s₀ (s.deStream e kind lineReg sysReg) :=
  hs.deRun (fun _ _ _ h1 => .ite h1 (.ite h1.deException (.ite h1.deException (.ite h1.deException
    (.ite h1.deException (h1.deXlat (fun _ _ => .ite h1 (.ite h1.deEnd (.ite h1.deEnd.deEvent.sendStream h1.deEnd.deEvent)))))))))

theorem streamReply {e f} (hs : Follows s₀ s) : Follows s₀ (s.streamReply e f) := by
  unfold State.streamReply
  dsimp only
  split
  · exact hs
  · split
    · exact hs.setEngine.maybeEnd
    · exact hs.setEngine.sendStream.maybeEnd

theorem deInterrupt {e code t'} (hs : Follows s₀ s) : Follows s₀ (s.deInterrupt e code t') := .ite hs.setEngine hs.setEngine.count

theorem deTakeover {e code} (hs : Follows s₀ s) : Follows s₀ (s.deTakeover e code) := by
  unfold State.deTakeover
  dsimp only
  split
  · exact hs
  · exact hs.setEngine

theorem deSample {e} (hs : Follows s₀ s) : Follows s₀ (s.deSample e) := by
  unfold State.deSample
  dsimp only
  split
  · split
    · exact hs
    · exact hs.deInterrupt
  · refine .ite ?_ ?_
    · split
      · exact hs
      · exact hs.deTakeover
    · split
      · exact hs
      · exact hs.deInterrupt

theorem startScrub {e} (hs : Follows s₀ s) : Follows s₀ (s.startScrub e) := by
  unfold State.startScrub
  exact hs.setEngine.count

theorem endScrub {e} (hs : Follows s₀ s) : Follows s₀ (s.endScrub e) := by
  unfold State.endScrub
  dsimp only
  split
  · exact hs
  · split
    · exact hs.toMclk.setEngine.askContext
    · exact hs.toMclk.setEngine

-- the Dwemon's instructions and events

theorem execAdd {e rd ra rb} (hs : Follows s₀ s) : OutFollows s₀ (execAdd e rd ra rb s) := .next hs.deAlu

theorem execSub {e rd ra rb} (hs : Follows s₀ s) : OutFollows s₀ (execSub e rd ra rb s) := .next hs.deAlu

theorem execAnd {e rd ra rb} (hs : Follows s₀ s) : OutFollows s₀ (execAnd e rd ra rb s) := .next hs.deAlu

theorem execOr {e rd ra rb} (hs : Follows s₀ s) : OutFollows s₀ (execOr e rd ra rb s) := .next hs.deAlu

theorem execXor {e rd ra rb} (hs : Follows s₀ s) : OutFollows s₀ (execXor e rd ra rb s) := .next hs.deAlu

theorem execSll {e rd ra rb} (hs : Follows s₀ s) : OutFollows s₀ (execSll e rd ra rb s) := .next hs.deAlu

theorem execSrl {e rd ra rb} (hs : Follows s₀ s) : OutFollows s₀ (execSrl e rd ra rb s) := .next hs.deAlu

theorem execSra {e rd ra rb} (hs : Follows s₀ s) : OutFollows s₀ (execSra e rd ra rb s) := .next hs.deAlu

theorem execSlt {e rd ra rb} (hs : Follows s₀ s) : OutFollows s₀ (execSlt e rd ra rb s) := .next hs.deAlu

theorem execSltu {e rd ra rb} (hs : Follows s₀ s) : OutFollows s₀ (execSltu e rd ra rb s) := .next hs.deAlu

theorem execMin {e rd ra rb} (hs : Follows s₀ s) : OutFollows s₀ (execMin e rd ra rb s) := .next hs.deAlu

theorem execMax {e rd ra rb} (hs : Follows s₀ s) : OutFollows s₀ (execMax e rd ra rb s) := .next hs.deAlu

theorem execMinu {e rd ra rb} (hs : Follows s₀ s) : OutFollows s₀ (execMinu e rd ra rb s) := .next hs.deAlu

theorem execMaxu {e rd ra rb} (hs : Follows s₀ s) : OutFollows s₀ (execMaxu e rd ra rb s) := .next hs.deAlu

theorem execCtz {e rd ra} (hs : Follows s₀ s) : OutFollows s₀ (execCtz e rd ra s) := .next hs.deAlu

theorem execPopc {e rd ra} (hs : Follows s₀ s) : OutFollows s₀ (execPopc e rd ra s) := .next hs.deAlu

theorem execAddi {e rd ra imm} (hs : Follows s₀ s) : OutFollows s₀ (execAddi e rd ra imm s) := .next hs.deAlu

theorem execAndi {e rd ra imm} (hs : Follows s₀ s) : OutFollows s₀ (execAndi e rd ra imm s) := .next hs.deAlu

theorem execOri {e rd ra imm} (hs : Follows s₀ s) : OutFollows s₀ (execOri e rd ra imm s) := .next hs.deAlu

theorem execXori {e rd ra imm} (hs : Follows s₀ s) : OutFollows s₀ (execXori e rd ra imm s) := .next hs.deAlu

theorem execSlti {e rd ra imm} (hs : Follows s₀ s) : OutFollows s₀ (execSlti e rd ra imm s) := .next hs.deAlu

theorem execSltiu {e rd ra imm} (hs : Follows s₀ s) : OutFollows s₀ (execSltiu e rd ra imm s) := .next hs.deAlu

theorem execSlli {e rd ra sh} (hs : Follows s₀ s) : OutFollows s₀ (execSlli e rd ra sh s) := .next hs.deAlu

theorem execSrli {e rd ra sh} (hs : Follows s₀ s) : OutFollows s₀ (execSrli e rd ra sh s) := .next hs.deAlu

theorem execSrai {e rd ra sh} (hs : Follows s₀ s) : OutFollows s₀ (execSrai e rd ra sh s) := .next hs.deAlu

theorem execLui {e rd imm} (hs : Follows s₀ s) : OutFollows s₀ (execLui e rd imm s) := .next hs.deAlu

theorem execShori {e rd ra imm} (hs : Follows s₀ s) : OutFollows s₀ (execShori e rd ra imm s) := .next hs.deAlu

theorem execMul {e rd ra rb} (hs : Follows s₀ s) : OutFollows s₀ (execMul e rd ra rb s) := .next hs.deAlu

theorem execMulh {e rd ra rb} (hs : Follows s₀ s) : OutFollows s₀ (execMulh e rd ra rb s) := .next hs.deAlu

theorem execMulhu {e rd ra rb} (hs : Follows s₀ s) : OutFollows s₀ (execMulhu e rd ra rb s) := .next hs.deAlu

theorem execDiv {e rd ra rb} (hs : Follows s₀ s) : OutFollows s₀ (execDiv e rd ra rb s) := .next hs.deAlu

theorem execDivu {e rd ra rb} (hs : Follows s₀ s) : OutFollows s₀ (execDivu e rd ra rb s) := .next hs.deAlu

theorem execRem {e rd ra rb} (hs : Follows s₀ s) : OutFollows s₀ (execRem e rd ra rb s) := .next hs.deAlu

theorem execRemu {e rd ra rb} (hs : Follows s₀ s) : OutFollows s₀ (execRemu e rd ra rb s) := .next hs.deAlu

theorem execLb {e rd ra imm} (hs : Follows s₀ s) : OutFollows s₀ (execLb e rd ra imm s) := .next hs.deLoad

theorem execLbu {e rd ra imm} (hs : Follows s₀ s) : OutFollows s₀ (execLbu e rd ra imm s) := .next hs.deLoad

theorem execLh {e rd ra imm} (hs : Follows s₀ s) : OutFollows s₀ (execLh e rd ra imm s) := .next hs.deLoad

theorem execLhu {e rd ra imm} (hs : Follows s₀ s) : OutFollows s₀ (execLhu e rd ra imm s) := .next hs.deLoad

theorem execLw {e rd ra imm} (hs : Follows s₀ s) : OutFollows s₀ (execLw e rd ra imm s) := .next hs.deLoad

theorem execLwu {e rd ra imm} (hs : Follows s₀ s) : OutFollows s₀ (execLwu e rd ra imm s) := .next hs.deLoad

theorem execLd {e rd ra imm} (hs : Follows s₀ s) : OutFollows s₀ (execLd e rd ra imm s) := .next hs.deLoad

theorem execSb {e rs ra imm} (hs : Follows s₀ s) : OutFollows s₀ (execSb e rs ra imm s) := .next hs.deStore

theorem execSh {e rs ra imm} (hs : Follows s₀ s) : OutFollows s₀ (execSh e rs ra imm s) := .next hs.deStore

theorem execSw {e rs ra imm} (hs : Follows s₀ s) : OutFollows s₀ (execSw e rs ra imm s) := .next hs.deStore

theorem execSd {e rs ra imm} (hs : Follows s₀ s) : OutFollows s₀ (execSd e rs ra imm s) := .next hs.deStore

theorem deCompare {e rd ra rb cmp width f} (hs : Follows s₀ s) : Follows s₀ (s.deCompare e rd ra rb cmp width f) :=
  hs.deRun (fun _ _ _ h1 => .ite h1.deException (.ite h1.deException (.ite h1 (.ite h1.deException h1.deEnd))))

theorem execLeq {e rd ra rb cmp width} (hs : Follows s₀ s) : OutFollows s₀ (execLeq e rd ra rb cmp width s) := .next hs.deCompare

theorem execLscan {e rd ra rb cmp width} (hs : Follows s₀ s) : OutFollows s₀ (execLscan e rd ra rb cmp width s) := .next hs.deCompare

theorem execCrc32c {e rd ra rb n} (hs : Follows s₀ s) : OutFollows s₀ (execCrc32c e rd ra rb n s) := .next hs.deAlu

theorem execCrc64 {e rd ra rb n} (hs : Follows s₀ s) : OutFollows s₀ (execCrc64 e rd ra rb n s) := .next hs.deAlu

theorem execHmix {e rd ra rb} (hs : Follows s₀ s) : OutFollows s₀ (execHmix e rd ra rb s) := .next hs.deAlu

theorem deAtomic {e rd ra rb w32 cas} (hs : Follows s₀ s) : Follows s₀ (s.deAtomic e rd ra rb w32 cas) :=
  hs.deRun (fun _ _ _ h1 => .ite h1.deException (.ite h1.deException (h1.deXlat (fun _ _ => .ite h1
    (.ite h1.deException (.ite h1.deException h1.setEngine.send))))))

theorem execAadd {e rd ra rb w32} (hs : Follows s₀ s) : OutFollows s₀ (execAadd e rd ra rb w32 s) := .next hs.deAtomic

theorem execAcas {e rd ra rb w32} (hs : Follows s₀ s) : OutFollows s₀ (execAcas e rd ra rb w32 s) := .next hs.deAtomic

theorem execDeSystemReply {f} (hs : Follows s₀ s) : OutFollows s₀ (execDeSystemReply f s) := by
  unfold Machine.execDeSystemReply
  refine .next (.ite hs.taken (.ite (.ite hs.taken.setEngine.maybeEnd hs.taken) (.ite (.ite hs.taken.setEngine hs.taken) ?_)))
  split
  · exact hs.taken
  · exact .ite hs.taken (.ite hs.taken.setEngine.deException (.ite hs.taken.setEngine.deException hs.taken.deEnd))
  · exact .ite hs.taken (.ite hs.taken.setEngine.deException (.ite hs.taken.setEngine.deException hs.taken.deEnd))
  · exact .ite hs.taken (.ite hs.taken.setEngine.deException (.ite hs.taken.setEngine.deException
      (.ite hs.taken.deEnd.newCompl.startCont hs.taken.deEnd)))

theorem execLget {e ra rb} (hs : Follows s₀ s) : OutFollows s₀ (execLget e ra rb s) := .next hs.deStream

theorem execLput {e ra rb} (hs : Follows s₀ s) : OutFollows s₀ (execLput e ra rb s) := .next hs.deStream

theorem execLblank {e ra} (hs : Follows s₀ s) : OutFollows s₀ (execLblank e ra s) := .next hs.deStream

theorem execStreamEntryComplete {f} (hs : Follows s₀ s) : OutFollows s₀ (execStreamEntryComplete f s) := by
  unfold Machine.execStreamEntryComplete
  refine .next ?_
  split
  · exact hs.taken.streamReply
  · exact hs.taken

theorem execSync {e n} (hs : Follows s₀ s) : OutFollows s₀ (execSync e n s) :=
  .next (hs.deRun (fun _ _ _ h1 => .ite h1.deException (.ite h1 (.ite h1.deException h1.deEnd))))

theorem execTspawn {e rd ra} (hs : Follows s₀ s) : OutFollows s₀ (execTspawn e rd ra s) :=
  .next (hs.deRun (fun _ _ _ h1 => .ite h1.deException (.ite h1.deException (.ite h1.deException
    (.ite h1 (.ite h1.deException h1.laneOwner.submit.deEnd))))))

theorem execTdone {e ra} (hs : Follows s₀ s) : OutFollows s₀ (execTdone e ra s) :=
  .next (hs.deRun (fun _ _ _ h1 => .ite h1.deException (.ite h1 (.ite h1.deException h1.deEnd.maybeEnd))))

theorem execJoin {e rd ra rb} (hs : Follows s₀ s) : OutFollows s₀ (execJoin e rd ra rb s) :=
  .next (hs.deRun (fun _ _ _ h1 => .ite h1.deException (.ite h1.deException (.ite h1.deException
    (h1.deXlat (fun _ _ => .ite h1 (.ite h1.deException (.ite h1.deException h1.setEngine.send))))))))

theorem execWait {e} (hs : Follows s₀ s) : OutFollows s₀ (execWait e s) := .next (hs.deRun (fun _ _ _ h1 => h1.deEnd))

theorem execDeFence {e} (hs : Follows s₀ s) : OutFollows s₀ (execDeFence e s) :=
  .next (hs.deRun (fun _ _ _ h1 => .ite h1 (.ite h1.deException h1.deEnd)))

theorem execIbar {e} (hs : Follows s₀ s) : OutFollows s₀ (execIbar e s) :=
  .next (hs.deRun (fun _ _ _ h1 => .ite h1.sbDrainAll (.ite h1.sbDrainAll.deException h1.sbDrainAll.deEnd)))

theorem execPflush {e} (hs : Follows s₀ s) : OutFollows s₀ (execPflush e s) := .next (hs.deRun (fun _ _ _ h1 => h1.deEnd))

theorem execPbar {e} (hs : Follows s₀ s) : OutFollows s₀ (execPbar e s) := .next (hs.deRun (fun _ _ _ h1 => h1.deEnd))

theorem execIret {e} (hs : Follows s₀ s) : OutFollows s₀ (execIret e s) := by
  unfold Machine.execIret
  refine .next (hs.deRun (fun _ _ _ h1 => ?_))
  split
  · exact h1.deException
  · refine .ite h1.deException ?_
    dsimp only
    split
    · exact h1.deEvent.deEnd
    · exact h1.deEnd

theorem execBrk {e} (hs : Follows s₀ s) : OutFollows s₀ (execBrk e s) :=
  .next (hs.deRun (fun _ _ _ h1 => .ite h1.deException (.ite h1.setEngine h1.deException)))

theorem engineNotice {e src detail} (hs : Follows s₀ s) : Follows s₀ (s.engineNotice e src detail) := hs.send

theorem deClaim {e rd} (hs : Follows s₀ s) : Follows s₀ (s.deClaim e rd) := by
  unfold State.deClaim
  refine hs.deRun (fun _ _ _ h1 => .ite h1.deException ?_)
  split
  · exact .ite h1.deEnd h1.deEnd.engineNotice
  · exact h1.deEnd

theorem deEoi {e ra} (hs : Follows s₀ s) : Follows s₀ (s.deEoi e ra) := hs.deRun (fun _ _ _ h1 => .ite h1.deException h1.deEnd.engineNotice)

theorem execSrd {e rd cr} (hs : Follows s₀ s) : OutFollows s₀ (execSrd e rd cr s) := by
  unfold Machine.execSrd
  refine .next (.ite hs.deClaim (hs.deRun (fun _ _ _ h1 => .ite h1.draw.deEnd ?_)))
  split
  · exact h1.deException
  · exact h1.deEnd

theorem execSwr {e ra cr} (hs : Follows s₀ s) : OutFollows s₀ (execSwr e ra cr s) := by
  unfold Machine.execSwr
  refine .next (.ite hs.deEoi (hs.deRun (fun _ _ _ h1 => .ite h1.deEnd ?_)))
  split
  · exact h1.deException
  · exact h1.deEnd

theorem execBeq {e ra a p disp} (hs : Follows s₀ s) : OutFollows s₀ (execBeq e ra a p disp s) := .next hs.deBranch

theorem execBne {e ra a p disp} (hs : Follows s₀ s) : OutFollows s₀ (execBne e ra a p disp s) := .next hs.deBranch

theorem execBlt {e ra a p disp} (hs : Follows s₀ s) : OutFollows s₀ (execBlt e ra a p disp s) := .next hs.deBranch

theorem execBge {e ra a p disp} (hs : Follows s₀ s) : OutFollows s₀ (execBge e ra a p disp s) := .next hs.deBranch

theorem execBgt {e ra a p disp} (hs : Follows s₀ s) : OutFollows s₀ (execBgt e ra a p disp s) := .next hs.deBranch

theorem execBle {e ra a p disp} (hs : Follows s₀ s) : OutFollows s₀ (execBle e ra a p disp s) := .next hs.deBranch

theorem execBodd {e ra a p disp} (hs : Follows s₀ s) : OutFollows s₀ (execBodd e ra a p disp s) := .next hs.deBranch

theorem execBeven {e ra a p disp} (hs : Follows s₀ s) : OutFollows s₀ (execBeven e ra a p disp s) := .next hs.deBranch

theorem deJumpDirect {e a disp link} (hs : Follows s₀ s) : Follows s₀ (s.deJumpDirect e a disp link) :=
  hs.deRun (fun _ _ _ h1 => .ite h1.deException h1.deJump)

theorem execJ {e a disp} (hs : Follows s₀ s) : OutFollows s₀ (execJ e a disp s) := .next hs.deJumpDirect

theorem execJl {e a disp} (hs : Follows s₀ s) : OutFollows s₀ (execJl e a disp s) := .next hs.deJumpDirect

theorem execJr {e ra a} (hs : Follows s₀ s) : OutFollows s₀ (execJr e ra a s) := .next hs.deJumpReg

theorem execJlr {e rd ra a} (hs : Follows s₀ s) : OutFollows s₀ (execJlr e rd ra a s) := .next hs.deJumpReg

theorem execStoreBufferDrain {e} (hs : Follows s₀ s) : OutFollows s₀ (execStoreBufferDrain e s) := .next hs.sbDrain

theorem execSystemStoreReply {f} (hs : Follows s₀ s) : OutFollows s₀ (execSystemStoreReply f s) := by
  unfold Machine.execSystemStoreReply
  refine .next (.ite hs.taken ?_)
  split
  · exact hs.taken
  · exact hs.taken.setEngine.maybeEnd

theorem execTaskException {e cause tval} (hs : Follows s₀ s) : OutFollows s₀ (execTaskException e cause tval s) := .next (.ite hs.deException hs)

theorem execEngineHalt {e cause tval} (hs : Follows s₀ s) : OutFollows s₀ (execEngineHalt e cause tval s) := .next (.ite hs.deException hs)

theorem execImemPoisonFetch {e} (hs : Follows s₀ s) : OutFollows s₀ (execImemPoisonFetch e s) :=
  .next (.ite hs (Follows.ite hs.draw hs.draw.record).deException)

theorem execDeInterruptEntry {e} (hs : Follows s₀ s) : OutFollows s₀ (execDeInterruptEntry e s) := .next (.ite hs hs.deSample)

theorem execDeTimer {e} (hs : Follows s₀ s) : OutFollows s₀ (execDeTimer e s) := .next hs.toAclk

theorem execDeClaim {e rd} (hs : Follows s₀ s) : OutFollows s₀ (execDeClaim e rd s) := .next hs.deClaim

theorem execDeEoi {e ra} (hs : Follows s₀ s) : OutFollows s₀ (execDeEoi e ra s) := .next hs.deEoi

theorem windowAnswer {p data err} (hs : Follows s₀ s) : Follows s₀ (s.windowAnswer p data err) := by
  unfold State.windowAnswer
  dsimp only
  split
  · exact hs.taken.send
  · exact hs.respond

theorem execEngineMemoryAccess {p line} (hs : Follows s₀ s) : OutFollows s₀ (execEngineMemoryAccess p line s) := by
  unfold Machine.execEngineMemoryAccess
  refine .next ?_
  split
  · exact hs.windowAnswer
  · exact hs.windowAnswer
  · exact .ite hs.windowAnswer (.ite hs.accessFault.windowAnswer (.ite hs (.ite hs.windowAnswer
      (.ite hs.setEngine.windowAnswer (.ite hs.accessFault.windowAnswer hs.setEngine.windowAnswer)))))

theorem execDmemScrub {e} (hs : Follows s₀ s) : OutFollows s₀ (execDmemScrub e s) := .next (.ite hs.startScrub hs)

theorem execScrubDone {e} (hs : Follows s₀ s) : OutFollows s₀ (execScrubDone e s) := .next (.ite hs hs.endScrub)

theorem engineFault {e} (hs : Follows s₀ s) : Follows s₀ (s.engineFault e) := .ite hs.haltEngine.retireEngine hs.haltEngine

theorem execEngineFault {e} (hs : Follows s₀ s) : OutFollows s₀ (execEngineFault e s) := .next (.ite hs hs.engineFault)

-- a fabric port towards its mesh stop

theorem setPort {p v} (hs : Follows s₀ s) : Follows s₀ (s.setPort p v) := hs.update

theorem setLink {p l v} (hs : Follows s₀ s) : Follows s₀ (s.setLink p l v) := hs.update

theorem setLnkState {p l v} (hs : Follows s₀ s) : Follows s₀ (s.setLnkState p l v) := hs.setFld

theorem fabSource {p i} (hs : Follows s₀ s) : Follows s₀ (s.fabSource p i) := hs.pulse

theorem fabRecord {p l sev code pa rid status} (hs : Follows s₀ s) : Follows s₀ (s.fabRecord p l sev code pa rid status) := hs.record

theorem fabCount {p l ev} (hs : Follows s₀ s) : Follows s₀ (s.fabCount p l ev) := hs.count

theorem markWindows {p l f} (hs : Follows s₀ s) : Follows s₀ (s.markWindows p l f) := hs.foldl (fun _ _ h1 => h1.setFld)

theorem handOut {p m} (hs : Follows s₀ s) : Follows s₀ (s.handOut p m) := hs.setPort.fabCount

theorem fabAnswer {n r} (hs : Follows s₀ s) : Follows s₀ (s.fabAnswer n r) := hs.sendAt

theorem fabSend {p l f} (hs : Follows s₀ s) : Follows s₀ (s.fabSend p l f) := .ite hs.arrive hs.setLink.handOut.fabCount

theorem fabPost {p l f} (hs : Follows s₀ s) : Follows s₀ (s.fabPost p l f) := hs.handOut.fabCount.fabAnswer

theorem fabRefuse {f} (hs : Follows s₀ s) : Follows s₀ (s.fabRefuse f) := hs.fabAnswer

theorem fabMem {p f} (hs : Follows s₀ s) : Follows s₀ (s.fabMem p f) := by
  unfold State.fabMem
  split
  · exact hs.fabRefuse
  · exact .ite hs.fabRefuse (.ite hs.fabRecord.fabAnswer (.ite hs.fabRefuse hs.fabSend))

theorem fabMmio {p f} (hs : Follows s₀ s) : Follows s₀ (s.fabMmio p f) := by
  unfold State.fabMmio
  split
  · exact hs.fabRefuse
  · exact .ite hs.fabRefuse (.ite hs.fabSend hs.fabPost)

theorem fabConfig {p f} (hs : Follows s₀ s) : Follows s₀ (s.fabConfig p f) := by
  unfold State.fabConfig
  refine .ite hs.fabRefuse (.ite (.ite hs.draw.fabAnswer hs.fabAnswer) ?_)
  split
  · exact hs.fabAnswer
  · exact .ite hs.fabSend hs.fabAnswer

theorem fabRequest {p f} (hs : Follows s₀ s) : Follows s₀ (s.fabRequest p f) := by
  unfold State.fabRequest
  split
  · exact hs.fabMem
  · exact hs.fabMmio
  · exact hs.fabConfig
  · exact hs.fabRefuse

theorem inboundFlush {p l x4} (hs : Follows s₀ s) : Follows s₀ (s.inboundFlush p l x4) := by
  induction x4 generalizing s with
  | zero =>
    exact hs
  | succ n ih =>
    rw [State.inboundFlush]
    split
    · exact hs
    · dsimp only
      split
      · exact ih (Follows.ite hs.setLink hs.setLink.handOut)
      · exact hs.setLink

theorem fabReplyIn {p f} (hs : Follows s₀ s) : Follows s₀ (s.fabReplyIn p f) := by
  unfold State.fabReplyIn
  refine .ite ?_ ?_
  · split
    · exact .ite hs hs.handOut
    · exact hs
  · split
    · exact hs
    · exact hs.setLink.inboundFlush

theorem romRequest {f} (hs : Follows s₀ s) : Follows s₀ (s.romRequest f) := .ite hs.sendAt hs.sendAt

-- requests of devices

theorem inboundFail {i status} (hs : Follows s₀ s) : Follows s₀ (s.inboundFail i status) := hs.handOut

theorem fnAdmits {p l n i} (hs : Follows s₀ s) : Follows s₀ (s.fnAdmits p l n i).1 := .ite_fst (.fst hs) (.ite_fst (.fst hs.accessFault) (.fst hs))

theorem fabTag {p} (hs : Follows s₀ s) : Follows s₀ (s.fabTag p).2 := .snd hs.setPort

theorem portRead {p l m what f} (hs : Follows s₀ s) : Follows s₀ (s.portRead p l m what f) := hs.fabTag.setLink.sendAt

theorem readFnCtx {p l n} (hs : Follows s₀ s) : Follows s₀ (s.readFnCtx p l n) := by
  unfold State.readFnCtx
  dsimp only
  split
  · exact hs.setLink
  · exact .ite hs.setLink.portRead hs.setLink

theorem portWalk {p l n line} (hs : Follows s₀ s) : Follows s₀ (s.portWalk p l n line) := .ite hs hs.portRead

theorem fnXlat {p l n va write} (hs : Follows s₀ s) : PortAt.Follows s₀ (s.fnXlat p l n va write) := by
  unfold State.fnXlat
  refine .ite (.waits hs) ?_
  dsimp only
  split
  · exact .pa hs.setLink
  · exact .fail hs.setLink
  · exact .waits hs.portWalk

theorem inboundLine {i tenant pa pos n} (hs : Follows s₀ s) : Follows s₀ (s.inboundLine i tenant pa pos n) := hs.fabTag.setLink.sendAt

theorem inboundServe {i tenant pa} (hs : Follows s₀ s) : Follows s₀ (s.inboundServe i tenant pa) :=
  .ite (hs.foldl (fun _ _ h1 => h1.inboundLine)) hs.inboundFail

theorem inboundTry {i} (hs : Follows s₀ s) : Follows s₀ (s.inboundTry i).1 := by
  unfold State.inboundTry
  dsimp only
  split
  · exact .fst hs.fabRecord.inboundFail
  · refine .ite_fst (.fst hs.fnAdmits.inboundFail) (.ite_fst (.fst (.ite hs.inboundServe hs.inboundFail)) (.ite_fst (.fst hs.inboundServe) ?_))
    split
    · exact .fst (.ite (hs.fnXlat.of_pa ‹_›).inboundServe (hs.fnXlat.of_pa ‹_›).inboundFail)
    · exact .fst (hs.fnXlat.of_waits ‹_›)
    · exact .fst (hs.fnXlat.of_fail ‹_›).fabRecord.faultSource.inboundFail

theorem atsTry {i} (hs : Follows s₀ s) : Follows s₀ (s.atsTry i).1 := by
  unfold State.atsTry
  dsimp only
  split
  · exact .fst hs.fabRecord.inboundFail
  · refine .ite_fst (.fst hs.fnAdmits.inboundFail) (.ite_fst (.fst hs) ?_)
    split
    · exact .fst hs.portWalk
    · exact .fst hs.portWalk
    · exact .fst hs.setLink.handOut
    · exact .fst hs.setLink.handOut
    · exact .fst hs.setLink.handOut
    · exact .fst hs.setLink.handOut

theorem inboundTurn {i ats} (hs : Follows s₀ s) : Follows s₀ (s.inboundTurn i ats) := by
  unfold State.inboundTurn
  extract_lets p l r
  have hr : Follows s₀ r.1 := .ite_fst (.ite_fst hs.atsTry hs.inboundTry) (.fst hs)
  exact .ite hr hr.setLink

theorem inboundGo {p l x4} (hs : Follows s₀ s) : Follows s₀ (s.inboundGo p l x4) := by
  induction x4 generalizing s with
  | zero =>
    exact hs
  | succ n ih =>
    rw [State.inboundGo]
    split
    · exact hs
    · exact .ite (ih (Follows.ite_fst hs.atsTry hs.inboundTry).setLink) (.ite_fst hs.atsTry hs.inboundTry)

theorem inbound {i} (hs : Follows s₀ s) : Follows s₀ (s.inbound i) := by
  unfold State.inbound
  refine .ite hs ?_
  extract_lets s1 s2
  have h1 : Follows s₀ s1 := hs.fabCount.fabCount
  have h2 : Follows s₀ s2 := .ite h1.fabRecord.fabCount h1
  exact .ite h2.inboundFail h2.inboundTurn

theorem d2h {i op} (hs : Follows s₀ s) : Follows s₀ (s.d2h i op) := by
  unfold State.d2h
  refine .ite hs ?_
  split
  · exact hs.inbound
  · exact hs.inbound
  · exact hs.inbound
  · exact hs.inbound
  · exact hs.inbound
  · exact hs.fabRecord.inboundFail

theorem atsRequest {i} (hs : Follows s₀ s) : Follows s₀ (s.atsRequest i) := .ite hs hs.inboundTurn

theorem prgResponse {p l rid group code} (hs : Follows s₀ s) : Follows s₀ (s.prgResponse p l rid group code) := hs.handOut

theorem pageReqIn {i group last read} (hs : Follows s₀ s) : Follows s₀ (s.pageReqIn i group last read) := by
  unfold State.pageReqIn
  refine .ite hs ?_
  split
  · exact hs.fabRecord.inboundFail
  · exact .ite hs.fnAdmits.inboundFail (.ite (.ite hs.prgResponse hs) (.ite (.ite hs.setFld.prgResponse hs.setFld) hs.fabTag.sendAt.setFld.fabSource))

theorem portReadIn {p l what f} (hs : Follows s₀ s) : Follows s₀ (s.portReadIn p l what f) := hs.setLink.inboundGo

theorem portReceive {p f} (hs : Follows s₀ s) : Follows s₀ (s.portReceive p f) := by
  unfold State.portReceive
  dsimp only
  split
  · exact .ite hs.portReadIn (.ite hs.arrive hs.fabRequest)
  · exact .ite hs.fabReplyIn (.ite hs.fabRequest hs.arrive)

-- the mesh

theorem setInjQueue {n p k q} (hs : Follows s₀ s) : Follows s₀ (s.setInjQueue n p k q) := hs.update

theorem present {f} (hs : Follows s₀ s) : Follows s₀ (s.present f) := by
  unfold State.present
  extract_lets found t _ s1
  clear_value found
  have h1 : Follows s₀ s1 := by
    refine Follows.toMclk ?_
    split
    · exact hs.update
    · exact hs
  split
  · exact hs
  · refine .ite hs ?_
    extract_lets s2
    have h2 : Follows s₀ s2 := .ite h1.update h1
    exact .ite h2.update h2.setInjQueue.watch

theorem moveMesh {l} (hs : Follows s₀ s) : Follows s₀ (s.moveMesh l) := hs.update

theorem discardFlit {v} (hs : Follows s₀ s) : Follows s₀ (s.discardFlit v) := hs.record.update

theorem enterLink {v} (hs : Follows s₀ s) : Follows s₀ (s.enterLink v) := by
  unfold State.enterLink
  split
  · exact hs.moveMesh
  · exact .ite hs.discardFlit hs.moveMesh

theorem inject {n p} (hs : Follows s₀ s) : Follows s₀ (s.inject n p) := by
  unfold State.inject
  refine .ite hs ?_
  split
  · exact hs.count
  · exact hs.setInjQueue.update.count.enterLink

theorem hop {f dest errs} (hs : Follows s₀ s) : Follows s₀ (s.hop f dest errs) := by
  unfold State.hop
  split
  · exact hs
  · extract_lets _ s1 s2 s2' _ s3
    have hs1 : Follows s₀ s1 := hs.moveMesh.toMclk
    have hs2 : Follows s₀ s2 := hs1.bump.count
    have hs2' : Follows s₀ s2' := .ite hs1 hs1.bump.count
    have hs3 : Follows s₀ s3 := .ite hs2' hs2'.record
    exact .ite hs.moveMesh.toMclk (.ite hs2.moveMesh (.ite hs3.moveMesh hs3.count.enterLink))

theorem retrySend {n dir p} (hs : Follows s₀ s) : Follows s₀ (s.retrySend n dir p) := by
  unfold State.retrySend
  split
  · exact hs
  · split
    · exact hs
    · exact .ite hs.toMclk.moveMesh hs.toMclk.moveMesh

theorem repairLink {n dir p wires} (hs : Follows s₀ s) : Follows s₀ (s.repairLink n dir p wires) := by
  unfold State.repairLink
  split
  · exact hs
  · split
    · exact hs
    · exact .ite hs.moveMesh.toMclk.setFld.record.moveMesh.raiseHealth (hs.moveMesh.toMclk.moveMesh.setFld.foldl (fun _ _ h1 => h1.discardFlit))

theorem resolveDrop {f} (hs : Follows s₀ s) : Follows s₀ (s.resolveDrop f) := by
  unfold State.resolveDrop
  split
  · exact hs
  · refine Follows.raiseHealth (Follows.ite (Follows.placeLine ?_) ?_)
    · split
      · exact hs.update
      · exact hs.update.arrive
      · exact hs.update.arrive.endBuf
    · split
      · exact hs.update
      · exact hs.update.arrive
      · exact hs.update.arrive.endBuf

theorem dropCopy {p} (hs : Follows s₀ s) : Follows s₀ (s.dropCopy p) := by
  unfold State.dropCopy
  split
  · exact hs.update
  · exact hs

theorem watchAgent {n port} (hs : Follows s₀ s) : Follows s₀ (s.watchAgent n port) := by
  unfold State.watchAgent
  split
  · exact .ite hs.watch hs
  · exact hs.watch
  · exact hs

theorem accept {f} (hs : Follows s₀ s) : Follows s₀ (s.accept f) := by
  unfold State.accept
  extract_lets _ _ s0 s1
  have hs0 : Follows s₀ s0 := .ite hs hs.dropCopy
  have hs1 : Follows s₀ s1 := .ite hs0 hs0.dropCopy
  refine .ite hs.record (.ite hs.sendAt.count ?_)
  split
  · exact hs1.portReceive
  · exact .ite hs1.romRequest hs1.arrive.watchAgent

theorem eject {f} (hs : Follows s₀ s) : Follows s₀ (s.eject f) := by
  unfold State.eject
  split
  · exact hs
  · refine .ite hs.moveMesh.toMclk.count.accept ?_
    dsimp only
    split
    · exact hs.moveMesh.toMclk.count.update.accept
    · exact hs.moveMesh.toMclk.count.update

theorem bounced {f} (hs : Follows s₀ s) : Follows s₀ (s.bounced f) := by
  unfold State.bounced
  dsimp only
  split
  · exact hs.taken.update.sendAt
  · exact hs.taken

theorem swapPause (hs : Follows s₀ s) : Follows s₀ s.swapPause := by
  unfold State.swapPause
  split
  · exact hs.toMclk.update
  · exact hs

theorem swapSched (hs : Follows s₀ s) : Follows s₀ s.swapSched := by
  unfold State.swapSched
  split
  · exact .ite hs.toMclk.update hs
  · exact hs

theorem execFlitPresent {f} (hs : Follows s₀ s) : OutFollows s₀ (execFlitPresent f s) := .next hs.present

theorem execFlitInject {n plane} (hs : Follows s₀ s) : OutFollows s₀ (execFlitInject n plane s) := .next hs.inject

theorem execFlitHop {f dest errs} (hs : Follows s₀ s) : OutFollows s₀ (execFlitHop f dest errs s) := .next hs.hop

theorem execLinkRetrySend {n dir plane} (hs : Follows s₀ s) : OutFollows s₀ (execLinkRetrySend n dir plane s) := .next hs.retrySend

theorem execLinkRepair {n dir plane wires} (hs : Follows s₀ s) : OutFollows s₀ (execLinkRepair n dir plane wires s) := .next hs.repairLink

theorem execFailedLinkResolve {f} (hs : Follows s₀ s) : OutFollows s₀ (execFailedLinkResolve f s) := .next hs.resolveDrop

theorem execFlitEject {f} (hs : Follows s₀ s) : OutFollows s₀ (execFlitEject f s) := .next hs.eject

theorem execBounceReceived {f} (hs : Follows s₀ s) : OutFollows s₀ (execBounceReceived f s) := .next hs.bounced

theorem execSchedSwapPause (hs : Follows s₀ s) : OutFollows s₀ (execSchedSwapPause s) := .next hs.swapPause

theorem execSchedSwap (hs : Follows s₀ s) : OutFollows s₀ (execSchedSwap s) := .next hs.swapSched

-- the slice's commands

theorem sliceOp {op f} (hs : Follows s₀ s) : Follows s₀ (s.sliceOp op f) := by
  unfold State.sliceOp
  split
  · exact hs.taken.sliceRequest
  · exact hs.taken

theorem sliceBusy {c} (hs : Follows s₀ s) : Follows s₀ (s.sliceBusy c) := hs.setFld

theorem pullLine {k l} (hs : Follows s₀ s) : Follows s₀ (s.pullLine k l).1 := by
  unfold State.pullLine
  dsimp only
  split
  · exact .fst hs.snoopShadow.cleanL1
  · exact .fst hs.snoopShadow.cleanL1.setCluster.dropL1.loseResv.refetch

theorem pullAll {l ks} (hs : Follows s₀ s) : Follows s₀ (s.pullAll l ks).1 := Follows.foldl_fst (Follows.fst hs) (fun _ _ h1 => .fst h1.pullLine)

theorem pulledHome {c l w} (hs : Follows s₀ s) : Follows s₀ (s.pulledHome c l w) := by
  unfold State.pulledHome
  split
  · exact hs.writebackAlone.setSlice
  · exact hs

theorem maintLine {c k l r} (hs : Follows s₀ s) : Follows s₀ (s.maintLine c k l r) :=
  .ite hs.setSlice (.ite hs.setSlice (.ite hs.setSlice hs.setSlice.toMclk.enterLane))

theorem maintWalk {c k x4} (hs : Follows s₀ s) : Follows s₀ (s.maintWalk c k x4) := by
  induction x4 generalizing s with
  | nil =>
    exact hs
  | cons x l ih =>
    rw [State.maintWalk]
    split
    · exact hs
    · exact .ite hs (ih hs.maintLine)

theorem maintPublish {c k result lines} (hs : Follows s₀ s) : Follows s₀ (s.maintPublish c k result lines) := hs.setSlice.setReg.sliceBusy

theorem maintDone {c k} (hs : Follows s₀ s) : Follows s₀ (s.maintDone c k) := by
  unfold State.maintDone
  dsimp only
  split
  · exact hs
  · refine .ite hs.toMclk.setSlice.setFld.maintPublish (.ite hs.maintPublish (.ite hs.toMclk.maintPublish ?_))
    split
    · exact hs.drainLanes.maintWalk
    · exact .ite hs.drainLanes.maintWalk hs.drainLanes.maintWalk.toMclk.maintPublish

theorem maintCmd {c k who v} (hs : Follows s₀ s) : Wr.Follows s₀ (s.maintCmd c k who v) := .ite (.no hs.setFld) (.ok hs.setFld.setSlice.sliceBusy)

theorem emptyWays {c ways} (hs : Follows s₀ s) : Follows s₀ (s.emptyWays c ways) := hs.setSlice.foldl (fun _ _ h1 => .ite h1.writebackAlone h1)

theorem latchWrite {c v} (hs : Follows s₀ s) : Follows s₀ (s.latchWrite c v) := .ite hs.setFld.setFld hs.setFld.setFld.emptyWays.setSlice.sliceBusy

theorem latchDone {c} (hs : Follows s₀ s) : Follows s₀ (s.latchDone c) := by
  unfold State.latchDone
  split
  · exact .ite hs.toMclk.setSlice.sliceBusy hs
  · exact hs

theorem maskWrite {c k who v} (hs : Follows s₀ s) : Wr.Follows s₀ (s.maskWrite c k who v) :=
  .ite (.no hs) (.ok (hs.setFld.foldl (fun _ _ h1 => h1.setFld)))

theorem slicePageWrite {c off who v} (hs : Follows s₀ s) : OptEffectFollows s₀ (s.slicePageWrite c off who v) := by
  unfold State.slicePageWrite
  refine .ite (.given (.mk (.ite (.no hs) (.ok hs.setFld)))) (.ite (.given (.mk (.ok hs.latchWrite)))
    (.ite (.given (.mk (.ite (.no hs) (.ok (hs.foldl (fun _ _ h1 => h1.setFld))))))
    (.ite (.given (.mk hs.maskWrite)) (.ite (.ite (.given (.mk hs.maintCmd)) (.ite (.given (.mk ?_)) trivial)) trivial))))
  split
  · exact .ok hs.setReg
  · exact .ok hs

theorem sliceArrayError {c e} (hs : Follows s₀ s) : Follows s₀ (s.sliceArrayError c e) := by
  unfold State.sliceArrayError
  dsimp only
  split
  · exact hs.sliceRecord.count.setSlice
  · split
    · exact hs.setSlice.sliceRecord
    · exact hs
  · exact hs.sliceRecord.setFld

theorem startRetire {c} (hs : Follows s₀ s) : Follows s₀ (s.startRetire c) := hs.update

theorem sliceRetire {c} (hs : Follows s₀ s) : Follows s₀ (s.sliceRetire c) := .ite hs.startRetire hs

theorem flushBucketsOf {c k} (hs : Follows s₀ s) : Follows s₀ (s.flushBucketsOf c k) := hs.foldl (fun _ _ h1 => h1.pullLine.pulledHome)

theorem retireWalk {c} (hs : Follows s₀ s) : Follows s₀ (s.retireWalk c) :=
  .ite hs (.ite hs (.ite hs ((Follows.ite ((hs.setSlice.foldl (fun _ _ h1 => .ite h1 h1.sendAt)).foldl (fun _ _ h1 => h1.flushBucketsOf)) hs).foldl
    (fun _ _ h1 => h1.foldl (fun _ _ h2 => h2.pullAll.pulledHome))).emptyWays.setSlice.sliceBusy.update))

theorem homeApply (hs : Follows s₀ s) : Follows s₀ s.homeApply := by
  unfold State.homeApply
  split
  · exact hs
  · dsimp only
    split
    · exact .ite hs.toAclk.update.setSlice.setFld.setFld.setFld.sliceBusy.sliceRecord.markRetired.setFld
        hs.toAclk.update.setSlice.setFld.setFld.setFld.sliceBusy.sliceRecord.markRetired
    · exact hs.toAclk.update

theorem execSliceRd {f} (hs : Follows s₀ s) : OutFollows s₀ (execSliceRd f s) := .next hs.sliceOp

theorem execSliceRdown {f} (hs : Follows s₀ s) : OutFollows s₀ (execSliceRdown f s) := .next hs.sliceOp

theorem execSliceUpgrade {f} (hs : Follows s₀ s) : OutFollows s₀ (execSliceUpgrade f s) := .next hs.sliceOp

theorem execSlicePrefetch {f} (hs : Follows s₀ s) : OutFollows s₀ (execSlicePrefetch f s) := .next hs.sliceOp

theorem execSliceBlank {f} (hs : Follows s₀ s) : OutFollows s₀ (execSliceBlank f s) := .next hs.sliceOp

theorem execSliceWrline {f} (hs : Follows s₀ s) : OutFollows s₀ (execSliceWrline f s) := .next hs.sliceOp

theorem execSliceCmoClean {f} (hs : Follows s₀ s) : OutFollows s₀ (execSliceCmoClean f s) := .next hs.sliceOp

theorem execSliceCmoFlush {f} (hs : Follows s₀ s) : OutFollows s₀ (execSliceCmoFlush f s) := .next hs.sliceOp

theorem execSliceCmoInval {f} (hs : Follows s₀ s) : OutFollows s₀ (execSliceCmoInval f s) := .next hs.sliceOp

theorem execSliceUntrackedRead {f} (hs : Follows s₀ s) : OutFollows s₀ (execSliceUntrackedRead f s) := .next hs.sliceOp

theorem execSliceUntrackedWrite {f} (hs : Follows s₀ s) : OutFollows s₀ (execSliceUntrackedWrite f s) := .next hs.sliceOp

theorem execSliceAtomic {f} (hs : Follows s₀ s) : OutFollows s₀ (execSliceAtomic f s) := .next hs.sliceOp

theorem execBisnp {f} (hs : Follows s₀ s) : OutFollows s₀ (execBisnp f s) := .next hs.sliceOp

theorem execSnoopResponse {f} (hs : Follows s₀ s) : OutFollows s₀ (execSnoopResponse f s) := by
  unfold Machine.execSnoopResponse
  split
  · exact .next hs.taken.snoopResponse
  · exact .next hs.taken

theorem execSliceFillArrival {f} (hs : Follows s₀ s) : OutFollows s₀ (execSliceFillArrival f s) := by
  unfold Machine.execSliceFillArrival
  split
  · exact .next hs.taken.fillArrival
  · exact .next hs.taken

theorem execLatchEmptyDone {c} (hs : Follows s₀ s) : OutFollows s₀ (execLatchEmptyDone c s) := .next hs.latchDone

theorem execMaintDone {c k} (hs : Follows s₀ s) : OutFollows s₀ (execMaintDone c k s) := .next hs.maintDone

theorem execSliceArrayError {c err} (hs : Follows s₀ s) : OutFollows s₀ (execSliceArrayError c err s) := .next hs.sliceArrayError

theorem execSliceRetire {c} (hs : Follows s₀ s) : OutFollows s₀ (execSliceRetire c s) := .next hs.sliceRetire

theorem execHomeMapApply (hs : Follows s₀ s) : OutFollows s₀ (execHomeMapApply s) := .next hs.homeApply

theorem execSliceRetireWalk {c} (hs : Follows s₀ s) : OutFollows s₀ (execSliceRetireWalk c s) := .next hs.retireWalk

-- the memory controller

theorem setMc {m v} (hs : Follows s₀ s) : Follows s₀ (s.setMc m v) := hs.update

theorem toDclk {m d} (hs : Follows s₀ s) : Follows s₀ (s.toDclk m d) := hs.toMclk

theorem journalCmd {m d kind sub rank cid bg bank cls arg} (hs : Follows s₀ s) : Follows s₀ (s.journalCmd m d kind sub rank cid bg bank cls arg) :=
  hs.setMc

theorem journalAll {m d kind arg} (hs : Follows s₀ s) : Follows s₀ (s.journalAll m d kind arg) :=
  hs.foldl (fun _ _ h1 => h1.foldl (fun _ _ h2 => h2.journalCmd))

theorem startZq {m d} (hs : Follows s₀ s) : Follows s₀ (s.startZq m d) := hs.journalAll.setMc

theorem exitSr {m d} (hs : Follows s₀ s) : Follows s₀ (s.exitSr m d) := .ite hs.journalAll.setMc.setFld hs

theorem enterSrAt {m d} (hs : Follows s₀ s) : Follows s₀ (s.enterSrAt m d) := hs.journalAll.journalAll.setMc.setFld

theorem mcGone {m d} (hs : Follows s₀ s) : Follows s₀ (s.mcGone m d) := hs.setMc

theorem mcAnswer {m d r} (hs : Follows s₀ s) : Follows s₀ (s.mcAnswer m d r) := hs.mcGone.sendAt

theorem mcWaits {f} (hs : Follows s₀ s) : Follows s₀ (s.mcWaits f) := .ite hs hs.accept

theorem mcReadAt {m d f} (hs : Follows s₀ s) : Follows s₀ (s.mcReadAt m d f) := by
  unfold State.mcReadAt
  refine .ite hs.mcWaits (.ite hs.taken.record.mcAnswer (.ite hs.taken.mcAnswer ?_))
  dsimp only
  split
  · exact .ite hs.taken.exitSr.count.mcAnswer hs.taken.exitSr.setMc
  · exact hs.taken.exitSr.setMc

theorem mcJournal {m d f} (hs : Follows s₀ s) : Follows s₀ (s.mcJournal m d f) :=
  (Follows.ite (.ite hs.setMc (.ite hs.setMc.setFld hs.setMc.setMc.setFld)) hs.setMc).mcAnswer

theorem mcWriteAt {m d f} (hs : Follows s₀ s) : Follows s₀ (s.mcWriteAt m d f) :=
  .ite hs.mcWaits (.ite hs.taken.bump.mcAnswer (.ite hs.taken.mcAnswer (.ite hs.taken.record.mcAnswer
    (.ite hs.taken.record.mcAnswer (.ite hs.exitSr.mcWaits hs.taken.exitSr.mcJournal)))))

theorem mcRead {m f} (hs : Follows s₀ s) : Follows s₀ (s.mcRead m f) := hs.mcReadAt

theorem mcWrite {m f} (hs : Follows s₀ s) : Follows s₀ (s.mcWrite m f) := hs.mcWriteAt

theorem mcResume {m p} (hs : Follows s₀ s) : Follows s₀ (s.mcResume m p) := hs.foldl (fun _ _ h1 => .ite h1.mcWriteAt h1.mcReadAt)

theorem markDevice {m k dev} (hs : Follows s₀ s) : Follows s₀ (s.markDevice m k dev) := .ite hs.setFld.setFld.record.pulse.raiseHealth hs

theorem autoMark {m p errs} (hs : Follows s₀ s) : Follows s₀ (s.autoMark m p errs) := by
  unfold State.autoMark
  split
  · exact hs
  · exact .ite hs (.ite hs.setMc.markDevice hs.setMc)

theorem eccRecheck {m old} (hs : Follows s₀ s) : Follows s₀ (s.eccRecheck m old) :=
  hs.foldl (fun _ _ h1 => h1.foldl (fun _ _ h2 => .ite h2.markDevice h2))

theorem guardClose {m d} (hs : Follows s₀ s) : Follows s₀ (s.guardClose m d) := by
  unfold State.guardClose
  split
  · exact hs
  · refine .ite (hs.foldl (fun _ _ h1 => h1.journalCmd.setMc)) (hs.foldl (fun _ _ h1 => ?_))
    dsimp only
    split
    · exact h1
    · exact h1.journalCmd.foldl (fun _ _ h1 => h1.setMc)

theorem freezeMc {m d cause pa failing} (hs : Follows s₀ s) : Follows s₀ (s.freezeMc m d cause pa failing) := by
  unfold State.freezeMc
  extract_lets s' _ _ _ x y _ _ s0 s1 s2 s3 s4 s5 s6 s7 s8 s9
  have hs' : Follows s₀ s' := hs.guardClose
  have hx : Follows s₀ x.2 := hs'.draw
  have hy : Follows s₀ y.2 := hx.draw
  have hs0 : Follows s₀ s0 := .ite hy hs'
  have hs1 : Follows s₀ s1 := hs0.setMc
  have hs2 : Follows s₀ s2 := hs1.setFld.setFld.bump
  have hs3 : Follows s₀ s3 := hs2.setReg.setReg
  have hs4 : Follows s₀ s4 := hs3.setReg.setReg
  have hs5 : Follows s₀ s5 := hs4.setReg
  have hs6 : Follows s₀ s6 := hs5.foldl (fun _ _ h1 => h1.setReg)
  have hs7 : Follows s₀ s7 := hs6.setFld
  have hs8 : Follows s₀ s8 := .ite hs7.record hs7.record
  have hs9 : Follows s₀ s9 := .ite hs8.raiseHealth hs8
  exact hs9.pulse

theorem mcDeliver {m d r} (hs : Follows s₀ s) : Follows s₀ (s.mcDeliver m d r) := by
  unfold State.mcDeliver
  extract_lets _ _ _ _ syn s'
  have hsyn : Follows s₀ syn.2 := hs.draw
  have hs' : Follows s₀ s' := hs.count
  split
  · extract_lets s1 s2
    have hs1 : Follows s₀ s1 := .ite hs'.update.record.count.autoMark hs'
    have hs2 : Follows s₀ s2 := .ite hs1.record hs1
    exact hs2.mcAnswer
  · exact hs'.record.mcAnswer
  · exact .ite hs'.record.mcAnswer (.ite hs'.mcAnswer (.ite hs'.freezeMc hs'.freezeMc))

theorem storeWrite {m f} (hs : Follows s₀ s) : Follows s₀ (s.storeWrite m f) := by
  unfold State.storeWrite
  exact (Follows.ite (Follows.ite hs.draw hs).setMc (.ite hs.draw hs)).setMemLine.setLineAttr.count

theorem markSeen {m x3} (hs : Follows s₀ s) : Follows s₀ (s.markSeen m x3) := by
  unfold State.markSeen
  split
  · exact hs.setMc
  · exact hs.setMc

theorem issueCmd {m occ kind d c} (hs : Follows s₀ s) : Follows s₀ (s.issueCmd m occ kind d c) := by
  unfold State.issueCmd
  extract_lets _ _ _ _ _ _ _ s0 s1 _ s2
  have hs0 : Follows s₀ s0 := hs.toDclk.journalCmd
  have hs1 : Follows s₀ s1 := .ite hs0 hs0.count.markSeen
  have hs2 : Follows s₀ s2 := hs1.setMc
  split
  · exact hs1.setMc
  · exact hs1.setMc
  · split
    · exact hs2.setMc
    · exact hs2.setMc.mcGone.storeWrite

theorem mcIssue {m sub win} (hs : Follows s₀ s) : Follows s₀ (s.mcIssue m sub win) := by
  unfold State.mcIssue
  split
  · refine .ite hs ?_
    dsimp only
    split
    · exact hs.guardClose.issueCmd
    · exact hs.guardClose
  · exact hs

theorem poisonRead {m code r} (hs : Follows s₀ s) : Follows s₀ (s.poisonRead m code r) := hs.record.mcAnswer

theorem freezeSr {m} (hs : Follows s₀ s) : Follows s₀ (s.freezeSr m) := by
  unfold State.freezeSr
  split
  · exact .ite hs hs.toDclk.journalAll.enterSrAt.setMc
  · exact hs

theorem replayWrite {m t' f} (hs : Follows s₀ s) : Follows s₀ (s.replayWrite m t' f).1 := .fst hs.journalCmd.journalCmd.journalCmd.storeWrite

theorem releaseMc {m mode timedOut} (hs : Follows s₀ s) : Follows s₀ (s.releaseMc m mode timedOut) := by
  unfold State.releaseMc
  extract_lets s' _ _ s1 _ _ s2 _ s3 s4 _ s5 s6 s7 x s3' s4' _ _ s5' s6' _ _ s7'
  have hs' : Follows s₀ s' := hs.freezeSr
  have hs1 : Follows s₀ s1 := hs'.toDclk.journalAll.journalAll
  have hs2 : Follows s₀ s2 := hs1.setMc.setFld.setFld.setFld
  have hs3 : Follows s₀ s3 := hs2.foldl (fun _ _ h1 => h1.mcAnswer)
  have hs4 : Follows s₀ s4 := hs3.setFld
  have hs5 : Follows s₀ s5 := hs4.setMc
  have hs6 : Follows s₀ s6 := hs5.setFld.setFld
  have hs7 : Follows s₀ s7 := hs6.foldl (fun _ _ h1 => h1.setFld)
  have hx : Follows s₀ x.1 := Follows.foldl_fst (Follows.fst hs2) (fun _ _ h1 => h1.replayWrite)
  have hs3' : Follows s₀ s3' := hx.toDclk
  have hs4' : Follows s₀ s4' := .ite (hs3'.foldl (fun _ _ h1 => h1.poisonRead)) hs3'
  have hs5' : Follows s₀ s5' := hs4'.setMc
  have hs6' : Follows s₀ s6' := hs5'.setFld
  have hs7' : Follows s₀ s7' := .ite hs6'.setFld.setFld hs6'
  exact .ite hs7.record.markRetired.mcResume hs7'.mcResume

-- schedule images

theorem armSched {base} (hs : Follows s₀ s) : Follows s₀ (s.armSched base) := hs.update

theorem repeatLoad (hs : Follows s₀ s) : Follows s₀ s.repeatLoad := by
  unfold State.repeatLoad
  split
  · exact hs
  · exact .ite hs.armSched hs

-- the Ward

theorem tctWrite {ix v} (hs : Follows s₀ s) : Follows s₀ (s.tctWrite ix v) := hs.setReg.update

theorem tctApply (hs : Follows s₀ s) : Follows s₀ s.tctApply := by
  unfold State.tctApply
  split
  · exact hs
  · exact hs.toAclk.update

theorem setMbxState {b v} (hs : Follows s₀ s) : Follows s₀ (s.setMbxState b v) := hs.update

theorem toBmc {m} (hs : Follows s₀ s) : Follows s₀ (s.toBmc m) := hs.update

theorem bmcDone {b} (hs : Follows s₀ s) : Follows s₀ (s.bmcDone b) := .ite hs.update.toBmc (.ite hs.update.toBmc hs.update)

theorem mbxPublish {b result out} (hs : Follows s₀ s) : Follows s₀ (s.mbxPublish b result out) :=
  (hs.setReg.foldl (fun _ _ h1 => h1.setReg)).setFld.setFld.pulse.bmcDone

theorem mbxFinish {b result fixed out} (hs : Follows s₀ s) : Follows s₀ (s.mbxFinish b result fixed out) :=
  .ite hs.setMbxState hs.setMbxState.mbxPublish

theorem wardRestarts (hs : Follows s₀ s) : Follows s₀ s.wardRestarts := .ite hs (hs.foldl (fun _ _ h1 => .ite h1.setMbxState h1)).update.repeatLoad

theorem mbxAck {b} (hs : Follows s₀ s) : Follows s₀ (s.mbxAck b) := by
  unfold State.mbxAck
  refine .ite hs ?_
  dsimp only
  split
  · exact hs.wardRestarts.setFld.setMbxState.mbxFinish
  · refine .ite hs.wardRestarts.setFld.setMbxState.mbxFinish ?_
    split
    · exact .ite hs.wardRestarts.setFld.setMbxState hs.wardRestarts.setFld.setMbxState.mbxFinish
    · exact .ite hs.wardRestarts.setFld.setMbxState hs.wardRestarts.setFld.setMbxState.mbxFinish

theorem mbxFixed {b} (hs : Follows s₀ s) : Follows s₀ (s.mbxFixed b) := by
  unfold State.mbxFixed
  split
  · exact hs.toAclk.setMbxState.mbxPublish
  · exact hs

theorem serveMbx {b cmd f} (hs : Follows s₀ s) (hf : ∀ s, Follows s₀ s → Follows s₀ (f s)) : Follows s₀ (s.serveMbx b cmd f) := .ite (hf _ hs) hs

theorem mbxDoorbell {b v} (hs : Follows s₀ s) : Follows s₀ (s.mbxDoorbell b v) := .ite hs.setFld hs.setFld.setFld.setMbxState

theorem mbxPageWrite {b off who v} (hs : Follows s₀ s) : OptEffectFollows s₀ (s.mbxPageWrite b off who v) :=
  .ite (.given (.mk (.ok hs.mbxDoorbell))) (.ite (.given (.mk (.ite (.no hs.setFld) (.ok hs.setReg)))) trivial)

theorem mbxInfo {b} (hs : Follows s₀ s) : Follows s₀ (s.mbxInfo b) := hs.mbxFinish

theorem mbxOtp {b} (hs : Follows s₀ s) : Follows s₀ (s.mbxOtp b) := .ite hs.mbxFinish (.ite hs.mbxFinish hs.update.mbxFinish)

theorem doBolt (hs : Follows s₀ s) : Follows s₀ s.doBolt := hs.setFld

theorem mbxTenantSet {b} (hs : Follows s₀ s) : Follows s₀ (s.mbxTenantSet b) :=
  .ite hs.mbxFinish (.ite hs.mbxFinish (.ite hs.mbxFinish (.ite hs.mbxFinish (.ite hs.mbxFinish (.ite hs.mbxFinish hs.tctWrite.mbxFinish)))))

theorem mbxTenantClear {b} (hs : Follows s₀ s) : Follows s₀ (s.mbxTenantClear b) :=
  .ite hs.mbxFinish (.ite hs.mbxFinish (.ite hs.mbxFinish hs.tctWrite.mbxFinish))

theorem mbxApertureSet {b} (hs : Follows s₀ s) : Follows s₀ (s.mbxApertureSet b) := .ite hs.mbxFinish (.ite hs.mbxFinish hs.tctWrite.mbxFinish)

theorem mbxCtxBase {b} (hs : Follows s₀ s) : Follows s₀ (s.mbxCtxBase b) := hs.setReg.mbxFinish

theorem purgeKey {k} (hs : Follows s₀ s) : Follows s₀ (s.purgeKey k) :=
  (hs.foldl (fun _ _ h1 => h1.foldl (fun _ _ h2 => h2.pullLine.pulledHome))).foldl (fun _ _ h1 =>
    (h1.foldl (fun _ _ h2 => .ite h2.writebackAlone h2)).setSlice)

theorem mbxKey {b k f} (hs : Follows s₀ s) (hf : ∀ s, Follows s₀ s → Follows s₀ (f s)) : Follows s₀ (s.mbxKey b k f) :=
  .ite hs.mbxFinish (.ite hs.mbxFinish (.ite hs (.ite hs.purgeKey (hf _ hs).mbxFinish)))

theorem loadKey {k v} (hs : Follows s₀ s) : Follows s₀ (s.loadKey k v) := hs.update

theorem mbxKeyGen {b} (hs : Follows s₀ s) : Follows s₀ (s.mbxKeyGen b) := by
  unfold State.mbxKeyGen
  exact hs.mbxKey (fun _ h1 => h1.draw.loadKey)

theorem mbxKeyImport {b} (hs : Follows s₀ s) : Follows s₀ (s.mbxKeyImport b) := by
  unfold State.mbxKeyImport
  refine .ite hs.mbxFinish (.ite hs.mbxFinish ?_)
  split
  · exact hs.mbxFinish
  · exact hs.mbxKey (fun _ h1 => h1.loadKey)

theorem mbxKeyErase {b} (hs : Follows s₀ s) : Follows s₀ (s.mbxKeyErase b) := by
  unfold State.mbxKeyErase
  exact hs.mbxKey (fun _ h1 => h1.loadKey)

theorem mbxSchedLoad {b} (hs : Follows s₀ s) : Follows s₀ (s.mbxSchedLoad b) := by
  unfold State.mbxSchedLoad
  refine .ite hs ?_
  dsimp only
  split
  · exact hs.mbxFinish
  · exact hs.armSched.mbxFinish

theorem setHinge {n h} (hs : Follows s₀ s) : Follows s₀ (s.setHinge n h) := hs.update

theorem rootRequest {p} (hs : Follows s₀ s) : Follows s₀ (s.rootRequest p) := by
  unfold State.rootRequest
  split
  · exact hs.setHinge
  · exact hs.respond

theorem mbxPage {b write} (hs : Follows s₀ s) : Follows s₀ (s.mbxPage b write) := by
  unfold State.mbxPage
  refine .ite hs.mbxFinish (.ite hs.setMbxState.rootRequest ?_)
  split
  · exact .ite hs.update.toMclk.mbxFinish hs.update.toMclk.mbxFinish
  · exact hs

theorem mbxHoldRelease {b consent} (hs : Follows s₀ s) : Follows s₀ (s.mbxHoldRelease b consent) :=
  .ite hs.mbxFinish (.ite hs.mbxFinish hs.setFld.mbxFinish)

theorem mbxSlNonce {b} (hs : Follows s₀ s) : Follows s₀ (s.mbxSlNonce b) := hs.draw.update.mbxFinish

theorem mbxSlGrant {b} (hs : Follows s₀ s) : Follows s₀ (s.mbxSlGrant b) := by
  unfold State.mbxSlGrant
  refine .ite hs.mbxFinish ?_
  split
  · exact hs.update.mbxFinish
  · exact hs.update.setReg.setReg.draw.record.mbxFinish

theorem endGrant (hs : Follows s₀ s) : Follows s₀ s.endGrant := .ite hs.setFld.setFld hs

theorem mbxLogRead {b} (hs : Follows s₀ s) : Follows s₀ (s.mbxLogRead b) := .ite hs.mbxFinish hs.mbxFinish

theorem mbxAssign {b} (hs : Follows s₀ s) : Follows s₀ (s.mbxAssign b) := .ite hs.mbxFinish (.ite hs.mbxFinish hs.setReg.mbxFinish)

theorem spdmMeasurements {b request} (hs : Follows s₀ s) : Follows s₀ (s.spdmMeasurements b request).2 := .snd hs.draw.draw

theorem mbxSpdm {b reply} (hs : Follows s₀ s) : Follows s₀ (s.mbxSpdm b reply) := by
  unfold State.mbxSpdm
  refine .ite hs.spdmMeasurements.mbxFinish ?_
  split
  · exact hs.update.mbxFinish
  · exact hs.mbxFinish

theorem resetWard (hs : Follows s₀ s) : Follows s₀ s.resetWard :=
  (hs.foldl (fun _ _ h1 => (Follows.ite h1.setFld h1).setMbxState)).endGrant.bump.update

theorem wardFails (hs : Follows s₀ s) : Follows s₀ s.wardFails := hs.update.raiseHealth

theorem watchdog (hs : Follows s₀ s) : Follows s₀ s.watchdog := .ite hs.resetWard.setFld.update.wardFails hs.resetWard.setFld.update

theorem restartFailure (hs : Follows s₀ s) : Follows s₀ s.restartFailure := .ite hs hs.toAclk.wardFails

theorem periodicReset (hs : Follows s₀ s) : Follows s₀ s.periodicReset := .ite hs.toAclk.resetWard hs

theorem execTctApplyEdge (hs : Follows s₀ s) : OutFollows s₀ (execTctApplyEdge s) := .next hs.tctApply

theorem execMbxFixedCompletion {b} (hs : Follows s₀ s) : OutFollows s₀ (execMbxFixedCompletion b s) := .next hs.mbxFixed

theorem execInfo {b} (hs : Follows s₀ s) : OutFollows s₀ (execInfo b s) := .next (hs.serveMbx (fun _ h1 => h1.mbxInfo))

theorem execOtpProvision {b} (hs : Follows s₀ s) : OutFollows s₀ (execOtpProvision b s) := .next (hs.serveMbx (fun _ h1 => h1.mbxOtp))

theorem execBoltNow {b} (hs : Follows s₀ s) : OutFollows s₀ (execBoltNow b s) := .next (hs.serveMbx (fun _ h1 => h1.doBolt.mbxFinish))

theorem execTenantSet {b} (hs : Follows s₀ s) : OutFollows s₀ (execTenantSet b s) := .next (hs.serveMbx (fun _ h1 => h1.mbxTenantSet))

theorem execTenantClear {b} (hs : Follows s₀ s) : OutFollows s₀ (execTenantClear b s) := .next (hs.serveMbx (fun _ h1 => h1.mbxTenantClear))

theorem execApertureSet {b} (hs : Follows s₀ s) : OutFollows s₀ (execApertureSet b s) := .next (hs.serveMbx (fun _ h1 => h1.mbxApertureSet))

theorem execCtxBase {b} (hs : Follows s₀ s) : OutFollows s₀ (execCtxBase b s) := .next (hs.serveMbx (fun _ h1 => h1.mbxCtxBase))

theorem execKeyGen {b} (hs : Follows s₀ s) : OutFollows s₀ (execKeyGen b s) := .next (hs.serveMbx (fun _ h1 => h1.mbxKeyGen))

theorem execKeyImport {b} (hs : Follows s₀ s) : OutFollows s₀ (execKeyImport b s) := .next (hs.serveMbx (fun _ h1 => h1.mbxKeyImport))

theorem execKeyErase {b} (hs : Follows s₀ s) : OutFollows s₀ (execKeyErase b s) := .next (hs.serveMbx (fun _ h1 => h1.mbxKeyErase))

theorem execSchedLoad {b} (hs : Follows s₀ s) : OutFollows s₀ (execSchedLoad b s) := .next (hs.serveMbx (fun _ h1 => h1.mbxSchedLoad))

theorem execPageRead {b} (hs : Follows s₀ s) : OutFollows s₀ (execPageRead b s) := .next (hs.serveMbx (fun _ h1 => h1.mbxPage))

theorem execPageWrite {b} (hs : Follows s₀ s) : OutFollows s₀ (execPageWrite b s) := .next (hs.serveMbx (fun _ h1 => h1.mbxPage))

theorem execHoldRelease {b consent} (hs : Follows s₀ s) : OutFollows s₀ (execHoldRelease b consent s) :=
  .next (hs.serveMbx (fun _ h1 => h1.mbxHoldRelease))

theorem execSlNonce {b} (hs : Follows s₀ s) : OutFollows s₀ (execSlNonce b s) := .next (hs.serveMbx (fun _ h1 => h1.mbxSlNonce))

theorem execSlGrant {b} (hs : Follows s₀ s) : OutFollows s₀ (execSlGrant b s) := .next (hs.serveMbx (fun _ h1 => h1.mbxSlGrant))

theorem execSlGrantEnd (hs : Follows s₀ s) : OutFollows s₀ (execSlGrantEnd s) := .next (.ite hs.toAclk.endGrant hs)

theorem execLogRead {b} (hs : Follows s₀ s) : OutFollows s₀ (execLogRead b s) := .next (hs.serveMbx (fun _ h1 => h1.mbxLogRead))

theorem execMbxAssign {b} (hs : Follows s₀ s) : OutFollows s₀ (execMbxAssign b s) := .next (hs.serveMbx (fun _ h1 => h1.mbxAssign))

theorem execSpdm {b reply} (hs : Follows s₀ s) : OutFollows s₀ (execSpdm b reply s) := .next (hs.serveMbx (fun _ h1 => h1.mbxSpdm))

theorem execWardReset (hs : Follows s₀ s) : OutFollows s₀ (execWardReset s) := .next hs.resetWard

theorem execWardWatchdogExpiry (hs : Follows s₀ s) : OutFollows s₀ (execWardWatchdogExpiry s) := .next hs.watchdog

theorem execWardRestartFailure (hs : Follows s₀ s) : OutFollows s₀ (execWardRestartFailure s) := .next hs.restartFailure

theorem execWardPeriodicReset (hs : Follows s₀ s) : OutFollows s₀ (execWardPeriodicReset s) := .next hs.periodicReset

-- what a fabric port does for its links

theorem prgWrite {p v} (hs : Follows s₀ s) : Follows s₀ (s.prgWrite p v) := hs.prgResponse

theorem atsEnd {p result} (hs : Follows s₀ s) : Follows s₀ (s.atsEnd p result) := hs.setFld.setFld.setFld.setPort.fabSource

theorem atsWrite {p v} (hs : Follows s₀ s) : Wr.Follows s₀ (s.atsWrite p v) :=
  .ite (.ok hs.setReg) (.ite (.no hs) (.ite (.ok hs.setReg.atsEnd) (.ok hs.setReg.setFld.setFld.setPort.handOut)))

theorem atsDone {p} (hs : Follows s₀ s) : Follows s₀ (s.atsDone p) := .ite hs.atsEnd hs

theorem atsTimeout {p} (hs : Follows s₀ s) : Follows s₀ (s.atsTimeout p) := by
  unfold State.atsTimeout
  split
  · exact hs.toAclk.fabRecord.atsEnd
  · exact hs

theorem fabEvent {p l kind win} (hs : Follows s₀ s) : Follows s₀ (s.fabEvent p l kind win) := .ite hs (.ite hs.setPort hs.setPort.fabSource)

theorem fabEventRead {p} (hs : Follows s₀ s) : Follows s₀ (s.fabEventRead p).2 := by
  unfold State.fabEventRead
  dsimp only
  split
  · exact .snd hs.setPort
  · exact .snd hs.setPort

theorem invUnits {a b} (hs : Follows s₀ s) : Follows s₀ (s.invUnits a b) :=
  (hs.foldl (fun _ _ h1 => h1.foldl (fun _ _ h2 => h2.pullLine))).foldl (fun _ _ h1 => h1.setSlice)

theorem putWindow {p l w a b hdmdb} (hs : Follows s₀ s) : Follows s₀ (s.putWindow p l w a b hdmdb) := hs.setReg.setReg

theorem addRange {p l r} (hs : Follows s₀ s) : Follows s₀ (s.addRange p l r) := by
  unfold State.addRange
  split
  · exact .ite hs hs.invUnits.putWindow
  · exact hs

theorem addBar {p l rid size} (hs : Follows s₀ s) : Follows s₀ (s.addBar p l rid size) := by
  unfold State.addBar
  dsimp only
  split
  · exact hs
  · exact .ite hs hs.setLink

theorem addFunction {p l x rid} (hs : Follows s₀ s) : Follows s₀ (s.addFunction p l x rid) := by
  unfold State.addFunction
  refine Follows.foldl ?_ (fun _ _ h1 => h1.addBar)
  split
  · exact hs.setReg.readFnCtx
  · exact hs

theorem fmComplete {cmd p l} (hs : Follows s₀ s) : Follows s₀ (s.fmComplete cmd p l) := hs.foldl (fun _ _ h1 => h1.mbxFinish)

theorem arriveUp {p l} (hs : Follows s₀ s) : Follows s₀ (s.arriveUp p l) := hs.setLnkState.watch.setLink.fabEvent.fmComplete

theorem linkArrives {p l x} (hs : Follows s₀ s) : Follows s₀ (s.linkArrives p l x) := by
  unfold State.linkArrives
  extract_lets _ _ _ s1 _ s2 _ s3 s4
  have hs1 : Follows s₀ s1 := hs.setFld.setLink
  have hs2 : Follows s₀ s2 := hs1.setLnkState.setFld.setFld.setFld.setFld
  have hs3 : Follows s₀ s3 := hs2.foldl (fun _ _ h1 => h1.addFunction)
  have hs4 : Follows s₀ s4 := .ite (hs3.foldl (fun _ _ h1 => h1.addRange)) hs3
  exact .ite hs.setFld.setLink (.ite hs (.ite hs1.setLnkState.fabEvent.fmComplete (.ite hs4.setLink hs4.arriveUp)))

theorem wardMaint {op addr lines} (hs : Follows s₀ s) : Follows s₀ (s.wardMaint op addr lines) :=
  hs.foldl (fun _ _ h1 => h1.setFld.setSlice.sliceBusy)

theorem departNext {p l} (hs : Follows s₀ s) : Follows s₀ (s.departNext p l) := by
  unfold State.departNext
  dsimp only
  split
  · split
    · exact hs
    · exact .ite hs hs.setLink.wardMaint
  · exact hs

theorem departHold {p l d} (hs : Follows s₀ s) : Follows s₀ (s.departHold p l d) := hs.setLnkState.markWindows.setFld.setLink.departNext

theorem departEnd {p l d} (hs : Follows s₀ s) : Follows s₀ (s.departEnd p l d) :=
  ((hs.fabEvent.foldl (fun _ _ h1 => h1.setReg.setReg)).foldl (fun _ _ h1 => h1.setReg)).setLink.setReg.setFld.fmComplete

theorem departStart {p l} (hs : Follows s₀ s) : Follows s₀ (s.departStart p l) := .ite hs.setLink.fabEvent hs

theorem departGo {p l} (hs : Follows s₀ s) : Follows s₀ (s.departGo p l) := by
  unfold State.departGo
  split
  · exact .ite hs.departStart hs
  · exact .ite hs (.ite hs.departNext (.ite hs hs.departEnd))

theorem dcdFlush {p l d} (hs : Follows s₀ s) : Follows s₀ (s.dcdFlush p l d) := .ite hs hs.setLink.setFld.wardMaint

theorem releaseActs {p l} (hs : Follows s₀ s) : Follows s₀ (s.releaseActs p l) := by
  unfold State.releaseActs
  split
  · exact .ite hs.departHold hs
  · exact .ite hs hs.dcdFlush
  · exact hs

theorem releaseTimeout {p l} (hs : Follows s₀ s) : Follows s₀ (s.releaseTimeout p l) := by
  unfold State.releaseTimeout
  split
  · exact .ite hs.toAclk.departHold hs
  · exact .ite hs hs.toAclk.dcdFlush
  · exact hs

theorem departAnswer {p l o} (hs : Follows s₀ s) : Follows s₀ (s.departAnswer p l o) := hs.fabRecord.fabAnswer

theorem surprise {p l code again} (hs : Follows s₀ s) : Follows s₀ (s.surprise p l code again) := by
  unfold State.surprise
  refine .ite hs ?_
  extract_lets v dpc s1 s2 s3 s4 s5
  have h2 : Follows s₀ s2 := hs.setLnkState.markWindows.foldl (fun _ _ h1 => h1.departAnswer)
  have h4 : Follows s₀ s4 := h2.fabRecord.fabEvent
  have h5 : Follows s₀ s5 := .ite h4.fabEvent.fabSource h4
  exact h5.setLink.departNext

theorem surpriseDone {p l} (hs : Follows s₀ s) : Follows s₀ (s.surpriseDone p l) := by
  unfold State.surpriseDone
  split
  · exact .ite hs (.ite hs.departNext (.ite hs hs.departEnd))
  · exact hs

theorem dpcClear {q} (hs : Follows s₀ s) : Follows s₀ (s.dpcClear q) := by
  unfold State.dpcClear
  dsimp only
  split
  · split
    · refine .ite hs.respond (.ite hs.respond ?_)
      split
      · exact hs.respond.setLink
      · exact hs.respond.setLink.setFld
    · exact hs
  · exact hs

theorem dcdEvent {p l add w r} (hs : Follows s₀ s) : Follows s₀ (s.dcdEvent p l add w r) := by
  unfold State.dcdEvent
  refine .ite hs (.ite (.ite (.ite hs hs.invUnits.putWindow.fabEvent) ?_) ?_)
  · split
    · exact hs.invUnits.putWindow.fabEvent
    · exact hs
  · split
    · exact .ite hs hs.setLink.fabEvent
    · exact .ite hs (.ite hs.setLink.setReg.setReg hs.setLink.putWindow)

theorem fabResume {p l} (hs : Follows s₀ s) : Follows s₀ (s.fabResume p l) := by
  unfold State.fabResume
  split
  · exact hs.taken.fabRequest
  · exact hs

theorem completionIn {r} (hs : Follows s₀ s) : Follows s₀ (s.completionIn r) := by
  unfold State.completionIn
  split
  · exact hs
  · split
    · exact hs
    · exact (Follows.ite hs.setLink.fabCount.fabRecord.fabCount hs.setLink.fabCount).sendAt.fabResume

theorem completionTimeout {f} (hs : Follows s₀ s) : Follows s₀ (s.completionTimeout f) := by
  unfold State.completionTimeout
  split
  · exact hs
  · split
    · exact hs
    · exact hs.toMclk.setLink.fabRecord.fabCount.fabRefuse.fabResume

theorem aer {p l unc rid status} (hs : Follows s₀ s) : Follows s₀ (s.aer p l unc rid status) := .ite hs.fabSource hs.fabRecord.count.fabSource

theorem fmMessage {cmd args seq} (hs : Follows s₀ s) : Follows s₀ (s.fmMessage cmd args seq) := by
  unfold State.fmMessage
  split
  · exact .ite hs.record (hs.setReg.foldl (fun _ _ h1 => h1.setReg)).mbxDoorbell
  · exact hs.record

theorem fmServe {b} (hs : Follows s₀ s) : Follows s₀ (s.fmServe b) := by
  unfold State.fmServe
  refine .ite hs ?_
  split
  · exact .ite hs.mbxFinish (.ite hs.mbxFinish hs.setFld)
  · exact .ite hs.mbxFinish (.ite hs.mbxFinish hs.departStart)
  · refine .ite hs.mbxFinish ?_
    split
    · exact hs.mbxFinish
    · exact (Follows.ite hs.setLink.arriveUp hs.setLink).mbxFinish
  · exact .ite hs.mbxFinish hs.mbxFinish
  · exact hs

theorem fmOpcode {p op seq} (hs : Follows s₀ s) : Follows s₀ (s.fmOpcode p op seq) := .ite hs.fmMessage (.ite hs.fmMessage hs.record)

theorem fpPageWrite {p off who v} (hs : Follows s₀ s) : OptEffectFollows s₀ (s.fpPageWrite p off who v) := by
  unfold State.fpPageWrite
  refine .ite (.given (.mk (.ite (.no hs) (.ok hs.setFld)))) (.ite (.given (.mk hs.atsWrite))
    (.ite (.given (.mk (.ok hs.setReg))) (.ite (.given (.mk (.ok hs.prgWrite))) (.ite (.given (.mk (.ok hs.setReg)))
    (.ite (.given (.mk ?_)) trivial)))))
  split
  · exact .ok hs.setReg
  · exact .ok hs

theorem lnkCtlWrite {p l v} (hs : Follows s₀ s) : Wr.Follows s₀ (s.lnkCtlWrite p l v) := by
  unfold State.lnkCtlWrite
  extract_lets pg k taken s1 s2 waits
  have h2 : Follows s₀ s2 := .ite hs.setFld.setFld.departStart hs.setFld
  exact .ite (.no hs) (.ok (.ite h2.setFld.releaseActs h2))

theorem linkPageWrite {p l off who v} (hs : Follows s₀ s) : OptEffectFollows s₀ (s.linkPageWrite p l off who v) :=
  .ite (.given (.mk hs.lnkCtlWrite)) (.ite (.given (.mk (.ite (.no hs) (.ok hs.setReg.readFnCtx)))) trivial)

-- the commands of the fabric ports

theorem execMbxAcknowledge {b} (hs : Follows s₀ s) : OutFollows s₀ (execMbxAcknowledge b s) := .next (.ite hs.mbxAck.fmServe hs)

theorem execLinkArrival {p l partner} (hs : Follows s₀ s) : OutFollows s₀ (execLinkArrival p l partner s) := .next hs.linkArrives

theorem execPlannedDeparture {p l} (hs : Follows s₀ s) : OutFollows s₀ (execPlannedDeparture p l s) := .next hs.departGo

theorem execReleaseTimeout {p l} (hs : Follows s₀ s) : OutFollows s₀ (execReleaseTimeout p l s) := .next hs.releaseTimeout

theorem execSurpriseDeparture {p l dpc} (hs : Follows s₀ s) : OutFollows s₀ (execSurpriseDeparture p l dpc s) := .next hs.surprise

theorem execSurpriseInvDone {p l} (hs : Follows s₀ s) : OutFollows s₀ (execSurpriseInvDone p l s) := .next hs.surpriseDone

theorem execDpcClear {p} (hs : Follows s₀ s) : OutFollows s₀ (execDpcClear p s) := .next hs.dpcClear

theorem execDcdEvent {p l add win range} (hs : Follows s₀ s) : OutFollows s₀ (execDcdEvent p l add win range s) := .next hs.dcdEvent

theorem execInboundRequest {i} (hs : Follows s₀ s) : OutFollows s₀ (execInboundRequest i s) := .next hs.inbound

theorem execD2hRequest {i op} (hs : Follows s₀ s) : OutFollows s₀ (execD2hRequest i op s) := .next hs.d2h

theorem execAtsTranslationRequest {i} (hs : Follows s₀ s) : OutFollows s₀ (execAtsTranslationRequest i s) := .next hs.atsRequest

theorem execPageRequest {i group last read} (hs : Follows s₀ s) : OutFollows s₀ (execPageRequest i group last read s) := .next hs.pageReqIn

theorem execAtsInvDone {p} (hs : Follows s₀ s) : OutFollows s₀ (execAtsInvDone p s) := .next hs.atsDone

theorem execAtsInvTimeout {p} (hs : Follows s₀ s) : OutFollows s₀ (execAtsInvTimeout p s) := .next hs.atsTimeout

theorem execOutboundCompletionTimeout {f} (hs : Follows s₀ s) : OutFollows s₀ (execOutboundCompletionTimeout f s) := .next hs.completionTimeout

theorem execInboundCompletion {f} (hs : Follows s₀ s) : OutFollows s₀ (execInboundCompletion f s) := .next hs.completionIn

theorem execFmBind {p l device seq} (hs : Follows s₀ s) : OutFollows s₀ (execFmBind p l device seq s) := .next hs.fmMessage

theorem execFmUnbind {p l seq} (hs : Follows s₀ s) : OutFollows s₀ (execFmUnbind p l seq s) := .next hs.fmMessage

theorem execFmIdeKey {p l stream slot wrapped seq} (hs : Follows s₀ s) : OutFollows s₀ (execFmIdeKey p l stream slot wrapped seq s) :=
  .next hs.fmMessage

theorem execFmStatus {p opcode seq} (hs : Follows s₀ s) : OutFollows s₀ (execFmStatus p opcode seq s) := .next hs.fmOpcode

theorem execPerstRelease {p l} (hs : Follows s₀ s) : OutFollows s₀ (execPerstRelease p l s) := .next hs.setLink

theorem execAerError {p l uncorrectable rid status} (hs : Follows s₀ s) : OutFollows s₀ (execAerError p l uncorrectable rid status s) := .next hs.aer

theorem execIdeIntegrityCheckFailed {p l} (hs : Follows s₀ s) : OutFollows s₀ (execIdeIntegrityCheckFailed p l s) :=
  .next (.ite hs.fabRecord.surprise hs)

-- writes of CSRs

theorem writeCsr {h n v} (hs : Follows s₀ s) : Follows s₀ (s.writeCsr h n v) := by
  unfold State.writeCsr
  extract_lets s1 a g put atp
  have h1 : Follows s₀ s1 := hs.tick
  have hput {n v} : Follows s₀ (put n v) := h1.withArch
  have hatp {v asid} : Follows s₀ (atp v asid) := .ite hput h1
  clear_value s1 put atp
  repeat' apply Follows.ite
  all_goals simp only [h1, h1.withArch, hput, hatp]

-- how epochs end

theorem drainL1 {k keep} (hs : Follows s₀ s) : Follows s₀ (s.drainL1 k keep) := hs.setCluster.setCore

theorem discardEpochs {h i} (hs : Follows s₀ s) : Follows s₀ (s.discardEpochs h i) := by
  unfold State.discardEpochs
  dsimp only
  split
  · exact hs
  · exact hs.setHart

theorem startReprint {h k t'} (hs : Follows s₀ s) : Follows s₀ (s.startReprint h k t') := by
  unfold State.startReprint
  extract_lets _ s1 s2 _ s3 s4
  have hs1 : Follows s₀ s1 := hs.update
  have hs2 : Follows s₀ s2 := .ite hs1.setFld.setFld.setFld hs1.setFld.setFld
  have hs3 : Follows s₀ s3 := .ite hs2.setCore hs2.setCore
  have hs4 : Follows s₀ s4 := by
    unfold s4
    split
    · exact hs3.setFld
    · exact hs3
  exact hs4.setHart

theorem markParked {h} (hs : Follows s₀ s) : Follows s₀ (s.markParked h) := hs.setFld.pulse

theorem parkHart {h} (hs : Follows s₀ s) : Follows s₀ (s.parkHart h) := by
  unfold State.parkHart
  refine Follows.markParked (Follows.record (Follows.setHart ?_))
  split
  · exact hs.setFld
  · exact hs

theorem reprint {h c} (hs : Follows s₀ s) : Follows s₀ (s.reprint h c) := by
  unfold State.reprint
  split
  · exact hs.parkHart
  · exact .ite hs.startReprint.record hs.startReprint

theorem coreFault {k i checker} (hs : Follows s₀ s) : Follows s₀ (s.coreFault k i checker) := by
  unfold State.coreFault
  refine Follows.retrySnoops (Follows.foldl (Follows.setCore (Follows.drainL1 (Follows.record (Follows.setFld (Follows.setFld ?_)))))
    (fun _ _ h1 => h1.reprint))
  split
  · exact hs.discardEpochs
  · exact hs

theorem freshShadow {c h l d} (hs : Follows s₀ s) : Follows s₀ (s.freshShadow c h l d) := hs.foldl (fun _ _ h1 => .ite h1 h1.setHart)

theorem commitOldest {h n} (hs : Follows s₀ s) : Follows s₀ (s.commitOldest h n) := by
  unfold State.commitOldest
  extract_lets v k c
  split
  · exact hs
  · extract_lets s0 s1 s2 s3 _ s4 s5 s6 v6
    have h0 : Follows s₀ s0 := hs.toMclk
    have h1 : Follows s₀ s1 := .ite h0.record h0
    have h2 : Follows s₀ s2 := by
      refine h1.foldl (fun s _ hs => .ite hs ?_)
      extract_lets co cl old new t ks u
      have hu : Follows s₀ u := (hs.setCore.foldl (fun _ _ h => h.setCore)).refetch.freshShadow
      split
      · exact hu.setCluster
      · exact hu
    have h6 : Follows s₀ s6 := (h2.setFld.setHart.foldl (fun _ _ h => h.sendAt)).hpm
    exact .ite h0.coreFault (Follows.ite h6.setHart h6).retrySnoops

theorem abandon {h} (hs : Follows s₀ s) : Follows s₀ (s.abandon h) := hs.foldl (fun _ _ h1 => h1.hpm.foldl (fun _ _ h2 => h2.hpm))

theorem takeTrap {h t' tinst intr} (hs : Follows s₀ s) : Follows s₀ (s.takeTrap h t' tinst intr) := by
  unfold State.takeTrap
  extract_lets k s0 s1 _ s2 bad older s3 s4 _ s5 s6
  have h2 : Follows s₀ s2 := hs.tick.abandon.hpm.closeEpoch.setHart
  have h3 : Follows s₀ s3 := .ite h2.commitOldest h2
  have h5 : Follows s₀ s5 := h3.withArch.openEpoch.setHart
  exact .ite h3 (.ite h5.toMclk (.ite h5.commitOldest h5.commitOldest.toMclk))

-- the events of the task queues

theorem queueMessage {f act} (hs : Follows s₀ s) (hact : ∀ s x2, Follows s₀ s → Follows s₀ (act s x2)) : OutFollows s₀ (s.queueMessage f act) :=
  .next (.ite hs.taken (hact _ _ hs))

theorem execTaskDoorbell {f} (hs : Follows s₀ s) : OutFollows s₀ (execTaskDoorbell f s) :=
  hs.queueMessage (fun _ _ h1 => .ite h1.laneOffers.taken.doorbellArrive h1.taken.send)

theorem execTaskDispatch {e} (hs : Follows s₀ s) : OutFollows s₀ (execTaskDispatch e s) := .next (hs.foldl (fun _ _ h1 => h1.laneOwner)).dispatch

theorem complReply {f p act} (hs : Follows s₀ s) (hact : ∀ s x2 x3, Follows s₀ s → Follows s₀ (act s x2 x3)) :
    OutFollows s₀ (s.complReply f p act) := by
  unfold State.complReply
  refine hs.queueMessage (fun _ _ h1 => ?_)
  dsimp only
  split
  · exact h1.taken
  · exact .ite (hact _ _ _ h1.taken) h1.taken.complGo

theorem execTaskComplete {f} (hs : Follows s₀ s) : OutFollows s₀ (execTaskComplete f s) :=
  hs.complReply (fun _ _ _ h1 => (Follows.ite h1.complFails h1).completed)

theorem execJoinDecrement {f} (hs : Follows s₀ s) : OutFollows s₀ (execJoinDecrement f s) :=
  hs.complReply (fun _ _ _ h1 => .ite h1.dropCompl.complFails (.ite h1.startCont h1.dropCompl))

theorem execContinuationRead {f} (hs : Follows s₀ s) : OutFollows s₀ (execContinuationRead f s) :=
  hs.complReply (fun _ _ _ h1 => .ite h1.dropCompl.complFails (.ite h1.dropCompl.laneOwner.doorbellSubmit h1.dropCompl))

theorem execSpillWriteAck {f} (hs : Follows s₀ s) : OutFollows s₀ (execSpillWriteAck f s) := by
  unfold Machine.execSpillWriteAck
  refine .next (.ite hs.taken ?_)
  split
  · exact hs.taken
  · exact .ite hs.taken.setQueue.disableRing hs.taken.setQueue

theorem execSpillRefill {c k} (hs : Follows s₀ s) : OutFollows s₀ (execSpillRefill c k s) := .next hs.refill

theorem execRefillArrival {f} (hs : Follows s₀ s) : OutFollows s₀ (execRefillArrival f s) := hs.queueMessage (fun _ _ h1 => h1.taken.refillArrive)

theorem execStealRound {c} (hs : Follows s₀ s) : OutFollows s₀ (execStealRound c s) := .next hs.stealRound

theorem execStealBackoffEnd {c} (hs : Follows s₀ s) : OutFollows s₀ (execStealBackoffEnd c s) := by
  unfold Machine.execStealBackoffEnd
  refine .next ?_
  split
  · exact hs
  · exact hs.toMclk.setQueue.stealRound

theorem execSteal {f} (hs : Follows s₀ s) : OutFollows s₀ (execSteal f s) := hs.queueMessage (fun _ _ h1 => h1.laneSteals.taken.answerSteal)

theorem execStealrsp {f} (hs : Follows s₀ s) : OutFollows s₀ (execStealrsp f s) := by
  unfold Machine.execStealrsp
  refine hs.queueMessage (fun _ _ h1 => ?_)
  dsimp only
  split
  · exact h1.taken.nextSteal
  · exact h1.taken.laneEnter.pushTop
  · exact .ite h1.taken.bump.count.send.setQueue.dispatchOne h1.taken.bump.count.send.setQueue.laneEnter.pushBottom

theorem execStealBack {f} (hs : Follows s₀ s) : OutFollows s₀ (execStealBack f s) := .next (.ite hs.taken hs.taken.setQueue)

theorem execStealCopyTimeout {c tag} (hs : Follows s₀ s) : OutFollows s₀ (execStealCopyTimeout c tag s) := by
  unfold Machine.execStealCopyTimeout
  refine .next ?_
  split
  · exact hs
  · exact hs.toMclk.setQueue.laneEnter.pushBottom.record

-- the instructions of a hart

theorem hartIssue {h} (hs : Follows s₀ s) : OptFollows s₀ (s.hartIssue h) := by
  unfold State.hartIssue
  refine .ite trivial ?_
  split
  · exact .given hs
  · exact trivial
  · exact .given hs.toMclk.setHart
  · exact .given hs.toMclk.setHart

theorem trapOn {h t' i off} (hs : Follows s₀ s) : Follows s₀ (s.trapOn h t' i off) := by
  unfold State.trapOn
  exact (Follows.ite hs.record hs).takeTrap

theorem bringAll {h own x4} (hs : Follows s₀ s) : OptFstFollows s₀ (s.bringAll h own x4) := by
  induction x4 generalizing s with
  | nil =>
    exact hs
  | cons x l ih =>
    rw [State.bringAll]
    split
    · exact trivial
    · split
      · exact trivial
      · exact .given (.fst ((ih hs).of_given ‹_›))
    · exact ih (hs.bring.of_ready ‹_›)

theorem askLines {h ls nc own op i} (hs : Follows s₀ s) : Follows s₀ (s.askLines h ls nc own op i) := .ite hs.trapOn hs.missLines

theorem refusePage {h pa write} (hs : Follows s₀ s) : Follows s₀ (s.refusePage h pa write) := by
  unfold State.refusePage
  split
  · exact hs.accessFault
  · exact hs

theorem issueIo {h i pa n write v} (hs : Follows s₀ s) : Follows s₀ (s.issueIo h i pa n write v) := hs.setHart.sendAt

theorem atHead {h cause i f} (hs : Follows s₀ s) (hf : ∀ s, Follows s₀ s → Follows s₀ (f s)) : Follows s₀ (s.atHead h cause i f) :=
  .ite (hf _ hs.closeEpoch.setHart) hs.closeEpoch.setHart

theorem ioAccess {h i va n ps write v} (hs : Follows s₀ s) : Follows s₀ (s.ioAccess h i va n ps write v) := by
  unfold State.ioAccess
  dsimp only
  split
  · exact hs
  · exact .ite hs.refusePage.trapOn (.ite hs.trapOn (hs.atHead (fun _ h1 => h1.issueIo)))
  · exact .ite hs.refusePage.trapOn hs.refusePage.trapOn

theorem fillL1 {h l} (hs : Follows s₀ s) : Follows s₀ (s.fillL1 h l) := by
  unfold State.fillL1
  split
  · exact hs.bring.of_ready ‹_›
  · exact hs

theorem retireLoad {h rd n v sx fp again ls} (hs : Follows s₀ s) : Follows s₀ (s.retireLoad h rd n v sx fp again ls) := by
  unfold State.retireLoad
  extract_lets t s1 s2 s3 s4
  have h2 : Follows s₀ s2 := hs.openEpoch.installShadow.foldl (fun _ _ h => h.fillL1)
  have h3 : Follows s₀ s3 := h2.withArch.hpm
  have h4 : Follows s₀ s4 := .ite h3.hpm.hpm h3
  exact h4.toMclk.retire

theorem doLoad {h i rd rs1 off n sx fp again} (hs : Follows s₀ s) : Follows s₀ (s.doLoad h i rd rs1 off n sx fp again) := by
  unfold State.doLoad
  dsimp only
  split
  · exact hs.trapOn
  · exact hs.askLines
  · exact .ite hs.ioAccess (.ite hs.askLines (.ite hs.trapOn (.ite hs.trapOn hs.retireLoad)))

theorem doStore {h i va n v} (hs : Follows s₀ s) : Follows s₀ (s.doStore h i va n v) := by
  unfold State.doStore
  split
  · exact hs.trapOn
  · exact hs.askLines
  · refine .ite hs.ioAccess (.ite hs.trapOn ?_)
    split
    · exact hs
    · exact (hs.bringAll.of_given ‹_›).askLines
    · extract_lets _ s2 s3 s4 _ _ _ s5
      have hs2 : Follows s₀ s2 := .ite (hs.bringAll.of_given ‹_›).closeEpoch (hs.bringAll.of_given ‹_›)
      have hs3 : Follows s₀ s3 := hs2.openEpoch
      have hs4 : Follows s₀ s4 := Follows.foldl_fst (Follows.fst hs3) (fun _ _ h1 => .fst h1.bufferStore)
      have hs5 : Follows s₀ s5 := .ite hs4.setCore.hpm.toMclk hs4
      exact .ite hs2.hpm hs5.hpm.retire

theorem withLine {h l own nc va i f} (hs : Follows s₀ s) (hf : ∀ s, Follows s₀ s → Follows s₀ (f s)) : Follows s₀ (s.withLine h l own nc va i f) := by
  unfold State.withLine
  refine .ite hs.trapOn (.ite ?_ ?_)
  · split
    · refine .ite hs.trapOn (.ite (hf _ hs) ?_)
      split
      · exact hf _ ((hs.installShadow.bring).of_ready ‹_›)
      · exact hs.setHart
    · exact hs.missLines.setHart
  · split
    · exact hs.setHart
    · exact hs.missLines.setHart
    · exact .ite (hs.bring.of_ready ‹_›).trapOn (hf _ (hs.bring.of_ready ‹_›))

theorem doReserved {h i va n write own f} (hs : Follows s₀ s) (hf : ∀ s x2, Follows s₀ s → Follows s₀ (f s x2)) :
    Follows s₀ (s.doReserved h i va n write own f) := by
  unfold State.doReserved
  refine .ite hs.trapOn ?_
  split
  · exact hs.trapOn
  · exact hs.askLines
  · exact .ite hs.refusePage.trapOn (hs.atHead (fun _ h1 => h1.withLine (fun _ h2 => (hf _ _ h2.openEpoch.bufferStore).hpm.retire.closeEpoch)))

theorem doAmo {h i rd rs1 rs2 op size} (hs : Follows s₀ s) : Follows s₀ (s.doAmo h i rd rs1 rs2 op size) :=
  .ite hs.trapOn (hs.doReserved (fun _ _ h1 => h1.bufferStore.withArch))

theorem doLr {h i rd rs1 size} (hs : Follows s₀ s) : Follows s₀ (s.doLr h i rd rs1 size) :=
  .ite hs.trapOn (hs.doReserved (fun _ _ h1 => h1.withArch.setHart))

theorem doSc {h i rd rs1 rs2 size} (hs : Follows s₀ s) : Follows s₀ (s.doSc h i rd rs1 rs2 size) :=
  .ite hs.trapOn (hs.doReserved (fun _ _ h1 => (Follows.ite h1.bufferStore h1).withArch.setHart))

theorem doCbo {h i rs1 kind} (hs : Follows s₀ s) : Follows s₀ (s.doCbo h i rs1 kind) := by
  unfold State.doCbo
  dsimp only
  split
  · exact hs.trapOn
  · exact hs.trapOn
  · split
    · exact hs.askLines
    · exact hs.trapOn
    · exact .ite hs.refusePage.trapOn (.ite hs.trapOn hs.openEpoch.setHart.retire)

theorem doCboZero {h i rs1 again} (hs : Follows s₀ s) : Follows s₀ (s.doCboZero h i rs1 again) := by
  unfold State.doCboZero
  dsimp only
  split
  · exact hs.trapOn
  · exact hs.trapOn
  · split
    · exact hs.askLines
    · exact hs.trapOn
    · refine .ite hs.refusePage.trapOn (.ite hs.askLines ?_)
      split
      · exact hs
      · exact hs.askLines
      · exact .ite (.ite (hs.bring.of_ready ‹_›).closeEpoch (hs.bring.of_ready ‹_›))
          (Follows.ite (hs.bring.of_ready ‹_›).closeEpoch (hs.bring.of_ready ‹_›)).openEpoch.bufferStore.hpm.retire

theorem doPrefetch {h i rs1 off kind} (hs : Follows s₀ s) : Follows s₀ (s.doPrefetch h i rs1 off kind) := by
  unfold State.doPrefetch
  dsimp only
  split
  · exact .ite hs.missLines hs.retire
  · exact .ite hs.retire hs.dropForeign.askHome.retire
  · exact hs.retire

theorem doTaskSubmit {h i insn rd rs1} (hs : Follows s₀ s) : Follows s₀ (s.doTaskSubmit h i insn rd rs1) := by
  unfold State.doTaskSubmit
  refine .ite hs.trapOn (.ite hs.trapOn ?_)
  split
  · exact hs.trapOn
  · exact hs.askLines
  · exact .ite hs.refusePage.trapOn (hs.atHead (fun _ h1 => h1.withLine (fun _ h2 =>
      h2.laneOwner.submit.openEpoch.withArch.toMclk.retire.closeEpoch)))

theorem pbFlush {h} (hs : Follows s₀ s) : Follows s₀ (s.pbFlush h) := hs.setHart.toMclk

theorem pbBar {h} (hs : Follows s₀ s) : Follows s₀ (s.pbBar h) := .ite hs.setHart.pbFlush hs.setHart.toMclk

theorem doVendor {h i w} (hs : Follows s₀ s) : Follows s₀ (s.doVendor h i w) := by
  unfold State.doVendor
  split
  · exact hs.pbFlush.retire
  · exact hs.pbBar.retire
  · exact hs.doTaskSubmit
  · exact hs.trapOn

theorem performHart {i again} (hs : Follows s₀ s) : Follows s₀ (s.performHart i again) := by
  unfold State.performHart
  split
  · exact hs.doLoad
  · exact hs.doStore
  · exact hs.doAmo
  · exact hs.doLr
  · exact hs.doSc
  · exact hs.doCboZero
  · exact hs.doVendor
  · exact hs.doVendor
  · exact hs.doVendor
  · exact hs.doPrefetch
  · exact hs.doPrefetch
  · exact hs.doPrefetch
  · exact hs.doCbo
  · exact hs.doCbo
  · exact hs.doCbo
  · refine .ite ?_ ?_
    · split
      · exact .ite hs.ioAccess hs
      · exact hs.askLines
      · exact hs.trapOn
    · split
      · exact .ite hs.doLoad hs
      · exact hs.askLines
      · exact hs.trapOn
  · exact hs

theorem issueAlone {h f} (hs : Follows s₀ s) (hf : ∀ s, Follows s₀ s → Follows s₀ (f s)) : Follows s₀ (s.issueAlone h f) := by
  unfold State.issueAlone
  split
  · exact hs
  · exact .ite (hs.hartIssue.of_some ‹_›) (hf _ (hs.hartIssue.of_some ‹_›).setHart)

theorem issueMem {h f} (hs : Follows s₀ s) (hf : ∀ s, Follows s₀ s → Follows s₀ (f s)) : Follows s₀ (s.issueMem h f) :=
  hs.issueAlone (fun _ h1 => .ite h1 (hf _ h1))

theorem execLoad {h rd rs1 off size sx fp} (hs : Follows s₀ s) : OutFollows s₀ (execLoad h rd rs1 off size sx fp s) := by
  unfold Machine.execLoad
  refine .next ?_
  split
  · exact hs
  · refine .ite (hs.hartIssue.of_some ‹_›) (.ite (hs.hartIssue.of_some ‹_›).trapOn (.ite (hs.hartIssue.of_some ‹_›).setHart.performHart ?_))
    dsimp only
    split
    · exact .ite (hs.hartIssue.of_some ‹_›).missLines (hs.hartIssue.of_some ‹_›)
    · exact hs.hartIssue.of_some ‹_›

theorem execStore {h rs2 rs1 off size fp} (hs : Follows s₀ s) : OutFollows s₀ (execStore h rs2 rs1 off size fp s) :=
  .next (hs.issueMem (fun _ h1 => .ite h1.trapOn h1.performHart))

theorem execAmo {h rd rs1 rs2 op size aqrl} (hs : Follows s₀ s) : OutFollows s₀ (execAmo h rd rs1 rs2 op size aqrl s) :=
  .next (hs.issueMem (fun _ h1 => h1.performHart))

theorem execLr {h rd rs1 size aqrl} (hs : Follows s₀ s) : OutFollows s₀ (execLr h rd rs1 size aqrl s) :=
  .next (hs.issueMem (fun _ h1 => h1.performHart))

theorem execSc {h rd rs1 rs2 size aqrl} (hs : Follows s₀ s) : OutFollows s₀ (execSc h rd rs1 rs2 size aqrl s) :=
  .next (hs.issueMem (fun _ h1 => h1.performHart))

theorem execIoRegionAccess {h rd rs1 off size sx write} (hs : Follows s₀ s) : OutFollows s₀ (execIoRegionAccess h rd rs1 off size sx write s) :=
  .next (hs.issueMem (fun _ h1 => h1.performHart))

theorem execTaskSubmit {h insn} (hs : Follows s₀ s) : OutFollows s₀ (execTaskSubmit h insn s) := .next (hs.issueMem (fun _ h1 => h1.performHart))

theorem drainMisses {h x3} (hs : Follows s₀ s) : Follows s₀ (s.drainMisses h x3) := by
  induction x3 generalizing s with
  | zero =>
    exact hs
  | succ n ih =>
    rw [State.drainMisses]
    split
    · exact hs
    · exact .ite hs.trapOn (.ite hs (ih hs.setHart.performHart))

theorem grantL2 {c l w} (hs : Follows s₀ s) : Follows s₀ (s.grantL2 c l w) := by
  unfold State.grantL2
  dsimp only
  split
  · exact .ite hs.setCluster hs.evictL2.installL2
  · exact hs.installL2

theorem execFillArrival {f} (hs : Follows s₀ s) : OutFollows s₀ (Machine.execFillArrival f s) := by
  unfold Machine.execFillArrival
  extract_lets s1 c l w
  have h1 : Follows s₀ s1 := hs.taken
  refine .next (.ite h1 (.ite (.ite (.ite h1.grantL2 h1) (.ite h1.setHart.drainMisses (.ite ?_ h1))) (.ite (.ite h1.grantL2 h1)
    (.ite h1.setHart (.ite h1.setCluster h1)))))
  exact (Follows.ite h1.setHart.grantL2 h1.setHart).toMclk.drainMisses

theorem execIoResponse {h f} (hs : Follows s₀ s) : OutFollows s₀ (execIoResponse h f s) := by
  unfold Machine.execIoResponse
  refine .next ?_
  split
  · split
    · exact hs.taken
    · exact hs
  · split
    · refine .ite (.ite hs.taken.setHart.toMclk.trapOn (Follows.closeEpoch (Follows.retire ?_))) hs.taken
      split
      · exact hs.taken.setHart.toMclk.openEpoch.withArch
      · exact .ite hs.taken.setHart.toMclk.openEpoch hs.taken.setHart.toMclk.openEpoch.withArch
      · exact hs.taken.setHart.toMclk.openEpoch
    · split
      · exact hs
      · refine .ite hs.update.toMclk.setHart.toMclk.trapOn (Follows.closeEpoch (Follows.retire ?_))
        split
        · exact hs.update.toMclk.setHart.toMclk.openEpoch.withArch
        · exact .ite hs.update.toMclk.setHart.toMclk.openEpoch hs.update.toMclk.setHart.toMclk.openEpoch.withArch
        · exact hs.update.toMclk.setHart.toMclk.openEpoch

theorem execFence {h pred succ tso} (hs : Follows s₀ s) : OutFollows s₀ (execFence h pred succ tso s) :=
  .next (hs.issueAlone (fun _ h1 => h1.retire.closeEpoch.setHart))

theorem execFenceI {h} (hs : Follows s₀ s) : OutFollows s₀ (execFenceI h s) := .next (hs.issueAlone (fun _ h1 => h1.retire.closeEpoch.hpm.toMclk))

theorem execPbFlush {h insn} (hs : Follows s₀ s) : OutFollows s₀ (execPbFlush h insn s) := .next (hs.issueAlone (fun _ h1 => h1.performHart))

theorem execPbBar {h insn} (hs : Follows s₀ s) : OutFollows s₀ (execPbBar h insn s) := .next (hs.issueAlone (fun _ h1 => h1.performHart))

theorem checkShare {h before} (hs : Follows s₀ s) : Follows s₀ (s.checkShare h before) := .ite hs.record hs

theorem doCsrWrite {h i n value insn after} (hs : Follows s₀ s) (hafter : ∀ s, Follows s₀ s → Follows s₀ (after s)) :
    Follows s₀ (s.doCsrWrite h i n value insn after) := by
  unfold State.doCsrWrite
  split
  · exact hs.trapOn
  · exact .ite (hafter _ hs.openEpoch.writeCsr).retire.closeEpoch (hafter _ hs.openEpoch.writeCsr).retire

theorem execXnrtenantWrite {h value insn} (hs : Follows s₀ s) : OutFollows s₀ (execXnrtenantWrite h value insn s) :=
  .next (hs.issueAlone (fun _ h1 => .ite h1.trapOn (h1.doCsrWrite (fun _ h2 => (Follows.ite h2.pbFlush h2).checkShare))))

theorem execXnrctlWrite {h value insn} (hs : Follows s₀ s) : OutFollows s₀ (execXnrctlWrite h value insn s) :=
  .next (hs.issueAlone (fun _ h1 => h1.doCsrWrite (fun _ h2 => h2)))

theorem execTrapEntry {h exc tval} (hs : Follows s₀ s) : OutFollows s₀ (execTrapEntry h exc tval s) := by
  unfold Machine.execTrapEntry
  refine .next (.ite hs ?_)
  split
  · exact hs.takeTrap
  · split
    · exact hs
    · exact hs.takeTrap

theorem execEpochClose {h cause} (hs : Follows s₀ s) : OutFollows s₀ (execEpochClose h cause s) := by
  unfold Machine.execEpochClose
  refine .next ?_
  split
  · exact hs
  · exact (Follows.ite hs.toMclk hs).closeEpoch

theorem execEpochCheckClear {h check} (hs : Follows s₀ s) : OutFollows s₀ (execEpochCheckClear h check s) := by
  unfold Machine.execEpochCheckClear
  refine .next (.ite hs ?_)
  dsimp only
  split
  · exact .ite hs.commitOldest.setHart.performHart hs.commitOldest
  · exact hs.commitOldest

theorem execLrSnoopDeferEnd {h} (hs : Follows s₀ s) : OutFollows s₀ (execLrSnoopDeferEnd h s) := by
  unfold Machine.execLrSnoopDeferEnd
  refine .next ?_
  split
  · exact hs.retrySnoops
  · exact hs.toMclk.retrySnoops

theorem execWfi {h} (hs : Follows s₀ s) : OutFollows s₀ (execWfi h s) :=
  .next (hs.issueAlone (fun _ h1 => .ite h1.trapOn (.ite h1.trapOn (.ite h1.trapOn (.ite h1.retire h1.retire.setHart)))))

theorem execPause {h} (hs : Follows s₀ s) : OutFollows s₀ (execPause h s) := .next (hs.issueAlone (fun _ h1 => h1.retire.setHart))

theorem execWrsSto {h} (hs : Follows s₀ s) : OutFollows s₀ (execWrsSto h s) := .next (hs.issueAlone (fun _ h1 => .ite h1.retire h1.retire.setHart))

theorem execCboClean {h rs1} (hs : Follows s₀ s) : OutFollows s₀ (execCboClean h rs1 s) := .next (hs.issueMem (fun _ h1 => h1.performHart))

theorem execCboFlush {h rs1} (hs : Follows s₀ s) : OutFollows s₀ (execCboFlush h rs1 s) := .next (hs.issueMem (fun _ h1 => h1.performHart))

theorem execCboInval {h rs1} (hs : Follows s₀ s) : OutFollows s₀ (execCboInval h rs1 s) := .next (hs.issueMem (fun _ h1 => h1.performHart))

theorem execCboZero {h rs1} (hs : Follows s₀ s) : OutFollows s₀ (execCboZero h rs1 s) := .next (hs.issueMem (fun _ h1 => h1.performHart))

theorem execPrefetchR {h rs1 off} (hs : Follows s₀ s) : OutFollows s₀ (execPrefetchR h rs1 off s) :=
  .next (hs.issueAlone (fun _ h1 => h1.performHart))

theorem execPrefetchI {h rs1 off} (hs : Follows s₀ s) : OutFollows s₀ (execPrefetchI h rs1 off s) :=
  .next (hs.issueAlone (fun _ h1 => h1.performHart))

theorem execPrefetchW {h rs1 off} (hs : Follows s₀ s) : OutFollows s₀ (execPrefetchW h rs1 off s) :=
  .next (hs.issueAlone (fun _ h1 => h1.performHart))

theorem execMtimecmpReached {h} (hs : Follows s₀ s) : OutFollows s₀ (execMtimecmpReached h s) := .next hs.toAclk

theorem execSnpinv {f} (hs : Follows s₀ s) : OutFollows s₀ (execSnpinv f s) := .next (.ite hs.taken hs.taken.clusterSnoop)

theorem execSnpshare {f} (hs : Follows s₀ s) : OutFollows s₀ (execSnpshare f s) := .next (.ite hs.taken hs.taken.clusterSnoop)

theorem execSnpclean {f} (hs : Follows s₀ s) : OutFollows s₀ (execSnpclean f s) := .next (.ite hs.taken hs.taken.clusterSnoop)

-- the interrupt router

theorem setPend {src b} (hs : Follows s₀ s) : Follows s₀ (s.setPend src b) := hs.setReg

theorem setOvr {src} (hs : Follows s₀ s) : Follows s₀ (s.setOvr src) := hs.setReg

theorem irtEvent {src} (hs : Follows s₀ s) : Follows s₀ (s.irtEvent src) := by
  unfold State.irtEvent
  split
  · exact hs
  · exact .ite hs (.ite hs.setOvr hs.setPend)

theorem pkgWake (hs : Follows s₀ s) : Follows s₀ s.pkgWake := .ite hs.update (.ite hs hs.update)

theorem wiredEvent {src} (hs : Follows s₀ s) : Follows s₀ (s.wiredEvent src) := by
  unfold State.wiredEvent
  refine .ite hs ?_
  split
  · exact hs.update.toMclk.irtEvent
  · exact .ite hs.irtEvent hs

theorem edgeCapture {src} (hs : Follows s₀ s) : Follows s₀ (s.edgeCapture src) := by
  unfold State.edgeCapture
  refine .ite ?_ hs
  split
  · exact hs.update.pkgWake
  · exact .ite hs.update.pkgWake hs

theorem edgePresent {src} (hs : Follows s₀ s) : Follows s₀ (s.edgePresent src) := by
  unfold State.edgePresent
  split
  · exact .ite hs hs.update.toMclk.irtEvent
  · exact hs

theorem irqFlit {tgt t' cls} (hs : Follows s₀ s) : Follows s₀ (s.irqFlit tgt t' cls) := .ite hs.update hs.update.sendAt

theorem hold {tgt x} (hs : Follows s₀ s) : Follows s₀ (s.hold tgt x) := hs.update

theorem unhold {tgt} (hs : Follows s₀ s) : Follows s₀ (s.unhold tgt) := hs.update

theorem irtLane {k} (hs : Follows s₀ s) : Follows s₀ (s.irtLane k).2 := .snd hs.update

theorem decideItem {src} (hs : Follows s₀ s) : Follows s₀ (s.decideItem src) := by
  unfold State.decideItem
  split
  · exact hs
  · refine .ite hs (.ite (.ite ?_ hs.irtLane) (.ite (Follows.ite hs.irtLane.setFld hs.irtLane).hold.irqFlit ?_))
    · split
      · exact hs.irtLane.update
      · exact hs.irtLane
    · dsimp only
      split
      · exact .ite hs.irtLane.hold.irqFlit hs.irtLane
      · exact hs.irtLane

theorem applyClaim {t' x} (hs : Follows s₀ s) : Follows s₀ (s.applyClaim t' x) := hs.setPend.unhold.update.irqFlit

theorem tgtClaim {t'} (hs : Follows s₀ s) : Follows s₀ (s.tgtClaim t').2 := by
  unfold State.tgtClaim
  split
  · exact .snd hs
  · exact .snd (.ite hs hs.applyClaim)

theorem applyEoi {t' src} (hs : Follows s₀ s) : Follows s₀ (s.applyEoi t' src) := by
  unfold State.applyEoi
  split
  · exact .ite hs.update hs.setFld
  · exact hs.setFld

theorem engineNoticeArrives {f} (hs : Follows s₀ s) : Follows s₀ (s.engineNoticeArrives f) := by
  unfold State.engineNoticeArrives
  refine .ite ?_ (.ite hs.taken.applyEoi hs.taken)
  split
  · exact .ite hs.taken (.ite hs.taken.applyClaim hs.taken.unhold.irqFlit)
  · exact hs.taken

theorem withdrawItem {src} (hs : Follows s₀ s) : Follows s₀ (s.withdrawItem src) := by
  unfold State.withdrawItem
  split
  · split
    · exact hs.unhold.irqFlit
    · exact hs
  · split
    · exact hs
    · split
      · exact .ite hs.unhold.irqFlit hs
      · exact hs

theorem irqEjected {t'} (hs : Follows s₀ s) : Follows s₀ (s.irqEjected t') := by
  unfold State.irqEjected
  dsimp only
  split
  · exact hs.update.irqFlit
  · exact hs.update

theorem irqArrives {f} (hs : Follows s₀ s) : Follows s₀ (s.irqArrives f) :=
  .ite hs.taken.irqEjected.setHart.toMclk (.ite hs.taken.irqEjected.setEngine.toMclk hs.taken.irqEjected)

theorem irqDoorbell {f} (hs : Follows s₀ s) : Follows s₀ (s.irqDoorbell f) := by
  unfold State.irqDoorbell
  extract_lets s0 a d off hart ward secureReq shape owner allowed ready s1 who s2
  have h0 : Follows s₀ s0 := hs.taken
  have h1 : Follows s₀ s1 := .ite h0 h0.bump
  have h2 : Follows s₀ s2 := .ite h1.record h1
  exact .ite h0.send (.ite h0.irtEvent.send h2.send)

theorem clearDomain {d} (hs : Follows s₀ s) : Follows s₀ (s.clearDomain d) := (hs.foldl (fun _ _ h1 => .ite h1.setPend h1)).update

theorem srcWrite {who a v src} (hs : Follows s₀ s) : RegEffect.Follows s₀ (s.srcWrite who a v src) := .mk (.ite (.no hs) (.ok hs.setReg))

theorem domCtlWrite {who a v d} (hs : Follows s₀ s) : RegEffect.Follows s₀ (s.domCtlWrite who a v d) :=
  .mk (.ite (.no hs) (.ok (.ite hs.setReg.clearDomain hs.setReg)))

theorem domRangeWrite {who a v d} (hs : Follows s₀ s) : RegEffect.Follows s₀ (s.domRangeWrite who a v d) := .mk (.ite (.no hs) (.ok hs.setReg))

theorem tsCtlWrite {who a v n} (hs : Follows s₀ s) : RegEffect.Follows s₀ (s.tsCtlWrite who a v n) := .mk (.ite (.no hs) (.ok hs.setReg))

theorem irtPageWrite {i off who v} (hs : Follows s₀ s) : OptEffectFollows s₀ (s.irtPageWrite i off who v) := by
  unfold State.irtPageWrite
  extract_lets a d n m n' j src
  clear_value j src
  exact .ite (.ite (.given (.ite hs.domCtlWrite hs.domRangeWrite)) trivial)
    (.ite (.ite (.given (.mk (.ok hs.setReg))) trivial)
      (.ite (.ite (.ite (.given hs.tsCtlWrite) (.ite (.given (.mk (.ok hs.setReg))) trivial)) trivial)
        (.ite (.ite (.given hs.srcWrite) trivial) trivial)))

theorem tgtPageWrite {t' off who v} (hs : Follows s₀ s) : OptEffectFollows s₀ (s.tgtPageWrite t' off who v) :=
  .ite (.given (.mk (.ite (.no hs) (.ok hs.setReg)))) (.ite (.given (.mk (.ok (.ite hs.setFld hs))))
    (.ite (.given (.mk (.ok hs))) (.ite (.given (.mk (.ok hs.applyEoi))) trivial)))

-- the memory controllers' commands

theorem onMc {f g} (hs : Follows s₀ s) (hg : ∀ s x2, Follows s₀ s → Follows s₀ (g s x2)) : Follows s₀ (s.onMc f g) := by
  unfold State.onMc
  split
  · exact hg _ _ hs
  · exact hs.taken

theorem mcReadData {m tag} (hs : Follows s₀ s) : Follows s₀ (s.mcReadData m tag) := by
  unfold State.mcReadData
  dsimp only
  split
  · exact hs.setMc.toDclk.mcDeliver
  · exact hs

theorem alertN {m} (hs : Follows s₀ s) : Follows s₀ (s.alertN m) := .ite hs hs.freezeMc

theorem freezeCtl {m v} (hs : Follows s₀ s) : Wr.Follows s₀ (s.freezeCtl m v) := .ite (.ok hs) (.ite (.no hs) (.ok hs.releaseMc))

theorem freezeTimeout {m} (hs : Follows s₀ s) : Follows s₀ (s.freezeTimeout m) := by
  unfold State.freezeTimeout
  split
  · exact hs.toAclk.record.releaseMc
  · exact hs

theorem frameStart {m} (hs : Follows s₀ s) : Follows s₀ (s.frameStart m) := by
  unfold State.frameStart
  split
  · exact .ite hs hs.toDclk.setMc
  · exact hs

theorem mcFrame0 {m} (hs : Follows s₀ s) : Follows s₀ (s.mcFrame0 m) := by
  unfold State.mcFrame0
  split
  · exact (hs.toAclk.setFld.foldl (fun _ _ h1 => h1.setFld)).setMc
  · exact hs

theorem mcStart {m v} (hs : Follows s₀ s) : Wr.Follows s₀ (s.mcStart m v) :=
  .ite (.ok hs) (.ite (.no hs.setFld) (.ok hs.setFld.setFld.setFld.exitSr.setMc.startZq))

theorem applyPhy {m sub} (hs : Follows s₀ s) : Follows s₀ (s.applyPhy m sub) := (hs.foldl (fun _ _ h1 => h1.setReg)).setMc.setFld.setFld.pulse

theorem phyPageWrite {m sub off v} (hs : Follows s₀ s) : OptEffectFollows s₀ (s.phyPageWrite m sub off v) := by
  unfold State.phyPageWrite
  refine .ite (.given (.mk (.ite (.ok hs.setFld.setMc) (.ok hs)))) ?_
  split
  · exact .ite (.given (.mk (.ok hs.setMc.setFld))) (.given (.mk (.ok hs.setReg)))
  · exact trivial

theorem issueMpc {m d} (hs : Follows s₀ s) : Follows s₀ (s.issueMpc m d) := by
  unfold State.issueMpc
  dsimp only
  split
  · exact hs.journalCmd.setReg.setMc.setMc
  · refine hs.journalCmd.setReg.setMc.foldl (fun _ _ h1 => Follows.setReg ?_)
    split
    · exact .snd h1
    · exact .snd h1.draw
  · exact hs.journalCmd.setReg.setMc

theorem mpcWrite {m v} (hs : Follows s₀ s) : Wr.Follows s₀ (s.mpcWrite m v) :=
  .ite (.no hs) (.ite (.ok hs.setReg) (.ite (.ok hs.setReg.setFld.setMc) (.ok hs.setReg.issueMpc)))

theorem patternBurst {m sub burst} (hs : Follows s₀ s) : Follows s₀ (s.patternBurst m sub burst) :=
  .ite hs.setMemLine.setLineAttr hs.draw.draw.setMemLine.setLineAttr

theorem patWrite {m v} (hs : Follows s₀ s) : Wr.Follows s₀ (s.patWrite m v) :=
  .ite (.no hs) (.ite (.ok hs.setReg) (.ite (.ok hs.setReg.setFld.setReg) (.ok (hs.setReg.setFld.setReg.foldl (fun _ _ h1 => h1.patternBurst)))))

theorem patDone {m lanes} (hs : Follows s₀ s) : Follows s₀ (s.patDone m lanes) := .ite hs.setFld.setFld.setFld.setFld hs

theorem refresh {m d} (hs : Follows s₀ s) : Follows s₀ (s.refresh m d) :=
  hs.foldl (fun _ _ h1 => (h1.foldl (fun _ _ h2 => h2.foldl (fun _ _ h3 => h3.journalCmd.count))).setMc)

theorem scrubCmd {m t' kind p} (hs : Follows s₀ s) : Follows s₀ (s.scrubCmd m t' kind p) := hs.journalCmd.journalCmd.journalCmd

theorem scrub {m t'} (hs : Follows s₀ s) : Follows s₀ (s.scrub m t') := by
  unfold State.scrub
  refine .ite hs ?_
  extract_lets s1
  have h1 : Follows s₀ s1 := hs.foldl (fun _ _ h => .ite h.scrubCmd.scrubCmd.setLineAttr.record.pulse
    (.ite h.scrubCmd h.scrubCmd.setMc.record.autoMark))
  exact .ite h1.setFld.bump.pulse.setMc h1.setFld

theorem scrubRewrite {m t' l} (hs : Follows s₀ s) : Follows s₀ (s.scrubRewrite m t' l) := hs.scrubCmd.setLineAttr

theorem scrubWindow {m t'} (hs : Follows s₀ s) : Follows s₀ (s.scrubWindow m t') := by
  unfold State.scrubWindow
  dsimp only
  split
  · exact hs.setMc.scrub
  · exact hs.setMc.foldl (fun _ _ h1 => h1.scrubRewrite)

theorem maintWindow {m hot} (hs : Follows s₀ s) : Follows s₀ (s.maintWindow m hot) := by
  unfold State.maintWindow
  split
  · exact hs
  · extract_lets _ _ s1 s2 _ s3 _ s4 s5 s6 s7
    have hs1 : Follows s₀ s1 := hs.toDclk.guardClose.foldl (fun _ _ h1 => h1.applyPhy)
    have hs2 : Follows s₀ s2 := hs1.refresh.toDclk
    have hs3 : Follows s₀ s3 := hs2.foldl (fun _ _ h1 => h1.journalCmd)
    have hs4 : Follows s₀ s4 := hs3.setMc
    have hs5 : Follows s₀ s5 := .ite hs4.record.pulse hs4
    have hs6 : Follows s₀ s6 := .ite hs5.issueMpc hs5
    have hs7 : Follows s₀ s7 := .ite hs6.startZq hs6
    exact .ite hs hs7.scrubWindow

theorem selfRefreshEntry {m} (hs : Follows s₀ s) : Follows s₀ (s.selfRefreshEntry m) := by
  unfold State.selfRefreshEntry
  dsimp only
  split
  · exact hs
  · exact .ite hs hs.toDclk.guardClose.enterSrAt

theorem journalRelease {m} (hs : Follows s₀ s) : Follows s₀ (s.journalRelease m) := by
  unfold State.journalRelease
  refine .ite hs ?_
  split
  · exact hs
  · exact hs.setMc.toDclk.mcResume

theorem resyncDone {m} (hs : Follows s₀ s) : Follows s₀ (s.resyncDone m) :=
  .ite (hs.foldl (fun _ _ h1 => h1.setMemLine.setLineAttr)).setMc.setFld.setFld.setFld.setFld hs

theorem eccWrite {m v} (hs : Follows s₀ s) : Wr.Follows s₀ (s.eccWrite m v) :=
  .ite (.no hs) (.ok (Follows.ite hs.setReg.raiseHealth hs.setReg).eccRecheck)

theorem injectWrite {m v} (hs : Follows s₀ s) : Follows s₀ (s.injectWrite m v) := by
  unfold State.injectWrite
  refine .ite hs ?_
  split
  · exact hs.setMc
  · exact hs.setMc
  · exact hs.setMc
  · exact hs.setMc
  · exact hs

theorem mc0PageWrite {m off who v} (hs : Follows s₀ s) : OptEffectFollows s₀ (s.mc0PageWrite m off who v) := by
  unfold State.mc0PageWrite
  extract_lets pg plain
  have hp : Follows s₀ plain := by
    unfold plain
    split
    · exact hs.setReg
    · exact hs
  refine .ite (.given (.mk (.ok hp))) (.ite (.given (.mk (.ite (.no hs) (.ok hp)))) (.ite (.given (.mk (.ite (.no hs) (.ok hp)))) ?_))
  exact .ite (.given (.mk (.ok hp))) (.ite (.given (.mk (.ok (.ite hp.setFld hp)))) (.ite (.given (.mk hs.eccWrite))
    (.ite (.given (.mk (.ok (.ite hs hp)))) (.ite (.given (.mk hs.freezeCtl)) (.ite (.given (.mk (.ok hs.injectWrite))) trivial)))))

theorem mc2PageWrite {m off who v} (hs : Follows s₀ s) : OptEffectFollows s₀ (s.mc2PageWrite m off who v) := by
  unfold State.mc2PageWrite
  dsimp only
  split
  · exact trivial
  · exact .ite (.given (.mk hs.mpcWrite)) (.ite (.given (.mk (.no hs))) (.ite (.given (.mk hs.mcStart))
      (.ite (.given (.mk (.no hs))) (.ite (.given (.mk hs.patWrite)) (.given (.mk (.ok hs.setReg)))))))

theorem execMcRead {f} (hs : Follows s₀ s) : OutFollows s₀ (execMcRead f s) := .next (hs.onMc (fun _ _ h1 => h1.mcRead))

theorem execMcWrite {f} (hs : Follows s₀ s) : OutFollows s₀ (execMcWrite f s) := .next (hs.onMc (fun _ _ h1 => h1.mcWrite))

theorem execMcCommandIssue {m sub win} (hs : Follows s₀ s) : OutFollows s₀ (execMcCommandIssue m sub win s) := .next hs.mcIssue

theorem execMcReadData {m tag} (hs : Follows s₀ s) : OutFollows s₀ (execMcReadData m tag s) := .next hs.mcReadData

theorem execAlertN {m sub} (hs : Follows s₀ s) : OutFollows s₀ (execAlertN m sub s) := .next hs.alertN

theorem execFreezeSelfRefresh {m} (hs : Follows s₀ s) : OutFollows s₀ (execFreezeSelfRefresh m s) := .next hs.freezeSr

theorem execFreezeTimeout {m} (hs : Follows s₀ s) : OutFollows s₀ (execFreezeTimeout m s) := .next hs.freezeTimeout

theorem execMcFrameStart {m} (hs : Follows s₀ s) : OutFollows s₀ (execMcFrameStart m s) := .next hs.frameStart

theorem execMaintWindow {m hot} (hs : Follows s₀ s) : OutFollows s₀ (execMaintWindow m hot s) := .next hs.maintWindow

theorem execSelfRefreshEntry {m} (hs : Follows s₀ s) : OutFollows s₀ (execSelfRefreshEntry m s) := .next hs.selfRefreshEntry

theorem execMcFrame0 {m} (hs : Follows s₀ s) : OutFollows s₀ (execMcFrame0 m s) := .next hs.mcFrame0

theorem execMcPatDone {m lanes} (hs : Follows s₀ s) : OutFollows s₀ (execMcPatDone m lanes s) := .next hs.patDone

theorem execMirrorResyncDone {m} (hs : Follows s₀ s) : OutFollows s₀ (execMirrorResyncDone m s) := .next hs.resyncDone

theorem execWriteJournalRelease {m} (hs : Follows s₀ s) : OutFollows s₀ (execWriteJournalRelease m s) := .next hs.journalRelease

-- recovery

theorem logStat (hs : Follows s₀ s) : Follows s₀ s.logStat := hs.setFld.setFld

theorem logRecord (hs : Follows s₀ s) : Follows s₀ s.logRecord := by
  unfold State.logRecord
  split
  · exact hs
  · extract_lets _ _ s1 s2 s3 s4 s5 s6
    have hs1 : Follows s₀ s1 := hs.update
    have hs2 : Follows s₀ s2 := hs1.setFld
    have hs3 : Follows s₀ s3 := .ite hs2.bump hs2
    have hs4 : Follows s₀ s4 := .ite hs3.putRec hs3
    have hs5 : Follows s₀ s5 := hs4.logStat.pulse
    have hs6 : Follows s₀ s6 := .ite hs5.pulse hs5
    exact .ite hs6.raiseHealth hs6

theorem coalesced {pg} (hs : Follows s₀ s) : Follows s₀ (s.coalesced pg) := .ite hs.toAclk.update hs

theorem pldmSend (hs : Follows s₀ s) : Follows s₀ s.pldmSend := .ite hs (.ite hs.toAclk.update hs.update)

theorem commitAll {h cause n} (hs : Follows s₀ s) : Follows s₀ (s.commitAll h cause n) :=
  hs.abandon.closeEpoch.setHart.foldl (fun _ _ h1 => h1.commitOldest)

theorem switchOut {k h} (hs : Follows s₀ s) : Follows s₀ (s.switchOut k h) := hs.commitAll.tick.writeNegative.setHart.setCore

theorem reprintEnd {h readable} (hs : Follows s₀ s) : Follows s₀ (s.reprintEnd h readable) := by
  unfold State.reprintEnd
  dsimp only
  split
  · exact hs
  · refine .ite (Follows.ite hs.toMclk.switchOut hs.toMclk).setHart.setCore.pulse (Follows.markParked (Follows.record (Follows.setHart ?_)))
    split
    · exact (Follows.ite hs.setFld hs.setFld).setFld
    · exact .ite hs.setFld hs.setFld

theorem moveHart {h} (hs : Follows s₀ s) : OptFollows s₀ (s.moveHart h) := by
  unfold State.moveHart
  split
  · exact trivial
  · refine .given (Follows.record (Follows.startReprint (Follows.setReg ?_)))
    split
    · exact hs
    · exact .ite hs.setCluster.setFld hs.setCluster.setFld.setReg

theorem migrate {h} (hs : Follows s₀ s) : Follows s₀ (s.migrate h) := .ite (OptFollows.getD hs.moveHart hs) hs

theorem retireCluster {c} (hs : Follows s₀ s) : Follows s₀ (s.retireCluster c).1 := by
  unfold State.retireCluster
  extract_lets l s1 s2 s3 parked x s4 s5 s6
  have h1 : Follows s₀ s1 := by
    apply foldl hs
    intro s x h
    exact h.commitAll.writeNegative.parkHart
  clear_value s1
  have h2 : Follows s₀ s2 := h1.foldl fun _ _ h => h.drainL1
  clear_value s2
  have hx : Follows s₀ x.1 := by
    refine foldl_fst (p := (s3, true)) h2.flushL2 fun p k h => ?_
    split
    · exact h.moveHart.of_some ‹_›
    · exact h
  clear_value x
  have h4 : Follows s₀ s4 := hx.foldl fun _ _ h => .ite h.setFld.setCore h.setFld.setCore.markRetired
  clear_value s4
  exact .fst h4.setFld.setCluster.record.markRetired

theorem retireCore {k} (hs : Follows s₀ s) : Follows s₀ (s.retireCore k) :=
  .ite hs.setFld.setCore.record.markRetired.retireCluster hs.setFld.setCore.record.markRetired

theorem hartSwitch {k} (hs : Follows s₀ s) : Follows s₀ (s.hartSwitch k) := by
  unfold State.hartSwitch
  split
  · exact hs
  · refine .ite hs ?_
    split
    · exact hs
    · refine Follows.setCore ?_
      split
      · exact hs.toMclk.switchOut.toMclk.runFrom.hpm
      · exact hs.toMclk.switchOut.toMclk

theorem clearCore {k} (hs : Follows s₀ s) : Follows s₀ (s.clearCore k) :=
  (hs.foldl (fun _ _ h1 => h1.commitAll.writeNegative)).drainL1.setFld.setFld.foldl (fun _ _ h1 => h1.reprint)

theorem rasDo {kind n} (hs : Follows s₀ s) : Follows s₀ (s.rasDo kind n).1 := by
  unfold State.rasDo
  split
  · exact .fst hs.clearCore.retireCore
  · exact .fst hs.retireCluster
  · exact .fst hs.startRetire.setFld
  · exact .fst hs.retireEngine
  · split
    · exact .fst (hs.moveHart.of_some ‹_›)
    · exact .fst hs

theorem rasReq {v} (hs : Follows s₀ s) : Wr.Follows s₀ (s.rasReq v) :=
  .ite (.no hs) (.ite (.ok hs.setFld.setFld.setFld) (.ok hs.setFld.setFld.rasDo.setFld))

theorem rasPageWrite {i off who v} (hs : Follows s₀ s) : OptEffectFollows s₀ (s.rasPageWrite i off who v) :=
  .ite (.ite (.given (.mk (.ok hs.setReg))) (.ite (.given (.mk (.ok (.ite hs hs.setFld.logStat))))
    (.ite (.given (.mk hs.rasReq)) (.ite (.given (.mk (.ok hs))) trivial)))) (.ite (.given (.mk (.ok hs))) trivial)

theorem putNegWord {c a w} (hs : Follows s₀ s) : Follows s₀ (s.putNegWord c a w) := hs.setCluster

theorem negAdvance {c} (hs : Follows s₀ s) : Follows s₀ (s.negAdvance c) := hs.setFld

theorem negRead {c} (hs : Follows s₀ s) : Follows s₀ (s.negRead c).2 := .snd hs.negAdvance

theorem negPageWrite {c off who v} (hs : Follows s₀ s) : OptEffectFollows s₀ (s.negPageWrite c off who v) :=
  .ite (.given (.mk (.ite (.no hs) (.ok hs.setFld)))) (.ite (.given (.mk (.ok hs.putNegWord.negAdvance))) trivial)

theorem l2Error {c e} (hs : Follows s₀ s) : Follows s₀ (s.l2Error c e) := by
  unfold State.l2Error
  dsimp only
  split
  · exact hs.record
  · split
    · exact hs.setCluster.record
    · exact hs
  · exact .ite hs.record hs.record.retireCluster

-- power states

theorem epochWait {h} (hs : Follows s₀ s) : Follows s₀ (s.epochWait h) := by
  unfold State.epochWait
  refine Follows.retrySnoops (Follows.foldl ?_ (fun _ _ h1 => h1.commitOldest))
  split
  · exact hs.toMclk.closeEpoch
  · exact hs

theorem endWfi {k} (hs : Follows s₀ s) : Follows s₀ (s.endWfi k) := hs.foldl (fun _ _ h1 => h1.setHart)

theorem startExit {k} (hs : Follows s₀ s) : Follows s₀ (s.startExit k) :=
  .ite hs (.ite hs.setCore.update (.ite hs.setCore.pkgWake (.ite (.ite hs.setCore hs.setCore.setCluster) hs.setCore.update)))

theorem entryPoint {k t' n} (hs : Follows s₀ s) : Follows s₀ (s.entryPoint k t' n) := .ite hs.setCore.endWfi hs.setCore

theorem entered {k t'} (hs : Follows s₀ s) : Follows s₀ (s.entered k t') := .ite hs.tickCore.setCore.startExit hs.tickCore.setCore

theorem coreEntry {k} (hs : Follows s₀ s) : Follows s₀ (s.coreEntry k) := by
  unfold State.coreEntry
  dsimp only
  split
  · exact .ite (.ite (hs.foldl (fun _ _ h1 => h1.epochWait)) (hs.foldl (fun _ _ h1 => h1.epochWait)).entryPoint) hs
  · exact hs.toMclk.entered
  · exact .ite hs.entryPoint hs
  · exact hs.toMclk.drainL1.entryPoint
  · exact hs.toMclk.entered
  · exact (hs.foldl (fun _ _ h1 => h1.writeNegative)).toMclk.entryPoint
  · exact hs.toMclk.drainL1.entryPoint
  · exact hs.toMclk.entered

theorem wakeEvent {k} (hs : Follows s₀ s) : Follows s₀ (s.wakeEvent k) := .ite hs.setCore (.ite hs.endWfi hs.startExit)

theorem dvfs {k} (hs : Follows s₀ s) : Follows s₀ (s.dvfs k) := .ite hs (.ite hs.toAclk.tickCore.setFld.setCore hs.toAclk.tickCore.setCore)

theorem dvfsDone {k} (hs : Follows s₀ s) : Follows s₀ (s.dvfsDone k) := by
  unfold State.dvfsDone
  split
  · exact hs
  · dsimp only
    split
    · refine Follows.setFld (Follows.setCore ?_)
      split
      · exact hs.toAclk.tickAt.tickAt
      · exact hs.toAclk
    · refine Follows.setCore ?_
      split
      · exact hs.toAclk.tickAt.tickAt
      · exact hs.toAclk

theorem coreAwake {k} (hs : Follows s₀ s) : Follows s₀ (s.coreAwake k) := hs.setCore.runCore.endWfi

theorem c1Exit {k} (hs : Follows s₀ s) : Follows s₀ (s.c1Exit k) := by
  unfold State.c1Exit
  dsimp only
  split
  · exact .ite hs.toMclk.coreAwake hs
  · exact hs

theorem c2Exit {k} (hs : Follows s₀ s) : Follows s₀ (s.c2Exit k) := by
  unfold State.c2Exit
  dsimp only
  split
  · exact .ite hs.toMclk.setFld.setCore.coreAwake hs
  · exact hs

theorem c3Exit {k} (hs : Follows s₀ s) : Follows s₀ (s.c3Exit k) := by
  unfold State.c3Exit
  dsimp only
  split
  · exact .ite (hs.toMclk.setFld.foldl (fun _ _ h1 => h1.setHart)).coreAwake hs
  · exact hs

theorem cleanL2 {c} (hs : Follows s₀ s) : Follows s₀ (s.cleanL2 c) := by
  unfold State.cleanL2
  refine hs.foldl (fun _ _ h1 => ?_)
  split
  · exact h1.sendWrline.setCluster
  · exact h1.sendWrline.setCluster
  · exact h1

theorem clusterEntry {c} (hs : Follows s₀ s) : Follows s₀ (s.clusterEntry c) := by
  unfold State.clusterEntry
  dsimp only
  split
  · exact .ite hs (Follows.ite hs.cleanL2.toMclk hs.flushL2.toMclk).setCluster
  · exact .ite (hs.setCluster.foldl (fun _ _ h1 => .ite h1.startExit h1)) (.ite hs hs.toMclk.setCluster)

theorem clusterExit {c st} (hs : Follows s₀ s) : Follows s₀ (s.clusterExit c st) := by
  unfold State.clusterExit
  dsimp only
  split
  · exact .ite (hs.toMclk.setCluster.foldl (fun _ _ h1 => .ite h1.startExit h1)) hs
  · exact hs

theorem pkgResult {r} (hs : Follows s₀ s) : Follows s₀ (s.pkgResult r) := .ite hs hs.setFld.pulse

theorem enterSr {m} (hs : Follows s₀ s) : Follows s₀ (s.enterSr m) := by
  unfold State.enterSr
  dsimp only
  split
  · exact hs
  · exact .ite hs hs.toDclk.guardClose.enterSrAt

theorem pkgPoint {n} (hs : Follows s₀ s) : Follows s₀ (s.pkgPoint n) :=
  .ite (hs.foldl (fun _ _ h1 => .ite h1.exitSr h1)).update.pkgResult hs.setFld.update

theorem pkgEntry {consent} (hs : Follows s₀ s) : Follows s₀ (s.pkgEntry consent) := by
  unfold State.pkgEntry
  refine .ite hs ?_
  split
  · exact .ite (.ite hs.pkgPoint hs.update.pkgResult) hs
  · split
    · exact hs.update
    · exact .ite hs.toMclk.pkgPoint hs
  · exact (hs.foldl (fun _ _ h1 => h1.enterSr)).pkgPoint
  · exact .ite hs.toMclk.setFld.setFld.update.pkgResult.pkgWake hs.toMclk.setFld.setFld.update.pkgResult

theorem lose {pg} (hs : Follows s₀ s) : Follows s₀ (s.lose pg) := hs.setFld.setFld

theorem pkgWakes (hs : Follows s₀ s) : Follows s₀ s.pkgWakes := by
  unfold State.pkgWakes
  split
  · exact .ite (((hs.toAclk.setFld.update.foldl (fun _ _ h1 => h1.exitSr)).foldl (fun _ _ h1 => h1.setFld.setFld.lose)).foldl
      (fun _ _ h1 => .ite h1.startExit h1)) hs
  · exact hs

theorem vinWarning (hs : Follows s₀ s) : Follows s₀ s.vinWarning := hs.setFld.setFld.bump.pulse.update

theorem stretchEnd {mv} (hs : Follows s₀ s) : Follows s₀ (s.stretchEnd mv) := by
  unfold State.stretchEnd
  split
  · exact hs
  · exact hs.toMclk.update.setFld.setFld.pulse.update.record

theorem aonWarning (hs : Follows s₀ s) : Follows s₀ s.aonWarning := hs.setFld.bump.pulse.update

theorem aonRecovery {mv} (hs : Follows s₀ s) : Follows s₀ (s.aonRecovery mv) := by
  unfold State.aonRecovery
  split
  · exact hs
  · exact hs.setFld.update.record

theorem capStatus (hs : Follows s₀ s) : Follows s₀ s.capStatus := hs.setFld.setFld

theorem capReview (hs : Follows s₀ s) : Follows s₀ s.capReview := by
  unfold State.capReview
  extract_lets s0 th die
  have hdie (s : State) (d : Nat) (h : Follows s₀ s) : Follows s₀ (die s d) := by
    have hput {v} : Follows s₀ (s.setFld thermPg (R.THM_CAP_CAP d) v) := h.setFld
    exact .ite (.ite (.ite hput.update.record.pulse hput.update) h) (.ite (.ite hput.update.pulse hput.update) h)
  exact (hs.toAclk.foldl hdie).capStatus

theorem trip {sensor} (hs : Follows s₀ s) : Follows s₀ (s.trip sensor) := by
  have h1 : Follows s₀ ((s.setFld thermPg R.THM_STATUS_TRIPPED 1).setFld thermPg R.THM_STATUS_TRIPSENSOR sensor) := hs.setFld.setFld
  unfold State.trip
  refine ⟨fun hc => ?_, ?_, ?_⟩ <;> dsimp only [Canonical]
  · exact ⟨rfl, Tab.risingFrom_filter _ (h1.canonical hc).2⟩
  · exact h1.queue
  · exact h1.clock

theorem thermalSample {readings} (hs : Follows s₀ s) : Follows s₀ (s.thermalSample readings) := by
  unfold State.thermalSample
  extract_lets s0 s1 s2 _ _ _ s3 _ s4
  have hs0 : Follows s₀ s0 := hs.toAclk
  have hs1 : Follows s₀ s1 := hs0.foldl (fun _ _ h1 => h1.setReg)
  have hs2 : Follows s₀ s2 := hs1.setFld
  have hs3 : Follows s₀ s3 := .ite hs2.pulse hs2
  have hs4 : Follows s₀ s4 := hs3.update
  split
  · exact .ite hs4 hs4.trip
  · exact hs4

theorem prochotIn (hs : Follows s₀ s) : Follows s₀ s.prochotIn := .ite hs hs.setFld.record.pulse.update

theorem prochotOut (hs : Follows s₀ s) : Follows s₀ s.prochotOut := hs.setFld.update

-- resets and bring-up

theorem resetRegs {on : Nat × Word → Bool} {keep} (hs : Follows s₀ s) :
    Follows s₀ { s with regs := s.regs.filterMap (fun e => if on e then afterReset keep e else some e) } := by
  refine ⟨fun hc => ?_, hs.queue, hs.clock⟩
  obtain ⟨hm, hr⟩ := hs.canonical hc
  refine ⟨hm, Tab.risingFrom_filterMap ?_ hr⟩
  intro e e' he
  split at he
  · exact afterReset_key he
  · cases he; rfl

theorem resetPage {pg} (hs : Follows s₀ s) : Follows s₀ (s.resetPage pg) := by
  unfold State.resetPage
  dsimp only
  split
  · exact .ite hs.resetRegs.lose hs.resetRegs
  · exact hs.resetRegs

theorem mcPerform {m f} (hs : Follows s₀ s) : Follows s₀ (s.mcPerform m f) := .ite hs.storeWrite hs

theorem mcDrain {m} (hs : Follows s₀ s) : Follows s₀ (s.mcDrain m) :=
  .ite hs ((hs.foldl (fun _ _ h1 => h1.mcPerform)).foldl (fun _ _ h1 => h1.poisonRead))

theorem warmState (hs : Follows s₀ s) : Follows s₀ s.warmState := by
  refine ⟨fun hc => ?_, hs.queue, hs.clock⟩
  obtain ⟨hm, hr⟩ := hs.canonical hc
  exact ⟨hm, Tab.risingFrom_filterMap (fun _ _ he => afterReset_key he) hr⟩

theorem warmReset {pin} (hs : Follows s₀ s) : Follows s₀ (s.warmReset pin) :=
  .ite hs ((hs.toMclk.foldl (fun _ _ h1 => h1.mcDrain)).warmState.foldr (fun _ _ h1 => h1.lose)).bump.setFld.setFld

theorem startCore {k} (hs : Follows s₀ s) : Follows s₀ (s.startCore k) := .ite hs.setHart hs

theorem startCluster {c} (hs : Follows s₀ s) : Follows s₀ (s.startCluster c) := hs.foldl (fun _ _ h1 => h1.startCore)

theorem beginReset {pg} (hs : Follows s₀ s) : Follows s₀ (s.beginReset pg) := hs.setFld.setFld

theorem stopCore {k} (hs : Follows s₀ s) : Follows s₀ (s.stopCore k) := (hs.foldl (fun _ _ h1 => h1.discardEpochs.setHart)).drainL1.setCore

theorem coreReset {k} (hs : Follows s₀ s) : Follows s₀ (s.coreReset k) :=
  (Follows.ite hs.discardEpochs.setFld.setCore.reprint hs).stopCore.resetPage.beginReset.setCore.retrySnoops

theorem moveGuest {h} (hs : Follows s₀ s) : Follows s₀ (s.moveGuest h) :=
  OptFollows.getD hs.commitAll.writeNegative.parkHart.moveHart hs.commitAll.writeNegative.parkHart

theorem fencedBist {k pass} (hs : Follows s₀ s) : Follows s₀ (s.fencedBist k pass) := by
  unfold State.fencedBist
  split
  · exact hs
  · exact .ite hs.toMclk.resetPage.setCore.setFld.setFld hs.toMclk.resetPage.setCore.retireCore

theorem clusterReset {c} (hs : Follows s₀ s) : Follows s₀ (s.clusterReset c) :=
  (((hs.foldl (fun _ _ h1 => h1.moveGuest)).foldl (fun _ _ h1 => h1.stopCore)).retrySnoops.flushL2.foldl
    (fun _ _ h1 => .ite h1.resetPage.setFld.setFld.update h1.resetPage.setFld.setFld)).resetPage.beginReset.setCluster

theorem engineReset {e} (hs : Follows s₀ s) : Follows s₀ (s.engineReset e) := hs.failTask.resetPage.beginReset.setEngine

theorem mcReset {m} (hs : Follows s₀ s) : Wr.Follows s₀ (s.mcReset m) :=
  .ite (.no hs) (.ok (((((hs.foldl (fun _ _ h1 => h1.mcPerform)).foldl (fun _ _ h1 => h1.taken.mcAnswer)).foldl
    (fun _ _ h1 => h1.taken.poisonRead)).setMc.foldl (fun _ _ h1 => h1.resetPage)).beginReset.foldl (fun _ _ h1 => h1.setFld)))

theorem portReset {p} (hs : Follows s₀ s) : Follows s₀ (s.portReset p) := (hs.foldl (fun _ _ h1 => h1.surprise)).setFld.setPort

theorem linkReset {p l} (hs : Follows s₀ s) : Follows s₀ (s.linkReset p l) := hs.surprise.setFld

theorem domainGo {p} (hs : Follows s₀ s) : Wr.Follows s₀ (s.domainGo p) := by
  unfold State.domainGo
  refine .ite (.ok hs) ?_
  split
  · exact .ok hs.coreReset
  · exact .ok hs.clusterReset
  · exact .ok hs.engineReset
  · exact hs.mcReset
  · exact .ok hs.portReset
  · exact .ok hs.linkReset
  · exact .ok hs

theorem endReset {pg} (hs : Follows s₀ s) : Follows s₀ (s.endReset pg) := hs.setFld.setFld

theorem portDone {p} (hs : Follows s₀ s) : Follows s₀ (s.portDone p) := by
  unfold State.portDone
  split
  · exact hs
  · exact .ite hs (hs.toAclk.resetPage.foldl (fun _ _ h1 => h1.resetPage.setFld)).setFld.setPort

theorem linkDone {p l} (hs : Follows s₀ s) : Follows s₀ (s.linkDone p l) := hs.resetPage.setFld.setFld

theorem domainDone {n b} (hs : Follows s₀ s) : Follows s₀ (s.domainDone n b) := by
  unfold State.domainDone
  split
  · exact hs
  · refine .ite hs ?_
    split
    · split
      · exact hs.toMclk.endReset.setCore.startCore
      · exact hs
    · split
      · exact (hs.toMclk.endReset.setCluster.foldl (fun _ _ h1 => .ite h1 h1.setFld)).startCluster
      · exact hs
    · split
      · exact hs.toMclk.setEngine.setFld
      · exact hs
    · exact hs.portDone
    · exact .ite hs hs.linkDone
    · exact hs

theorem bootFails (hs : Follows s₀ s) : Follows s₀ s.bootFails := hs.setFld.raiseHealth

theorem bootAon {socket test} (hs : Follows s₀ s) : Follows s₀ (s.bootAon socket test) := .ite hs (.ite hs.toAclk.update hs.toAclk.update.setFld)

theorem bootRom (hs : Follows s₀ s) : Follows s₀ s.bootRom := .ite hs (.ite hs.toAclk.update.setFld.record.setFld hs.toAclk.update.setFld)

theorem bootAuth {image} (hs : Follows s₀ s) : Follows s₀ (s.bootAuth image) := by
  unfold State.bootAuth
  refine .ite hs ?_
  split
  · exact hs.bootFails
  · exact hs.toAclk.update.setFld.setFld

theorem imageSetting {a v} (hs : Follows s₀ s) : Follows s₀ (s.imageSetting a v) := by
  unfold State.imageSetting
  split
  · exact hs
  · split
    · exact .ite hs hs.setReg
    · exact hs

theorem imageTables {im} (hs : Follows s₀ s) : Follows s₀ (s.imageTables im) :=
  (hs.foldl (fun _ _ h1 => h1.setReg.update)).foldl (fun _ _ h1 => h1.loadKey)

theorem wardStart {m} (hs : Follows s₀ s) : Follows s₀ (s.wardStart m) := by
  unfold State.wardStart
  split
  · exact hs.mcStart.of_ok ‹_›
  · exact hs.mcStart.of_no ‹_›

theorem bootMesh (hs : Follows s₀ s) : Follows s₀ s.bootMesh := by
  unfold State.bootMesh
  extract_lets _ __src _ _ s0 s1 s2
  have h__src : Follows s₀ __src := hs.toAclk
  have hs0 : Follows s₀ s0 := h__src.update
  have hs1 : Follows s₀ s1 := hs0.foldl (fun _ _ h1 => h1.setFld.setFld)
  have hs2 : Follows s₀ s2 := hs1.toMclk.setFld
  split
  · exact hs
  · extract_lets s3 s4
    have hs3 : Follows s₀ s3 := .ite hs2 hs2.imageTables
    have hs4 : Follows s₀ s4 := hs3.foldl (fun _ _ h1 => h1.imageSetting)
    exact .ite hs (.ite (hs4.foldl (fun _ _ h1 => .ite h1 h1.wardStart)) hs4)

theorem trainingDone {m pass} (hs : Follows s₀ s) : Follows s₀ (s.trainingDone m pass) :=
  .ite hs (.ite hs.setMc (.ite hs.setMc.setFld.record.markRetired hs.setMc))

theorem filterMem {p} (hs : Follows s₀ s) : Follows s₀ { s with mem := s.mem.filter p } := by
  refine ⟨fun hc => ?_, hs.queue, hs.clock⟩
  obtain ⟨hm, hr⟩ := hs.canonical hc
  exact ⟨Tab.wf_filter p hm, hr⟩

theorem zeroingDone {m} (hs : Follows s₀ s) : Follows s₀ (s.zeroingDone m) := by
  unfold State.zeroingDone
  split
  · exact hs
  · exact hs.toMclk.filterMem.update.setMc.wardStart

theorem bistDone {c pass} (hs : Follows s₀ s) : Follows s₀ (s.bistDone c pass) :=
  .ite hs (.ite (hs.toAclk.setFld.foldl (fun _ _ h1 => .ite h1 h1.setFld)).startCluster hs.toAclk.retireCluster)

theorem bootChannelReady (hs : Follows s₀ s) : Follows s₀ s.bootChannelReady := by
  unfold State.bootChannelReady
  split
  · extract_lets _ s1 s2 s3 s4
    have hs1 : Follows s₀ s1 := hs.foldl (fun _ _ h1 => h1.foldl (fun _ _ h2 => h2.setMemLine.setLineAttr))
    have hs2 : Follows s₀ s2 := hs1.toMclk.setFld
    have hs3 : Follows s₀ s3 := .ite hs2 hs2.setFld.setFld
    have hs4 : Follows s₀ s4 := .ite hs3.doBolt hs3
    exact .ite hs (hs4.setFld.foldl (fun _ _ h1 => h1.startCluster))
  · exact hs

theorem hashOpen (hs : Follows s₀ s) : Follows s₀ s.hashOpen := .ite (hs.toAclk.foldl (fun _ _ h1 => h1.setFld)) hs

theorem bootTimeout (hs : Follows s₀ s) : Follows s₀ s.bootTimeout := .ite hs hs.toAclk.bootFails

-- writes of block-specific registers

theorem wardStore {g off who v} (hs : Follows s₀ s) : RegEffect.Follows s₀ (s.wardStore g off who v) := by
  unfold State.wardStore
  refine .mk ?_
  split
  · exact .ok hs.setReg
  · exact .ok hs

theorem plainFor {adm g off v} (hs : Follows s₀ s) : RegEffect.Follows s₀ (s.plainFor adm g off v) := .mk (.ok hs.plainWrite)

theorem cntPageWrite {g off who v} (hs : Follows s₀ s) : RegEffect.Follows s₀ (s.cntPageWrite g off who v) :=
  .ite (.mk (.ok hs.plainWrite.watch)) (.ite (.mk (.ok hs.plainWrite)) hs.plainFor)

theorem hingePageWrite {g off who v} (hs : Follows s₀ s) : OptEffectFollows s₀ (s.hingePageWrite g off who v) :=
  .ite (.given (.mk (.ok hs.plainWrite))) trivial

theorem mtimecmpWrite {k i v} (hs : Follows s₀ s) : Follows s₀ (s.mtimecmpWrite k i v) := by
  unfold State.mtimecmpWrite
  split
  · exact hs.setHart
  · exact hs

theorem coreInject {k v} (hs : Follows s₀ s) : Follows s₀ (s.coreInject k v) := .ite hs.setCore hs

theorem corePageWrite {k off who v} (hs : Follows s₀ s) : OptEffectFollows s₀ (s.corePageWrite k off who v) :=
  .ite (.given (.mk (.ok hs.coreInject))) (.ite (.given (.mk (.ok hs.mtimecmpWrite))) trivial)

theorem meshPageWrite {g off who v} (hs : Follows s₀ s) : OptEffectFollows s₀ (s.meshPageWrite g off who v) := .ite (.given hs.plainFor) trivial

theorem deHctxWrite {e v} (hs : Follows s₀ s) : RegEffect.Follows s₀ (s.deHctxWrite e v) := .mk (.ite (.no hs) (.ok hs.setReg))

theorem deResume {e v} (hs : Follows s₀ s) : Follows s₀ (s.deResume e v) := .ite hs.setEngine hs

theorem dwemonPageWrite {g off who v} (hs : Follows s₀ s) : RegEffect.Follows s₀ (s.dwemonPageWrite g off who v) :=
  .ite (.mk hs.deHctxWrite.act) (.ite (.mk (.ok hs.deResume)) hs.plainFor)

theorem taskqPageWrite {g off who v} (hs : Follows s₀ s) : RegEffect.Follows s₀ (s.taskqPageWrite g off who v) :=
  .ite (.mk hs.plainFor.act) (.ite (.mk (.ite (.no hs) hs.plainFor.act)) (.ite (.mk (.ite (.no hs) hs.plainFor.act)) hs.plainFor))

theorem pkgWrite {g v} (hs : Follows s₀ s) : Follows s₀ (s.pkgWrite g v) := hs.plainWrite.update

theorem pwrReset {v} (hs : Follows s₀ s) : Follows s₀ (s.pwrReset v) := .ite hs.warmReset (.ite hs.resetWard.setFld hs)

theorem pwrPageWrite {g off who v} (hs : Follows s₀ s) : RegEffect.Follows s₀ (s.pwrPageWrite g off who v) :=
  .ite (.mk (.ok hs.pkgWrite)) (.ite hs.plainFor (.ite (.mk (.ok hs.pwrReset)) (.ite hs.wardStore
    (.ite (.mk (.ite (.no hs) hs.plainFor.act)) hs.plainFor))))

theorem thmCtlWrite {g v} (hs : Follows s₀ s) : Follows s₀ (s.thmCtlWrite g v) := .ite hs.plainWrite.draw.setFld hs.plainWrite

theorem thermPageWrite {g off who v} (hs : Follows s₀ s) : RegEffect.Follows s₀ (s.thermPageWrite g off who v) :=
  .ite (.mk (.ok hs.thmCtlWrite)) (.ite hs.plainFor hs.plainFor)

theorem tctPageWrite {g off who v} (hs : Follows s₀ s) : RegEffect.Follows s₀ (s.tctPageWrite g off who v) :=
  .ite (.mk (.ok hs.tctWrite)) (.ite (.mk (.ok hs.tctWrite)) hs.plainFor)

theorem boltPageWrite {g off who v} (hs : Follows s₀ s) : RegEffect.Follows s₀ (s.boltPageWrite g off who v) :=
  .ite (.mk (.ok (.ite hs.doBolt hs))) hs.plainFor

theorem ownEffect {g off who v} (hs : Follows s₀ s) : OptEffectFollows s₀ (s.ownEffect g off who v) := by
  unfold State.ownEffect
  split
  · exact hs.hingePageWrite
  · exact hs.corePageWrite
  · exact hs.negPageWrite
  · exact hs.slicePageWrite
  · exact .given hs.dwemonPageWrite
  · exact .given hs.taskqPageWrite
  · exact hs.dmaPageWrite
  · exact hs.chanPageWrite
  · exact hs.meshPageWrite
  · exact hs.mc0PageWrite
  · exact hs.mc2PageWrite
  · exact hs.phyPageWrite
  · exact hs.fpPageWrite
  · exact hs.linkPageWrite
  · exact .given hs.plainFor
  · exact .given hs.pwrPageWrite
  · exact .given hs.thermPageWrite
  · exact hs.irtPageWrite
  · exact hs.irtPageWrite
  · exact hs.irtPageWrite
  · exact hs.irtPageWrite
  · exact hs.irtPageWrite
  · exact hs.tgtPageWrite
  · exact .ite (.given hs.wardStore) hs.mbxPageWrite
  · exact .given hs.tctPageWrite
  · exact .given hs.tctPageWrite
  · exact .given hs.boltPageWrite
  · exact .given hs.boltPageWrite
  · exact .given hs.boltPageWrite
  · exact .given hs.boltPageWrite
  · exact .given hs.boltPageWrite
  · exact hs.rasPageWrite
  · exact .given hs.wardStore
  · exact trivial
  · exact trivial
  · exact trivial
  · exact trivial
  · exact trivial
  · exact trivial
  · exact trivial
  · exact trivial
  · exact trivial
  · exact trivial

theorem regEffect {g off who v} (hs : Follows s₀ s) : RegEffect.Follows s₀ (s.regEffect g off who v) :=
  .ite hs.cntPageWrite (OptEffectFollows.getD hs.ownEffect hs.plainFor)

-- what a read of a register does

theorem readActs {g off who} (hs : Follows s₀ s) : Follows s₀ (s.readActs g off who) := by
  unfold State.readActs
  refine .ite hs ?_
  split
  · exact .ite hs.negRead hs
  · exact .ite hs.fabEventRead hs
  · exact .ite hs.tgtClaim hs
  · exact hs

theorem headerReadActs {g off who} (hs : Follows s₀ s) : Follows s₀ (s.headerReadActs g off who) := by
  unfold State.headerReadActs
  refine .ite hs ?_
  split
  · exact hs.setFld
  · exact hs.setFld
  · exact hs

-- an access to a register page

theorem refuseAccess {pg bit who off write} (hs : Follows s₀ s) : PageAns.Follows s₀ (s.refuseAccess pg bit who off write) :=
  .mk (.ite hs hs.accessFault)

theorem holdRequest {g v} (hs : Follows s₀ s) : Follows s₀ (s.holdRequest g v) := hs.setHinge.setFld

theorem powerWrite {g who v} (hs : Follows s₀ s) : Wr.Follows s₀ (s.powerWrite g who v) :=
  .ite (.no hs) (.ite (.no hs) (.ite (.ok hs.holdRequest) (.ok hs.setFld)))

theorem holdrst {g v} (hs : Follows s₀ s) : Follows s₀ (s.holdrst g v) := by
  unfold State.holdrst
  refine .ite hs.setFld ?_
  split
  · exact hs.setFld.startCore
  · exact hs.setFld.startCluster
  · exact hs.setFld

theorem resetWrite {g who v} (hs : Follows s₀ s) : Wr.Follows s₀ (s.resetWrite g who v) := by
  unfold State.resetWrite
  refine .ite (.no hs) (.ite (.ok hs) (.ite (.ok hs.holdrst) (.ite (.ok hs.holdrst.holdRequest) ?_)))
  split
  · exact .ok ((hs.holdrst.domainGo).of_ok ‹_›)
  · exact .no hs

theorem faultClear {g v} (hs : Follows s₀ s) : Follows s₀ (s.faultClear g v) := .ite hs.setReg.setReg hs.setReg

theorem pgBoltWrite {g who v} (hs : Follows s₀ s) : Wr.Follows s₀ (s.pgBoltWrite g who v) := .ite (.no hs) (.ite (.no hs) (.ok hs.plainWrite))

theorem headerWrite {g off who v} (hs : Follows s₀ s) : Wr.Follows s₀ (s.headerWrite g off who v) :=
  .ite (.ok hs.faultClear) (.ite hs.pgBoltWrite (.ite hs.powerWrite (.ite hs.resetWrite (.ok hs))))

theorem blockStore {g off who v} (hs : Follows s₀ s) : Follows s₀ (s.blockStore g off who v) := by
  unfold State.blockStore
  split
  · exact (hs.regEffect.act).of_ok ‹_›
  · exact hs

theorem storeHeld {ps sel} (hs : Follows s₀ s) : Follows s₀ (s.storeHeld ps sel) := by
  unfold State.storeHeld
  refine hs.foldl (fun _ _ h1 => ?_)
  split
  · exact .ite h1.blockStore h1
  · exact h1

theorem applyHeld {n} (hs : Follows s₀ s) : Follows s₀ (s.applyHeld n) := .ite hs hs.setHinge.storeHeld

theorem restored {g} (hs : Follows s₀ s) : Follows s₀ (s.restored g) := .ite hs.storeHeld hs

theorem blockWrite {p g off} (hs : Follows s₀ s) : PageAns.Follows s₀ (s.blockWrite p g off) := by
  unfold State.blockWrite
  dsimp only
  split
  · exact .mk hs
  · refine .ite hs.refuseAccess (.ite hs.refuseAccess (.ite hs.refuseAccess (.ite hs.refuseAccess (.ite hs.refuseAccess ?_))))
    split
    · exact ((hs.regEffect.act).of_no ‹_›).refuseAccess
    · exact .ite (.mk hs.setHinge) (.mk ((hs.regEffect.act).of_ok ‹_›))

theorem pageRead {p g off} (hs : Follows s₀ s) : PageAns.Follows s₀ (s.pageRead p g off) :=
  .ite (.mk hs.headerReadActs) (.ite (.mk hs) (.ite hs.refuseAccess (.ite (.mk hs) (.mk hs.readActs))))

theorem performPage {p} (hs : Follows s₀ s) : PageAns.Follows s₀ (s.performPage p) := by
  unfold State.performPage
  refine .ite (.mk hs) ?_
  split
  · split
    · exact hs.refuseAccess
    · exact .mk hs
  · refine .ite hs.refuseAccess (.ite hs.pageRead (.ite ?_ hs.blockWrite))
    split
    · exact .mk (hs.headerWrite.of_ok ‹_›)
    · exact (hs.headerWrite.of_no ‹_›).refuseAccess

theorem accessNow {p} (hs : Follows s₀ s) : Follows s₀ (s.accessNow p) := .ite hs hs.performPage.state.respond

theorem regCommand {p write k f} (hs : Follows s₀ s) : Follows s₀ (s.regCommand p write k f) := .ite hs.accessNow hs

-- the keyway and its Hinges

theorem answerHart {n t' p data err} (hs : Follows s₀ s) : Follows s₀ (s.answerHart n t' p data err) := hs.sendAt

theorem pageArrival {p} (hs : Follows s₀ s) : Follows s₀ (s.pageArrival p) := by
  unfold State.pageArrival
  split
  · exact hs
  · split
    · exact hs
    · exact .ite hs.taken.accessFault.answerHart hs.taken.setHinge

theorem serveTurn {n t' p} (hs : Follows s₀ s) : Follows s₀ (s.serveTurn n t' p) :=
  .ite hs.toMclk.setHinge.bump (.ite hs.toMclk.setHinge.performPage.state.answerHart hs.toMclk.setHinge.performPage.state.respond)

theorem hingeTurn {n} (hs : Follows s₀ s) : Follows s₀ (s.hingeTurn n) := by
  unfold State.hingeTurn
  refine .ite hs ?_
  split
  · exact hs
  · refine .ite ?_ ?_
    · split
      · exact hs.setHinge.serveTurn
      · exact hs
    · split
      · exact hs.setHinge.serveTurn
      · exact hs

theorem keywayRequest {p} (hs : Follows s₀ s) : Follows s₀ (s.keywayRequest p) := by
  unfold State.keywayRequest
  refine .ite hs ?_
  split
  · exact hs.rootRequest
  · exact .ite hs.wardRestarts.rootRequest hs
  · exact .ite hs.rootRequest hs
  · exact hs

theorem wardTimeoutRecord (hs : Follows s₀ s) : Follows s₀ s.wardTimeoutRecord := hs.draw.draw.draw.update

theorem pageTimeout {p} (hs : Follows s₀ s) : Follows s₀ (s.pageTimeout p) := by
  unfold State.pageTimeout
  dsimp only
  split
  · split
    · exact .ite hs.toAclk.update.accessFault.respond hs
    · exact hs
  · exact .ite hs.toAclk.respond.wardTimeoutRecord hs
  · exact .ite hs.toAclk.mbxFinish hs
  · exact .ite hs.toAclk.respond hs
  · exact hs

theorem proceed {e} (hs : Follows s₀ s) : Follows s₀ (s.proceed e) := by
  unfold State.proceed
  split
  · exact hs
  · refine .ite ?_ hs.setFld.setFld
    split
    · exact (hs.setFld.domainGo).of_ok ‹_›
    · exact hs.setFld

theorem heldProceeds {n} (hs : Follows s₀ s) : Follows s₀ (s.heldProceeds n) := .ite hs (hs.setHinge.foldl (fun _ _ h1 => h1.proceed))

theorem execPageRequestArrival {p} (hs : Follows s₀ s) : OutFollows s₀ (execPageRequestArrival p s) := .next hs.pageArrival

theorem execKeywayRootRequest {p} (hs : Follows s₀ s) : OutFollows s₀ (execKeywayRootRequest p s) := .next hs.keywayRequest

theorem execHingeTurn {n} (hs : Follows s₀ s) : OutFollows s₀ (execHingeTurn n s) := .next hs.hingeTurn

theorem execPageAccessTimeout {p} (hs : Follows s₀ s) : OutFollows s₀ (execPageAccessTimeout p s) := .next hs.pageTimeout

theorem execHeldRequestProceeds {n} (hs : Follows s₀ s) : OutFollows s₀ (execHeldRequestProceeds n s) := .next hs.heldProceeds

-- the commands of the interrupt router

theorem execWiredSourceEvent {x} (hs : Follows s₀ s) : OutFollows s₀ (execWiredSourceEvent x s) := .next hs.wiredEvent

theorem execIrqDoorbell {f} (hs : Follows s₀ s) : OutFollows s₀ (execIrqDoorbell f s) := .next hs.irqDoorbell

theorem execRoutingDecision {x} (hs : Follows s₀ s) : OutFollows s₀ (execRoutingDecision x s) := .next hs.decideItem

theorem execIrq {f} (hs : Follows s₀ s) : OutFollows s₀ (execIrq f s) := .next hs.irqArrives

theorem execPresentationWithdraw {x} (hs : Follows s₀ s) : OutFollows s₀ (execPresentationWithdraw x s) := .next hs.withdrawItem

theorem execEdgeCapture {x} (hs : Follows s₀ s) : OutFollows s₀ (execEdgeCapture x s) := .next hs.edgeCapture

theorem execEdgeCapturePresent {x} (hs : Follows s₀ s) : OutFollows s₀ (execEdgeCapturePresent x s) := .next hs.edgePresent

theorem execEngineNoticeArrival {f} (hs : Follows s₀ s) : OutFollows s₀ (execEngineNoticeArrival f s) := .next hs.engineNoticeArrives

-- the JTAG TAP and external debug

theorem jtag {ir tdo f} (hs : Follows s₀ s) : Follows s₀ (s.jtag ir tdo f) := hs.update

theorem boundaryScan {ir value} (hs : Follows s₀ s) : Follows s₀ (s.boundaryScan ir value) := by
  unfold State.boundaryScan
  exact hs.draw.jtag

theorem execExtest {value} (hs : Follows s₀ s) : OutFollows s₀ (execExtest value s) := .next hs.boundaryScan

theorem execSamplePreload {value} (hs : Follows s₀ s) : OutFollows s₀ (execSamplePreload value s) := .next hs.boundaryScan

theorem execIdcode {value} (hs : Follows s₀ s) : OutFollows s₀ (execIdcode value s) := .next hs.jtag

theorem execClamp {value} (hs : Follows s₀ s) : OutFollows s₀ (execClamp value s) := .next hs.jtag

theorem execHighz {value} (hs : Follows s₀ s) : OutFollows s₀ (execHighz value s) := .next hs.jtag

theorem execBypass {value} (hs : Follows s₀ s) : OutFollows s₀ (execBypass value s) := .next hs.jtag

theorem execTapReset (hs : Follows s₀ s) : OutFollows s₀ (execTapReset s) := .next hs.jtag

theorem execDtmcs {value} (hs : Follows s₀ s) : OutFollows s₀ (execDtmcs value s) := .next hs.draw.jtag

theorem setDm {n v} (hs : Follows s₀ s) : Follows s₀ (s.setDm n v) := hs.update

theorem haltHart {h} (hs : Follows s₀ s) : Follows s₀ (s.haltHart h) := .ite hs hs.tick.abandon.closeEpoch.setHart

theorem resumeHart {h} (hs : Follows s₀ s) : Follows s₀ (s.resumeHart h) := .ite hs hs.setHart

theorem cmdErr {e} (hs : Follows s₀ s) : Follows s₀ (s.cmdErr e) := .ite hs.setDm hs

theorem dmPostexec (hs : Follows s₀ s) : Follows s₀ s.dmPostexec := .ite hs hs.cmdErr

theorem dmCommand {v} (hs : Follows s₀ s) : Follows s₀ (s.dmCommand v) := by
  unfold State.dmCommand
  extract_lets h n size old arg put a r bad post
  have hput {w} : Follows s₀ (put s w) := .ite hs.setDm hs.setDm.setDm
  have hpost {s} (h : Follows s₀ s) : Follows s₀ (post s) := .ite h.dmPostexec h
  exact .ite hs (.ite hs.cmdErr (.ite hs.cmdErr (.ite (hpost hs) (.ite hs.cmdErr (.ite
    (hpost (.ite (.ite hs.withArch hs.writeCsr) hs.withArch)) (hpost hput))))))

theorem dmBus {write} (hs : Follows s₀ s) : Follows s₀ (s.dmBus write) := .ite hs.setDm hs.rootRequest

theorem dmBusDone (hs : Follows s₀ s) : Follows s₀ s.dmBusDone := by
  unfold State.dmBusDone
  split
  · exact hs
  · exact .ite hs.update.toMclk.setDm (.ite hs.update.toMclk hs.update.toMclk.setDm.setDm)

theorem dmWrite {n v} (hs : Follows s₀ s) : Follows s₀ (s.dmWrite n v) :=
  .ite (.ite hs.setDm (.ite hs.setDm.haltHart (.ite hs.setDm.resumeHart hs.setDm)))
    (.ite hs.setDm (.ite hs.dmCommand (.ite hs.setDm (.ite (.ite hs.setDm.dmBus hs.setDm) (.ite hs.setDm.dmBus (.ite hs.setDm hs))))))

theorem execDmi {value} (hs : Follows s₀ s) : OutFollows s₀ (execDmi value s) := by
  unfold Machine.execDmi
  refine .next ?_
  split
  · exact hs.dmBusDone.jtag.update
  · exact hs.dmBusDone.jtag.dmWrite.update
  · exact hs.dmBusDone.jtag

theorem execSlAddr {value} (hs : Follows s₀ s) : OutFollows s₀ (execSlAddr value s) := .next hs.jtag.update.rootRequest

theorem slDone (hs : Follows s₀ s) : Follows s₀ s.slDone := by
  unfold State.slDone
  split
  · exact hs
  · exact hs.toMclk.update

theorem execSlData {value} (hs : Follows s₀ s) : OutFollows s₀ (execSlData value s) := .next hs.slDone.jtag

-- the commands that are one access

theorem execRegisterWrite {p} (hs : Follows s₀ s) : OutFollows s₀ (execRegisterWrite p s) := .next (.ite hs.accessNow hs)

theorem execPgFaultClear {p} (hs : Follows s₀ s) : OutFollows s₀ (execPgFaultClear p s) := .next hs.regCommand

theorem execPgStatusRead {p} (hs : Follows s₀ s) : OutFollows s₀ (execPgStatusRead p s) := .next hs.regCommand

theorem execPowerRequest {p} (hs : Follows s₀ s) : OutFollows s₀ (execPowerRequest p s) := .next hs.regCommand

theorem execKwHoldWrite {p} (hs : Follows s₀ s) : OutFollows s₀ (execKwHoldWrite p s) := .next hs.regCommand

theorem execCoreDomainReset {p} (hs : Follows s₀ s) : OutFollows s₀ (execCoreDomainReset p s) := .next hs.regCommand

theorem execClusterDomainReset {p} (hs : Follows s₀ s) : OutFollows s₀ (execClusterDomainReset p s) := .next hs.regCommand

theorem execDwemonDomainReset {p} (hs : Follows s₀ s) : OutFollows s₀ (execDwemonDomainReset p s) := .next hs.regCommand

theorem execMcDomainReset {p} (hs : Follows s₀ s) : OutFollows s₀ (execMcDomainReset p s) := .next hs.regCommand

theorem execFpDomainReset {p} (hs : Follows s₀ s) : OutFollows s₀ (execFpDomainReset p s) := .next hs.regCommand

theorem execFpLinkReset {p} (hs : Follows s₀ s) : OutFollows s₀ (execFpLinkReset p s) := .next hs.regCommand

theorem execHoldrstClear {p} (hs : Follows s₀ s) : OutFollows s₀ (execHoldrstClear p s) := .next hs.regCommand

theorem execWardMbxInWrite {p} (hs : Follows s₀ s) : OutFollows s₀ (execWardMbxInWrite p s) := .next hs.regCommand

theorem execWardMbxDoorbell {p} (hs : Follows s₀ s) : OutFollows s₀ (execWardMbxDoorbell p s) := .next hs.regCommand

theorem execBolt {p} (hs : Follows s₀ s) : OutFollows s₀ (execBolt p s) := .next hs.regCommand

theorem execCoreInject {p} (hs : Follows s₀ s) : OutFollows s₀ (execCoreInject p s) := .next hs.regCommand

theorem execMtimecmpWrite {p} (hs : Follows s₀ s) : OutFollows s₀ (execMtimecmpWrite p s) := .next hs.regCommand

theorem execSliceEnable {p} (hs : Follows s₀ s) : OutFollows s₀ (execSliceEnable p s) := .next hs.regCommand

theorem execSlcMaskWrite {p} (hs : Follows s₀ s) : OutFollows s₀ (execSlcMaskWrite p s) := .next hs.regCommand

theorem execSlcLatchWrite {p} (hs : Follows s₀ s) : OutFollows s₀ (execSlcLatchWrite p s) := .next hs.regCommand

theorem execMaintInv {p} (hs : Follows s₀ s) : OutFollows s₀ (execMaintInv p s) := .next hs.regCommand

theorem execMaintClean {p} (hs : Follows s₀ s) : OutFollows s₀ (execMaintClean p s) := .next hs.regCommand

theorem execMaintFlush {p} (hs : Follows s₀ s) : OutFollows s₀ (execMaintFlush p s) := .next hs.regCommand

theorem execMaintBlank {p} (hs : Follows s₀ s) : OutFollows s₀ (execMaintBlank p s) := .next hs.regCommand

theorem execInvall {p} (hs : Follows s₀ s) : OutFollows s₀ (execInvall p s) := .next hs.regCommand

theorem execLatchFill {p} (hs : Follows s₀ s) : OutFollows s₀ (execLatchFill p s) := .next hs.regCommand

theorem execFreezeRetry {p} (hs : Follows s₀ s) : OutFollows s₀ (execFreezeRetry p s) := .next hs.regCommand

theorem execFreezePoison {p} (hs : Follows s₀ s) : OutFollows s₀ (execFreezePoison p s) := .next hs.regCommand

theorem execFreezeRetire {p} (hs : Follows s₀ s) : OutFollows s₀ (execFreezeRetire p s) := .next hs.regCommand

theorem execMcStart {p} (hs : Follows s₀ s) : OutFollows s₀ (execMcStart p s) := .next hs.regCommand

theorem execPhyApply {p} (hs : Follows s₀ s) : OutFollows s₀ (execPhyApply p s) := .next hs.regCommand

theorem execMcPatRun {p} (hs : Follows s₀ s) : OutFollows s₀ (execMcPatRun p s) := .next hs.regCommand

theorem execMrw {p} (hs : Follows s₀ s) : OutFollows s₀ (execMrw p s) := .next hs.regCommand

theorem execMrr {p} (hs : Follows s₀ s) : OutFollows s₀ (execMrr p s) := .next hs.regCommand

theorem execMpc {p} (hs : Follows s₀ s) : OutFollows s₀ (execMpc p s) := .next hs.regCommand

theorem execMcEccWrite {p} (hs : Follows s₀ s) : OutFollows s₀ (execMcEccWrite p s) := .next hs.regCommand

theorem execInjectSymbol {p} (hs : Follows s₀ s) : OutFollows s₀ (execInjectSymbol p s) := .next hs.regCommand

theorem execInjectDevice {p} (hs : Follows s₀ s) : OutFollows s₀ (execInjectDevice p s) := .next hs.regCommand

theorem execInjectUncorrectable {p} (hs : Follows s₀ s) : OutFollows s₀ (execInjectUncorrectable p s) := .next hs.regCommand

theorem execInjectCaParity {p} (hs : Follows s₀ s) : OutFollows s₀ (execInjectCaParity p s) := .next hs.regCommand

theorem execDeHctxWrite {p} (hs : Follows s₀ s) : OutFollows s₀ (execDeHctxWrite p s) := .next hs.regCommand

theorem execDeHaltResume {p} (hs : Follows s₀ s) : OutFollows s₀ (execDeHaltResume p s) := .next hs.regCommand

theorem execDmaDoorbell {p} (hs : Follows s₀ s) : OutFollows s₀ (execDmaDoorbell p s) := .next hs.regCommand

theorem execDmaPause {p} (hs : Follows s₀ s) : OutFollows s₀ (execDmaPause p s) := .next hs.regCommand

theorem execDmaResume {p} (hs : Follows s₀ s) : OutFollows s₀ (execDmaResume p s) := .next hs.regCommand

theorem execDmaAbort {p} (hs : Follows s₀ s) : OutFollows s₀ (execDmaAbort p s) := .next hs.regCommand

theorem execDmaModeWrite {p} (hs : Follows s₀ s) : OutFollows s₀ (execDmaModeWrite p s) := .next hs.regCommand

theorem execTgtClaim {p} (hs : Follows s₀ s) : OutFollows s₀ (execTgtClaim p s) := .next hs.regCommand

theorem execTgtEoi {p} (hs : Follows s₀ s) : OutFollows s₀ (execTgtEoi p s) := .next hs.regCommand

theorem execIrtPendClear {p} (hs : Follows s₀ s) : OutFollows s₀ (execIrtPendClear p s) := .next hs.regCommand

theorem execDomainDisable {p} (hs : Follows s₀ s) : OutFollows s₀ (execDomainDisable p s) := .next hs.regCommand

theorem execTgtCtlWrite {p} (hs : Follows s₀ s) : OutFollows s₀ (execTgtCtlWrite p s) := .next hs.regCommand

theorem execRelease {p} (hs : Follows s₀ s) : OutFollows s₀ (execRelease p s) := .next hs.regCommand

theorem execFpPrgresp {p} (hs : Follows s₀ s) : OutFollows s₀ (execFpPrgresp p s) := .next hs.regCommand

theorem execFpAtsinv {p} (hs : Follows s₀ s) : OutFollows s₀ (execFpAtsinv p s) := .next hs.regCommand

theorem execFpEventRead {p} (hs : Follows s₀ s) : OutFollows s₀ (execFpEventRead p s) := .next hs.regCommand

theorem execRasRetireCore {p} (hs : Follows s₀ s) : OutFollows s₀ (execRasRetireCore p s) := .next hs.regCommand

theorem execRasRetireCluster {p} (hs : Follows s₀ s) : OutFollows s₀ (execRasRetireCluster p s) := .next hs.regCommand

theorem execRasRetireSlice {p} (hs : Follows s₀ s) : OutFollows s₀ (execRasRetireSlice p s) := .next hs.regCommand

theorem execRasRetireEngine {p} (hs : Follows s₀ s) : OutFollows s₀ (execRasRetireEngine p s) := .next hs.regCommand

theorem execRasMoveHart {p} (hs : Follows s₀ s) : OutFollows s₀ (execRasMoveHart p s) := .next hs.regCommand

theorem execRasLogAckWrite {p} (hs : Follows s₀ s) : OutFollows s₀ (execRasLogAckWrite p s) := .next hs.regCommand

theorem execClNegDataAccess {p} (hs : Follows s₀ s) : OutFollows s₀ (execClNegDataAccess p s) := .next hs.regCommand

theorem execPwrPkgWrite {p} (hs : Follows s₀ s) : OutFollows s₀ (execPwrPkgWrite p s) := .next hs.regCommand

theorem execPwrResetWard {p} (hs : Follows s₀ s) : OutFollows s₀ (execPwrResetWard p s) := .next hs.regCommand

-- the events of power, supply and temperature

theorem execCoreEntry {k} (hs : Follows s₀ s) : OutFollows s₀ (execCoreEntry k s) := .next hs.coreEntry

theorem execClusterEntry {c} (hs : Follows s₀ s) : OutFollows s₀ (execClusterEntry c s) := .next hs.clusterEntry

theorem execPackageSleepEntry {consent} (hs : Follows s₀ s) : OutFollows s₀ (execPackageSleepEntry consent s) := .next hs.pkgEntry

theorem execWakeEvent {k} (hs : Follows s₀ s) : OutFollows s₀ (execWakeEvent k s) := .next hs.wakeEvent

theorem execC1Exit {k} (hs : Follows s₀ s) : OutFollows s₀ (execC1Exit k s) := .next hs.c1Exit

theorem execC2Exit {k} (hs : Follows s₀ s) : OutFollows s₀ (execC2Exit k s) := .next hs.c2Exit

theorem execC3Exit {k} (hs : Follows s₀ s) : OutFollows s₀ (execC3Exit k s) := .next hs.c3Exit.applyHeld

theorem execK1Exit {c} (hs : Follows s₀ s) : OutFollows s₀ (execK1Exit c s) := .next hs.clusterExit

theorem execK2Exit {c} (hs : Follows s₀ s) : OutFollows s₀ (execK2Exit c s) := .next hs.clusterExit.applyHeld

theorem execPackageSleepExit (hs : Follows s₀ s) : OutFollows s₀ (execPackageSleepExit s) := .next (hs.pkgWakes.foldl (fun _ _ h1 => h1.applyHeld))

theorem execDvfsTransition {k} (hs : Follows s₀ s) : OutFollows s₀ (execDvfsTransition k s) := .next hs.dvfs

theorem execDvfsTransitionEnd {k} (hs : Follows s₀ s) : OutFollows s₀ (execDvfsTransitionEnd k s) := .next hs.dvfsDone

theorem execVinCoreWarning (hs : Follows s₀ s) : OutFollows s₀ (execVinCoreWarning s) := .next hs.vinWarning

theorem execStretchEnd {mv} (hs : Follows s₀ s) : OutFollows s₀ (execStretchEnd mv s) := .next hs.stretchEnd

theorem execVddAonWarning (hs : Follows s₀ s) : OutFollows s₀ (execVddAonWarning s) := .next hs.aonWarning

theorem execVddAonRecovery {mv} (hs : Follows s₀ s) : OutFollows s₀ (execVddAonRecovery mv s) := .next hs.aonRecovery

theorem execThermalSample {readings} (hs : Follows s₀ s) : OutFollows s₀ (execThermalSample readings s) := .next hs.thermalSample

theorem execThermalCapReview (hs : Follows s₀ s) : OutFollows s₀ (execThermalCapReview s) := .next hs.capReview

theorem execProchotAssert (hs : Follows s₀ s) : OutFollows s₀ (execProchotAssert s) := .next hs.prochotIn

theorem execProchotRelease (hs : Follows s₀ s) : OutFollows s₀ (execProchotRelease s) := .next hs.prochotOut

-- the events of recovery

theorem execCoreFault {k epoch checker} (hs : Follows s₀ s) : OutFollows s₀ (execCoreFault k epoch checker s) := by
  unfold Machine.execCoreFault
  refine .next ?_
  split
  · exact .ite hs.coreFault hs
  · exact hs

theorem execReprint {h readable} (hs : Follows s₀ s) : OutFollows s₀ (execReprint h readable s) := .next hs.reprintEnd

theorem execHartMove {h} (hs : Follows s₀ s) : OutFollows s₀ (execHartMove h s) := .next hs.migrate

theorem execFencedCoreBist {k pass} (hs : Follows s₀ s) : OutFollows s₀ (execFencedCoreBist k pass s) := .next hs.fencedBist

theorem execHartSwitch {k} (hs : Follows s₀ s) : OutFollows s₀ (execHartSwitch k s) := .next hs.hartSwitch

theorem execLogRecord (hs : Follows s₀ s) : OutFollows s₀ (execLogRecord s) := .next hs.logRecord

theorem execCoalescedReport {n b} (hs : Follows s₀ s) : OutFollows s₀ (execCoalescedReport n b s) := .next (.ite hs.coalesced hs)

theorem execPldmResend (hs : Follows s₀ s) : OutFollows s₀ (execPldmResend s) := .next hs.pldmSend

theorem execL2ArrayError {c err} (hs : Follows s₀ s) : OutFollows s₀ (execL2ArrayError c err s) := .next hs.l2Error

-- the events of reset and bring-up

theorem execDomainResetDone {n b} (hs : Follows s₀ s) : OutFollows s₀ (execDomainResetDone n b s) := .next hs.domainDone

theorem execWarmReset {pin} (hs : Follows s₀ s) : OutFollows s₀ (execWarmReset pin s) := .next hs.warmReset

theorem execBootAon {socket test} (hs : Follows s₀ s) : OutFollows s₀ (execBootAon socket test s) := .next hs.bootAon

theorem execBootRom (hs : Follows s₀ s) : OutFollows s₀ (execBootRom s) := .next hs.bootRom

theorem execBootAuth {image} (hs : Follows s₀ s) : OutFollows s₀ (execBootAuth image s) := .next hs.bootAuth

theorem execBootMesh (hs : Follows s₀ s) : OutFollows s₀ (execBootMesh s) := .next hs.bootMesh

theorem execChannelTrainingDone {m pass} (hs : Follows s₀ s) : OutFollows s₀ (execChannelTrainingDone m pass s) := .next hs.trainingDone

theorem execChannelZeroingDone {m} (hs : Follows s₀ s) : OutFollows s₀ (execChannelZeroingDone m s) := .next hs.zeroingDone

theorem execClusterBistDone {c pass} (hs : Follows s₀ s) : OutFollows s₀ (execClusterBistDone c pass s) := .next hs.bistDone

theorem execBootChannelReady (hs : Follows s₀ s) : OutFollows s₀ (execBootChannelReady s) := .next hs.bootChannelReady

theorem execHashOpen (hs : Follows s₀ s) : OutFollows s₀ (execHashOpen s) := .next hs.hashOpen

theorem execBootTimeout (hs : Follows s₀ s) : OutFollows s₀ (execBootTimeout s) := .next hs.bootTimeout

-- the sideband to the BMC

theorem i3c {f} (hs : Follows s₀ s) : Follows s₀ (s.i3c f) := hs.update

theorem execEnec {value} (hs : Follows s₀ s) : OutFollows s₀ (execEnec value s) := .next (.ite hs.i3c hs)

theorem execDisec {value} (hs : Follows s₀ s) : OutFollows s₀ (execDisec value s) := .next (.ite hs.i3c hs)

theorem execRstdaa {value} (hs : Follows s₀ s) : OutFollows s₀ (execRstdaa value s) := .next hs.i3c

theorem execSetdasa {value} (hs : Follows s₀ s) : OutFollows s₀ (execSetdasa value s) := .next hs.i3c

theorem execSetaasa {value} (hs : Follows s₀ s) : OutFollows s₀ (execSetaasa value s) := .next hs.i3c

theorem execEntdaa {value} (hs : Follows s₀ s) : OutFollows s₀ (execEntdaa value s) := .next hs.i3c

theorem execSetmwl {value} (hs : Follows s₀ s) : OutFollows s₀ (execSetmwl value s) := .next hs.i3c

theorem execSetmrl {value} (hs : Follows s₀ s) : OutFollows s₀ (execSetmrl value s) := .next hs.i3c

theorem execGetmwl {value} (hs : Follows s₀ s) : OutFollows s₀ (execGetmwl value s) := .next hs.i3c

theorem execGetmrl {value} (hs : Follows s₀ s) : OutFollows s₀ (execGetmrl value s) := .next hs.i3c

theorem execGetpid {value} (hs : Follows s₀ s) : OutFollows s₀ (execGetpid value s) := .next hs.draw.i3c

theorem execGetbcr {value} (hs : Follows s₀ s) : OutFollows s₀ (execGetbcr value s) := .next hs.i3c

theorem execGetdcr {value} (hs : Follows s₀ s) : OutFollows s₀ (execGetdcr value s) := .next hs.i3c

theorem execGetstatus {value} (hs : Follows s₀ s) : OutFollows s₀ (execGetstatus value s) := .next hs.draw.i3c

theorem execRstact {value} (hs : Follows s₀ s) : OutFollows s₀ (execRstact value s) := .next hs.i3c

theorem mctpControl {m} (hs : Follows s₀ s) : Follows s₀ (s.mctpControl m) :=
  .ite hs (.ite (.ite hs.toBmc (.ite hs.toBmc hs.i3c.toBmc)) (.ite hs.toBmc (.ite hs.draw.toBmc
    (.ite (.ite hs.toBmc (.ite hs.draw.toBmc hs.toBmc)) (.ite hs.toBmc hs.toBmc)))))

theorem execMctpControlMessage {msg} (hs : Follows s₀ s) : OutFollows s₀ (execMctpControlMessage msg s) := .next (.ite hs.mctpControl hs)

theorem execPldmMessage {msg} (hs : Follows s₀ s) : OutFollows s₀ (execPldmMessage msg s) := .next (.ite hs.setFld hs)

theorem putIn {b ws} (hs : Follows s₀ s) : Follows s₀ (s.putIn b ws) := hs.foldl (fun _ _ h1 => h1.setReg)

theorem mctpSpdm {m} (hs : Follows s₀ s) : Follows s₀ (s.mctpSpdm m) := by
  unfold State.mctpSpdm
  refine .ite hs ?_
  split
  · exact hs
  · exact hs.putIn.draw.mbxDoorbell.i3c

theorem execMctpSpdmMessage {msg} (hs : Follows s₀ s) : OutFollows s₀ (execMctpSpdmMessage msg s) := .next (.ite hs.mctpSpdm hs)

theorem bmcMbx {m} (hs : Follows s₀ s) : Follows s₀ (s.bmcMbx m) :=
  .ite hs (.ite hs.toBmc (.ite hs.toBmc (.ite hs.setFld.toBmc hs.putIn.mbxDoorbell.i3c)))

theorem execBmcMbxRequest {msg} (hs : Follows s₀ s) : OutFollows s₀ (execBmcMbxRequest msg s) := .next (.ite hs.bmcMbx hs)

/-- Every command but a cold reset follows its state. -/
theorem exec {c} (hcold : ∀ cause, c ≠ .coldReset cause) (hloss : c ≠ .refclkSysLoss) (hs : Follows s₀ s) :
    OutFollows s₀ (exec c s) := by
  cases c with
  | registerWrite => exact hs.execRegisterWrite
  | pgFaultClear => exact hs.execPgFaultClear
  | pgStatusRead => exact hs.execPgStatusRead
  | pageRequestArrival => exact hs.execPageRequestArrival
  | keywayRootRequest => exact hs.execKeywayRootRequest
  | hingeTurn => exact hs.execHingeTurn
  | pageAccessTimeout => exact hs.execPageAccessTimeout
  | ioResponse => exact hs.execIoResponse
  | powerRequest => exact hs.execPowerRequest
  | heldRequestProceeds => exact hs.execHeldRequestProceeds
  | kwHoldWrite => exact hs.execKwHoldWrite
  | coreDomainReset => exact hs.execCoreDomainReset
  | clusterDomainReset => exact hs.execClusterDomainReset
  | dwemonDomainReset => exact hs.execDwemonDomainReset
  | mcDomainReset => exact hs.execMcDomainReset
  | fpDomainReset => exact hs.execFpDomainReset
  | fpLinkReset => exact hs.execFpLinkReset
  | domainResetDone => exact hs.execDomainResetDone
  | holdrstClear => exact hs.execHoldrstClear
  | xnrtenantWrite => exact hs.execXnrtenantWrite
  | xnrctlWrite => exact hs.execXnrctlWrite
  | tctApplyEdge => exact hs.execTctApplyEdge
  | wardMbxInWrite => exact hs.execWardMbxInWrite
  | wardMbxDoorbell => exact hs.execWardMbxDoorbell
  | mbxAcknowledge => exact hs.execMbxAcknowledge
  | mbxFixedCompletion => exact hs.execMbxFixedCompletion
  | info => exact hs.execInfo
  | otpProvision => exact hs.execOtpProvision
  | boltNow => exact hs.execBoltNow
  | tenantSet => exact hs.execTenantSet
  | tenantClear => exact hs.execTenantClear
  | apertureSet => exact hs.execApertureSet
  | ctxBase => exact hs.execCtxBase
  | keyGen => exact hs.execKeyGen
  | keyImport => exact hs.execKeyImport
  | keyErase => exact hs.execKeyErase
  | schedLoad => exact hs.execSchedLoad
  | pageRead => exact hs.execPageRead
  | pageWrite => exact hs.execPageWrite
  | holdRelease => exact hs.execHoldRelease
  | slNonce => exact hs.execSlNonce
  | slGrant => exact hs.execSlGrant
  | slGrantEnd => exact hs.execSlGrantEnd
  | logRead => exact hs.execLogRead
  | mbxAssign => exact hs.execMbxAssign
  | spdm => exact hs.execSpdm
  | wardReset => exact hs.execWardReset
  | wardWatchdogExpiry => exact hs.execWardWatchdogExpiry
  | wardRestartFailure => exact hs.execWardRestartFailure
  | wardPeriodicReset => exact hs.execWardPeriodicReset
  | bolt => exact hs.execBolt
  | pbFlush => exact hs.execPbFlush
  | pbBar => exact hs.execPbBar
  | taskSubmit => exact hs.execTaskSubmit
  | coreInject => exact hs.execCoreInject
  | mtimecmpWrite => exact hs.execMtimecmpWrite
  | mtimecmpReached => exact hs.execMtimecmpReached
  | trapEntry => exact hs.execTrapEntry
  | epochClose => exact hs.execEpochClose
  | epochCheckClear => exact hs.execEpochCheckClear
  | load => exact hs.execLoad
  | store => exact hs.execStore
  | fillArrival => exact hs.execFillArrival
  | fence => exact hs.execFence
  | fenceI => exact hs.execFenceI
  | amo => exact hs.execAmo
  | lr => exact hs.execLr
  | sc => exact hs.execSc
  | lrSnoopDeferEnd => exact hs.execLrSnoopDeferEnd
  | ioRegionAccess => exact hs.execIoRegionAccess
  | wfi => exact hs.execWfi
  | pause => exact hs.execPause
  | wrsSto => exact hs.execWrsSto
  | cboClean => exact hs.execCboClean
  | cboFlush => exact hs.execCboFlush
  | cboInval => exact hs.execCboInval
  | cboZero => exact hs.execCboZero
  | prefetchR => exact hs.execPrefetchR
  | prefetchI => exact hs.execPrefetchI
  | prefetchW => exact hs.execPrefetchW
  | flitPresent => exact hs.execFlitPresent
  | flitInject => exact hs.execFlitInject
  | flitHop => exact hs.execFlitHop
  | linkRetrySend => exact hs.execLinkRetrySend
  | linkRepair => exact hs.execLinkRepair
  | failedLinkResolve => exact hs.execFailedLinkResolve
  | flitEject => exact hs.execFlitEject
  | bounceReceived => exact hs.execBounceReceived
  | schedSwapPause => exact hs.execSchedSwapPause
  | schedSwap => exact hs.execSchedSwap
  | sliceRd => exact hs.execSliceRd
  | sliceRdown => exact hs.execSliceRdown
  | sliceUpgrade => exact hs.execSliceUpgrade
  | slicePrefetch => exact hs.execSlicePrefetch
  | sliceBlank => exact hs.execSliceBlank
  | sliceWrline => exact hs.execSliceWrline
  | sliceCmoClean => exact hs.execSliceCmoClean
  | sliceCmoFlush => exact hs.execSliceCmoFlush
  | sliceCmoInval => exact hs.execSliceCmoInval
  | sliceUntrackedRead => exact hs.execSliceUntrackedRead
  | sliceUntrackedWrite => exact hs.execSliceUntrackedWrite
  | sliceAtomic => exact hs.execSliceAtomic
  | bisnp => exact hs.execBisnp
  | snoopResponse => exact hs.execSnoopResponse
  | sliceFillArrival => exact hs.execSliceFillArrival
  | snpinv => exact hs.execSnpinv
  | snpshare => exact hs.execSnpshare
  | snpclean => exact hs.execSnpclean
  | sliceEnable => exact hs.execSliceEnable
  | slcMaskWrite => exact hs.execSlcMaskWrite
  | slcLatchWrite => exact hs.execSlcLatchWrite
  | latchEmptyDone => exact hs.execLatchEmptyDone
  | maintInv => exact hs.execMaintInv
  | maintClean => exact hs.execMaintClean
  | maintFlush => exact hs.execMaintFlush
  | maintBlank => exact hs.execMaintBlank
  | invall => exact hs.execInvall
  | latchFill => exact hs.execLatchFill
  | maintDone => exact hs.execMaintDone
  | sliceArrayError => exact hs.execSliceArrayError
  | sliceRetire => exact hs.execSliceRetire
  | homeMapApply => exact hs.execHomeMapApply
  | sliceRetireWalk => exact hs.execSliceRetireWalk
  | mcRead => exact hs.execMcRead
  | mcWrite => exact hs.execMcWrite
  | mcCommandIssue => exact hs.execMcCommandIssue
  | mcReadData => exact hs.execMcReadData
  | alertN m sub => exact hs.execAlertN (sub := sub)
  | freezeSelfRefresh => exact hs.execFreezeSelfRefresh
  | freezeRetry => exact hs.execFreezeRetry
  | freezePoison => exact hs.execFreezePoison
  | freezeRetire => exact hs.execFreezeRetire
  | freezeTimeout => exact hs.execFreezeTimeout
  | mcFrameStart => exact hs.execMcFrameStart
  | maintWindow => exact hs.execMaintWindow
  | selfRefreshEntry => exact hs.execSelfRefreshEntry
  | mcStart => exact hs.execMcStart
  | mcFrame0 => exact hs.execMcFrame0
  | phyApply => exact hs.execPhyApply
  | mcPatRun => exact hs.execMcPatRun
  | mcPatDone => exact hs.execMcPatDone
  | mrw => exact hs.execMrw
  | mrr => exact hs.execMrr
  | mpc => exact hs.execMpc
  | mcEccWrite => exact hs.execMcEccWrite
  | injectSymbol => exact hs.execInjectSymbol
  | injectDevice => exact hs.execInjectDevice
  | injectUncorrectable => exact hs.execInjectUncorrectable
  | injectCaParity => exact hs.execInjectCaParity
  | mirrorResyncDone => exact hs.execMirrorResyncDone
  | add => exact hs.execAdd
  | sub => exact hs.execSub
  | and => exact hs.execAnd
  | or => exact hs.execOr
  | xor => exact hs.execXor
  | sll => exact hs.execSll
  | srl => exact hs.execSrl
  | sra => exact hs.execSra
  | slt => exact hs.execSlt
  | sltu => exact hs.execSltu
  | min => exact hs.execMin
  | max => exact hs.execMax
  | minu => exact hs.execMinu
  | maxu => exact hs.execMaxu
  | ctz => exact hs.execCtz
  | popc => exact hs.execPopc
  | addi => exact hs.execAddi
  | andi => exact hs.execAndi
  | ori => exact hs.execOri
  | xori => exact hs.execXori
  | slti => exact hs.execSlti
  | sltiu => exact hs.execSltiu
  | slli => exact hs.execSlli
  | srli => exact hs.execSrli
  | srai => exact hs.execSrai
  | lui => exact hs.execLui
  | shori => exact hs.execShori
  | mul => exact hs.execMul
  | mulh => exact hs.execMulh
  | mulhu => exact hs.execMulhu
  | div => exact hs.execDiv
  | divu => exact hs.execDivu
  | rem => exact hs.execRem
  | remu => exact hs.execRemu
  | lb => exact hs.execLb
  | lbu => exact hs.execLbu
  | lh => exact hs.execLh
  | lhu => exact hs.execLhu
  | lw => exact hs.execLw
  | lwu => exact hs.execLwu
  | ld => exact hs.execLd
  | sb => exact hs.execSb
  | sh => exact hs.execSh
  | sw => exact hs.execSw
  | sd => exact hs.execSd
  | deSystemReply => exact hs.execDeSystemReply
  | leq => exact hs.execLeq
  | lscan => exact hs.execLscan
  | crc32c => exact hs.execCrc32c
  | crc64 => exact hs.execCrc64
  | hmix => exact hs.execHmix
  | aadd => exact hs.execAadd
  | acas => exact hs.execAcas
  | lget => exact hs.execLget
  | lput => exact hs.execLput
  | lblank => exact hs.execLblank
  | streamEntryComplete => exact hs.execStreamEntryComplete
  | sync => exact hs.execSync
  | tspawn => exact hs.execTspawn
  | tdone => exact hs.execTdone
  | join => exact hs.execJoin
  | wait => exact hs.execWait
  | deFence => exact hs.execDeFence
  | ibar => exact hs.execIbar
  | pflush => exact hs.execPflush
  | pbar => exact hs.execPbar
  | iret => exact hs.execIret
  | brk => exact hs.execBrk
  | srd => exact hs.execSrd
  | swr => exact hs.execSwr
  | beq => exact hs.execBeq
  | bne => exact hs.execBne
  | blt => exact hs.execBlt
  | bge => exact hs.execBge
  | bgt => exact hs.execBgt
  | ble => exact hs.execBle
  | bodd => exact hs.execBodd
  | beven => exact hs.execBeven
  | j => exact hs.execJ
  | jl => exact hs.execJl
  | jr => exact hs.execJr
  | jlr => exact hs.execJlr
  | storeBufferDrain => exact hs.execStoreBufferDrain
  | systemStoreReply => exact hs.execSystemStoreReply
  | taskException => exact hs.execTaskException
  | engineHalt => exact hs.execEngineHalt
  | imemPoisonFetch => exact hs.execImemPoisonFetch
  | deInterruptEntry => exact hs.execDeInterruptEntry
  | deTimer => exact hs.execDeTimer
  | deClaim => exact hs.execDeClaim
  | deEoi => exact hs.execDeEoi
  | engineNoticeArrival => exact hs.execEngineNoticeArrival
  | deHctxWrite => exact hs.execDeHctxWrite
  | deHaltResume => exact hs.execDeHaltResume
  | engineMemoryAccess => exact hs.execEngineMemoryAccess
  | dmemScrub => exact hs.execDmemScrub
  | scrubDone => exact hs.execScrubDone
  | engineFault => exact hs.execEngineFault
  | taskDoorbell => exact hs.execTaskDoorbell
  | taskDispatch => exact hs.execTaskDispatch
  | taskComplete => exact hs.execTaskComplete
  | joinDecrement => exact hs.execJoinDecrement
  | continuationRead => exact hs.execContinuationRead
  | spillWriteAck => exact hs.execSpillWriteAck
  | spillRefill => exact hs.execSpillRefill
  | refillArrival => exact hs.execRefillArrival
  | stealRound => exact hs.execStealRound
  | stealBackoffEnd => exact hs.execStealBackoffEnd
  | steal => exact hs.execSteal
  | stealrsp => exact hs.execStealrsp
  | stealBack => exact hs.execStealBack
  | stealCopyTimeout => exact hs.execStealCopyTimeout
  | dmaDoorbell => exact hs.execDmaDoorbell
  | dmaContextArrival => exact hs.execDmaContextArrival
  | dmaDescriptorArrival => exact hs.execDmaDescriptorArrival
  | dmaCopy => exact hs.execDmaCopy
  | dmaFill => exact hs.execDmaFill
  | dmaBlank => exact hs.execDmaBlank
  | dmaCrc => exact hs.execDmaCrc
  | dmaBurstStart => exact hs.execDmaBurstStart
  | dmaReadData => exact hs.execDmaReadData
  | dmaWriteAck => exact hs.execDmaWriteAck
  | dmaDescriptorComplete => exact hs.execDmaDescriptorComplete
  | dmaBusError => exact hs.execDmaBusError
  | dmaPause => exact hs.execDmaPause
  | dmaResume => exact hs.execDmaResume
  | dmaAbort => exact hs.execDmaAbort
  | dmaModeWrite => exact hs.execDmaModeWrite
  | wiredSourceEvent => exact hs.execWiredSourceEvent
  | irqDoorbell => exact hs.execIrqDoorbell
  | routingDecision => exact hs.execRoutingDecision
  | irq => exact hs.execIrq
  | tgtClaim => exact hs.execTgtClaim
  | tgtEoi => exact hs.execTgtEoi
  | irtPendClear => exact hs.execIrtPendClear
  | domainDisable => exact hs.execDomainDisable
  | tgtCtlWrite => exact hs.execTgtCtlWrite
  | presentationWithdraw => exact hs.execPresentationWithdraw
  | edgeCapture => exact hs.execEdgeCapture
  | edgeCapturePresent => exact hs.execEdgeCapturePresent
  | linkArrival => exact hs.execLinkArrival
  | plannedDeparture => exact hs.execPlannedDeparture
  | release => exact hs.execRelease
  | releaseTimeout => exact hs.execReleaseTimeout
  | surpriseDeparture => exact hs.execSurpriseDeparture
  | surpriseInvDone => exact hs.execSurpriseInvDone
  | dpcClear => exact hs.execDpcClear
  | dcdEvent => exact hs.execDcdEvent
  | inboundRequest => exact hs.execInboundRequest
  | d2hRequest => exact hs.execD2hRequest
  | atsTranslationRequest => exact hs.execAtsTranslationRequest
  | pageRequest => exact hs.execPageRequest
  | fpPrgresp => exact hs.execFpPrgresp
  | fpAtsinv => exact hs.execFpAtsinv
  | atsInvDone => exact hs.execAtsInvDone
  | atsInvTimeout => exact hs.execAtsInvTimeout
  | outboundCompletionTimeout => exact hs.execOutboundCompletionTimeout
  | fpEventRead => exact hs.execFpEventRead
  | fmBind => exact hs.execFmBind
  | fmUnbind => exact hs.execFmUnbind
  | fmIdeKey => exact hs.execFmIdeKey
  | fmStatus => exact hs.execFmStatus
  | perstRelease => exact hs.execPerstRelease
  | coreFault => exact hs.execCoreFault
  | reprint => exact hs.execReprint
  | hartMove => exact hs.execHartMove
  | fencedCoreBist => exact hs.execFencedCoreBist
  | hartSwitch => exact hs.execHartSwitch
  | rasRetireCore => exact hs.execRasRetireCore
  | rasRetireCluster => exact hs.execRasRetireCluster
  | rasRetireSlice => exact hs.execRasRetireSlice
  | rasRetireEngine => exact hs.execRasRetireEngine
  | rasMoveHart => exact hs.execRasMoveHart
  | logRecord => exact hs.execLogRecord
  | coalescedReport => exact hs.execCoalescedReport
  | pldmResend => exact hs.execPldmResend
  | rasLogAckWrite => exact hs.execRasLogAckWrite
  | clNegDataAccess => exact hs.execClNegDataAccess
  | coreEntry => exact hs.execCoreEntry
  | clusterEntry => exact hs.execClusterEntry
  | packageSleepEntry => exact hs.execPackageSleepEntry
  | wakeEvent => exact hs.execWakeEvent
  | c1Exit => exact hs.execC1Exit
  | c2Exit => exact hs.execC2Exit
  | c3Exit => exact hs.execC3Exit
  | k1Exit => exact hs.execK1Exit
  | k2Exit => exact hs.execK2Exit
  | packageSleepExit => exact hs.execPackageSleepExit
  | pwrPkgWrite => exact hs.execPwrPkgWrite
  | dvfsTransition => exact hs.execDvfsTransition
  | dvfsTransitionEnd => exact hs.execDvfsTransitionEnd
  | vinCoreWarning => exact hs.execVinCoreWarning
  | stretchEnd => exact hs.execStretchEnd
  | vddAonWarning => exact hs.execVddAonWarning
  | vddAonRecovery => exact hs.execVddAonRecovery
  | thermalSample => exact hs.execThermalSample
  | thermalCapReview => exact hs.execThermalCapReview
  | prochotAssert => exact hs.execProchotAssert
  | coldReset cause => exact absurd rfl (hcold cause)
  | warmReset => exact hs.execWarmReset
  | pwrResetWard => exact hs.execPwrResetWard
  | refclkSysLoss => exact absurd rfl hloss
  | bootAon => exact hs.execBootAon
  | bootRom => exact hs.execBootRom
  | bootAuth => exact hs.execBootAuth
  | bootMesh => exact hs.execBootMesh
  | channelTrainingDone => exact hs.execChannelTrainingDone
  | channelZeroingDone => exact hs.execChannelZeroingDone
  | clusterBistDone => exact hs.execClusterBistDone
  | bootChannelReady => exact hs.execBootChannelReady
  | hashOpen => exact hs.execHashOpen
  | bootTimeout => exact hs.execBootTimeout
  | enec => exact hs.execEnec
  | disec => exact hs.execDisec
  | rstdaa value => exact hs.execRstdaa (value := value)
  | setdasa => exact hs.execSetdasa
  | setaasa value => exact hs.execSetaasa (value := value)
  | entdaa => exact hs.execEntdaa
  | setmwl => exact hs.execSetmwl
  | setmrl => exact hs.execSetmrl
  | getmwl value => exact hs.execGetmwl (value := value)
  | getmrl value => exact hs.execGetmrl (value := value)
  | getpid value => exact hs.execGetpid (value := value)
  | getbcr value => exact hs.execGetbcr (value := value)
  | getdcr value => exact hs.execGetdcr (value := value)
  | getstatus value => exact hs.execGetstatus (value := value)
  | rstact => exact hs.execRstact
  | mctpControlMessage => exact hs.execMctpControlMessage
  | pldmMessage => exact hs.execPldmMessage
  | mctpSpdmMessage => exact hs.execMctpSpdmMessage
  | bmcMbxRequest => exact hs.execBmcMbxRequest
  | extest => exact hs.execExtest
  | samplePreload => exact hs.execSamplePreload
  | idcode value => exact hs.execIdcode (value := value)
  | clamp value => exact hs.execClamp (value := value)
  | highz value => exact hs.execHighz (value := value)
  | dtmcs => exact hs.execDtmcs
  | dmi => exact hs.execDmi
  | slAddr => exact hs.execSlAddr
  | slData => exact hs.execSlData
  | bypass value => exact hs.execBypass (value := value)
  | prochotRelease => exact hs.execProchotRelease
  | writeJournalRelease => exact hs.execWriteJournalRelease
  | l2ArrayError => exact hs.execL2ArrayError
  | inboundCompletion => exact hs.execInboundCompletion
  | aerError => exact hs.execAerError
  | ideIntegrityCheckFailed => exact hs.execIdeIntegrityCheckFailed
  | tapReset => exact hs.execTapReset

/-- What a cold reset begins with, apart from the fuses, the oracle's count and the queue, is the reset state: its tables are empty. -/
theorem coldReset (s : State) (cause : Nat) :
    Follows { ward := { otp := s.ward.otp }, free := s.free, pending := s.pending } (s.coldReset cause) := by
  unfold State.coldReset
  exact .ite (refl _).setReg (refl _).setReg.setFld.setFld.setFld

end Follows

theorem canonical_coldReset (s : State) (cause : Nat) : Canonical (s.coldReset cause) :=
  (Follows.coldReset s cause).canonical ⟨rfl, rfl⟩

theorem pending_coldReset (s : State) (cause : Nat) : (s.coldReset cause).pending = s.pending :=
  (Follows.coldReset s cause).queue

theorem step_nil {s : State} (h : s.pending = []) : step s = .next { s with now := s.now + 1 } := by
  unfold step
  rw [h]

theorem step_cons {s : State} {c q} (h : s.pending = c :: q) : step s = exec c { s with pending := q } := by
  unfold step
  rw [h]

/-- A cold reset's command: it is for these two that a step may turn the clock back. -/
def ResetsCold (c : Instr) : Prop := (∃ cause, c = .coldReset cause) ∨ c = .refclkSysLoss

/-- A command that resets cold keeps the queue and leaves canonical tables; any other follows its state. -/
theorem exec_next {c : Instr} {s t : State} (h : exec c s = .next t) :
    (Canonical s → Canonical t) ∧ t.pending = s.pending ∧ (¬ ResetsCold c → s.now ≤ t.now) := by
  by_cases hc : ResetsCold c
  · have ⟨cause, ht⟩ : ∃ cause, s.coldReset cause = t := by
      obtain ⟨cause, rfl⟩ | rfl := hc
      · exact ⟨cause.val, by injection h⟩
      · exact ⟨0, by injection h⟩
    subst ht
    exact ⟨fun _ => canonical_coldReset s cause, pending_coldReset s cause, fun hn => absurd hc hn⟩
  · have ht := Follows.exec (c := c) (fun cause he => hc (.inl ⟨cause, he⟩)) (fun he => hc (.inr he)) (.refl s)
    rw [h] at ht
    exact ⟨ht.canonical, ht.queue, fun _ => ht.clock⟩

end Sys2Proof.Machine

namespace Sys2Proof.Machine

/-- Settles O60. A command that does not reset cold follows its state, an idle step only lets time pass, and a cold reset begins again with empty tables. -/
theorem everyStepKeepsTheMachineCanonical : Obligations.EveryStepKeepsTheMachineCanonical := by
  unfold Obligations.EveryStepKeepsTheMachineCanonical
  intro s t h
  cases hp : s.pending with
  | nil =>
    rw [step_nil hp] at h
    obtain rfl : { s with now := s.now + 1 } = t := by injection h
    exact ⟨id, hp, fun _ _ => Nat.le_succ s.now⟩
  | cons c q =>
    rw [step_cons hp] at h
    obtain ⟨hcanonical, hqueue, hclock⟩ := exec_next h
    refine ⟨hcanonical, hqueue, fun hcold hloss => hclock ?_⟩
    rintro (⟨cause, rfl⟩ | rfl)
    · exact hcold cause rfl
    · exact hloss rfl

/-- Settles O58, by the two equations of `step`. -/
theorem stepRunsTheFrontCommand : Obligations.StepRunsTheFrontCommand :=
  ⟨fun _ _ _ => step_cons rfl, fun _ => step_nil⟩

end Sys2Proof.Machine

/-! The Reset column (R11): the register a reset state holds at an offset of block b's page at stop n is read from the page that `blockAt` names
there, first from the values given by position, then from the field tables. -/

namespace Sys2Proof.Machine

theorem pageBase_eq (n b : Nat) : pageBase n b = 0x40000000 + n / 12 * 16777216 + n % 12 * 1048576 + b * 4096 := by
  simp only [pageBase, stopY, stopX, Nat.shiftLeft_eq]

/-- An address of a block's page gives back its stop, its block and its page. -/
theorem pageAt_block {n b off : Nat} (hn : n < 120) (hb : b < 256) (hoff : off < 4096) :
    pageAt (pageBase n b + off) = (blockAt n b).map fun q => ⟨pageBase n b, q.1, q.2.1, q.2.2.1, q.2.2.2⟩ := by
  have hbase := pageBase_eq n b
  have hregion : region (pageBase n b + off) = .keyway := by
    unfold region
    rw [if_neg (by omega), if_neg (by omega), if_pos (by omega)]
  have hy : bits (pageBase n b + off) 29 24 = n / 12 := by
    simp only [bits, Nat.shiftRight_eq_div_pow]
    omega
  have hx : bits (pageBase n b + off) 23 20 = n % 12 := by
    simp only [bits, Nat.shiftRight_eq_div_pow]
    omega
  have hblock : bits (pageBase n b + off) 19 12 = b := by
    simp only [bits, Nat.shiftRight_eq_div_pow]
    omega
  have hstop : stopAt (n % 12) (n / 12) = n := Nat.div_add_mod n 12
  unfold pageAt
  simp only [hregion, hy, hx, hblock, hstop]
  rw [if_neg (by omega)]
  cases blockAt n b <;> rfl

theorem reg_reset (a : Nat) : State.reset.reg a = (resetWord a).toNat := rfl

section
variable {n b off : Nat} {k : PageKind} {t i p : Nat} (hn : n < 120) (hb : b < 256) (hoff : off < 4096) (hat : blockAt n b = some (k, t, i, p))
include hn hb hoff hat

theorem pageAt_of_blockAt : pageAt (pageBase n b + off) = some ⟨pageBase n b, k, t, i, p⟩ := by
  rw [pageAt_block hn hb hoff, hat, Option.map_some]

/-- A register whose reset value its position gives. -/
theorem reg_reset_special {v : Nat} (hv : specialReset ⟨pageBase n b, k, t, i, p⟩ off = some v) :
    State.reset.reg (pageBase n b + off) = v % 2 ^ 64 := by
  rw [reg_reset, resetWord, pageAt_of_blockAt hn hb hoff hat]
  simp only [Nat.add_sub_cancel_left, hv, w64, BitVec.toNat_ofNat]

/-- A register whose reset value the field table gives. -/
theorem reg_reset_row {r : RegRow} {v : Nat} (hs : specialReset ⟨pageBase n b, k, t, i, p⟩ off = none) (hr : rowAt k off = some r)
    (hv : r.resetValue % 2 ^ 64 = v) : State.reset.reg (pageBase n b + off) = v := by
  rw [reg_reset, resetWord, pageAt_of_blockAt hn hb hoff hat]
  simp only [Nat.add_sub_cancel_left, hs, hr, w64, BitVec.toNat_ofNat, hv]

end

theorem blockAt_tileStop {c b : Nat} (hc : c < 96) : blockAt (tileStop c) b = tileBlock c b := by
  have htile : stopTile? (tileStop c) = some c := by
    unfold stopTile? tileStop
    rw [if_pos (by omega), Nat.add_sub_cancel]
  rw [blockAt, htile]

theorem tileBlock_core {c j : Nat} (hj : j < 4) : tileBlock c (0x02 + j) = some (.core, 0x003, 4 * c + j, 0) := by
  unfold tileBlock
  rw [if_neg (by omega), if_neg (by omega), if_pos (by omega), Nat.add_sub_cancel_left]

theorem tileStop_lt {c : Nat} (hc : c < 96) : tileStop c < 120 := by
  unfold tileStop
  omega

theorem fld_reset_hart0 {k : Nat} (hk : k < 384) : State.reset.fld (corePg k) R.CORE_RUN_HART0 = k := by
  have hat : blockAt (tileStop (k / 4)) (0x02 + k % 4) = some (.core, 0x003, k, 0) := by
    rw [blockAt_tileStop (by omega), tileBlock_core (by omega), Nat.div_add_mod]
  have hreg : State.reset.reg (corePg k + 0x108) = k % 2 ^ 64 :=
    reg_reset_special (tileStop_lt (by omega)) (by omega) (by omega) hat rfl
  simp only [State.fld, R.CORE_RUN_HART0, hreg, bits, Nat.shiftRight_zero]
  omega

theorem rowAt_pwrFreq {k : Nat} (hk : k < 384) :
    rowAt .pwr (0x200 + 8 * k) = some ⟨0x200, 384, 0x8, [⟨32, 32, .ro, 0⟩, ⟨31, 24, .ro, 0x24⟩, ⟨15, 8, .ro, 0x1a⟩, ⟨7, 0, .rw, 0x1a⟩]⟩ := by
  unfold rowAt
  rw [if_neg (by omega), if_neg (by rintro ⟨_, h⟩; exact h rfl)]
  unfold blockRegs pwrRegs
  rw [List.find?_cons_of_neg, List.find?_cons_of_neg, List.find?_cons_of_pos] <;>
  · simp only [RegRow.covers, Bool.and_eq_true, decide_eq_true_eq]
    omega

theorem reg_reset_pwrFreq {k : Nat} (hk : k < 384) : State.reset.reg (pwrPg + (0x200 + 8 * k)) = 0x24001a1a := by
  refine reg_reset_row (n := aonStop) (b := 0x41) (by decide) (by decide) (by omega) rfl ?_ (rowAt_pwrFreq hk) rfl
  unfold specialReset
  dsimp only
  rw [if_neg (by omega), if_neg (by omega), if_neg (by omega), if_neg (by omega), if_neg (by omega)]

theorem fld_reset_freqReq {k : Nat} (hk : k < 384) : State.reset.fld pwrPg (R.PWR_FREQ_REQ.nth k) = 26 := by
  simp only [State.fld, Field.nth, R.PWR_FREQ_REQ, reg_reset_pwrFreq hk]
  rfl

theorem fld_reset_freqCur {k : Nat} (hk : k < 384) : State.reset.fld pwrPg (R.PWR_FREQ_CUR.nth k) = 26 := by
  simp only [State.fld, Field.nth, R.PWR_FREQ_CUR, reg_reset_pwrFreq hk]
  rfl

theorem flag_reset_sliceEn {c : Nat} (hc : c < 96) : State.reset.flag (slicePg c) R.SLC_CTL_EN = false := by
  have hat : blockAt (tileStop c) 0x08 = some (.slice, 0x004, c, 0) := blockAt_tileStop hc
  have hreg : State.reset.reg (slicePg c + 0x100) = 0 := reg_reset_row (tileStop_lt hc) (by decide) (by decide) hat rfl rfl rfl
  simp only [State.flag, State.fld, R.SLC_CTL_EN, hreg]
  rfl

theorem blockAt_neg {c : Nat} (hc : c < 96) : blockAt (tileStop c) 0x21 = some (.neg, 0x002, c, 1) := blockAt_tileStop hc

theorem reg_reset_negSlot3 {c : Nat} (hc : c < 96) : State.reset.reg (negPg c + 0x118) = 2 ^ 63 + 4 * c + 3 := by
  have hreg : State.reset.reg (negPg c + 0x118) = (2 ^ 63 + 4 * c + 3) % 2 ^ 64 :=
    reg_reset_special (tileStop_lt hc) (by decide) (by decide) (blockAt_neg hc) rfl
  omega

theorem flag_reset_negValid3 {c : Nat} (hc : c < 96) : State.reset.flag (negPg c) (R.CL_NEG_SLOT_VALID.nth 3) = true := by
  simp only [State.flag, State.fld, Field.nth, R.CL_NEG_SLOT_VALID, reg_reset_negSlot3 hc, bits, Nat.shiftRight_eq_div_pow, beq_iff_eq]
  omega

theorem fld_reset_negHart3 {c : Nat} (hc : c < 96) : State.reset.fld (negPg c) (R.CL_NEG_SLOT_HART.nth 3) = 4 * c + 3 := by
  simp only [State.fld, Field.nth, R.CL_NEG_SLOT_HART, reg_reset_negSlot3 hc, bits, Nat.shiftRight_zero]
  omega

theorem flag_reset_negValid4 {c : Nat} (hc : c < 96) : State.reset.flag (negPg c) (R.CL_NEG_SLOT_VALID.nth 4) = false := by
  have hreg : State.reset.reg (negPg c + 0x120) = 0 := reg_reset_row (tileStop_lt hc) (by decide) (by decide) (blockAt_neg hc) rfl rfl rfl
  simp only [State.flag, State.fld, Field.nth, R.CL_NEG_SLOT_VALID, hreg]
  rfl

theorem blockAt_mbx {b : Nat} (hb : b < 32) : blockAt wardStop (0x40 + b) = some (.mbx, 0x030, b, 0) := by
  have hedge : blockAt wardStop (0x40 + b) = edgeBlock wardStop (0x40 + b) := rfl
  rw [hedge]
  unfold edgeBlock
  rw [if_neg (by omega), if_neg (by omega), if_neg (by omega), if_neg (by decide), if_neg (by decide), if_pos rfl]
  unfold wardBlock
  rw [if_pos (by omega), Nat.add_sub_cancel_left]

theorem fld_reset_mbxState {b : Nat} (hb : b < 32) : State.reset.fld (mbxPg b) R.WARD_MBX_STATUS_STATE = 0 := by
  have hreg : State.reset.reg (mbxPg b + 0x100) = 0 := reg_reset_row (by decide) (by omega) (by omega) (blockAt_mbx hb) rfl rfl rfl
  simp only [State.fld, R.WARD_MBX_STATUS_STATE, hreg]
  rfl

theorem exitLength_reset :
    State.reset.exitLength 0 = 30 ∧ State.reset.exitLength 1 = 700 ∧ State.reset.exitLength 2 = 100 ∧ State.reset.exitLength 3 = 1500 ∧
      State.reset.exitLength 4 = 10000 := ⟨rfl, rfl, rfl, rfl, rfl⟩

/-- Settles O59: the registers that stand once by evaluation, those of a family at every index through the page that `blockAt` names. -/
theorem resetState : Obligations.ResetState := by
  unfold Obligations.ResetState
  dsimp only
  refine ⟨⟨rfl, rfl⟩, rfl, rfl, rfl, fun _ => rfl, fun _ => rfl, rfl, reg_reset, rfl, rfl, rfl, rfl, rfl, rfl, rfl, rfl, exitLength_reset,
    fun k => ?_, fun c => ?_, by decide, fun b => fld_reset_mbxState b.isLt⟩
  · exact ⟨fld_reset_hart0 k.isLt, fld_reset_freqReq k.isLt, fld_reset_freqCur k.isLt⟩
  · exact ⟨flag_reset_sliceEn c.isLt, flag_reset_negValid3 c.isLt, flag_reset_negValid4 c.isLt, fld_reset_negHart3 c.isLt⟩

end Sys2Proof.Machine

/-! A slot of the mesh (R159): what it does in each of its cases, what it leaves alone, and that what it does for its class is a function of that class's
queue and of no other (R29). -/

namespace Sys2Proof.Machine

/-- Addresses outside the counter registers of the page at `pg` (R505). -/
def OffCounters (pg a : Nat) : Prop := a < pg + 0xE00 ∨ pg + 0x1000 ≤ a

/-- From `s` to `t` nothing has changed but the counters of page `pg` and the sources they raise (R98, R505). -/
structure CountsOnly (pg : Nat) (s t : State) : Prop where
  rest : { t with regs := s.regs, wires := s.wires } = s
  reg : ∀ a, OffCounters pg a → t.reg a = s.reg a

namespace CountsOnly

variable {pg : Nat} {s t : State}

theorem refl (pg : Nat) (s : State) : CountsOnly pg s s := ⟨rfl, fun _ _ => rfl⟩

theorem now (h : CountsOnly pg s t) : t.now = s.now := (congrArg State.now h.rest :)

theorem mesh (h : CountsOnly pg s t) : t.mesh = s.mesh := (congrArg State.mesh h.rest :)

theorem pulse {src : Nat} (h : CountsOnly pg s t) : CountsOnly pg s (t.pulse src) := by
  unfold State.pulse
  split
  · exact h
  · exact ⟨h.rest, h.reg⟩

section
variable (hpg : pg % 8 = 0)
include hpg

theorem setReg {off v : Nat} (h : CountsOnly pg s t) (hlo : 0xE00 ≤ off) (hhi : off < 0x1000) : CountsOnly pg s (t.setReg (pg + off) v) := by
  refine ⟨h.rest, fun a ha => ?_⟩
  rw [State.reg_setReg_ne _ _ (by unfold OffCounters at ha; omega), h.reg a ha]

theorem blind (h : CountsOnly pg s t) : CountsOnly pg s (t.blind pg) := h.setReg hpg (by decide) (by decide)

theorem countOne {ev um i : Nat} {cls : Option Nat} (hi : i < 8) (h : CountsOnly pg s t) : CountsOnly pg s (countOne pg ev cls um t i) := by
  have hadd {v} : CountsOnly pg s (t.setReg (pg + 0xE48 + 16 * i) v) := by
    rw [Nat.add_assoc]
    exact h.setReg hpg (by omega) (by omega)
  have hovf {v w} : CountsOnly pg s ((t.setReg (pg + 0xE48 + 16 * i) v).setReg (pg + 0xE08) w) := hadd.setReg hpg (by decide) (by decide)
  unfold Machine.countOne
  extract_lets
  split
  · split
    · exact hadd
    · split
      · split
        · exact hovf.pulse
        · exact hovf
      · exact hovf
  · exact h

/-- An event changes the counters of its page alone: the index of a SEL register found in the page is below 8 (R505). -/
theorem count (ev um : Nat) (cls : Option Nat) : CountsOnly pg s (s.count pg ev cls um) := by
  unfold State.count
  extract_lets on secure
  split
  · exact (refl pg s).blind hpg
  · split
    · exact refl pg s
    · refine List.foldlRecOn on _ (refl pg s) fun t ht e he => ht.countOne hpg ?_
      simp only [on, List.mem_filter, Bool.and_eq_true, decide_eq_true_eq] at he
      omega

end
end CountsOnly

theorem meshPg_mod (n : Nat) : meshPg n % 8 = 0 := by
  unfold meshPg
  have := pageBase_eq n 0x20
  omega

theorem blockAt_mesh {n : Nat} (hn : n < 120) : blockAt n 0x20 = some (.meshstop, 0x00A, n, 0) := by
  unfold blockAt stopTile?
  by_cases h : 12 ≤ n ∧ n < 108
  · rw [if_pos h]
    unfold tileBlock tileStop
    simp only [Nat.reduceEqDiff, Nat.reduceLeDiff, and_false, if_false, if_true, Nat.sub_add_cancel h.1]
  · rw [if_neg h]
    exact if_pos hn

theorem pageAt_meshPg {n : Nat} (hn : n < 120) : pageAt (meshPg n) = some ⟨meshPg n, .meshstop, 0x00A, n, 0⟩ := by
  have h := pageAt_of_blockAt (off := 0) hn (by decide) (by decide) (blockAt_mesh hn)
  rwa [Nat.add_zero] at h

/-- The Ward's bolt registers are none of a mesh stop's counters. -/
theorem offCounters_bolt (n : Nat) {off : Nat} (h : off < 0x1000) : OffCounters (meshPg n) (boltPg 0 + off) := by
  have hmesh := pageBase_eq n 0x20
  have hbolt := pageBase_eq wardStop (0x80 + 0)
  simp only [wardStop, stopAt] at hbolt
  unfold OffCounters meshPg boltPg
  simp only [wardStop, stopAt]
  omega

/-- A register written in two states reads alike in them wherever it did before. -/
theorem State.reg_setReg_congr {s u : State} {b : Nat} (a v : Nat) (h : u.reg b = s.reg b) : (u.setReg a v).reg b = (s.setReg a v).reg b := by
  by_cases hab : a / 8 = b / 8
  · simp only [State.reg, State.setReg, hab, Tab.set]
    split
    · simp only [Tab.get_del_self]
    · simp only [Tab.get_ins_self]
  · rw [State.reg_setReg_ne _ _ hab, State.reg_setReg_ne _ _ hab, h]

/-- The MS_LINK register of a plane lies below the counters of its page (R176). -/
theorem planeField_lt (p : Plane) : 0x420 + 8 * p.ix < 0xE00 := by
  cases p <;> decide

/-- The two states have the same instant, the same flits on their way and the same registers outside the counters of page `pg`. -/
structure MeshAlike (pg : Nat) (s u : State) : Prop where
  now : u.now = s.now
  moving : u.mesh.moving = s.mesh.moving
  reg : ∀ a, OffCounters pg a → u.reg a = s.reg a

namespace MeshAlike

section
variable {pg : Nat} {s t u v : State}

theorem setReg {a w : Nat} (h : MeshAlike pg s u) : MeshAlike pg (s.setReg a w) (u.setReg a w) :=
  ⟨h.now, h.moving, fun b hb => State.reg_setReg_congr a w (h.reg b hb)⟩

theorem putRec {p off : Nat} {r : Rec} (h : MeshAlike pg s u) : MeshAlike pg (s.putRec p off r) (u.putRec p off r) :=
  h.setReg.setReg.setReg.setReg

theorem pulse {src : Nat} (h : MeshAlike pg s u) : MeshAlike pg (s.pulse src) (u.pulse src) := by
  unfold State.pulse
  split <;> split <;> exact ⟨h.now, h.moving, h.reg⟩

theorem report {l m : List Rec} {c d : Tab (Nat × Nat)} (h : MeshAlike pg s u) :
    MeshAlike pg { s with reports := l, reported := c } { u with reports := m, reported := d } := ⟨h.now, h.moving, h.reg⟩

theorem drops {l m : List Dropped} (h : MeshAlike pg s u) :
    MeshAlike pg { s with mesh := { s.mesh with drops := l } } { u with mesh := { u.mesh with drops := m } } := ⟨h.now, h.moving, h.reg⟩

theorem moveMesh {l m : List Moving} (h : MeshAlike pg s u) (hlm : m = l) : MeshAlike pg (s.moveMesh l) (u.moveMesh m) := ⟨h.now, hlm, h.reg⟩

theorem countsOnly (h : MeshAlike pg s u) (hs : CountsOnly pg s t) (hu : CountsOnly pg u v) : MeshAlike pg t v where
  now := by rw [hs.now, hu.now, h.now]
  moving := by rw [hs.mesh, hu.mesh, h.moving]
  reg a ha := by rw [hs.reg a ha, hu.reg a ha, h.reg a ha]

theorem tb (h : MeshAlike pg s u) : u.tb = s.tb := by
  unfold State.tb
  rw [h.now]

theorem fld {f : Field} (h : MeshAlike pg s u) (hf : f.off < 0xE00) : u.fld pg f = s.fld pg f := by
  unfold State.fld
  rw [h.reg _ (.inl (Nat.add_lt_add_left hf pg))]

theorem recAt {off : Nat} (h : MeshAlike pg s u) (hoff : off < 0x100) : u.recAt pg off = s.recAt pg off := by
  unfold State.recAt
  rw [h.reg _ (.inl (by omega)), h.reg _ (.inl (by omega)), h.reg _ (.inl (by omega)), h.reg _ (.inl (by omega))]

/-- The record that two such states log is the same but for the counters: all it is made of is read outside them. -/
theorem record {p : Page} {sev code addr detail : Nat} {secure : Bool} (h : MeshAlike pg s u) (hp : pageAt pg = some p)
    (hsecure : u.securePage p = s.securePage p) :
    MeshAlike pg (s.record pg sev code addr detail secure) (u.record pg sev code addr detail secure) := by
  unfold State.record
  rw [hp]
  dsimp only
  rw [hsecure, h.reg (pg + 0x10) (.inl (by omega)), h.setReg.recAt (by decide), h.tb]
  split
  · exact h.setReg.putRec
  · split
    · exact h.setReg.putRec.putRec.report.pulse
    · exact h.setReg.putRec.putRec.report

end

section
variable {n : Nat} {s u : State} (h : MeshAlike (meshPg n) s u)
include h

theorem secureClass (k : Nat) : u.secureClass k = s.secureClass k := by
  unfold State.secureClass
  rw [h.reg _ (offCounters_bolt n (by decide))]

theorem securePage : u.securePage ⟨meshPg n, .meshstop, 0x00A, n, 0⟩ = s.securePage ⟨meshPg n, .meshstop, 0x00A, n, 0⟩ := by
  have hworld : u.flag (meshPg n) R.PG_BOLT_WORLD = s.flag (meshPg n) R.PG_BOLT_WORLD := by
    unfold State.flag
    rw [h.fld (by decide)]
  have hfpl : (PageKind.meshstop == .fpl) = false := rfl
  have hdmach : (PageKind.meshstop == .dmach) = false := rfl
  simp only [State.securePage, hworld, hfpl, hdmach, Bool.false_and]

theorem discardFlit {v : Moving} (hn : n < 120) (hv : v.at_ = n) : MeshAlike (meshPg n) (s.discardFlit v) (u.discardFlit v) := by
  subst hv
  have hspares := h.fld (f := R.MS_LINK_SPARES v.flit.plane.ix (dirTo v.at_ v.next)) (planeField_lt v.flit.plane)
  unfold State.discardFlit
  dsimp only
  rw [h.secureClass, hspares]
  exact .drops (h.record (pageAt_meshPg hn) h.securePage)

theorem enterLink {v : Moving} (hn : n < 120) (hv : v.at_ = n) : MeshAlike (meshPg n) (s.enterLink v) (u.enterLink v) := by
  unfold State.enterLink
  split
  · exact h.moveMesh (by rw [h.moving])
  · next d _ =>
    extract_lets w
    have hfailed : u.flag (meshPg v.at_) (R.MS_LINK_FAILED w.flit.plane.ix d) = s.flag (meshPg v.at_) (R.MS_LINK_FAILED w.flit.plane.ix d) := by
      subst hv
      unfold State.flag
      rw [h.fld (planeField_lt w.flit.plane)]
    rw [show w.at_ = v.at_ from rfl, hfailed]
    split
    · exact h.discardFlit hn hv
    · exact h.moveMesh (by rw [h.moving])

end

end MeshAlike

-- counting an event and entering a link leave the injection queues alone

@[simp] theorem State.mesh_pulse (s : State) (src : Nat) : (s.pulse src).mesh = s.mesh := by
  unfold State.pulse
  split <;> rfl

@[simp] theorem State.mesh_putRec (s : State) (pg off : Nat) (r : Rec) : (s.putRec pg off r).mesh = s.mesh := by
  simp only [State.putRec, State.setReg_frame]

@[simp] theorem State.mesh_record (s : State) (pg sev code addr detail : Nat) (secure : Bool) :
    (s.record pg sev code addr detail secure).mesh = s.mesh := by
  unfold State.record
  split
  · rfl
  · dsimp only
    split
    · simp only [State.mesh_putRec, State.setReg_frame]
    · split
      · simp only [State.mesh_pulse, State.mesh_putRec, State.setReg_frame]
      · simp only [State.mesh_putRec, State.setReg_frame]

@[simp] theorem State.injQueue_enterLink (s : State) (v : Moving) (n : Nat) (p : Plane) (k : Cls) :
    (s.enterLink v).injQueue n p k = s.injQueue n p k := by
  unfold State.enterLink
  split
  · rfl
  · extract_lets w
    split
    · simp only [State.injQueue, State.discardFlit, State.mesh_record]
    · rfl

@[simp] theorem State.injQueue_count (s : State) (m ev um n : Nat) (cls : Option Nat) (p : Plane) (k : Cls) :
    (s.count (meshPg m) ev cls um).injQueue n p k = s.injQueue n p k := by
  unfold State.injQueue
  rw [(CountsOnly.count (meshPg_mod m) ev um cls).mesh]

-- a slot

/-- The slot-table entry of this mclk (R158). -/
def State.slotEntry (s : State) (n : Nat) (p : Plane) : Nat := s.mesh.sched.entry n p.ix (s.mesh.slotAt s.now)

/-- The class of this mclk's slot (R158). -/
def State.slotClass (s : State) (n : Nat) (p : Plane) : Cls := Fin.ofNat 16 (bits (s.slotEntry n p) 59 56)

/-- Whether nothing can be injected in this mclk: the stops do not inject, the plane has injected already, or the slot is unused (R157, R159). -/
def State.slotShut (s : State) (n : Nat) (p : Plane) : Bool :=
  !s.mesh.injects s.now || Tab.get 0 s.mesh.injected (4 * n + p.ix) == s.now + 1 || !bitN (s.slotEntry n p) 63

/-- The flit the slot takes from its class's queue, and the others (R159). -/
def State.slotTake (s : State) (n : Nat) (p : Plane) : Option (Flit × List Flit) :=
  takeFirst (fun f => admits (s.slotEntry n p) n (s.mesh.reelAt s.now) f.dst.val) (s.injQueue n p (s.slotClass n p))

/-- What stays of a queue that `f` has left: a message of two flits stays with its data flit (R148). -/
def queueAfter (f : Flit) (rest : List Flit) : List Flit := if f.part = 1 then { f with part := 2 } :: rest else rest

/-- The state once `f` has left its class's queue. -/
def State.slotLeave (s : State) (n : Nat) (p : Plane) (f : Flit) (rest : List Flit) : State :=
  let s1 := s.setInjQueue n p (s.slotClass n p) (queueAfter f rest)
  { s1 with mesh := { s1.mesh with
    injected := Tab.ins (4 * n + p.ix) (s.now + 1) s1.mesh.injected
    freed := Tab.ins (queueKey n p (s.slotClass n p)) (s.now + 1) s1.mesh.freed } }

section
variable {s : State} {n : Nat} {p : Plane}

theorem State.inject_shut (h : s.slotShut n p = true) : s.inject n p = s := if_pos h

theorem State.inject_none (h : ¬ s.slotShut n p = true) (ht : s.slotTake n p = none) :
    s.inject n p = s.count (meshPg n) 0x05 (some (s.slotClass n p).val) 1 := by
  refine (if_neg h).trans ?_
  split
  · rfl
  · next htake => nomatch ht.symm.trans htake

theorem State.inject_some {f : Flit} {rest : List Flit} (h : ¬ s.slotShut n p = true) (ht : s.slotTake n p = some (f, rest)) :
    s.inject n p = ((s.slotLeave n p f rest).count (meshPg n) 0x01 (some (s.slotClass n p).val) 1).enterLink ⟨f, n, n, s.now + 2, 0, 0, false⟩ := by
  refine (if_neg h).trans ?_
  split
  · next htake => nomatch ht.symm.trans htake
  · next htake =>
    cases ht.symm.trans htake
    rfl

theorem State.injQueue_slotLeave {f : Flit} {rest : List Flit} : (s.slotLeave n p f rest).injQueue n p (s.slotClass n p) = queueAfter f rest :=
  Tab.get_set_self _ _ _ _

theorem State.injQueue_slotLeave_ne {f : Flit} {rest : List Flit} {j : Cls} (hj : j ≠ s.slotClass n p) :
    (s.slotLeave n p f rest).injQueue n p j = s.injQueue n p j := by
  refine Tab.get_set_ne _ _ _ _ fun h => hj (Fin.ext ?_)
  unfold queueKey at h
  omega

/-- A slot leaves the queues of every other class as they are (R159). -/
theorem State.injQueue_inject_ne {j : Cls} (hj : j ≠ s.slotClass n p) : (s.inject n p).injQueue n p j = s.injQueue n p j := by
  by_cases hshut : s.slotShut n p = true
  · rw [State.inject_shut hshut]
  · cases htake : s.slotTake n p with
    | none => rw [State.inject_none hshut htake, State.injQueue_count]
    | some x => rw [State.inject_some hshut htake, State.injQueue_enterLink, State.injQueue_count, State.injQueue_slotLeave_ne hj]

end

/-- The state with other injection queues. -/
def State.withQueues (u : State) (q : Tab (List Flit)) : State := { u with mesh := { u.mesh with queues := q } }

section
variable {u : State} {q : Tab (List Flit)} {n : Nat} {p : Plane}
  (hq : u.injQueue n p (u.slotClass n p) = (u.withQueues q).injQueue n p (u.slotClass n p))
include hq

theorem State.slotTake_withQueues : (u.withQueues q).slotTake n p = u.slotTake n p := by
  unfold State.slotTake
  rw [hq]
  rfl

/-- What the slot does to the flits on their way, the registers outside its counters and its own class's queue, other queues do not change (R29, R159). -/
theorem State.inject_withQueues (hn : n < 120) :
    MeshAlike (meshPg n) ((u.withQueues q).inject n p) (u.inject n p) ∧
      (u.inject n p).injQueue n p (u.slotClass n p) = ((u.withQueues q).inject n p).injQueue n p (u.slotClass n p) := by
  have halike : MeshAlike (meshPg n) (u.withQueues q) u := ⟨rfl, rfl, fun _ _ => rfl⟩
  by_cases hshut : u.slotShut n p = true
  · rw [State.inject_shut hshut, State.inject_shut (s := u.withQueues q) hshut]
    exact ⟨halike, hq⟩
  · cases htake : u.slotTake n p with
    | none =>
      rw [State.inject_none hshut htake, State.inject_none (s := u.withQueues q) hshut ((State.slotTake_withQueues hq).trans htake),
        State.injQueue_count, State.injQueue_count]
      exact ⟨halike.countsOnly (.count (meshPg_mod n) ..) (.count (meshPg_mod n) ..), hq⟩
    | some x =>
      rw [State.inject_some hshut htake, State.inject_some (s := u.withQueues q) hshut ((State.slotTake_withQueues hq).trans htake)]
      have hleave : MeshAlike (meshPg n) ((u.withQueues q).slotLeave n p x.1 x.2) (u.slotLeave n p x.1 x.2) := ⟨rfl, rfl, fun _ _ => rfl⟩
      refine ⟨(hleave.countsOnly (.count (meshPg_mod n) ..) (.count (meshPg_mod n) ..)).enterLink hn rfl, ?_⟩
      rw [State.injQueue_enterLink, State.injQueue_enterLink, State.injQueue_count, State.injQueue_count]
      exact State.injQueue_slotLeave.trans State.injQueue_slotLeave.symm

end

/-- Settles O39. Two states that differ in their queues alone take the same flit from the slot's queue, and what then happens to it reads nothing that the
other queues have a part in but the stop's counters. -/
theorem injectionKeepsClassesApart : Obligations.InjectionKeepsClassesApart := by
  unfold Obligations.InjectionKeepsClassesApart
  intro s u n p k hs hq
  obtain ⟨q, rfl⟩ : ∃ q, u.withQueues q = s := ⟨_, hs⟩
  obtain ⟨halike, hown⟩ := State.inject_withQueues hq n.isLt
  exact ⟨_, _, rfl, rfl, halike.moving, hown, halike.reg, fun j hj => ⟨State.injQueue_inject_ne hj, State.injQueue_inject_ne hj⟩⟩

end Sys2Proof.Machine

/-! An access of one register of a page (R39, R45, R534): what it names, its answer, a refusal, and the write of a block-specific register. -/

namespace Sys2Proof.Machine
open Safety

theorem pageAt_base_mod {a : Nat} {g : Page} (h : pageAt a = some g) : g.base % 4096 = 0 := by
  unfold pageAt at h
  split at h
  · dsimp only at h
    split at h
    · cases h
    · split at h
      · cases h
        dsimp only
        rw [pageBase_eq]
        omega
      · cases h
  · split at h
    · cases h
      simp only [targetBase, Nat.shiftLeft_eq]
      omega
    · cases h
  · cases h

-- an access fault (R45, R46)

/-- The registers apart from a page's PG_FAULT and PG_FAULT_INFO, and everything that is no register, are as they were. -/
theorem State.accessFault_frame (s : State) (pg b : Nat) (who : Requester) (off : Nat) (write : Bool) :
    { s.accessFault pg b who off write with regs := s.regs } = s := by
  unfold State.accessFault
  dsimp only
  split <;> rfl

theorem State.reg_accessFault_ne (s : State) {pg b a : Nat} (who : Requester) (off : Nat) (write : Bool)
    (hfault : (pg + 0x10) / 8 ≠ a / 8) (hinfo : (pg + 0x18) / 8 ≠ a / 8) : (s.accessFault pg b who off write).reg a = s.reg a := by
  unfold State.accessFault
  dsimp only
  split
  · rw [State.reg_setFld_ne _ _ hinfo, State.reg_setReg_ne _ _ hfault]
  · rw [State.reg_setReg_ne _ _ hinfo, State.reg_setReg_ne _ _ hfault]

/-- The fault's bit is set. -/
theorem State.reg_accessFault (s : State) {pg b : Nat} (who : Requester) (off : Nat) (write : Bool) (hb : b < 64) :
    ((s.accessFault pg b who off write).reg (pg + 0x10)).testBit b = true := by
  have hset : ((s.setReg (pg + 0x10) (s.reg (pg + 0x10) ||| 2 ^ b)).reg (pg + 0x10)).testBit b = true := by
    rw [State.reg_setReg, Nat.testBit_mod_two_pow]
    simp [hb]
  have hne : (pg + 0x18) / 8 ≠ (pg + 0x10) / 8 := by omega
  unfold State.accessFault
  dsimp only
  split
  · rwa [State.reg_setFld_ne _ _ hne]
  · rwa [State.reg_setReg_ne _ _ hne]

-- an access performed at once, and its answer (R39)

/-- The response of an access. -/
def pageAnswer (s : State) (p : PageReq) (data : Nat) (err : Bool) : Resp :=
  ⟨p.who, p.tag, p.addr, p.kind.writes, BitVec.ofNat 512 data, err, s.now⟩

section
variable {s t : State} {p : PageReq} {g : Page} {off b d : Nat}

theorem State.accessNow_of_performPage {e : Bool} (hon : s.power.off = false) (h : s.performPage p = ⟨t, d, e⟩) :
    s.accessNow p = t.respond (pageAnswer s p d e) := by
  unfold State.accessNow
  rw [hon, h]
  rfl

theorem answered_respond : Answered s (t.respond (pageAnswer s p d false)) p d := List.getLast?_concat ..

/-- A refusal that is no read of Safelight sets the page's fault bit, and changes only the page's fault registers. -/
theorem State.accessNow_refused (hon : s.power.off = false) (hvisible : p.kind.writes = true ∨ p.who.path ≠ .safelight) (hb : b < 64)
    (h : s.performPage p = s.refuseAccess g.base b p.who off p.kind.writes) :
    s.accessNow p = (s.accessFault g.base b p.who off p.kind.writes).respond (pageAnswer s p 0 true) ∧ Refused s (s.accessNow p) p g b ∧
      { s.accessNow p with regs := s.regs, resps := s.resps } = s := by
  have hshown : (p.who.path == .safelight && !p.kind.writes) = false := by
    rcases hvisible with hw | hp
    · simp [hw]
    · simp [hp]
  unfold State.refuseAccess at h
  rw [hshown] at h
  rw [State.accessNow_of_performPage hon h]
  refine ⟨rfl, ⟨List.getLast?_concat .., State.reg_accessFault s p.who off p.kind.writes hb⟩, ?_⟩
  exact congrArg (fun u : State => { u with resps := s.resps }) (s.accessFault_frame g.base b p.who off p.kind.writes)

-- what an access that names a register does (R534)

theorem names_offset {p : PageReq} (h : Names s p g off) : p.addr.toNat % 4096 = off := by
  obtain ⟨-, -, haddr, hat, hoff, -⟩ := h
  have := pageAt_base_mod hat
  omega

theorem names_base_mod (h : Names s p g off) : g.base % 4096 = 0 := by
  obtain ⟨-, -, -, hat, -⟩ := h
  exact pageAt_base_mod hat

theorem names_sized (h : Names s p g off) : Names s { p with size := 8 } g off := by
  obtain ⟨hon, hpath, haddr, hat, hoff, hal, -⟩ := h
  exact ⟨hon, hpath, haddr, hat, hoff, hal, rfl⟩

/-- Harts, the Ward, the BMC and Safelight reach pages (R32). -/
theorem names_reaches (h : Names s p g off) : ¬(p.who.path = .engine ∨ p.who.path = .dma ∨ p.who.path = .fabric) := by
  obtain ⟨-, hpath, -⟩ := h
  rcases hpath with e | e | e | e <;> simp [e]

/-- An access that is no load or store, or not of 8 bytes, is refused with ACCESS. -/
theorem State.performPage_misformed (h : Names s { p with size := 8 } g off) (hbad : (p.kind ≠ .load ∧ p.kind ≠ .store) ∨ p.size ≠ 8) :
    s.performPage p = s.refuseAccess g.base FAULT_ACCESS p.who off p.kind.writes := by
  have hreaches := names_reaches h
  have hoffset := names_offset h
  obtain ⟨-, -, -, hat, -⟩ := h
  dsimp only at hat hreaches hoffset
  unfold State.performPage
  dsimp only
  rw [if_neg hreaches, hat]
  dsimp only
  rw [if_pos (hbad.imp_right .inl), hoffset]

section
variable (h : Names s p g off)
include h

theorem State.performPage_load (hk : p.kind = .load) : s.performPage p = s.pageRead p g off := by
  have hreaches := names_reaches h
  have hoffset := names_offset h
  obtain ⟨-, -, -, hat, -, hal, hsize⟩ := h
  unfold State.performPage
  simp [hreaches, hat, hoffset, hal, hsize, hk, AccKind.writes]

theorem State.performPage_header_ok (hk : p.kind = .store) (hoff : off < 0x100) (hw : s.headerWrite g off p.who p.data.toNat = .ok t) :
    s.performPage p = ⟨t, 0, false⟩ := by
  have hreaches := names_reaches h
  have hoffset := names_offset h
  obtain ⟨-, -, -, hat, -, hal, hsize⟩ := h
  unfold State.performPage
  simp [hreaches, hat, hoffset, hal, hsize, hk, AccKind.writes, hoff, hw]

theorem State.performPage_header_no (hk : p.kind = .store) (hoff : off < 0x100) (hw : s.headerWrite g off p.who p.data.toNat = .no b t) :
    s.performPage p = t.refuseAccess g.base b p.who off p.kind.writes := by
  have hreaches := names_reaches h
  have hoffset := names_offset h
  obtain ⟨-, -, -, hat, -, hal, hsize⟩ := h
  unfold State.performPage
  simp [hreaches, hat, hoffset, hal, hsize, hk, AccKind.writes, hoff, hw]

theorem State.performPage_block (hk : p.kind = .store) (hoff : 0x100 ≤ off) : s.performPage p = s.blockWrite p g off := by
  have hreaches := names_reaches h
  have hoffset := names_offset h
  obtain ⟨-, -, -, hat, -, hal, hsize⟩ := h
  unfold State.performPage
  simp [hreaches, hat, hoffset, hal, hsize, hk, AccKind.writes, Nat.not_lt.mpr hoff]

end

/-- A command that names the register is the access itself. -/
theorem State.regCommand_names {w : Bool} {k : PageKind → Bool} {f : Nat → Nat → Bool} (h : Names s p g off) (hw : p.kind.writes = w)
    (hk : k g.kind = true) (hf : f off p.data.toNat = true) : s.regCommand p w k f = s.accessNow p := by
  have hoffset := names_offset h
  obtain ⟨-, -, -, hat, -⟩ := h
  unfold State.regCommand names
  simp [hw, hat, hk, hoffset, hf]

-- the write of a block-specific register

theorem State.blockWrite_hole (hrow : rowAt g.kind off = none) : s.blockWrite p g off = ⟨s, 0, false⟩ := by
  unfold State.blockWrite
  rw [hrow]

/-- A page of the secure world refuses a writer of the normal world. -/
theorem State.blockWrite_world (hrow : (rowAt g.kind off).isSome) (hsec : s.securePage g = true) (hw : s.writesSecure p.who = false) :
    s.blockWrite p g off = s.refuseAccess g.base FAULT_LOCKED p.who off true := by
  obtain ⟨r, hr⟩ := Option.isSome_iff_exists.mp hrow
  unfold State.blockWrite
  simp [hr, hsec, hw]

/-- Where the page's world and the bolt pass, the register's own rule, READY and the block decide, in this order. -/
theorem State.blockWrite_checks {r : RegRow} {e : RegEffect} (hrow : rowAt g.kind off = some r)
    (hworld : s.securePage g = true → s.writesSecure p.who = true)
    (hbolt : s.bolted = true → r.changesRwb (s.reg (g.base + off)) (s.keptValue g off p.data.toNat) = false)
    (he : s.regEffect g off p.who (s.keptValue g off p.data.toNat) = e) :
    (e.locked = true → s.blockWrite p g off = s.refuseAccess g.base FAULT_LOCKED p.who off true) ∧
    (e.locked = false → e.admitted = false → s.blockWrite p g off = s.refuseAccess g.base FAULT_ACCESS p.who off true) ∧
    (e.locked = false → e.admitted = true → s.ready g = false → s.blockWrite p g off = s.refuseAccess g.base FAULT_NOINIT p.who off true) ∧
    (e.locked = false → e.admitted = true → s.ready g = true → e.act = .no b t →
      s.blockWrite p g off = t.refuseAccess g.base b p.who off true) ∧
    (e.locked = false → e.admitted = true → s.ready g = true → s.rests g = false → e.act = .ok t → s.blockWrite p g off = ⟨t, 0, false⟩) := by
  have hnormal : (s.securePage g && !s.writesSecure p.who) = false := by
    cases hsec : s.securePage g
    · rfl
    · simp [hworld hsec]
  have hrwb : (s.bolted && r.changesRwb (s.reg (g.base + off)) (s.keptValue g off p.data.toNat)) = false := by
    cases hb : s.bolted
    · rfl
    · simp [hbolt hb]
  unfold State.blockWrite
  simp only [hrow, hnormal, hrwb, he]
  refine ⟨fun hl => ?_, fun hl ha => ?_, fun hl ha hr => ?_, fun hl ha hr hno => ?_, fun hl ha hr hrest hok => ?_⟩
  · simp [hl]
  · simp [hl, ha]
  · simp [hl, ha, hr]
  · simp [hl, ha, hr, hno]
  · simp [hl, ha, hr, hrest, hok]

section
variable (h : Stores s p g off)
include h

theorem State.blockWrite_locked (hlocked : (s.regEffect g off p.who (s.keptValue g off p.data.toNat)).locked = true) :
    s.blockWrite p g off = s.refuseAccess g.base FAULT_LOCKED p.who off true := by
  obtain ⟨-, -, -, hworld, -, -, r, hrow, hbolt⟩ := h
  exact (State.blockWrite_checks (b := 0) (t := s) hrow hworld hbolt rfl).1 hlocked

theorem State.blockWrite_notAdmitted (hlocked : (s.regEffect g off p.who (s.keptValue g off p.data.toNat)).locked = false)
    (hadmitted : (s.regEffect g off p.who (s.keptValue g off p.data.toNat)).admitted = false) :
    s.blockWrite p g off = s.refuseAccess g.base FAULT_ACCESS p.who off true := by
  obtain ⟨-, -, -, hworld, -, -, r, hrow, hbolt⟩ := h
  exact (State.blockWrite_checks (b := 0) (t := s) hrow hworld hbolt rfl).2.1 hlocked hadmitted

/-- A store that its block admits is performed and answered without data. -/
theorem State.accessNow_stores (hlocked : (s.regEffect g off p.who (s.keptValue g off p.data.toNat)).locked = false)
    (hadmitted : (s.regEffect g off p.who (s.keptValue g off p.data.toNat)).admitted = true)
    (hact : (s.regEffect g off p.who (s.keptValue g off p.data.toNat)).act = .ok t) :
    s.accessNow p = t.respond (pageAnswer s p 0 false) := by
  obtain ⟨hnames, hk, hoff, hworld, hready, hrests, r, hrow, hbolt⟩ := h
  obtain ⟨-, -, -, -, hperformed⟩ := State.blockWrite_checks (b := 0) hrow hworld hbolt rfl
  exact State.accessNow_of_performPage hnames.1
    ((State.performPage_block hnames hk hoff).trans (hperformed hlocked hadmitted hready hrests hact))

/-- A store that its block refuses sets the fault bit. -/
theorem State.accessNow_stores_refused (hb : b < 64) (hno : s.blockWrite p g off = s.refuseAccess g.base b p.who off true) :
    s.accessNow p = (s.accessFault g.base b p.who off true).respond (pageAnswer s p 0 true) ∧ Refused s (s.accessNow p) p g b ∧
      { s.accessNow p with regs := s.regs, resps := s.resps } = s := by
  obtain ⟨hnames, hk, hoff, -⟩ := h
  have hw : p.kind.writes = true := by rw [hk]; rfl
  have hperf := (State.performPage_block hnames hk hoff).trans hno
  have hrefused := State.accessNow_refused hnames.1 (.inl hw) hb (by rw [hperf, hw])
  rwa [hw] at hrefused

end

end

end Sys2Proof.Machine
namespace Sys2Proof.Machine
open Safety

/-! The keyway (O26). -/

/-- The Ward's read of the first page of the keyway. -/
def wardRead : PageReq := ⟨wardReq, 0x40000000, .load, 8, 0, 0, 0⟩

/-- The part just after cold reset, with the Ward marked as running although no boot step is done. -/
def earlyWard : State := { ward := { running := true } }

/-- Before boot step 2 a root request of the Ward is ignored. -/
theorem exec_keywayRootRequest_earlyWard : exec (.keywayRootRequest wardRead) earlyWard = .next earlyWard := rfl

/-- Refutes O26: a root request of the Ward that has not reached boot step 2 joins no queue, although the Ward runs. -/
theorem not_keywayAndHinges : ¬ Obligations.KeywayAndHinges := by
  unfold Obligations.KeywayAndHinges
  rintro ⟨-, hroot, -⟩
  obtain ⟨hward, -⟩ := hroot earlyWard wardRead 0 rfl (by decide)
  obtain ⟨t, ht, hq, -⟩ := hward rfl rfl
  obtain rfl : earlyWard = t := by
    rw [exec_keywayRootRequest_earlyWard] at ht
    exact Host.Outcome.next.inj ht
  have hlen := congrArg List.length hq
  simp at hlen

end Sys2Proof.Machine

/-! What a plain write leaves in a register (R9): each field by its access code, and the bits of no field as they were. -/

namespace Sys2Proof.Machine
open Safety

theorem bits_eq_mod {w hi lo n : Nat} (h : hi < n) (hlo : lo ≤ hi) : bits (w % 2 ^ n) hi lo = bits w hi lo := by
  obtain ⟨m, rfl⟩ : ∃ m, n = lo + m := ⟨n - lo, by omega⟩
  unfold bits
  rw [Nat.shiftRight_eq_div_pow, Nat.shiftRight_eq_div_pow, pow_add, Nat.mod_mul_right_div_self,
    Nat.mod_mod_of_dvd _ (pow_dvd_pow 2 (by omega))]

/-- The field below a place is that of the number without what stands from there on. -/
theorem bits_below {w q n hi lo : Nat} (h : hi < n) (hlo : lo ≤ hi) : bits (q * 2 ^ n + w) hi lo = bits w hi lo := by
  rw [← bits_eq_mod (n := n) h hlo, ← bits_eq_mod (w := w) (n := n) h hlo, Nat.add_comm, Nat.add_mul_mod_self_right]

/-- Storing a field leaves every field apart from it. -/
theorem bits_putBits_apart {w hi lo v hi' lo' : Nat} (h : lo ≤ hi) (h' : lo' ≤ hi') (hapart : hi < lo' ∨ hi' < lo) :
    bits (putBits w hi lo v) hi' lo' = bits w hi' lo' := by
  rw [putBits_eq w hi lo v h]
  rcases hapart with habove | hbelow
  · obtain ⟨m, rfl⟩ : ∃ m, lo' = hi + 1 + m := ⟨lo' - (hi + 1), by omega⟩
    have hpow : 2 ^ (hi + 1) = 2 ^ (hi + 1 - lo) * 2 ^ lo := by rw [← pow_add]; congr 1; omega
    have hlow : ∀ x, x < 2 ^ (hi + 1 - lo) → x * 2 ^ lo + w % 2 ^ lo < 2 ^ (hi + 1) := fun x hx => by
      have hmod : w % 2 ^ lo < 2 ^ lo := Nat.mod_lt _ (by positivity)
      calc x * 2 ^ lo + w % 2 ^ lo < (x + 1) * 2 ^ lo := by rw [Nat.add_mul, Nat.one_mul]; omega
        _ ≤ 2 ^ (hi + 1) := by rw [hpow]; exact Nat.mul_le_mul_right _ hx
    have hdiv : ∀ x, x < 2 ^ (hi + 1 - lo) → (w / 2 ^ (hi + 1) * 2 ^ (hi + 1) + x * 2 ^ lo + w % 2 ^ lo) / 2 ^ (hi + 1) = w / 2 ^ (hi + 1) :=
      fun x hx => by
        rw [Nat.add_assoc, Nat.add_comm, Nat.add_mul_div_right _ _ (by positivity), Nat.div_eq_of_lt (hlow x hx), Nat.zero_add]
    unfold bits
    rw [Nat.shiftRight_eq_div_pow, Nat.shiftRight_eq_div_pow, Nat.pow_add 2 (hi + 1) m, ← Nat.div_div_eq_div_mul, ← Nat.div_div_eq_div_mul,
      hdiv _ (Nat.mod_lt _ (by positivity))]
  · have hpow : ∀ x y, x * 2 ^ (hi + 1) + y * 2 ^ lo + w % 2 ^ lo = (x * 2 ^ (hi + 1 - lo) + y) * 2 ^ lo + w % 2 ^ lo := fun x y => by
      have hp : 2 ^ (hi + 1) = 2 ^ (hi + 1 - lo) * 2 ^ lo := by rw [← pow_add]; congr 1; omega
      rw [hp]
      ring
    rw [hpow, bits_below hbelow h']
    exact bits_eq_mod hbelow h'

theorem testBit_eq_bits (w i : Nat) : w.testBit i = (bits w i i == 1) := by
  unfold bits
  rw [Nat.add_sub_cancel_left, pow_one, Nat.testBit_eq_decide_div_mod_eq, Nat.shiftRight_eq_div_pow]
  rfl

/-- What a field holds after a plain write (R9). -/
def FieldRow.taken (f : FieldRow) (old v : Nat) : Nat :=
  match f.acc with
  | .rw | .rwb => bits v f.hi f.lo
  | .w1c => bits old f.hi f.lo - (bits old f.hi f.lo &&& bits v f.hi f.lo)
  | .w1s => bits old f.hi f.lo ||| bits v f.hi f.lo
  | .wo => 0
  | .ro | .rc => bits old f.hi f.lo

theorem FieldRow.taken_lt (f : FieldRow) (old v : Nat) : f.taken old v < 2 ^ (f.hi + 1 - f.lo) := by
  have hold := bits_lt old f.hi f.lo
  have hv := bits_lt v f.hi f.lo
  unfold FieldRow.taken
  split
  · exact hv
  · exact hv
  · exact Nat.lt_of_le_of_lt (Nat.sub_le _ _) hold
  · exact Nat.or_lt_two_pow hold hv
  · positivity
  · exact hold
  · exact hold

/-- The fields of a row lie in the register, and apart from one another. -/
def FieldsApart (l : List FieldRow) : Prop :=
  (∀ f ∈ l, f.lo ≤ f.hi ∧ f.hi < 64) ∧ l.Pairwise fun f g => f.hi < g.lo ∨ g.hi < f.lo

/-- One field's part in a plain write of a register that holds `old`. -/
def FieldRow.writeIn (f : FieldRow) (old v w : Nat) : Nat :=
  match f.acc with
  | .rw | .rwb => putBits w f.hi f.lo (bits v f.hi f.lo)
  | .w1c => putBits w f.hi f.lo (bits old f.hi f.lo - (bits old f.hi f.lo &&& bits v f.hi f.lo))
  | .w1s => putBits w f.hi f.lo (bits old f.hi f.lo ||| bits v f.hi f.lo)
  | .wo => putBits w f.hi f.lo 0
  | .ro | .rc => w

theorem RegRow.written_eq (r : RegRow) (old v : Nat) : r.written old v = r.fields.foldl (fun w f => f.writeIn old v w) old := rfl

/-- A field's part in a write either stores what the field takes, or leaves what it holds. -/
theorem FieldRow.writeIn_cases (f : FieldRow) (old v w : Nat) :
    f.writeIn old v w = putBits w f.hi f.lo (f.taken old v) ∨ (f.writeIn old v w = w ∧ f.taken old v = bits old f.hi f.lo) := by
  cases hacc : f.acc <;> simp [FieldRow.writeIn, FieldRow.taken, hacc]

theorem bits_writeIn_apart {f : FieldRow} {old v w hi lo : Nat} (hf : f.lo ≤ f.hi) (h : lo ≤ hi) (hapart : f.hi < lo ∨ hi < f.lo) :
    bits (f.writeIn old v w) hi lo = bits w hi lo := by
  rcases f.writeIn_cases old v w with e | ⟨e, -⟩
  · rw [e, bits_putBits_apart hf h hapart]
  · rw [e]

theorem bits_writeIn {f : FieldRow} {old v w : Nat} (hf : f.lo ≤ f.hi) (hw : bits w f.hi f.lo = bits old f.hi f.lo) :
    bits (f.writeIn old v w) f.hi f.lo = f.taken old v := by
  rcases f.writeIn_cases old v w with e | ⟨e, ht⟩
  · rw [e, bits_putBits _ _ _ _ hf, Nat.mod_eq_of_lt (f.taken_lt old v)]
  · rw [e, ht, hw]

/-- Bits apart from every field of a list stay. -/
theorem bits_foldl_apart {old v hi lo : Nat} (h : lo ≤ hi) (l : List FieldRow) (hl : ∀ f ∈ l, f.lo ≤ f.hi ∧ (f.hi < lo ∨ hi < f.lo)) (w : Nat) :
    bits (l.foldl (fun w f => f.writeIn old v w) w) hi lo = bits w hi lo := by
  induction l generalizing w with
  | nil => rfl
  | cons f l ih =>
    obtain ⟨hf, hapart⟩ := hl f List.mem_cons_self
    rw [List.foldl_cons, ih (fun g hg => hl g (List.mem_cons_of_mem _ hg)), bits_writeIn_apart hf h hapart]

/-- Each field of a list holds what it takes, if it held the old value before. -/
theorem bits_foldl_taken {old v : Nat} (l : List FieldRow) (hl : FieldsApart l) (w : Nat)
    (hw : ∀ f ∈ l, bits w f.hi f.lo = bits old f.hi f.lo) {f : FieldRow} (hf : f ∈ l) :
    bits (l.foldl (fun w f => f.writeIn old v w) w) f.hi f.lo = f.taken old v := by
  induction l generalizing w with
  | nil => cases hf
  | cons g l ih =>
    obtain ⟨hin, hpair⟩ := hl
    obtain ⟨hg, -⟩ := hin g List.mem_cons_self
    obtain ⟨hgl, hpair⟩ := List.pairwise_cons.mp hpair
    have hinl : ∀ f ∈ l, f.lo ≤ f.hi ∧ f.hi < 64 := fun f h => hin f (List.mem_cons_of_mem _ h)
    rw [List.foldl_cons]
    rcases List.mem_cons.mp hf with rfl | hfl
    · rw [bits_foldl_apart hg l (fun h hh => ⟨(hinl h hh).1, (hgl h hh).symm⟩), bits_writeIn hg (hw f List.mem_cons_self)]
    · refine ih ⟨hinl, hpair⟩ _ (fun h hh => ?_) hfl
      rw [bits_writeIn_apart hg (hinl h hh).1 (hgl h hh)]
      exact hw h (List.mem_cons_of_mem _ hh)

theorem writeIn_foldl_lt {old v : Nat} (l : List FieldRow) (hl : ∀ f ∈ l, f.lo ≤ f.hi ∧ f.hi < 64) {w : Nat} (hw : w < 2 ^ 64) :
    l.foldl (fun w f => f.writeIn old v w) w < 2 ^ 64 := by
  induction l generalizing w with
  | nil => exact hw
  | cons f l ih =>
    obtain ⟨hf, hf64⟩ := hl f List.mem_cons_self
    refine ih (fun g hg => hl g (List.mem_cons_of_mem _ hg)) ?_
    dsimp only
    rcases f.writeIn_cases old v w with e | ⟨e, -⟩
    · rw [e]
      exact putBits_lt _ _ _ _ 64 hf hw hf64
    · rwa [e]

section
variable {r : RegRow} {old v : Nat} (hr : FieldsApart r.fields)
include hr

theorem RegRow.written_lt (hold : old < 2 ^ 64) : r.written old v < 2 ^ 64 := by
  rw [RegRow.written_eq]
  exact writeIn_foldl_lt _ hr.1 hold

theorem RegRow.takesField_written {f : FieldRow} (hf : f ∈ r.fields) : TakesField f old (r.written old v) v := by
  have htaken : bits (r.written old v) f.hi f.lo = f.taken old v := by
    rw [RegRow.written_eq]
    exact bits_foldl_taken _ hr _ (fun _ _ => rfl) hf
  unfold TakesField
  rw [htaken]
  unfold FieldRow.taken
  cases f.acc <;> rfl

theorem RegRow.testBit_written {i : Nat} (hi : ∀ f ∈ r.fields, i < f.lo ∨ f.hi < i) :
    (r.written old v).testBit i = old.testBit i := by
  rw [RegRow.written_eq, testBit_eq_bits, testBit_eq_bits,
    bits_foldl_apart (Nat.le_refl i) _ (fun f hf => ⟨(hr.1 f hf).1, (hi f hf).symm⟩)]

end

-- registers that do nothing but hold their fields (R289, R476, R478, R506)

/-- The fields of the registers of a list of rows lie apart. -/
def RowsApart (l : List RegRow) : Prop := ∀ r ∈ l, FieldsApart r.fields

theorem rowsApart_aon : RowsApart aonRegs := by unfold RowsApart FieldsApart; decide
theorem rowsApart_dwemon : RowsApart dwemonRegs := by unfold RowsApart FieldsApart; decide
theorem rowsApart_pwr : RowsApart pwrRegs := by unfold RowsApart FieldsApart; decide
theorem rowsApart_cnt : RowsApart cntRegs := by unfold RowsApart FieldsApart; decide

theorem rowAt_block {k : PageKind} {off : Nat} {r : RegRow} (hoff : 0x100 ≤ off) (hcnt : counterCount k = 0 ∨ off < 0xE00)
    (h : rowAt k off = some r) : r ∈ blockRegs k := by
  unfold rowAt at h
  rw [if_neg (by omega), if_neg (by omega)] at h
  exact List.mem_of_find?_eq_some h

theorem fieldsApart_counter {k : PageKind} {off : Nat} {r : RegRow} (hcnt : counterCount k ≠ 0) (hoff : 0xE00 ≤ off)
    (h : rowAt k off = some r) : FieldsApart r.fields := by
  unfold rowAt at h
  rw [if_neg (by omega), if_pos ⟨hoff, hcnt⟩] at h
  obtain ⟨q, hq, rfl⟩ := List.mem_map.mp (List.mem_of_find?_eq_some h)
  split
  · exact rowsApart_cnt q hq
  · exact rowsApart_cnt q hq

section
variable {s t : State} {p : PageReq} {g : Page} {off v : Nat} {who : Requester}

theorem fieldsApart_of_fieldsOnly {r : RegRow} (h : FieldsOnly g off who v) (hoff : 0x100 ≤ off) (hr : rowAt g.kind off = some r) :
    FieldsApart r.fields := by
  obtain ⟨-, hk | ⟨hk, hlt, -⟩ | ⟨hcnt, hge, -⟩ | ⟨hk, -⟩⟩ := h
  · rw [hk] at hr
    exact rowsApart_aon r (rowAt_block hoff (.inl rfl) hr)
  · rw [hk] at hr
    exact rowsApart_dwemon r (rowAt_block hoff (.inr hlt) hr)
  · exact fieldsApart_counter hcnt (by omega) hr
  · rw [hk] at hr
    exact rowsApart_pwr r (rowAt_block hoff (.inl rfl) hr)

theorem State.keptValue_of_fieldsOnly (h : FieldsOnly g off who v) : s.keptValue g off v = v := by
  obtain ⟨-, hk | ⟨hk, -⟩ | ⟨hcnt, hge, -⟩ | ⟨hk, -⟩⟩ := h
  · simp [State.keptValue, hk]
  · simp [State.keptValue, hk]
  · unfold State.keptValue
    split
    · rw [if_neg (by omega)]
    · rw [if_neg (by omega)]
    · rw [if_neg (by omega)]
    · rfl
  · simp [State.keptValue, hk]

/-- Such a register is written plainly, by a writer that its rule admits. -/
theorem State.regEffect_of_fieldsOnly (h : FieldsOnly g off who v) :
    s.regEffect g off who v = { admitted := true, act := .ok (s.plainWrite g off v) } := by
  have hplain : s.plainFor true g off v = { admitted := true, act := .ok (s.plainWrite g off v) } := rfl
  unfold State.regEffect
  obtain ⟨hwho, hk | ⟨hk, hlt, hhctx, hhalt⟩ | ⟨hcnt, hge, hmod⟩ | ⟨hk, hlo, hhi, hmin, hmax⟩⟩ := h
  · rw [if_neg (by rw [hk]; rintro ⟨-, e⟩; exact e rfl)]
    simp [State.ownEffect, hk, hwho, hplain]
  · rw [if_neg (by omega)]
    simp [State.ownEffect, hk, State.dwemonPageWrite, hhctx, hhalt, hwho, hplain]
  · rw [if_pos ⟨by omega, hcnt⟩]
    unfold State.cntPageWrite
    rw [if_neg (by omega), if_neg (by omega), hwho, hplain]
  · have hfreq : ¬(bits v 7 0 < 8 ∨ 36 < bits v 7 0) := by
      have hbyte : bits v 7 0 = v % 256 := by simp [bits]
      omega
    rw [if_neg (by omega)]
    unfold State.ownEffect State.pwrPageWrite
    rw [hk]
    dsimp only
    rw [if_neg (by omega), if_neg (by omega), if_neg (by omega), if_neg (by omega), if_pos ⟨hlo, hhi⟩, if_neg hfreq, hwho, hplain]
    rfl

theorem State.plainWrite_row {r : RegRow} (hr : rowAt g.kind off = some r) :
    s.plainWrite g off v = s.setReg (g.base + off) (r.written (s.reg (g.base + off)) v) := by
  unfold State.plainWrite
  rw [hr]

/-- R9: a store to such a register gives each field what its access code takes, and leaves everything else but the answer. -/
theorem State.accessNow_fieldsOnly (h : Stores s p g off) (hf : FieldsOnly g off p.who p.data.toNat) :
    s.accessNow p = (s.plainWrite g off p.data.toNat).respond (pageAnswer s p 0 false) := by
  have hkept : s.keptValue g off p.data.toNat = p.data.toNat := State.keptValue_of_fieldsOnly hf
  have heffect := s.regEffect_of_fieldsOnly hf
  refine State.accessNow_stores h ?_ ?_ ?_ <;> rw [hkept, heffect]

-- the commands (R534)

theorem exec_registerWrite (p : PageReq) (s : State) :
    exec (.registerWrite p) s = .next (if p.kind.writes then s.accessNow p else s) := rfl

theorem gives_registerWrite {P : State → Prop} (hw : p.kind.writes = true) (h : P (s.accessNow p)) : Gives (.registerWrite p) s P :=
  ⟨_, by rw [exec_registerWrite, if_pos hw], h⟩

/-- A refused write as the statements put it. -/
theorem gives_registerWrite_refused {b : Nat} (hon : s.power.off = false) (hw : p.kind.writes = true) (hb : b < 64)
    (h : s.performPage p = s.refuseAccess g.base b p.who off true) :
    Gives (.registerWrite p) s fun t => Refused s t p g b ∧ { t with regs := s.regs, resps := s.resps } = s := by
  obtain ⟨-, hrefused⟩ := State.accessNow_refused hon (.inl hw) hb (by rw [h, hw])
  exact gives_registerWrite hw hrefused

end

/-- Settles O24: the checks of R534 in their order, each by the rule of the access for it, and R9 field by field. -/
theorem pageWriteChecks : Obligations.PageWriteChecks := by
  unfold Obligations.PageWriteChecks
  intro s p g off v e refused
  have hwrites : p.kind = .store → p.kind.writes = true := fun hk => by rw [hk]; rfl
  have hblock : Stores s p g off → ∀ b < 64, s.blockWrite p g off = s.refuseAccess g.base b p.who off true → refused b :=
    fun ⟨hnames, hk, hoff, _⟩ b hb hno =>
      gives_registerWrite_refused hnames.1 (hwrites hk) hb ((State.performPage_block hnames hk hoff).trans hno)
  refine ⟨fun h u hl ha hact => ?_, fun h hl => ?_, fun h hl ha => ?_, fun h hk hoff hsec hw hrow => ?_,
    fun h hk hoff hsec hbolt hrow hl ha hready => ?_, fun h hw hsize => ?_, fun h hk => ?_, fun h hk hoff hrow => ?_, fun h hf => ?_⟩
  · refine gives_registerWrite (hwrites h.2.1) ?_
    rw [State.accessNow_stores h hl ha hact]
    exact ⟨answered_respond, rfl⟩
  · exact hblock h 3 (by decide) (State.blockWrite_locked h hl)
  · exact hblock h 6 (by decide) (State.blockWrite_notAdmitted h hl ha)
  · exact gives_registerWrite_refused h.1 (hwrites hk) (by decide)
      ((State.performPage_block h hk hoff).trans (State.blockWrite_world hrow hsec hw))
  · obtain ⟨r, hr⟩ := Option.isSome_iff_exists.mp hrow
    obtain ⟨-, -, hnoinit, -⟩ := State.blockWrite_checks (b := 0) (t := s) (p := p) hr
      (fun e => absurd (hsec.symm.trans e) Bool.false_ne_true) (fun e => absurd (hbolt.symm.trans e) Bool.false_ne_true) rfl
    exact gives_registerWrite_refused h.1 (hwrites hk) (by decide)
      ((State.performPage_block h hk hoff).trans (hnoinit hl ha hready))
  · have hmis := State.performPage_misformed h (.inr hsize)
    rw [hw] at hmis
    exact gives_registerWrite_refused h.1 hw (by decide) hmis
  · have hw : p.kind.writes = true := by rcases hk with e | e | e <;> rw [e] <;> rfl
    have hmis := State.performPage_misformed (names_sized h) (.inl (by rcases hk with e | e | e <;> simp [e]))
    rw [hw] at hmis
    exact gives_registerWrite_refused h.1 hw (by decide) hmis
  · refine gives_registerWrite (hwrites hk) ?_
    rw [State.accessNow_of_performPage h.1 ((State.performPage_block h hk hoff).trans (State.blockWrite_hole hrow))]
    exact ⟨answered_respond, rfl⟩
  · obtain ⟨hnames, hk, hoff, -, -, -, r, hrow, -⟩ := id h
    have hapart : FieldsApart r.fields := fieldsApart_of_fieldsOnly hf hoff hrow
    have hnew : (s.setReg (g.base + off) (r.written (s.reg (g.base + off)) p.data.toNat)).reg (g.base + off) =
        r.written (s.reg (g.base + off)) p.data.toNat := by
      rw [State.reg_setReg, Nat.mod_eq_of_lt (RegRow.written_lt hapart (s.reg_lt _))]
    refine gives_registerWrite (hwrites hk) ?_
    rw [State.accessNow_fieldsOnly h hf, State.plainWrite_row hrow]
    refine ⟨answered_respond, fun q hq => ?_, fun a ha => State.reg_setReg_ne _ _ ha.symm, rfl⟩
    obtain rfl : r = q := Option.some.inj (hrow.symm.trans hq)
    have hreg : ∀ u : Resp, (State.respond (s.setReg (g.base + off) (r.written (s.reg (g.base + off)) p.data.toNat)) u).reg (g.base + off) =
        r.written (s.reg (g.base + off)) p.data.toNat := fun _ => hnew
    rw [hreg]
    exact ⟨fun f hf => RegRow.takesField_written hapart hf, fun i _ hi => RegRow.testBit_written hapart hi⟩

end Sys2Proof.Machine

/-! The common header of a page (R43 to R49), the hold (R54) and KW_HOLD (R99). -/

namespace Sys2Proof.Machine
open Safety

-- fields of one register

/-- Storing a field leaves the other fields of its register. -/
theorem State.fld_setFld_apart (s : State) (pg : Nat) {f f' : Field} (v : Nat) (hoff : f.off = f'.off) (h : f.lo ≤ f.hi) (h64 : f.hi < 64)
    (h' : f'.lo ≤ f'.hi) (hapart : f.hi < f'.lo ∨ f'.hi < f.lo) : (s.setFld pg f v).fld pg f' = s.fld pg f' := by
  unfold State.fld State.setFld
  rw [← hoff, State.reg_setReg, Nat.mod_eq_of_lt (putBits_lt _ _ _ _ 64 h (s.reg_lt _) h64), bits_putBits_apart h h' hapart]

/-- A one-bit field reads as it was last stored. -/
theorem State.flag_setFld (s : State) (pg : Nat) (f : Field) (v : Nat) (h : f.hi = f.lo) (h64 : f.hi < 64) :
    (s.setFld pg f v).flag pg f = (v % 2 == 1) := by
  unfold State.flag
  rw [State.fld_setFld s pg f v h.ge h64, h, Nat.add_sub_cancel_left, pow_one]

theorem State.reg_setFld (s : State) (pg : Nat) (f : Field) (v : Nat) (h : f.lo ≤ f.hi) (h64 : f.hi < 64) :
    (s.setFld pg f v).reg (pg + f.off) = putBits (s.reg (pg + f.off)) f.hi f.lo v := by
  unfold State.setFld
  rw [State.reg_setReg, Nat.mod_eq_of_lt (putBits_lt _ _ _ _ 64 h (s.reg_lt _) h64)]

theorem State.setReg_regs_frame (s : State) (a v : Nat) : { s.setReg a v with regs := s.regs } = s := rfl

theorem State.setReg_setReg_frame (s : State) (a v a' v' : Nat) : { (s.setReg a v).setReg a' v' with regs := s.regs } = s := rfl

theorem State.setFld_regs_frame (s : State) (pg : Nat) (f : Field) (v : Nat) : { s.setFld pg f v with regs := s.regs } = s := rfl

theorem fld_respond (s : State) (r : Resp) (pg : Nat) (f : Field) : (s.respond r).fld pg f = s.fld pg f := rfl

theorem flag_respond (s : State) (r : Resp) (pg : Nat) (f : Field) : (s.respond r).flag pg f = s.flag pg f := rfl

/-- What restores the registers of a state, with the responses restores those of the state that has answered. -/
theorem respond_only {s t : State} (r : Resp) (h : { t with regs := s.regs } = s) :
    { t.respond r with resps := s.resps, regs := s.regs } = s :=
  congrArg (fun u : State => { u with resps := s.resps }) h

theorem Tab.at?_ins_self {α : Type} (t : Tab α) (k : Nat) (v : α) : Tab.at? (Tab.ins k v t) k = some v := by
  induction t with
  | nil => simp [Tab.ins, Tab.at?]
  | cons e t ih =>
    obtain ⟨j, u⟩ := e
    rw [Tab.ins]
    split
    · simp [Tab.at?]
    · split
      · simp [Tab.at?]
      · rename_i hne
        simp [Tab.at?, hne, ih]

-- the commands that name a header register

section
variable {s : State} {p : PageReq} {P : State → Prop}

theorem exec_pgFaultClear (p : PageReq) (s : State) :
    exec (.pgFaultClear p) s = .next (s.regCommand p true (fun _ => true) (fun o _ => o == 0x10)) := rfl
theorem exec_pgStatusRead (p : PageReq) (s : State) :
    exec (.pgStatusRead p) s = .next (s.regCommand p false (fun _ => true) (fun o _ => o == 0x8)) := rfl
theorem exec_powerRequest (p : PageReq) (s : State) :
    exec (.powerRequest p) s = .next (s.regCommand p true (fun _ => true) (fun o _ => o == 0x28)) := rfl
theorem exec_holdrstClear (p : PageReq) (s : State) :
    exec (.holdrstClear p) s = .next (s.regCommand p true resettable (fun o v => o == 0x30 && !bitN v 8)) := rfl
theorem exec_kwHoldWrite (p : PageReq) (s : State) :
    exec (.kwHoldWrite p) s = .next (s.regCommand p true (· == .hinge) (fun o _ => o == 0x128)) := rfl
theorem exec_heldRequestProceeds (n : Stop) (s : State) : exec (.heldRequestProceeds n) s = .next (s.heldProceeds n.val) := rfl

end

section
variable {s t : State} {p : PageReq} {g : Page} {off b : Nat}

theorem writes_store (hk : p.kind = .store) : p.kind.writes = true := by
  rw [hk]
  rfl

/-- A write of a header register that is performed. -/
theorem State.accessNow_header (h : Names s p g off) (hk : p.kind = .store) (hoff : off < 0x100)
    (hw : s.headerWrite g off p.who p.data.toNat = .ok t) : s.accessNow p = t.respond (pageAnswer s p 0 false) :=
  State.accessNow_of_performPage h.1 (State.performPage_header_ok h hk hoff hw)

/-- A write of a header register that is refused. -/
theorem State.accessNow_header_refused (h : Names s p g off) (hk : p.kind = .store) (hoff : off < 0x100) (hb : b < 64)
    (hw : s.headerWrite g off p.who p.data.toNat = .no b s) :
    Refused s (s.accessNow p) p g b ∧ { s.accessNow p with regs := s.regs, resps := s.resps } = s :=
  (State.accessNow_refused h.1 (.inl (writes_store hk)) hb (State.performPage_header_no h hk hoff hw)).2

/-- A read of a header register. -/
theorem State.accessNow_headerRead (h : Names s p g off) (hk : p.kind = .load) (hoff : off < 0x100) :
    s.accessNow p = (s.headerReadActs g off p.who).respond (pageAnswer s p (s.headerView g off p.who) false) := by
  refine State.accessNow_of_performPage h.1 ?_
  rw [State.performPage_load h hk, State.pageRead, if_pos hoff]

end

-- PG_FAULT (R46)

theorem State.headerWrite_fault (s : State) (g : Page) (who : Requester) (v : Nat) :
    s.headerWrite g 0x10 who v = .ok (s.faultClear g v) := rfl

/-- The bits written 1 clear, and with the last access bit the capture. -/
theorem State.faultClear_spec (s : State) (g : Page) (v : Nat) :
    let old := s.reg (g.base + 0x10)
    let new := old - (old &&& v % 128)
    (s.faultClear g v).reg (g.base + 0x10) = new ∧
    (s.faultClear g v).reg (g.base + 0x18) = (if bits new 6 3 = 0 then 0 else s.reg (g.base + 0x18)) ∧
    (∀ a, a / 8 ≠ (g.base + 0x10) / 8 → a / 8 ≠ (g.base + 0x18) / 8 → (s.faultClear g v).reg a = s.reg a) ∧
    { s.faultClear g v with regs := s.regs } = s := by
  intro old new
  have hnew : new % 2 ^ 64 = new := Nat.mod_eq_of_lt (Nat.lt_of_le_of_lt (Nat.sub_le _ _) (s.reg_lt _))
  have hne : (g.base + 0x18) / 8 ≠ (g.base + 0x10) / 8 := by omega
  have hclear : s.faultClear g v =
      if bits new 6 3 = 0 then (s.setReg (g.base + 0x10) new).setReg (g.base + 0x18) 0 else s.setReg (g.base + 0x10) new := rfl
  rw [hclear]
  split
  · refine ⟨?_, State.reg_setReg .., fun a h10 h18 => ?_, State.setReg_setReg_frame ..⟩
    · rw [State.reg_setReg_ne _ _ hne, State.reg_setReg, hnew]
    · rw [State.reg_setReg_ne _ _ h18.symm, State.reg_setReg_ne _ _ h10.symm]
  · refine ⟨?_, State.reg_setReg_ne _ _ hne.symm, fun a h10 _ => State.reg_setReg_ne _ _ h10.symm, State.setReg_regs_frame ..⟩
    rw [State.reg_setReg, hnew]

/-- The first part of O25. -/
theorem gives_pgFaultClear {s : State} {p : PageReq} {g : Page} (h : Names s p g 0x10) (hk : p.kind = .store) :
    Gives (.pgFaultClear p) s fun t =>
      let old := s.reg (g.base + 0x10)
      let new := old - (old &&& p.data.toNat % 128)
      Answered s t p 0 ∧ t.reg (g.base + 0x10) = new ∧ t.reg (g.base + 0x18) = (if bits new 6 3 = 0 then 0 else s.reg (g.base + 0x18)) ∧
      (∀ a, a / 8 ≠ (g.base + 0x10) / 8 → a / 8 ≠ (g.base + 0x18) / 8 → t.reg a = s.reg a) ∧ { t with resps := s.resps, regs := s.regs } = s := by
  obtain ⟨hfault, hinfo, hrest, hframe⟩ := s.faultClear_spec g p.data.toNat
  refine ⟨_, exec_pgFaultClear p s, ?_⟩
  rw [State.regCommand_names h (writes_store hk) rfl rfl, State.accessNow_header h hk (by decide) (s.headerWrite_fault ..)]
  exact ⟨answered_respond, hfault, hinfo, hrest, respond_only _ hframe⟩

-- PG_STATUS (R43, R44)

/-- The second part of O25. -/
theorem gives_pgStatusRead {s : State} {p : PageReq} {g : Page} (h : Names s p g 0x8) (hk : p.kind = .load) {P : State → Prop}
    (hP : P ((s.headerReadActs g 0x8 p.who).respond (pageAnswer s p (s.statusView g) false))) : Gives (.pgStatusRead p) s P := by
  refine ⟨_, exec_pgStatusRead p s, ?_⟩
  rwa [State.regCommand_names h (by rw [hk]; rfl) rfl rfl, State.accessNow_headerRead h hk (by decide)]

theorem State.headerReadActs_status (s : State) (g : Page) (who : Requester) :
    (who.path = .hart → s.headerReadActs g 0x8 who = s.setFld g.base R.PG_STATUS_LOST 0) ∧
    (who.path = .ward → s.headerReadActs g 0x8 who = s.setFld g.base R.PG_STATUS_WLOST 0) ∧
    (who.path = .safelight → s.headerReadActs g 0x8 who = s) := by
  refine ⟨fun h => ?_, fun h => ?_, fun h => ?_⟩ <;> simp [State.headerReadActs, h]

-- PG_POWER and the hold (R48, R49, R54, R449)

section
variable {s : State} {g : Page} {who : Requester} {v : Nat}

theorem State.headerWrite_power (s : State) (g : Page) (who : Requester) (v : Nat) :
    s.headerWrite g 0x28 who v = s.powerWrite g who v := rfl

theorem State.powerWrite_locked (hsec : s.securePage g = true) (hw : s.writesSecure who = false) :
    s.powerWrite g who v = .no FAULT_LOCKED s := by
  simp [State.powerWrite, hsec, hw]

section
variable (hsec : s.securePage g = false)
include hsec

theorem State.powerWrite_unlisted (hcode : powerCode g.kind (bits v 15 12) = false) : s.powerWrite g who v = .no FAULT_ACCESS s := by
  simp [State.powerWrite, hsec, hcode]

theorem State.powerWrite_stored (hcode : powerCode g.kind (bits v 15 12) = true) (hfree : s.held g = false) :
    s.powerWrite g who v = .ok (s.setFld g.base R.PG_POWER_REQ (bits v 15 12)) := by
  simp [State.powerWrite, hsec, hcode, hfree]

theorem State.powerWrite_held (hcode : powerCode g.kind (bits v 15 12) = true) (hheld : s.held g = true) (hw : s.writesSecure who = false) :
    s.powerWrite g who v = .ok (s.holdRequest g (2 * bits v 15 12)) := by
  simp [State.powerWrite, hsec, hcode, hheld, hw]

end

/-- A request that waits shows HOLD, leaves REQ, and stands at its Hinge. -/
theorem State.holdRequest_spec (s : State) (g : Page) (x : Nat) :
    let n := (pageStop g.base).getD 0
    (s.holdRequest g x).flag g.base R.PG_STATUS_HOLD = true ∧
    (s.holdRequest g x).fld g.base R.PG_POWER_REQ = s.fld g.base R.PG_POWER_REQ ∧
    Tab.at? ((s.holdRequest g x).hinge n).waiting (g.base / 4096) = some x := by
  intro n
  unfold State.holdRequest
  refine ⟨State.flag_setFld _ _ _ _ rfl (by decide), ?_, ?_⟩
  · rw [State.fld_setFld_other]
    · rfl
    · simp only [R.PG_STATUS_HOLD, R.PG_POWER_REQ]
      omega
  · simp [n, Tab.at?_ins_self]

end

/-- A held power request proceeds: HOLD clears and REQ takes its code. -/
theorem State.proceed_power {s : State} {w q : Nat} {g : Page} (hat : pageAt (4096 * w) = some g) :
    s.proceed (w, 2 * q) = (s.setFld g.base R.PG_STATUS_HOLD 0).setFld g.base R.PG_POWER_REQ q := by
  unfold State.proceed
  dsimp only
  rw [hat]
  dsimp only
  rw [if_neg (by omega), Nat.mul_div_cancel_left q (by decide)]

theorem State.setHinge_setFld_frame (s : State) (n : Nat) (h : Hinge) (pg pg' : Nat) (f f' : Field) (v v' : Nat) :
    { ((s.setHinge n h).setFld pg f v).setFld pg' f' v' with regs := s.regs, hinges := s.hinges } = s := rfl

-- PG_RESET (R49)

theorem State.startCore_frame (s : State) (k : Nat) : { s.startCore k with harts := s.harts } = s := by
  unfold State.startCore
  dsimp only
  split <;> rfl

theorem State.startCluster_frame (s : State) (c : Nat) : { s.startCluster c with harts := s.harts } = s := by
  unfold State.startCluster
  induction tileCores c generalizing s with
  | nil => rfl
  | cons k l ih =>
    rw [List.foldl_cons]
    calc _ = { ({ l.foldl (fun s k => s.startCore k) (s.startCore k) with harts := (s.startCore k).harts } : State) with harts := s.harts } := rfl
      _ = { s.startCore k with harts := s.harts } := by rw [ih]
      _ = s := s.startCore_frame k

/-- HOLDRST is stored, and only harts start by it. -/
theorem State.holdrst_frame (s : State) (g : Page) (v : Nat) :
    { s.holdrst g v with harts := s.harts } = s.setFld g.base R.PG_RESET_HOLDRST (bits v 8 8) := by
  unfold State.holdrst
  dsimp only
  split
  · rfl
  · split
    · exact State.startCore_frame (s.setFld g.base R.PG_RESET_HOLDRST (bits v 8 8)) _
    · exact State.startCluster_frame (s.setFld g.base R.PG_RESET_HOLDRST (bits v 8 8)) _
    · rfl

theorem State.flag_holdrst (s : State) (g : Page) (v : Nat) : (s.holdrst g v).flag g.base R.PG_RESET_HOLDRST = bitN v 8 := by
  have hflag : (s.holdrst g v).flag g.base R.PG_RESET_HOLDRST =
      (s.setFld g.base R.PG_RESET_HOLDRST (bits v 8 8)).flag g.base R.PG_RESET_HOLDRST := by
    rw [← s.holdrst_frame g v]
    rfl
  have hbit : bits v 8 8 % 2 = bits v 8 8 := Nat.mod_eq_of_lt (by simpa using bits_lt v 8 8)
  rw [hflag, State.flag_setFld _ _ _ _ rfl (by decide), hbit, bitN, testBit_eq_bits]

theorem State.holdrst_only (s : State) (g : Page) (v : Nat) : { s.holdrst g v with regs := s.regs, harts := s.harts } = s := by
  have hframe := s.holdrst_frame g v
  generalize s.holdrst g v = t at hframe ⊢
  calc ({ t with regs := s.regs, harts := s.harts } : State) = { ({ t with harts := s.harts } : State) with regs := s.regs } := rfl
    _ = s := by rw [hframe, State.setFld_regs_frame]

theorem State.headerWrite_reset (s : State) (g : Page) (who : Requester) (v : Nat) :
    s.headerWrite g 0x30 who v = s.resetWrite g who v := rfl

theorem State.resetWrite_noGo {s : State} {g : Page} {v : Nat} (who : Requester) (hk : resettable g.kind = true) (hgo : bitN v 0 = false) :
    s.resetWrite g who v = .ok (s.holdrst g v) := by
  simp [State.resetWrite, hk, hgo]

theorem bitN_toNat (w : Word) (i : Nat) : bitN w.toNat i = w.getLsbD i := BitVec.testBit_toNat w

-- KW_HOLD (R99)

theorem State.regEffect_kwHold (s : State) (n : Stop) (who : Requester) (v : Nat) :
    s.regEffect (hingePage n.val) 0x128 who v = { locked := who.path != .ward, act := .ok (s.plainWrite (hingePage n.val) 0x128 v) } := rfl

theorem rowAt_kwHold : rowAt .hinge 0x128 = some ⟨0x128, 1, 0x8, [⟨7, 0, .rw, 0⟩]⟩ := rfl

theorem State.plainWrite_kwHold (s : State) (n : Stop) (v : Nat) :
    (s.plainWrite (hingePage n.val) 0x128 v).fld (hingePg n.val) R.KW_HOLD_COUNT = v % 256 ∧
    { s.plainWrite (hingePage n.val) 0x128 v with regs := s.regs } = s := by
  have hplain : s.plainWrite (hingePage n.val) 0x128 v = s.setFld (hingePg n.val) R.KW_HOLD_COUNT (bits v 7 0) := by
    rw [State.plainWrite_row (g := hingePage n.val) rowAt_kwHold]
    simp only [RegRow.written, List.foldl_cons, List.foldl_nil]
    unfold State.setFld hingePage
    dsimp only [R.KW_HOLD_COUNT]
  rw [hplain, State.fld_setFld _ _ _ _ (by decide) (by decide)]
  refine ⟨?_, State.setFld_regs_frame ..⟩
  simp [bits, R.KW_HOLD_COUNT]

/-- Settles O25: each register by what a write or a read of it does. -/
theorem headerRegisters : Obligations.HeaderRegisters := by
  unfold Obligations.HeaderRegisters
  refine ⟨fun s p g h hk => gives_pgFaultClear h hk, fun s p g h hk => ?_, fun s p g h hk => ?_, fun s n g w q hcount hwait hat hq => ?_,
    fun s p g h hk hres hhold hgo => ?_, fun s p n h => ?_⟩
  · obtain ⟨hhart, hward, hlight⟩ := s.headerReadActs_status g p.who
    refine ⟨fun hp => gives_pgStatusRead h hk ?_, fun hp => gives_pgStatusRead h hk ?_, fun hp => gives_pgStatusRead h hk ?_⟩
    · rw [hhart hp]
      exact ⟨answered_respond, (flag_respond ..).trans (State.flag_setFld _ _ _ _ rfl (by decide)),
        (fld_respond ..).trans <| State.fld_setFld_apart _ _ _ rfl (by decide) (by decide) (by decide) (by decide), rfl⟩
    · rw [hward hp]
      exact ⟨answered_respond, (flag_respond ..).trans (State.flag_setFld _ _ _ _ rfl (by decide)),
        (fld_respond ..).trans <| State.fld_setFld_apart _ _ _ rfl (by decide) (by decide) (by decide) (by decide)⟩
    · rw [hlight hp]
      exact ⟨answered_respond, rfl⟩
  · intro req n
    have hcommand : ∀ {P : State → Prop}, P (s.accessNow p) → Gives (.powerRequest p) s P := fun hP =>
      ⟨_, exec_powerRequest p s, by rwa [State.regCommand_names h (writes_store hk) rfl rfl]⟩
    refine ⟨fun hsec hw => hcommand ?_, fun hsec hcode => hcommand ?_, fun hsec hcode hfree => hcommand ?_,
      fun hsec hcode hheld hw => hcommand ?_⟩
    · exact (State.accessNow_header_refused h hk (by decide) (by decide) ((s.headerWrite_power ..).trans (State.powerWrite_locked hsec hw))).1
    · exact (State.accessNow_header_refused h hk (by decide) (by decide) ((s.headerWrite_power ..).trans (State.powerWrite_unlisted hsec hcode))).1
    · rw [State.accessNow_header h hk (by decide) ((s.headerWrite_power ..).trans (State.powerWrite_stored hsec hcode hfree))]
      refine ⟨answered_respond, ?_, respond_only _ (State.setFld_regs_frame ..)⟩
      rw [fld_respond, State.fld_setFld _ _ _ _ (by decide) (by decide)]
      exact Nat.mod_eq_of_lt (bits_lt _ _ _)
    · rw [State.accessNow_header h hk (by decide) ((s.headerWrite_power ..).trans (State.powerWrite_held hsec hcode hheld hw))]
      obtain ⟨hhold, hreq, hwait⟩ := s.holdRequest_spec g (2 * req)
      exact ⟨answered_respond, (flag_respond ..).trans hhold, (fld_respond ..).trans hreq, hwait⟩
  · refine ⟨_, exec_heldRequestProceeds n s, ?_⟩
    have hgo : s.heldProceeds n.val =
        ((s.setHinge n.val { s.hinge n.val with waiting := [] }).setFld g.base R.PG_STATUS_HOLD 0).setFld g.base R.PG_POWER_REQ q := by
      unfold State.heldProceeds
      simp only [hcount, hwait]
      exact State.proceed_power hat
    rw [hgo]
    refine ⟨?_, ?_, ?_, State.setHinge_setFld_frame ..⟩
    · unfold State.flag
      rw [State.fld_setFld_other]
      · exact State.flag_setFld _ _ _ _ rfl (by decide)
      · simp only [R.PG_STATUS_HOLD, R.PG_POWER_REQ]
        omega
    · rw [State.fld_setFld _ _ _ _ (by decide) (by decide)]
      exact Nat.mod_eq_of_lt hq
    · simp
  · have hbit : bitN p.data.toNat 8 = false := (bitN_toNat ..).trans hhold
    refine ⟨_, exec_holdrstClear p s, ?_⟩
    rw [State.regCommand_names h (writes_store hk) hres (by rw [hbit]; rfl), State.accessNow_header h hk (by decide)
      ((s.headerWrite_reset ..).trans (State.resetWrite_noGo _ hres ((bitN_toNat _ _).trans hgo)))]
    exact ⟨answered_respond, (flag_respond ..).trans ((s.flag_holdrst ..).trans hbit),
      congrArg (fun u : State => { u with resps := s.resps }) (s.holdrst_only g p.data.toNat)⟩
  · have hcommand : ∀ {P : State → Prop}, P (s.accessNow p) → Gives (.kwHoldWrite p) s P := fun hP =>
      ⟨_, exec_kwHoldWrite p s, by rwa [State.regCommand_names h.1 (writes_store h.2.1) rfl rfl]⟩
    obtain ⟨hcount, hframe⟩ := s.plainWrite_kwHold n p.data.toNat
    refine ⟨fun hp => hcommand ?_, fun hp => hcommand ?_⟩
    · rw [State.accessNow_stores h (by rw [State.regEffect_kwHold, hp]; rfl) rfl rfl]
      exact ⟨answered_respond, (fld_respond ..).trans hcount, respond_only _ hframe⟩
    · obtain ⟨heq, hrefused, -⟩ := State.accessNow_stores_refused h (b := 3) (by decide)
        (State.blockWrite_locked h (by rw [State.regEffect_kwHold]; simpa using hp))
      refine ⟨hrefused, ?_⟩
      rw [heq]
      rw [fld_respond, State.fld, State.reg_accessFault_ne]
      · rfl
      · simp only [hingePage, R.KW_HOLD_COUNT]
        omega
      · simp only [hingePage, R.KW_HOLD_COUNT]
        omega

end Sys2Proof.Machine

/-! A domain reset of a cluster that starts a guest hart (R49, R484): core 0 hosts hart 4 of cluster 1, which is not started while its cluster holds
it; the write of GO that releases the cluster starts the hart, and the reset then moves it and writes its Negative. -/

namespace Sys2Proof.Machine
open Safety

/-- Clusters are released, cluster 0 is READY and holds its cores, and its READY core 0 is to run hart 4, whose Negative is in guest slot 4. -/
def guestHeld : State :=
  ((((({ hartCore := [(4, 0)] } : State).setFld pwrPg R.PWR_BOOT_RELEASED 1).setFld (clusterPg 0) R.PG_STATUS_READY 1).setFld (clusterPg 0)
    R.PG_RESET_HOLDRST 1).setFld (corePg 0) R.PG_STATUS_READY 1).setFld (corePg 0) R.CORE_RUN_HART0 4
    |>.setReg (negPg 0 + 0x120) (2 ^ 63 + 4)

/-- The Ward's write of GO, with HOLDRST 0, to PG_RESET of cluster 0. -/
def clusterGo : PageReq := ⟨wardReq, BitVec.ofNat 52 (clusterPg 0 + 0x30), .store, 8, 1, 0, 0⟩

theorem exec_clusterDomainReset (p : PageReq) (s : State) :
    exec (.clusterDomainReset p) s = .next (s.regCommand p true (· == .cluster) (fun o v => o == 0x30 && bitN v 0)) := rfl

theorem names_clusterGo : Names guestHeld clusterGo (clusterPage 0) 0x30 :=
  ⟨rfl, .inr (.inl rfl), by decide, by decide, by decide, by decide, rfl⟩

/-- No hart runs in a part none of whose harts has been started. -/
theorem State.hartsIn_nil {s : State} (h : s.harts = []) (c : Nat) : s.hartsIn c = [] := by
  have hidle : ∀ k, (s.hart k).started = false := fun k => by
    unfold State.hart
    rw [h]
    rfl
  simp [State.hartsIn, hidle]

/-- The reset leaves a Negative that was not there. -/
theorem neg_clusterGo :
    ((guestHeld.regCommand clusterGo true (· == .cluster) (fun o v => o == 0x30 && bitN v 0)).cluster 0).neg ≠ [] := by
  decide +kernel

/-- Refutes O27: the cluster runs no guest when GO is written, and yet the reset changes its Negative. -/
theorem not_domainResets : ¬ Obligations.DomainResets := by
  unfold Obligations.DomainResets
  rintro ⟨hgo, -⟩
  obtain ⟨-, hcluster, -⟩ := hgo guestHeld clusterGo (clusterPage 0) names_clusterGo rfl rfl (.inl rfl) (by decide) (by decide)
  obtain ⟨t, ht, -, -, -, -, -, -, hneg, -⟩ := hcluster 0 rfl
  obtain rfl := Host.Outcome.next.inj ((exec_clusterDomainReset ..).symm.trans ht)
  refine neg_clusterGo (hneg fun h hh => ?_)
  rw [State.hartsIn_nil rfl] at hh
  cases hh

end Sys2Proof.Machine

/-! The Ward's mailboxes (R85 to R91): their pages, how a request is published or held, and what the requests reply. -/

namespace Sys2Proof.Machine
open Safety

-- the pages

theorem mbxPg_eq (b : Nat) : mbxPg b = 0x40640000 + b * 4096 := by
  unfold mbxPg
  rw [pageBase_eq]
  have hstop : wardStop = 6 := rfl
  rw [hstop]
  omega

theorem State.mbxCmd_lt (s : State) (b : Nat) : s.mbxCmd b < 2 ^ 16 := bits_lt _ _ _

-- a list of words stored in consecutive registers

/-- The words of a list stored from address `a` on, in registers k and up. -/
def State.storeWords (s : State) (a k : Nat) (out : List Word) : State :=
  (out.zip (List.range' k out.length)).foldl (fun s x => s.setReg (a + 8 * x.2) x.1.toNat) s

theorem State.storeWords_nil (s : State) (a k : Nat) : s.storeWords a k [] = s := rfl

theorem State.storeWords_cons (s : State) (a k : Nat) (w : Word) (out : List Word) :
    s.storeWords a k (w :: out) = (s.setReg (a + 8 * k) w.toNat).storeWords a (k + 1) out := rfl

theorem State.storeWords_frame (s : State) (a k : Nat) (out : List Word) : { s.storeWords a k out with regs := s.regs } = s := by
  induction out generalizing s k with
  | nil => rfl
  | cons w out ih =>
    rw [State.storeWords_cons]
    have htail := ih (s.setReg (a + 8 * k) w.toNat) (k + 1)
    generalize (s.setReg (a + 8 * k) w.toNat).storeWords a (k + 1) out = t at htail ⊢
    calc ({ t with regs := s.regs } : State) = { ({ t with regs := (s.setReg (a + 8 * k) w.toNat).regs } : State) with regs := s.regs } := rfl
      _ = s := by rw [htail, State.setReg_regs_frame]

/-- A register before the first of them, or past the last, stays. -/
theorem State.reg_storeWords_out (s : State) {a k c : Nat} (out : List Word) (hc : c / 8 < a / 8 + k ∨ a / 8 + k + out.length ≤ c / 8) :
    (s.storeWords a k out).reg c = s.reg c := by
  induction out generalizing s k with
  | nil => rfl
  | cons w out ih =>
    rw [List.length_cons] at hc
    rw [State.storeWords_cons, ih _ (by omega), State.reg_setReg_ne]
    omega

theorem State.reg_storeWords (s : State) {a k i : Nat} {out : List Word} {w : Word} (ha : a % 8 = 0) (hi : out[i]? = some w) :
    (s.storeWords a k out).reg (a + 8 * (k + i)) = w.toNat := by
  induction out generalizing s k i with
  | nil => cases hi
  | cons v out ih =>
    rw [State.storeWords_cons]
    cases i with
    | zero =>
      obtain rfl : v = w := by simpa using hi
      rw [State.reg_storeWords_out _ _ (by omega), Nat.add_zero, State.reg_setReg, Nat.mod_eq_of_lt v.isLt]
    | succ i =>
      have htail : out[i]? = some w := by simpa using hi
      rw [show k + (i + 1) = k + 1 + i by omega, ih _ htail]

-- DONE (R87)

/-- Answering the BMC leaves everything but its messages. -/
theorem State.bmcDone_frame (s : State) (b : Nat) : { s.bmcDone b with sideband := s.sideband } = s := by
  unfold State.bmcDone State.toBmc
  dsimp only
  split
  · rfl
  · split <;> rfl

theorem State.reg_bmcDone (s : State) (b a : Nat) : (s.bmcDone b).reg a = s.reg a := by
  have hframe := s.bmcDone_frame b
  generalize s.bmcDone b = t at hframe ⊢
  rw [← hframe]
  rfl

theorem State.wires_bmcDone (s : State) (b : Nat) : (s.bmcDone b).wires = s.wires := by
  have hframe := s.bmcDone_frame b
  generalize s.bmcDone b = t at hframe ⊢
  rw [← hframe]

theorem State.reg_pulse (s : State) (src a : Nat) : (s.pulse src).reg a = s.reg a := by
  unfold State.pulse
  split <;> rfl

theorem State.pulse_raises (s : State) (src : Nat) : ∃ u, (u, src) ∈ (s.pulse src).wires := by
  unfold State.pulse
  split
  · rename_i hany
    obtain ⟨w, hw, hsrc⟩ := List.any_eq_true.mp hany
    rw [Bool.and_eq_true, beq_iff_eq] at hsrc
    exact ⟨w.1, hsrc.1 ▸ hw⟩
  · exact ⟨s.now, List.mem_append_right _ (List.mem_singleton_self _)⟩

/-- The registers of a mailbox with its reply. -/
def State.mbxReply (s : State) (b result : Nat) (out : List Word) : State :=
  (((s.setReg (mbxPg b + 0x300) (s.mbxCmd b <<< 48 + out.length <<< 40)).storeWords (mbxPg b + 0x308) 0 out).setFld (mbxPg b)
    R.WARD_MBX_STATUS_STATE 3).setFld (mbxPg b) R.WARD_MBX_STATUS_RESULT result

theorem State.mbxPublish_eq (s : State) (b result : Nat) (out : List Word) :
    s.mbxPublish b result out = ((s.mbxReply b result out).pulse (1792 + b)).bmcDone b := by
  unfold State.mbxPublish State.mbxReply State.storeWords
  rw [List.range_eq_range']

theorem State.reg_mbxPublish (s : State) (b result : Nat) (out : List Word) (a : Nat) :
    (s.mbxPublish b result out).reg a = (s.mbxReply b result out).reg a := by
  rw [State.mbxPublish_eq, State.reg_bmcDone, State.reg_pulse]

theorem State.fld_mbxPublish (s : State) (b result : Nat) (out : List Word) (pg : Nat) (f : Field) :
    (s.mbxPublish b result out).fld pg f = (s.mbxReply b result out).fld pg f := by
  unfold State.fld
  rw [State.reg_mbxPublish]

theorem State.setFld_withRegs (s : State) (pg : Nat) (f : Field) (v : Nat) (r : Tab Word) :
    { s.setFld pg f v with regs := r } = { s with regs := r } := rfl

theorem State.mbxReply_frame (s : State) (b result : Nat) (out : List Word) : { s.mbxReply b result out with regs := s.regs } = s := by
  unfold State.mbxReply
  generalize s.mbxCmd b <<< 48 + out.length <<< 40 = v
  have hwords := (s.setReg (mbxPg b + 0x300) v).storeWords_frame (mbxPg b + 0x308) 0 out
  generalize (s.setReg (mbxPg b + 0x300) v).storeWords (mbxPg b + 0x308) 0 out = t at hwords ⊢
  rw [State.setFld_withRegs, State.setFld_withRegs]
  calc ({ t with regs := s.regs } : State)
      = { ({ t with regs := (s.setReg (mbxPg b + 0x300) v).regs } : State) with regs := s.regs } := rfl
    _ = s := by rw [hwords, State.setReg_regs_frame]

/-- Publishing a reply touches the mailbox's registers, its wired source and the BMC's messages. -/
theorem State.mbxPublish_frame (s : State) (b result : Nat) (out : List Word) :
    { s.mbxPublish b result out with regs := s.regs, wires := s.wires, sideband := s.sideband } = s := by
  rw [State.mbxPublish_eq]
  have hreply := s.mbxReply_frame b result out
  generalize s.mbxReply b result out = u at hreply ⊢
  obtain ⟨hpulse, -⟩ := u.pulse_only (1792 + b)
  generalize u.pulse (1792 + b) = v at hpulse ⊢
  have hdone := v.bmcDone_frame b
  generalize v.bmcDone b = w at hdone ⊢
  calc ({ w with regs := s.regs, wires := s.wires, sideband := s.sideband } : State)
      = { ({ w with sideband := v.sideband } : State) with regs := s.regs, wires := s.wires, sideband := s.sideband } := rfl
    _ = { ({ v with wires := u.wires } : State) with regs := s.regs, wires := s.wires, sideband := s.sideband } := by rw [hdone]
    _ = { ({ u with regs := s.regs } : State) with wires := s.wires, sideband := s.sideband } := by rw [hpulse]
    _ = s := by rw [hreply]

/-- A register that is neither STATUS nor OUT of the mailbox stays. -/
theorem State.reg_mbxReply_out (s : State) {b a : Nat} (result : Nat) (out : List Word) (hstatus : (mbxPg b + 0x100) / 8 ≠ a / 8)
    (hout : a / 8 < (mbxPg b + 0x300) / 8 ∨ (mbxPg b + 0x308) / 8 + out.length ≤ a / 8) :
    (s.mbxReply b result out).reg a = s.reg a := by
  unfold State.mbxReply
  rw [State.reg_setFld_ne _ _ hstatus, State.reg_setFld_ne _ _ hstatus, State.reg_storeWords_out _ _ (by omega),
    State.reg_setReg_ne]
  omega

/-- R87: STATE, RESULT, the reply and the source of a request that is published. -/
theorem State.mbxPublish_published (s : State) {b result : Nat} {out : List Word} (hres : result < 2 ^ 16) (hlen : out.length < 2 ^ 8) :
    Published s (s.mbxPublish b result out) b result out := by
  have hbase := mbxPg_eq b
  have hcmd := s.mbxCmd_lt b
  unfold Published
  rw [State.fld_mbxPublish, State.fld_mbxPublish, State.reg_mbxPublish]
  refine ⟨?_, ?_, ?_, fun i w hi => ?_, ?_⟩
  · unfold State.mbxReply
    rw [State.fld_setFld_apart (f := R.WARD_MBX_STATUS_RESULT) (f' := R.WARD_MBX_STATUS_STATE) _ _ _ rfl (by decide) (by decide) (by decide)
      (by decide), State.fld_setFld _ _ _ _ (by decide) (by decide)]
    rfl
  · unfold State.mbxReply
    rw [State.fld_setFld _ _ _ _ (by decide) (by decide)]
    exact Nat.mod_eq_of_lt hres
  · unfold State.mbxReply
    rw [State.reg_setFld_ne _ _ (by simp only [R.WARD_MBX_STATUS_RESULT]; omega), State.reg_setFld_ne _ _ (by simp only [R.WARD_MBX_STATUS_STATE]; omega),
      State.reg_storeWords_out _ _ (by omega), State.reg_setReg, Nat.shiftLeft_eq, Nat.shiftLeft_eq]
    omega
  · rw [State.reg_mbxPublish]
    unfold State.mbxReply
    rw [State.reg_setFld_ne _ _ (by simp only [R.WARD_MBX_STATUS_RESULT]; omega), State.reg_setFld_ne _ _ (by simp only [R.WARD_MBX_STATUS_STATE]; omega)]
    have hword := (s.setReg (mbxPg b + 0x300) (s.mbxCmd b <<< 48 + out.length <<< 40)).reg_storeWords (a := mbxPg b + 0x308) (k := 0) (by omega) hi
    rwa [Nat.zero_add] at hword
  · rw [State.mbxPublish_eq, State.wires_bmcDone]
    exact State.pulse_raises _ _

-- a request is served (R87, R88)

/-- Registers and the mailbox's own words are all that a publication reads. -/
theorem published_congr {s u t : State} {b result : Nat} {out : List Word} (hreg : u.reg (mbxPg b + 0x200) = s.reg (mbxPg b + 0x200))
    (h : Published u t b result out) : Published s t b result out := by
  have hcmd : u.mbxCmd b = s.mbxCmd b := by
    unfold State.mbxCmd State.mbxIn
    rw [Nat.mul_zero, Nat.add_zero, hreg]
  unfold Published at h ⊢
  rwa [hcmd] at h

section
variable {s : State} {b result fixed : Nat} {out : List Word}

/-- A request of a mailbox whose reply does not wait. -/
theorem State.mbxFinish_now (hb : b < 8 ∨ 23 < b) :
    s.mbxFinish b result fixed out = (s.setMbxState b { s.mbxState b with waiting := false }).mbxPublish b result out := by
  unfold State.mbxFinish
  dsimp only
  rw [if_neg (by omega)]

/-- A request of a tenant's mailbox. -/
theorem State.mbxFinish_held (h8 : 8 ≤ b) (h23 : b ≤ 23) :
    s.mbxFinish b result fixed out =
      s.setMbxState b { s.mbxState b with held := some ⟨(s.mbxState b).edge + fixed, result, out⟩, waiting := false } := by
  unfold State.mbxFinish
  dsimp only
  rw [if_pos ⟨h8, h23⟩]

theorem State.mbxFinish_published (hb : b < 8 ∨ 23 < b) (hres : result < 2 ^ 16) (hlen : out.length < 2 ^ 8) :
    Published s (s.mbxFinish b result fixed out) b result out := by
  rw [State.mbxFinish_now hb]
  exact published_congr (u := s.setMbxState b { s.mbxState b with waiting := false }) rfl (State.mbxPublish_published _ hres hlen)

theorem State.mbxFinish_served {u : State} (hregs : u.regs = s.regs) (hmbx : (u.mbxState b).edge = (s.mbxState b).edge) (hres : result < 2 ^ 16)
    (hlen : out.length < 2 ^ 8) : Served s (u.mbxFinish b result fixed out) b fixed result out := by
  have hreg : ∀ a, u.reg a = s.reg a := fun a => by
    unfold State.reg
    rw [hregs]
  refine ⟨fun hb => published_congr (hreg _) (State.mbxFinish_published hb hres hlen), fun h8 h23 => ?_⟩
  rw [State.mbxFinish_held h8 h23, hmbx]
  exact ⟨by simp, hregs⟩

/-- Serving a request leaves the clock, the Ward's other state, and all but the mailbox's registers. -/
theorem State.mbxFinish_frame :
    { s.mbxFinish b result fixed out with regs := s.regs, wires := s.wires, sideband := s.sideband, ward := s.ward } = s ∧
    { (s.mbxFinish b result fixed out).ward with mbx := s.ward.mbx } = s.ward := by
  by_cases hb : 8 ≤ b ∧ b ≤ 23
  · rw [State.mbxFinish_held hb.1 hb.2]
    exact ⟨rfl, rfl⟩
  · rw [State.mbxFinish_now (by omega)]
    have hpub := (s.setMbxState b { s.mbxState b with waiting := false }).mbxPublish_frame b result out
    generalize { s.mbxState b with waiting := false } = m at hpub ⊢
    generalize (s.setMbxState b m).mbxPublish b result out = t at hpub ⊢
    refine ⟨?_, ?_⟩
    · calc ({ t with regs := s.regs, wires := s.wires, sideband := s.sideband, ward := s.ward } : State)
          = { ({ t with regs := (s.setMbxState b m).regs, wires := (s.setMbxState b m).wires, sideband := (s.setMbxState b m).sideband } : State) with
              ward := s.ward } := rfl
        _ = s := by rw [hpub]; rfl
    · have hward : t.ward = (s.setMbxState b m).ward := congrArg (·.ward) hpub
      rw [hward]
      rfl

theorem State.serveMbx_asked {cmd : Nat} {f : State → State} (h : Asked s b cmd) : s.serveMbx b cmd f = f s := by
  obtain ⟨hbusy, hheld, hcmd⟩ := h
  exact if_pos ⟨hbusy, hheld, hcmd⟩

end

end Sys2Proof.Machine

/-! What the Ward does with a mailbox: the user's writes (R86, R87), the acknowledgement (R88), and the replies (R89 to R91, R416). -/

namespace Sys2Proof.Machine
open Safety

-- the commands

theorem exec_wardMbxInWrite (p : PageReq) (s : State) :
    exec (.wardMbxInWrite p) s = .next (s.regCommand p true (· == .mbx) (fun o _ => decide (0x200 ≤ o) && decide (o ≤ 0x2F8))) := rfl
theorem exec_wardMbxDoorbell (p : PageReq) (s : State) :
    exec (.wardMbxDoorbell p) s = .next (s.regCommand p true (· == .mbx) (fun o _ => o == 0x108)) := rfl
theorem exec_mbxAcknowledge (b : Mbx) (s : State) : exec (.mbxAcknowledge b) s =
    .next (if s.fld (mbxPg b.val) R.WARD_MBX_STATUS_STATE = 1 then (s.mbxAck b.val).fmServe b.val else s) := rfl
theorem exec_mbxFixedCompletion (b : Mbx) (s : State) : exec (.mbxFixedCompletion b) s = .next (s.mbxFixed b.val) := rfl
theorem exec_info (b : Mbx) (s : State) : exec (.info b) s = .next (s.serveMbx b.val 0x0001 (fun s => s.mbxInfo b.val)) := rfl
theorem exec_spdm (b : Mbx) (reply : List Word) (s : State) :
    exec (.spdm b reply) s = .next (s.serveMbx b.val 0x0090 (fun s => s.mbxSpdm b.val reply)) := rfl
theorem exec_mbxAssign (b : Mbx) (s : State) : exec (.mbxAssign b) s = .next (s.serveMbx b.val 0x0080 (fun s => s.mbxAssign b.val)) := rfl
theorem exec_logRead (b : Mbx) (s : State) : exec (.logRead b) s = .next (s.serveMbx b.val 0x0070 (fun s => s.mbxLogRead b.val)) := rfl
theorem exec_pageRead (b : Mbx) (s : State) : exec (.pageRead b) s = .next (s.serveMbx b.val 0x0040 (fun s => s.mbxPage b.val false)) := rfl
theorem exec_pageWrite (b : Mbx) (s : State) : exec (.pageWrite b) s = .next (s.serveMbx b.val 0x0041 (fun s => s.mbxPage b.val true)) := rfl

theorem reg_respond (s : State) (r : Resp) (a : Nat) : (s.respond r).reg a = s.reg a := rfl

theorem fld_setMbxState (s : State) (b : Nat) (m : MbxState) (pg : Nat) (f : Field) : (s.setMbxState b m).fld pg f = s.fld pg f := rfl

theorem reg_setMbxState (s : State) (b : Nat) (m : MbxState) (a : Nat) : (s.setMbxState b m).reg a = s.reg a := rfl

/-- A served command goes on as its service does. -/
theorem gives_served {s : State} {b cmd : Nat} {c : Instr} {f : State → State} {P : State → Prop} (hexec : exec c s = .next (s.serveMbx b cmd f))
    (hasked : Asked s b cmd) (hP : P (f s)) : Gives c s P := ⟨_, hexec, by rwa [State.serveMbx_asked hasked]⟩

-- the user's writes (R86, R87)

theorem State.running_setMbxState (s : State) (b : Nat) (m : MbxState) : (s.setMbxState b m).ward.running = s.ward.running := rfl

theorem State.ward_setFld (s : State) (pg : Nat) (f : Field) (v : Nat) : (s.setFld pg f v).ward = s.ward := rfl

/-- An access fault leaves the fields of every other register. -/
theorem State.flag_accessFault_ne (s : State) {pg b pg' : Nat} {f : Field} (who : Requester) (off : Nat) (write : Bool)
    (hfault : (pg + 0x10) / 8 ≠ (pg' + f.off) / 8) (hinfo : (pg + 0x18) / 8 ≠ (pg' + f.off) / 8) :
    (s.accessFault pg b who off write).flag pg' f = s.flag pg' f := by
  unfold State.flag State.fld
  rw [State.reg_accessFault_ne s who off write hfault hinfo]

theorem State.ward_respond_setFld (s : State) (pg : Nat) (f : Field) (v : Nat) (r : Resp) : ((s.setFld pg f v).respond r).ward = s.ward := rfl

/-- A store whose last check fails is refused in the state the check leaves. -/
theorem State.accessNow_stores_no {s t : State} {p : PageReq} {g : Page} {off b : Nat} (h : Stores s p g off)
    (hlocked : (s.regEffect g off p.who (s.keptValue g off p.data.toNat)).locked = false)
    (hadmitted : (s.regEffect g off p.who (s.keptValue g off p.data.toNat)).admitted = true)
    (hact : (s.regEffect g off p.who (s.keptValue g off p.data.toNat)).act = .no b t) (hb : b < 64) :
    s.accessNow p = (t.accessFault g.base b p.who off true).respond (pageAnswer s p 0 true) ∧ Refused s (s.accessNow p) p g b := by
  obtain ⟨hnames, hk, hoff, hworld, hready, -, r, hrow, hbolt⟩ := h
  obtain ⟨-, -, -, hno, -⟩ := State.blockWrite_checks hrow hworld hbolt rfl
  have hshown : (p.who.path == .safelight && !true) = false := by simp
  have hperf : s.performPage p = ⟨t.accessFault g.base b p.who off true, 0, true⟩ := by
    rw [State.performPage_block hnames hk hoff, hno hlocked hadmitted hready hact, State.refuseAccess, hshown]
    rfl
  rw [State.accessNow_of_performPage hnames.1 hperf]
  exact ⟨rfl, List.getLast?_concat .., State.reg_accessFault t p.who off true hb⟩

section
variable {s : State} {p : PageReq} {b : Mbx} {off v : Nat} {who : Requester}

theorem State.keptValue_mbx : s.keptValue (Safety.mbxPage b.val) off v = v := rfl

theorem State.regEffect_mbxDoorbell :
    s.regEffect (Safety.mbxPage b.val) 0x108 who v = { admitted := s.mbxUser b.val who, act := .ok (s.mbxDoorbell b.val v) } := rfl

theorem State.regEffect_mbxIn (h200 : 0x200 ≤ off) (h2F8 : off ≤ 0x2F8) :
    s.regEffect (Safety.mbxPage b.val) off who v =
      { admitted := s.mbxUser b.val who
        act := if s.fld (mbxPg b.val) R.WARD_MBX_STATUS_STATE = 1 ∨ s.fld (mbxPg b.val) R.WARD_MBX_STATUS_STATE = 2 then
          .no FAULT_ACCESS (s.setFld (mbxPg b.val) R.WARD_MBX_STATUS_REJECT 1) else .ok (s.setReg (mbxPg b.val + off) v) } := by
  unfold State.regEffect State.ownEffect Safety.mbxPage
  dsimp only
  rw [if_neg (by omega), if_neg (by omega)]
  unfold State.mbxPageWrite
  dsimp only
  rw [if_neg (by omega), if_pos ⟨h200, h2F8⟩, Option.getD_some]

theorem State.mbxDoorbell_outstanding
    (hst : s.fld (mbxPg b.val) R.WARD_MBX_STATUS_STATE = 1 ∨ s.fld (mbxPg b.val) R.WARD_MBX_STATUS_STATE = 2) :
    s.mbxDoorbell b.val v = s.setFld (mbxPg b.val) R.WARD_MBX_STATUS_REJECT 1 := if_pos hst

theorem State.mbxDoorbell_pending (h1 : s.fld (mbxPg b.val) R.WARD_MBX_STATUS_STATE ≠ 1) (h2 : s.fld (mbxPg b.val) R.WARD_MBX_STATUS_STATE ≠ 2) :
    s.mbxDoorbell b.val v = ((s.setFld (mbxPg b.val) R.WARD_MBX_STATUS_STATE 1).setFld (mbxPg b.val) R.WARD_MBX_STATUS_SEQ (bits v 15 0)).setMbxState
      b.val { edge := ceilDiv s.now 96 } := if_neg (not_or.mpr ⟨h1, h2⟩)

section
variable (huser : s.mbxUser b.val p.who = true)
include huser

theorem gives_mbxIn (h : Stores s p (Safety.mbxPage b.val) off) (h200 : 0x200 ≤ off) (h2F8 : off ≤ 0x2F8)
    (h1 : s.fld (mbxPg b.val) R.WARD_MBX_STATUS_STATE ≠ 1) (h2 : s.fld (mbxPg b.val) R.WARD_MBX_STATUS_STATE ≠ 2) :
    Gives (.wardMbxInWrite p) s fun t =>
      Answered s t p 0 ∧ t.reg (mbxPg b.val + off) = p.data.toNat ∧ { t with resps := s.resps, regs := s.regs } = s := by
  refine ⟨_, exec_wardMbxInWrite p s, ?_⟩
  have heffect := State.regEffect_mbxIn (s := s) (b := b) (who := p.who) (v := p.data.toNat) h200 h2F8
  rw [if_neg (not_or.mpr ⟨h1, h2⟩)] at heffect
  rw [State.regCommand_names h.1 (writes_store h.2.1) rfl (by simp [h200, h2F8]),
    State.accessNow_stores h (t := s.setReg (mbxPg b.val + off) p.data.toNat)]
  · refine ⟨answered_respond, ?_, respond_only _ (State.setReg_regs_frame ..)⟩
    rw [reg_respond, State.reg_setReg, Nat.mod_eq_of_lt p.data.isLt]
  · rw [State.keptValue_mbx, heffect]
  · rw [State.keptValue_mbx, heffect]
    exact huser
  · rw [State.keptValue_mbx, heffect]

theorem gives_mbxIn_rejected (h : Stores s p (Safety.mbxPage b.val) off) (h200 : 0x200 ≤ off) (h2F8 : off ≤ 0x2F8)
    (hst : s.fld (mbxPg b.val) R.WARD_MBX_STATUS_STATE = 1 ∨ s.fld (mbxPg b.val) R.WARD_MBX_STATUS_STATE = 2) :
    Gives (.wardMbxInWrite p) s fun t =>
      Refused s t p (Safety.mbxPage b.val) 6 ∧ t.reg (mbxPg b.val + off) = s.reg (mbxPg b.val + off) ∧
      t.flag (mbxPg b.val) R.WARD_MBX_STATUS_REJECT = true := by
  have hbase := mbxPg_eq b.val
  have heffect := State.regEffect_mbxIn (s := s) (b := b) (who := p.who) (v := p.data.toNat) h200 h2F8
  rw [if_pos hst] at heffect
  obtain ⟨heq, hrefused⟩ := State.accessNow_stores_no h (b := 6) (t := s.setFld (mbxPg b.val) R.WARD_MBX_STATUS_REJECT 1)
    (by rw [State.keptValue_mbx, heffect]) (by rw [State.keptValue_mbx, heffect]; exact huser) (by rw [State.keptValue_mbx, heffect]; rfl)
    (by decide)
  refine ⟨_, exec_wardMbxInWrite p s, ?_⟩
  rw [State.regCommand_names h.1 (writes_store h.2.1) rfl (by simp [h200, h2F8])]
  refine ⟨hrefused, ?_⟩
  rw [heq]
  unfold Safety.mbxPage
  dsimp only
  refine ⟨?_, ?_⟩
  · rw [reg_respond, State.reg_accessFault_ne _ _ _ _ (by omega) (by omega), State.reg_setFld_ne]
    simp only [R.WARD_MBX_STATUS_REJECT]
    omega
  · rw [flag_respond, State.flag_accessFault_ne, State.flag_setFld _ _ _ _ rfl (by decide)]
    · rfl
    · simp only [R.WARD_MBX_STATUS_REJECT]
      omega
    · simp only [R.WARD_MBX_STATUS_REJECT]
      omega

theorem State.accessNow_mbxDoorbell (h : Stores s p (Safety.mbxPage b.val) 0x108) :
    s.accessNow p = (s.mbxDoorbell b.val p.data.toNat).respond (pageAnswer s p 0 false) := by
  refine State.accessNow_stores h ?_ ?_ ?_ <;> rw [State.keptValue_mbx, State.regEffect_mbxDoorbell]
  exact huser

theorem gives_mbxDoorbell (h : Stores s p (Safety.mbxPage b.val) 0x108)
    (h1 : s.fld (mbxPg b.val) R.WARD_MBX_STATUS_STATE ≠ 1) (h2 : s.fld (mbxPg b.val) R.WARD_MBX_STATUS_STATE ≠ 2) :
    Gives (.wardMbxDoorbell p) s fun t => Answered s t p 0 ∧
      t.fld (mbxPg b.val) R.WARD_MBX_STATUS_STATE = 1 ∧ t.fld (mbxPg b.val) R.WARD_MBX_STATUS_SEQ = p.data.toNat % 2 ^ 16 ∧
      (t.mbxState b.val).edge = ceilDiv s.now 96 ∧ (t.mbxState b.val).held = none := by
  refine ⟨_, exec_wardMbxDoorbell p s, ?_⟩
  rw [State.regCommand_names h.1 (writes_store h.2.1) rfl rfl, State.accessNow_mbxDoorbell huser h, State.mbxDoorbell_pending h1 h2]
  refine ⟨answered_respond, ?_, ?_, ?_, ?_⟩
  · rw [fld_respond, fld_setMbxState, State.fld_setFld_apart (f := R.WARD_MBX_STATUS_SEQ) (f' := R.WARD_MBX_STATUS_STATE) _ _ _ rfl (by decide)
      (by decide) (by decide) (by decide), State.fld_setFld _ _ _ _ (by decide) (by decide)]
    rfl
  · rw [fld_respond, fld_setMbxState, State.fld_setFld _ _ _ _ (by decide) (by decide)]
    simp [bits, R.WARD_MBX_STATUS_SEQ]
  · simp
  · simp

theorem gives_mbxDoorbell_rejected (h : Stores s p (Safety.mbxPage b.val) 0x108)
    (hst : s.fld (mbxPg b.val) R.WARD_MBX_STATUS_STATE = 1 ∨ s.fld (mbxPg b.val) R.WARD_MBX_STATUS_STATE = 2) :
    Gives (.wardMbxDoorbell p) s fun t => Answered s t p 0 ∧ t.flag (mbxPg b.val) R.WARD_MBX_STATUS_REJECT = true ∧
      t.fld (mbxPg b.val) R.WARD_MBX_STATUS_STATE = s.fld (mbxPg b.val) R.WARD_MBX_STATUS_STATE ∧ t.ward = s.ward := by
  refine ⟨_, exec_wardMbxDoorbell p s, ?_⟩
  rw [State.regCommand_names h.1 (writes_store h.2.1) rfl rfl, State.accessNow_mbxDoorbell huser h, State.mbxDoorbell_outstanding hst]
  exact ⟨answered_respond, (flag_respond ..).trans (State.flag_setFld _ _ _ _ rfl (by decide)), (fld_respond ..).trans
    (State.fld_setFld_apart _ _ _ rfl (by decide) (by decide) (by decide) (by decide)), State.ward_respond_setFld ..⟩

end

end

-- the Ward runs again (R84)

/-- What a mailbox's limits become when the Ward runs again. -/
def MbxState.restarted (m : MbxState) (now : Nat) : MbxState :=
  if m.again then { m with edge := ceilDiv now 96, again := false } else m

/-- A mailbox's limits are counted from now. -/
def State.restartMbx (s : State) (b : Nat) : State :=
  if (s.mbxState b).again then s.setMbxState b { s.mbxState b with edge := ceilDiv s.now 96, again := false } else s

theorem MbxState.restarted_restarted (m : MbxState) (now : Nat) : (m.restarted now).restarted now = m.restarted now := by
  cases h : m.again <;> simp [MbxState.restarted, h]

theorem State.restartMbx_frame (s : State) (b : Nat) :
    { s.restartMbx b with ward := s.ward } = s ∧ ∀ k, (s.restartMbx b).mbxState k = if k = b then (s.mbxState k).restarted s.now else s.mbxState k := by
  unfold State.restartMbx MbxState.restarted
  split
  · rename_i hagain
    refine ⟨rfl, fun k => ?_⟩
    split
    · rename_i hk
      subst hk
      simp [hagain]
    · rename_i hk
      exact State.mbxState_setMbxState_ne _ _ (Ne.symm hk)
  · rename_i hagain
    refine ⟨rfl, fun k => ?_⟩
    split
    · rename_i hk
      subst hk
      rw [if_neg hagain]
    · rfl

theorem State.restartMbx_foldl (l : List Nat) (s : State) :
    { l.foldl State.restartMbx s with ward := s.ward } = s ∧
    ∀ k, (l.foldl State.restartMbx s).mbxState k = if k ∈ l then (s.mbxState k).restarted s.now else s.mbxState k := by
  induction l generalizing s with
  | nil => exact ⟨rfl, fun k => rfl⟩
  | cons b l ih =>
    obtain ⟨hframe, hmbx⟩ := s.restartMbx_frame b
    obtain ⟨htail, hmbxs⟩ := ih (s.restartMbx b)
    rw [List.foldl_cons]
    generalize s.restartMbx b = u at hframe hmbx htail hmbxs ⊢
    generalize l.foldl State.restartMbx u = t at htail hmbxs ⊢
    have hnow : u.now = s.now := congrArg (·.now) hframe
    refine ⟨?_, fun k => ?_⟩
    · calc ({ t with ward := s.ward } : State) = { ({ t with ward := u.ward } : State) with ward := s.ward } := rfl
        _ = s := by rw [htail, hframe]
    · rw [hmbxs, hmbx, hnow]
      by_cases hk : k = b
      · subst hk
        simp [MbxState.restarted_restarted]
      · simp [hk]

theorem State.repeatLoad_frame (s : State) : { s.repeatLoad with mesh := s.mesh } = s := by
  unfold State.repeatLoad
  split
  · rfl
  · split <;> rfl

theorem State.wardRestarts_running {s : State} (h : s.ward.running = true) : s.wardRestarts = s := if_pos h

theorem State.wardRestarts_stopped {s : State} (h : s.ward.running = false) :
    let s1 := (List.range 32).foldl State.restartMbx s
    s.wardRestarts = State.repeatLoad { s1 with ward := { s1.ward with running := true } } := by
  unfold State.wardRestarts
  generalize List.range 32 = l
  exact if_neg (by rw [h]; exact Bool.false_ne_true)

/-- The Ward runs, and a mailbox's limits are counted from now if its request was met by the reset. -/
theorem State.wardRestarts_spec (s : State) :
    { s.wardRestarts with ward := s.ward, mesh := s.mesh } = s ∧ s.wardRestarts.ward.running = true ∧
    ∀ b < 32, s.wardRestarts.mbxState b = if s.ward.running = false then (s.mbxState b).restarted s.now else s.mbxState b := by
  cases h : s.ward.running
  · rw [State.wardRestarts_stopped h]
    obtain ⟨hframe, hmbx⟩ := State.restartMbx_foldl (List.range 32) s
    generalize (List.range 32).foldl State.restartMbx s = u at hframe hmbx ⊢
    have hload := State.repeatLoad_frame { u with ward := { u.ward with running := true } }
    generalize State.repeatLoad { u with ward := { u.ward with running := true } } = t at hload ⊢
    have hward : t.ward = { u.ward with running := true } := congrArg (·.ward) hload
    refine ⟨?_, by rw [hward], fun b hb => ?_⟩
    · calc ({ t with ward := s.ward, mesh := s.mesh } : State) = { ({ t with mesh := u.mesh } : State) with ward := s.ward, mesh := s.mesh } := rfl
        _ = { ({ u with ward := s.ward } : State) with mesh := s.mesh } := by rw [hload]
        _ = s := by rw [hframe]
    · have hkept : t.mbxState b = u.mbxState b := by
        unfold State.mbxState
        rw [hward]
      rw [hkept, hmbx, if_pos (List.mem_range.mpr hb), if_pos rfl]
  · rw [State.wardRestarts_running h]
    exact ⟨rfl, h, fun b _ => by simp⟩

theorem MbxState.restarted_edge (m : MbxState) (now : Nat) : (m.restarted now).edge = if m.again = true then ceilDiv now 96 else m.edge := by
  unfold MbxState.restarted
  split <;> rfl

-- the acknowledgement (R88)

/-- A PENDING request that the Ward takes: BUSY, and not answered. -/
def State.mbxTaken (s : State) (b : Nat) : State :=
  (s.wardRestarts.setFld (mbxPg b) R.WARD_MBX_STATUS_STATE 2).setMbxState b { s.wardRestarts.mbxState b with held := none, waiting := false }

section
variable {s : State} {b : Nat}

theorem State.mbxAck_known {c : Nat × (Nat → Bool) × Option Nat} (hpending : s.fld (mbxPg b) R.WARD_MBX_STATUS_STATE = 1)
    (hc : mbxCommands.find? (fun c => c.1 == s.mbxCmd b) = some c) (hallowed : c.2.1 b = true) (hlen : c.2.2 = some (s.mbxLen b)) :
    s.mbxAck b = s.mbxTaken b := by
  unfold State.mbxAck
  simp [hpending, hc, hallowed, hlen, State.mbxTaken]

theorem State.mbxAck_unknown (hpending : s.fld (mbxPg b) R.WARD_MBX_STATUS_STATE = 1)
    (hc : mbxCommands.find? (fun c => c.1 == s.mbxCmd b) = none) : s.mbxAck b = (s.mbxTaken b).mbxFinish b RES_UNKNOWN 2500 [] := by
  unfold State.mbxAck
  simp [hpending, hc, State.mbxTaken]

theorem State.fmServe_other (h : b < 28) : s.fmServe b = s := if_pos (.inl h)

theorem State.fld_mbxTaken_state : (s.mbxTaken b).fld (mbxPg b) R.WARD_MBX_STATUS_STATE = 2 := by
  unfold State.mbxTaken
  generalize s.wardRestarts = u
  rw [fld_setMbxState, State.fld_setFld _ _ _ _ (by decide) (by decide)]
  rfl

theorem State.mbxTaken_mbx (hb : b < 32) :
    ((s.mbxTaken b).mbxState b).held = none ∧ ((s.mbxTaken b).mbxState b).edge =
      if s.ward.running = false ∧ (s.mbxState b).again = true then ceilDiv s.now 96 else (s.mbxState b).edge := by
  obtain ⟨-, -, hmbx⟩ := s.wardRestarts_spec
  unfold State.mbxTaken
  rw [State.mbxState_setMbxState]
  refine ⟨rfl, ?_⟩
  dsimp only
  rw [hmbx b hb]
  by_cases hrun : s.ward.running = false
  · rw [if_pos hrun, MbxState.restarted_edge]
    simp [hrun]
  · rw [if_neg hrun, if_neg (fun h => hrun h.1)]

theorem State.mbxTaken_runs : (s.mbxTaken b).ward.running = true ∧ (s.mbxTaken b).resps = s.resps ∧
    (s.mbxTaken b).reg (mbxPg b + 0x200) = s.reg (mbxPg b + 0x200) := by
  have hbase := mbxPg_eq b
  obtain ⟨hframe, hrun, -⟩ := s.wardRestarts_spec
  unfold State.mbxTaken
  generalize s.wardRestarts.mbxState b = m
  generalize s.wardRestarts = u at hframe hrun ⊢
  refine ⟨?_, ?_, ?_⟩
  · rw [State.running_setMbxState, State.ward_setFld, hrun]
  · have hresps : u.resps = s.resps := congrArg (·.resps) hframe
    simp [hresps]
  · have hregs : u.regs = s.regs := congrArg (·.regs) hframe
    rw [reg_setMbxState, State.reg_setFld_ne _ _ (by simp only [R.WARD_MBX_STATUS_STATE]; omega), State.reg, State.reg, hregs]

end

-- the replies

/-- A byte string of at most 8 n bytes makes at most n words. -/
theorem length_wordsOfBytes (l : List Nat) : (wordsOfBytes l).length = (l.length + 7) / 8 := by
  simp [wordsOfBytes, ceilDiv]

theorem length_natBytes (n v : Nat) : (natBytes n v).length = n := by
  simp [natBytes, length_leBytes]

theorem length_sha384_le (m : List Nat) : (sha384 m).length ≤ 48 := by
  unfold sha384
  exact List.length_take_le _ _

theorem State.spdmMeasurements_length (s : State) (b : Nat) (request : Word) : (s.spdmMeasurements b request).1.length ≤ 31 := by
  unfold State.spdmMeasurements
  dsimp only
  have hsha := length_sha384_le (s.measured b)
  generalize sha384 (s.measured b) = h at hsha ⊢
  rw [length_wordsOfBytes]
  split <;> simp only [List.length_append, List.length_cons, List.length_nil, length_natBytes, List.length_replicate] <;> omega

/-- The measurements draw free values, and leave everything else. -/
theorem State.spdmMeasurements_frame (s : State) (b : Nat) (request : Word) :
    { (s.spdmMeasurements b request).2 with free := s.free } = s := rfl

section
variable {s : State} {b : Nat} {reply : List Word}

theorem State.mbxSpdm_measurements (hcode : bits (w64 (s.mbxIn b 1)).toNat 15 8 = 0xE0) :
    s.mbxSpdm b reply = (s.spdmMeasurements b (w64 (s.mbxIn b 1))).2.mbxFinish b RES_OK 500000 (s.spdmMeasurements b (w64 (s.mbxIn b 1))).1 := by
  unfold State.mbxSpdm
  dsimp only
  rw [if_pos hcode]

theorem State.mbxSpdm_reply {out : List Word} (hcode : bits (w64 (s.mbxIn b 1)).toNat 15 8 ≠ 0xE0)
    (hreply : s.spdmReply (w64 (s.mbxIn b 1)) reply = some out) :
    s.mbxSpdm b reply = State.mbxFinish { s with ward := { s.ward with sessions := spdmSessions s.ward.sessions out } } b RES_OK 500000 out := by
  unfold State.mbxSpdm
  dsimp only
  rw [if_neg hcode, hreply]

/-- What an SPDM request is served with, and the sessions that are then open. -/
theorem State.mbxSpdm_served {out : List Word} (hcode : bits (w64 (s.mbxIn b 1)).toNat 15 8 ≠ 0xE0)
    (hreply : s.spdmReply (w64 (s.mbxIn b 1)) reply = some out) (hlen : out.length < 2 ^ 8) :
    Served s (s.mbxSpdm b reply) b 500000 0 out ∧ (s.mbxSpdm b reply).ward.sessions = spdmSessions s.ward.sessions out := by
  rw [State.mbxSpdm_reply hcode hreply]
  refine ⟨State.mbxFinish_served rfl rfl (by decide) hlen, ?_⟩
  generalize spdmSessions s.ward.sessions out = n
  have hward := (State.mbxFinish_frame (s := { s with ward := { s.ward with sessions := n } }) (b := b) (result := RES_OK) (fixed := 500000)
    (out := out)).2
  exact congrArg (·.sessions) hward

/-- An ERROR is no response that opens or closes a session. -/
theorem spdmSessions_error (n code data : Nat) : spdmSessions n (spdmError code data) = n := by
  have hcode : bits ((spdmError code data).headD 0).toNat 15 8 = 0x7F := by
    simp only [spdmError, List.headD_cons, w64, BitVec.toNat_ofNat, bits, Nat.shiftLeft_eq, Nat.shiftRight_eq_div_pow]
    omega
  unfold spdmSessions
  dsimp only
  rw [hcode]
  rfl

end

end Sys2Proof.Machine

/-! The parts of the mailbox protocol (R60, R87 to R91, R416), and O29. -/

namespace Sys2Proof.Machine
open Safety

-- the acknowledgement (R88)

section
variable {s : State} {b : Mbx}

theorem gives_mbxAcknowledge (hpending : s.fld (mbxPg b.val) R.WARD_MBX_STATUS_STATE = 1) {P : State → Prop}
    (hP : P ((s.mbxAck b.val).fmServe b.val)) : Gives (.mbxAcknowledge b) s P :=
  ⟨_, exec_mbxAcknowledge b s, by rwa [if_pos hpending]⟩

theorem gives_mbxAcknowledge_unknown (hpending : s.fld (mbxPg b.val) R.WARD_MBX_STATUS_STATE = 1)
    (hc : mbxCommands.find? (fun c => c.1 == s.mbxCmd b.val) = none) :
    (b.val < 8 → Gives (.mbxAcknowledge b) s fun t => Published s t b.val 1 []) ∧
    (8 ≤ b.val → b.val ≤ 23 → Gives (.mbxAcknowledge b) s fun t =>
      (t.mbxState b.val).held = some ⟨((s.mbxTaken b.val).mbxState b.val).edge + 2500, 1, []⟩ ∧
      t.fld (mbxPg b.val) R.WARD_MBX_STATUS_STATE = 2) := by
  obtain ⟨-, -, hreg⟩ := State.mbxTaken_runs (s := s) (b := b.val)
  refine ⟨fun h8 => gives_mbxAcknowledge hpending ?_, fun h8 h23 => gives_mbxAcknowledge hpending ?_⟩
  · rw [State.mbxAck_unknown hpending hc, State.fmServe_other (by omega)]
    exact published_congr hreg (State.mbxFinish_published (.inl h8) (by decide) (by decide))
  · rw [State.mbxAck_unknown hpending hc, State.fmServe_other (by omega), State.mbxFinish_held h8 h23, fld_setMbxState,
      State.mbxState_setMbxState]
    exact ⟨rfl, State.fld_mbxTaken_state⟩

end

-- the held reply (R88)

theorem State.mbxFixed_held {s : State} {b : Nat} {r : MbxReply} (h : (s.mbxState b).held = some r) :
    s.mbxFixed b = ((s.toAclk r.due).setMbxState b { s.mbxState b with held := none }).mbxPublish b r.result r.out := by
  unfold State.mbxFixed
  rw [h]

theorem State.mbxPublish_now (s : State) (b result : Nat) (out : List Word) : (s.mbxPublish b result out).now = s.now := by
  have hframe := s.mbxPublish_frame b result out
  generalize s.mbxPublish b result out = t at hframe ⊢
  exact congrArg (·.now) hframe

theorem State.mbxPublish_mbxState (s : State) (b result : Nat) (out : List Word) (k : Nat) :
    (s.mbxPublish b result out).mbxState k = s.mbxState k := by
  have hframe := s.mbxPublish_frame b result out
  generalize s.mbxPublish b result out = t at hframe ⊢
  rw [← hframe]
  rfl

theorem gives_mbxFixedCompletion {s : State} {b : Mbx} {r : MbxReply} (h : (s.mbxState b.val).held = some r) (hres : r.result < 2 ^ 16)
    (hlen : r.out.length ≤ 31) : Gives (.mbxFixedCompletion b) s fun t =>
      t.now = max s.now (96 * r.due) ∧ Published s t b.val r.result r.out ∧ (t.mbxState b.val).held = none := by
  refine ⟨_, exec_mbxFixedCompletion b s, ?_⟩
  rw [State.mbxFixed_held h]
  generalize hu : (s.toAclk r.due).setMbxState b.val { s.mbxState b.val with held := none } = u
  have hnow : u.now = max s.now (96 * r.due) := by rw [← hu]; rfl
  have hreg : u.reg (mbxPg b.val + 0x200) = s.reg (mbxPg b.val + 0x200) := by rw [← hu]; rfl
  have hheld : (u.mbxState b.val).held = none := by rw [← hu, State.mbxState_setMbxState]
  refine ⟨(State.mbxPublish_now ..).trans hnow, published_congr hreg (State.mbxPublish_published u hres (by omega)), ?_⟩
  rw [State.mbxPublish_mbxState, hheld]

-- SPDM (R91)

theorem spdmSessions_take (n : Nat) (reply : List Word) : spdmSessions n (reply.take 31) = spdmSessions n reply := by
  cases reply <;> rfl

section
variable {s : State} {b : Mbx} {reply : List Word} (hasked : Asked s b.val 0x90)
include hasked

theorem gives_spdm {P : State → Prop} (hP : P (s.mbxSpdm b.val reply)) : Gives (.spdm b reply) s P :=
  gives_served (exec_spdm b reply s) hasked hP

theorem gives_spdm_measurements (hcode : bits (w64 (s.mbxIn b.val 1)).toNat 15 8 = 0xE0) : Gives (.spdm b reply) s fun t =>
    Served s t b.val 500000 0 (s.spdmMeasurements b.val (w64 (s.mbxIn b.val 1))).1 ∧ t.ward.sessions = s.ward.sessions := by
  refine gives_spdm hasked ?_
  rw [State.mbxSpdm_measurements hcode]
  have hlen := s.spdmMeasurements_length b.val (w64 (s.mbxIn b.val 1))
  have hframe := s.spdmMeasurements_frame b.val (w64 (s.mbxIn b.val 1))
  generalize s.spdmMeasurements b.val (w64 (s.mbxIn b.val 1)) = m at hlen hframe ⊢
  have hward : m.2.ward = s.ward := congrArg (·.ward) hframe
  have hmbx : (m.2.mbxState b.val).edge = (s.mbxState b.val).edge := by
    unfold State.mbxState
    rw [hward]
  refine ⟨State.mbxFinish_served (congrArg (·.regs) hframe) hmbx (by decide) (by omega), ?_⟩
  have hfinish := (State.mbxFinish_frame (s := m.2) (b := b.val) (result := RES_OK) (fixed := 500000) (out := m.1)).2
  rw [hward] at hfinish
  exact congrArg (·.sessions) hfinish

theorem gives_spdm_reply {out : List Word} (hcode : bits (w64 (s.mbxIn b.val 1)).toNat 15 8 ≠ 0xE0)
    (hreply : s.spdmReply (w64 (s.mbxIn b.val 1)) reply = some out) (hlen : out.length ≤ 31) : Gives (.spdm b reply) s fun t =>
      Served s t b.val 500000 0 out ∧ t.ward.sessions = spdmSessions s.ward.sessions out :=
  gives_spdm hasked (State.mbxSpdm_served hcode hreply (by omega))

end

theorem State.spdmReply_unsupported {s : State} {request : Word} {reply : List Word} (h : bits request.toNat 15 8 ∉ spdmRequests) :
    s.spdmReply request reply = some (spdmError 7 (bits request.toNat 15 8)) := by
  simp [State.spdmReply, h]

theorem State.spdmReply_full {s : State} {request : Word} {reply : List Word} (h : bits request.toNat 15 8 = 0xE4) (hfull : 8 ≤ s.ward.sessions) :
    s.spdmReply request reply = some (spdmError 10 0) := by
  have hlisted : spdmRequests.contains 0xE4 = true := by decide
  simp only [State.spdmReply, h, hlisted, hfull]
  rfl

theorem State.spdmReply_answer {s : State} {request : Word} {reply : List Word} (hlisted : bits request.toNat 15 8 ∈ spdmRequests)
    (hroom : bits request.toNat 15 8 = 0xE4 → s.ward.sessions < 8)
    (hcode : bits ((reply.headD 0).toNat) 15 8 = bits request.toNat 15 8 - 0x80) : s.spdmReply request reply = some (reply.take 31) := by
  have hfree : ¬(bits request.toNat 15 8 = 0xE4 ∧ 8 ≤ s.ward.sessions) := fun ⟨h, hfull⟩ => absurd (hroom h) (by omega)
  have hcontains : spdmRequests.contains (bits request.toNat 15 8) = true := List.contains_iff_mem.mpr hlisted
  unfold State.spdmReply
  dsimp only
  rw [hcontains, if_neg (by decide), if_neg hfree, if_pos (.inl hcode)]

/-- Of the requests, only KEY_EXCHANGE opens a session and only END_SESSION closes one. -/
theorem spdmSessions_answer {code : Nat} {reply : List Word} (n : Nat)
    (hcode : bits ((reply.headD 0).toNat) 15 8 = code - 0x80) :
    spdmSessions n reply = if code = 0xE4 then n + 1 else if code = 0xEC then n - 1 else n := by
  have hopen : code - 0x80 = 0x64 ↔ code = 0xE4 := by omega
  have hclose : code - 0x80 = 0x6C ↔ code = 0xEC := by omega
  unfold spdmSessions
  simp only [hcode, hopen, hclose]

-- MBX_ASSIGN (R85, R89)

theorem State.mbxAssign_done {s : State} {b : Nat} (h8 : 8 ≤ s.mbxIn b 1) (h23 : s.mbxIn b 1 ≤ 23) (hen : s.mbxIn b 2 ≤ 1) (ht : s.mbxIn b 3 < 0xFFF) :
    s.mbxAssign b = (s.setReg (mbxPg (s.mbxIn b 1) + 0x110) (s.mbxIn b 2 * 2 ^ 63 + 2 ^ 60 + s.mbxIn b 3 * 2 ^ 16)).mbxFinish b RES_OK 0 [] := by
  unfold State.mbxAssign
  dsimp only
  rw [if_neg (by omega), if_neg (by omega)]
  simp only [Nat.shiftLeft_eq, Nat.one_mul]

/-- The word that MBX_ASSIGN stores. -/
theorem bits_assignWord {en t : Nat} (hen : en ≤ 1) (ht : t < 0xFFF) :
    (en * 2 ^ 63 + 2 ^ 60 + t * 2 ^ 16) % 2 ^ 64 = en * 2 ^ 63 + 2 ^ 60 + t * 2 ^ 16 ∧ bits (en * 2 ^ 63 + 2 ^ 60 + t * 2 ^ 16) 63 63 = en ∧
    bits (en * 2 ^ 63 + 2 ^ 60 + t * 2 ^ 16) 62 60 = 1 ∧ bits (en * 2 ^ 63 + 2 ^ 60 + t * 2 ^ 16) 27 16 = t := by
  simp only [bits, Nat.shiftRight_eq_div_pow]
  omega

theorem gives_mbxAssign {s : State} {b : Mbx} (hb : b.val < 8) (hasked : Asked s b.val 0x80) (h8 : 8 ≤ s.mbxIn b.val 1) (h23 : s.mbxIn b.val 1 ≤ 23)
    (hen : s.mbxIn b.val 2 ≤ 1) (ht : s.mbxIn b.val 3 < 0xFFF) : Gives (.mbxAssign b) s fun t =>
      Published s t b.val 0 [] ∧ t.flag (mbxPg (s.mbxIn b.val 1)) R.WARD_MBX_ASSIGN_EN = (s.mbxIn b.val 2 == 1) ∧
      t.fld (mbxPg (s.mbxIn b.val 1)) R.WARD_MBX_ASSIGN_USER = 1 ∧ t.fld (mbxPg (s.mbxIn b.val 1)) R.WARD_MBX_ASSIGN_TENANT = s.mbxIn b.val 3 := by
  refine gives_served (exec_mbxAssign b s) hasked ?_
  have hbase := mbxPg_eq b.val
  have hnbase := mbxPg_eq (s.mbxIn b.val 1)
  obtain ⟨hword, hEN, hUSER, hTENANT⟩ := bits_assignWord hen ht
  rw [State.mbxAssign_done h8 h23 hen ht]
  generalize s.mbxIn b.val 2 * 2 ^ 63 + 2 ^ 60 + s.mbxIn b.val 3 * 2 ^ 16 = v at *
  generalize s.mbxIn b.val 1 = n at *
  have hown : (s.setReg (mbxPg n + 0x110) v).reg (mbxPg b.val + 0x200) = s.reg (mbxPg b.val + 0x200) := State.reg_setReg_ne _ _ (by omega)
  have hassign : ((s.setReg (mbxPg n + 0x110) v).mbxFinish b.val RES_OK 0 []).reg (mbxPg n + 0x110) = v := by
    rw [State.mbxFinish_now (.inl hb), State.reg_mbxPublish, State.reg_mbxReply_out _ _ _ (by omega) (by simp only [List.length_nil]; omega),
      reg_setMbxState, State.reg_setReg, hword]
  refine ⟨published_congr hown (State.mbxFinish_published (.inl hb) (by decide) (by decide)), ?_, ?_, ?_⟩
  · simp only [State.flag, State.fld, R.WARD_MBX_ASSIGN_EN, hassign, hEN]
  · simp only [State.fld, R.WARD_MBX_ASSIGN_USER, hassign, hUSER]
  · simp only [State.fld, R.WARD_MBX_ASSIGN_TENANT, hassign, hTENANT]

-- LOG_READ (R416)

theorem State.mbxFinish_log (s : State) (b result fixed : Nat) (out : List Word) : (s.mbxFinish b result fixed out).log = s.log := by
  have hframe := (State.mbxFinish_frame (s := s) (b := b) (result := result) (fixed := fixed) (out := out)).1
  generalize s.mbxFinish b result fixed out = t at hframe ⊢
  exact congrArg (·.log) hframe

theorem State.mbxLogRead_record {s : State} {b : Nat} (hlast : s.mbxIn b 1 < s.fld (rasPg 0) R.RAS_LOG_SEQ_NEXT)
    (hfirst : s.fld (rasPg 0) R.RAS_LOG_SEQ_NEXT ≤ s.mbxIn b 1 + 4096) :
    let r := normalRec (Tab.get ⟨0, 0, 0, 0⟩ s.log (s.mbxIn b 1 % 4096))
    s.mbxLogRead b = s.mbxFinish b RES_OK 0 [r.w0, r.w1, r.w2, r.w3] := by
  unfold State.mbxLogRead
  dsimp only
  rw [if_neg (by omega)]

theorem State.mbxLogRead_none {s : State} {b : Nat} (h : s.fld (rasPg 0) R.RAS_LOG_SEQ_NEXT ≤ s.mbxIn b 1) :
    s.mbxLogRead b = s.mbxFinish b RES_BADARG 0 [] := by
  unfold State.mbxLogRead
  dsimp only
  rw [if_pos (.inl h)]

-- PAGE_READ and PAGE_WRITE (R60)

/-- The access that the Ward performs for the BMC. -/
def State.bmcAccess (s : State) (b : Nat) (write : Bool) : PageReq :=
  ⟨bmcReq, BitVec.ofNat 52 (s.mbxIn b 1), if write then .store else .load, 8, if write then w64 (s.mbxIn b 2) else 0, s.tb, 256 + b⟩

section
variable {s : State} {b n : Nat} {write : Bool}

theorem State.mbxPage_starts (haddr : s.mbxIn b 1 < 2 ^ 52) (hwaiting : (s.mbxState b).waiting = false) :
    s.mbxPage b write = (s.setMbxState b { s.mbxState b with waiting := true }).rootRequest (s.bmcAccess b write) := by
  unfold State.mbxPage
  dsimp only
  rw [if_neg (by omega), hwaiting]
  rfl

theorem State.rootRequest_stop {p : PageReq} (h : pageStop p.addr.toNat = some n) : s.rootRequest p =
    s.setHinge n { s.hinge n with
      rootQ := (s.hinge n).rootQ ++ [(kclkEdge s.now + 6 * ((if p.who.path = .safelight then 0 else 3) + keywayLeg n), p)] } := by
  unfold State.rootRequest
  rw [h]

theorem State.mbxPage_done {r : Resp} (haddr : s.mbxIn b 1 < 2 ^ 52) (hwaiting : (s.mbxState b).waiting = true) (hresps : s.resps = [r])
    (hwho : r.who = bmcReq) (htag : r.tag = 256 + b) :
    s.mbxPage b write = if r.err then (({ s with resps := [] } : State).toMclk r.at_).mbxFinish b RES_DENIED 0 []
      else (({ s with resps := [] } : State).toMclk r.at_).mbxFinish b RES_OK 0 (if write then [] else [r.data.setWidth 64]) := by
  have htake : takeFirst (fun r => r.who == bmcReq && r.tag == 256 + b) s.resps = some (r, []) := by
    simp [hresps, takeFirst, hwho, htag]
  unfold State.mbxPage
  dsimp only
  rw [if_neg (by omega), hwaiting, htake]
  rfl

theorem State.mbxFinish_clock (s : State) (b result fixed : Nat) (out : List Word) :
    (s.mbxFinish b result fixed out).now = s.now ∧ (s.mbxFinish b result fixed out).resps = s.resps := by
  have hframe := (State.mbxFinish_frame (s := s) (b := b) (result := result) (fixed := fixed) (out := out)).1
  generalize s.mbxFinish b result fixed out = t at hframe ⊢
  exact ⟨congrArg (·.now) hframe, congrArg (·.resps) hframe⟩

end

/-- The service of a mailbox's page access. -/
theorem gives_page {s : State} {b : Mbx} {write : Bool} (hasked : Asked s b.val (if write then 0x41 else 0x40)) {P : State → Prop}
    (hP : P (s.mbxPage b.val write)) : Gives (if write then .pageWrite b else .pageRead b) s P := by
  cases write
  · exact gives_served (exec_pageRead b s) hasked hP
  · exact gives_served (exec_pageWrite b s) hasked hP

theorem gives_page_starts {s : State} {b : Mbx} {write : Bool} {n : Nat} (hasked : Asked s b.val (if write then 0x41 else 0x40))
    (haddr : s.mbxIn b.val 1 < 2 ^ 52) (hwaiting : (s.mbxState b.val).waiting = false)
    (hstop : pageStop (BitVec.ofNat 52 (s.mbxIn b.val 1) : PA).toNat = some n) : Gives (if write then .pageWrite b else .pageRead b) s fun t =>
      (t.mbxState b.val).waiting = true ∧
      (t.hinge n).rootQ = (s.hinge n).rootQ ++ [(kclkEdge s.now + 6 * (3 + keywayLeg n), s.bmcAccess b.val write)] ∧ t.regs = s.regs := by
  refine gives_page hasked ?_
  rw [State.mbxPage_starts haddr hwaiting, State.rootRequest_stop (p := s.bmcAccess b.val write) hstop]
  refine ⟨by simp, ?_, by simp⟩
  rw [State.hinge_setHinge]
  rfl

theorem gives_page_done {s : State} {b : Mbx} {write : Bool} {r : Resp} (hb : 24 ≤ b.val) (hasked : Asked s b.val (if write then 0x41 else 0x40))
    (haddr : s.mbxIn b.val 1 < 2 ^ 52) (hwaiting : (s.mbxState b.val).waiting = true) (hresps : s.resps = [r])
    (hwho : r.who = bmcReq) (htag : r.tag = 256 + b.val) :
    (r.err = false → Gives (if write then .pageWrite b else .pageRead b) s fun t => t.now = max s.now r.at_ ∧ t.resps = [] ∧
      Published s t b.val 0 (if write then [] else [r.data.setWidth 64])) ∧
    (r.err = true → Gives (if write then .pageWrite b else .pageRead b) s fun t => Published s t b.val 2 []) := by
  have hmbx : b.val < 8 ∨ 23 < b.val := by omega
  have hdone := State.mbxPage_done (write := write) haddr hwaiting hresps hwho htag
  refine ⟨fun herr => gives_page hasked ?_, fun herr => gives_page hasked ?_⟩ <;> rw [hdone, herr]
  · generalize hu : ({ s with resps := [] } : State).toMclk r.at_ = u
    have hreg : u.reg (mbxPg b.val + 0x200) = s.reg (mbxPg b.val + 0x200) := by rw [← hu]; rfl
    rw [if_neg Bool.false_ne_true]
    obtain ⟨hnow, hnone⟩ := State.mbxFinish_clock u b.val RES_OK 0 (if write then [] else [r.data.setWidth 64])
    refine ⟨by rw [hnow, ← hu]; rfl, by rw [hnone, ← hu]; rfl, published_congr hreg (State.mbxFinish_published hmbx (by decide) ?_)⟩
    cases write <;> simp
  · generalize hu : ({ s with resps := [] } : State).toMclk r.at_ = u
    have hreg : u.reg (mbxPg b.val + 0x200) = s.reg (mbxPg b.val + 0x200) := by rw [← hu]; rfl
    rw [if_pos rfl]
    exact published_congr hreg (State.mbxFinish_published hmbx (by decide) (by decide))

/-- Settles O29, request by request. -/
theorem mailboxProtocol : Obligations.MailboxProtocol := by
  unfold Obligations.MailboxProtocol
  refine ⟨fun s p b huser => ?_, fun s b hpending => ?_, fun s b r hheld hres hlen => gives_mbxFixedCompletion hheld hres hlen,
    fun s b hasked => ?_, fun s b reply hasked => ?_, fun s b hb => ?_, fun s b write hb hasked haddr => ?_⟩
  · exact ⟨fun off h h200 h2F8 h1 h2 => gives_mbxIn huser h h200 h2F8 h1 h2, fun off h h200 h2F8 hst => gives_mbxIn_rejected huser h h200 h2F8 hst,
      fun h h1 h2 => gives_mbxDoorbell huser h h1 h2, fun h hst => gives_mbxDoorbell_rejected huser h hst⟩
  · intro edge
    obtain ⟨hheld, hedge⟩ := State.mbxTaken_mbx (s := s) b.isLt
    refine ⟨fun c hb hc hallowed hlen => gives_mbxAcknowledge hpending ?_, fun hc => ?_⟩
    · obtain ⟨hrun, hresps, -⟩ := State.mbxTaken_runs (s := s) (b := b.val)
      rw [State.mbxAck_known hpending hc hallowed hlen, State.fmServe_other hb]
      exact ⟨State.fld_mbxTaken_state, hheld, hrun, hresps⟩
    · have hunknown := gives_mbxAcknowledge_unknown hpending hc
      rw [hedge] at hunknown
      exact hunknown
  · exact gives_served (exec_info b s) hasked (State.mbxFinish_served rfl rfl (by decide) (by simp))
  · intro request code answer
    refine ⟨fun hcode => gives_spdm_measurements hasked hcode, fun hcode => ?_, fun hcode hfull => ?_, fun hlisted hmeas hroom hanswer => ?_⟩
    · have hne : code ≠ 0xE0 := fun h => hcode (h ▸ by decide)
      have hgives := gives_spdm_reply hasked hne (State.spdmReply_unsupported (reply := reply) hcode) (by simp [spdmError])
      rwa [spdmSessions_error] at hgives
    · have hgives := gives_spdm_reply hasked (fun h => absurd (hcode.symm.trans h) (by decide)) (State.spdmReply_full (reply := reply) hcode hfull) (by simp [spdmError])
      rwa [spdmSessions_error] at hgives
    · have hgives := gives_spdm_reply hasked hmeas (State.spdmReply_answer hlisted hroom hanswer) (List.length_take_le ..)
      rwa [spdmSessions_take, spdmSessions_answer _ hanswer] at hgives
  · refine ⟨fun hasked h8 h23 hen ht => gives_mbxAssign hb hasked h8 h23 hen ht, fun hasked hlast hfirst => ?_, fun hasked hnone => ?_⟩
    · refine gives_served (exec_logRead b s) hasked ?_
      rw [State.mbxLogRead_record hlast hfirst]
      exact ⟨State.mbxFinish_published (.inl hb) (by decide) (by simp), State.mbxFinish_log ..⟩
    · refine gives_served (exec_logRead b s) hasked ?_
      rw [State.mbxLogRead_none hnone]
      exact State.mbxFinish_published (.inl hb) (by decide) (by decide)
  · intro c a
    refine ⟨fun n hwaiting hstop => ?_, fun r hwaiting hresps hwho htag => gives_page_done hb hasked haddr hwaiting hresps hwho htag⟩
    exact gives_page_starts hasked haddr hwaiting hstop

end Sys2Proof.Machine

/-! A fabric port's own notes: its counters, records, faults and sources (R408, R409, R508). What else is read of the state they leave as it was. -/

namespace Sys2Proof.Machine
open Safety

-- addresses

/-- Addresses outside the fault, record and counter registers of the page at `pg`. -/
def OffNotes (pg a : Nat) : Prop := a < pg + 0x10 ∨ (pg + 0x20 ≤ a ∧ a < pg + 0x40) ∨ (pg + 0x80 ≤ a ∧ a < pg + 0xE00) ∨ pg + 0x1000 ≤ a

theorem portPg_mod (p : Nat) : portPg p % 4096 = 0 := by
  unfold portPg
  have := pageBase_eq (fpStop p) 0x10
  omega

/-- A register of another block is none of a port's notes. -/
theorem offNotes_block {p n b off : Nat} (hb : b < 256) (hne : b ≠ 0x10) (hoff : off < 0x1000) : OffNotes (portPg p) (pageBase n b + off) := by
  have hport := pageBase_eq (fpStop p) 0x10
  have hblock := pageBase_eq n b
  unfold OffNotes portPg
  omega

theorem offNotes_link {p q l off : Nat} (hl : l < 4) (hoff : off < 0x1000) : OffNotes (portPg p) (linkPg q l + off) :=
  offNotes_block (by omega) (by omega) hoff

theorem offNotes_bolt {p i off : Nat} (hi : i < 8) (hoff : off < 0x1000) : OffNotes (portPg p) (boltPg i + off) :=
  offNotes_block (by omega) (by omega) hoff

/-- A block-specific register of a port is none of any port's notes. -/
theorem offNotes_port {p q off : Nat} (hlo : 0x80 ≤ off) (hhi : off < 0xE00) : OffNotes (portPg p) (portPg q + off) := by
  have hp := portPg_mod p
  have hq := portPg_mod q
  unfold OffNotes
  omega

theorem pageAt_portPg {p : Nat} (hp : p < 8) : pageAt (portPg p) = some (portPage p) := by
  have hstop : fpStop p < 120 := by
    unfold fpStop stopAt
    split <;> omega
  have hat : blockAt (fpStop p) 0x10 = some (.fp0, 0x018, p, 0) := by
    interval_cases p <;> rfl
  have h := pageAt_of_blockAt (off := 0) hstop (by decide) (by decide) hat
  rwa [Nat.add_zero] at h

-- what notes leave

/-- From `s` to `t` nothing has changed but the fault, record and counter registers of page `pg`, and what they raise and report. -/
structure NotesOnly (pg : Nat) (s t : State) : Prop where
  rest : { t with regs := s.regs, wires := s.wires, reports := s.reports, reported := s.reported } = s
  reg : ∀ a, OffNotes pg a → t.reg a = s.reg a

namespace NotesOnly

variable {pg : Nat} {s t u : State}

theorem refl (pg : Nat) (s : State) : NotesOnly pg s s := ⟨rfl, fun _ _ => rfl⟩

theorem trans (h : NotesOnly pg s t) (h' : NotesOnly pg t u) : NotesOnly pg s u := by
  obtain ⟨hrest, hreg⟩ := h
  obtain ⟨hrest', hreg'⟩ := h'
  refine ⟨?_, fun a ha => (hreg' a ha).trans (hreg a ha)⟩
  calc ({ u with regs := s.regs, wires := s.wires, reports := s.reports, reported := s.reported } : State)
      = { ({ u with regs := t.regs, wires := t.wires, reports := t.reports, reported := t.reported } : State) with
          regs := s.regs, wires := s.wires, reports := s.reports, reported := s.reported } := rfl
    _ = s := by rw [hrest', hrest]

theorem now (h : NotesOnly pg s t) : t.now = s.now := (congrArg State.now h.rest :)
theorem out (h : NotesOnly pg s t) : t.out = s.out := (congrArg State.out h.rest :)
theorem mem (h : NotesOnly pg s t) : t.mem = s.mem := (congrArg State.mem h.rest :)
theorem mesh (h : NotesOnly pg s t) : t.mesh = s.mesh := (congrArg State.mesh h.rest :)
theorem tct (h : NotesOnly pg s t) : t.tct = s.tct := (congrArg State.tct h.rest :)
theorem home (h : NotesOnly pg s t) : t.home = s.home := (congrArg State.home h.rest :)
theorem ports (h : NotesOnly pg s t) : t.ports = s.ports := (congrArg State.ports h.rest :)
theorem links (h : NotesOnly pg s t) : t.links = s.links := (congrArg State.links h.rest :)

theorem port (h : NotesOnly pg s t) (p : Nat) : t.port p = s.port p := by
  unfold State.port
  rw [h.ports]

theorem link (h : NotesOnly pg s t) (p l : Nat) : t.link p l = s.link p l := by
  unfold State.link
  rw [h.links]

theorem ofCounts (h : CountsOnly pg s t) : NotesOnly pg s t := by
  obtain ⟨hrest, hreg⟩ := h
  refine ⟨?_, fun a ha => hreg a ?_⟩
  · calc ({ t with regs := s.regs, wires := s.wires, reports := s.reports, reported := s.reported } : State)
        = { ({ t with regs := s.regs, wires := s.wires } : State) with reports := s.reports, reported := s.reported } := rfl
      _ = s := by rw [hrest]
  · unfold OffNotes at ha
    unfold OffCounters
    omega

theorem ofPulse (pg : Nat) (s : State) (src : Nat) : NotesOnly pg s (s.pulse src) := ofCounts ((CountsOnly.refl pg s).pulse)

theorem ofSetReg {off : Nat} (s : State) (v : Nat) (hpg : pg % 8 = 0)
    (hoff : (0x10 ≤ off ∧ off < 0x20) ∨ (0x40 ≤ off ∧ off < 0x80)) : NotesOnly pg s (s.setReg (pg + off) v) := by
  refine ⟨rfl, fun a ha => State.reg_setReg_ne _ _ ?_⟩
  unfold OffNotes at ha
  omega

theorem ofAccessFault (s : State) (b : Nat) (who : Requester) (off : Nat) (write : Bool) (hpg : pg % 8 = 0) :
    NotesOnly pg s (s.accessFault pg b who off write) := by
  have hframe := s.accessFault_frame pg b who off write
  refine ⟨?_, fun a ha => State.reg_accessFault_ne _ _ _ _ ?_ ?_⟩
  · generalize s.accessFault pg b who off write = t at hframe ⊢
    calc ({ t with regs := s.regs, wires := s.wires, reports := s.reports, reported := s.reported } : State)
        = { ({ t with regs := s.regs } : State) with wires := s.wires, reports := s.reports, reported := s.reported } := rfl
      _ = s := by rw [hframe]
  · unfold OffNotes at ha
    omega
  · unfold OffNotes at ha
    omega

theorem ofPutRec {off : Nat} (s : State) (r : Rec) (hpg : pg % 8 = 0) (hoff : off = 0x40 ∨ off = 0x60) : NotesOnly pg s (s.putRec pg off r) := by
  unfold State.putRec
  simp only [Nat.add_assoc]
  exact (((ofSetReg s _ hpg (by omega)).trans (ofSetReg _ _ hpg (by omega))).trans (ofSetReg _ _ hpg (by omega))).trans
    (ofSetReg _ _ hpg (by omega))

theorem ofReports (pg : Nat) (s : State) (r : List Rec) (d : Tab (Nat × Nat)) : NotesOnly pg s { s with reports := r, reported := d } :=
  ⟨rfl, fun _ _ => rfl⟩

theorem ofRecord (s : State) (sev code addr detail : Nat) (secure : Bool) (hpg : pg % 8 = 0) :
    NotesOnly pg s (s.record pg sev code addr detail secure) := by
  unfold State.record
  split
  · exact refl pg s
  · extract_lets sec s0 old same n r s1 s2
    have h0 : NotesOnly pg s s0 := ofSetReg s _ hpg (by omega)
    have h1 : NotesOnly pg s s1 := (h0.trans (ofPutRec s0 old hpg (.inr rfl))).trans (ofPutRec _ r hpg (.inl rfl))
    have h2 : NotesOnly pg s s2 := h1.trans (ofReports pg s1 _ _)
    split
    · exact h0.trans (ofPutRec s0 _ hpg (.inl rfl))
    · split
      · exact h2.trans (ofPulse pg s2 _)
      · exact h2

end NotesOnly

theorem portPg_mod8 (p : Nat) : portPg p % 8 = 0 := by
  have := portPg_mod p
  omega

theorem State.fabCount_counts (s : State) (p l ev : Nat) : CountsOnly (portPg p) s (s.fabCount p l ev) := CountsOnly.count (portPg_mod8 p) ..

theorem State.fabCount_notes (s : State) (p l ev : Nat) : NotesOnly (portPg p) s (s.fabCount p l ev) := .ofCounts (s.fabCount_counts p l ev)

theorem State.fabRecord_notes (s : State) (p l sev code pa rid status : Nat) : NotesOnly (portPg p) s (s.fabRecord p l sev code pa rid status) :=
  .ofRecord s _ _ _ _ _ (portPg_mod8 p)

-- the newest record (R413)

theorem bits_recWord0 {type inst sev code count : Nat} {secure : Bool} (hcode : code < 2 ^ 16) (hcount : count < 2 ^ 16) :
    bits (w64 (recWord0 type inst sev code count secure)).toNat 31 16 = code := by
  simp only [w64, BitVec.toNat_ofNat, recWord0, bits, Nat.shiftLeft_eq, Nat.shiftRight_eq_div_pow]
  omega

theorem State.reg_putRec (s : State) (pg off : Nat) (r : Rec) : (s.putRec pg off r).reg (pg + off) = r.w0.toNat := by
  unfold State.putRec
  rw [State.reg_setReg_ne _ _ (by omega), State.reg_setReg_ne _ _ (by omega), State.reg_setReg_ne _ _ (by omega), State.reg_setReg,
    Nat.mod_eq_of_lt r.w0.isLt]

theorem State.reg_withReports (s : State) (r : List Rec) (d : Tab (Nat × Nat)) (a : Nat) :
    ({ s with reports := r, reported := d } : State).reg a = s.reg a := rfl

/-- An error that is not corrected is logged as a record of its own, with its code. -/
theorem State.bits_record (s : State) {pg sev code : Nat} {p : Page} (addr detail : Nat) (secure : Bool) (hat : pageAt pg = some p) (hsev : sev ≠ 0)
    (hcode : code < 2 ^ 16) : bits ((s.record pg sev code addr detail secure).reg (pg + 0x40)) 31 16 = code := by
  unfold State.record
  split
  · rename_i hnone
    cases hat.symm.trans hnone
  · extract_lets sec s0 old same n r s1 s2
    have hsame : same = false := by simp [same, hsev]
    have hreg : s2.reg (pg + 0x40) = r.w0.toNat := (State.reg_withReports s1 _ _ _).trans (State.reg_putRec _ _ _ _)
    have hbits : bits (s2.reg (pg + 0x40)) 31 16 = code := by
      rw [hreg]
      exact bits_recWord0 hcode (by decide)
    rw [hsame, if_neg Bool.false_ne_true]
    split
    · rw [State.reg_pulse, hbits]
    · rw [hbits]

/-- R409: a port logs its error. -/
theorem State.fabRecord_logs (s : State) (p : PortId) {l sev code pa rid status : Nat} (hsev : sev ≠ 0) (hcode : code < 2 ^ 16) :
    PortLogs (s.fabRecord p l sev code pa rid status) p code := s.bits_record _ _ _ (pageAt_portPg p.isLt) hsev hcode

theorem portLogs_congr {s t : State} {p : PortId} {code : Nat} (h : PortLogs s p code) (hreg : t.reg (portPg p + 0x40) = s.reg (portPg p + 0x40)) :
    PortLogs t p code := by
  unfold PortLogs at h ⊢
  rwa [hreg]

/-- Counting changes no record. -/
theorem portLogs_counts {s t : State} {p : PortId} {code : Nat} (h : PortLogs s p code) (hcounts : CountsOnly (portPg p) s t) :
    PortLogs t p code := portLogs_congr h (hcounts.reg _ (.inl (by omega)))

-- a message handed to a link (R178)

section
variable {s : State} {p : Nat} {m : FabMsg}

theorem State.handOut_counts (s : State) (p : Nat) (m : FabMsg) :
    CountsOnly (portPg p) (s.setPort p { s.port p with tx := (s.port p).tx ++ [m] }) (s.handOut p m) := State.fabCount_counts ..

theorem State.port_handOut (s : State) (p : Nat) (m : FabMsg) : (s.handOut p m).port p = { s.port p with tx := (s.port p).tx ++ [m] } := by
  rw [NotesOnly.port (.ofCounts (s.handOut_counts p m)), State.port_setPort]

theorem State.out_handOut (s : State) (p : Nat) (m : FabMsg) : (s.handOut p m).out = s.out :=
  (NotesOnly.out (.ofCounts (s.handOut_counts p m))).trans (by simp)

theorem State.mem_handOut (s : State) (p : Nat) (m : FabMsg) : (s.handOut p m).mem = s.mem :=
  (NotesOnly.mem (.ofCounts (s.handOut_counts p m))).trans (by simp)

theorem State.reg_handOut (s : State) {p a : Nat} (m : FabMsg) (ha : a < portPg p + 0xE00) : (s.handOut p m).reg a = s.reg a :=
  (s.handOut_counts p m).reg a (.inl ha)

theorem State.handOut_handsOut (s : State) (p : PortId) (m : FabMsg) : HandsOut s (s.handOut p m) p m :=
  ⟨congrArg (·.tx) (s.port_handOut p m), s.out_handOut p m, s.mem_handOut p m⟩

theorem handsOut_notes {s u t : State} {p : PortId} {pg : Nat} {m : FabMsg} (hnotes : NotesOnly pg s u) (h : HandsOut u t p m) : HandsOut s t p m := by
  obtain ⟨htx, hout, hmem⟩ := h
  rw [hnotes.port] at htx
  exact ⟨htx, hout.trans hnotes.out, hmem.trans hnotes.mem⟩

end

end Sys2Proof.Machine

/-! What a fabric port reads of the state it still reads there after notes of its own (R395, R396): function entries, tenants, windows, translations. -/

namespace Sys2Proof.Machine
open Safety

namespace NotesOnly

section
variable {p : Nat} {s u : State} (h : NotesOnly (portPg p) s u)
include h

theorem linkFld {q l : Nat} {f : Field} (hl : l < 4) (hoff : f.off < 0x1000) : u.fld (linkPg q l) f = s.fld (linkPg q l) f := by
  unfold State.fld
  rw [h.reg _ (offNotes_link hl hoff)]

theorem portFld {q : Nat} {f : Field} (hlo : 0x80 ≤ f.off) (hhi : f.off < 0xE00) : u.fld (portPg q) f = s.fld (portPg q) f := by
  unfold State.fld
  rw [h.reg _ (offNotes_port hlo hhi)]

theorem lnkState {q l : Nat} (hl : l < 4) : u.lnkState q l = s.lnkState q l := h.linkFld hl (by decide)

theorem fnFld {q l n : Nat} {f : Field} (hl : l < 4) (hn : n < 256) (hoff : f.off = 0x400) (hstride : f.stride = 8) :
    u.fnFld q l n f = s.fnFld q l n f := by
  refine h.linkFld hl ?_
  simp only [Field.nth, hoff, hstride]
  omega

theorem secureClass (k : Nat) : u.secureClass k = s.secureClass k := by
  unfold State.secureClass
  rw [h.reg _ (offNotes_bolt (by decide) (by decide))]

theorem linkSecure {q l : Nat} (hq : q < 8) : u.linkSecure q l = s.linkSecure q l := by
  unfold State.linkSecure
  rw [Nat.add_assoc, h.reg _ (offNotes_bolt (by decide) (by omega))]

theorem tctEntry (t : Nat) : u.tctEntry t = s.tctEntry t := by
  unfold State.tctEntry
  rw [h.tct]

theorem tenantOk (t : Nat) : u.tenantOk t = s.tenantOk t := by
  unfold State.tenantOk
  rw [h.tctEntry]

theorem tenantKey (t : Nat) : u.tenantKey t = s.tenantKey t := by
  unfold State.tenantKey
  rw [h.tctEntry]

theorem homeOf (a : Nat) : u.homeOf a = s.homeOf a := by
  unfold State.homeOf State.bucketHome
  rw [h.home]

theorem fnClass {q l n : Nat} (hl : l < 4) (hn : n < 256) : u.fnClass q l n = s.fnClass q l n := by
  unfold State.fnClass
  rw [h.fnFld hl hn rfl rfl, h.tctEntry]

theorem fnCtx (q l n : Nat) : u.fnCtx q l n = s.fnCtx q l n := by
  unfold State.fnCtx
  rw [h.link]

theorem ctxAwaited (q l n : Nat) : u.ctxAwaited q l n = s.ctxAwaited q l n := by
  unfold State.ctxAwaited
  rw [h.link]

theorem stopIn {q l : Nat} (hl : l < 4) : u.stopIn q l = s.stopIn q l := by
  unfold State.stopIn State.lnkFlit State.lnkLanes State.lnkRate
  rw [h.linkFld hl (by decide), h.linkFld hl (by decide), h.now]

theorem fnMatch (i : Inbound) : u.fnMatch i = s.fnMatch i := by
  have hfld {n : Nat} (hn : n ∈ List.range 256) {f : Field} (hoff : f.off = 0x400) (hstride : f.stride = 8) :
      u.fnFld i.port i.link n f = s.fnFld i.port i.link n f := h.fnFld i.link.isLt (List.mem_range.mp hn) hoff hstride
  unfold State.fnMatch
  extract_lets q l hitU hitS
  have hhit (pv : Bool) : (List.range 256).find? (hitU pv) = (List.range 256).find? (hitS pv) := by
    refine List.find?_congr fun n hn => ?_
    simp only [hitU, hitS, q, l, hfld hn (f := R.FP_FN_VALID) rfl rfl, hfld hn (f := R.FP_FN_RID) rfl rfl, hfld hn (f := R.FP_FN_PV) rfl rfl,
      hfld hn (f := R.FP_FN_PASID) rfl rfl]
  rw [hhit, hhit]

theorem windowAt (pa : Nat) : u.windowAt pa = s.windowAt pa := by
  unfold State.windowAt State.flag
  refine List.find?_congr fun e he => ?_
  obtain ⟨q, -, hq⟩ := List.mem_flatMap.mp he
  obtain ⟨w, hw, rfl⟩ := List.mem_map.mp hq
  have hlt := List.mem_range.mp hw
  have hfld {f : Field} (hlo : 0x200 ≤ f.off) (hhi : f.off < 0x300) (hstride : f.stride = 0x10) : u.fld (portPg q) (f.nth w) = s.fld (portPg q) (f.nth w) := by
    refine h.portFld ?_ ?_ <;> simp only [Field.nth, hstride] <;> omega
  rw [hfld (by decide) (by decide) rfl, hfld (by decide) (by decide) rfl, hfld (by decide) (by decide) rfl]

theorem mainMemory (pa : Nat) : u.mainMemory pa = s.mainMemory pa := by
  unfold State.mainMemory
  rw [h.windowAt]

theorem ctxTranslate (c : Option Line) (lines : List WalkLine) (va : Nat) (write : Bool) : u.ctxTranslate c lines va write = s.ctxTranslate c lines va write := by
  have hread : u.walkWord lines = s.walkWord lines := by
    funext pa
    unfold State.walkWord
    rw [h.mainMemory]
  unfold State.ctxTranslate
  rw [hread]

theorem cachedXlat (cap tag : Nat) (tlb : List TlbEntry) (c : Option Line) (lines : List WalkLine) (va : Nat) (write : Bool) :
    u.cachedXlat cap tag tlb c lines va write = s.cachedXlat cap tag tlb c lines va write := by
  unfold State.cachedXlat
  rw [h.ctxTranslate]

end

end NotesOnly

/-- A port has 256 function entries to each link (R395). -/
theorem State.fnMatch_lt {s : State} {i : Inbound} {n : Nat} (h : s.fnMatch i = some n) : n < 256 := by
  unfold State.fnMatch at h
  extract_lets q l hit at h
  split at h
  · rename_i m hm
    obtain rfl := Option.some.inj h
    exact List.mem_range.mp (List.mem_of_find?_eq_some hm)
  · exact List.mem_range.mp (List.mem_of_find?_eq_some h)

theorem NotesOnly.matches {s u : State} {i : Inbound} {n : Nat} (h : NotesOnly (portPg i.port) s u) (hm : Matches s i n) : Matches u i n := by
  obtain ⟨hup, hmatch, hok, hworld⟩ := hm
  have htenant : u.fnFld i.port i.link n R.FP_FN_TENANT = s.fnFld i.port i.link n R.FP_FN_TENANT :=
    h.fnFld i.link.isLt (State.fnMatch_lt hmatch) rfl rfl
  refine ⟨(h.lnkState i.link.isLt).trans hup, (h.fnMatch i).trans hmatch, ?_, ?_⟩
  · rwa [htenant, h.tenantOk]
  · rwa [htenant, h.tctEntry, h.secureClass, h.linkSecure i.port.isLt]

end Sys2Proof.Machine

/-! What becomes of a device's request at its port (R395, R396): the notes taken first, then one equation for each outcome. -/

namespace Sys2Proof.Machine
open Safety

section
variable {s : State} {i : Inbound} {n : Nat}

-- a failed completion

theorem State.inboundFail_declines (s : State) (i : Inbound) (status : Nat) : Declines s (s.inboundFail i status) i status := s.handOut_handsOut i.port _

theorem State.reg_inboundFail (s : State) (i : Inbound) (status : Nat) {a : Nat} (ha : a < portPg i.port + 0xE00) :
    (s.inboundFail i status).reg a = s.reg a := s.reg_handOut _ ha

theorem declines_notes {u t : State} {pg status : Nat} (hnotes : NotesOnly pg s u) (h : Declines u t i status) : Declines s t i status :=
  handsOut_notes hnotes h

theorem portLogs_inboundFail {code : Nat} (status : Nat) (h : PortLogs s i.port code) : PortLogs (s.inboundFail i status) i.port code :=
  portLogs_congr h (s.reg_inboundFail i status (by omega))

-- the notes taken first (R408, R409)

/-- The port's notes of a request that reaches it: two events, and a poisoned request's record. -/
def State.inboundNoted (s : State) (i : Inbound) : State :=
  let u := (s.fabCount i.port.val i.link.val 0x02).fabCount i.port.val i.link.val 0x04
  if i.poison then (u.fabRecord i.port.val i.link.val 1 0x8010 i.addr.toNat i.rid.toNat 0).fabCount i.port.val i.link.val 0x06 else u

theorem State.inboundNoted_notes (s : State) (i : Inbound) : NotesOnly (portPg i.port) s (s.inboundNoted i) := by
  have hcounts := (s.fabCount_notes i.port i.link 0x02).trans (State.fabCount_notes _ i.port i.link 0x04)
  unfold State.inboundNoted
  split
  · exact (hcounts.trans (State.fabRecord_notes ..)).trans (State.fabCount_notes ..)
  · exact hcounts

theorem State.inboundNoted_logs (s : State) {i : Inbound} (hpoison : i.poison = true) : PortLogs (s.inboundNoted i) i.port 0x8010 := by
  unfold State.inboundNoted
  rw [if_pos hpoison]
  exact portLogs_counts (State.fabRecord_logs _ i.port (by decide) (by decide)) (State.fabCount_counts ..)

theorem State.inbound_held (h : s.lnkState i.port i.link = LNK_HOLD) : s.inbound i = (s.inboundNoted i).inboundFail i 1 := by
  unfold State.inbound
  extract_lets p l st u
  have hst : st = LNK_HOLD := h
  rw [if_neg (by simp [hst]), if_pos hst]
  rfl

theorem State.inbound_up (h : s.lnkState i.port i.link = LNK_UP) : s.inbound i = (s.inboundNoted i).inboundTurn i false := by
  unfold State.inbound
  extract_lets p l st u
  have hst : st = LNK_UP := h
  rw [if_neg (by simp [hst]), if_neg (by rw [hst]; decide)]
  rfl

-- turns

theorem State.inboundTurn_done {t : State} {ats : Bool} (hwaits : (s.link i.port i.link).waits = [])
    (htry : (if ats then s.atsTry i else s.inboundTry i) = (t, true)) : s.inboundTurn i ats = t := by
  unfold State.inboundTurn
  simp only [hwaits, List.isEmpty_nil, if_true, htry]

theorem State.inboundTurn_waits {t : State} {ats : Bool} (hwaits : (s.link i.port i.link).waits = [])
    (htry : (if ats then s.atsTry i else s.inboundTry i) = (t, false)) :
    s.inboundTurn i ats = t.setLink i.port i.link { t.link i.port i.link with waits := (t.link i.port i.link).waits ++ [(i, ats)] } := by
  unfold State.inboundTurn
  simp only [hwaits, List.isEmpty_nil, if_true, htry, Bool.false_eq_true, if_false]

-- the tenant (R69, R70, R395)

/-- Whether a tenant's request is admitted, and what refusing it for its world leaves in the port's page. -/
theorem State.fnAdmits_matches (h : Matches s i n) : s.fnAdmits i.port i.link n i = (s, true) := by
  obtain ⟨-, -, hok, hworld⟩ := h
  unfold State.fnAdmits
  simp only [hok, hworld, Bool.not_true, Bool.false_eq_true, if_false, bne_self_eq_false]

theorem State.fnAdmits_invalid (h : s.tenantOk (s.fnFld i.port i.link n R.FP_FN_TENANT) = false) : s.fnAdmits i.port i.link n i = (s, false) := by
  unfold State.fnAdmits
  simp only [h, Bool.not_false, if_true]

theorem State.fnAdmits_world (hok : s.tenantOk (s.fnFld i.port i.link n R.FP_FN_TENANT) = true)
    (hworld : s.secureClass (tctClass (s.tctEntry (s.fnFld i.port i.link n R.FP_FN_TENANT))) ≠ s.linkSecure i.port i.link) :
    ∃ who, s.fnAdmits i.port i.link n i = (s.accessFault (portPg i.port) FAULT_LOCKED who 0 i.write, false) := by
  unfold State.fnAdmits
  simp only [hok, Bool.not_true, Bool.false_eq_true, if_false, if_pos (bne_iff_ne.mpr hworld)]
  exact ⟨_, rfl⟩

-- requests refused before their address is looked at

theorem State.inboundTry_unmatched (h : s.fnMatch i = none) :
    s.inboundTry i = ((s.fabRecord i.port i.link 2 0x8040 i.addr.toNat i.rid.toNat 0).inboundFail i 1, true) := by
  unfold State.inboundTry
  simp only [h]

theorem State.inboundTry_refused {t : State} (h : s.fnMatch i = some n) (hadmits : s.fnAdmits i.port i.link n i = (t, false)) :
    s.inboundTry i = (t.inboundFail i 1, true) := by
  unfold State.inboundTry
  simp only [h, hadmits, Bool.not_false, Bool.true_or, if_true]

-- a matched request within a page

section
variable (hm : Matches s i n) (hlen : 1 ≤ i.len) (hpage : i.addr.toNat / 4096 = (i.addr.toNat + i.len - 1) / 4096)
include hm hlen hpage

/-- No check of R395 or PCIe refuses it. -/
theorem inbound_passes :
    (!(s.fnAdmits i.port i.link n i).2 || i.len == 0 || decide (i.addr.toNat / 4096 ≠ (i.addr.toNat + i.len - 1) / 4096)) = false := by
  rw [State.fnAdmits_matches hm, hpage]
  have : i.len ≠ 0 := by omega
  simp [this]

theorem State.inboundTry_translated (htrans : i.translated = true) :
    s.inboundTry i = (if s.fnFld i.port i.link n R.FP_FN_ATS = 1 ∧ i.addr.toNat < 2 ^ 52 then
      s.inboundServe i (s.fnFld i.port i.link n R.FP_FN_TENANT) i.addr.toNat else s.inboundFail i 1, true) := by
  obtain ⟨-, hmatch, -⟩ := id hm
  unfold State.inboundTry
  simp only [hmatch, inbound_passes hm hlen hpage, Bool.false_eq_true, if_false, htrans, if_true]

section
variable (htrans : i.translated = false)
include htrans

theorem State.inboundTry_doorbell (hregion : region i.addr.toNat = .doorbell) :
    s.inboundTry i = (s.inboundServe i (s.fnFld i.port i.link n R.FP_FN_TENANT) i.addr.toNat, true) := by
  obtain ⟨-, hmatch, -⟩ := id hm
  unfold State.inboundTry
  simp only [hmatch, inbound_passes hm hlen hpage, Bool.false_eq_true, if_false, htrans, hregion, if_true]

section
variable (hregion : region i.addr.toNat ≠ .doorbell)
include hregion

theorem State.inboundTry_reached {pa : Nat} {t : State} (hx : s.fnXlat i.port i.link n i.addr.toNat i.write = .pa pa t) (hpa : pa < 2 ^ 52) :
    s.inboundTry i = (t.inboundServe i (s.fnFld i.port i.link n R.FP_FN_TENANT) pa, true) := by
  obtain ⟨-, hmatch, -⟩ := id hm
  unfold State.inboundTry
  simp only [hmatch, inbound_passes hm hlen hpage, Bool.false_eq_true, if_false, htrans, hregion, hx, hpa, if_true]

theorem State.inboundTry_waits {t : State} (hx : s.fnXlat i.port i.link n i.addr.toNat i.write = .waits t) : s.inboundTry i = (t, false) := by
  obtain ⟨-, hmatch, -⟩ := id hm
  unfold State.inboundTry
  simp only [hmatch, inbound_passes hm hlen hpage, Bool.false_eq_true, if_false, htrans, hregion, hx]

theorem State.inboundTry_failed {t : State} (hx : s.fnXlat i.port i.link n i.addr.toNat i.write = .fail t) :
    s.inboundTry i = (((t.fabRecord i.port i.link 2 0x8041 i.addr.toNat i.rid.toNat 0).faultSource (t.fnCtx i.port i.link n)
      (s.fnFld i.port i.link n R.FP_FN_TENANT) (t.fnClass i.port i.link n) (fpStop i.port) 1).inboundFail i 1, true) := by
  obtain ⟨-, hmatch, -⟩ := id hm
  unfold State.inboundTry
  simp only [hmatch, inbound_passes hm hlen hpage, Bool.false_eq_true, if_false, htrans, hregion, hx]

end

end

end

-- translation (R22, R396)

theorem State.fnXlat_awaited {p l va : Nat} {write : Bool} (h : s.ctxAwaited p l n = true) : s.fnXlat p l n va write = .waits s := by
  unfold State.fnXlat
  rw [if_pos h]

section
variable {p l va : Nat} {write : Bool} (hctx : s.ctxAwaited p l n = false)
include hctx

theorem State.fnXlat_pa {pa : Nat}
    (h : (s.cachedXlat 64 n (s.link p l).tlb (s.fnCtx p l n) (s.link p l).walk va write).1 = .pa pa) :
    ∃ tlb, s.fnXlat p l n va write = .pa pa (s.setLink p l { s.link p l with tlb := tlb, walk := [] }) := by
  unfold State.fnXlat
  simp only [hctx, Bool.false_eq_true, if_false, h]
  exact ⟨_, rfl⟩

theorem State.fnXlat_fail (h : (s.cachedXlat 64 n (s.link p l).tlb (s.fnCtx p l n) (s.link p l).walk va write).1 = .fail) :
    s.fnXlat p l n va write = .fail (s.setLink p l { s.link p l with walk := [] }) := by
  unfold State.fnXlat
  simp only [hctx, Bool.false_eq_true, if_false, h]

theorem State.fnXlat_ask {line : Nat} (h : (s.cachedXlat 64 n (s.link p l).tlb (s.fnCtx p l n) (s.link p l).walk va write).1 = .ask line) :
    s.fnXlat p l n va write = .waits (s.portWalk p l n line) := by
  unfold State.fnXlat
  simp only [hctx, Bool.false_eq_true, if_false, h]

end

end

end Sys2Proof.Machine

/-! The lines of a device's request (R178, R396): what each puts on the mesh and what the link keeps of it, for all of them by induction. -/

namespace Sys2Proof.Machine
open Safety

-- a tag

theorem State.fabTag_lt (s : State) (p : Nat) : (s.fabTag p).1 < 2048 := Nat.mod_lt _ (by decide)

theorem State.fabTag_frame (s : State) (p : Nat) : { (s.fabTag p).2 with ports := s.ports } = s := rfl

theorem State.fabTag_tx (s : State) (p : Nat) : ((s.fabTag p).2.port p).tx = (s.port p).tx := by
  unfold State.fabTag
  simp only [State.port_setPort]

theorem State.fabTag_link (s : State) (p q l : Nat) : (s.fabTag p).2.link q l = s.link q l := rfl

-- pieces (R151, R396)

theorem linePieces_size {pa : Nat} : ∀ {fuel pos len : Nat}, ∀ x ∈ linePieces pa fuel pos len, x.2 ≤ 64
  | 0, _, _, x, hx => by simp [linePieces] at hx
  | fuel + 1, pos, len, x, hx => by
    unfold linePieces at hx
    split at hx
    · simp at hx
    · obtain rfl | hx := List.mem_cons.mp hx
      · simp only
        omega
      · exact linePieces_size x hx

theorem writePieces_size {w : Bool} {l : List (Nat × Nat)} (h : ∀ x ∈ l, x.2 ≤ 64) : ∀ x ∈ writePieces w l, x.2 ≤ 64 := by
  intro x hx
  obtain ⟨y, hy, hxy⟩ := List.mem_flatMap.mp hx
  have := h y hy
  split at hxy
  · simp only [List.mem_cons, List.not_mem_nil, or_false] at hxy
    obtain rfl | rfl := hxy <;> simp only <;> omega
  · rwa [List.mem_singleton.mp hxy]

/-- A request within one doubleword is one piece. -/
theorem linePieces_small {pa len : Nat} (hlen : 1 ≤ len) (hfits : pa % 8 + len ≤ 8) : linePieces pa 65 0 len = [(0, len)] := by
  have hn : min (64 - pa % 64) len = len := by omega
  simp only [linePieces, Nat.add_zero, Nat.sub_zero, Nat.zero_add, hn, le_refl, if_true]
  rw [if_neg (by omega)]

theorem writePieces_small {w : Bool} {len : Nat} (h : len ≤ 48) : writePieces w [(0, len)] = [(0, len)] := by
  simp [writePieces, Nat.not_lt.mpr h]

-- one line

/-- The message of a line at physical address `pa`: n bytes from byte `pos` of the request. -/
def State.lineFlit (s : State) (i : Inbound) (tenant pa pos n tag : Nat) : Flit :=
  let mem := region pa == .dram || region pa == .fabricMem
  let d := if mem then (tileStop (s.homeOf pa), 2) else ioDest pa
  let op := if mem then (if !i.write then OP_RD else if n = 64 then OP_WRLINE else OP_WRPART)
    else if region pa = .doorbell then OP_DOORBELL
    else if !i.write then OP_RDIO
    else if region pa = .engine ∧ n = 64 then OP_WRLINE
    else OP_WRIO
  let v := leValue ((i.data.drop pos).take n)
  let data := if mem && n ≠ 64 then lineMerge 0 (pa % 64) n v else BitVec.ofNat 512 v
  { mkFlit .req (fpStop i.port) 1 d.1 d.2 (Fin.ofNat 16 (tctClass (s.tctEntry tenant))) op tag pa with
    tenant := Fin.ofNat 4096 tenant, key := s.tenantKey tenant, count := Fin.ofNat 65 n, data := if i.write then data else 0,
    poison := i.write && i.poison, detail := w64 (b01 (mem && !i.write)) }

/-- A line leaves as its message with a free tag, and the link keeps that it waits for its reply. -/
theorem State.inboundLine_eq (s : State) (i : Inbound) (tenant pa pos n : Nat) :
    s.inboundLine i tenant pa pos n =
      ((s.fabTag i.port).2.setLink i.port i.link { s.link i.port i.link with
        inbound := (s.link i.port i.link).inbound ++ [⟨(s.fabTag i.port).1, i, pos, none⟩] }).sendAt (s.stopIn i.port i.link)
        (s.lineFlit i tenant pa pos n (s.fabTag i.port).1) := rfl

/-- What a port does to itself changes no line's message. -/
theorem State.lineFlit_frame {s t : State} (h : { t with ports := s.ports, links := s.links, out := s.out } = s) (i : Inbound) (tenant pa pos n tag : Nat) :
    t.lineFlit i tenant pa pos n tag = s.lineFlit i tenant pa pos n tag := by
  rw [← h]
  rfl

theorem State.stopIn_frame {s t : State} (h : { t with ports := s.ports, links := s.links, out := s.out } = s) (p l : Nat) : t.stopIn p l = s.stopIn p l := by
  rw [← h]
  rfl

-- all of them

theorem State.sent_frame (s : State) (p q l u : Nat) (v : Port) (w : Link) (f : Flit) (ps : Tab Port) (ls : Tab Link) (ms : List OutMsg) :
    { ((s.setPort p v).setLink q l w).sendAt u f with ports := ps, links := ls, out := ms } = { s with ports := ps, links := ls, out := ms } := by
  simp only [State.sendAt, State.setLink, State.setPort]

/-- From `s` to `t` the pieces `ps` of a request at `pa` have left, each with a tag of its own. -/
structure Entered (s : State) (i : Inbound) (tenant pa : Nat) (ps : List (Nat × Nat)) (t : State) : Prop where
  frame : { t with ports := s.ports, links := s.links, out := s.out } = s
  tx : (t.port i.port).tx = (s.port i.port).tx
  lines : ∃ qs : List ((Nat × Nat) × Nat), qs.map Prod.fst = ps ∧ (∀ q ∈ qs, q.2 < 2048) ∧
    t.out = s.out ++ qs.map (fun q => ⟨s.stopIn i.port i.link, s.lineFlit i tenant (pa + q.1.1) q.1.1 q.1.2 q.2⟩) ∧
    (t.link i.port i.link).inbound = (s.link i.port i.link).inbound ++ qs.map (fun q => ⟨q.2, i, q.1.1, none⟩)

theorem Entered.nil (s : State) (i : Inbound) (tenant pa : Nat) : Entered s i tenant pa [] s :=
  ⟨rfl, rfl, [], rfl, by simp, by simp, by simp⟩

theorem Entered.line {s t : State} {i : Inbound} {tenant pa : Nat} {ps : List (Nat × Nat)} (h : Entered s i tenant pa ps t) (x : Nat × Nat) :
    Entered s i tenant pa (ps ++ [x]) (t.inboundLine i tenant (pa + x.1) x.1 x.2) := by
  obtain ⟨hframe, htx, qs, hps, htags, hout, hinbound⟩ := h
  rw [State.inboundLine_eq, State.lineFlit_frame hframe, State.stopIn_frame hframe]
  refine ⟨?_, ?_, qs ++ [(x, (t.fabTag i.port).1)], ?_, ?_, ?_, ?_⟩
  · exact (State.sent_frame t _ _ _ _ _ _ _ _ _ _).trans hframe
  · exact (State.fabTag_tx t i.port).trans htx
  · rw [List.map_append, hps]
    rfl
  · intro q hq
    obtain hq | hq := List.mem_append.mp hq
    · exact htags q hq
    · rw [List.mem_singleton.mp hq]
      exact t.fabTag_lt i.port
  · change t.out ++ _ = _
    rw [hout, List.map_append, List.append_assoc]
    rfl
  · change (State.link (State.setLink _ _ _ _) _ _).inbound = _
    rw [State.link_setLink, List.map_append, ← List.append_assoc, ← hinbound]
    rfl

theorem Entered.fold {s : State} {i : Inbound} {tenant pa : Nat} : ∀ (ps : List (Nat × Nat)) {done : List (Nat × Nat)} {t : State}, Entered s i tenant pa done t →
    Entered s i tenant pa (done ++ ps) (ps.foldl (fun s x => s.inboundLine i tenant (pa + x.1) x.1 x.2) t)
  | [], done, t, h => by simpa using h
  | x :: ps, done, t, h => by
    have := Entered.fold ps (h.line x)
    rwa [List.append_assoc] at this

/-- R396: an access the part performs enters the mesh in pieces, of lines and of what a message carries. -/
theorem State.inboundServe_enters {s : State} {i : Inbound} {tenant pa : Nat} (hmay : s.inboundMay i tenant pa = true) (hlen : i.len ≤ 4096) :
    Entered s i tenant pa (writePieces i.write (linePieces pa 65 0 i.len)) (s.inboundServe i tenant pa) := by
  unfold State.inboundServe
  rw [if_pos hmay, Nat.min_eq_left hlen]
  exact Entered.fold _ (.nil s i tenant pa)

end Sys2Proof.Machine

/-! R396: a matched request whose address is in memory enters the mesh, line by line. -/

namespace Sys2Proof.Machine
open Safety

/-- The pieces of a request at a physical address (R151, R396). -/
def inboundPieces (i : Inbound) (pa : Nat) : List (Nat × Nat) := writePieces i.write (linePieces pa 65 0 i.len)

/-- The lines of request `i` at `pa`, matched to function entry `n`, are all that goes to the mesh, and the link awaits each. -/
def EntersMesh (s : State) (i : Inbound) (n pa : Nat) (t : State) : Prop :=
  let p := i.port
  let l := i.link
  t.mem = s.mem ∧ (t.port p).tx = (s.port p).tx ∧
  t.out.map (fun m => (m.flit.addr.toNat, m.flit.count.val)) =
    s.out.map (fun m => (m.flit.addr.toNat, m.flit.count.val)) ++ (inboundPieces i pa).map (fun x => (pa + x.1, x.2)) ∧
  (t.link p l).inbound.map (fun w => (w.req, w.pos, w.got)) =
    (s.link p l).inbound.map (fun w => (w.req, w.pos, w.got)) ++ (inboundPieces i pa).map (fun x => (i, x.1, none)) ∧
  (t.link p l).inbound.map (fun w => w.tag) = (s.link p l).inbound.map (fun w => w.tag) ++ (t.out.drop s.out.length).map (fun m => m.flit.tag.val) ∧
  ∀ m ∈ t.out.drop s.out.length, m.at_ = s.stopIn p l ∧ m.flit.plane = .req ∧ m.flit.src.val = fpStop p ∧
    m.flit.dst.val = tileStop (s.homeOf m.flit.addr.toNat) % 120 ∧ m.flit.cls = s.fnClass p l n ∧ m.flit.tenant.val = s.fnFld p l n R.FP_FN_TENANT % 4096 ∧
    m.flit.key = s.tenantKey (s.fnFld p l n R.FP_FN_TENANT) ∧
    (i.write = false → m.flit.op = OP_RD) ∧
    (i.write = true → m.flit.poison = i.poison ∧ m.flit.op = (if m.flit.count.val = 64 then OP_WRLINE else OP_WRPART))

/-- Every piece of the request lies in memory. -/
def InMemory (i : Inbound) (pa : Nat) : Prop :=
  ∀ x ∈ inboundPieces i pa, pa + x.1 < 2 ^ 52 ∧ (region (pa + x.1) = .dram ∨ region (pa + x.1) = .fabricMem)

section
variable {s u t : State} {i : Inbound} {tenant pa n tag : Nat} {ps : List (Nat × Nat)}

-- a line's message

theorem fpStop_lt {p : Nat} (hp : p < 8) : fpStop p < 120 := by
  unfold fpStop stopAt
  split <;> omega

theorem State.lineFlit_addr {pos : Nat} (hpa : pa < 2 ^ 52) : (s.lineFlit i tenant pa pos n tag).addr.toNat = pa :=
  (BitVec.toNat_ofNat ..).trans (Nat.mod_eq_of_lt hpa)

theorem State.lineFlit_count {pos : Nat} (hn : n ≤ 64) : (s.lineFlit i tenant pa pos n tag).count.val = n := Nat.mod_eq_of_lt (by omega)

theorem State.lineFlit_tag {pos : Nat} (htag : tag < 2048) : (s.lineFlit i tenant pa pos n tag).tag.val = tag := Nat.mod_eq_of_lt htag

theorem State.lineFlit_src {pos : Nat} : (s.lineFlit i tenant pa pos n tag).src.val = fpStop i.port := Nat.mod_eq_of_lt (fpStop_lt i.port.isLt)

section
variable {pos : Nat} (hmem : region pa = .dram ∨ region pa = .fabricMem)
include hmem

theorem memory_region : (region pa == .dram || region pa == .fabricMem) = true := by
  obtain h | h := hmem <;> simp [h]

theorem State.lineFlit_dst : (s.lineFlit i tenant pa pos n tag).dst.val = tileStop (s.homeOf pa) % 120 := by
  unfold State.lineFlit
  simp only [memory_region hmem, if_true]
  rfl

theorem State.lineFlit_read (hread : i.write = false) : (s.lineFlit i tenant pa pos n tag).op = OP_RD := by
  unfold State.lineFlit
  simp only [memory_region hmem, hread, if_true, Bool.not_false]
  rfl

theorem State.lineFlit_write (hwrite : i.write = true) (hn : n ≤ 64) :
    (s.lineFlit i tenant pa pos n tag).op = if (s.lineFlit i tenant pa pos n tag).count.val = 64 then OP_WRLINE else OP_WRPART := by
  rw [State.lineFlit_count hn]
  unfold State.lineFlit
  simp only [memory_region hmem, hwrite, if_true, Bool.not_true, Bool.false_eq_true, if_false]
  rfl

end

theorem State.lineFlit_poison {pos : Nat} (hwrite : i.write = true) : (s.lineFlit i tenant pa pos n tag).poison = i.poison := by
  unfold State.lineFlit
  simp only [hwrite, Bool.true_and]

theorem NotesOnly.lineFlit {p pos : Nat} (h : NotesOnly (portPg p) s u) : u.lineFlit i tenant pa pos n tag = s.lineFlit i tenant pa pos n tag := by
  unfold State.lineFlit
  rw [h.homeOf, h.tctEntry, h.tenantKey]

-- what came before the lines

theorem Entered.ofNotes (hnotes : NotesOnly (portPg i.port) s u) (h : Entered u i tenant pa ps t) :
    t.mem = s.mem ∧ (t.port i.port).tx = (s.port i.port).tx ∧ ∃ qs : List ((Nat × Nat) × Nat), qs.map Prod.fst = ps ∧ (∀ q ∈ qs, q.2 < 2048) ∧
      t.out = s.out ++ qs.map (fun q => ⟨s.stopIn i.port i.link, s.lineFlit i tenant (pa + q.1.1) q.1.1 q.1.2 q.2⟩) ∧
      (t.link i.port i.link).inbound = (s.link i.port i.link).inbound ++ qs.map (fun q => ⟨q.2, i, q.1.1, none⟩) := by
  obtain ⟨hframe, htx, qs, hps, htags, hout, hinbound⟩ := h
  have hmem : t.mem = u.mem := (congrArg State.mem hframe :)
  rw [hnotes.port] at htx
  rw [hnotes.out, hnotes.stopIn i.link.isLt] at hout
  rw [hnotes.link] at hinbound
  refine ⟨hmem.trans hnotes.mem, htx, qs, hps, htags, hout.trans ?_, hinbound⟩
  simp only [hnotes.lineFlit]

theorem State.unlinked_frame (s t : State) (p l : Nat) (v : Link) :
    { t with ports := s.ports, links := s.links, out := s.out } =
      { ({ t with ports := (s.setLink p l v).ports, links := (s.setLink p l v).links, out := (s.setLink p l v).out } : State) with links := s.links } := by
  simp only [State.setLink]

theorem State.setLink_links_frame (s : State) (p l : Nat) (v : Link) : { s.setLink p l v with links := s.links } = s := rfl

/-- The translation cache and the walk of a link are no part of what its lines become. -/
theorem Entered.ofLink {v : Link} (hv : v.inbound = (s.link i.port i.link).inbound) (h : Entered (s.setLink i.port i.link v) i tenant pa ps t) :
    Entered s i tenant pa ps t := by
  obtain ⟨hframe, htx, qs, hps, htags, hout, hinbound⟩ := h
  rw [State.link_setLink, hv] at hinbound
  refine ⟨?_, htx, qs, hps, htags, hout, hinbound⟩
  rw [s.unlinked_frame t i.port i.link v, hframe, State.setLink_links_frame]

/-- R396. -/
theorem Entered.entersMesh (hnotes : NotesOnly (portPg i.port) s u) (hmem : InMemory i pa)
    (h : Entered u i (s.fnFld i.port i.link n R.FP_FN_TENANT) pa (inboundPieces i pa) t) : EntersMesh s i n pa t := by
  obtain ⟨hkept, htx, qs, hps, htags, hout, hinbound⟩ := h.ofNotes hnotes
  have hpiece {q : (Nat × Nat) × Nat} (hq : q ∈ qs) :
      (pa + q.1.1 < 2 ^ 52 ∧ (region (pa + q.1.1) = .dram ∨ region (pa + q.1.1) = .fabricMem)) ∧ q.1.2 ≤ 64 := by
    have hin : q.1 ∈ inboundPieces i pa := hps ▸ List.mem_map_of_mem hq
    exact ⟨hmem _ hin, writePieces_size linePieces_size _ hin⟩
  have hdrop : t.out.drop s.out.length = qs.map (fun q => (⟨s.stopIn i.port i.link,
      s.lineFlit i (s.fnFld i.port i.link n R.FP_FN_TENANT) (pa + q.1.1) q.1.1 q.1.2 q.2⟩ : OutMsg)) := by
    rw [hout, List.drop_left]
  refine ⟨hkept, htx, ?_, ?_, ?_, ?_⟩
  · rw [hout, List.map_append, List.map_map, ← hps, List.map_map]
    refine congrArg _ (List.map_congr_left fun q hq => ?_)
    obtain ⟨⟨hpa, -⟩, hn⟩ := hpiece hq
    simp only [Function.comp, State.lineFlit_addr hpa, State.lineFlit_count hn]
  · rw [hinbound, List.map_append, List.map_map, ← hps, List.map_map]
    rfl
  · rw [hdrop, hinbound, List.map_append, List.map_map, List.map_map]
    refine congrArg _ (List.map_congr_left fun q hq => ?_)
    simp only [Function.comp, State.lineFlit_tag (htags q hq)]
  · intro m hm
    rw [hdrop] at hm
    obtain ⟨q, hq, rfl⟩ := List.mem_map.mp hm
    obtain ⟨⟨hpa, hregion⟩, hn⟩ := hpiece hq
    refine ⟨rfl, rfl, State.lineFlit_src, ?_, rfl, rfl, rfl, State.lineFlit_read hregion, fun hw => ⟨State.lineFlit_poison hw, State.lineFlit_write hregion hw hn⟩⟩
    rw [State.lineFlit_addr hpa]
    exact State.lineFlit_dst hregion

-- regions of memory

theorem region_memory_lt (h : region pa = .dram ∨ region pa = .fabricMem) : pa < 2 ^ 52 := by
  by_contra hge
  have hr : region pa = .unmapped := by
    unfold region
    repeat rw [if_neg (by omega)]
  simp [hr] at h

theorem State.inboundMay_memory (h : region pa = .dram ∨ region pa = .fabricMem) : s.inboundMay i tenant pa = true := by
  unfold State.inboundMay
  obtain h | h := h <;> rw [h]

end

end Sys2Proof.Machine

/-! R395, R396: every outcome of a device's request, from the state it reached the port in. -/

namespace Sys2Proof.Machine
open Safety

theorem State.port_setLink (s : State) (p l q : Nat) (v : Link) : (s.setLink p l v).port q = s.port q := rfl

theorem State.out_setLink (s : State) (p l : Nat) (v : Link) : (s.setLink p l v).out = s.out := rfl

-- a read of the port's own, and a fault's message

section
variable {s : State} {p l n : Nat} {what : PortRead} {f : Nat → Flit}

theorem State.out_portRead (m : Nat) : (s.portRead p l m what f).out = s.out ++ [⟨max s.now m, f (s.fabTag p).1⟩] := rfl

theorem State.tx_portRead (m : Nat) : ((s.portRead p l m what f).port p).tx = (s.port p).tx := s.fabTag_tx p

theorem State.link_portRead (m : Nat) :
    (s.portRead p l m what f).link p l = { s.link p l with reads := (s.link p l).reads ++ [((s.fabTag p).1, what)] } := State.link_setLink _ _ _ _

/-- R22: with no read under way a page-table line is asked for. -/
theorem State.portWalk_asks {line : Nat} (h : (s.link p l).reads = []) :
    s.portWalk p l n line = s.portRead p l s.now (.walk line) (fun tag => s.tableRead (fpStop p) 1 tag (Fin.ofNat 4096 (s.fnFld p l n R.FP_FN_TENANT))
      (s.fnClass p l n) (s.tenantKey (s.fnFld p l n R.FP_FN_TENANT)) (64 * line)) := by
  unfold State.portWalk
  rw [if_neg (by simp [h])]

end

theorem State.faultSource_off {s : State} {c : Option Line} {t : Nat} {cls : Cls} {stop port : Nat} (h : bitN (ctxWord c 2) 63 = false) :
    s.faultSource c t cls stop port = s := by
  unfold State.faultSource
  simp only [h, Bool.false_and, Bool.false_eq_true, if_false]

/-- R77: with FAULT_EN a tenant's fault source is raised by a doorbell write. -/
theorem State.faultSource_on {s : State} {c : Option Line} {t : Nat} (cls : Cls) (stop port : Nat) (h : bitN (ctxWord c 2) 63 = true) (hok : s.tenantOk t = true) :
    ∃ f, s.faultSource c t cls stop port = s.send f ∧ f.op = OP_DOORBELL ∧ f.dst.val = irtStop % 120 ∧ f.cls = cls := by
  unfold State.faultSource
  simp only [h, hok, Bool.and_true, if_true]
  exact ⟨_, rfl, rfl, rfl, rfl⟩

section
variable {s : State} {i : Inbound} {n : Nat}

theorem gives_inbound {P : State → Prop} (h : P (s.inbound i)) : Gives (.inboundRequest i) s P := ⟨_, rfl, h⟩

/-- R404: a held link's requests are declined. -/
theorem State.inbound_held_declines (h : s.lnkState i.port i.link = LNK_HOLD) :
    Declines s (s.inbound i) i 1 ∧ (i.poison = true → PortLogs (s.inbound i) i.port 0x8010) := by
  rw [State.inbound_held h]
  exact ⟨declines_notes (s.inboundNoted_notes i) (State.inboundFail_declines ..), fun hp => portLogs_inboundFail 1 (s.inboundNoted_logs hp)⟩

section
variable (hup : s.lnkState i.port i.link = LNK_UP) (hwaits : (s.link i.port i.link).waits = [])
include hup hwaits

/-- With none before it, a request is tried at once, in the state with the port's notes of it. -/
theorem State.inbound_tried : ∃ u, NotesOnly (portPg i.port) s u ∧ (∀ t, u.inboundTry i = (t, true) → s.inbound i = t) ∧
    ∀ t, u.inboundTry i = (t, false) →
      s.inbound i = t.setLink i.port i.link { t.link i.port i.link with waits := (t.link i.port i.link).waits ++ [(i, false)] } := by
  have hnotes := s.inboundNoted_notes i
  have hw : ((s.inboundNoted i).link i.port i.link).waits = [] := by rw [hnotes.link, hwaits]
  rw [State.inbound_up hup]
  exact ⟨_, hnotes, fun t ht => State.inboundTurn_done hw ht, fun t ht => State.inboundTurn_waits hw ht⟩

-- declined before the address is looked at

theorem State.inbound_unmatched (h : s.fnMatch i = none) : Declines s (s.inbound i) i 1 ∧ PortLogs (s.inbound i) i.port 0x8040 := by
  obtain ⟨u, hnotes, hdone, -⟩ := State.inbound_tried hup hwaits
  rw [hdone _ (State.inboundTry_unmatched ((hnotes.fnMatch i).trans h))]
  exact ⟨declines_notes (hnotes.trans (State.fabRecord_notes ..)) (State.inboundFail_declines ..),
    portLogs_inboundFail 1 (State.fabRecord_logs u i.port (by decide) (by decide))⟩

/-- R69, R70. -/
theorem State.inbound_invalid (h : s.fnMatch i = some n) (hok : s.tenantOk (s.fnFld i.port i.link n R.FP_FN_TENANT) = false) :
    Declines s (s.inbound i) i 1 := by
  obtain ⟨u, hnotes, hdone, -⟩ := State.inbound_tried hup hwaits
  have hadmits := State.fnAdmits_invalid (s := u) (i := i) (n := n) (by
    rwa [hnotes.fnFld i.link.isLt (State.fnMatch_lt h) rfl rfl, hnotes.tenantOk])
  rw [hdone _ (State.inboundTry_refused ((hnotes.fnMatch i).trans h) hadmits)]
  exact declines_notes hnotes (State.inboundFail_declines ..)

/-- R395: a request of the other world sets LOCKED in the port's page. -/
theorem State.inbound_world (h : s.fnMatch i = some n) (hok : s.tenantOk (s.fnFld i.port i.link n R.FP_FN_TENANT) = true)
    (hworld : s.secureClass (tctClass (s.tctEntry (s.fnFld i.port i.link n R.FP_FN_TENANT))) ≠ s.linkSecure i.port i.link) :
    Declines s (s.inbound i) i 1 ∧ ((s.inbound i).reg (portPg i.port + 0x10)).testBit 3 = true := by
  obtain ⟨u, hnotes, hdone, -⟩ := State.inbound_tried hup hwaits
  have htenant : u.fnFld i.port i.link n R.FP_FN_TENANT = s.fnFld i.port i.link n R.FP_FN_TENANT :=
    hnotes.fnFld i.link.isLt (State.fnMatch_lt h) rfl rfl
  obtain ⟨who, hadmits⟩ := State.fnAdmits_world (s := u) (i := i) (n := n) (by rwa [htenant, hnotes.tenantOk])
    (by rwa [htenant, hnotes.tctEntry, hnotes.secureClass, hnotes.linkSecure i.port.isLt])
  rw [hdone _ (State.inboundTry_refused ((hnotes.fnMatch i).trans h) hadmits)]
  refine ⟨declines_notes (hnotes.trans (.ofAccessFault u _ _ _ _ (portPg_mod8 _))) (State.inboundFail_declines ..), ?_⟩
  rw [State.reg_inboundFail _ _ _ (by omega)]
  exact State.reg_accessFault _ _ _ _ (by decide)

end

-- matched

/-- A matched request is tried in a state that reads as the one it reached the port in. -/
theorem State.inbound_matched (hm : Matches s i n) (hwaits : (s.link i.port i.link).waits = []) : ∃ u, NotesOnly (portPg i.port) s u ∧ Matches u i n ∧
    u.fnFld i.port i.link n R.FP_FN_TENANT = s.fnFld i.port i.link n R.FP_FN_TENANT ∧ (∀ t, u.inboundTry i = (t, true) → s.inbound i = t) ∧
    ∀ t, u.inboundTry i = (t, false) →
      s.inbound i = t.setLink i.port i.link { t.link i.port i.link with waits := (t.link i.port i.link).waits ++ [(i, false)] } := by
  obtain ⟨hup, hmatch, -⟩ := id hm
  obtain ⟨u, hnotes, htry⟩ := State.inbound_tried hup hwaits
  exact ⟨u, hnotes, hnotes.matches hm, hnotes.fnFld i.link.isLt (State.fnMatch_lt hmatch) rfl rfl, htry⟩

section
variable (hm : Matches s i n) (hwaits : (s.link i.port i.link).waits = []) (hlen : 1 ≤ i.len)
  (hpage : i.addr.toNat / 4096 = (i.addr.toNat + i.len - 1) / 4096)
include hm hwaits hlen hpage

theorem State.inbound_translated_declines (htrans : i.translated = true) (hats : s.fnFld i.port i.link n R.FP_FN_ATS = 0) :
    Declines s (s.inbound i) i 1 := by
  obtain ⟨-, hmatch, -⟩ := id hm
  obtain ⟨u, hnotes, hmu, -, hdone, -⟩ := State.inbound_matched hm hwaits
  have hno : u.fnFld i.port i.link n R.FP_FN_ATS = 0 := (hnotes.fnFld i.link.isLt (State.fnMatch_lt hmatch) rfl rfl).trans hats
  rw [hdone _ (State.inboundTry_translated hmu hlen hpage htrans), if_neg (by rw [hno]; omega)]
  exact declines_notes hnotes (State.inboundFail_declines ..)

theorem State.inbound_translated_enters (htrans : i.translated = true) (hats : s.fnFld i.port i.link n R.FP_FN_ATS = 1)
    (hregion : region i.addr.toNat = .dram ∨ region i.addr.toNat = .fabricMem) (hmem : InMemory i i.addr.toNat) :
    EntersMesh s i n i.addr.toNat (s.inbound i) := by
  obtain ⟨-, hmatch, -⟩ := id hm
  obtain ⟨u, hnotes, hmu, htenant, hdone, -⟩ := State.inbound_matched hm hwaits
  have hyes : u.fnFld i.port i.link n R.FP_FN_ATS = 1 := (hnotes.fnFld i.link.isLt (State.fnMatch_lt hmatch) rfl rfl).trans hats
  rw [hdone _ (State.inboundTry_translated hmu hlen hpage htrans), if_pos ⟨hyes, region_memory_lt hregion⟩, htenant]
  exact (State.inboundServe_enters (State.inboundMay_memory hregion) (by omega)).entersMesh hnotes hmem

section
variable (htrans : i.translated = false)
include htrans

theorem State.inbound_doorbell_declines (hregion : region i.addr.toNat = .doorbell) (hread : i.write = false) : Declines s (s.inbound i) i 1 := by
  obtain ⟨u, hnotes, hmu, -, hdone, -⟩ := State.inbound_matched hm hwaits
  have hmay {tenant : Nat} : u.inboundMay i tenant i.addr.toNat = false := by
    unfold State.inboundMay
    rw [hregion, hread]
  rw [hdone _ (State.inboundTry_doorbell hmu hlen hpage htrans hregion)]
  unfold State.inboundServe
  rw [hmay, if_neg Bool.false_ne_true]
  exact declines_notes hnotes (State.inboundFail_declines ..)

/-- R32: a device's write of a doorbell goes to its place as one message. -/
theorem State.inbound_doorbell_sends (hregion : region i.addr.toNat = .doorbell) (hwrite : i.write = true) (hfits : i.addr.toNat % 8 + i.len ≤ 8) :
    SendsOne s (s.inbound i) (s.stopIn i.port i.link) fun g => g.op = OP_DOORBELL ∧ g.addr.toNat = i.addr.toNat ∧
      g.dst.val = (ioDest i.addr.toNat).1 % 120 ∧ g.cls = s.fnClass i.port i.link n ∧ g.count.val = i.len := by
  obtain ⟨u, hnotes, hmu, htenant, hdone, -⟩ := State.inbound_matched hm hwaits
  have hmay {tenant : Nat} : u.inboundMay i tenant i.addr.toNat = true := by
    unfold State.inboundMay
    rw [hregion, hwrite]
  have hlt : i.addr.toNat < 2 ^ 52 := by
    by_contra hge
    have hr : region i.addr.toNat = .unmapped := by
      unfold region
      repeat rw [if_neg (by omega)]
    simp [hr] at hregion
  rw [hdone _ (State.inboundTry_doorbell hmu hlen hpage htrans hregion), htenant]
  obtain ⟨-, -, qs, hps, -, hout, -⟩ := (State.inboundServe_enters (hmay (tenant := s.fnFld i.port i.link n R.FP_FN_TENANT)) (by omega)).ofNotes hnotes
  rw [linePieces_small hlen hfits, writePieces_small (by omega)] at hps
  obtain ⟨q, rfl, hq⟩ := List.map_eq_singleton_iff.mp hps
  refine ⟨_, hout, ?_⟩
  rw [hq]
  refine ⟨?_, State.lineFlit_addr hlt, ?_, rfl, State.lineFlit_count (by omega)⟩
  · unfold State.lineFlit
    simp only [Nat.add_zero, hregion]
    rfl
  · unfold State.lineFlit
    simp only [Nat.add_zero, hregion]
    rfl

section
variable (hregion : region i.addr.toNat ≠ .doorbell)
include hregion

/-- R396: a request waits while its tenant's context is read. -/
theorem State.inbound_awaits (hctx : s.ctxAwaited i.port i.link n = true) :
    ((s.inbound i).link i.port i.link).waits = [(i, false)] ∧ (s.inbound i).out = s.out ∧ ((s.inbound i).port i.port).tx = (s.port i.port).tx := by
  obtain ⟨u, hnotes, hmu, -, -, hwait⟩ := State.inbound_matched hm hwaits
  rw [hwait _ (State.inboundTry_waits hmu hlen hpage htrans hregion (State.fnXlat_awaited ((hnotes.ctxAwaited ..).trans hctx)))]
  refine ⟨?_, hnotes.out, congrArg (·.tx) (hnotes.port i.port)⟩
  rw [State.link_setLink, hnotes.link, hwaits]
  rfl

section
variable (hctx : s.ctxAwaited i.port i.link n = false)
include hctx

theorem State.inbound_enters {pa : Nat}
    (hx : (s.cachedXlat 64 n (s.link i.port i.link).tlb (s.fnCtx i.port i.link n) (s.link i.port i.link).walk i.addr.toNat i.write).1 = .pa pa)
    (hpa : region pa = .dram ∨ region pa = .fabricMem) (hmem : InMemory i pa) : EntersMesh s i n pa (s.inbound i) := by
  obtain ⟨u, hnotes, hmu, htenant, hdone, -⟩ := State.inbound_matched hm hwaits
  rw [← hnotes.cachedXlat, ← hnotes.fnCtx, ← hnotes.link] at hx
  obtain ⟨tlb, hxlat⟩ := State.fnXlat_pa ((hnotes.ctxAwaited ..).trans hctx) hx
  rw [hdone _ (State.inboundTry_reached hmu hlen hpage htrans hregion hxlat (region_memory_lt hpa)), htenant]
  have hfits : i.len ≤ 4096 := by omega
  exact Entered.entersMesh hnotes hmem (.ofLink (v := { u.link i.port i.link with tlb := tlb, walk := [] }) rfl
    (State.inboundServe_enters (State.inboundMay_memory hpa) hfits))

/-- R22, R396: a request waits while a line of its tenant's page table is read. -/
theorem State.inbound_asks {line : Nat} (hreads : (s.link i.port i.link).reads = [])
    (hx : (s.cachedXlat 64 n (s.link i.port i.link).tlb (s.fnCtx i.port i.link n) (s.link i.port i.link).walk i.addr.toNat i.write).1 = .ask line) :
    ((s.inbound i).link i.port i.link).waits = [(i, false)] ∧ ((s.inbound i).port i.port).tx = (s.port i.port).tx ∧
      ∃ tag, ((s.inbound i).link i.port i.link).reads = [(tag, .walk line)] ∧ SendsOne s (s.inbound i) s.now fun g =>
        g = s.tableRead (fpStop i.port) 1 tag (Fin.ofNat 4096 (s.fnFld i.port i.link n R.FP_FN_TENANT)) (s.fnClass i.port i.link n)
          (s.tenantKey (s.fnFld i.port i.link n R.FP_FN_TENANT)) (64 * line) := by
  obtain ⟨-, hmatch, -⟩ := id hm
  obtain ⟨u, hnotes, hmu, htenant, -, hwait⟩ := State.inbound_matched hm hwaits
  rw [← hnotes.cachedXlat, ← hnotes.fnCtx, ← hnotes.link] at hx
  have hxlat := State.fnXlat_ask ((hnotes.ctxAwaited ..).trans hctx) hx
  rw [State.portWalk_asks (by rw [hnotes.link, hreads]), htenant, hnotes.fnClass i.link.isLt (State.fnMatch_lt hmatch), hnotes.tenantKey] at hxlat
  rw [hwait _ (State.inboundTry_waits hmu hlen hpage htrans hregion hxlat), State.link_setLink, State.link_portRead, hnotes.link, hreads, hwaits]
  refine ⟨rfl, ?_, (u.fabTag i.port).1, rfl, _, ?_, rfl⟩
  · rw [State.port_setLink, State.tx_portRead, hnotes.port]
  · have hread {tag : Nat} {t : Tenant} {cls : Cls} {key : KeyIx} {pa : Nat} : u.tableRead (fpStop i.port) 1 tag t cls key pa =
        s.tableRead (fpStop i.port) 1 tag t cls key pa := by
      unfold State.tableRead
      rw [hnotes.homeOf]
    rw [State.out_setLink, State.out_portRead, hread, Nat.max_self, hnotes.now, hnotes.out]

/-- A request whose translation fails is declined in a state that differs from the one it reached the port in by notes and its link's walk. -/
theorem State.inbound_failed
    (hx : (s.cachedXlat 64 n (s.link i.port i.link).tlb (s.fnCtx i.port i.link n) (s.link i.port i.link).walk i.addr.toNat i.write).1 = .fail) :
    ∃ u, PortLogs u i.port 0x8041 ∧ u.out = s.out ∧ u.mem = s.mem ∧ u.now = s.now ∧ u.port i.port = s.port i.port ∧
      (u.tenantOk (s.fnFld i.port i.link n R.FP_FN_TENANT) = true) ∧
      s.inbound i = (u.faultSource (s.fnCtx i.port i.link n) (s.fnFld i.port i.link n R.FP_FN_TENANT) (s.fnClass i.port i.link n) (fpStop i.port) 1).inboundFail i 1 := by
  obtain ⟨-, hmatch, hok, -⟩ := id hm
  obtain ⟨u, hnotes, hmu, htenant, hdone, -⟩ := State.inbound_matched hm hwaits
  rw [← hnotes.cachedXlat, ← hnotes.fnCtx, ← hnotes.link] at hx
  have hxlat := State.fnXlat_fail ((hnotes.ctxAwaited ..).trans hctx) hx
  set w := u.setLink i.port i.link { u.link i.port i.link with walk := [] } with hw
  have hrecord := w.fabRecord_notes i.port i.link 2 0x8041 i.addr.toNat i.rid.toNat 0
  have hcls : w.fnClass i.port i.link n = s.fnClass i.port i.link n := hnotes.fnClass i.link.isLt (State.fnMatch_lt hmatch)
  have hfn : w.fnCtx i.port i.link n = s.fnCtx i.port i.link n := by
    unfold State.fnCtx
    rw [hw, State.link_setLink, hnotes.link]
  refine ⟨_, State.fabRecord_logs w i.port (by decide) (by decide), hrecord.out.trans hnotes.out, hrecord.mem.trans hnotes.mem,
    hrecord.now.trans hnotes.now, (hrecord.port _).trans (hnotes.port _), ?_, ?_⟩
  · rw [hrecord.tenantOk]
    exact (hnotes.tenantOk _).trans hok
  · rw [hdone _ (State.inboundTry_failed hmu hlen hpage htrans hregion hxlat), hcls, hfn, htenant]

end

end

end

end

end

end Sys2Proof.Machine

/-! CXL.cache requests (R399), translation requests (R400) and page requests (R401). -/

namespace Sys2Proof.Machine
open Safety

section
variable {s : State} {i : Inbound} {n : Nat}

-- D2H requests (R399)

section
variable (hup : s.lnkState i.port i.link = LNK_UP) (hcxl : ∃ x, (s.link i.port i.link).partner = some x ∧ x.cxl = true)
include hup hcxl

theorem d2h_reaches : ¬(s.lnkState i.port i.link ≠ LNK_UP ∨ (!(s.link i.port i.link).partner.any (fun x => x.cxl)) = true) := by
  obtain ⟨x, hx, hxl⟩ := hcxl
  simp [hup, hx, hxl]

theorem State.d2h_write {op : D2hOp} (hop : op = .wrCur ∨ op = .itoMWr ∨ op = .woWrInv ∨ op = .woWrInvF) :
    s.d2h i op = s.inbound { i with write := true } := by
  unfold State.d2h
  simp only [if_neg (d2h_reaches hup hcxl)]
  obtain rfl | rfl | rfl | rfl := hop <;> rfl

theorem State.d2h_read : s.d2h i .rdCurr = s.inbound { i with write := false } := by
  unfold State.d2h
  simp only [if_neg (d2h_reaches hup hcxl)]

theorem State.d2h_other : Declines s (s.d2h i .other) i 2 ∧ PortLogs (s.d2h i .other) i.port 0x8042 := by
  unfold State.d2h
  simp only [if_neg (d2h_reaches hup hcxl)]
  exact ⟨declines_notes (State.fabRecord_notes ..) (State.inboundFail_declines ..),
    portLogs_inboundFail 2 (State.fabRecord_logs s i.port (by decide) (by decide))⟩

end

-- translation requests (R400)

theorem lineWord_lineOfWords_zero (w : Word) (ws : List Word) : lineWord (lineOfWords (w :: ws)) 0 = w := by
  have hw := w.isLt
  apply BitVec.eq_of_toNat_eq
  simp only [lineWord, lineOfWords, Nat.mul_zero, BitVec.ushiftRight_zero, BitVec.toNat_setWidth, BitVec.toNat_ofNat, Nat.shiftLeft_eq]
  omega

theorem handsOut_relinked {t : State} {p l : Nat} {q : PortId} {v : Link} {m : FabMsg} (h : HandsOut (s.setLink p l v) t q m) : HandsOut s t q m := h

/-- What a translation reaches: an address or a failure. -/
def reachedOf : Option Nat → Reached
  | some pa => .pa pa
  | none => .fail

theorem State.atsRequest_up (h : s.lnkState i.port i.link = LNK_UP) : s.atsRequest i = s.inboundTurn i true := if_neg (not_not.mpr h)

section
variable (hm : Matches s i n) (hwaits : (s.link i.port i.link).waits = [])
include hm hwaits

theorem State.atsRequest_declines (hats : s.fnFld i.port i.link n R.FP_FN_ATS = 0) : Declines s (s.atsRequest i) i 1 := by
  obtain ⟨hup, hmatch, -⟩ := id hm
  have htry : s.atsTry i = (s.inboundFail i 1, true) := by
    unfold State.atsTry
    simp [hmatch, State.fnAdmits_matches hm, hats]
  rw [State.atsRequest_up hup, State.inboundTurn_done (ats := true) hwaits htry]
  exact State.inboundFail_declines ..

section
variable (hats : s.fnFld i.port i.link n R.FP_FN_ATS = 1)
include hats

theorem State.atsRequest_awaits (hctx : s.ctxAwaited i.port i.link n = true) :
    ((s.atsRequest i).link i.port i.link).waits = [(i, true)] ∧ (s.atsRequest i).out = s.out ∧
      ((s.atsRequest i).port i.port).tx = (s.port i.port).tx := by
  obtain ⟨hup, hmatch, -⟩ := id hm
  have htry : s.atsTry i = (s, false) := by
    unfold State.atsTry
    simp [hmatch, State.fnAdmits_matches hm, hats, hctx]
  rw [State.atsRequest_up hup, State.inboundTurn_waits (ats := true) hwaits htry, State.link_setLink, hwaits]
  exact ⟨rfl, rfl, rfl⟩

/-- R257, R400: the answer of a translation request that no read comes before. -/
theorem State.atsRequest_answers {ro wo : Option Nat} (hctx : s.ctxAwaited i.port i.link n = false)
    (hr : (s.ctxTranslate (s.fnCtx i.port i.link n) (s.link i.port i.link).walk i.addr.toNat false).reached = reachedOf ro)
    (hw : (s.ctxTranslate (s.fnCtx i.port i.link n) (s.link i.port i.link).walk i.addr.toNat true).reached = reachedOf wo) :
    ∃ m, HandsOut s (s.atsRequest i) i.port m ∧ m.link = i.link ∧ m.kind = .atsTranslation ∧ m.tag = i.tag ∧
      lineWord m.data 0 = w64 (b01 ro.isSome + 2 * b01 wo.isSome) ∧ m.addr = (ro.orElse (fun _ => wo)).getD 0 / 4096 * 4096 := by
  obtain ⟨hup, hmatch, -⟩ := id hm
  have htry : ∃ m, s.atsTry i = ((s.setLink i.port i.link { s.link i.port i.link with walk := [] }).handOut i.port m, true) ∧
      m.link = i.link ∧ m.kind = .atsTranslation ∧ m.tag = i.tag ∧ lineWord m.data 0 = w64 (b01 ro.isSome + 2 * b01 wo.isSome) ∧
      m.addr = (ro.orElse (fun _ => wo)).getD 0 / 4096 * 4096 := by
    unfold State.atsTry
    cases ro <;> cases wo <;> simp only [hmatch, State.fnAdmits_matches hm, hats, hctx, hr, hw, reachedOf]
    · exact ⟨_, rfl, rfl, rfl, rfl, lineWord_lineOfWords_zero .., rfl⟩
    · exact ⟨_, rfl, rfl, rfl, rfl, lineWord_lineOfWords_zero .., rfl⟩
    · exact ⟨_, rfl, rfl, rfl, rfl, lineWord_lineOfWords_zero .., rfl⟩
    · exact ⟨_, rfl, rfl, rfl, rfl, lineWord_lineOfWords_zero .., rfl⟩
  obtain ⟨m, htry, hmsg⟩ := htry
  rw [State.atsRequest_up hup, State.inboundTurn_done (ats := true) hwaits htry]
  exact ⟨m, handsOut_relinked (State.handOut_handsOut _ _ _), hmsg⟩

end

end

-- page requests (R401)

theorem State.prgResponse_handsOut (s : State) (p : PortId) (l : LinkId) (rid group code : Nat) :
    HandsOut s (s.prgResponse p l rid group code) p ⟨l, .prgResponse, rid, group, code, 0, 0⟩ := by
  have hl : Fin.ofNat 4 l.val = l := by ext; exact Nat.mod_eq_of_lt l.isLt
  unfold State.prgResponse
  rw [hl]
  exact State.handOut_handsOut ..

section
variable {group : Nat} {last read : Bool} (hm : Matches s i n)
include hm

/-- A page request of a function without PRI, or while the ring is off, ends its group. -/
theorem State.pageReqIn_refused (hlast : last = true)
    (hoff : s.fnFld i.port i.link n R.FP_FN_PRI ≠ 1 ∨ s.fld (portPg i.port) R.FP_PRQ_EN = 0) :
    s.pageReqIn i group last read = s.prgResponse i.port i.link i.rid.toNat group 15 := by
  obtain ⟨hup, hmatch, -⟩ := id hm
  have hno : s.fnFld i.port i.link n R.FP_FN_PRI ≠ 1 ∨ (!s.flag (portPg i.port) R.FP_PRQ_EN) = true := by
    unfold State.flag
    obtain h | h := hoff
    · exact .inl h
    · exact .inr (by rw [h]; rfl)
  unfold State.pageReqIn
  simp only [hup, hmatch, State.fnAdmits_matches hm, ne_eq, not_true_eq_false, if_false, Bool.not_true, Bool.false_eq_true, if_pos hno, hlast, if_true]

section
variable (hpri : s.fnFld i.port i.link n R.FP_FN_PRI = 1) (hen : s.fld (portPg i.port) R.FP_PRQ_EN = 1)
include hpri hen

omit hm in
theorem pageReqIn_on : ¬(s.fnFld i.port i.link n R.FP_FN_PRI ≠ 1 ∨ (!s.flag (portPg i.port) R.FP_PRQ_EN) = true) := by
  unfold State.flag
  simp [hpri, hen]

/-- With the ring full FULL is set, and the group ends. -/
theorem State.pageReqIn_full (hlast : last = true)
    (hfull : (s.fld (portPg i.port) R.FP_PRQ_TAIL_INDEX + 2 ^ 32 - s.fld (portPg i.port) R.FP_PRQ_HEAD_INDEX) % 2 ^ 32 = 2 ^ s.fld (portPg i.port) R.FP_PRQ_LOG) :
    s.pageReqIn i group last read = (s.setFld (portPg i.port) R.FP_PRQ_FULL 1).prgResponse i.port i.link i.rid.toNat group 15 := by
  obtain ⟨hup, hmatch, -⟩ := id hm
  unfold State.pageReqIn
  simp only [hup, hmatch, State.fnAdmits_matches hm, ne_eq, not_true_eq_false, if_false, Bool.not_true, Bool.false_eq_true,
    if_neg (pageReqIn_on hpri hen), hlast, if_true, hfull, decide_true]

/-- The port writes the request at TAIL, which moves, and raises cause 3. -/
theorem State.pageReqIn_written
    (hroom : (s.fld (portPg i.port) R.FP_PRQ_TAIL_INDEX + 2 ^ 32 - s.fld (portPg i.port) R.FP_PRQ_HEAD_INDEX) % 2 ^ 32 ≠ 2 ^ s.fld (portPg i.port) R.FP_PRQ_LOG) :
    ∃ f v, s.pageReqIn i group last read = (((s.setPort i.port v).sendAt (s.stopIn i.port i.link) f).setFld (portPg i.port) R.FP_PRQ_TAIL_INDEX
        (s.fld (portPg i.port) R.FP_PRQ_TAIL_INDEX + 1)).fabSource i.port 3 ∧
      f.op = OP_WRPART ∧ f.key = 0 ∧ f.count = 16 ∧ f.cls = s.fnClass i.port i.link n ∧
      f.addr = BitVec.ofNat 52 (s.fld (portPg i.port) R.FP_PRQ_BASE <<< 12 +
        16 * (s.fld (portPg i.port) R.FP_PRQ_TAIL_INDEX % 2 ^ s.fld (portPg i.port) R.FP_PRQ_LOG)) := by
  obtain ⟨hup, hmatch, -⟩ := id hm
  unfold State.pageReqIn
  simp only [hup, hmatch, State.fnAdmits_matches hm, ne_eq, not_true_eq_false, if_false, Bool.not_true, Bool.false_eq_true,
    if_neg (pageReqIn_on hpri hen), hroom, decide_false]
  exact ⟨_, _, rfl, rfl, rfl, rfl, rfl, rfl⟩

end

end

end

end Sys2Proof.Machine

/-! The registers of a port's page that act (R400, R401, R410): page responses, ATS invalidations, events. -/

namespace Sys2Proof.Machine
open Safety

section
variable {s t : State} {p : PortId} {q : PageReq}

-- stores

/-- A store to a register that does what its port makes of it, by software of the part, is answered once that is done. -/
theorem State.accessNow_portStore {off : Nat} (h : Stores s q (portPage p) off) (hadm : wardOrM q.who = true)
    (heffect : s.regEffect (portPage p) off q.who q.data.toNat = { admitted := wardOrM q.who, act := .ok t }) :
    s.accessNow q = t.respond (pageAnswer s q 0 false) := by
  have hkept : s.keptValue (portPage p) off q.data.toNat = q.data.toNat := rfl
  refine State.accessNow_stores h ?_ ?_ ?_ <;> rw [hkept, heffect]
  exact hadm

theorem State.regEffect_prgresp (v : Nat) :
    s.regEffect (portPage p) 0x138 q.who v = { admitted := wardOrM q.who, act := .ok (s.prgWrite p v) } := rfl

theorem State.regEffect_atsinv (v : Nat) : s.regEffect (portPage p) 0x110 q.who v = { admitted := wardOrM q.who, act := s.atsWrite p v } := rfl

theorem handsOut_respond {m : FabMsg} {r : Resp} (h : HandsOut s t p m) : HandsOut s (t.respond r) p m := h

theorem exec_fpPrgresp (q : PageReq) (s : State) : exec (.fpPrgresp q) s = .next (s.regCommand q true (· == .fp0) (fun off _ => off == 0x138)) := rfl

theorem exec_fpAtsinv (q : PageReq) (s : State) : exec (.fpAtsinv q) s = .next (s.regCommand q true (· == .fp0) (fun off v => off == 0x110 && bitN v 63)) := rfl

theorem exec_fpEventRead (q : PageReq) (s : State) : exec (.fpEventRead q) s = .next (s.regCommand q false (· == .fp0) (fun off _ => off == 0x108)) := rfl

/-- R401. -/
theorem gives_prgresp (h : Stores s q (portPage p) 0x138) (hadm : wardOrM q.who = true) : Gives (.fpPrgresp q) s fun t => Answered s t q 0 ∧
    HandsOut s t p ⟨Fin.ofNat 4 (bits q.data.toNat 50 49), .prgResponse, bits q.data.toNat 15 0, bits q.data.toNat 59 51, bits q.data.toNat 63 60, 0, 0⟩ := by
  refine ⟨_, exec_fpPrgresp q s, ?_⟩
  rw [State.regCommand_names h.1 (writes_store h.2.1) rfl rfl, State.accessNow_portStore h hadm (State.regEffect_prgresp _)]
  exact ⟨answered_respond, handsOut_respond (State.handOut_handsOut ..)⟩

-- ATS invalidations (R400)

section
variable (s : State) (p : PortId) (result : Nat)

/-- The register as an invalidation's end leaves it. -/
def State.atsCleared : State := ((s.setFld (portPg p) R.FP_ATSINV_GO 0).setFld (portPg p) R.FP_ATSINV_BUSY 0).setFld (portPg p) R.FP_ATSINV_RESULT result

theorem State.atsEnd_eq : s.atsEnd p result =
    ((s.atsCleared p result).setPort p { (s.atsCleared p result).port p with atsAt := none }).pulse (1664 + 8 * p.val + 4) := rfl

theorem State.reg_setPort_port (k a : Nat) (v : Port) : (s.setPort k v).reg a = s.reg a := rfl

theorem State.reg_atsEnd_cleared (a : Nat) : (s.atsEnd p result).reg a = (s.atsCleared p result).reg a := by
  rw [State.atsEnd_eq, State.reg_pulse, State.reg_setPort_port]

theorem State.fld_atsEnd (f : Field) : (s.atsEnd p result).fld (portPg p) f = (s.atsCleared p result).fld (portPg p) f := by
  unfold State.fld
  rw [State.reg_atsEnd_cleared]

theorem State.reg_atsEnd {a : Nat} (ha : (portPg p + 0x110) / 8 ≠ a / 8) : (s.atsEnd p result).reg a = s.reg a := by
  rw [State.reg_atsEnd_cleared]
  unfold State.atsCleared
  rw [State.reg_setFld_ne _ _ ha, State.reg_setFld_ne _ _ ha, State.reg_setFld_ne _ _ ha]

theorem State.fld_atsEnd_result (h : result < 4) : (s.atsEnd p result).fld (portPg p) R.FP_ATSINV_RESULT = result := by
  rw [State.fld_atsEnd]
  exact (State.fld_setFld _ _ _ _ (by decide) (by decide)).trans (Nat.mod_eq_of_lt h)

theorem State.flag_atsEnd_busy : (s.atsEnd p result).flag (portPg p) R.FP_ATSINV_BUSY = false := by
  unfold State.flag
  rw [State.fld_atsEnd]
  unfold State.atsCleared
  rw [State.fld_setFld_apart (f := R.FP_ATSINV_RESULT) (f' := R.FP_ATSINV_BUSY) _ _ _ rfl (by decide) (by decide) (by decide) (by decide),
    State.fld_setFld _ _ _ _ (by decide) (by decide)]
  rfl

theorem State.atsEnd_raises : ∃ u, (u, 1664 + 8 * p.val + 4) ∈ (s.atsEnd p result).wires := State.pulse_raises ..

theorem State.now_atsEnd : (s.atsEnd p result).now = s.now := by
  obtain ⟨hpulse, -⟩ := ((s.atsCleared p result).setPort p { (s.atsCleared p result).port p with atsAt := none }).pulse_only (1664 + 8 * p.val + 4)
  rw [State.atsEnd_eq]
  exact (congrArg State.now hpulse :).trans (by simp [State.atsCleared])

end

theorem gives_atsDone (h : s.flag (portPg p) R.FP_ATSINV_BUSY = true) : Gives (.atsInvDone p) s fun t =>
    t.flag (portPg p) R.FP_ATSINV_BUSY = false ∧ t.fld (portPg p) R.FP_ATSINV_RESULT = 0 ∧ ∃ u, (u, 1664 + 8 * p.val + 4) ∈ t.wires := by
  refine ⟨s.atsDone p, rfl, ?_⟩
  unfold State.atsDone
  rw [if_pos h]
  exact ⟨s.flag_atsEnd_busy p 0, s.fld_atsEnd_result p 0 (by decide), s.atsEnd_raises p 0⟩

theorem gives_atsTimeout {a : Nat} (h : (s.port p).atsAt = some a) : Gives (.atsInvTimeout p) s fun t => t.now = max s.now (96 * (a + 2500000)) ∧
    t.flag (portPg p) R.FP_ATSINV_BUSY = false ∧ t.fld (portPg p) R.FP_ATSINV_RESULT = 1 ∧ PortLogs t p 0x8061 ∧
    ∃ u, (u, 1664 + 8 * p.val + 4) ∈ t.wires := by
  refine ⟨s.atsTimeout p, rfl, ?_⟩
  unfold State.atsTimeout
  rw [h]
  dsimp only
  set s1 := s.toAclk (a + 2500000) with hs1
  set s2 := s1.fabRecord p (s1.fld (portPg p) R.FP_ATSINV_LINK) 2 0x8061 0 (s1.fld (portPg p) R.FP_ATSINV_RID) 0 with hs2
  have hnow : s2.now = max s.now (96 * (a + 2500000)) := (State.fabRecord_notes ..).now
  have hlogs : PortLogs s2 p 0x8061 := State.fabRecord_logs s1 p (by decide) (by decide)
  exact ⟨(s2.now_atsEnd p 1).trans hnow, s2.flag_atsEnd_busy p 1, s2.fld_atsEnd_result p 1 (by decide),
    portLogs_congr hlogs (s2.reg_atsEnd p 1 (by omega)), s2.atsEnd_raises p 1⟩

-- the register as the write leaves it, and what it names

/-- The register after a write that starts an invalidation or ends one at once. -/
def State.atsWritten (s : State) (p v : Nat) : State :=
  s.setReg (portPg p + 0x110) (bits (s.reg (portPg p + 0x110)) 63 60 <<< 60 + bits v 59 37 <<< 37 + bits v 15 0)

/-- The port once an invalidation is under way. -/
def State.atsBusy (s : State) (p v : Nat) : State := ((s.atsWritten p v).setFld (portPg p) R.FP_ATSINV_GO 1).setFld (portPg p) R.FP_ATSINV_BUSY 1

theorem State.port_atsBusy (s : State) (p v : Nat) : (s.atsBusy p v).port p = s.port p := by simp [State.atsBusy, State.atsWritten]

theorem State.tb_atsBusy (s : State) (p v : Nat) : (s.atsBusy p v).tb = s.tb := by simp [State.tb, State.atsBusy, State.atsWritten]

theorem State.flag_atsBusy (s : State) (p v : Nat) : (s.atsBusy p v).flag (portPg p) R.FP_ATSINV_BUSY = true := State.flag_setFld _ _ _ _ rfl (by decide)

/-- A function entry that answers to the invalidation of a value of the register (R400). -/
def State.atsNames (s : State) (p v n : Nat) : Bool :=
  s.fnFld p (bits v 59 58) n R.FP_FN_VALID == 1 && s.fnFld p (bits v 59 58) n R.FP_FN_ATS == 1 && s.fnFld p (bits v 59 58) n R.FP_FN_RID == bits v 15 0 &&
    (s.fnFld p (bits v 59 58) n R.FP_FN_PV == 0 || (bitN v 57 && s.fnFld p (bits v 59 58) n R.FP_FN_PASID == bits v 56 37))

section
variable (h : Stores s q (portPage p) 0x110) (hadm : wardOrM q.who = true) (hgo : bitN q.data.toNat 63 = true)
include h hgo

theorem exec_fpAtsinv_names : exec (.fpAtsinv q) s = .next (s.accessNow q) := by
  rw [exec_fpAtsinv, State.regCommand_names h.1 (writes_store h.2.1) rfl (by simp [hgo])]

include hadm

/-- One invalidation at a time. -/
theorem gives_atsinv_busy (hbusy : s.flag (portPg p) R.FP_ATSINV_BUSY = true) :
    Gives (.fpAtsinv q) s fun t => Refused s t q (portPage p) 6 ∧ t.ports = s.ports := by
  have heffect : s.regEffect (portPage p) 0x110 q.who q.data.toNat = { admitted := wardOrM q.who, act := .no FAULT_ACCESS s } := by
    rw [State.regEffect_atsinv]
    unfold State.atsWrite
    simp [hgo, hbusy]
  have hkept : s.keptValue (portPage p) 0x110 q.data.toNat = q.data.toNat := rfl
  obtain ⟨heq, hrefused⟩ := State.accessNow_stores_no h (b := 6) (t := s) (by rw [hkept, heffect]) (by rw [hkept, heffect]; exact hadm)
    (by rw [hkept, heffect]; rfl) (by decide)
  refine ⟨_, exec_fpAtsinv_names h hgo, hrefused, ?_⟩
  have hframe := s.accessFault_frame (portPage p).base 6 q.who 0x110 true
  rw [heq]
  exact (congrArg State.ports hframe :)

section
variable (hsize : s.fld (portPg p) R.FP_ATSINV_ADDR_SIZE ≤ 40) (hidle : s.flag (portPg p) R.FP_ATSINV_BUSY = false)
include hsize hidle

omit h hadm in
theorem State.atsWrite_unnamed (hnone : ∀ n < 256, s.atsNames p q.data.toNat n = false) :
    s.atsWrite p q.data.toNat = .ok ((s.atsWritten p q.data.toNat).atsEnd p 2) := by
  have hhit : (List.range 256).any (s.atsNames p q.data.toNat) = false := by
    rw [List.any_eq_false]
    intro n hn
    rw [hnone n (List.mem_range.mp hn)]
    exact Bool.false_ne_true
  have hok : ¬(s.flag (portPg p) R.FP_ATSINV_BUSY = true ∨ 52 - 12 < s.fld (portPg p) R.FP_ATSINV_ADDR_SIZE) := by
    exact not_or.mpr ⟨by simp [hidle], by omega⟩
  unfold State.atsWrite
  simp only [hgo, Bool.not_true, Bool.false_eq_true, if_false, if_neg hok]
  exact if_pos (congrArg not hhit)

omit h hadm in
theorem State.atsWrite_named {n : Nat} (hn : n < 256) (hname : s.atsNames p q.data.toNat n = true) :
    ∃ m, s.atsWrite p q.data.toNat = .ok (((s.atsBusy p q.data.toNat).setPort p
        { (s.atsBusy p q.data.toNat).port p with atsAt := some (s.atsBusy p q.data.toNat).tb }).handOut p m) ∧ m.kind = .atsInvalidate ∧ m.rid = bits q.data.toNat 15 0 ∧
        m.addr = s.fld (portPg p) R.FP_ATSINV_ADDR_ADDR <<< 12 := by
  have hhit : (List.range 256).any (s.atsNames p q.data.toNat) = true := List.any_eq_true.mpr ⟨n, List.mem_range.mpr hn, hname⟩
  have hok : ¬(s.flag (portPg p) R.FP_ATSINV_BUSY = true ∨ 52 - 12 < s.fld (portPg p) R.FP_ATSINV_ADDR_SIZE) := by
    exact not_or.mpr ⟨by simp [hidle], by omega⟩
  unfold State.atsWrite
  simp only [hgo, Bool.not_true, Bool.false_eq_true, if_false, if_neg hok]
  have hneg : ¬(!(List.range 256).any (s.atsNames p q.data.toNat)) = true := by
    rw [hhit]
    exact Bool.false_ne_true
  exact ⟨_, if_neg hneg, rfl, rfl, rfl⟩

/-- An invalidation that no function's entry answers to ends at once. -/
theorem gives_atsinv_unnamed (hnone : ∀ n < 256, s.atsNames p q.data.toNat n = false) :
    Gives (.fpAtsinv q) s fun t => Answered s t q 0 ∧ t.fld (portPg p) R.FP_ATSINV_RESULT = 2 ∧ t.flag (portPg p) R.FP_ATSINV_BUSY = false ∧
      ∃ u, (u, 1664 + 8 * p.val + 4) ∈ t.wires := by
  refine ⟨_, exec_fpAtsinv_names h hgo, ?_⟩
  rw [State.accessNow_portStore h hadm ((State.regEffect_atsinv _).trans (by rw [State.atsWrite_unnamed hgo hsize hidle hnone]))]
  refine ⟨answered_respond, ?_, ?_, State.atsEnd_raises ..⟩
  · rw [fld_respond]
    exact State.fld_atsEnd_result _ p 2 (by decide)
  · rw [flag_respond]
    exact State.flag_atsEnd_busy _ p 2

/-- An invalidation of a function the port knows goes to it. -/
theorem gives_atsinv_named {n : Nat} (hn : n < 256) (hname : s.atsNames p q.data.toNat n = true) :
    Gives (.fpAtsinv q) s fun t => Answered s t q 0 ∧ t.flag (portPg p) R.FP_ATSINV_BUSY = true ∧ (t.port p).atsAt = some s.tb ∧
      ∃ m, (t.port p).tx = (s.port p).tx ++ [m] ∧ m.kind = .atsInvalidate ∧ m.rid = bits q.data.toNat 15 0 ∧
        m.addr = s.fld (portPg p) R.FP_ATSINV_ADDR_ADDR <<< 12 := by
  obtain ⟨m, hwrite, hmsg⟩ := State.atsWrite_named hgo hsize hidle hn hname
  refine ⟨_, exec_fpAtsinv_names h hgo, ?_⟩
  rw [State.accessNow_portStore h hadm ((State.regEffect_atsinv _).trans (by rw [hwrite]))]
  have hport {u : State} {r : Resp} : (u.respond r).port p = u.port p := rfl
  dsimp only
  rw [hport, State.port_handOut, State.port_setPort, State.port_atsBusy, State.tb_atsBusy, flag_respond]
  refine ⟨answered_respond, ?_, rfl, m, rfl, hmsg⟩
  unfold State.flag State.fld
  rw [State.reg_handOut _ _ (by simp [R.FP_ATSINV_BUSY]), State.reg_setPort_port]
  exact s.flag_atsBusy p q.data.toNat

end

end

-- events (R410)

theorem gives_eventRead {e : Word} {rest : List Word} (h : Loads s q (portPage p) 0x108) (hwho : q.who.path ≠ .safelight)
    (hevents : (s.port p).events = e :: rest) : Gives (.fpEventRead q) s fun t =>
      Answered s t q (putBits e.toNat 62 62 (b01 (s.port p).lost)) ∧ (t.port p).events = rest ∧ (t.port p).lost = false := by
  obtain ⟨hnames, hk, -, hshows, hadmits, hrests, hrow⟩ := h
  have hread : s.fabEventRead p = (putBits e.toNat 62 62 (b01 (s.port p).lost), s.setPort p { s.port p with events := rest, lost := false }) := by
    unfold State.fabEventRead
    simp only [hevents]
  have hview : (s.restored (portPage p)).blockView (portPage p) 0x108 q.who = (s.fabEventRead p).1 := by
    unfold State.restored
    rw [hrests]
    rfl
  have hacts : s.readActs (portPage p) 0x108 q.who = (s.fabEventRead p).2 := by
    unfold State.readActs
    rw [if_neg hwho]
    rfl
  have hperf : s.performPage q = ⟨(s.fabEventRead p).2, (s.fabEventRead p).1, false⟩ := by
    rw [State.performPage_load hnames hk]
    unfold State.pageRead
    rw [hview, hacts, hshows, hadmits]
    obtain ⟨r, hr⟩ := Option.isSome_iff_exists.mp hrow
    rw [hr]
    rfl
  refine ⟨_, exec_fpEventRead q s, ?_⟩
  rw [State.regCommand_names hnames (by rw [hk]; rfl) rfl rfl, State.accessNow_of_performPage hnames.1 hperf, hread]
  have hport {u : State} {r : Resp} : (u.respond r).port p = u.port p := rfl
  dsimp only
  rw [hport, State.port_setPort]
  exact ⟨answered_respond, rfl, rfl⟩

end

end Sys2Proof.Machine

/-! The completions of the part's own requests to a device, and their absence (R393, R409). -/

namespace Sys2Proof.Machine
open Safety

theorem stopFp_fpStop (p : PortId) : stopFp? (fpStop p) = some p.val := by
  revert p
  decide

theorem takeFirst_singleton {α : Type} {f : α → Bool} {a : α} (h : f a = true) : takeFirst f [a] = some (a, []) := if_pos h

theorem findSome_of_mem {α : Type} {f : Nat → Option α} {l : Nat} {x : α} (h : f l = some x) :
    ∀ {ks : List Nat}, l ∈ ks → (∀ k ∈ ks, k ≠ l → f k = none) → ks.findSome? f = some x
  | k :: ks, hmem, hne => by
    by_cases hk : k = l
    · rw [hk, List.findSome?_cons, h]
    · have hin : l ∈ ks := (List.mem_cons.mp hmem).resolve_left (Ne.symm hk)
      rw [List.findSome?_cons, hne k List.mem_cons_self hk]
      exact findSome_of_mem h hin fun j hj => hne j (List.mem_cons_of_mem _ hj)

/-- What only one link of a port has is found there. -/
theorem findSome_link {α : Type} {f : Nat → Option α} {x : α} {l : LinkId} (h : f l = some x) (hne : ∀ k : LinkId, k ≠ l → f k = none) :
    (List.range 4).findSome? f = some x :=
  findSome_of_mem h (List.mem_range.mpr l.isLt) fun k hk hkl => hne ⟨k, List.mem_range.mp hk⟩ fun heq => hkl (congrArg Fin.val heq)

/-- With nothing in the port's ingress queue no request takes the room a completion makes. -/
theorem State.fabResume_sent {s : State} {p u : Nat} {f : Flit} (l : Nat) (h : Tab.get [] s.mesh.ingress (8 * fpStop p + 1) = []) :
    (s.sendAt u f).fabResume p l = s.sendAt u f := by
  have hmesh : (s.sendAt u f).mesh = s.mesh := rfl
  unfold State.fabResume
  rw [hmesh, h]
  rfl

theorem State.fabRefuse_eq (s : State) (f : Flit) : s.fabRefuse f = s.sendAt (s.now + 7) (errorReply f) := rfl

section
variable {s : State} {p : PortId} {l : LinkId} {o : Outbound}
variable (hone : (s.link p l).outstanding = [o]) (hothers : ∀ k : LinkId, k ≠ l → (s.link p k).outstanding = [])
  (hempty : Tab.get [] s.mesh.ingress (8 * fpStop p + 1) = [])
include hone hothers

/-- The one outstanding request that a selection picks is found at its link, with nothing left behind it. -/
theorem outstanding_found {f : Outbound → Bool} (hf : f o = true) :
    (List.range 4).findSome? (fun l => (takeFirst f (s.link p l).outstanding).map (fun x => (l, x.1, x.2))) = some (l.val, o, []) := by
  refine findSome_link (l := l) ?_ fun k hk => ?_
  · rw [hone, takeFirst_singleton hf]
    rfl
  · rw [hothers k hk]
    rfl

include hempty

/-- R393: a completion's data, failure or poison goes back to the requester. -/
theorem State.completionIn_returns {r : Flit} (hsrc : r.src.val = fpStop p) (hdst : r.dst = o.f.src) (hport : r.dport = o.f.sport) (htag : r.tag = o.f.tag) :
    ((s.completionIn r).link p l).outstanding = [] ∧
      (s.completionIn r).out = s.out ++ [⟨s.stopIn p l, if r.op = OP_ERROR then errorReply o.f else fabReply o.f r.data r.poison⟩] ∧
      (r.poison = true → PortLogs (s.completionIn r) p 0x8010) := by
  have hfound : s.outboundOf p r = some (l.val, o, []) := outstanding_found hone hothers (by simp [hdst, hport, htag])
  unfold State.completionIn
  simp only [hsrc, stopFp_fpStop, hfound]
  set s0 := s.setLink p l { s.link p l with outstanding := [] } with hs0
  set s1 := s0.fabCount p l 0x02
  set s2 := if r.poison = true then (s1.fabRecord p l 1 0x8010 o.f.addr.toNat 0 0).fabCount p l 0x06 else s1 with hs2
  have hnotes : NotesOnly (portPg p) s0 s2 := by
    have h1 := State.fabCount_notes s0 p l 0x02
    rw [hs2]
    split
    · exact (h1.trans (State.fabRecord_notes ..)).trans (State.fabCount_notes ..)
    · exact h1
  have hlogs (hpoison : r.poison = true) : PortLogs s2 p 0x8010 := by
    rw [hs2, if_pos hpoison]
    exact portLogs_counts (State.fabRecord_logs s1 p (by decide) (by decide)) (State.fabCount_counts ..)
  have hout : s2.out = s.out := hnotes.out
  have hlink : (s2.link p l).outstanding = [] := by rw [hnotes.link, hs0, State.link_setLink]
  have hingress : Tab.get [] s2.mesh.ingress (8 * fpStop p + 1) = [] := by
    rw [hnotes.mesh]
    exact hempty
  clear_value s2
  rw [State.fabResume_sent _ hingress]
  exact ⟨hlink, congrArg (· ++ _) hout, hlogs⟩

/-- R393: a request without a completion ends with an error to its requester. -/
theorem State.completionTimeout_refuses (hdst : o.f.dst.val = fpStop p) :
    ((s.completionTimeout o.f).link p l).outstanding = [] ∧ (s.completionTimeout o.f).now = max s.now (o.at_ + 2400000) ∧
      PortLogs (s.completionTimeout o.f) p 0x8060 ∧
      (s.completionTimeout o.f).out = s.out ++ [⟨(s.completionTimeout o.f).now + 7, errorReply o.f⟩] := by
  unfold State.completionTimeout
  simp only [hdst, stopFp_fpStop, outstanding_found hone hothers (f := fun x => x.f == o.f) (by simp)]
  set s0 := (s.toMclk (o.at_ + 2400000)).setLink p l { s.link p l with outstanding := [] } with hs0
  set s1 := (s0.fabRecord p l 2 0x8060 o.f.addr.toNat 0 0).fabCount p l 0x08 with hs1
  have hnotes : NotesOnly (portPg p) s0 s1 := (State.fabRecord_notes ..).trans (State.fabCount_notes ..)
  have hlogs : PortLogs s1 p 0x8060 := portLogs_counts (State.fabRecord_logs s0 p (by decide) (by decide)) (State.fabCount_counts ..)
  have hout : s1.out = s.out := hnotes.out
  have hnow : s1.now = max s.now (o.at_ + 2400000) := hnotes.now
  have hlink : (s1.link p l).outstanding = [] := by rw [hnotes.link, hs0, State.link_setLink]
  have hingress : Tab.get [] s1.mesh.ingress (8 * fpStop p + 1) = [] := by
    rw [hnotes.mesh]
    exact hempty
  clear_value s1
  rw [State.fabRefuse_eq, State.fabResume_sent _ hingress]
  exact ⟨hlink, hnow, hlogs, congrArg (· ++ _) hout⟩

end

end Sys2Proof.Machine

/-! What a device's requests become (R32, R68, R393, R395, R396, R399, R400, R401): the obligation, from the outcomes above. -/

namespace Sys2Proof.Machine
open Safety

section
variable {s : State} {i : Inbound} {n : Nat}

theorem handsOut_setFld {t : State} {p : PortId} {pg v : Nat} {f : Field} {m : FabMsg} (h : HandsOut (s.setFld pg f v) t p m) : HandsOut s t p m := by
  obtain ⟨htx, hout, hmem⟩ := h
  exact ⟨by simpa using htx, by simpa using hout, by simpa using hmem⟩

theorem State.fld_prgResponse_full (p l rid group code : Nat) :
    ((s.setFld (portPg p) R.FP_PRQ_FULL 1).prgResponse p l rid group code).fld (portPg p) R.FP_PRQ_FULL = 1 := by
  have hfld := s.fld_setFld (portPg p) R.FP_PRQ_FULL 1 (by decide) (by decide)
  unfold State.prgResponse
  unfold State.fld at hfld ⊢
  rw [State.reg_handOut _ _ (by simp [R.FP_PRQ_FULL]), hfld]
  rfl

section
variable {p v : Nat}

theorem atsNames_named (h : s.atsNames p v n = true) :
    s.fnFld p (bits v 59 58) n R.FP_FN_VALID = 1 ∧ s.fnFld p (bits v 59 58) n R.FP_FN_ATS = 1 ∧ s.fnFld p (bits v 59 58) n R.FP_FN_RID = bits v 15 0 := by
  simp only [State.atsNames, Bool.and_eq_true, beq_iff_eq, and_assoc] at h
  obtain ⟨hvalid, hats, hrid, -⟩ := h
  exact ⟨hvalid, hats, hrid⟩

theorem atsNames_of_named (h : s.fnFld p (bits v 59 58) n R.FP_FN_VALID = 1 ∧ s.fnFld p (bits v 59 58) n R.FP_FN_ATS = 1 ∧
    s.fnFld p (bits v 59 58) n R.FP_FN_RID = bits v 15 0) (hpv : s.fnFld p (bits v 59 58) n R.FP_FN_PV = 0) : s.atsNames p v n = true := by
  obtain ⟨hvalid, hats, hrid⟩ := h
  simp only [State.atsNames, hvalid, hats, hrid, hpv, beq_self_eq_true, Bool.true_or, Bool.and_self]

end

/-- R396: a translation that fails is logged, and answered or reported as the context says. -/
theorem State.inbound_fails (hm : Matches s i n) (hwaits : (s.link i.port i.link).waits = []) (hlen : 1 ≤ i.len)
    (hpage : i.addr.toNat / 4096 = (i.addr.toNat + i.len - 1) / 4096) (htrans : i.translated = false) (hregion : region i.addr.toNat ≠ .doorbell)
    (hctx : s.ctxAwaited i.port i.link n = false)
    (hx : (s.cachedXlat 64 n (s.link i.port i.link).tlb (s.fnCtx i.port i.link n) (s.link i.port i.link).walk i.addr.toNat i.write).1 = .fail) :
    (bitN (ctxWord (s.fnCtx i.port i.link n) 2) 63 = false → Declines s (s.inbound i) i 1 ∧ PortLogs (s.inbound i) i.port 0x8041) ∧
    (bitN (ctxWord (s.fnCtx i.port i.link n) 2) 63 = true → PortLogs (s.inbound i) i.port 0x8041 ∧
      ((s.inbound i).port i.port).tx = (s.port i.port).tx ++ [⟨i.link, .completion, i.rid.toNat, i.tag, 1, i.addr.toNat, 0⟩] ∧
      SendsOne s (s.inbound i) s.now fun g => g.op = OP_DOORBELL ∧ g.dst.val = irtStop % 120 ∧ g.cls = s.fnClass i.port i.link n) := by
  obtain ⟨u, hlogs, hout, hmem, hnow, hport, hok, heq⟩ := State.inbound_failed hm hwaits hlen hpage htrans hregion hctx hx
  refine ⟨fun hoff => ?_, fun hon => ?_⟩
  · rw [heq, State.faultSource_off hoff]
    obtain ⟨htx, hout', hmem'⟩ := u.inboundFail_declines i 1
    rw [hport] at htx
    exact ⟨⟨htx, hout'.trans hout, hmem'.trans hmem⟩, portLogs_inboundFail 1 hlogs⟩
  · obtain ⟨f, hsend, hop, hdst, hcls⟩ := State.faultSource_on (s.fnClass i.port i.link n) (fpStop i.port) 1 hon hok
    rw [heq, hsend]
    obtain ⟨htx, hout', -⟩ := (u.send f).inboundFail_declines i 1
    have hkept : (u.send f).port i.port = u.port i.port := rfl
    rw [hkept, hport] at htx
    rw [State.out_send, hout, hnow] at hout'
    exact ⟨portLogs_inboundFail 1 hlogs, htx, f, hout', hop, hdst, hcls⟩

/-- R401: what a page request that finds room in the ring becomes. -/
theorem gives_pageRequest {group : Nat} {last read : Bool} (hm : Matches s i n) (hpri : s.fnFld i.port i.link n R.FP_FN_PRI = 1)
    (hen : s.fld (portPg i.port) R.FP_PRQ_EN = 1)
    (hroom : (s.fld (portPg i.port) R.FP_PRQ_TAIL_INDEX + 2 ^ 32 - s.fld (portPg i.port) R.FP_PRQ_HEAD_INDEX) % 2 ^ 32 ≠ 2 ^ s.fld (portPg i.port) R.FP_PRQ_LOG) :
    let t := s.pageReqIn i group last read
    t.fld (portPg i.port) R.FP_PRQ_TAIL_INDEX = (s.fld (portPg i.port) R.FP_PRQ_TAIL_INDEX + 1) % 2 ^ 32 ∧
      (∃ u, (u, 1664 + 8 * i.port.val + 3) ∈ t.wires) ∧
      SendsOne s t (s.stopIn i.port i.link) fun g => g.op = OP_WRPART ∧ g.key = 0 ∧ g.count = 16 ∧ g.cls = s.fnClass i.port i.link n ∧
        g.addr = BitVec.ofNat 52 (s.fld (portPg i.port) R.FP_PRQ_BASE <<< 12 +
          16 * (s.fld (portPg i.port) R.FP_PRQ_TAIL_INDEX % 2 ^ s.fld (portPg i.port) R.FP_PRQ_LOG)) := by
  obtain ⟨f, v, heq, hmsg⟩ := State.pageReqIn_written (group := group) (last := last) (read := read) hm hpri hen hroom
  intro t
  have ht : t = _ := heq
  rw [ht]
  generalize s.fld (portPg i.port) R.FP_PRQ_TAIL_INDEX + 1 = tail at *
  set w := (s.setPort i.port v).sendAt (s.stopIn i.port i.link) f with hw
  have hout : w.out = s.out ++ [⟨s.stopIn i.port i.link, f⟩] := rfl
  clear_value w
  refine ⟨?_, State.pulse_raises _ _, f, ?_, hmsg⟩
  · have hfld := w.fld_setFld (portPg i.port) R.FP_PRQ_TAIL_INDEX tail (by decide) (by decide)
    unfold State.fabSource
    unfold State.fld at hfld ⊢
    rw [State.reg_pulse]
    exact hfld
  · obtain ⟨hpulse, -⟩ := (w.setFld (portPg i.port) R.FP_PRQ_TAIL_INDEX tail).pulse_only (1664 + 8 * i.port.val + 3)
    exact (congrArg State.out hpulse :).trans (by simpa using hout)

end

/-- Settles O50: what devices' requests, the port's own, and their completions become, each by its case of the port's. -/
theorem devicesReachThePart : Obligations.DevicesReachThePart := by
  unfold Obligations.DevicesReachThePart
  refine ⟨fun s i => ⟨fun hhold => ?_, fun hwaits => ⟨fun hup hnone => ?_, fun n hup hmatch hok => ?_, fun n hup hmatch hok hworld => ?_,
    fun n hm hlen hpage => ⟨fun htrans hats => ?_, fun htrans hats hregion hmem => ?_, fun pa htrans hregion hreach hpa hmem => ?_,
      fun htrans hregion => ⟨fun hread => ?_, fun hwrite hfits => ?_⟩, fun htrans hregion hctx => ?_,
      fun line htrans hregion hctx hreads hask => ?_, fun htrans hregion hctx hfail => ?_⟩⟩,
    fun hup hcxl => ⟨fun op hop => ?_, ?_, ?_⟩, fun n hm hwaits => ⟨fun hats => ?_, fun hats hctx => ?_, fun pa hats hctx => ⟨fun hr hw => ?_,
      fun hr hw => ?_, fun hr hw => ?_⟩⟩, fun n group last read hm => ⟨fun hpri hen hroom => ?_, fun hlast hoff => ?_, fun hpri hen hfull hlast => ?_⟩⟩,
    fun s p q => ⟨gives_prgresp, fun h hadm hgo hsize => ⟨fun hbusy => ?_, fun hidle hnone => ?_, fun hidle hsome => ?_⟩, gives_atsDone,
      fun a => gives_atsTimeout, fun e rest => gives_eventRead⟩,
    fun s p l o hone hothers hempty => ⟨fun r hsrc hdst hport htag => ?_, fun hdst => ?_⟩⟩
  · exact gives_inbound (State.inbound_held_declines hhold)
  · exact gives_inbound (State.inbound_unmatched hup hwaits hnone)
  · exact gives_inbound (State.inbound_invalid hup hwaits hmatch hok)
  · exact gives_inbound (State.inbound_world hup hwaits hmatch hok hworld)
  · exact gives_inbound (State.inbound_translated_declines hm hwaits hlen hpage htrans hats)
  · exact gives_inbound (State.inbound_translated_enters hm hwaits hlen hpage htrans hats hregion hmem)
  · exact gives_inbound (State.inbound_enters hm hwaits hlen hpage htrans hregion hreach.2 hreach.1 hpa hmem)
  · exact gives_inbound (State.inbound_doorbell_declines hm hwaits hlen hpage htrans hregion hread)
  · exact gives_inbound (State.inbound_doorbell_sends hm hwaits hlen hpage htrans hregion hwrite hfits)
  · exact gives_inbound (State.inbound_awaits hm hwaits hlen hpage htrans hregion hctx)
  · exact gives_inbound (State.inbound_asks hm hwaits hlen hpage htrans hregion hctx hreads hask)
  · exact (State.inbound_fails hm hwaits hlen hpage htrans hregion hctx hfail).imp (gives_inbound ∘ ·) (gives_inbound ∘ ·)
  · refine ⟨s.d2h i op, rfl, ?_⟩
    rw [State.d2h_write hup hcxl hop]
    rfl
  · refine ⟨s.d2h i .rdCurr, rfl, ?_⟩
    rw [State.d2h_read hup hcxl]
    rfl
  · exact ⟨_, rfl, State.d2h_other hup hcxl⟩
  · exact ⟨_, rfl, State.atsRequest_declines hm hwaits hats⟩
  · exact ⟨_, rfl, State.atsRequest_awaits hm hwaits hats hctx⟩
  · obtain ⟨m, hout, hlink, hkind, htag, hdata, haddr⟩ := State.atsRequest_answers (ro := some pa) (wo := none) hm hwaits hats hctx hr hw
    exact ⟨_, rfl, m, hout, hlink, hkind, htag, hdata, fun _ => haddr⟩
  · obtain ⟨m, hout, hlink, hkind, htag, hdata, haddr⟩ := State.atsRequest_answers (ro := some pa) (wo := some pa) hm hwaits hats hctx hr hw
    exact ⟨_, rfl, m, hout, hlink, hkind, htag, hdata, fun _ => haddr⟩
  · obtain ⟨m, hout, hlink, hkind, htag, hdata, -⟩ := State.atsRequest_answers (ro := none) (wo := none) hm hwaits hats hctx hr hw
    exact ⟨_, rfl, m, hout, hlink, hkind, htag, hdata, fun h => absurd rfl h⟩
  · exact ⟨_, rfl, gives_pageRequest hm hpri hen hroom⟩
  · refine ⟨s.pageReqIn i group.toNat last read, rfl, ?_⟩
    rw [State.pageReqIn_refused hm hlast hoff]
    exact State.prgResponse_handsOut ..
  · refine ⟨s.pageReqIn i group.toNat last read, rfl, ?_⟩
    rw [State.pageReqIn_full hm hpri hen hlast hfull]
    refine ⟨?_, ?_⟩
    · exact State.fld_prgResponse_full ..
    · exact handsOut_setFld (State.prgResponse_handsOut ..)
  · exact gives_atsinv_busy h hadm hgo hbusy
  · refine gives_atsinv_unnamed h hadm hgo hsize hidle fun n hn => ?_
    exact Bool.eq_false_iff.mpr fun hname => hnone n hn (atsNames_named hname)
  · obtain ⟨n, hn, hnamed, hpv⟩ := hsome
    refine gives_atsinv_named h hadm hgo hsize hidle hn (atsNames_of_named hnamed hpv)
  · exact ⟨_, rfl, State.completionIn_returns hone hothers hempty hsrc hdst hport htag⟩
  · exact ⟨_, rfl, State.completionTimeout_refuses hone hothers hempty hdst⟩

end Sys2Proof.Machine

/-! What the caches of a cluster do to a state (R125, R186): lines move between the L1s and the L2 and leave for their homes, and nothing else changes. -/

namespace Sys2Proof.Machine
open Safety

/-- From `s` to `t` nothing has changed but cores, clusters and what leaves for the mesh, and no snoop has been held or let go. -/
structure CachesOnly (s t : State) : Prop where
  rest : { t with cores := s.cores, clusters := s.clusters, out := s.out } = s
  snoops : ∀ c, (t.cluster c).snoops = (s.cluster c).snoops

namespace CachesOnly

variable {s t u : State}

theorem refl (s : State) : CachesOnly s s := ⟨rfl, fun _ => rfl⟩

theorem trans (h : CachesOnly s t) (h' : CachesOnly t u) : CachesOnly s u := by
  refine ⟨?_, fun c => (h'.snoops c).trans (h.snoops c)⟩
  calc ({ u with cores := s.cores, clusters := s.clusters, out := s.out } : State)
      = { ({ u with cores := t.cores, clusters := t.clusters, out := t.out } : State) with cores := s.cores, clusters := s.clusters, out := s.out } := rfl
    _ = s := by rw [h'.rest, h.rest]

theorem now (h : CachesOnly s t) : t.now = s.now := (congrArg State.now h.rest :)
theorem mem (h : CachesOnly s t) : t.mem = s.mem := (congrArg State.mem h.rest :)
theorem regs (h : CachesOnly s t) : t.regs = s.regs := (congrArg State.regs h.rest :)
theorem mesh (h : CachesOnly s t) : t.mesh = s.mesh := (congrArg State.mesh h.rest :)
theorem harts (h : CachesOnly s t) : t.harts = s.harts := (congrArg State.harts h.rest :)
theorem hartCore (h : CachesOnly s t) : t.hartCore = s.hartCore := (congrArg State.hartCore h.rest :)
theorem queues (h : CachesOnly s t) : t.queues = s.queues := (congrArg State.queues h.rest :)
theorem engines (h : CachesOnly s t) : t.engines = s.engines := (congrArg State.engines h.rest :)

theorem hart (h : CachesOnly s t) (k : Nat) : t.hart k = s.hart k := by
  unfold State.hart
  rw [h.harts]

theorem coreOf (h : CachesOnly s t) (k : Nat) : t.coreOf k = s.coreOf k := by
  unfold State.coreOf
  rw [h.hartCore]

theorem setCore (s : State) (k : Nat) (v : CoreState) : CachesOnly s (s.setCore k v) := ⟨rfl, fun c => by simp⟩

theorem setCluster (s : State) {c : Nat} {v : Cluster} (hv : v.snoops = (s.cluster c).snoops) : CachesOnly s (s.setCluster c v) := by
  refine ⟨rfl, fun j => ?_⟩
  by_cases h : c = j
  · rw [← h, State.cluster_setCluster, hv]
  · rw [State.cluster_setCluster_ne _ _ h]

theorem sendAt (s : State) (u : Nat) (f : Flit) : CachesOnly s (s.sendAt u f) := ⟨rfl, fun _ => rfl⟩

/-- Steps that change caches only, one after another. -/
theorem fold {α : Type} {f : State → α → State} (hf : ∀ s a, CachesOnly s (f s a)) : ∀ (l : List α) (s : State), CachesOnly s (l.foldl f s)
  | [], s => refl s
  | a :: l, s => (hf s a).trans (fold hf l (f s a))

end CachesOnly

section
variable (s : State) (c l : Nat)

theorem State.cleanL1_caches : CachesOnly s (s.cleanL1 c l) := by
  unfold State.cleanL1
  split
  · exact .refl s
  · extract_lets cl s1
    have h1 : CachesOnly s s1 := by
      simp only [s1]
      split
      · exact .setCluster s rfl
      · exact .refl s
    refine h1.trans (.fold (fun t i => ?_) _ _)
    dsimp only
    split
    · exact .setCore t _ _
    · exact .refl t

theorem State.dropL1_caches (keep : Option Nat) : CachesOnly s (s.dropL1 c l keep) := by
  unfold State.dropL1
  refine .fold (fun t i => ?_) _ s
  dsimp only
  split
  · exact .refl t
  · split <;> exact .setCore t _ _

theorem State.sendWrline_caches (w : L2Line) : CachesOnly s (s.sendWrline c l w) := by
  unfold State.sendWrline
  extract_lets f
  exact (CachesOnly.setCluster s (c := c) (v := { s.cluster c with evicting := Tab.ins l w (s.cluster c).evicting }) rfl).trans (.sendAt _ _ _)

theorem State.evictL2_caches : CachesOnly s (s.evictL2 c l) := by
  unfold State.evictL2
  extract_lets s0 cl s1
  have h0 : CachesOnly s s0 := s.cleanL1_caches c l
  split
  · exact h0
  · have hdel : CachesOnly s0 (s0.setCluster c { cl with l2 := Tab.del l cl.l2, l2Used := Tab.del l cl.l2Used }) := .setCluster s0 rfl
    have h1 : CachesOnly s s1 := (h0.trans hdel).trans (State.dropL1_caches _ _ _ _)
    split
    · exact h1.trans (State.sendWrline_caches _ _ _ _)
    · exact h1

theorem State.installL2_caches (w : L2Line) : CachesOnly s (s.installL2 c l w) := by
  unfold State.installL2
  extract_lets cl set free s1 cl1
  have h1 : CachesOnly s s1 := by
    simp only [s1]
    generalize free = able
    split
    · exact .refl s
    · split
      · exact .refl s
      · exact s.evictL2_caches c _
  exact h1.trans (.setCluster s1 rfl)

theorem State.installL1_caches (k : Nat) (d : Line) : CachesOnly s (s.installL1 k l d) := by
  unfold State.installL1
  extract_lets o s1
  split
  · exact .refl s
  · have h1 : CachesOnly s s1 := by
      simp only [s1]
      split
      · exact .refl s
      · split
        · refine CachesOnly.trans ?_ (.setCore _ _ _)
          split
          · exact s.cleanL1_caches _ _
          · exact .refl s
        · exact .refl s
    exact h1.trans (.setCore _ _ _)

/-- R125: a line brought to a hart's core changes caches only. -/
theorem State.bring_caches {h : Nat} {own : Bool} {t : State} (hready : s.bring h l own = .ready t) : CachesOnly s t := by
  unfold State.bring at hready
  extract_lets k c key mine s1 s2 d s3 cl at hready
  have h1 : CachesOnly s s1 := by
    simp only [s1]
    split
    · exact .refl s
    · split
      · exact .refl s
      · exact s.cleanL1_caches c l
  have h2 : CachesOnly s s2 := by
    simp only [s2]
    split
    · exact h1.trans (State.dropL1_caches _ _ _ _)
    · exact h1
  have h3 : CachesOnly s s3 := h2.trans (State.installL1_caches _ _ _ _)
  have ht : t = s3.setCluster c { cl with l2Used := Tab.ins l (cl.clockUse + 1) cl.l2Used, clockUse := cl.clockUse + 1 } := by
    split at hready
    · cases hready
    · split at hready
      · cases hready
      · split at hready
        · cases hready
        · split at hready
          · cases hready
          · exact (Found.ready.inj hready).symm
  rw [ht]
  exact h3.trans (.setCluster s3 rfl)

theorem State.fillL1I_caches (h : Nat) : CachesOnly s (s.fillL1I h) := by
  unfold State.fillL1I
  extract_lets k o
  split
  · split
    · exact .refl s
    · exact .setCore s _ _
  · exact .refl s

theorem State.writeNegative_caches (h copy : Nat) : CachesOnly s (s.writeNegative h copy) := by
  unfold State.writeNegative
  extract_lets k c
  split
  · exact .refl s
  · exact .setCluster s rfl

/-- R187: a grant of a line the L2 has not brings it in. -/
theorem State.grantL2_caches (w : L2Line) : CachesOnly s (s.grantL2 c l w) := by
  unfold State.grantL2
  extract_lets cl
  split
  · split
    · exact .setCluster s rfl
    · exact (s.evictL2_caches c l).trans (State.installL2_caches _ _ _ _)
  · exact s.installL2_caches c l w

theorem State.at?_installL2 (w : L2Line) : Tab.at? ((s.installL2 c l w).cluster c).l2 l = some w := by
  unfold State.installL2
  rw [State.cluster_setCluster]
  exact Tab.at?_ins_self _ _ _

end

end Sys2Proof.Machine

/-! The end of an instruction (R117, R124, R127, R134): its epoch, its fill shadow, its counters and its pc. Other harts, memory and time stay. -/

namespace Sys2Proof.Machine
open Safety

/-- From `s` to `t` only hart h, caches and registers have moved: time, memory, the task queues and every other hart stand as they were. -/
structure HartOnly (h : Nat) (s t : State) : Prop where
  now : t.now = s.now
  mem : t.mem = s.mem
  queues : t.queues = s.queues
  others : ∀ k, k ≠ h → t.hart k = s.hart k

namespace HartOnly

variable {h : Nat} {s t u : State}

theorem refl (h : Nat) (s : State) : HartOnly h s s := ⟨rfl, rfl, rfl, fun _ _ => rfl⟩

theorem trans (h1 : HartOnly h s t) (h2 : HartOnly h t u) : HartOnly h s u :=
  ⟨h2.now.trans h1.now, h2.mem.trans h1.mem, h2.queues.trans h1.queues, fun k hk => (h2.others k hk).trans (h1.others k hk)⟩

theorem ofCaches (h : Nat) (hc : CachesOnly s t) : HartOnly h s t := ⟨hc.now, hc.mem, hc.queues, fun k _ => hc.hart k⟩

theorem setHart (s : State) (h : Nat) (v : HartState) : HartOnly h s (s.setHart h v) :=
  ⟨by simp, by simp, by simp, fun k hk => State.hart_setHart_ne s v (Ne.symm hk)⟩

theorem setFld (h : Nat) (s : State) (pg : Nat) (f : Field) (v : Nat) : HartOnly h s (s.setFld pg f v) :=
  ⟨by simp, by simp, by simp, fun k _ => by simp⟩

end HartOnly

/-- Hart h runs on with the registers and the I/O access it had. -/
def SameRun (h : Nat) (s t : State) : Prop := (t.hart h).a = (s.hart h).a ∧ (t.hart h).io = (s.hart h).io

section
variable (s : State) (h : Nat)

-- epochs

theorem State.closeEpoch_none {cause : Nat} (hnone : (s.hart h).epoch = none) : s.closeEpoch h cause = s := by
  unfold State.closeEpoch
  simp only [hnone]

theorem State.closeEpoch_open {cause : Nat} {e : Epoch} (hopen : (s.hart h).epoch = some e) :
    s.closeEpoch h cause = (s.setHart h { s.hart h with epoch := none, closed := (s.hart h).closed ++ [{ e with cause := cause, closedAt := s.now }] }).setFld
      (corePg (s.coreOf h)) R.CORE_EPOCH_LAST cause := by
  unfold State.closeEpoch
  simp only [hopen]

theorem State.closeEpoch_only (cause : Nat) : HartOnly h s (s.closeEpoch h cause) := by
  rcases hopen : (s.hart h).epoch with _ | e
  · rw [State.closeEpoch_none _ _ hopen]
    exact .refl h s
  · rw [State.closeEpoch_open _ _ hopen]
    exact (HartOnly.setHart s h _).trans (.setFld h _ _ _ _)

theorem State.closeEpoch_same (cause : Nat) : SameRun h s (s.closeEpoch h cause) := by
  rcases hopen : (s.hart h).epoch with _ | e
  · rw [State.closeEpoch_none _ _ hopen]
    exact ⟨rfl, rfl⟩
  · rw [State.closeEpoch_open _ _ hopen]
    simp [SameRun]

theorem State.epoch_closeEpoch (cause : Nat) : ((s.closeEpoch h cause).hart h).epoch = none := by
  rcases hopen : (s.hart h).epoch with _ | e
  · rw [State.closeEpoch_none _ _ hopen, hopen]
  · rw [State.closeEpoch_open _ _ hopen]
    simp

theorem State.openEpoch_only (io : Bool) : HartOnly h s (s.openEpoch h io) := by
  unfold State.openEpoch
  extract_lets v k s1 co s2
  split
  · exact .refl h s
  · exact (HartOnly.ofCaches h ((s.writeNegative_caches h _).trans (.setCore s1 _ _))).trans (.setHart s2 h _)

theorem State.openEpoch_same (io : Bool) : SameRun h s (s.openEpoch h io) := by
  unfold State.openEpoch
  extract_lets v k s1 s2
  split
  · exact ⟨rfl, rfl⟩
  · simp [SameRun, v]

-- the fill shadow

theorem State.installShadow_only : HartOnly h s (s.installShadow h) := by
  unfold State.installShadow
  extract_lets c v s1
  refine (HartOnly.setHart s h _).trans (.ofCaches h (.fold (fun t e => ?_) _ s1))
  split
  · exact .refl t
  · exact t.installL2_caches c _ _

theorem State.installShadow_same : SameRun h s (s.installShadow h) := by
  unfold State.installShadow
  extract_lets c v s1
  have hcaches : CachesOnly s1 (v.shadow.foldl (fun s e => if v.bypass.contains e.1 || (Tab.at? (s.cluster c).l2 e.1).isSome then s else s.installL2 c e.1 e.2) s1) := by
    refine .fold (fun t e => ?_) _ s1
    split
    · exact .refl t
    · exact t.installL2_caches c _ _
  simp only [SameRun, hcaches.hart]
  simp [s1, v]

-- counters (R500)

end

theorem Arch.putCsr_x (a : Arch) (n v : Nat) : (a.putCsr n v).x = a.x := rfl

theorem hpmOne_x (ev um n : Nat) (precise : Bool) (a : Arch) (i : Nat) : (hpmOne ev um n precise a i).x = a.x := by
  unfold hpmOne
  extract_lets sel umask v a1 quiet a2 a3
  have h2 : a2.x = a.x := by
    simp only [a2]
    split <;> rfl
  split
  · split
    · rfl
    · split <;> exact h2
  · rfl

theorem Arch.hpmAdd_x (a : Arch) (ev um n : Nat) (precise : Bool) : (a.hpmAdd ev um n precise).x = a.x := by
  unfold Arch.hpmAdd
  split
  · exact List.foldlRecOn (motive := fun b => b.x = a.x) _ _ rfl fun b hb i _ => (hpmOne_x ev um n precise b _).trans hb
  · rfl

theorem Arch.hpm_x (a : Arch) (ev um : Nat) (precise : Bool) : (a.hpm ev um precise).x = a.x := a.hpmAdd_x ev um 1 precise

-- retirement

section
variable (s : State) (h : Nat)

/-- What retirement does to its hart's caches and epoch before its registers. -/
theorem State.retiring_only : HartOnly h s (((s.openEpoch h false).installShadow h).fillL1I h) :=
  ((s.openEpoch_only h false).trans (State.installShadow_only _ h)).trans (.ofCaches h (State.fillL1I_caches _ h))

theorem State.retiring_same : SameRun h s (((s.openEpoch h false).installShadow h).fillL1I h) := by
  obtain ⟨ha, hio⟩ := s.openEpoch_same h false
  obtain ⟨ha', hio'⟩ := (s.openEpoch h false).installShadow_same h
  have hfill := ((s.openEpoch h false).installShadow h).fillL1I_caches h
  simp only [SameRun, hfill.hart]
  exact ⟨ha'.trans ha, hio'.trans hio⟩

theorem State.retire_only : HartOnly h s (s.retire h) := by
  unfold State.retire
  extract_lets s1 v a1 counted a2 n s2
  have h2 : HartOnly h s s2 := (s.retiring_only h).trans (.setHart s1 h _)
  clear_value s2
  split
  · exact h2.trans (s2.closeEpoch_only h 0)
  · exact h2

/-- R117, R124: the pc moves on, the counters count, and the integer registers stay. -/
theorem State.retire_hart : ((s.retire h).hart h).a.pc = (s.hart h).a.pc + 4 ∧ ((s.retire h).hart h).a.x = (s.hart h).a.x ∧
    ((s.retire h).hart h).io = (s.hart h).io := by
  obtain ⟨ha, hio⟩ := s.retiring_same h
  unfold State.retire
  extract_lets s1 v a1 counted a2 n s2
  have hx : a2.x = v.a.x := by
    have h1 : a1.x = v.a.x := by
      simp only [a1]
      split
      · rfl
      · exact Arch.putCsr_x ..
    exact (Arch.hpm_x ..).trans h1
  have hs2 : (s2.hart h).a.pc = (s.hart h).a.pc + 4 ∧ (s2.hart h).a.x = (s.hart h).a.x ∧ (s2.hart h).io = (s.hart h).io := by
    have hva : v.a = (s.hart h).a := ha
    have hvio : v.io = (s.hart h).io := hio
    have hpc : a2.pc = v.a.pc + 4 := rfl
    simp only [s2, State.hart_setHart, hpc, hx, hva, hvio, and_self]
  clear_value s2
  obtain ⟨hca, hcio⟩ := s2.closeEpoch_same h 0
  split
  · rwa [hca, hcio]
  · exact hs2

end

end Sys2Proof.Machine

/-! Epochs close (R124), and the response of an I/O-region access retires it as an epoch of its own (R58, R121, R131). -/

namespace Sys2Proof.Machine
open Safety

-- an epoch's end

section
variable {s : State} {h : Nat} {e : Epoch} {cause : Nat}

theorem State.setFld_setHart_frame (s : State) (h pg v : Nat) (x : HartState) (f : Field) :
    { (s.setHart h x).setFld pg f v with harts := s.harts, regs := s.regs } = s := by
  have hframe := State.setFld_regs_frame (s.setHart h x) pg f v
  generalize (s.setHart h x).setFld pg f v = t at hframe ⊢
  calc ({ t with harts := s.harts, regs := s.regs } : State)
      = { ({ t with regs := (s.setHart h x).regs } : State) with harts := s.harts, regs := s.regs } := rfl
    _ = { s.setHart h x with harts := s.harts, regs := s.regs } := by rw [hframe]
    _ = s := rfl

/-- R119, R124. -/
theorem State.closeEpoch_records (hopen : (s.hart h).epoch = some e) (hcause : cause < 8) :
    ((s.closeEpoch h cause).hart h).epoch = none ∧
      ((s.closeEpoch h cause).hart h).closed = (s.hart h).closed ++ [{ e with cause := cause, closedAt := s.now }] ∧
      (s.closeEpoch h cause).fld (corePg (s.coreOf h)) R.CORE_EPOCH_LAST = cause ∧
      { s.closeEpoch h cause with harts := s.harts, regs := s.regs } = s := by
  rw [State.closeEpoch_open _ _ hopen]
  refine ⟨by simp, by simp, ?_, State.setFld_setHart_frame ..⟩
  rw [State.fld_setFld _ _ _ _ (by decide) (by decide)]
  exact Nat.mod_eq_of_lt hcause

theorem exec_epochClose {h : HartId} {cause : Fin 8} (hopen : (s.hart h.val).epoch = some e) (hcause : cause ≠ 1) :
    exec (.epochClose h cause) s = .next (s.closeEpoch h.val cause.val) := by
  change execEpochClose h cause s = _
  unfold execEpochClose
  simp only [hopen, if_neg hcause]

theorem exec_epochClose_cycles {h : HartId} (hopen : (s.hart h.val).epoch = some e) :
    exec (.epochClose h 1) s =
      .next ((s.toMclk (s.ccycAt (s.coreOf h.val) e.begun (2 ^ bits ((s.hart h.val).a.getCsr CSR_XNRCTL) 15 12))).closeEpoch h.val 1) := by
  change execEpochClose h 1 s = _
  unfold execEpochClose
  simp only [hopen, if_true]
  rfl

end

-- registers

theorem Arch.getX_putX (a : Arch) (r : Reg) (v : Word) : (a.putX r v).getX r = if r = 0 then 0 else v := by
  unfold Arch.getX Arch.putX
  split
  · rfl
  · simp

theorem Arch.getX_putX_ne (a : Arch) {r q : Reg} (v : Word) (hne : q ≠ r) : (a.putX r v).getX q = a.getX q := by
  unfold Arch.putX
  split
  · rfl
  · unfold Arch.getX
    dsimp only
    rw [Tab.get_set_ne _ _ _ _ fun heq => hne (Fin.ext heq.symm)]

theorem Arch.putX_pc (a : Arch) (r : Reg) (v : Word) : (a.putX r v).pc = a.pc := by
  unfold Arch.putX
  split <;> rfl

/-- The integer registers read from what they hold. -/
theorem Arch.getX_congr {a b : Arch} (h : a.x = b.x) (r : Reg) : a.getX r = b.getX r := by
  unfold Arch.getX
  rw [h]

theorem State.hart_withArch (s : State) (h : Nat) (f : Arch → Arch) : (s.withArch h f).hart h = { s.hart h with a := f (s.hart h).a } := by
  unfold State.withArch
  rw [State.hart_setHart]

theorem HartOnly.withArch (s : State) (h : Nat) (f : Arch → Arch) : HartOnly h s (s.withArch h f) := .setHart s h _

/-- R131: an operation that is an epoch of its own retires and closes it. -/
theorem State.retireClose (s : State) (h cause : Nat) :
    let t := (s.retire h).closeEpoch h cause
    (t.hart h).a.pc = (s.hart h).a.pc + 4 ∧ (t.hart h).a.x = (s.hart h).a.x ∧ (t.hart h).io = (s.hart h).io ∧ (t.hart h).epoch = none ∧ HartOnly h s t := by
  obtain ⟨hpc, hx, hio⟩ := s.retire_hart h
  obtain ⟨hca, hcio⟩ := (s.retire h).closeEpoch_same h cause
  exact ⟨(congrArg (·.pc) hca).trans hpc, (congrArg (·.x) hca).trans hx, hcio.trans hio, (s.retire h).epoch_closeEpoch h cause,
    (s.retire_only h).trans ((s.retire h).closeEpoch_only h cause)⟩

/-- An instruction that writes rd and retires. -/
theorem retires_putX {s t : State} {h : Nat} {rd : Reg} {v : Word} (hpc : (t.hart h).a.pc = (s.hart h).a.pc + 4)
    (hx : (t.hart h).a.x = ((s.hart h).a.putX rd v).x) (hmem : t.mem = s.mem) (hothers : ∀ k, k ≠ h → t.hart k = s.hart k) : Retires s t h rd v :=
  ⟨hpc, (Arch.getX_congr hx rd).trans (Arch.getX_putX ..), fun _ hr => (Arch.getX_congr hx _).trans (Arch.getX_putX_ne _ _ hr), hmem, hothers⟩

-- the response

theorem State.point_taken (s : State) (f : Flit) (k : Nat) : (s.taken f).point k = s.point k := by
  have hmesh (u : State) (m : Mesh) : ({ u with mesh := m } : State).point k = u.point k := rfl
  rw [← hmesh (s.taken f) s.mesh, s.taken_only]

theorem State.now_taken (s : State) (f : Flit) : (s.taken f).now = s.now := (congrArg State.now (s.taken_only f) :)

theorem State.mem_taken (s : State) (f : Flit) : (s.taken f).mem = s.mem := (congrArg State.mem (s.taken_only f) :)

theorem State.harts_taken (s : State) (f : Flit) : (s.taken f).harts = s.harts := (congrArg State.harts (s.taken_only f) :)

theorem State.hart_taken (s : State) (f : Flit) (k : Nat) : (s.taken f).hart k = s.hart k := by
  unfold State.hart
  rw [s.harts_taken]

section
variable (s : State) (h : HartId) (f : Flit)

/-- The hart as its I/O access's response finds it, at the response's end (R145). -/
def State.ioEnded : State :=
  ((s.taken f).setHart h.val { (s.taken f).hart h.val with io := none }).toMclk
    (cclkOf (max 1 (s.point (s.coreOf h.val))) (fillEnd (max 1 (s.point (s.coreOf h.val))) (s.now + 1)))

theorem State.hart_ioEnded : (s.ioEnded h f).hart h.val = { s.hart h.val with io := none } := by
  unfold State.ioEnded
  rw [← s.hart_taken f]
  simp

theorem State.ioEnded_kept : (s.ioEnded h f).mem = s.mem ∧ ∀ k, k ≠ h.val → (s.ioEnded h f).hart k = s.hart k := by
  unfold State.ioEnded
  refine ⟨by simp [s.mem_taken f], fun k hk => ?_⟩
  rw [← s.hart_taken f]
  simp [State.hart_setHart_ne _ _ (Ne.symm hk)]

section
variable {s h f} {w : IoWait} {rd rs1 : Reg} {off : BitVec 12} {size : MemSize} {sx : Bool} (hio : (s.hart h.val).io = some w)
  (hinstr : w.instr = .ioRegionAccess h rd rs1 off size sx false) (htag : f.tag.val = 512 + h.val)
include hio hinstr htag

theorem exec_ioResponse_error (hop : f.op = OP_ERROR) : exec (.ioResponse h (some f)) s =
    .next ((s.ioEnded h f).trapOn h.val ⟨if w.write then 7 else 5, ((s.hart h.val).a.getX rs1 + off.signExtend 64).toNat, 0⟩ w.instr 0) := by
  change execIoResponse h (some f) s = _
  unfold execIoResponse State.ioEnded
  simp only [hio, htag, hinstr, hop, State.point_taken, State.now_taken, if_true, beq_self_eq_true]
  rfl

theorem exec_ioResponse_data (hop : f.op ≠ OP_ERROR) : exec (.ioResponse h (some f)) s =
    .next ((((((s.ioEnded h f).openEpoch h.val true).withArch h.val (fun a => a.putX rd (extendTo size.bytes f.data.toNat sx))).retire h.val).closeEpoch h.val 4)) := by
  change execIoResponse h (some f) s = _
  unfold execIoResponse State.ioEnded
  have hno : (f.op == OP_ERROR) = false := beq_false_of_ne hop
  simp only [hio, htag, hinstr, hno, State.point_taken, State.now_taken, if_true, Bool.false_eq_true, if_false]
  rfl

/-- R121, R131: the access retires on its response, as an epoch of its own. -/
theorem gives_ioResponse_data (hop : f.op ≠ OP_ERROR) : Gives (.ioResponse h (some f)) s fun t =>
    Retires s t h.val rd (extendTo size.bytes f.data.toNat sx) ∧ (t.hart h.val).io = none ∧ t.now = (s.ioEnded h f).now := by
  refine ⟨_, exec_ioResponse_data hio hinstr htag hop, ?_⟩
  obtain ⟨hmem, hothers⟩ := s.ioEnded_kept h f
  have hhart := s.hart_ioEnded h f
  generalize s.ioEnded h f = w1 at hmem hothers hhart ⊢
  obtain ⟨hopenA, hopenIo⟩ := w1.openEpoch_same h.val true
  have hopen := w1.openEpoch_only h.val true
  generalize w1.openEpoch h.val true = w2 at hopenA hopenIo hopen ⊢
  obtain ⟨hpc, hx, hio', -, hend⟩ := (w2.withArch h.val (fun a => a.putX rd (extendTo size.bytes f.data.toNat sx))).retireClose h.val 4
  rw [State.hart_withArch, hopenA, hhart] at hpc hx
  rw [State.hart_withArch, hopenIo, hhart] at hio'
  have honly := (hopen.trans (.withArch w2 h.val _)).trans hend
  exact ⟨retires_putX (hpc.trans (by rw [Arch.putX_pc])) hx (honly.mem.trans hmem) fun k hk => (honly.others k hk).trans (hothers k hk), hio', honly.now⟩

end

end

end Sys2Proof.Machine

/-! An I/O-region access leaves at the head of the reorder buffer, or is refused there (R32, R39, R131, R142). -/

namespace Sys2Proof.Machine
open Safety

section
variable {s : State} {h : Nat}

theorem hart_issueOf (s : State) (h : Nat) : (issueOf s h).hart h = { s.hart h with shadow := [], bypass := [] } := State.hart_setHart ..

theorem hart_headOf (s : State) (h : Nat) : (headOf s h).hart h = { s.hart h with head := none } := State.hart_setHart ..

section
variable (s : State) (h k : Nat)

theorem out_issueOf : (issueOf s h).out = s.out := rfl
theorem out_headOf : (headOf s h).out = s.out := rfl
theorem tb_issueOf : (issueOf s h).tb = s.tb := rfl
theorem tb_headOf : (headOf s h).tb = s.tb := rfl
theorem coreOf_issueOf : (issueOf s h).coreOf k = s.coreOf k := rfl
theorem coreOf_headOf : (headOf s h).coreOf k = s.coreOf k := rfl
theorem atStop_issueOf : (issueOf s h).atStop k = s.atStop k := rfl
theorem atStop_headOf : (headOf s h).atStop k = s.atStop k := rfl

end

/-- R127, R130: a hart that can issue does so at once. -/
theorem State.hartIssue_goes (hgoes : HartGoes s h) : s.hartIssue h = some s := by
  obtain ⟨hon, hhead, hio, hwait, -, hclosed, -⟩ := hgoes
  have hmay : (s.hart h).mayRetire = true := decide_eq_true hclosed
  unfold State.hartIssue
  simp [hon, hhead, hio, hwait, hmay]

theorem State.issueMem_goes (hgoes : HartGoes s h) (f : State → State) : s.issueMem h f = f (issueOf s h) := by
  have hissue := State.hartIssue_goes hgoes
  obtain ⟨-, -, -, -, hmisses, -, hfence⟩ := hgoes
  have hfenced : ((issueOf s h).hart h).fenced = false := by
    rw [hart_issueOf]
    exact hfence
  unfold State.issueMem State.issueAlone
  rw [hissue]
  dsimp only
  rw [if_neg (by rw [hmisses]; exact Bool.false_ne_true)]
  change (if ((issueOf s h).hart h).fenced = true then issueOf s h else f (issueOf s h)) = _
  rw [hfenced, if_neg Bool.false_ne_true]

/-- R131: with no epoch of the hart uncommitted, an operation at the head is performed at once. -/
theorem State.atHead_clear (hepoch : (s.hart h).epoch = none) (hclosed : (s.hart h).closed = []) (cause : Nat) (i : Instr) (f : State → State) :
    s.atHead h cause i f = f (headOf s h) := by
  unfold State.atHead
  rw [State.closeEpoch_none s h hepoch]
  exact if_pos (by rw [hclosed]; rfl)

end

section
variable {s : State} {h : HartId} {rd rs1 : Reg} {off : BitVec 12} {size : MemSize} {sx write : Bool} {pa : Nat}

/-- An access whose one part lies in an I/O region. -/
theorem State.performHart_ioRegion {again : Bool}
    (hparts : s.parts h.val write (accessParts (((s.hart h.val).a.getX rs1 + off.signExtend 64).toNat) size.bytes) = .parts [⟨pa, size.bytes, 2⟩]) :
    ∃ v, s.performHart (.ioRegionAccess h rd rs1 off size sx write) again =
      s.ioAccess h.val (.ioRegionAccess h rd rs1 off size sx write) (((s.hart h.val).a.getX rs1 + off.signExtend 64).toNat) size.bytes [⟨pa, size.bytes, 2⟩] write v := by
  unfold State.performHart
  cases write
  · simp only [hparts, Bool.false_eq_true, if_false]
    refine ⟨0, ?_⟩
    unfold State.doLoad
    simp only [hparts]
    rfl
  · simp only [hparts, if_true]
    exact ⟨_, rfl⟩

section
variable {i : Instr} {va n v : Nat}

theorem State.ioAccess_refused (s : State) (hal : va % n ≠ 0) :
    s.ioAccess h.val i va n [⟨pa, n, 2⟩] write v = (s.refusePage h.val pa write).trapOn h.val ⟨accessCause write false, va, 0⟩ i 0 := by
  unfold State.ioAccess
  dsimp only
  rw [if_pos hal]

theorem State.ioAccess_denied (hal : va % n = 0) (hno : s.tenantOk (s.hart h.val).a.tenant.val = false ∨ (write = false ∧ region pa = .doorbell)) :
    s.ioAccess h.val i va n [⟨pa, n, 2⟩] write v = s.trapOn h.val ⟨accessCause write false, va, 0⟩ i 0 := by
  have hcond : (!s.tenantOk (s.hart h.val).a.tenant.val || (!write && region pa == .doorbell)) = true := by
    obtain hok | ⟨hw, hr⟩ := hno
    · simp [hok]
    · simp [hw, hr]
  unfold State.ioAccess
  dsimp only
  rw [if_neg (not_not.mpr hal), if_pos hcond]

theorem State.ioAccess_issues (hal : va % n = 0) (hok : s.tenantOk (s.hart h.val).a.tenant.val = true) (hdir : write = true ∨ region pa ≠ .doorbell)
    (hepoch : (s.hart h.val).epoch = none) (hclosed : (s.hart h.val).closed = []) :
    s.ioAccess h.val i va n [⟨pa, n, 2⟩] write v = (headOf s h.val).issueIo h.val i pa n write v := by
  have hcond : ¬(!s.tenantOk (s.hart h.val).a.tenant.val || (!write && region pa == .doorbell)) = true := by
    obtain hw | hr := hdir
    · simp [hok, hw]
    · simp [hok, hr]
  unfold State.ioAccess
  dsimp only
  rw [if_neg (not_not.mpr hal), if_neg hcond, State.atHead_clear hepoch hclosed]

end

/-- What the request says (R58, R131), and that its hart waits for the response. -/
theorem State.issueIo_sends (s : State) (h : HartId) (i : Instr) {pa n : Nat} {write : Bool} (v : Nat) (hn : n ≤ 64) :
    ((s.issueIo h.val i pa n write v).hart h.val).io = some ⟨i, BitVec.ofNat 52 pa, write, s.tb⟩ ∧
    ((s.issueIo h.val i pa n write v).hart h.val).a = (s.hart h.val).a ∧
    ∃ m, (s.issueIo h.val i pa n write v).out = s.out ++ [m] ∧ m.at_ = s.atStop (s.coreOf h.val) ∧ m.flit.plane = .req ∧
      m.flit.tag = Fin.ofNat 2048 (512 + h.val) ∧ m.flit.count.val = n ∧ m.flit.addr = BitVec.ofNat 52 pa ∧
      m.flit.op = (if region pa = .doorbell then OP_DOORBELL else if write then OP_WRIO else OP_RDIO) := by
  unfold State.issueIo
  extract_lets x d f
  refine ⟨?_, ?_, _, rfl, rfl, rfl, rfl, Nat.mod_eq_of_lt (by omega), rfl, rfl⟩
  · change ((State.setHart _ _ _).hart _).io = _
    rw [State.hart_setHart]
  · change ((State.setHart _ _ _).hart _).a = _
    rw [State.hart_setHart]

end

-- the instruction

section
variable {s : State} {h : HartId} {rd rs1 : Reg} {off : BitVec 12} {size : MemSize} {sx write : Bool} {pa : Nat}
variable (hclear : HartClear s h.val)
  (hparts : (issueOf s h.val).parts h.val write (accessParts (((s.hart h.val).a.getX rs1 + off.signExtend 64).toNat) size.bytes) = .parts [⟨pa, size.bytes, 2⟩])
include hclear hparts

theorem exec_ioRegionAccess : ∃ v, exec (.ioRegionAccess h rd rs1 off size sx write) s = .next ((issueOf s h.val).ioAccess h.val
    (.ioRegionAccess h rd rs1 off size sx write) (((s.hart h.val).a.getX rs1 + off.signExtend 64).toNat) size.bytes [⟨pa, size.bytes, 2⟩] write v) := by
  have ha : ((issueOf s h.val).hart h.val).a = (s.hart h.val).a := by rw [hart_issueOf]
  rw [← ha] at hparts ⊢
  obtain ⟨v, hv⟩ := State.performHart_ioRegion (rd := rd) (sx := sx) (again := false) hparts
  have hissue := State.issueMem_goes hclear.1 (fun s => s.performHart (.ioRegionAccess h rd rs1 off size sx write) false)
  exact ⟨v, (congrArg _ (hissue.trans hv) :)⟩

theorem gives_io_refused (hal : ((s.hart h.val).a.getX rs1 + off.signExtend 64).toNat % size.bytes ≠ 0) :
    Gives (.ioRegionAccess h rd rs1 off size sx write) s fun t => t = ((issueOf s h.val).refusePage h.val pa write).trapOn h.val
      ⟨if write then 7 else 5, ((s.hart h.val).a.getX rs1 + off.signExtend 64).toNat, 0⟩ (.ioRegionAccess h rd rs1 off size sx write) 0 := by
  obtain ⟨v, hexec⟩ := exec_ioRegionAccess (rd := rd) (sx := sx) hclear hparts
  exact ⟨_, hexec, State.ioAccess_refused _ hal⟩

section
variable (hal : ((s.hart h.val).a.getX rs1 + off.signExtend 64).toNat % size.bytes = 0)
include hal

theorem gives_io_denied (hno : s.tenantOk (s.hart h.val).a.tenant.val = false ∨ (write = false ∧ region pa = .doorbell)) :
    Gives (.ioRegionAccess h rd rs1 off size sx write) s fun t => t = (issueOf s h.val).trapOn h.val
      ⟨if write then 7 else 5, ((s.hart h.val).a.getX rs1 + off.signExtend 64).toNat, 0⟩ (.ioRegionAccess h rd rs1 off size sx write) 0 := by
  obtain ⟨v, hexec⟩ := exec_ioRegionAccess (rd := rd) (sx := sx) hclear hparts
  refine ⟨_, hexec, State.ioAccess_denied hal ?_⟩
  rw [hart_issueOf]
  exact hno

theorem gives_io_leaves (hsize : size ≠ .q) (hok : s.tenantOk (s.hart h.val).a.tenant.val = true) (hdir : write = true ∨ region pa ≠ .doorbell) :
    Gives (.ioRegionAccess h rd rs1 off size sx write) s fun t =>
      (t.hart h.val).io = some ⟨.ioRegionAccess h rd rs1 off size sx write, BitVec.ofNat 52 pa, write, s.tb⟩ ∧ (t.hart h.val).a = (s.hart h.val).a ∧
      ∃ m, t.out = s.out ++ [m] ∧ m.at_ = s.atStop (s.coreOf h.val) ∧ m.flit.plane = .req ∧ m.flit.tag = Fin.ofNat 2048 (512 + h.val) ∧
        m.flit.count.val = size.bytes ∧ m.flit.addr = BitVec.ofNat 52 pa ∧
        m.flit.op = (if region pa = .doorbell then OP_DOORBELL else if write then OP_WRIO else OP_RDIO) := by
  obtain ⟨v, hexec⟩ := exec_ioRegionAccess (rd := rd) (sx := sx) hclear hparts
  obtain ⟨-, hepoch, hclosed⟩ := hclear
  have hbytes : size.bytes ≤ 64 := by cases size <;> decide
  refine ⟨_, hexec, ?_⟩
  rw [State.ioAccess_issues hal (by rw [hart_issueOf]; exact hok) hdir (by rw [hart_issueOf]; exact hepoch) (by rw [hart_issueOf]; exact hclosed)]
  have hsent := (headOf (issueOf s h.val) h.val).issueIo_sends h (.ioRegionAccess h rd rs1 off size sx write) (pa := pa) (write := write) v hbytes
  rw [hart_headOf, hart_issueOf, out_headOf, out_issueOf, tb_headOf, tb_issueOf, atStop_headOf, atStop_issueOf, coreOf_headOf, coreOf_issueOf] at hsent
  generalize (headOf (issueOf s h.val) h.val).issueIo h.val _ pa size.bytes write v = t at hsent ⊢
  exact hsent

end

end

end Sys2Proof.Machine

/-! A reply that reaches a cluster (R134, R143, R186): a line for a miss or a prefetch, or the end of a wait. -/

namespace Sys2Proof.Machine
open Safety

theorem stopTile_tileStop (c : Tile) : (stopTile? (tileStop c.val)).isNone = false ∧ tileStop c.val - 12 = c.val := by
  revert c
  decide

theorem Tab.at?_del_self {α : Type} (t : Tab α) (k : Nat) : Tab.at? (Tab.del k t) k = none := by
  unfold Tab.del
  induction t with
  | nil => rfl
  | cons e t ih =>
    rw [List.filter_cons]
    split
    · rename_i hne
      rw [Tab.at?, if_neg (by simpa using hne)]
      exact ih
    · exact ih

theorem State.cluster_taken (s : State) (f : Flit) (c : Nat) : (s.taken f).cluster c = s.cluster c := by
  have hclusters : (s.taken f).clusters = s.clusters := (congrArg State.clusters (s.taken_only f) :)
  unfold State.cluster
  rw [hclusters]

section
variable {s : State} {f : Flit} {c : Tile} (hdst : f.dst.val = tileStop c.val)
include hdst

-- what a reply is for

/-- The line a reply brings (R187). -/
def granted (f : Flit) : L2Line := { st := grantState f.detail.toNat, data := f.data, key := f.key, poison := f.poison, cls := f.cls }

theorem exec_fill_prefetch (hlo : 384 ≤ f.tag.val) (hhi : f.tag.val < 512) (hop : f.op = OP_DATA) :
    exec (.fillArrival f) s = .next ((s.taken f).grantL2 c.val (f.addr.toNat / 64) (granted f)) := by
  obtain ⟨hsome, hc⟩ := stopTile_tileStop c
  change execFillArrival f s = _
  unfold execFillArrival
  dsimp only
  rw [hdst, hc, if_neg (by rw [hsome]; exact Bool.false_ne_true), if_neg (by omega), if_pos hhi, if_pos hop]
  rfl

theorem exec_fill_cbo (h : HartId) (htag : f.tag.val = 1024 + h.val) :
    exec (.fillArrival f) s = .next ((s.taken f).setHart h.val { (s.taken f).hart h.val with
      cbos := ((s.taken f).hart h.val).cbos - 1
      fenceWait := ((s.taken f).hart h.val).fenceWait && !(((s.taken f).hart h.val).closed.isEmpty && ((s.taken f).hart h.val).cbos - 1 == 0) }) := by
  obtain ⟨hsome, -⟩ := stopTile_tileStop c
  have hh : f.tag.val - 1024 = h.val := by omega
  change execFillArrival f s = _
  unfold execFillArrival
  dsimp only
  rw [hdst, if_neg (by rw [hsome]; exact Bool.false_ne_true), if_neg (by omega), if_neg (by omega), if_pos (by omega), hh]

theorem exec_fill_writeback (htag : 1536 ≤ f.tag.val) :
    exec (.fillArrival f) s = .next ((s.taken f).setCluster c.val { (s.taken f).cluster c.val with
      evicting := Tab.del (f.addr.toNat / 64) ((s.taken f).cluster c.val).evicting }) := by
  obtain ⟨hsome, hc⟩ := stopTile_tileStop c
  change execFillArrival f s = _
  unfold execFillArrival
  dsimp only
  rw [hdst, hc, if_neg (by rw [hsome]; exact Bool.false_ne_true), if_neg (by omega), if_neg (by omega), if_neg (by omega), if_pos htag]

-- a prefetched line, and the ends of waits

theorem gives_fill_prefetch (hlo : 384 ≤ f.tag.val) (hhi : f.tag.val < 512) (hop : f.op = OP_DATA)
    (hnone : Tab.at? (s.cluster c.val).l2 (f.addr.toNat / 64) = none) : Gives (.fillArrival f) s fun t =>
      Tab.at? (t.cluster c.val).l2 (f.addr.toNat / 64) = some (granted f) ∧ t.harts = s.harts := by
  refine ⟨_, exec_fill_prefetch hdst hlo hhi hop, ?_, ?_⟩
  · unfold State.grantL2
    dsimp only
    rw [State.cluster_taken, hnone]
    exact State.at?_installL2 ..
  · exact (State.grantL2_caches ..).harts.trans (s.harts_taken f)

theorem gives_fill_cbo (h : HartId) (htag : f.tag.val = 1024 + h.val) : Gives (.fillArrival f) s fun t =>
    (t.hart h.val).cbos = (s.hart h.val).cbos - 1 ∧ ((s.hart h.val).closed = [] → (s.hart h.val).cbos = 1 → (t.hart h.val).fenceWait = false) := by
  refine ⟨_, exec_fill_cbo hdst h htag, ?_⟩
  dsimp only
  rw [State.hart_setHart, State.hart_taken]
  exact ⟨rfl, fun hclosed hcbos => by simp [hclosed, hcbos]⟩

theorem gives_fill_writeback (htag : 1536 ≤ f.tag.val) : Gives (.fillArrival f) s fun t =>
    Tab.at? (t.cluster c.val).evicting (f.addr.toNat / 64) = none ∧ t.harts = s.harts := by
  refine ⟨_, exec_fill_writeback hdst htag, ?_, ?_⟩
  · rw [State.cluster_setCluster]
    exact Tab.at?_del_self _ _
  · exact (CachesOnly.setCluster (s.taken f) (c := c.val) rfl).harts.trans (s.harts_taken f)

end

end Sys2Proof.Machine

/-! The line a miss waits for, or the error in its place (R134, R145). -/

namespace Sys2Proof.Machine
open Safety

theorem State.coreOf_taken (s : State) (f : Flit) (k : Nat) : (s.taken f).coreOf k = s.coreOf k := by
  have hcore : (s.taken f).hartCore = s.hartCore := (congrArg State.hartCore (s.taken_only f) :)
  unfold State.coreOf
  rw [hcore]

-- the misses at the front

section
variable {s : State} {h : Nat} {m : Miss} (hmisses : (s.hart h).misses = [m])
include hmisses

theorem State.drainMisses_waits (herr : m.err = false) (hlines : m.lines ≠ []) : s.drainMisses h 1 = s := by
  unfold State.drainMisses
  simp [hmisses, herr, hlines]

theorem State.drainMisses_performs (herr : m.err = false) (hlines : m.lines = []) : s.drainMisses h 1 =
    (s.setHart h { s.hart h with misses := [], shadow := m.got, bypass := m.nc, head := none }).performHart m.instr true := by
  unfold State.drainMisses
  simp [hmisses, herr, hlines, State.drainMisses]

theorem State.drainMisses_traps (herr : m.err = true) : s.drainMisses h 1 = s.trapOn h (accessTrap s h m.instr) m.instr 0 := by
  unfold State.drainMisses
  simp [hmisses, herr]

end

section
variable {s : State} {f : Flit} {c : Tile} {h : HartId} {m : Miss} (hdst : f.dst.val = tileStop c.val) (htag : f.tag.val = h.val)
  (hmisses : (s.hart h.val).misses = [m]) (hwaits : m.lines.contains (f.addr.toNat / 64) = true)

/-- The miss that a reply reaches, as it leaves it. -/
def State.withMiss (s : State) (h : Nat) (m : Miss) : State := s.setHart h { s.hart h with misses := [m] }

theorem State.hart_withMiss (s : State) (h : Nat) (m : Miss) : ((s.withMiss h m).hart h).misses = [m] := by
  unfold State.withMiss
  rw [State.hart_setHart]

/-- A miss without the line that came. -/
def Miss.filled (m : Miss) (f : Flit) : Miss :=
  { m with lines := m.lines.filter (· != f.addr.toNat / 64), got := Tab.ins (f.addr.toNat / 64) (granted f) m.got }

/-- A miss whose request for the line was refused. -/
def Miss.refused (m : Miss) (f : Flit) : Miss := { m with lines := m.lines.filter (· != f.addr.toNat / 64), err := true }

/-- The state at the end of a fill (R145). -/
def State.missFilled (s : State) (f : Flit) (h : HartId) (m : Miss) : State :=
  ((s.taken f).withMiss h.val (m.filled f)).toMclk
    (cclkOf (max 1 (s.point (s.coreOf h.val))) (fillEnd (max 1 (s.point (s.coreOf h.val))) (s.now + 1)))

theorem State.misses_missFilled (s : State) (f : Flit) (h : HartId) (m : Miss) : ((s.missFilled f h m).hart h.val).misses = [m.filled f] := by
  unfold State.missFilled
  simp [State.hart_withMiss]

include hdst htag hmisses hwaits

theorem exec_fill_data (hop : f.op = OP_DATA) (hown : m.own = false) :
    exec (.fillArrival f) s = .next ((s.missFilled f h m).drainMisses h.val 1) := by
  obtain ⟨hsome, -⟩ := stopTile_tileStop c
  have hlo : f.tag.val < 384 := htag ▸ h.isLt
  have hm : ((s.taken f).hart h.val).misses = [m] := (congrArg _ (s.hart_taken f h.val)).trans hmisses
  change execFillArrival f s = _
  unfold execFillArrival State.missFilled State.withMiss Miss.filled granted
  dsimp only
  rw [hdst, if_neg (by rw [hsome]; exact Bool.false_ne_true), if_pos hlo, htag, hm]
  simp only [List.any_cons, List.any_nil, hwaits, hown, hop, List.map_cons, List.map_nil, List.length_cons, List.length_nil,
    State.point_taken, State.coreOf_taken, State.now_taken]
  rfl

theorem exec_fill_error (hop : f.op = OP_ERROR) :
    exec (.fillArrival f) s = .next (((s.taken f).withMiss h.val (m.refused f)).drainMisses h.val 1) := by
  obtain ⟨hsome, -⟩ := stopTile_tileStop c
  have hlo : f.tag.val < 384 := htag ▸ h.isLt
  have hm : ((s.taken f).hart h.val).misses = [m] := (congrArg _ (s.hart_taken f h.val)).trans hmisses
  change execFillArrival f s = _
  unfold execFillArrival State.withMiss Miss.refused
  dsimp only
  rw [hdst, if_neg (by rw [hsome]; exact Bool.false_ne_true), if_pos hlo, htag, hm]
  simp only [List.any_cons, List.any_nil, hwaits, hop, List.map_cons, List.map_nil, List.length_cons, List.length_nil]
  rfl

theorem gives_fill_waits (hop : f.op = OP_DATA) (hown : m.own = false) (herr : m.err = false) (hmore : m.lines.filter (· != f.addr.toNat / 64) ≠ []) :
    Gives (.fillArrival f) s fun t => t = s.missFilled f h m :=
  ⟨_, exec_fill_data hdst htag hmisses hwaits hop hown, State.drainMisses_waits (s.misses_missFilled f h m) herr hmore⟩

theorem gives_fill_performs (hop : f.op = OP_DATA) (hown : m.own = false) (herr : m.err = false) (hlast : m.lines.filter (· != f.addr.toNat / 64) = []) :
    Gives (.fillArrival f) s fun t => t = ((s.missFilled f h m).setHart h.val { (s.missFilled f h m).hart h.val with
      misses := [], shadow := (m.filled f).got, bypass := m.nc, head := none }).performHart m.instr true :=
  ⟨_, exec_fill_data hdst htag hmisses hwaits hop hown, State.drainMisses_performs (s.misses_missFilled f h m) herr hlast⟩

theorem gives_fill_error (hop : f.op = OP_ERROR) : Gives (.fillArrival f) s fun t =>
    t = ((s.taken f).withMiss h.val (m.refused f)).trapOn h.val (accessTrap ((s.taken f).withMiss h.val (m.refused f)) h.val m.instr) m.instr 0 :=
  ⟨_, exec_fill_error hdst htag hmisses hwaits hop, State.drainMisses_traps (m := m.refused f) (State.hart_withMiss _ _ _) rfl⟩

end

end Sys2Proof.Machine

/-! Harts lose what a snoop or a commit takes from them (R106, R129, R130, R138), and a snoop that was held is answered (R106, R187). -/

namespace Sys2Proof.Machine
open Safety

/-- From `s` to `t` only harts have changed, and none of them in its closed epochs or in what waits at the head of its reorder buffer. -/
structure HartsOnly (s t : State) : Prop where
  rest : { t with harts := s.harts } = s
  kept : ∀ k, (t.hart k).closed = (s.hart k).closed ∧ (t.hart k).head = (s.hart k).head

namespace HartsOnly

variable {s t u : State}

theorem refl (s : State) : HartsOnly s s := ⟨rfl, fun _ => ⟨rfl, rfl⟩⟩

theorem trans (h : HartsOnly s t) (h' : HartsOnly t u) : HartsOnly s u := by
  refine ⟨?_, fun k => ⟨(h'.kept k).1.trans (h.kept k).1, (h'.kept k).2.trans (h.kept k).2⟩⟩
  calc ({ u with harts := s.harts } : State) = { ({ u with harts := t.harts } : State) with harts := s.harts } := rfl
    _ = s := by rw [h'.rest, h.rest]

theorem setHart (s : State) {h : Nat} {v : HartState} (hclosed : v.closed = (s.hart h).closed) (hhead : v.head = (s.hart h).head) :
    HartsOnly s (s.setHart h v) := by
  refine ⟨rfl, fun k => ?_⟩
  by_cases hk : h = k
  · rw [← hk, State.hart_setHart]
    exact ⟨hclosed, hhead⟩
  · rw [State.hart_setHart_ne s v hk]
    exact ⟨rfl, rfl⟩

theorem hpm (s : State) (h ev um : Nat) (exact : Bool) : HartsOnly s (s.hpm h ev um exact) := .setHart s rfl rfl

theorem fold {α : Type} {f : State → α → State} (hf : ∀ s a, HartsOnly s (f s a)) : ∀ (l : List α) (s : State), HartsOnly s (l.foldl f s)
  | [], s => refl s
  | a :: l, s => (hf s a).trans (fold hf l (f s a))

theorem now (h : HartsOnly s t) : t.now = s.now := (congrArg State.now h.rest :)
theorem mem (h : HartsOnly s t) : t.mem = s.mem := (congrArg State.mem h.rest :)
theorem regs (h : HartsOnly s t) : t.regs = s.regs := (congrArg State.regs h.rest :)
theorem cores (h : HartsOnly s t) : t.cores = s.cores := (congrArg State.cores h.rest :)
theorem clusters (h : HartsOnly s t) : t.clusters = s.clusters := (congrArg State.clusters h.rest :)

theorem cluster (h : HartsOnly s t) (c : Nat) : t.cluster c = s.cluster c := by
  unfold State.cluster
  rw [h.clusters]

end HartsOnly

theorem State.refetch_only (s : State) (ks : List Nat) : HartsOnly s (s.refetch ks) := by
  unfold State.refetch
  refine .fold (fun t k => ?_) _ s
  split
  · exact .refl t
  · rename_i h _
    extract_lets s1 v n
    have h1 : HartsOnly t s1 := .hpm t h _ _ _
    split
    · exact h1.trans (.setHart s1 rfl rfl)
    · exact h1.trans (.setHart s1 rfl rfl)
    · exact h1

theorem State.loseResv_only (s : State) (c l : Nat) : HartsOnly s (s.loseResv c l) := by
  unfold State.loseResv
  refine .fold (fun t k => ?_) _ s
  dsimp only
  split
  · split
    · exact .setHart t rfl rfl
    · exact .refl t
  · exact .refl t

theorem State.freshShadow_only (s : State) (c h l : Nat) (d : Line) : HartsOnly s (s.freshShadow c h l d) := by
  unfold State.freshShadow
  refine .fold (fun t k => ?_) _ s
  dsimp only
  split
  · exact .refl t
  · exact .setHart t rfl rfl

-- a snoop's answer

/-- From `s` to `t` no time has passed, and no snoop has been held or let go. -/
structure SnoopsKept (s t : State) : Prop where
  now : t.now = s.now
  snoops : ∀ c, (t.cluster c).snoops = (s.cluster c).snoops

namespace SnoopsKept

variable {s t u : State}

theorem refl (s : State) : SnoopsKept s s := ⟨rfl, fun _ => rfl⟩

theorem trans (h : SnoopsKept s t) (h' : SnoopsKept t u) : SnoopsKept s u := ⟨h'.now.trans h.now, fun c => (h'.snoops c).trans (h.snoops c)⟩

theorem ofCaches (h : CachesOnly s t) : SnoopsKept s t := ⟨h.now, h.snoops⟩

theorem ofHarts (h : HartsOnly s t) : SnoopsKept s t := ⟨h.now, fun c => by rw [h.cluster c]⟩

theorem setHart (s : State) (h : Nat) (v : HartState) : SnoopsKept s (s.setHart h v) := ⟨rfl, fun _ => rfl⟩

theorem sendAt (s : State) (t : Nat) (f : Flit) : SnoopsKept s (s.sendAt t f) := ⟨rfl, fun _ => rfl⟩

theorem askHome (s : State) (h l tag detail : Nat) (op : Fin 32) : SnoopsKept s (s.askHome h l op tag detail) := .sendAt ..

theorem fold {α : Type} {f : State → α → State} (hf : ∀ s a, SnoopsKept s (f s a)) : ∀ (l : List α) (s : State), SnoopsKept s (l.foldl f s)
  | [], s => refl s
  | a :: l, s => (hf s a).trans (fold hf l (f s a))

end SnoopsKept

theorem State.snoopShadow_kept (s : State) (c : Nat) (f : Flit) : SnoopsKept s (s.snoopShadow c f) := by
  unfold State.snoopShadow
  refine .fold (fun t k => ?_) _ s
  dsimp only
  split
  · split
    · exact (SnoopsKept.setHart t k _).trans (.askHome ..)
    · exact .setHart t k _
  · exact .setHart t k _

/-- The snoop `f` has been answered last (R187). -/
def SnoopAnswered (s t : State) (f : Flit) : Prop :=
  ∃ v m, SnoopsKept s v ∧ t = { v with out := v.out ++ [m] } ∧ m.flit.plane = .rsp ∧ m.flit.tag = f.tag ∧ m.flit.dst = f.src

theorem snoopAnswered_sendAt {s v : State} {f g : Flit} (e : Nat) (hkept : SnoopsKept s v) (hplane : g.plane = .rsp) (htag : g.tag = f.tag)
    (hdst : g.dst = f.src) : SnoopAnswered s (v.sendAt e g) f :=
  ⟨v, ⟨e, g⟩, hkept, rfl, hplane, htag, hdst⟩

/-- R187: every snoop is answered. -/
theorem State.serveSnoop_answers (s : State) (c t : Nat) (f : Flit) : SnoopAnswered s (s.serveSnoop c t f) f := by
  unfold State.serveSnoop
  extract_lets l e s0 cl answer ks s1
  have hanswer (u : State) (w : Option L2Line) (data dirty heldM : Bool) (hu : SnoopsKept s u) : SnoopAnswered s (answer u w data dirty heldM) f := by
    simp only [answer]
    split
    · split <;> exact snoopAnswered_sendAt e hu rfl rfl rfl
    · exact snoopAnswered_sendAt e hu rfl rfl rfl
  clear_value answer
  have hclean : CachesOnly s s0 := s.cleanL1_caches c l
  split
  · split <;> exact hanswer _ _ _ _ _ (.ofCaches hclean)
  · extract_lets owned dirty
    split
    · have hgone : CachesOnly s0 (s0.setCluster c { cl with l2 := Tab.del l cl.l2, l2Used := Tab.del l cl.l2Used }) := .setCluster s0 rfl
      have hdrop : SnoopsKept s s1 := (SnoopsKept.ofCaches ((hclean.trans hgone).trans (State.dropL1_caches _ c l none))).trans
        (.ofHarts (State.loseResv_only _ c l))
      exact hanswer _ _ _ _ _ (hdrop.trans (.ofHarts (s1.refetch_only ks)))
    · split <;> exact hanswer _ _ _ _ _ (.ofCaches (hclean.trans (.setCluster s0 rfl)))

/-- R106, R129: the one snoop that a cluster held is answered once it waits no longer. -/
theorem State.retrySnoops_answers (s : State) {c t0 : Nat} {f : Flit} (hheld : (s.cluster c).snoops = [(t0, f)])
    (hwaits : s.snoopWaits c (f.addr.toNat / 64) = false) : SnoopAnswered (s.setCluster c { s.cluster c with snoops := [] }) (s.retrySnoops c) f := by
  have hfree : (s.setCluster c { s.cluster c with snoops := [] }).snoopWaits c (f.addr.toNat / 64) = false := hwaits
  unfold State.retrySnoops
  rw [hheld]
  generalize s.setCluster c { s.cluster c with snoops := [] } = v at hfree ⊢
  change SnoopAnswered v (v.snoopAt c t0 f) f
  unfold State.snoopAt
  rw [hfree, if_neg Bool.false_ne_true]
  obtain ⟨u, m, hkept, hu⟩ := (v.snoopShadow c f).serveSnoop_answers c t0 f
  exact ⟨u, m, (v.snoopShadow_kept c f).trans hkept, hu⟩

theorem State.retrySnoops_none (s : State) {c : Nat} (hnone : (s.cluster c).snoops = []) :
    s.retrySnoops c = s.setCluster c { s.cluster c with snoops := [] } := by
  unfold State.retrySnoops
  rw [hnone]
  rfl

section
variable {s : State} {h : HartId} {r : Resv} {f : Flit} {t0 : Nat} (hresv : (s.hart h.val).resv = some r)
include hresv

theorem exec_lrSnoopDeferEnd : exec (.lrSnoopDeferEnd h) s =
    .next ((s.toMclk (s.ccycAt (s.coreOf h.val) r.since 64)).retrySnoops (s.coreOf h.val / 4)) := by
  change execLrSnoopDeferEnd h s = _
  unfold execLrSnoopDeferEnd
  rw [hresv]

/-- R106: a snoop that an LR deferred is answered when the LR has had its time. -/
theorem gives_lrSnoopDeferEnd (hheld : (s.cluster (s.coreOf h.val / 4)).snoops = [(t0, f)])
    (hwaits : (s.toMclk (s.ccycAt (s.coreOf h.val) r.since 64)).snoopWaits (s.coreOf h.val / 4) (f.addr.toNat / 64) = false) :
    Gives (.lrSnoopDeferEnd h) s fun t => t.now = (s.toMclk (s.ccycAt (s.coreOf h.val) r.since 64)).now ∧
      (t.cluster (s.coreOf h.val / 4)).snoops = [] ∧
      ∃ m, t.out.getLast? = some m ∧ m.flit.plane = .rsp ∧ m.flit.tag = f.tag ∧ m.flit.dst = f.src := by
  refine ⟨_, exec_lrSnoopDeferEnd hresv, ?_⟩
  dsimp only
  have hheld' : ((s.toMclk (s.ccycAt (s.coreOf h.val) r.since 64)).cluster (s.coreOf h.val / 4)).snoops = [(t0, f)] := hheld
  generalize s.coreOf h.val / 4 = c at hheld' hwaits ⊢
  generalize s.toMclk _ = u at hheld' hwaits ⊢
  obtain ⟨v, m, ⟨hnow, hsnoops⟩, ht, hm⟩ := u.retrySnoops_answers hheld' hwaits
  rw [ht]
  refine ⟨hnow, ?_, m, ?_, hm⟩
  · exact (hsnoops c).trans (by rw [State.cluster_setCluster])
  · exact List.getLast?_concat

end

end Sys2Proof.Machine

/-! The commit of an epoch (R126): its stores' bytes enter L1D, and the L2 owns the line. -/

namespace Sys2Proof.Machine
open Safety

-- bytes of a line

/-- Byte i of a line. -/
def lineByte (d : Line) (i : Nat) : Nat := bits d.toNat (8 * i + 7) (8 * i)

theorem lineByte_lineMerge_same (d : Line) {i : Nat} (hi : i < 64) (v : Nat) : lineByte (lineMerge d i 1 v) i = v % 2 ^ 8 := by
  unfold lineByte lineMerge
  rw [BitVec.toNat_ofNat, bits_eq_mod (by omega) (by omega), show 8 * (i + 1) - 1 = 8 * i + 7 by omega, bits_putBits _ _ _ _ (by omega),
    show 8 * i + 7 + 1 - 8 * i = 8 by omega]

theorem lineByte_lineMerge_other (d : Line) {i j : Nat} (hj : j < 64) (hne : i ≠ j) (v : Nat) : lineByte (lineMerge d i 1 v) j = lineByte d j := by
  unfold lineByte lineMerge
  rw [BitVec.toNat_ofNat, bits_eq_mod (by omega) (by omega), bits_putBits_apart (by omega) (by omega) (by omega)]

/-- A line with the stored ones of its first n bytes written. -/
def BufLine.onto (b : BufLine) (old : Line) (n : Nat) : Line :=
  (List.range n).foldl (fun l i => if bitN b.mask i then lineMerge l i 1 (bits b.data.toNat (8 * i + 7) (8 * i)) else l) old

theorem BufLine.onto_succ (b : BufLine) (old : Line) (n : Nat) : b.onto old (n + 1) =
    if bitN b.mask n then lineMerge (b.onto old n) n 1 (bits b.data.toNat (8 * n + 7) (8 * n)) else b.onto old n := by
  unfold BufLine.onto
  rw [List.range_succ, List.foldl_append]
  rfl

theorem BufLine.lineByte_onto (b : BufLine) (old : Line) {i : Nat} (hi : i < 64) (n : Nat) (hn : n ≤ 64) :
    lineByte (b.onto old n) i = if i < n ∧ bitN b.mask i = true then lineByte b.data i else lineByte old i := by
  induction n with
  | zero => simp [BufLine.onto]
  | succ n ih =>
    rw [BufLine.onto_succ]
    by_cases hin : i = n
    · subst hin
      by_cases hbit : bitN b.mask i = true
      · have hbyte : bits b.data.toNat (8 * i + 7) (8 * i) < 2 ^ 8 := by
          have hlt := bits_lt b.data.toNat (8 * i + 7) (8 * i)
          rwa [show 8 * i + 7 + 1 - 8 * i = 8 by omega] at hlt
        rw [if_pos hbit, lineByte_lineMerge_same _ hi, Nat.mod_eq_of_lt hbyte, if_pos ⟨by omega, hbit⟩]
        rfl
      · rw [if_neg hbit, ih (by omega), if_neg fun h => hbit h.2, if_neg fun h => hbit h.2]
    · have hstays : lineByte (if bitN b.mask n then lineMerge (b.onto old n) n 1 (bits b.data.toNat (8 * n + 7) (8 * n)) else b.onto old n) i =
          lineByte (b.onto old n) i := by
        split
        · exact lineByte_lineMerge_other _ hi (Ne.symm hin) _
        · rfl
      have hbelow : i < n + 1 ↔ i < n := by omega
      rw [hstays, ih (by omega)]
      simp only [hbelow]

-- a line's commit

/-- What a commit of a line leaves alone: time, memory, registers, the closed epochs and what waits at the heads of the reorder buffers. -/
structure CommitKeeps (s t : State) : Prop where
  now : t.now = s.now
  mem : t.mem = s.mem
  regs : t.regs = s.regs
  kept : ∀ k, (t.hart k).closed = (s.hart k).closed ∧ (t.hart k).head = (s.hart k).head

theorem CommitKeeps.ofHarts {s t : State} (h : HartsOnly s t) : CommitKeeps s t := ⟨h.now, h.mem, h.regs, h.kept⟩

theorem CommitKeeps.ofCaches {s t : State} (h : CachesOnly s t) : CommitKeeps s t :=
  ⟨h.now, h.mem, h.regs, fun k => by rw [h.hart k]; exact ⟨rfl, rfl⟩⟩

theorem CommitKeeps.trans {s t u : State} (h : CommitKeeps s t) (h' : CommitKeeps t u) : CommitKeeps s u :=
  ⟨h'.now.trans h.now, h'.mem.trans h.mem, h'.regs.trans h.regs, fun k => ⟨(h'.kept k).1.trans (h.kept k).1, (h'.kept k).2.trans (h.kept k).2⟩⟩

section
variable (s : State) (c h k l : Nat) (b : BufLine)

/-- The copies that other cores of the cluster, and every L1I, hold of a line that core k writes are dropped (R138, R186). -/
def State.soleCopy : State :=
  (List.range 4).foldl (fun s i =>
    let o := s.core (4 * c + i)
    s.setCore (4 * c + i) { o with l1d := if 4 * c + i = k then o.l1d else Tab.del l o.l1d, l1i := o.l1i.filter (· != l) }) s

theorem State.soleCopy_caches : CachesOnly s (s.soleCopy c k l) := .fold (fun t _ => .setCore t _ _) _ s

theorem State.l1d_soleCopy : ((s.soleCopy c k l).core k).l1d = (s.core k).l1d := by
  unfold State.soleCopy
  refine List.foldlRecOn (motive := fun t : State => (t.core k).l1d = (s.core k).l1d) _ _ rfl fun t ht i _ => ?_
  dsimp only
  by_cases hk : 4 * c + i = k
  · rw [hk, State.core_setCore, if_pos rfl]
    exact ht
  · rw [State.core_setCore_ne _ _ hk]
    exact ht

theorem State.clusters_soleCopy : (s.soleCopy c k l).clusters = s.clusters :=
  List.foldlRecOn (motive := fun t : State => t.clusters = s.clusters) _ _ rfl fun _ ht _ _ => ht

/-- The line that a commit of `b` finds. -/
def State.lineBefore : Line :=
  match Tab.at? (s.core k).l1d l with
  | some w => w.data
  | none => ((Tab.at? (s.cluster c).l2 l).map (fun w => w.data)).getD 0

/-- The commit of the stores of an epoch to one line, by hart h on core k of cluster c. -/
def State.commitLine : State :=
  let new := b.onto (s.lineBefore c k l) 64
  let s1 := s.setCore k { s.core k with l1d := Tab.ins l ⟨new, true⟩ (s.core k).l1d }
  let s2 := ((s1.soleCopy c k l).refetch ((s1.fetchers c l).filter (· != k))).freshShadow c h l new
  match Tab.at? (s.cluster c).l2 l with
  | some w => s2.setCluster c { s.cluster c with l2 := Tab.ins l { w with st := .m } (s.cluster c).l2 }
  | none => s2

theorem State.commitLine_owned {w : L2Line} (hw : Tab.at? (s.cluster c).l2 l = some w) (hsnoops : (s.cluster c).snoops = []) :
    CommitKeeps s (s.commitLine c h k l b) ∧ Tab.at? ((s.commitLine c h k l b).core k).l1d l = some ⟨b.onto (s.lineBefore c k l) 64, true⟩ ∧
      Tab.at? ((s.commitLine c h k l b).cluster c).l2 l = some { w with st := .m } ∧ ((s.commitLine c h k l b).cluster c).snoops = [] := by
  unfold State.commitLine
  extract_lets new o s1 s2
  rw [hw]
  dsimp only
  have h1 : CachesOnly s (s1.soleCopy c k l) := (CachesOnly.setCore s k _).trans (s1.soleCopy_caches c k l)
  have h2 : HartsOnly (s1.soleCopy c k l) s2 := (State.refetch_only _ _).trans (State.freshShadow_only _ _ _ _ _)
  have hl1d : (s2.core k).l1d = Tab.ins l ⟨new, true⟩ (s.core k).l1d := by
    have hcore : s2.core k = (s1.soleCopy c k l).core k := by
      unfold State.core
      rw [h2.cores]
    rw [hcore, State.l1d_soleCopy]
    simp only [s1, State.core_setCore]
  have hkeeps : CommitKeeps s s2 := (CommitKeeps.ofCaches h1).trans (.ofHarts h2)
  clear_value s2
  refine ⟨hkeeps.trans ⟨rfl, rfl, rfl, fun _ => ⟨rfl, rfl⟩⟩, ?_, ?_, ?_⟩
  · change Tab.at? (s2.core k).l1d l = _
    rw [hl1d]
    exact Tab.at?_ins_self _ _ _
  · rw [State.cluster_setCluster]
    exact Tab.at?_ins_self _ _ _
  · rw [State.cluster_setCluster]
    exact hsnoops

end

end Sys2Proof.Machine

/-! The oldest closed epoch clears and commits (R126). -/

namespace Sys2Proof.Machine
open Safety

section
variable {s : State} {h n : Nat} {e : Epoch} {rest : List Epoch} {l : Nat} {b : BufLine}

/-- A state with a commit of hart h on core k counted, and `rest` the closed epochs left. -/
def State.countCommit (s : State) (h k : Nat) (rest : List Epoch) : State :=
  let s1 := s.setFld (corePg k) R.CORE_EPOCH_COMMITS (s.fld (corePg k) R.CORE_EPOCH_COMMITS + 1)
  s1.setHart h { s1.hart h with closed := rest }

/-- The counters and the wait of a hart whose oldest epoch has committed. -/
def State.committed (s : State) (h cause : Nat) : State :=
  let s1 := s.hpm h 0x20 (2 ^ cause) false
  if (s1.hart h).closed.isEmpty && (s1.hart h).cbos == 0 then s1.setHart h { s1.hart h with fenceWait := false } else s1

theorem State.committed_only (s : State) (h cause : Nat) : HartsOnly s (s.committed h cause) := by
  unfold State.committed
  extract_lets s1
  have h1 : HartsOnly s s1 := .hpm s h _ _ _
  split
  · exact h1.trans (.setHart s1 rfl rfl)
  · exact h1

variable (hclosed : (s.hart h).closed = e :: rest) (hinject : e.inject = 0) (hcbos : e.cbos = []) (hstores : e.stores = [(l, b)])
  (hmask : b.mask ≠ 0)
include hclosed hinject hcbos hstores hmask

/-- The commit of an epoch of one line's stores, that no checker and no cache-block operation holds up. -/
theorem State.commitOldest_line : s.commitOldest h n = ((((s.toMclk (s.ccycAt (s.coreOf h) e.closedAt n)).commitLine
    (s.coreOf h / 4) h (s.coreOf h) l b).countCommit h (s.coreOf h) rest).committed h e.cause).retrySnoops (s.coreOf h / 4) := by
  have hcalm : ¬(e.inject = 1 ∨ e.inject = 3 ∨ e.inject = 4) := by omega
  have hcalm2 : ¬e.inject = 2 := by omega
  unfold State.commitOldest
  dsimp only
  rw [hclosed]
  dsimp only
  rw [if_neg hcalm, if_neg hcalm2, hcbos, hstores]
  simp only [List.foldl_cons, List.foldl_nil, if_neg hmask, List.length_nil, Nat.add_zero]
  rfl

end

theorem State.lineBefore_owned (s : State) {c k l : Nat} {w : L2Line} (hw : Tab.at? (s.cluster c).l2 l = some w) :
    s.lineBefore c k l = ((Tab.at? (s.core k).l1d l).map (fun x : L1Line => x.data)).getD w.data := by
  unfold State.lineBefore
  rw [hw]
  cases Tab.at? (s.core k).l1d l <;> rfl

section
variable (s : State) (h k : Nat) (rest : List Epoch)

theorem State.countCommit_frame : { s.countCommit h k rest with harts := s.harts, regs := s.regs } = s := by
  have hreg := State.setFld_regs_frame s (corePg k) R.CORE_EPOCH_COMMITS (s.fld (corePg k) R.CORE_EPOCH_COMMITS + 1)
  unfold State.countCommit
  generalize s.setFld (corePg k) R.CORE_EPOCH_COMMITS _ = t at hreg ⊢
  calc ({ t.setHart h { t.hart h with closed := rest } with harts := s.harts, regs := s.regs } : State)
      = { ({ t with regs := s.regs } : State) with harts := s.harts } := rfl
    _ = s := by rw [hreg]

theorem State.countCommit_hart : ((s.countCommit h k rest).hart h).closed = rest ∧ ((s.countCommit h k rest).hart h).head = (s.hart h).head := by
  unfold State.countCommit
  rw [State.hart_setHart]
  simp

theorem State.countCommit_fld :
    (s.countCommit h k rest).fld (corePg k) R.CORE_EPOCH_COMMITS = (s.fld (corePg k) R.CORE_EPOCH_COMMITS + 1) % 2 ^ 48 := by
  have hstays (t : State) (v : HartState) : (t.setHart h v).fld (corePg k) R.CORE_EPOCH_COMMITS = t.fld (corePg k) R.CORE_EPOCH_COMMITS := rfl
  unfold State.countCommit
  dsimp only
  rw [hstays, State.fld_setFld _ _ _ _ (by decide) (by decide)]
  rfl

variable {s h k rest}

/-- R126: once a commit is counted, what the stores left in the caches stays. -/
theorem State.committed_countCommit {c : Nat} (cause : Nat) (hsnoops : (s.cluster c).snoops = []) :
    let t := ((s.countCommit h k rest).committed h cause).retrySnoops c
    (t.hart h).closed = rest ∧ (t.hart h).head = (s.hart h).head ∧ t.now = s.now ∧ t.mem = s.mem ∧ t.cores = s.cores ∧
      (t.cluster c).l2 = (s.cluster c).l2 ∧ t.fld (corePg k) R.CORE_EPOCH_COMMITS = (s.fld (corePg k) R.CORE_EPOCH_COMMITS + 1) % 2 ^ 48 := by
  have hframe := s.countCommit_frame h k rest
  have hhart := s.countCommit_hart h k rest
  have hfld := s.countCommit_fld h k rest
  have honly := (s.countCommit h k rest).committed_only h cause
  generalize s.countCommit h k rest = s3 at hframe hhart hfld honly ⊢
  generalize s3.committed h cause = s4 at honly ⊢
  have hclusters : s3.clusters = s.clusters := (congrArg State.clusters hframe :)
  have hcluster : s4.cluster c = s.cluster c := by
    rw [honly.cluster c]
    unfold State.cluster
    rw [hclusters]
  have hregs (v : Cluster) : (s4.setCluster c v).fld (corePg k) R.CORE_EPOCH_COMMITS = s3.fld (corePg k) R.CORE_EPOCH_COMMITS := by
    change s4.fld _ _ = _
    unfold State.fld State.reg
    rw [honly.regs]
  rw [State.retrySnoops_none _ (by rw [hcluster, hsnoops])]
  refine ⟨(honly.kept h).1.trans hhart.1, (honly.kept h).2.trans hhart.2, honly.now.trans (congrArg State.now hframe :),
    honly.mem.trans (congrArg State.mem hframe :), honly.cores.trans (congrArg State.cores hframe :), ?_, (hregs _).trans hfld⟩
  rw [State.cluster_setCluster, hcluster]

end

section
variable {s : State} {h : HartId} {check : Fin 7} {e : Epoch} {rest : List Epoch} {l : Nat} {b : BufLine} {w : L2Line}

theorem exec_epochCheckClear (hclosed : (s.hart h.val).closed = e :: rest) (hhead : ((s.commitOldest h.val (18 + check.val)).hart h.val).head = none) :
    exec (.epochCheckClear h check) s = .next (s.commitOldest h.val (18 + check.val)) := by
  change execEpochCheckClear h check s = _
  unfold execEpochCheckClear
  rw [if_neg (by rw [hclosed]; exact Bool.false_ne_true)]
  dsimp only
  rw [hhead]

/-- R126: what a cleared epoch's stores to one line do. -/
theorem gives_epochCheckClear (hclosed : (s.hart h.val).closed = e :: rest) (hinject : e.inject = 0) (hcbos : e.cbos = []) (hstores : e.stores = [(l, b)])
    (hmask : b.mask ≠ 0) (hw : Tab.at? (s.cluster (s.coreOf h.val / 4)).l2 l = some w) (hsnoops : (s.cluster (s.coreOf h.val / 4)).snoops = [])
    (hhead : (s.hart h.val).head = none) : Gives (.epochCheckClear h check) s fun t =>
      (t.hart h.val).closed = rest ∧ t.now = max s.now (s.ccycAt (s.coreOf h.val) e.closedAt (18 + check.val)) ∧
      t.fld (corePg (s.coreOf h.val)) R.CORE_EPOCH_COMMITS = (s.fld (corePg (s.coreOf h.val)) R.CORE_EPOCH_COMMITS + 1) % 2 ^ 48 ∧
      (∃ d, Tab.at? (t.core (s.coreOf h.val)).l1d l = some ⟨d, true⟩ ∧ ∀ i < 64, bits d.toNat (8 * i + 7) (8 * i) =
        (if bitN b.mask i then bits b.data.toNat (8 * i + 7) (8 * i)
         else bits (((Tab.at? (s.core (s.coreOf h.val)).l1d l).map (fun x : L1Line => x.data)).getD w.data).toNat (8 * i + 7) (8 * i))) ∧
      Tab.at? (t.cluster (s.coreOf h.val / 4)).l2 l = some { w with st := .m } ∧ t.mem = s.mem := by
  have hcommit := State.commitOldest_line (n := 18 + check.val) hclosed hinject hcbos hstores hmask
  generalize hk : s.coreOf h.val = k at hw hsnoops hcommit ⊢
  have hnow : (s.toMclk (s.ccycAt k e.closedAt (18 + check.val))).now = max s.now (s.ccycAt k e.closedAt (18 + check.val)) := rfl
  have hfields : (s.toMclk (s.ccycAt k e.closedAt (18 + check.val))).mem = s.mem ∧ (s.toMclk (s.ccycAt k e.closedAt (18 + check.val))).core k = s.core k ∧
      (s.toMclk (s.ccycAt k e.closedAt (18 + check.val))).hart h.val = s.hart h.val ∧
      (s.toMclk (s.ccycAt k e.closedAt (18 + check.val))).cluster (k / 4) = s.cluster (k / 4) ∧
      (s.toMclk (s.ccycAt k e.closedAt (18 + check.val))).regs = s.regs := ⟨rfl, rfl, rfl, rfl, rfl⟩
  generalize s.toMclk (s.ccycAt k e.closedAt (18 + check.val)) = u at hcommit hnow hfields
  obtain ⟨hmem, hcore, hhart, hcluster, hregs⟩ := hfields
  obtain ⟨hkeeps, hl1d, hl2, hheld⟩ := u.commitLine_owned (k / 4) h.val k l b (by rw [hcluster]; exact hw) (by rw [hcluster]; exact hsnoops)
  rw [State.lineBefore_owned u (by rw [hcluster]; exact hw), hcore] at hl1d
  generalize u.commitLine (k / 4) h.val k l b = s1 at hcommit hkeeps hl1d hl2 hheld
  obtain ⟨hclosedT, hheadT, hnowT, hmemT, hcoresT, hl2T, hfldT⟩ := State.committed_countCommit (h := h.val) (k := k) (rest := rest) e.cause hheld
  rw [← hcommit] at hclosedT hheadT hnowT hmemT hcoresT hl2T hfldT
  have hheadNone := hheadT.trans ((hkeeps.kept h.val).2.trans ((congrArg (·.head) hhart).trans hhead))
  refine ⟨_, exec_epochCheckClear hclosed hheadNone, hclosedT, hnowT.trans (hkeeps.now.trans hnow), ?_,
    ⟨b.onto (((Tab.at? (s.core k).l1d l).map (fun x : L1Line => x.data)).getD w.data) 64, ?_, fun i hi => ?_⟩, ?_,
    hmemT.trans (hkeeps.mem.trans hmem)⟩
  · have hfld : s1.fld (corePg k) R.CORE_EPOCH_COMMITS = s.fld (corePg k) R.CORE_EPOCH_COMMITS := by
      unfold State.fld State.reg
      rw [hkeeps.regs, hregs]
    rw [hfldT, hfld]
  · have hcoreT : (s.commitOldest h.val (18 + check.val)).core k = s1.core k := by
      unfold State.core
      rw [hcoresT]
    rw [hcoreT]
    exact hl1d
  · have hbyte := b.lineByte_onto (((Tab.at? (s.core k).l1d l).map (fun x : L1Line => x.data)).getD w.data) hi 64 le_rfl
    simp only [hi, true_and] at hbyte
    exact hbyte
  · rw [hl2T]
    exact hl2

end

end Sys2Proof.Machine

/-! A descriptor that is offered to a task queue (R114, R317, R325) writes neither harts nor memory. -/

namespace Sys2Proof.Machine
open Safety

theorem pageBase_mod8 (n b : Nat) : pageBase n b % 8 = 0 := by
  unfold pageBase
  simp only [Nat.shiftLeft_eq]
  omega

/-- From `s` to `t` harts and memory stand as they were. -/
structure HartsMemKept (s t : State) : Prop where
  harts : t.harts = s.harts
  mem : t.mem = s.mem

namespace HartsMemKept

variable {s t u : State}

theorem refl (s : State) : HartsMemKept s s := ⟨rfl, rfl⟩

theorem trans (h : HartsMemKept s t) (h' : HartsMemKept t u) : HartsMemKept s u := ⟨h'.harts.trans h.harts, h'.mem.trans h.mem⟩

theorem hart (h : HartsMemKept s t) (k : Nat) : t.hart k = s.hart k := by
  unfold State.hart
  rw [h.harts]

theorem setQueue (s : State) (c : Nat) (q : Queue) : HartsMemKept s (s.setQueue c q) := ⟨rfl, rfl⟩

theorem setEngine (s : State) (c : Nat) (g : Engine) : HartsMemKept s (s.setEngine c g) := ⟨rfl, rfl⟩

theorem setFld (s : State) (pg : Nat) (f : Field) (v : Nat) : HartsMemKept s (s.setFld pg f v) := ⟨by simp, by simp⟩

theorem sendAt (s : State) (t : Nat) (f : Flit) : HartsMemKept s (s.sendAt t f) := ⟨rfl, rfl⟩

theorem ofNotes {pg : Nat} (h : NotesOnly pg s t) : HartsMemKept s t := ⟨(congrArg State.harts h.rest :), h.mem⟩

theorem record (s : State) (c sev code addr detail : Nat) (secure : Bool) : HartsMemKept s (s.record (queuePg c) sev code addr detail secure) :=
  ofNotes (.ofRecord s _ _ _ _ _ (pageBase_mod8 ..))

theorem count (s : State) (c ev : Nat) (cls : Option Nat) (um : Nat) : HartsMemKept s (s.count (enginePg c) ev cls um) :=
  ofNotes (.ofCounts (.count (pageBase_mod8 ..) ..))

theorem watch (s : State) (pg : Nat) : HartsMemKept s (s.watch pg) := by
  unfold State.watch State.blind
  split
  · exact ⟨by simp, by simp⟩
  · exact refl s

theorem faultSource (s : State) (ctx : Option Line) (t : Nat) (k : Cls) (stop port : Nat) : HartsMemKept s (s.faultSource ctx t k stop port) := by
  unfold State.faultSource
  dsimp only
  split
  · exact .sendAt ..
  · exact refl s

theorem queueSend (s : State) (m c : Nat) (op : Fin 32) (k : Cls) (tag pa : Nat) (t : Tenant) (key : KeyIx) (data : Line) :
    HartsMemKept s (s.queueSend m c op k tag pa t key data) := .sendAt ..

theorem dropCompl (s : State) (c tag : Nat) : HartsMemKept s (s.dropCompl c tag) := .setQueue ..

theorem putCompl (s : State) (c : Nat) (x : Compl) : HartsMemKept s (s.putCompl c x) := .setQueue ..

end HartsMemKept

section
variable (s : State) (c : Nat) (x : Compl) (m : Nat)

theorem State.complFails_kept (va : Nat) : HartsMemKept s (s.complFails c x va) := (HartsMemKept.record ..).trans (.faultSource ..)

theorem State.complReach_kept {va : Nat} {write : Bool} {t : State} (hwaits : s.complReach c x va write m = .waits t) : HartsMemKept s t := by
  unfold State.complReach at hwaits
  split at hwaits
  · cases hwaits
  · split at hwaits
    · cases hwaits
      exact (HartsMemKept.putCompl ..).trans (.sendAt ..)
    · dsimp only at hwaits
      split at hwaits
      · split at hwaits <;> cases hwaits
      · cases hwaits
      · cases hwaits
        exact (HartsMemKept.putCompl ..).trans (.sendAt ..)

theorem State.startJoin_kept : HartsMemKept s (s.startJoin c x m) := by
  unfold State.startJoin
  split
  · exact .dropCompl ..
  · split
    · rename_i hwaits
      exact s.complReach_kept c _ m hwaits
    · exact (HartsMemKept.dropCompl ..).trans (State.complFails_kept ..)
    · exact (HartsMemKept.putCompl ..).trans (.queueSend ..)

theorem State.freeEngine_kept : HartsMemKept s (s.freeEngine c) := (HartsMemKept.setEngine ..).trans (.setQueue ..)

theorem State.completed_kept : HartsMemKept s (s.completed c x m) := by
  unfold State.completed
  split
  · exact (s.freeEngine_kept c).trans (State.startJoin_kept ..)
  · exact s.startJoin_kept c x m

theorem State.recordGo_kept : HartsMemKept s (s.recordGo c x m) := by
  unfold State.recordGo
  split
  · exact s.completed_kept c x m
  · split
    · rename_i hwaits
      exact s.complReach_kept c _ m hwaits
    · exact (State.complFails_kept ..).trans (State.completed_kept ..)
    · exact (HartsMemKept.putCompl ..).trans (.queueSend ..)

end

section
variable (s : State) (c : Nat) (d : Line) (m : Nat)

theorem State.surrender_kept (frees : Bool) : HartsMemKept s (s.surrender c d frees) := by
  unfold State.surrender
  split
  · exact .sendAt ..
  · unfold State.writeRecord
    exact ((HartsMemKept.setQueue ..).trans (State.recordGo_kept ..)).trans (.record ..)

theorem State.pushTop_kept : HartsMemKept s (s.pushTop c d m) := by
  unfold State.pushTop State.pushed
  exact (HartsMemKept.setQueue s c _).trans (.watch _ _)

theorem State.disableRing_kept (k : Nat) : HartsMemKept s (s.disableRing c k) := (HartsMemKept.setFld s _ _ _).trans (.record ..)

theorem State.offer_kept : HartsMemKept s (s.offer c d m).1 := by
  unfold State.offer
  extract_lets d1 k n q s1 s2
  split
  · dsimp only
    exact s.pushTop_kept c d1 m
  · clear_value k
    split
    · split
      · dsimp only
        exact s.disableRing_kept c k
      · have h2 : HartsMemKept s s2 := (HartsMemKept.setQueue s c _).trans (.queueSend ..)
        clear_value s2 n
        dsimp only
        exact (h2.trans (.setFld s2 _ _ _)).trans (.count ..)
    · exact .refl s

/-- R114, R317: whatever becomes of a submission, harts and memory stay. -/
theorem State.submit_kept (t : Tenant) (k : Cls) : HartsMemKept s (s.submit c d t k m).1 := by
  unfold State.submit
  extract_lets en
  have h1 : HartsMemKept s en.1 := .setQueue ..
  split
  · exact h1
  · split
    · exact h1.trans (State.surrender_kept ..)
    · exact h1.trans (State.offer_kept ..)

end

end Sys2Proof.Machine

/-! TASK.SUBMIT (R110, R114, R115): its word, its refusals, and its offer to the cluster's task queue. -/

namespace Sys2Proof.Machine
open Safety

-- the word (R110)

section
variable (rd rs1 : Reg)

theorem toNat_submitWord : (submitWord rd rs1).toNat = rs1.val * 2 ^ 15 + rd.val * 2 ^ 7 + 0x2B := by
  unfold submitWord
  rw [BitVec.toNat_ofNat, Nat.shiftLeft_eq, Nat.shiftLeft_eq]
  exact Nat.mod_eq_of_lt (by omega)

theorem submitRd_submitWord : submitRd (submitWord rd rs1) = rd := by
  have hbits : bits (submitWord rd rs1).toNat 11 7 = rd.val := by
    rw [toNat_submitWord]
    unfold bits
    rw [Nat.shiftRight_eq_div_pow]
    omega
  unfold submitRd
  rw [hbits]
  exact Fin.ofNat_val_eq_self rd

theorem submitRs1_submitWord : submitRs1 (submitWord rd rs1) = rs1 := by
  have hbits : bits (submitWord rd rs1).toNat 19 15 = rs1.val := by
    rw [toNat_submitWord]
    unfold bits
    rw [Nat.shiftRight_eq_div_pow]
    omega
  unfold submitRs1
  rw [hbits]
  exact Fin.ofNat_val_eq_self rs1

theorem vendorOf_submitWord : vendorOf (submitWord rd rs1) = some (.taskSubmit rd rs1) := by
  have hne {n : Nat} (hn : n % 128 ≠ 0x2B) (hlt : n < 2 ^ 32) : submitWord rd rs1 ≠ BitVec.ofNat 32 n := by
    intro heq
    have hnat := congrArg BitVec.toNat heq
    rw [toNat_submitWord, BitVec.toNat_ofNat, Nat.mod_eq_of_lt hlt] at hnat
    omega
  have hflush : submitWord rd rs1 ≠ 0x0000000B := hne (n := 0x0B) (by decide) (by decide)
  have hbar : submitWord rd rs1 ≠ 0x0000100B := hne (n := 0x100B) (by decide) (by decide)
  unfold vendorOf
  rw [submitRd_submitWord, submitRs1_submitWord, if_neg hflush, if_neg hbar, if_pos rfl]

end

-- the lane (R319)

section
variable {s t : State} {c k : Nat}

theorem CachesOnly.nextTask (h : CachesOnly s t) : t.nextTask c = s.nextTask c := by
  have hframe (u : State) (x : Tab CoreState) (y : Tab Cluster) (z : List OutMsg) :
      ({ u with cores := x, clusters := y, out := z } : State).nextTask c = u.nextTask c := rfl
  rw [← hframe t s.cores s.clusters s.out, h.rest]

theorem State.nextTask_setHart (s : State) (h : Nat) (v : HartState) : (s.setHart h v).nextTask c = s.nextTask c := rfl

theorem CachesOnly.laneQuiet (h : CachesOnly s t) (hquiet : LaneQuiet s c k) : LaneQuiet t c k := by
  obtain ⟨hmesh, hnext⟩ := hquiet
  refine ⟨by rw [h.mesh, hmesh], fun m hm => ?_⟩
  rw [h.nextTask] at hm
  rw [h.now]
  exact hnext m hm

theorem laneQuiet_setHart (hquiet : LaneQuiet s c k) (h : Nat) (v : HartState) : LaneQuiet (s.setHart h v) c k := by
  obtain ⟨hmesh, hnext⟩ := hquiet
  exact ⟨hmesh, fun m hm => hnext m ((State.nextTask_setHart s h v).symm.trans hm)⟩

theorem State.laneOwner_quiet (hquiet : LaneQuiet s c k) : s.laneOwner c k = s := by
  obtain ⟨hmesh, hnext⟩ := hquiet
  have hnone : s.laneIngress c k none = [] := by
    unfold State.laneIngress
    rw [hmesh]
    rfl
  unfold State.laneOwner
  rw [hnone]
  dsimp only [List.filter_nil, List.foldl_nil]
  split
  · rename_i j m hm
    refine if_neg fun hnow => ?_
    obtain ⟨rfl, hle⟩ := hnow
    have := hnext m hm
    omega
  · rfl

end

-- the instruction

/-- Whether a hart may submit tasks (R114). -/
def MaySubmit (a : Arch) : Prop := a.priv = 3 ∨ (a.virt = false ∧ bitN (a.getCsr CSR_XNRCTL) (if a.priv = 1 then 24 else 25) = true)

/-- What is left of TASK.SUBMIT once the queue has answered `r` (R115, R131). -/
def State.submitEnds (r : State × Nat × Nat) (h k : Nat) (rd : Reg) : State :=
  ((((r.1.openEpoch h true).withArch h (fun a => a.putX rd (w64 r.2.1))).toMclk ((r.1.openEpoch h true).ccycAt k (r.2.2 + 6) 5)).retire h).closeEpoch h 4

theorem State.submitEnds_retires {s : State} {r : State × Nat × Nat} {h : Nat} (k : Nat) (rd : Reg) (ha : (r.1.hart h).a = (s.hart h).a)
    (hmem : r.1.mem = s.mem) (hothers : ∀ j, j ≠ h → r.1.hart j = s.hart j) :
    Retires s (State.submitEnds r h k rd) h rd (w64 r.2.1) ∧ (∀ c, (State.submitEnds r h k rd).queue c = r.1.queue c) ∧
      ((State.submitEnds r h k rd).hart h).epoch = none := by
  obtain ⟨hopenA, -⟩ := r.1.openEpoch_same h true
  have hopen := r.1.openEpoch_only h true
  unfold State.submitEnds
  generalize (r.1.openEpoch h true).ccycAt k (r.2.2 + 6) 5 = n
  generalize r.1.openEpoch h true = s2 at hopenA hopen ⊢
  have hset := hopen.trans (HartOnly.withArch s2 h (fun a => a.putX rd (w64 r.2.1)))
  have harch : ((s2.withArch h (fun a => a.putX rd (w64 r.2.1))).hart h).a = (s.hart h).a.putX rd (w64 r.2.1) := by
    rw [State.hart_withArch, hopenA, ha]
  generalize s2.withArch h (fun a => a.putX rd (w64 r.2.1)) = s3 at hset harch ⊢
  obtain ⟨hpc, hx, -, hepoch, hend⟩ := (s3.toMclk n).retireClose h 4
  have hlater : (s3.toMclk n).hart h = s3.hart h ∧ (s3.toMclk n).mem = s3.mem ∧ (s3.toMclk n).queues = s3.queues ∧
      ∀ j, (s3.toMclk n).hart j = s3.hart j := ⟨rfl, rfl, rfl, fun _ => rfl⟩
  generalize s3.toMclk n = s4 at hpc hx hepoch hend hlater ⊢
  obtain ⟨hhart4, hmem4, hqueues4, hharts4⟩ := hlater
  rw [hhart4, harch] at hpc hx
  refine ⟨retires_putX (hpc.trans (by rw [Arch.putX_pc])) hx (hend.mem.trans (hmem4.trans (hset.mem.trans hmem))) fun j hj => ?_, fun c => ?_, hepoch⟩
  · exact (hend.others j hj).trans ((hharts4 j).trans ((hset.others j hj).trans (hothers j hj)))
  · unfold State.queue
    rw [hend.queues, hqueues4, hset.queues]

/-- R131: an operation at the head whose line is at hand is performed. -/
theorem State.withLine_ready {s s1 : State} {h l va : Nat} {i : Instr} {f : State → State} (hok : s.tenantOk (s.hart h).a.tenant.val = true)
    (hready : s.bring h l false = .ready s1) (hpoison : s1.linePoison h l false = false) : s.withLine h l false false va i f = f s1 := by
  have hfound : ¬((false || (!false && (Found.ready s1 == Found.miss))) = true) := by
    rw [show (Found.ready s1 == Found.miss) = false from rfl]
    decide
  unfold State.withLine
  dsimp only
  rw [hok, hready, if_neg (by simp), if_neg hfound]
  dsimp only
  rw [hpoison, if_neg Bool.false_ne_true]

section
variable {s : State} {h : Nat} {i : Instr} {insn : Nat} {rd rs1 : Reg}

theorem State.doTaskSubmit_illegal (hvirt : (s.hart h).a.virt = false) (hno : ¬MaySubmit (s.hart h).a) :
    s.doTaskSubmit h i insn rd rs1 = s.trapOn h (illegal insn) i 0 := by
  unfold MaySubmit at hno
  unfold State.doTaskSubmit
  dsimp only
  rw [if_pos (by simpa [hvirt] using hno), if_neg (by simp [hvirt])]

theorem MaySubmit.allowed {a : Arch} (hmay : MaySubmit a) :
    ¬((!(a.priv == 3 || bitN (a.getCsr CSR_XNRCTL) (if a.virt = true then (if a.priv = 1 then 26 else 27) else if a.priv = 1 then 24 else 25))) = true) := by
  obtain hpriv | ⟨hvirt, hbit⟩ := hmay
  · simp [hpriv]
  · simp [hvirt, hbit]

variable (hmay : MaySubmit (s.hart h).a)
include hmay

theorem State.doTaskSubmit_misaligned (hal : ((s.hart h).a.getX rs1).toNat % 64 ≠ 0) :
    s.doTaskSubmit h i insn rd rs1 = s.trapOn h ⟨4, ((s.hart h).a.getX rs1).toNat, 0⟩ i 0 := by
  unfold State.doTaskSubmit
  dsimp only
  rw [if_neg hmay.allowed, if_pos hal]

theorem State.doTaskSubmit_submits {pa : Nat} {s1 : State} (hal : ((s.hart h).a.getX rs1).toNat % 64 = 0)
    (hplace : s.translate h ((s.hart h).a.getX rs1).toNat false false false = .place pa 0) (hok : (headOf s h).tenantOk ((headOf s h).hart h).a.tenant.val = true)
    (hepoch : (s.hart h).epoch = none) (hclosed : (s.hart h).closed = [])
    (hready : (headOf s h).bring h (pa / 64) false = .ready s1) (hpoison : s1.linePoison h (pa / 64) false = false) :
    s.doTaskSubmit h i insn rd rs1 = State.submitEnds ((s1.laneOwner (s1.coreOf h / 4) (s.hart h).a.cls.val).submit (s1.coreOf h / 4)
      (BitVec.ofNat 512 (s1.hartValue h (lineBase pa) 64 false)) (s.hart h).a.tenant (s.hart h).a.cls (s1.now + 3)) h (s1.coreOf h) rd := by
  unfold State.doTaskSubmit
  dsimp only
  rw [if_neg hmay.allowed, if_neg (not_not.mpr hal), hplace]
  dsimp only
  rw [if_neg (by decide), State.atHead_clear hepoch hclosed]
  rw [show ((0 : Nat) == 1) = false from rfl, State.withLine_ready hok hready hpoison]
  rfl

end

end Sys2Proof.Machine

/-! What a hart's TASK.SUBMIT gives (R114), and the obligation on epochs, replies and I/O accesses. -/

namespace Sys2Proof.Machine
open Safety

section
variable {s : State} {h : HartId} {rd rs1 : Reg} (hclear : HartClear s h.val)
include hclear

theorem exec_taskSubmit : exec (.taskSubmit h (submitWord rd rs1)) s = .next ((issueOf s h.val).doTaskSubmit h.val (.taskSubmit h (submitWord rd rs1))
    (submitWord rd rs1).toNat rd rs1) := by
  have hissue := State.issueMem_goes hclear.1 (fun s => s.performHart (.taskSubmit h (submitWord rd rs1)) false)
  have hvendor (u : State) (i : Instr) : u.doVendor h.val i (submitWord rd rs1) = u.doTaskSubmit h.val i (submitWord rd rs1).toNat rd rs1 := by
    unfold State.doVendor
    rw [vendorOf_submitWord]
  exact (congrArg _ (hissue.trans (hvendor (issueOf s h.val) (.taskSubmit h (submitWord rd rs1)))) :)

theorem gives_submit_illegal (hvirt : (s.hart h.val).a.virt = false) (hno : ¬MaySubmit (s.hart h.val).a) :
    Gives (.taskSubmit h (submitWord rd rs1)) s fun t =>
      t = (issueOf s h.val).trapOn h.val (illegal (submitWord rd rs1).toNat) (.taskSubmit h (submitWord rd rs1)) 0 := by
  have ha : ((issueOf s h.val).hart h.val).a = (s.hart h.val).a := by rw [hart_issueOf]
  exact ⟨_, exec_taskSubmit hclear, State.doTaskSubmit_illegal (by rw [ha]; exact hvirt) (by rw [ha]; exact hno)⟩

variable (hmay : MaySubmit (s.hart h.val).a)
include hmay

theorem gives_submit_misaligned (hal : ((s.hart h.val).a.getX rs1).toNat % 64 ≠ 0) :
    Gives (.taskSubmit h (submitWord rd rs1)) s fun t =>
      t = (issueOf s h.val).trapOn h.val ⟨4, ((s.hart h.val).a.getX rs1).toNat, 0⟩ (.taskSubmit h (submitWord rd rs1)) 0 := by
  have ha : ((issueOf s h.val).hart h.val).a = (s.hart h.val).a := by rw [hart_issueOf]
  rw [← ha] at hmay hal ⊢
  exact ⟨_, exec_taskSubmit hclear, State.doTaskSubmit_misaligned hmay hal⟩

theorem exec_taskSubmit_submits {pa : Nat} {s1 : State} (hal : ((s.hart h.val).a.getX rs1).toNat % 64 = 0)
    (hplace : (issueOf s h.val).translate h.val ((s.hart h.val).a.getX rs1).toNat false false false = .place pa 0)
    (hok : s.tenantOk (s.hart h.val).a.tenant.val = true) (hready : (headOf (issueOf s h.val) h.val).bring h.val (pa / 64) false = .ready s1)
    (hpoison : s1.linePoison h.val (pa / 64) false = false) (hquiet : LaneQuiet s (s.coreOf h.val / 4) (s.hart h.val).a.cls.val) :
    exec (.taskSubmit h (submitWord rd rs1)) s = .next (State.submitEnds (s1.submit (s.coreOf h.val / 4)
      (BitVec.ofNat 512 (s1.hartValue h.val (lineBase pa) 64 false)) (s.hart h.val).a.tenant (s.hart h.val).a.cls (s1.now + 3)) h.val
      (s.coreOf h.val) rd) := by
  have hexec := exec_taskSubmit (rd := rd) (rs1 := rs1) hclear
  obtain ⟨-, hepoch, hclosed⟩ := hclear
  have ha : ((issueOf s h.val).hart h.val).a = (s.hart h.val).a := by rw [hart_issueOf]
  have hcaches := State.bring_caches _ _ hready
  have hcore : s1.coreOf h.val = s.coreOf h.val := hcaches.coreOf h.val
  have hlane : s1.laneOwner (s.coreOf h.val / 4) (s.hart h.val).a.cls.val = s1 :=
    State.laneOwner_quiet (hcaches.laneQuiet (laneQuiet_setHart (laneQuiet_setHart hquiet _ _) _ _))
  rw [hexec, State.doTaskSubmit_submits (by rw [ha]; exact hmay) (by rw [ha]; exact hal) (by rw [ha]; exact hplace)
    (by rw [hart_headOf, hart_issueOf]; exact hok) (by rw [hart_issueOf]; exact hepoch) (by rw [hart_issueOf]; exact hclosed) hready hpoison, ha, hcore,
    hlane]

/-- R114, R115: the descriptor is offered, and rd holds the result. -/
theorem gives_submit {pa : Nat} {s1 : State} (hal : ((s.hart h.val).a.getX rs1).toNat % 64 = 0)
    (hplace : (issueOf s h.val).translate h.val ((s.hart h.val).a.getX rs1).toNat false false false = .place pa 0)
    (hok : s.tenantOk (s.hart h.val).a.tenant.val = true) (hready : (headOf (issueOf s h.val) h.val).bring h.val (pa / 64) false = .ready s1)
    (hpoison : s1.linePoison h.val (pa / 64) false = false) (hquiet : LaneQuiet s (s.coreOf h.val / 4) (s.hart h.val).a.cls.val) :
    Gives (.taskSubmit h (submitWord rd rs1)) s fun t =>
      let r := s1.submit (s.coreOf h.val / 4) (BitVec.ofNat 512 (s1.hartValue h.val (lineBase pa) 64 false)) (s.hart h.val).a.tenant
        (s.hart h.val).a.cls (s1.now + 3)
      Retires s t h.val rd (w64 r.2.1) ∧ t.queue (s.coreOf h.val / 4) = r.1.queue (s.coreOf h.val / 4) ∧ (t.hart h.val).epoch = none := by
  refine ⟨_, exec_taskSubmit_submits hclear hmay hal hplace hok hready hpoison hquiet, ?_⟩
  have hcaches := State.bring_caches _ _ hready
  have hkept := s1.submit_kept (s.coreOf h.val / 4) (BitVec.ofNat 512 (s1.hartValue h.val (lineBase pa) 64 false)) (s1.now + 3)
    (s.hart h.val).a.tenant (s.hart h.val).a.cls
  generalize s1.submit _ _ _ _ _ = r at hkept ⊢
  have hhart (j : Nat) : r.1.hart j = (headOf (issueOf s h.val) h.val).hart j := (hkept.hart j).trans (hcaches.hart j)
  have ha : (r.1.hart h.val).a = (s.hart h.val).a := by rw [hhart, hart_headOf, hart_issueOf]
  obtain ⟨hretires, hqueue, hepoch⟩ := State.submitEnds_retires (s.coreOf h.val) rd ha (hkept.mem.trans hcaches.mem) fun j hj =>
    (hhart j).trans ((State.hart_setHart_ne _ _ (Ne.symm hj)).trans (State.hart_setHart_ne _ _ (Ne.symm hj)))
  exact ⟨hretires, hqueue _, hepoch⟩

end

/-- Settles O36: each clause is one command's equation, and the retirement, commit and snoop lemmas say what the state it leaves keeps. -/
theorem epochsRepliesAndIo : Obligations.EpochsRepliesAndIo := by
  unfold Obligations.EpochsRepliesAndIo
  refine ⟨fun s h e cause hopen hcause => ?_, fun s h e hopen => ?_, fun s h check e rest l b w => ?_, fun s f c hdst => ?_, fun s h r f t0 hresv => ?_,
    fun s h rd rs1 off size sx write pa hclear hsize => ?_, fun s h f w rd rs1 off size sx hio hinstr htag => ?_, fun s h rd rs1 pa k s1 hclear => ?_⟩
  · exact ⟨_, exec_epochClose hopen hcause, State.closeEpoch_records hopen cause.isLt⟩
  · refine ⟨_, exec_epochClose_cycles hopen, ?_⟩
    obtain ⟨hnone, -, hlast, hframe⟩ := State.closeEpoch_records (cause := 1) (h := h.val) (e := e)
      (s := s.toMclk (s.ccycAt (s.coreOf h.val) e.begun (2 ^ bits ((s.hart h.val).a.getCsr CSR_XNRCTL) 15 12))) hopen (by decide)
    exact ⟨(congrArg State.now hframe :), hnone, hlast⟩
  · exact fun hclosed hinject hcbos hstores hmask hw hsnoops hhead => gives_epochCheckClear hclosed hinject hcbos hstores hmask hw hsnoops hhead
  · exact ⟨gives_fill_prefetch hdst, gives_fill_cbo hdst, gives_fill_writeback hdst,
      fun h m htag hmisses hwaits hop hown herr => ⟨gives_fill_waits hdst htag hmisses hwaits hop hown herr,
        gives_fill_performs hdst htag hmisses hwaits hop hown herr⟩,
      fun h m htag hmisses hwaits hop => gives_fill_error hdst htag hmisses hwaits hop⟩
  · exact gives_lrSnoopDeferEnd hresv
  · exact fun hparts => ⟨fun hal hok hdir => gives_io_leaves hclear hparts hal hsize hok hdir, fun hal hno => gives_io_denied hclear hparts hal hno,
      fun hal => gives_io_refused hclear hparts hal⟩
  · exact ⟨gives_ioResponse_data hio hinstr htag, fun hop => ⟨_, exec_ioResponse_error hio hinstr htag hop, rfl⟩⟩
  · exact ⟨fun hmay hal hplace hk hok hready hpoison hquiet => gives_submit hclear hmay hal (hk ▸ hplace) hok hready hpoison hquiet,
      fun hvirt hno => gives_submit_illegal hclear hvirt hno, fun hmay hal => gives_submit_misaligned hclear hmay hal⟩

end Sys2Proof.Machine

/-! The tenant class table (R72 to R77): what a request of the firmware's mailboxes writes and replies, and the apply edge. -/

namespace Sys2Proof.Machine
open Safety

-- what a reply leaves alone

/-- An address outside the mailboxes' pages (R37, R85). -/
def OffMailboxes (a : Nat) : Prop := a < 0x40640000 ∨ 0x40660000 ≤ a

theorem offMailboxes_tct (i : Nat) {off : Nat} : OffMailboxes (tctPg i + off) := by
  refine .inr ?_
  unfold tctPg
  rw [pageBase_eq]
  have hstop : wardStop = 6 := rfl
  rw [hstop]
  omega

section
variable {s : State} {b result fixed : Nat} {out : List Word}

/-- A reply writes no register outside the mailboxes' pages. -/
theorem State.reg_mbxFinish_off {a : Nat} (hb : b < 32) (hlen : out.length < 2 ^ 8) (ha : OffMailboxes a) :
    (s.mbxFinish b result fixed out).reg a = s.reg a := by
  have hbase := mbxPg_eq b
  unfold OffMailboxes at ha
  by_cases hheld : 8 ≤ b ∧ b ≤ 23
  · rw [State.mbxFinish_held hheld.1 hheld.2, reg_setMbxState]
  · rw [State.mbxFinish_now (by omega), State.reg_mbxPublish, State.reg_mbxReply_out _ _ _ (by omega) (by omega), reg_setMbxState]

theorem State.mbxFinish_tct : (s.mbxFinish b result fixed out).tct = s.tct := by
  obtain ⟨hframe, -⟩ := State.mbxFinish_frame (s := s) (b := b) (result := result) (fixed := fixed) (out := out)
  exact (congrArg State.tct hframe :)

/-- A request of a mailbox whose reply does not wait, served in a state that keeps its command. -/
theorem State.mbxFinish_publishes {u : State} (hreg : u.reg (mbxPg b + 0x200) = s.reg (mbxPg b + 0x200)) (hb : b < 8 ∨ 23 < b)
    (hres : result < 2 ^ 16) (hlen : out.length < 2 ^ 8) : Published s (u.mbxFinish b result fixed out) b result out :=
  published_congr hreg (State.mbxFinish_published hb hres hlen)

end

-- the requests (R73, R75 to R77)

section
variable {s : State} {b : Mbx}

theorem exec_tenantSet (b : Mbx) (s : State) : exec (.tenantSet b) s = .next (s.serveMbx b.val 0x0010 (fun s => s.mbxTenantSet b.val)) := rfl
theorem exec_tenantClear (b : Mbx) (s : State) : exec (.tenantClear b) s = .next (s.serveMbx b.val 0x0011 (fun s => s.mbxTenantClear b.val)) := rfl
theorem exec_apertureSet (b : Mbx) (s : State) : exec (.apertureSet b) s = .next (s.serveMbx b.val 0x0012 (fun s => s.mbxApertureSet b.val)) := rfl
theorem exec_ctxBase (b : Mbx) (s : State) : exec (.ctxBase b) s = .next (s.serveMbx b.val 0x0018 (fun s => s.mbxCtxBase b.val)) := rfl
theorem exec_tctApplyEdge (s : State) : exec .tctApplyEdge s = .next s.tctApply := rfl

/-- The fields of a tenant's entry in the word that TENANT_SET gives; its other bits are discarded (R75). -/
def tctFields (v : Nat) : Nat := bits v 63 60 * 2 ^ 60 + bits v 33 16 * 2 ^ 16 + bits v 3 0

theorem tctFields_lt (v : Nat) : tctFields v < 2 ^ 64 := by
  unfold tctFields
  have h1 := bits_lt v 63 60
  have h2 := bits_lt v 33 16
  have h3 := bits_lt v 3 0
  omega

/-- R75: the checks of TENANT_SET in their order. -/
theorem State.mbxTenantSet_eq (s : State) (b : Nat) : s.mbxTenantSet b =
    let t := s.mbxIn b 1
    let v := tctFields (s.mbxIn b 2)
    let old := s.tctWritten t
    if t = 0xFFF then s.mbxFinish b RES_DENIED 0 []
    else if 4096 ≤ t then s.mbxFinish b RES_BADARG 0 []
    else if tctValid old ∧ (tctClass old ≠ tctClass v ∨ tctKey old ≠ tctKey v) then s.mbxFinish b RES_INUSE 0 []
    else if s.secureClass (tctClass v) then s.mbxFinish b RES_DENIED 0 []
    else if tctDmaOk v ∧ bits (s.apertureWritten (tctAperture v)) 63 56 = 0 then s.mbxFinish b RES_BADARG 0 []
    else if (List.range 4).any (fun p => s.mesh.sched.share p (tctClass v) == 0) then s.mbxFinish b RES_BADARG 0 []
    else (s.tctWrite t v).mbxFinish b RES_OK 0 [w64 s.applyEdge] := by
  unfold State.mbxTenantSet tctFields
  simp only [Nat.shiftLeft_eq]

/-- A refusal answers and leaves the table. -/
theorem refusal_publishes (hb : b.val < 8) {result : Nat} (hres : result < 2 ^ 16) :
    Published s (s.mbxFinish b.val result 0 []) b.val result [] ∧ (s.mbxFinish b.val result 0 []).tct = s.tct :=
  ⟨State.mbxFinish_published (.inl hb) hres (by decide), State.mbxFinish_tct⟩

/-- The register that a write of entry ix goes to (R72, R73). -/
def tctWriteReg (ix : Nat) : Nat := if ix < 4096 then tctReg ix else apertureReg (ix - 4096)

theorem offMailboxes_tctWriteReg (ix : Nat) : OffMailboxes (tctWriteReg ix) := by
  unfold tctWriteReg tctReg apertureReg
  split <;> rw [Nat.add_assoc] <;> exact offMailboxes_tct _

theorem State.reg_tctWrite (s : State) (ix v a : Nat) : (s.tctWrite ix v).reg a = (s.setReg (tctWriteReg ix) v).reg a := rfl

/-- A write of an entry that is performed (R74): its register, the queue of the apply edges, and the reply that names the edge. -/
theorem tctWrite_replies (hb : b.val < 8) (ix v : Nat) :
    let t := (s.tctWrite ix v).mbxFinish b.val RES_OK 0 [w64 s.applyEdge]
    Published s t b.val 0 [w64 s.applyEdge] ∧ t.reg (tctWriteReg ix) = v % 2 ^ 64 ∧ t.tct.now = s.tct.now ∧
      t.tct.pend = s.tct.pend.filter (fun p => p.ix != ix) ++ [⟨ix, w64 v, s.applyEdge⟩] := by
  have hlen : [w64 s.applyEdge].length < 2 ^ 8 := by simp
  have hbase := mbxPg_eq b.val
  have hoff := offMailboxes_tctWriteReg ix
  intro t
  refine ⟨State.mbxFinish_publishes ?_ (.inl hb) (by decide) hlen, ?_, ?_, ?_⟩
  · unfold OffMailboxes at hoff
    rw [State.reg_tctWrite, State.reg_setReg_ne]
    omega
  · rw [State.reg_mbxFinish_off b.isLt hlen hoff, State.reg_tctWrite, State.reg_setReg]
  · rw [State.mbxFinish_tct]
    rfl
  · rw [State.mbxFinish_tct]
    rfl

section
variable (hb : b.val < 8) (hasked : Asked s b.val 0x10)
include hb hasked

/-- R75: an entry that meets the rules is written. -/
theorem gives_tenantSet (ht : s.mbxIn b.val 1 < 0xFFF)
    (hsame : tctValid (s.tctWritten (s.mbxIn b.val 1)) = true →
      tctClass (s.tctWritten (s.mbxIn b.val 1)) = tctClass (tctFields (s.mbxIn b.val 2)) ∧
      tctKey (s.tctWritten (s.mbxIn b.val 1)) = tctKey (tctFields (s.mbxIn b.val 2)))
    (hworld : s.secureClass (tctClass (tctFields (s.mbxIn b.val 2))) = false)
    (hdma : tctDmaOk (tctFields (s.mbxIn b.val 2)) = true → bits (s.apertureWritten (tctAperture (tctFields (s.mbxIn b.val 2)))) 63 56 ≠ 0)
    (hshare : ∀ p < 4, s.mesh.sched.share p (tctClass (tctFields (s.mbxIn b.val 2))) ≠ 0) :
    Gives (.tenantSet b) s fun t => Published s t b.val 0 [w64 s.applyEdge] ∧
      t.reg (tctReg (s.mbxIn b.val 1)) = tctFields (s.mbxIn b.val 2) ∧ t.tct.now = s.tct.now ∧
      t.tct.pend = s.tct.pend.filter (fun p => p.ix != s.mbxIn b.val 1) ++ [⟨s.mbxIn b.val 1, w64 (tctFields (s.mbxIn b.val 2)), s.applyEdge⟩] := by
  refine gives_served (exec_tenantSet b s) hasked ?_
  have hserved : s.mbxTenantSet b.val =
      (s.tctWrite (s.mbxIn b.val 1) (tctFields (s.mbxIn b.val 2))).mbxFinish b.val RES_OK 0 [w64 s.applyEdge] := by
    rw [State.mbxTenantSet_eq, if_neg (by omega), if_neg (by omega), if_neg, if_neg, if_neg, if_neg]
    · simpa using hshare
    · exact fun h => hdma h.1 h.2
    · exact fun h => absurd (hworld.symm.trans h) (by decide)
    · exact fun h => h.2.elim (fun hc => hc (hsame h.1).1) (fun hk => hk (hsame h.1).2)
  have hreg : tctWriteReg (s.mbxIn b.val 1) = tctReg (s.mbxIn b.val 1) := if_pos (by omega)
  obtain ⟨hpub, hentry, hnow, hpend⟩ := tctWrite_replies (s := s) hb (s.mbxIn b.val 1) (tctFields (s.mbxIn b.val 2))
  rw [hreg, Nat.mod_eq_of_lt (tctFields_lt _)] at hentry
  rw [hserved]
  exact ⟨hpub, hentry, hnow, hpend⟩

/-- Tenant 0xFFF is the Ward's own (R72). -/
theorem gives_tenantSet_ward (ht : s.mbxIn b.val 1 = 0xFFF) :
    Gives (.tenantSet b) s fun t => Published s t b.val 2 [] ∧ t.tct = s.tct := by
  refine gives_served (exec_tenantSet b s) hasked ?_
  have hserved : s.mbxTenantSet b.val = s.mbxFinish b.val RES_DENIED 0 [] := if_pos ht
  rw [hserved]
  exact refusal_publishes hb (by decide)

/-- R75: a valid entry keeps its class and its key index. -/
theorem gives_tenantSet_inUse (ht : s.mbxIn b.val 1 < 0xFFF) (hvalid : tctValid (s.tctWritten (s.mbxIn b.val 1)) = true)
    (hchange : tctClass (s.tctWritten (s.mbxIn b.val 1)) ≠ tctClass (tctFields (s.mbxIn b.val 2)) ∨
      tctKey (s.tctWritten (s.mbxIn b.val 1)) ≠ tctKey (tctFields (s.mbxIn b.val 2))) :
    Gives (.tenantSet b) s fun t => Published s t b.val 4 [] ∧ t.tct = s.tct := by
  refine gives_served (exec_tenantSet b s) hasked ?_
  have hserved : s.mbxTenantSet b.val = s.mbxFinish b.val RES_INUSE 0 [] := by
    rw [State.mbxTenantSet_eq, if_neg (by omega), if_neg (by omega), if_pos ⟨hvalid, hchange⟩]
  rw [hserved]
  exact refusal_publishes hb (by decide)

/-- R75: no tenant has a secure class. -/
theorem gives_tenantSet_secure (ht : s.mbxIn b.val 1 < 0xFFF) (hnew : tctValid (s.tctWritten (s.mbxIn b.val 1)) = false)
    (hworld : s.secureClass (tctClass (tctFields (s.mbxIn b.val 2))) = true) :
    Gives (.tenantSet b) s fun t => Published s t b.val 2 [] ∧ t.tct = s.tct := by
  refine gives_served (exec_tenantSet b s) hasked ?_
  have hserved : s.mbxTenantSet b.val = s.mbxFinish b.val RES_DENIED 0 [] := by
    rw [State.mbxTenantSet_eq, if_neg (by omega), if_neg (by omega), if_neg, if_pos hworld]
    exact fun h => absurd (hnew.symm.trans h.1) (by decide)
  rw [hserved]
  exact refusal_publishes hb (by decide)

end

section
variable (hb : b.val < 8) (hasked : Asked s b.val 0x11) (h0 : 0 < s.mbxIn b.val 1) (ht : s.mbxIn b.val 1 < 0xFFF)
include hb hasked h0 ht

/-- R76: a tenant that nothing uses is cleared. -/
theorem gives_tenantClear (hfree : s.tenantInUse (s.mbxIn b.val 1) = false) :
    Gives (.tenantClear b) s fun t => Published s t b.val 0 [w64 s.applyEdge] ∧
      t.tct.pend = s.tct.pend.filter (fun p => p.ix != s.mbxIn b.val 1) ++
        [⟨s.mbxIn b.val 1, w64 (putBits (s.tctWritten (s.mbxIn b.val 1)) 63 60 0), s.applyEdge⟩] := by
  refine gives_served (exec_tenantClear b s) hasked ?_
  have hserved : s.mbxTenantClear b.val =
      (s.tctWrite (s.mbxIn b.val 1) (putBits (s.tctWritten (s.mbxIn b.val 1)) 63 60 0)).mbxFinish b.val RES_OK 0 [w64 s.applyEdge] := by
    unfold State.mbxTenantClear
    dsimp only
    rw [if_neg (by omega), if_neg (by omega), if_neg (by rw [hfree]; decide)]
  obtain ⟨hpub, -, -, hpend⟩ := tctWrite_replies (s := s) hb (s.mbxIn b.val 1) (putBits (s.tctWritten (s.mbxIn b.val 1)) 63 60 0)
  rw [hserved]
  exact ⟨hpub, hpend⟩

theorem gives_tenantClear_inUse (hused : s.tenantInUse (s.mbxIn b.val 1) = true) :
    Gives (.tenantClear b) s fun t => Published s t b.val 4 [] ∧ t.tct = s.tct := by
  refine gives_served (exec_tenantClear b s) hasked ?_
  have hserved : s.mbxTenantClear b.val = s.mbxFinish b.val RES_INUSE 0 [] := by
    unfold State.mbxTenantClear
    dsimp only
    rw [if_neg (by omega), if_neg (by omega), if_pos hused]
  rw [hserved]
  exact refusal_publishes hb (by decide)

end

/-- R73, R75: an aperture that still allows DMA is written. -/
theorem gives_apertureSet (hb : b.val < 8) (hasked : Asked s b.val 0x12) (hi : s.mbxIn b.val 1 < 64) (hmax : bits (s.mbxIn b.val 2) 63 56 ≠ 0) :
    Gives (.apertureSet b) s fun t => Published s t b.val 0 [w64 s.applyEdge] ∧
      t.tct.pend = s.tct.pend.filter (fun p => p.ix != 4096 + s.mbxIn b.val 1) ++
        [⟨4096 + s.mbxIn b.val 1, w64 (bits (s.mbxIn b.val 2) 63 53 * 2 ^ 53), s.applyEdge⟩] := by
  refine gives_served (exec_apertureSet b s) hasked ?_
  have hkept : bits (bits (s.mbxIn b.val 2) 63 53 * 2 ^ 53) 63 56 = bits (s.mbxIn b.val 2) 63 56 := by
    simp only [bits, Nat.shiftRight_eq_div_pow]
    omega
  have hserved : s.mbxApertureSet b.val =
      (s.tctWrite (4096 + s.mbxIn b.val 1) (bits (s.mbxIn b.val 2) 63 53 * 2 ^ 53)).mbxFinish b.val RES_OK 0 [w64 s.applyEdge] := by
    unfold State.mbxApertureSet
    simp only [Nat.shiftLeft_eq]
    rw [if_neg (by omega), if_neg (fun h => hmax (hkept ▸ h.1))]
  obtain ⟨hpub, -, -, hpend⟩ := tctWrite_replies (s := s) hb (4096 + s.mbxIn b.val 1) (bits (s.mbxIn b.val 2) 63 53 * 2 ^ 53)
  rw [hserved]
  exact ⟨hpub, hpend⟩

/-- R73, R77: CTX_BASE is stored. -/
theorem gives_ctxBase (hb : b.val < 8) (hasked : Asked s b.val 0x18) : Gives (.ctxBase b) s fun t => Published s t b.val 0 [] ∧
    t.reg (tctPg 0 + 0x908) = bits (s.mbxIn b.val 1) 51 18 * 2 ^ 18 + s.mbxIn b.val 1 % 2 ∧ t.tct = s.tct := by
  refine gives_served (exec_ctxBase b s) hasked ?_
  have hbase := mbxPg_eq b.val
  have hoff := offMailboxes_tct 0 (off := 0x908)
  have hword : bits (s.mbxIn b.val 1) 51 18 <<< 18 + bits (s.mbxIn b.val 1) 0 0 = bits (s.mbxIn b.val 1) 51 18 * 2 ^ 18 + s.mbxIn b.val 1 % 2 := by
    rw [Nat.shiftLeft_eq]
    rfl
  have hlt := bits_lt (s.mbxIn b.val 1) 51 18
  have hserved : s.mbxCtxBase b.val =
      (s.setReg (tctPg 0 + 0x908) (bits (s.mbxIn b.val 1) 51 18 * 2 ^ 18 + s.mbxIn b.val 1 % 2)).mbxFinish b.val RES_OK 0 [] := by
    unfold State.mbxCtxBase
    dsimp only
    rw [hword]
  rw [hserved]
  refine ⟨State.mbxFinish_publishes ?_ (.inl hb) (by decide) (by decide), ?_, State.mbxFinish_tct⟩
  · unfold OffMailboxes at hoff
    exact State.reg_setReg_ne _ _ (by omega)
  · rw [State.reg_mbxFinish_off b.isLt (by decide) hoff, State.reg_setReg, Nat.mod_eq_of_lt (by omega)]

end

-- the apply edge (R74)

/-- The value that entry ix of every replica holds before any write (R72, R73). -/
def tctDefault (ix : Nat) : Word := if ix < 4096 then w64 (tctReset ix) else if ix = 4096 then 0xFFE0000000000000#64 else 0

/-- Waiting writes entered into a replica. -/
def tctEnter (due : List TctPend) (now : Tab Word) : Tab Word := due.foldl (fun t q => Tab.set (tctDefault q.ix) t q.ix q.value) now

/-- An entry no write names stays. -/
theorem get_tctEnter_other {due : List TctPend} {j : Nat} (hj : ∀ q ∈ due, q.ix ≠ j) (d : Word) (now : Tab Word) :
    Tab.get d (tctEnter due now) j = Tab.get d now j := by
  induction due generalizing now with
  | nil => rfl
  | cons q due ih =>
    have hq := hj q (List.mem_cons_self ..)
    calc Tab.get d (tctEnter (q :: due) now) j = Tab.get d (Tab.set (tctDefault q.ix) now q.ix q.value) j :=
          ih (fun q hq => hj q (List.mem_cons_of_mem _ hq)) _
      _ = _ := Tab.get_set_ne _ _ _ _ hq

/-- Where each entry is written once, it reads as its write has it. -/
theorem get_tctEnter {due : List TctPend} (hone : (due.map (·.ix)).Nodup) {q : TctPend} (hq : q ∈ due) (now : Tab Word) :
    Tab.get (tctDefault q.ix) (tctEnter due now) q.ix = q.value := by
  induction due generalizing now with
  | nil => cases hq
  | cons p due ih =>
    rw [List.map_cons, List.nodup_cons] at hone
    obtain ⟨hp, hrest⟩ := hone
    rcases List.mem_cons.mp hq with rfl | htail
    · have hother : ∀ r ∈ due, r.ix ≠ q.ix := fun r hr he => hp (he ▸ List.mem_map_of_mem hr)
      exact (get_tctEnter_other hother _ _).trans (Tab.get_set_self _ _ _ _)
    · exact ih hrest htail _

/-- R74: the writes of the earliest edge are in force in every replica, each other entry as it was. -/
theorem gives_tctApplyEdge {s : State} {p : TctPend} {l : List TctPend} (hpend : s.tct.pend = p :: l) (hone : (s.tct.pend.map (·.ix)).Nodup) :
    Gives .tctApplyEdge s fun t => t.now = max s.now (96 * p.edge) ∧ t.tct.pend = s.tct.pend.filter (fun q => decide (p.edge < q.edge)) ∧
      (∀ q ∈ s.tct.pend, q.edge ≤ p.edge → q.ix < 4096 → t.tctEntry q.ix = q.value.toNat) ∧
      (∀ j, j < 4096 → (∀ q ∈ s.tct.pend, q.edge ≤ p.edge → q.ix ≠ j) → t.tctEntry j = s.tctEntry j) ∧
      { t with now := s.now, tct := s.tct } = s := by
  have happly : s.tctApply = { s.toAclk p.edge with
      tct := ⟨tctEnter (s.tct.pend.filter (fun q => decide (q.edge ≤ p.edge))) s.tct.now, s.tct.pend.filter (fun q => !decide (q.edge ≤ p.edge))⟩ } := by
    unfold State.tctApply
    rw [hpend]
    rfl
  refine ⟨_, (exec_tctApplyEdge s).trans (congrArg _ happly), rfl, ?_, fun q hq hdue hix => ?_, fun j hj hother => ?_, rfl⟩
  · exact List.filter_congr fun q _ => (decide_not (p := q.edge ≤ p.edge)).symm.trans (decide_eq_decide.mpr Nat.not_le)
  · have hmem : q ∈ s.tct.pend.filter (fun q => decide (q.edge ≤ p.edge)) := List.mem_filter.mpr ⟨hq, decide_eq_true hdue⟩
    have hget := get_tctEnter (hone.sublist (List.filter_sublist.map _)) hmem s.tct.now
    unfold tctDefault at hget
    rw [if_pos hix] at hget
    exact congrArg BitVec.toNat hget
  · refine congrArg BitVec.toNat (get_tctEnter_other (fun q hq => ?_) _ _)
    obtain ⟨hq, hdue⟩ := List.mem_filter.mp hq
    exact hother q hq (of_decide_eq_true hdue)

/-- Settles O28, request by request. -/
theorem tenantTable : Obligations.TenantTable := by
  unfold Obligations.TenantTable
  refine ⟨fun s b t0 hb hasked ht0 => ?_, fun s b t0 hb hasked ht0 h0 ht => ?_, fun s b hb hasked hi hmax => gives_apertureSet hb hasked hi hmax,
    fun s b hb hasked => gives_ctxBase hb hasked, fun s p l hpend hone => gives_tctApplyEdge hpend hone⟩ <;> subst ht0
  · exact ⟨fun ht hsame hworld hdma hshare => gives_tenantSet hb hasked ht hsame hworld hdma hshare, fun ht => gives_tenantSet_ward hb hasked ht,
      fun ht hvalid hchange => gives_tenantSet_inUse hb hasked ht hvalid hchange, fun ht hnew hworld => gives_tenantSet_secure hb hasked ht hnew hworld⟩
  · exact ⟨gives_tenantClear hb hasked h0 ht, gives_tenantClear_inUse hb hasked h0 ht⟩

end Sys2Proof.Machine

/-! Resets of the Ward (R84, R103, R442): the requests it was serving, the grant, the watchdog and failure. -/

namespace Sys2Proof.Machine
open Safety

theorem exec_wardReset (s : State) : exec .wardReset s = .next s.resetWard := rfl
theorem exec_wardWatchdogExpiry (s : State) : exec .wardWatchdogExpiry s = .next s.watchdog := rfl
theorem exec_wardRestartFailure (s : State) : exec .wardRestartFailure s = .next s.restartFailure := rfl
theorem exec_wardPeriodicReset (s : State) : exec .wardPeriodicReset s = .next s.periodicReset := rfl

-- what is shown of an event: registers, sources and reports

/-- The states differ at most in registers, wired sources and reported records. -/
def ShownOnly (s t : State) : Prop := { t with regs := s.regs, wires := s.wires, reports := s.reports, reported := s.reported } = s

namespace ShownOnly

variable {s t u : State}

theorem refl (s : State) : ShownOnly s s := rfl

theorem trans (h : ShownOnly s t) (h' : ShownOnly t u) : ShownOnly s u := by
  unfold ShownOnly at *
  calc ({ u with regs := s.regs, wires := s.wires, reports := s.reports, reported := s.reported } : State)
      = { ({ u with regs := t.regs, wires := t.wires, reports := t.reports, reported := t.reported } : State) with
          regs := s.regs, wires := s.wires, reports := s.reports, reported := s.reported } := rfl
    _ = s := by rw [h', h]

theorem setReg (s : State) (a v : Nat) : ShownOnly s (s.setReg a v) := rfl

theorem setFld (s : State) (pg : Nat) (f : Field) (v : Nat) : ShownOnly s (s.setFld pg f v) := setReg ..

theorem pulse (s : State) (src : Nat) : ShownOnly s (s.pulse src) := by
  unfold ShownOnly State.pulse
  split <;> rfl

theorem now (h : ShownOnly s t) : t.now = s.now := (congrArg State.now h :)
theorem ward (h : ShownOnly s t) : t.ward = s.ward := (congrArg State.ward h :)
theorem mem (h : ShownOnly s t) : t.mem = s.mem := (congrArg State.mem h :)
theorem tct (h : ShownOnly s t) : t.tct = s.tct := (congrArg State.tct h :)

end ShownOnly

-- requests that the Ward was serving (R84)

/-- STATE of a mailbox after a reset of the Ward: a BUSY request is PENDING again. -/
def mbxReturned (st : Nat) : Nat := if st = 2 then 1 else st

theorem mbxReturned_mbxReturned (st : Nat) : mbxReturned (mbxReturned st) = mbxReturned st := by
  unfold mbxReturned
  split <;> simp [*]

/-- A reset of the Ward returns the request of mailbox b, and drops the reply it held. -/
def State.returnMbx (s : State) (b : Nat) : State :=
  let st := s.fld (mbxPg b) R.WARD_MBX_STATUS_STATE
  let s' := if st = 2 then s.setFld (mbxPg b) R.WARD_MBX_STATUS_STATE 1 else s
  s'.setMbxState b { s'.mbxState b with held := none, waiting := false, again := st == 1 || st == 2 }

theorem State.setFld_setMbxState_frame (s : State) (pg : Nat) (f : Field) (v b : Nat) (m : MbxState) :
    { (s.setFld pg f v).setMbxState b m with regs := s.regs, ward := s.ward } = s ∧
    { ((s.setFld pg f v).setMbxState b m).ward with mbx := s.ward.mbx } = s.ward := ⟨rfl, rfl⟩

theorem State.returnMbx_frame (s : State) (b : Nat) :
    { s.returnMbx b with regs := s.regs, ward := s.ward } = s ∧ { (s.returnMbx b).ward with mbx := s.ward.mbx } = s.ward := by
  unfold State.returnMbx
  dsimp only
  split
  · exact State.setFld_setMbxState_frame ..
  · exact ⟨rfl, rfl⟩

theorem State.reg_returnMbx_ne (s : State) {b a : Nat} (h : (mbxPg b + 0x100) / 8 ≠ a / 8) : (s.returnMbx b).reg a = s.reg a := by
  unfold State.returnMbx
  dsimp only
  rw [reg_setMbxState]
  split
  · exact State.reg_setReg_ne _ _ h
  · rfl

theorem State.fld_returnMbx (s : State) (b k : Nat) : (s.returnMbx b).fld (mbxPg k) R.WARD_MBX_STATUS_STATE =
    if k = b then mbxReturned (s.fld (mbxPg k) R.WARD_MBX_STATUS_STATE) else s.fld (mbxPg k) R.WARD_MBX_STATUS_STATE := by
  have hk := mbxPg_eq k
  have hb := mbxPg_eq b
  split
  · rename_i heq
    subst heq
    unfold State.returnMbx mbxReturned
    dsimp only
    rw [fld_setMbxState]
    split
    · rw [State.fld_setFld _ _ _ _ (by decide) (by decide)]
      rfl
    · rfl
  · unfold State.fld
    rw [State.reg_returnMbx_ne]
    simp only [R.WARD_MBX_STATUS_STATE]
    omega

theorem State.returnMbx_foldl {l : List Nat} (hl : ∀ b ∈ l, b < 32) (s : State) :
    let t := l.foldl State.returnMbx s
    { t with regs := s.regs, ward := s.ward } = s ∧ { t.ward with mbx := s.ward.mbx } = s.ward ∧ (∀ a, OffMailboxes a → t.reg a = s.reg a) ∧
    ∀ k, t.fld (mbxPg k) R.WARD_MBX_STATUS_STATE =
      if k ∈ l then mbxReturned (s.fld (mbxPg k) R.WARD_MBX_STATUS_STATE) else s.fld (mbxPg k) R.WARD_MBX_STATUS_STATE := by
  induction l generalizing s with
  | nil => exact ⟨rfl, rfl, fun _ _ => rfl, fun _ => rfl⟩
  | cons b l ih =>
    obtain ⟨hframe, hward⟩ := s.returnMbx_frame b
    have hreg := fun a => State.reg_returnMbx_ne s (b := b) (a := a)
    have hstate := s.fld_returnMbx b
    obtain ⟨htail, hwards, hregs, hstates⟩ := ih (fun b hb => hl b (List.mem_cons_of_mem _ hb)) (s.returnMbx b)
    have hb := hl b (List.mem_cons_self ..)
    have hbase := mbxPg_eq b
    rw [List.foldl_cons]
    generalize s.returnMbx b = u at *
    generalize l.foldl State.returnMbx u = t at *
    refine ⟨?_, ?_, fun a ha => ?_, fun k => ?_⟩
    · calc ({ t with regs := s.regs, ward := s.ward } : State)
          = { ({ t with regs := u.regs, ward := u.ward } : State) with regs := s.regs, ward := s.ward } := rfl
        _ = s := by rw [htail, hframe]
    · calc ({ t.ward with mbx := s.ward.mbx } : WardState) = { ({ t.ward with mbx := u.ward.mbx } : WardState) with mbx := s.ward.mbx } := rfl
        _ = s.ward := by rw [hwards, hward]
    · unfold OffMailboxes at ha
      rw [hregs a ha, hreg a (by omega)]
    · rw [hstates, hstate]
      by_cases hk : k = b
      · subst hk
        simp [mbxReturned_mbxReturned]
      · simp [hk]

-- the grant (R103)

theorem offMailboxes_grant : OffMailboxes (boltPg 6 + 0x100) := .inr (by decide)

theorem State.endGrant_regs (s : State) : { s.endGrant with regs := s.regs } = s := by
  unfold State.endGrant
  split
  · rw [State.setFld_withRegs, State.setFld_withRegs]
  · rfl

theorem State.reg_endGrant_ne (s : State) {a : Nat} (h : (boltPg 6 + 0x100) / 8 ≠ a / 8) : s.endGrant.reg a = s.reg a := by
  unfold State.endGrant
  split
  · rw [State.reg_setFld_ne _ _ h, State.reg_setFld_ne _ _ h]
  · rfl

theorem State.grantActive_endGrant (s : State) : s.endGrant.grantActive = false := by
  unfold State.endGrant
  split
  · unfold State.grantActive State.flag
    rw [State.fld_setFld_apart (f := R.SL_GRANT_WRITE) (f' := R.SL_GRANT_ACTIVE) _ _ _ rfl (by decide) (by decide) (by decide) (by decide),
      State.fld_setFld _ _ _ _ (by decide) (by decide)]
    rfl
  · rename_i hnone
    exact Bool.eq_false_iff.mpr hnone

/-- The grant's flags are read from one register. -/
theorem State.grantActive_congr {s t : State} (h : t.reg (boltPg 6 + 0x100) = s.reg (boltPg 6 + 0x100)) : t.grantActive = s.grantActive := by
  unfold State.grantActive State.flag State.fld
  exact congrArg (fun w => bits w 63 63 == 1) h

-- a reset of the Ward (R84)

/-- What a reset of the Ward at the time of state u leaves in t, of what s holds (R84, R103). -/
def IsWardReset (s u t : State) : Prop :=
  t.ward.running = false ∧ t.ward.sessions = 0 ∧ t.ward.nonces = [] ∧ t.ward.resetAt = u.tb ∧ t.grantActive = false ∧
    t.ward.keys = s.ward.keys ∧ t.ward.otp = s.ward.otp ∧ t.fld aonPg R.AON_RESETCAUSE_WARDS = (s.fld aonPg R.AON_RESETCAUSE_WARDS + 1) % 2 ^ 16 ∧
    (∀ b, b < 32 → t.fld (mbxPg b) R.WARD_MBX_STATUS_STATE =
      (if s.fld (mbxPg b) R.WARD_MBX_STATUS_STATE = 2 then 1 else s.fld (mbxPg b) R.WARD_MBX_STATUS_STATE)) ∧
    t.mem = s.mem ∧ t.tct = s.tct

/-- A reset leaves the Ward's processor its windows of the SRAM (R290, log entry 112). -/
def resetProcessor (g : Engine) : Engine := { imem := g.imem, dmem := g.dmem, shadows := [⟨0, 0, 0xFF⟩], st := .handler }

theorem State.resetWard_eq (s : State) : s.resetWard =
    let s2 := ((List.range 32).foldl State.returnMbx s).endGrant.bump aonPg R.AON_RESETCAUSE_WARDS 1
    { s2 with ward := { s2.ward with running := false, sessions := 0, nonces := [], resetAt := s.tb }
              engines := Tab.ins 96 (resetProcessor (s.engine 96)) s2.engines } := by
  unfold State.resetWard
  generalize List.range 32 = l
  rfl

theorem State.resetWard_spec (s : State) :
    IsWardReset s s s.resetWard ∧ { s.resetWard with ward := s.ward, regs := s.regs, engines := s.engines } = s ∧
    s.resetWard.engines = Tab.ins 96 (resetProcessor (s.engine 96)) s.engines := by
  obtain ⟨hframe, hward, hreg, hstate⟩ := State.returnMbx_foldl (l := List.range 32) (fun _ => List.mem_range.mp) s
  rw [State.resetWard_eq]
  generalize (List.range 32).foldl State.returnMbx s = u at *
  have hgrant := u.endGrant_regs
  have hended := u.grantActive_endGrant
  have hother := fun a => State.reg_endGrant_ne u (a := a)
  generalize u.endGrant = v at *
  have hwards : v.fld aonPg R.AON_RESETCAUSE_WARDS = s.fld aonPg R.AON_RESETCAUSE_WARDS := by
    unfold State.fld
    rw [hother _ (by decide), hreg _ (.inl (by decide))]
  have hcount : (v.bump aonPg R.AON_RESETCAUSE_WARDS 1).fld aonPg R.AON_RESETCAUSE_WARDS = (s.fld aonPg R.AON_RESETCAUSE_WARDS + 1) % 2 ^ 16 := by
    unfold State.bump
    rw [State.fld_setFld _ _ _ _ (by decide) (by decide), hwards]
    rfl
  have hbumped := fun a (ha : (aonPg + 0x110) / 8 ≠ a / 8) =>
    State.reg_setFld_ne v (f := R.AON_RESETCAUSE_WARDS) (v.fld aonPg R.AON_RESETCAUSE_WARDS + 1) ha
  have hregs : ({ v.bump aonPg R.AON_RESETCAUSE_WARDS 1 with regs := v.regs } : State) = v := State.setFld_regs_frame ..
  unfold State.bump at hcount hregs ⊢
  generalize v.setFld aonPg R.AON_RESETCAUSE_WARDS (v.fld aonPg R.AON_RESETCAUSE_WARDS + 1) = w at *
  have hw : ({ w with regs := s.regs, ward := s.ward } : State) = s := by
    calc ({ w with regs := s.regs, ward := s.ward } : State)
        = { ({ ({ w with regs := v.regs } : State) with regs := u.regs } : State) with regs := s.regs, ward := s.ward } := rfl
      _ = s := by rw [hregs, hgrant, hframe]
  have hwward : w.ward = u.ward := (congrArg State.ward hregs).trans (congrArg State.ward hgrant :)
  refine ⟨⟨rfl, rfl, rfl, rfl, ?_, ?_, ?_, hcount, fun b hb => ?_, (congrArg State.mem hw :), (congrArg State.tct hw :)⟩, ?_, ?_⟩
  · exact (State.grantActive_congr (hbumped _ (by decide))).trans hended
  · exact (congrArg WardState.keys hwward).trans (congrArg WardState.keys hward :)
  · exact (congrArg WardState.otp hwward).trans (congrArg WardState.otp hward :)
  · have hbase := mbxPg_eq b
    have haon : aonPg + 0x110 < 0x40640000 := by decide
    have hbolt : 0x40660000 ≤ boltPg 6 + 0x100 := by decide
    have hkept : w.reg (mbxPg b + 0x100) = u.reg (mbxPg b + 0x100) := by rw [hbumped _ (by omega), hother _ (by omega)]
    exact (congrArg (fun x => bits x 63 60) hkept).trans ((hstate b).trans (if_pos (List.mem_range.mpr hb)))
  · have hengines : w.engines = s.engines := (congrArg State.engines hw :)
    calc _ = ({ w with regs := s.regs, ward := s.ward, engines := s.engines } : State) := rfl
      _ = { w with regs := s.regs, ward := s.ward } := by rw [← hengines]
      _ = s := hw
  · exact congrArg (Tab.ins 96 (resetProcessor (s.engine 96))) (congrArg State.engines hw :)

/-- What is read of a reset state: the Ward, three registers, memory and the table. -/
theorem isWardReset_congr {s u t t' : State} (h : IsWardReset s u t) (hward : { t'.ward with failed := t.ward.failed, expiries := t.ward.expiries } = t.ward)
    (hgrant : t'.reg (boltPg 6 + 0x100) = t.reg (boltPg 6 + 0x100)) (hwards : t'.fld aonPg R.AON_RESETCAUSE_WARDS = t.fld aonPg R.AON_RESETCAUSE_WARDS)
    (hmbx : ∀ b < 32, t'.reg (mbxPg b + 0x100) = t.reg (mbxPg b + 0x100)) (hmem : t'.mem = t.mem) (htct : t'.tct = t.tct) : IsWardReset s u t' := by
  obtain ⟨hrun, hsessions, hnonces, hat, hactive, hkeys, hotp, hcount, hstate, hmem', htct'⟩ := h
  refine ⟨(congrArg WardState.running hward).trans hrun, (congrArg WardState.sessions hward).trans hsessions,
    (congrArg WardState.nonces hward).trans hnonces, (congrArg WardState.resetAt hward).trans hat, (State.grantActive_congr hgrant).trans hactive,
    (congrArg WardState.keys hward).trans hkeys, (congrArg WardState.otp hward).trans hotp, hwards.trans hcount, fun b hb => ?_, hmem.trans hmem',
    htct.trans htct'⟩
  exact (congrArg (fun w => bits w 63 60) (hmbx b hb)).trans (hstate b hb)

-- the watchdog and failure (R442)

/-- The expiries of the last second, the new one included. -/
def State.recentExpiries (s : State) : List Nat := s.ward.expiries.filter (fun u => decide (s.tb < u + 25000000)) ++ [s.tb]

/-- DEV_HEALTH is raised in one register of the RAS page (R439). -/
theorem State.raiseHealth_frame (s : State) (v seq : Nat) :
    ShownOnly s (s.raiseHealth v seq) ∧ ∀ a, (rasPg 0 + 0x100) / 8 ≠ a / 8 → (s.raiseHealth v seq).reg a = s.reg a := by
  unfold State.raiseHealth
  split
  · exact ⟨.refl s, fun _ _ => rfl⟩
  · dsimp only
    refine ⟨?_, fun a ha => ?_⟩
    · refine .trans ?_ (.pulse ..)
      split
      · exact (((ShownOnly.setFld ..).trans (.setFld ..)).trans (.setFld ..)).trans (.setFld ..)
      · exact ((ShownOnly.setFld ..).trans (.setFld ..)).trans (.setFld ..)
    · rw [State.reg_pulse]
      split
      · rw [State.reg_setFld_ne _ _ ha, State.reg_setFld_ne _ _ ha, State.reg_setFld_ne _ _ ha, State.reg_setFld_ne _ _ ha]
      · rw [State.reg_setFld_ne _ _ ha, State.reg_setFld_ne _ _ ha, State.reg_setFld_ne _ _ ha]

/-- A failure shows at least REPLACE (R440). -/
theorem State.fld_raiseHealth_replace (s : State) (seq : Nat) : 2 ≤ (s.raiseHealth 2 seq).fld (rasPg 0) R.RAS_HEALTH_STATE := by
  unfold State.raiseHealth
  split
  · assumption
  · dsimp only
    rw [if_pos rfl]
    unfold State.fld
    rw [State.reg_pulse]
    change 2 ≤ State.fld _ (rasPg 0) R.RAS_HEALTH_STATE
    rw [State.fld_setFld_apart (f := R.RAS_HEALTH_SERVICE) (f' := R.RAS_HEALTH_STATE) _ _ _ rfl (by decide) (by decide) (by decide) (by decide),
      State.fld_setFld_apart (f := R.RAS_HEALTH_PLDMPEND) (f' := R.RAS_HEALTH_STATE) _ _ _ rfl (by decide) (by decide) (by decide) (by decide),
      State.fld_setFld_apart (f := R.RAS_HEALTH_SEQ) (f' := R.RAS_HEALTH_STATE) _ _ _ rfl (by decide) (by decide) (by decide) (by decide),
      State.fld_setFld _ _ _ _ (by decide) (by decide)]
    decide

theorem State.wardFails_frame (s : State) :
    s.wardFails.ward = { s.ward with failed := true } ∧ ShownOnly { s with ward := { s.ward with failed := true } } s.wardFails ∧
    ∀ a, (rasPg 0 + 0x100) / 8 ≠ a / 8 → s.wardFails.reg a = s.reg a := by
  obtain ⟨hframe, hreg⟩ := State.raiseHealth_frame { s with ward := { s.ward with failed := true } } 2 (s.fld (rasPg 0) R.RAS_LOG_SEQ_NEXT)
  exact ⟨hframe.ward, hframe, hreg⟩

theorem isWardReset_wardFails {s u t : State} (h : IsWardReset s u t) : IsWardReset s u t.wardFails := by
  obtain ⟨hward, hframe, hreg⟩ := t.wardFails_frame
  have hras : rasPg 0 + 0x100 = 0x40688100 := by decide
  refine isWardReset_congr h (by rw [hward]) (hreg _ (by decide)) (congrArg (fun w => bits w 31 16) (hreg _ (by decide))) (fun b hb => hreg _ ?_)
    hframe.mem hframe.tct
  have hbase := mbxPg_eq b
  omega

/-- The state of a watchdog expiry before the failures are counted. -/
def State.watchdogReset (s : State) : State :=
  let t := s.resetWard.setFld aonPg R.AON_RESETCAUSE_WARD_WDOG 1
  { t with ward := { t.ward with expiries := s.recentExpiries } }

theorem State.watchdog_eq (s : State) : s.watchdog = if 3 ≤ s.recentExpiries.length then s.watchdogReset.wardFails else s.watchdogReset := rfl

theorem State.watchdogReset_spec (s : State) :
    IsWardReset s s s.watchdogReset ∧ s.watchdogReset.flag aonPg R.AON_RESETCAUSE_WARD_WDOG = true ∧ s.watchdogReset.ward.expiries = s.recentExpiries := by
  have haon : aonPg + 0x110 < 0x40640000 := by decide
  have hreset := s.resetWard_spec.1
  have hflag := State.flag_setFld s.resetWard aonPg R.AON_RESETCAUSE_WARD_WDOG 1 rfl (by decide)
  have hcount := State.fld_setFld_apart s.resetWard aonPg (f := R.AON_RESETCAUSE_WARD_WDOG) (f' := R.AON_RESETCAUSE_WARDS) 1 rfl (by decide) (by decide)
    (by decide) (by decide)
  have hreg := fun a (ha : (aonPg + 0x110) / 8 ≠ a / 8) => State.reg_setFld_ne s.resetWard (f := R.AON_RESETCAUSE_WARD_WDOG) 1 ha
  have hshown := ShownOnly.setFld s.resetWard aonPg R.AON_RESETCAUSE_WARD_WDOG 1
  unfold State.watchdogReset
  dsimp only
  generalize s.resetWard.setFld aonPg R.AON_RESETCAUSE_WARD_WDOG 1 = t at *
  refine ⟨isWardReset_congr hreset (by rw [hshown.ward]) (hreg _ (by decide)) hcount (fun b hb => hreg _ ?_) hshown.mem hshown.tct, hflag, rfl⟩
  have hbase := mbxPg_eq b
  omega

theorem gives_wardWatchdogExpiry (s : State) : Gives .wardWatchdogExpiry s fun t => IsWardReset s s t ∧ t.flag aonPg R.AON_RESETCAUSE_WARD_WDOG = true ∧
    t.ward.expiries = s.recentExpiries ∧ (3 ≤ s.recentExpiries.length → t.ward.failed = true ∧ t.errorN1Low = true) := by
  obtain ⟨hreset, hflag, hexpiries⟩ := s.watchdogReset_spec
  refine ⟨_, (exec_wardWatchdogExpiry s).trans (congrArg _ s.watchdog_eq), ?_⟩
  split
  · obtain ⟨hward, -, hreg⟩ := s.watchdogReset.wardFails_frame
    refine ⟨isWardReset_wardFails hreset, (congrArg (fun w => bits w 2 2 == 1) (hreg (aonPg + 0x110) (by decide))).trans hflag,
      (congrArg WardState.expiries hward).trans hexpiries, fun _ => ⟨by rw [hward], ?_⟩⟩
    unfold State.errorN1Low
    rw [hward]
    simp
  · rename_i hfew
    exact ⟨hreset, hflag, hexpiries, fun h => absurd h hfew⟩

theorem gives_wardRestartFailure {s : State} (hrun : s.ward.running = false) : Gives .wardRestartFailure s fun t =>
    t.now = max s.now (96 * (s.ward.resetAt + 2500000)) ∧ t.ward.failed = true ∧ 2 ≤ t.fld (rasPg 0) R.RAS_HEALTH_STATE := by
  have hserved : s.restartFailure = (s.toAclk (s.ward.resetAt + 2500000)).wardFails := if_neg (by rw [hrun]; decide)
  refine ⟨_, (exec_wardRestartFailure s).trans (congrArg _ hserved), ?_⟩
  obtain ⟨hward, hframe, -⟩ := (s.toAclk (s.ward.resetAt + 2500000)).wardFails_frame
  exact ⟨hframe.now, by rw [hward], State.fld_raiseHealth_replace ..⟩

theorem gives_wardPeriodicReset {s : State} (hfailed : s.ward.failed = true) (hrun : s.ward.running = false) : Gives .wardPeriodicReset s fun t =>
    t.now = max s.now (96 * (s.ward.resetAt + 250000000)) ∧ IsWardReset s t t := by
  have hserved : s.periodicReset = (s.toAclk (s.ward.resetAt + 250000000)).resetWard := if_pos (by rw [hfailed, hrun]; rfl)
  refine ⟨_, (exec_wardPeriodicReset s).trans (congrArg _ hserved), ?_⟩
  obtain ⟨hreset, hframe, -⟩ := (s.toAclk (s.ward.resetAt + 250000000)).resetWard_spec
  generalize (s.toAclk (s.ward.resetAt + 250000000)).resetWard = t at *
  have hnow : t.now = (s.toAclk (s.ward.resetAt + 250000000)).now := (congrArg State.now hframe :)
  obtain ⟨hstopped, hsessions, hnonces, hat, hrest⟩ := hreset
  have htb : (s.toAclk (s.ward.resetAt + 250000000)).tb = t.tb := congrArg (· / 96) hnow.symm
  exact ⟨hnow, hstopped, hsessions, hnonces, hat.trans htb, hrest⟩

/-- Settles O31, event by event. -/
theorem wardResets : Obligations.WardResets := by
  unfold Obligations.WardResets
  intro s
  refine ⟨?_, ?_, gives_wardRestartFailure, gives_wardPeriodicReset⟩
  · obtain ⟨hreset, hframe, hengines⟩ := s.resetWard_spec
    have hengine (e : Nat) : s.resetWard.engine e = Tab.get {} (Tab.ins 96 (resetProcessor (s.engine 96)) s.engines) e := by
      unfold State.engine
      rw [hengines]
      rfl
    have hward : s.resetWard.engine 96 = resetProcessor (s.engine 96) := (hengine 96).trans (Tab.get_ins_self ..)
    exact ⟨_, exec_wardReset s, hreset, hframe, fun e he => (hengine e).trans (Tab.get_ins_ne _ _ _ (by omega)), by rw [hward]; rfl, by rw [hward]; rfl⟩
  · obtain ⟨t, hexec, hreset, hflag, hexpiries, hfails⟩ := gives_wardWatchdogExpiry s
    refine ⟨t, hexec, hreset, hflag, hexpiries, fun h => hfails ?_⟩
    unfold State.recentExpiries
    rw [List.length_append, List.length_singleton]
    omega

end Sys2Proof.Machine

/-! Keys, OTP slots, bolting, grants and HOLD_RELEASE (R81, R83, R89, R93, R96, R101, R103, R104). -/

namespace Sys2Proof.Machine
open Safety

theorem exec_keyGen (b : Mbx) (s : State) : exec (.keyGen b) s = .next (s.serveMbx b.val 0x0020 (fun s => s.mbxKeyGen b.val)) := rfl
theorem exec_keyImport (b : Mbx) (s : State) : exec (.keyImport b) s = .next (s.serveMbx b.val 0x0021 (fun s => s.mbxKeyImport b.val)) := rfl
theorem exec_keyErase (b : Mbx) (s : State) : exec (.keyErase b) s = .next (s.serveMbx b.val 0x0022 (fun s => s.mbxKeyErase b.val)) := rfl
theorem exec_otpProvision (b : Mbx) (s : State) : exec (.otpProvision b) s = .next (s.serveMbx b.val 0x0002 (fun s => s.mbxOtp b.val)) := rfl
theorem exec_boltNow (b : Mbx) (s : State) :
    exec (.boltNow b) s = .next (s.serveMbx b.val 0x0008 (fun s => s.doBolt.mbxFinish b.val RES_OK 0 [])) := rfl
theorem exec_holdRelease (b : Mbx) (c : Bool) (s : State) :
    exec (.holdRelease b c) s = .next (s.serveMbx b.val 0x0050 (fun s => s.mbxHoldRelease b.val c)) := rfl
theorem exec_slNonce (b : Mbx) (s : State) : exec (.slNonce b) s = .next (s.serveMbx b.val 0x0060 (fun s => s.mbxSlNonce b.val)) := rfl
theorem exec_slGrant (b : Mbx) (s : State) : exec (.slGrant b) s = .next (s.serveMbx b.val 0x0061 (fun s => s.mbxSlGrant b.val)) := rfl
theorem exec_slGrantEnd (s : State) :
    exec .slGrantEnd s = .next (if s.grantActive then (s.toAclk (s.reg (boltPg 6 + 0x108))).endGrant else s) := rfl
theorem exec_bolt (p : PageReq) (s : State) :
    exec (.bolt p) s = .next (s.regCommand p true (· == .bolt0) (fun o v => o == 0x100 && bitN v 0)) := rfl

section
variable {s : State} {b result fixed : Nat} {out : List Word}

/-- A reply keeps all that the Ward holds but the mailbox's own state. -/
theorem State.mbxFinish_ward : { (s.mbxFinish b result fixed out).ward with mbx := s.ward.mbx } = s.ward :=
  (State.mbxFinish_frame (s := s) (b := b) (result := result) (fixed := fixed) (out := out)).2

theorem State.mbxFinish_keys : (s.mbxFinish b result fixed out).ward.keys = s.ward.keys :=
  (congrArg WardState.keys (State.mbxFinish_ward (s := s) (b := b) (result := result) (fixed := fixed) (out := out)) :)

theorem State.mbxFinish_otp : (s.mbxFinish b result fixed out).ward.otp = s.ward.otp :=
  (congrArg WardState.otp (State.mbxFinish_ward (s := s) (b := b) (result := result) (fixed := fixed) (out := out)) :)

theorem State.mbxFinish_nonces : (s.mbxFinish b result fixed out).ward.nonces = s.ward.nonces :=
  (congrArg WardState.nonces (State.mbxFinish_ward (s := s) (b := b) (result := result) (fixed := fixed) (out := out)) :)

theorem State.mbxFinish_free : (s.mbxFinish b result fixed out).free = s.free :=
  (congrArg State.free (State.mbxFinish_frame (s := s) (b := b) (result := result) (fixed := fixed) (out := out)).1 :)

end

-- keys (R81, R89)

/-- Nothing stands in the way of a key's change but lines in caches (R81). -/
def State.keyCalm (s : State) (k : Nat) : Prop :=
  s.keyNamed k = false ∧ s.keyInFlight (Fin.ofNat 4096 k) = false ∧ s.keyHeld (Fin.ofNat 4096 k) = false

section
variable {s : State} {b k : Nat} {f : State → State}

theorem State.mbxKey_named (h0 : 0 < k) (hk : k < 4096) (hnamed : s.keyNamed k = true) : s.mbxKey b k f = s.mbxFinish b RES_INUSE 0 [] := by
  unfold State.mbxKey
  rw [if_neg (by omega), if_pos hnamed]

theorem State.mbxKey_cached (h0 : 0 < k) (hk : k < 4096) (hcalm : s.keyCalm k) (hcached : s.keyCached (Fin.ofNat 4096 k) = true) :
    s.mbxKey b k f = s.purgeKey (Fin.ofNat 4096 k) := by
  obtain ⟨hnamed, hflight, hheld⟩ := hcalm
  unfold State.mbxKey
  rw [if_neg (by omega), hnamed, hflight, hheld, hcached]
  rfl

theorem State.mbxKey_idle (h0 : 0 < k) (hk : k < 4096) (hcalm : s.keyCalm k) (hcached : s.keyCached (Fin.ofNat 4096 k) = false) :
    s.mbxKey b k f = (f s).mbxFinish b RES_OK 0 [] := by
  obtain ⟨hnamed, hflight, hheld⟩ := hcalm
  unfold State.mbxKey
  rw [if_neg (by omega), hnamed, hflight, hheld, hcached]
  rfl

theorem State.reg_loadKey (s : State) (k : Nat) (v : BitVec 512) (a : Nat) : (s.loadKey k v).reg a = s.reg a := rfl

theorem State.get_loadKey (s : State) (k : Nat) (v : BitVec 512) :
    Tab.get 0 (s.loadKey k v).ward.keys k = v ∧ ∀ j, j ≠ k → Tab.get 0 (s.loadKey k v).ward.keys j = Tab.get 0 s.ward.keys j :=
  ⟨Tab.get_set_self .., fun _ hj => Tab.get_set_ne _ _ _ _ (Ne.symm hj)⟩

end

section
variable {s : State} {b : Mbx} (hb : b.val < 8)
include hb

theorem gives_keyGen (hasked : Asked s b.val 0x20) (h0 : 0 < s.mbxIn b.val 1) (hk : s.mbxIn b.val 1 < 4096) (hcalm : s.keyCalm (s.mbxIn b.val 1))
    (hcached : s.keyCached (Fin.ofNat 4096 (s.mbxIn b.val 1)) = false) : Gives (.keyGen b) s fun t =>
      Published s t b.val 0 [] ∧ Tab.get 0 t.ward.keys (s.mbxIn b.val 1) = Config.freeValue 512 s.free ∧ t.free = s.free + 1 ∧
      ∀ j, j ≠ s.mbxIn b.val 1 → Tab.get 0 t.ward.keys j = Tab.get 0 s.ward.keys j := by
  refine gives_served (exec_keyGen b s) hasked ?_
  unfold State.mbxKeyGen
  dsimp only
  rw [State.mbxKey_idle h0 hk hcalm hcached, State.mbxFinish_keys, State.mbxFinish_free]
  obtain ⟨hkey, hothers⟩ := (s.draw 512).2.get_loadKey (s.mbxIn b.val 1) (Config.freeValue 512 s.free)
  exact ⟨State.mbxFinish_publishes rfl (.inl hb) (by decide) (by decide), hkey, rfl, hothers⟩

theorem gives_keyGen_named (hasked : Asked s b.val 0x20) (h0 : 0 < s.mbxIn b.val 1) (hk : s.mbxIn b.val 1 < 4096)
    (hnamed : s.keyNamed (s.mbxIn b.val 1) = true) : Gives (.keyGen b) s fun t => Published s t b.val 4 [] ∧ t.ward.keys = s.ward.keys := by
  refine gives_served (exec_keyGen b s) hasked ?_
  unfold State.mbxKeyGen
  dsimp only
  rw [State.mbxKey_named h0 hk hnamed]
  exact ⟨State.mbxFinish_published (.inl hb) (by decide) (by decide), State.mbxFinish_keys⟩

theorem gives_keyErase (hasked : Asked s b.val 0x22) (h0 : 0 < s.mbxIn b.val 1) (hk : s.mbxIn b.val 1 < 4096) (hcalm : s.keyCalm (s.mbxIn b.val 1))
    (hcached : s.keyCached (Fin.ofNat 4096 (s.mbxIn b.val 1)) = false) : Gives (.keyErase b) s fun t =>
      Published s t b.val 0 [] ∧ Tab.get 0 t.ward.keys (s.mbxIn b.val 1) = 0 := by
  refine gives_served (exec_keyErase b s) hasked ?_
  unfold State.mbxKeyErase
  dsimp only
  rw [State.mbxKey_idle h0 hk hcalm hcached, State.mbxFinish_keys]
  exact ⟨State.mbxFinish_publishes (s.reg_loadKey ..) (.inl hb) (by decide) (by decide), (s.get_loadKey (s.mbxIn b.val 1) 0).1⟩

section
variable (hasked : Asked s b.val 0x21) (hslot : s.mbxIn b.val 2 < 8) (hwritten : (s.otpSlot (s.mbxIn b.val 2)).written = true)
  (htype : (s.otpSlot (s.mbxIn b.val 2)).type = 2)
include hasked hslot hwritten htype

omit hb hasked in
theorem State.mbxKeyImport_wrap : s.mbxKeyImport b.val = match s.unwrapped b.val 3 (s.mbxIn b.val 2) with
    | none => s.mbxFinish b.val RES_AUTH 0 []
    | some v => s.mbxKey b.val (s.mbxIn b.val 1) (fun s => s.loadKey (s.mbxIn b.val 1) v) := by
  unfold State.mbxKeyImport
  dsimp only
  rw [if_neg (by omega), hwritten, htype]
  rfl

/-- R89: a key whose words pass the integrity check under the slot's key is loaded. -/
theorem gives_keyImport (h0 : 0 < s.mbxIn b.val 1) (hk : s.mbxIn b.val 1 < 4096) (hcalm : s.keyCalm (s.mbxIn b.val 1))
    (hcached : s.keyCached (Fin.ofNat 4096 (s.mbxIn b.val 1)) = false) {v : List Nat}
    (hkey : keyUnwrap (s.otpSlot (s.mbxIn b.val 2)).key 8 (s.inBytes b.val 3 9) = some v) : Gives (.keyImport b) s fun t =>
      Published s t b.val 0 [] ∧ Tab.get 0 t.ward.keys (s.mbxIn b.val 1) = BitVec.ofNat 512 (bytesNat v) ∧
      ∀ j, j ≠ s.mbxIn b.val 1 → Tab.get 0 t.ward.keys j = Tab.get 0 s.ward.keys j := by
  refine gives_served (exec_keyImport b s) hasked ?_
  have hunwrapped : s.unwrapped b.val 3 (s.mbxIn b.val 2) = some (BitVec.ofNat 512 (bytesNat v)) := by
    unfold State.unwrapped
    rw [hkey]
    rfl
  rw [State.mbxKeyImport_wrap hslot hwritten htype, hunwrapped]
  dsimp only
  rw [State.mbxKey_idle h0 hk hcalm hcached, State.mbxFinish_keys]
  obtain ⟨hloaded, hothers⟩ := s.get_loadKey (s.mbxIn b.val 1) (BitVec.ofNat 512 (bytesNat v))
  exact ⟨State.mbxFinish_publishes rfl (.inl hb) (by decide) (by decide), hloaded, hothers⟩

theorem gives_keyImport_fails (hkey : keyUnwrap (s.otpSlot (s.mbxIn b.val 2)).key 8 (s.inBytes b.val 3 9) = none) :
    Gives (.keyImport b) s fun t => Published s t b.val 8 [] ∧ t.ward.keys = s.ward.keys := by
  refine gives_served (exec_keyImport b s) hasked ?_
  have hunwrapped : s.unwrapped b.val 3 (s.mbxIn b.val 2) = none := by
    unfold State.unwrapped
    rw [hkey]
    rfl
  rw [State.mbxKeyImport_wrap hslot hwritten htype, hunwrapped]
  exact ⟨State.mbxFinish_published (.inl hb) (by decide) (by decide), State.mbxFinish_keys⟩

end
end

-- lines of a key index leave every cache (R81)

/-- From `s` to `t` nothing has changed but harts, cores, clusters, slices and what leaves for the mesh. -/
def PurgesOnly (s t : State) : Prop :=
  { t with harts := s.harts, cores := s.cores, clusters := s.clusters, slices := s.slices, out := s.out } = s

namespace PurgesOnly

variable {s t u : State}

theorem refl (s : State) : PurgesOnly s s := rfl

theorem trans (h : PurgesOnly s t) (h' : PurgesOnly t u) : PurgesOnly s u := by
  unfold PurgesOnly at *
  calc ({ u with harts := s.harts, cores := s.cores, clusters := s.clusters, slices := s.slices, out := s.out } : State)
      = { ({ u with harts := t.harts, cores := t.cores, clusters := t.clusters, slices := t.slices, out := t.out } : State) with
          harts := s.harts, cores := s.cores, clusters := s.clusters, slices := s.slices, out := s.out } := rfl
    _ = s := by rw [h', h]

theorem ofCaches (h : CachesOnly s t) : PurgesOnly s t := by
  unfold PurgesOnly
  have hframe := h.rest
  calc ({ t with harts := s.harts, cores := s.cores, clusters := s.clusters, slices := s.slices, out := s.out } : State)
      = { ({ t with cores := s.cores, clusters := s.clusters, out := s.out } : State) with harts := s.harts, slices := s.slices } := rfl
    _ = s := by rw [hframe]

theorem setHart (s : State) (h : Nat) (v : HartState) : PurgesOnly s (s.setHart h v) := rfl
theorem setSlice (s : State) (c : Nat) (v : Slice) : PurgesOnly s (s.setSlice c v) := rfl
theorem setCluster (s : State) (c : Nat) (v : Cluster) : PurgesOnly s (s.setCluster c v) := rfl
theorem sendAt (s : State) (u : Nat) (f : Flit) : PurgesOnly s (s.sendAt u f) := rfl

/-- Such steps, one after another. -/
theorem fold {α : Type} {f : State → α → State} (hf : ∀ s a, PurgesOnly s (f s a)) : ∀ (l : List α) (s : State), PurgesOnly s (l.foldl f s)
  | [], s => refl s
  | a :: l, s => (hf s a).trans (fold hf l (f s a))

end PurgesOnly

theorem State.snoopShadow_purges (s : State) (c : Nat) (f : Flit) : PurgesOnly s (s.snoopShadow c f) := by
  unfold State.snoopShadow
  refine .fold (fun t h => ?_) _ s
  dsimp only
  split
  · split
    · exact (PurgesOnly.setHart ..).trans (.sendAt ..)
    · exact .setHart ..
  · exact .setHart ..

theorem State.loseResv_purges (s : State) (c l : Nat) : PurgesOnly s (s.loseResv c l) := by
  unfold State.loseResv
  refine .fold (fun t h => ?_) _ s
  dsimp only
  split
  · split
    · exact .setHart ..
    · exact .refl t
  · exact .refl t

theorem State.refetch_purges (s : State) (ks : List Nat) : PurgesOnly s (s.refetch ks) := by
  unfold State.refetch
  refine .fold (fun t k => ?_) _ s
  split
  · exact .refl t
  · rename_i h _
    have hcount : PurgesOnly t (t.hpm h 0x41 0 false) := .setHart ..
    dsimp only
    split
    · exact hcount.trans (.setHart ..)
    · exact hcount.trans (.setHart ..)
    · exact hcount

theorem State.pullLine_purges (s : State) (k l : Nat) : PurgesOnly s (s.pullLine k l).1 := by
  unfold State.pullLine
  dsimp only
  have h0 : PurgesOnly s ((s.snoopShadow k (mkFlit .snp 0 2 (tileStop k) 1 0 OP_SNPINV 0 (64 * l))).cleanL1 k l) :=
    (s.snoopShadow_purges ..).trans (.ofCaches (State.cleanL1_caches ..))
  split
  · exact h0
  · exact (((h0.trans (.setCluster ..)).trans (.ofCaches (State.dropL1_caches ..))).trans (State.loseResv_purges ..)).trans (State.refetch_purges ..)

/-- A write of a line to memory is only sent. -/
theorem State.writeback_purges (s : State) (c id pa : Nat) (data : Line) (poison : Bool) (key : KeyIx) (cls : Cls) :
    PurgesOnly s (s.writeback c id pa data poison key cls).1 ∧ (s.writeback c id pa data poison key cls).1.slices = s.slices := by
  have hslices : ∀ (u : Nat) (g : Nat → Flit) (ms : List Nat) (s : State), (ms.foldl (fun s m => s.sendAt u (g m)) s).slices = s.slices := by
    intro u g ms
    induction ms with
    | nil => intro s; rfl
    | cons m ms ih => intro s; exact ih _
  unfold State.writeback State.writebackAt
  dsimp only
  split
  · exact ⟨.refl s, rfl⟩
  · exact ⟨.sendAt .., rfl⟩
  · exact ⟨.fold (fun t m => .sendAt ..) _ s, hslices _ _ _ _⟩

theorem State.writebackAlone_purges (s : State) (c l : Nat) (data : Line) (poison : Bool) (key : KeyIx) (cls : Cls) :
    PurgesOnly s (s.writebackAlone c l data poison key cls) ∧ ∀ j, j ≠ c → (s.writebackAlone c l data poison key cls).slice j = s.slice j := by
  unfold State.writebackAlone
  obtain ⟨hpurges, hslices⟩ := s.writeback_purges c UNTRACKED (64 * l) data poison key cls
  generalize s.writeback c UNTRACKED (64 * l) data poison key cls = r at *
  refine ⟨hpurges.trans (.setSlice ..), fun j hj => ?_⟩
  rw [State.slice_setSlice_ne _ _ (Ne.symm hj)]
  unfold State.slice
  rw [hslices]

theorem State.pulledHome_purges (s : State) (c l : Nat) (w : Option L2Line) : PurgesOnly s (s.pulledHome c l w) := by
  unfold State.pulledHome
  split
  · exact (State.writebackAlone_purges ..).1.trans (.setSlice ..)
  · exact .refl s

/-- Slice c writes back the modified ones of the lines listed. -/
def State.writebackWays (s : State) (c : Nat) (l : Tab DataWay) : State :=
  l.foldl (fun s e => if e.2.dirty then s.writebackAlone c e.2.line e.2.data e.2.poison e.2.key e.2.cls else s) s

theorem State.writebackWays_spec (s : State) (c : Nat) (l : Tab DataWay) :
    PurgesOnly s (s.writebackWays c l) ∧ ∀ j, j ≠ c → (s.writebackWays c l).slice j = s.slice j := by
  unfold State.writebackWays
  induction l generalizing s with
  | nil => exact ⟨.refl s, fun _ _ => rfl⟩
  | cons e l ih =>
    rw [List.foldl_cons]
    split
    · obtain ⟨hone, hsame⟩ := s.writebackAlone_purges c e.2.line e.2.data e.2.poison e.2.key e.2.cls
      obtain ⟨hrest, hsames⟩ := ih (s.writebackAlone c e.2.line e.2.data e.2.poison e.2.key e.2.cls)
      exact ⟨hone.trans hrest, fun j hj => (hsames j hj).trans (hsame j hj)⟩
    · exact ih s

/-- Slice c writes back its lines of key index k, and drops them. -/
def State.purgeSlice (k : KeyIx) (s : State) (c : Nat) : State :=
  let s' := s.writebackWays c ((s.slice c).ways.filter (fun e => e.2.key == k))
  s'.setSlice c { s'.slice c with ways := (s'.slice c).ways.filter (fun e => e.2.key != k) }

theorem State.purgeSlice_spec (k : KeyIx) (s : State) (c : Nat) : PurgesOnly s (s.purgeSlice k c) ∧
    (∀ e ∈ ((s.purgeSlice k c).slice c).ways, e.2.key ≠ k) ∧ ∀ j, j ≠ c → (s.purgeSlice k c).slice j = s.slice j := by
  unfold State.purgeSlice
  obtain ⟨hpurges, hsame⟩ := s.writebackWays_spec c ((s.slice c).ways.filter (fun e => e.2.key == k))
  generalize s.writebackWays c ((s.slice c).ways.filter (fun e => e.2.key == k)) = t at *
  refine ⟨hpurges.trans (.setSlice ..), fun e he => ?_, fun j hj => (State.slice_setSlice_ne _ _ (Ne.symm hj)).trans (hsame j hj)⟩
  rw [State.slice_setSlice] at he
  simpa using (List.mem_filter.mp he).2

/-- Slices purged one after another hold no line of the key index. -/
theorem State.purgeSlice_foldl (k : KeyIx) (l : List Nat) (s : State) : PurgesOnly s (l.foldl (State.purgeSlice k) s) ∧
    ∀ c, (c ∈ l ∨ ∀ e ∈ (s.slice c).ways, e.2.key ≠ k) → ∀ e ∈ ((l.foldl (State.purgeSlice k) s).slice c).ways, e.2.key ≠ k := by
  induction l generalizing s with
  | nil => exact ⟨.refl s, fun c h => h.elim (fun hc => absurd hc List.not_mem_nil) id⟩
  | cons i l ih =>
    obtain ⟨hone, hnone, hsame⟩ := State.purgeSlice_spec k s i
    obtain ⟨hrest, hnones⟩ := ih (State.purgeSlice k s i)
    rw [List.foldl_cons]
    refine ⟨hone.trans hrest, fun c hc => hnones c ?_⟩
    by_cases hi : c = i
    · subst hi
      exact .inr hnone
    · rw [hsame c hi]
      exact hc.imp_left fun h => (List.mem_cons.mp h).resolve_left hi

/-- Cluster c gives up its lines of key index k, the modified ones to their homes. -/
def State.purgeCluster (k : KeyIx) (s : State) (c : Nat) : State :=
  ((s.cluster c).l2.filter (fun e => e.2.key == k)).foldl (fun s e =>
    (s.pullLine c e.1).1.pulledHome (s.homeOf (64 * e.1)) e.1 (s.pullLine c e.1).2) s

theorem State.purgeCluster_purges (k : KeyIx) (s : State) (c : Nat) : PurgesOnly s (s.purgeCluster k c) := by
  unfold State.purgeCluster
  refine .fold (fun t e => ?_) _ s
  have hpull := t.pullLine_purges c e.1
  generalize t.pullLine c e.1 = r at hpull ⊢
  exact hpull.trans (State.pulledHome_purges ..)

theorem State.purgeKey_eq (s : State) (k : KeyIx) :
    s.purgeKey k = (List.range 96).foldl (State.purgeSlice k) ((List.range 96).foldl (State.purgeCluster k) s) := by
  unfold State.purgeKey
  generalize List.range 96 = l
  rfl

theorem State.purgeKey_spec (s : State) (k : KeyIx) :
    PurgesOnly s (s.purgeKey k) ∧ ∀ c, c < 96 → ∀ e ∈ ((s.purgeKey k).slice c).ways, e.2.key ≠ k := by
  rw [State.purgeKey_eq]
  have hclusters : PurgesOnly s ((List.range 96).foldl (State.purgeCluster k) s) := .fold (State.purgeCluster_purges k) _ s
  obtain ⟨hslices, hnone⟩ := State.purgeSlice_foldl k (List.range 96) ((List.range 96).foldl (State.purgeCluster k) s)
  exact ⟨hclusters.trans hslices, fun c hc => hnone c (.inl (List.mem_range.mpr hc))⟩

/-- R81: lines of the key index are written back and dropped, and the request goes on. -/
theorem gives_keyGen_cached {s : State} {b : Mbx} (hasked : Asked s b.val 0x20) (h0 : 0 < s.mbxIn b.val 1) (hk : s.mbxIn b.val 1 < 4096)
    (hcalm : s.keyCalm (s.mbxIn b.val 1)) (hcached : s.keyCached (Fin.ofNat 4096 (s.mbxIn b.val 1)) = true) : Gives (.keyGen b) s fun t =>
      t.ward.keys = s.ward.keys ∧ t.fld (mbxPg b.val) R.WARD_MBX_STATUS_STATE = 2 ∧
      ∀ c, c < 96 → ∀ e ∈ (t.slice c).ways, e.2.key ≠ Fin.ofNat 4096 (s.mbxIn b.val 1) := by
  refine gives_served (exec_keyGen b s) hasked ?_
  unfold State.mbxKeyGen
  dsimp only
  rw [State.mbxKey_cached h0 hk hcalm hcached]
  obtain ⟨hframe, hnone⟩ := s.purgeKey_spec (Fin.ofNat 4096 (s.mbxIn b.val 1))
  generalize s.purgeKey (Fin.ofNat 4096 (s.mbxIn b.val 1)) = t at *
  unfold PurgesOnly at hframe
  have hregs : t.regs = s.regs := (congrArg State.regs hframe :)
  refine ⟨(congrArg (fun u => u.ward.keys) hframe :), ?_, hnone⟩
  unfold State.fld State.reg
  rw [hregs]
  exact hasked.1

end Sys2Proof.Machine

/-! OTP slots, bolting, HOLD_RELEASE and Safelight grants (R83, R93, R96, R101, R103, R104). -/

namespace Sys2Proof.Machine
open Safety

-- words in a number (R5)

/-- The number whose 64-bit words, lowest first, are x 0 to x (n - 1). -/
def wordsNat (x : Nat → Nat) (n : Nat) : Nat := (List.range n).foldl (fun v j => v + x j <<< (64 * j)) 0

theorem wordsNat_succ (x : Nat → Nat) (n : Nat) : wordsNat x (n + 1) = wordsNat x n + x n * 2 ^ (64 * n) := by
  unfold wordsNat
  rw [List.range_succ, List.foldl_append, List.foldl_cons, List.foldl_nil, Nat.shiftLeft_eq]

theorem wordsNat_lt {x : Nat → Nat} (hx : ∀ j, x j < 2 ^ 64) (n : Nat) : wordsNat x n < 2 ^ (64 * n) := by
  induction n with
  | zero => exact Nat.one_pos
  | succ n ih =>
    have hpow : 2 ^ (64 * (n + 1)) = 2 ^ 64 * 2 ^ (64 * n) := by rw [← pow_add]; congr 1; omega
    rw [wordsNat_succ, hpow]
    calc wordsNat x n + x n * 2 ^ (64 * n) < (x n + 1) * 2 ^ (64 * n) := by rw [Nat.add_mul, Nat.one_mul]; omega
      _ ≤ 2 ^ 64 * 2 ^ (64 * n) := Nat.mul_le_mul_right _ (hx n)

theorem wordsNat_word {x : Nat → Nat} (hx : ∀ j, x j < 2 ^ 64) {n w : Nat} (hw : w < n) : wordsNat x n / 2 ^ (64 * w) % 2 ^ 64 = x w := by
  induction n with
  | zero => cases hw
  | succ n ih =>
    rw [wordsNat_succ]
    rcases Nat.lt_succ_iff_lt_or_eq.mp hw with hlow | rfl
    · obtain ⟨d, rfl⟩ : ∃ d, n = w + 1 + d := ⟨n - (w + 1), by omega⟩
      have hpow : x (w + 1 + d) * 2 ^ (64 * (w + 1 + d)) = 2 ^ (64 * w) * (2 ^ 64 * (x (w + 1 + d) * 2 ^ (64 * d))) := by
        rw [show 64 * (w + 1 + d) = 64 * w + 64 + 64 * d by omega, pow_add, pow_add]
        ring
      rw [hpow, Nat.add_mul_div_left _ _ (by positivity), Nat.add_mul_mod_self_left, ih hlow]
    · rw [Nat.add_mul_div_right _ _ (by positivity), Nat.div_eq_of_lt (wordsNat_lt hx w), Nat.zero_add, Nat.mod_eq_of_lt (hx w)]

/-- Word w of a 384-bit value made of words. -/
theorem word_ofNat384 {x : Nat → Nat} (hx : ∀ j, x j < 2 ^ 64) {w : Nat} (hw : w < 6) :
    ((BitVec.ofNat 384 (wordsNat x 6)) >>> (64 * w)).setWidth 64 = w64 (x w) := by
  have hlt : wordsNat x 6 < 2 ^ 384 := wordsNat_lt hx 6
  refine BitVec.eq_of_toNat_eq ?_
  rw [BitVec.toNat_setWidth, BitVec.toNat_ushiftRight, BitVec.toNat_ofNat, Nat.mod_eq_of_lt hlt, Nat.shiftRight_eq_div_pow, wordsNat_word hx hw]
  exact (Nat.mod_eq_of_lt (hx w)).symm

/-- A value of 256 bits keeps its four words. -/
theorem word_setWidth256 (v : BitVec 384) {w : Nat} (hw : w < 4) :
    (((v.setWidth 256).setWidth 384) >>> (64 * w)).setWidth 64 = (v >>> (64 * w)).setWidth 64 := by
  ext i hi
  simp only [BitVec.getElem_setWidth, BitVec.getLsbD_ushiftRight, BitVec.getLsbD_setWidth]
  have h1 : 64 * w + i < 256 := by omega
  have h2 : 64 * w + i < 384 := by omega
  simp [h1, h2]

-- OTP slots (R83)

/-- The slot that OTP_PROVISION writes. -/
def State.otpGiven (s : State) (b : Nat) : OtpSlot :=
  let value := BitVec.ofNat 384 (wordsNat (fun j => s.mbxIn b (3 + j)) 6)
  ⟨true, Fin.ofNat 4 (s.mbxIn b 2), if s.mbxIn b 2 = 2 then (value.setWidth 256).setWidth 384 else value⟩

theorem State.otpGiven_word (s : State) (b : Nat) {w : Nat} (hw : w < if s.mbxIn b 2 = 2 then 4 else 6) :
    ((s.otpGiven b).value >>> (64 * w)).setWidth 64 = w64 (s.mbxIn b (3 + w)) := by
  have hx : ∀ j, s.mbxIn b (3 + j) < 2 ^ 64 := fun j => s.reg_lt _
  unfold State.otpGiven
  dsimp only
  split at hw
  · rename_i htype
    rw [if_pos htype, word_setWidth256 _ hw, word_ofNat384 hx (by omega)]
  · rename_i htype
    rw [if_neg htype, word_ofNat384 hx hw]

theorem State.mbxOtp_eq (s : State) (b : Nat) : s.mbxOtp b =
    if 8 ≤ s.mbxIn b 1 ∨ 4 ≤ s.mbxIn b 2 then s.mbxFinish b RES_BADARG 0 []
    else if s.bolted || (s.otpSlot (s.mbxIn b 1)).written then s.mbxFinish b RES_BOLTED 0 []
    else State.mbxFinish { s with ward := { s.ward with otp := Tab.set {} s.ward.otp (s.mbxIn b 1) (s.otpGiven b) } } b RES_OK 0 [] := by
  unfold State.mbxOtp State.otpGiven wordsNat
  rfl

section
variable {s : State} {b : Mbx} (hb : b.val < 8)
include hb

section
variable (hasked : Asked s b.val 0x02) (hi : s.mbxIn b.val 1 < 8) (htype : s.mbxIn b.val 2 < 4)
include hasked hi htype

theorem gives_otpProvision (hopen : s.bolted = false) (hfree : (s.otpSlot (s.mbxIn b.val 1)).written = false) : Gives (.otpProvision b) s fun t =>
    Published s t b.val 0 [] ∧ (t.otpSlot (s.mbxIn b.val 1)).written = true ∧ (t.otpSlot (s.mbxIn b.val 1)).type.val = s.mbxIn b.val 2 ∧
    (∀ w, w < (if s.mbxIn b.val 2 = 2 then 4 else 6) →
      ((t.otpSlot (s.mbxIn b.val 1)).value >>> (64 * w)).setWidth 64 = w64 (s.mbxIn b.val (3 + w))) ∧
    ∀ j, j ≠ s.mbxIn b.val 1 → t.otpSlot j = s.otpSlot j := by
  refine gives_served (exec_otpProvision b s) hasked ?_
  rw [State.mbxOtp_eq, if_neg (by omega), hopen, hfree, Bool.or_false, if_neg Bool.false_ne_true]
  generalize hu : ({ s with ward := { s.ward with otp := Tab.set {} s.ward.otp (s.mbxIn b.val 1) (s.otpGiven b.val) } } : State) = u
  have hslots (j : Nat) : (u.mbxFinish b.val RES_OK 0 []).otpSlot j = Tab.get {} (Tab.set {} s.ward.otp (s.mbxIn b.val 1) (s.otpGiven b.val)) j := by
    unfold State.otpSlot
    rw [State.mbxFinish_otp, ← hu]
  have hslot : (u.mbxFinish b.val RES_OK 0 []).otpSlot (s.mbxIn b.val 1) = s.otpGiven b.val := (hslots _).trans (Tab.get_set_self ..)
  rw [hslot]
  exact ⟨State.mbxFinish_publishes (by rw [← hu]; rfl) (.inl hb) (by decide) (by decide), rfl, Nat.mod_eq_of_lt htype,
    fun w hw => s.otpGiven_word b.val hw, fun j hj => (hslots j).trans (Tab.get_set_ne _ _ _ _ (Ne.symm hj))⟩

theorem gives_otpProvision_bolted (hclosed : s.bolted = true ∨ (s.otpSlot (s.mbxIn b.val 1)).written = true) :
    Gives (.otpProvision b) s fun t => Published s t b.val 5 [] ∧ t.ward.otp = s.ward.otp := by
  refine gives_served (exec_otpProvision b s) hasked ?_
  rw [State.mbxOtp_eq, if_neg (by omega), if_pos (Bool.or_eq_true _ _ ▸ hclosed)]
  exact ⟨State.mbxFinish_published (.inl hb) (by decide) (by decide), State.mbxFinish_otp⟩

end

-- bolting (R93, R96)

omit hb in
theorem State.bolted_doBolt (s : State) : s.doBolt.bolted = true := State.flag_setFld _ _ _ _ rfl (by decide)

theorem gives_boltNow (hasked : Asked s b.val 0x08) : Gives (.boltNow b) s fun t => t.bolted = true ∧ Published s t b.val 0 [] := by
  refine gives_served (exec_boltNow b s) hasked ?_
  have hbase := mbxPg_eq b.val
  have hbolt : boltPg 0 + 0x100 = 0x40680100 := by decide
  have hkept : (s.doBolt.mbxFinish b.val RES_OK 0 []).reg (boltPg 0 + 0x100) = s.doBolt.reg (boltPg 0 + 0x100) :=
    State.reg_mbxFinish_off b.isLt (by decide) (.inr (by omega))
  refine ⟨(congrArg (fun w => bits w 0 0 == 1) hkept).trans s.bolted_doBolt, State.mbxFinish_publishes ?_ (.inl hb) (by decide) (by decide)⟩
  exact State.reg_setFld_ne _ _ (by simp only [R.BOLT_CTL_BOLT]; omega)

-- HOLD_RELEASE (R101)

/-- Whether a carve-out of the channel at stop n is enabled (R94). -/
def State.carvedStop (s : State) (n : Nat) : Bool :=
  match stopMc? n with
  | some m => (List.range 16).any (fun i => s.flag (boltPg (4 + m / 8)) (R.BOLT_CARVE_BASE_EN.nth (16 * (m % 8) + i)))
  | none => false

omit hb in
theorem State.mbxHoldRelease_eq (s : State) (b : Nat) (consent : Bool) : s.mbxHoldRelease b consent =
    if 120 ≤ s.mbxIn b 1 then s.mbxFinish b RES_BADARG 0 []
    else if s.carvedStop (s.mbxIn b 1) || !consent then s.mbxFinish b RES_DENIED 0 []
    else (s.setFld (hingePg (s.mbxIn b 1)) R.KW_HOLD_COUNT 0).mbxFinish b RES_OK 0 [0] := rfl

omit hb in
theorem hingePg_off (n : Nat) : OffMailboxes (hingePg n + 0x128) := by
  have hbase := pageBase_eq n 0
  unfold OffMailboxes hingePg
  omega

omit hb in
/-- The hold count is read from one register, off the mailboxes. -/
theorem State.fld_mbxFinish_hold {u : State} {n result : Nat} {out : List Word} (hlen : out.length < 2 ^ 8) :
    (u.mbxFinish b.val result 0 out).fld (hingePg n) R.KW_HOLD_COUNT = u.fld (hingePg n) R.KW_HOLD_COUNT :=
  congrArg (fun w => bits w 7 0) (State.reg_mbxFinish_off b.isLt hlen (hingePg_off n))

section
variable (hasked : Asked s b.val 0x50) (hi : s.mbxIn b.val 1 < 120)
include hasked hi

theorem gives_holdRelease (hfree : s.carvedStop (s.mbxIn b.val 1) = false) : Gives (.holdRelease b true) s fun t =>
    Published s t b.val 0 [0] ∧ t.fld (hingePg (s.mbxIn b.val 1)) R.KW_HOLD_COUNT = 0 := by
  refine gives_served (exec_holdRelease b true s) hasked ?_
  have hbase := mbxPg_eq b.val
  have hoff := hingePg_off (s.mbxIn b.val 1)
  rw [State.mbxHoldRelease_eq, if_neg (by omega), hfree, if_neg (by decide), State.fld_mbxFinish_hold (by decide),
    State.fld_setFld _ _ _ _ (by decide) (by decide)]
  refine ⟨State.mbxFinish_publishes (State.reg_setFld_ne _ _ ?_) (.inl hb) (by decide) (by decide), Nat.zero_mod _⟩
  unfold OffMailboxes at hoff
  simp only [R.KW_HOLD_COUNT]
  omega

theorem gives_holdRelease_denied {consent : Bool} (hno : (s.carvedStop (s.mbxIn b.val 1) || !consent) = true) : Gives (.holdRelease b consent) s fun t =>
    Published s t b.val 2 [] ∧ t.fld (hingePg (s.mbxIn b.val 1)) R.KW_HOLD_COUNT = s.fld (hingePg (s.mbxIn b.val 1)) R.KW_HOLD_COUNT := by
  refine gives_served (exec_holdRelease b consent s) hasked ?_
  rw [State.mbxHoldRelease_eq, if_neg (by omega), if_pos hno]
  exact ⟨State.mbxFinish_published (.inl hb) (by decide) (by decide), State.fld_mbxFinish_hold (by decide)⟩

end

end

/-- No carve-out is enabled where none of the channel's is. -/
theorem State.carvedStop_none {s : State} {n : Nat}
    (h : ∀ m j, stopMc? n = some m → j < 16 → s.flag (boltPg (4 + m / 8)) (R.BOLT_CARVE_BASE_EN.nth (16 * (m % 8) + j)) = false) : s.carvedStop n = false := by
  unfold State.carvedStop
  split
  · rename_i m hm
    rw [List.any_eq_false]
    intro j hj
    rw [h m j hm (List.mem_range.mp hj)]
    exact Bool.false_ne_true
  · rfl

theorem State.carvedStop_some {s : State} {n m j : Nat} (hm : stopMc? n = some m) (hj : j < 16)
    (h : s.flag (boltPg (4 + m / 8)) (R.BOLT_CARVE_BASE_EN.nth (16 * (m % 8) + j)) = true) : s.carvedStop n = true := by
  unfold State.carvedStop
  rw [hm]
  exact List.any_eq_true.mpr ⟨j, List.mem_range.mpr hj, h⟩

/-- R93: the Ward's own write of BOLT. -/
theorem gives_bolt {s : State} {p : PageReq} (h : Stores s p bolt0Page 0x100) (hward : p.who.path = .ward) (hset : p.data.getLsbD 0 = true) :
    Gives (.bolt p) s fun t => Answered s t p 0 ∧ t.bolted = true ∧ { t with resps := s.resps, regs := s.regs } = s := by
  refine ⟨_, exec_bolt p s, ?_⟩
  have hbit : bitN p.data.toNat 0 = true := (bitN_toNat ..).trans hset
  have heffect : s.regEffect bolt0Page 0x100 p.who (s.keptValue bolt0Page 0x100 p.data.toNat) =
      { admitted := p.who.path == .ward, act := .ok (if bitN p.data.toNat 0 then s.doBolt else s) } := rfl
  rw [hbit, if_pos rfl] at heffect
  rw [State.regCommand_names h.1 (writes_store h.2.1) rfl (by rw [hbit]; rfl), State.accessNow_stores h (t := s.doBolt)]
  · exact ⟨answered_respond, s.bolted_doBolt, respond_only _ (State.setFld_regs_frame ..)⟩
  · rw [heffect]
  · rw [heffect, hward]
    rfl
  · rw [heffect]

end Sys2Proof.Machine

/-! Safelight nonces and grants (R103, R104), and O30. -/

namespace Sys2Proof.Machine
open Safety

section
variable {s : State} {b : Mbx} (hb : 24 ≤ b.val)
include hb

theorem gives_slNonce (hasked : Asked s b.val 0x60) : Gives (.slNonce b) s fun t =>
    t.ward.nonces = s.ward.nonces ++ [⟨Config.freeValue 384 s.free, s.tb⟩] ∧ t.free = s.free + 1 ∧
    Published s t b.val 0 ((List.range 6).map (fun i => (Config.freeValue 384 s.free >>> (64 * i)).setWidth 64)) := by
  refine gives_served (exec_slNonce b s) hasked ?_
  unfold State.mbxSlNonce
  dsimp only
  rw [State.mbxFinish_nonces, State.mbxFinish_free]
  exact ⟨rfl, rfl, State.mbxFinish_publishes rfl (.inr (by omega)) (by decide) (by simp)⟩

end

-- a grant (R103, R104)

/-- The fields of a grant request that step 1 of R104 admits. -/
def GrantFields (s : State) (b : Nat) : Prop := s.mbxIn b 1 % 2 = 1 ∧ s.mbxIn b 1 < 4 ∧ 0 < s.mbxIn b 2 ∧ s.mbxIn b 2 ≤ 86400

/-- A nonce with which a grant request verifies, issued within 60 s (R104). -/
def GoodNonce (s : State) (b : Nat) (n : Nonce) : Prop := s.tb ≤ n.issued + 1500000000 ∧ s.grantSigned b n = true

/-- The state in which a grant begins: its nonce is used, and SL_GRANT and SL_GRANT_EXPIRY name it. -/
def State.grantBegun (s : State) (b : Nat) (n : Nonce) : State :=
  let s1 := { s with ward := { s.ward with nonces := s.ward.nonces.filter (· != n), grantNext := s.ward.grantNext + 1 } }
  (s1.setReg (boltPg 6 + 0x100) (2 ^ 63 + bits (s.mbxIn b 1) 1 1 * 2 ^ 62 + s.ward.grantNext % 2 ^ 16)).setReg (boltPg 6 + 0x108)
    (s.tb + s.mbxIn b 2 * 25000000)

theorem State.reg_draw (s : State) (w a : Nat) : (s.draw w).2.reg a = s.reg a := rfl

theorem State.reg_withWard (s : State) (w : WardState) (a : Nat) : ({ s with ward := w } : State).reg a = s.reg a := rfl

theorem State.reg_grantBegun (s : State) (b : Nat) (n : Nonce) :
    (s.grantBegun b n).reg (boltPg 6 + 0x100) = (2 ^ 63 + bits (s.mbxIn b 1) 1 1 * 2 ^ 62 + s.ward.grantNext % 2 ^ 16) % 2 ^ 64 ∧
    (s.grantBegun b n).reg (boltPg 6 + 0x108) = (s.tb + s.mbxIn b 2 * 25000000) % 2 ^ 64 ∧
    ∀ a, a < boltPg 6 → (s.grantBegun b n).reg a = s.reg a := by
  unfold State.grantBegun
  generalize boltPg 6 = pg
  dsimp only
  refine ⟨?_, State.reg_setReg .., fun a ha => ?_⟩
  · rw [State.reg_setReg_ne _ _ (by omega), State.reg_setReg]
  · rw [State.reg_setReg_ne _ _ (by omega), State.reg_setReg_ne _ _ (by omega), State.reg_withWard]

section
variable {s : State} {b : Nat}

theorem State.mbxSlGrant_checked (h : GrantFields s b) : s.mbxSlGrant b = match s.grantNonce b with
    | none => State.mbxFinish { s with ward := { s.ward with nonces := s.ward.nonces.dropLast } } b RES_AUTH 0 []
    | some n =>
      let x := (s.grantBegun b n).draw 14
      (x.2.record (boltPg 6) (x.1.toNat / 2 ^ 12) (0xA000 + x.1.toNat % 2 ^ 12) 0 0 false).mbxFinish b RES_OK 0 [w64 (s.ward.grantNext % 2 ^ 16)] := by
  obtain ⟨hodd, h4, h0, hday⟩ := h
  have hdur : bits (s.mbxIn b 2) 16 0 = s.mbxIn b 2 := by
    simp only [bits, Nat.shiftRight_zero]
    omega
  have hpass : ¬(bits (s.mbxIn b 1) 63 2 ≠ 0 ∨ bits (s.mbxIn b 2) 63 17 ≠ 0 ∨ (!bitN (s.mbxIn b 1) 0) = true ∨ bits (s.mbxIn b 2) 16 0 = 0 ∨
      86400 < bits (s.mbxIn b 2) 16 0) := by
    have hbit : bitN (s.mbxIn b 1) 0 = true := by
      rw [bitN, testBit_eq_bits]
      simp only [bits, Nat.shiftRight_zero]
      rw [beq_iff_eq]
      omega
    have hhigh1 : bits (s.mbxIn b 1) 63 2 = 0 := by
      simp only [bits, Nat.shiftRight_eq_div_pow]
      omega
    have hhigh2 : bits (s.mbxIn b 2) 63 17 = 0 := by
      simp only [bits, Nat.shiftRight_eq_div_pow]
      omega
    rw [hdur, hbit, hhigh1, hhigh2]
    simp only [Bool.not_true, Bool.false_eq_true, ne_eq, not_true_eq_false, false_or]
    omega
  unfold State.mbxSlGrant State.grantBegun
  dsimp only
  rw [if_neg hpass, hdur, Nat.shiftLeft_eq] <;> rfl

theorem State.grantNonce_some {n : Nonce} (hn : n ∈ s.ward.nonces) (hgood : GoodNonce s b n) (hone : ∀ m ∈ s.ward.nonces, m ≠ n → ¬ GoodNonce s b m) :
    s.grantNonce b = some n := by
  unfold State.grantNonce
  obtain ⟨m, hfind⟩ : ∃ m, s.ward.nonces.find? (fun n => decide (s.tb ≤ n.issued + 60 * 25000000) && s.grantSigned b n) = some m := by
    rw [← Option.isSome_iff_exists, List.find?_isSome]
    exact ⟨n, hn, by rw [hgood.2, Bool.and_true]; exact decide_eq_true hgood.1⟩
  have hm := List.find?_some hfind
  rw [Bool.and_eq_true, decide_eq_true_eq] at hm
  have heq : m = n := by
    by_contra hne
    exact hone m (List.mem_of_find?_eq_some hfind) hne hm
  rw [hfind, heq]

theorem State.grantNonce_none (hnone : ∀ n ∈ s.ward.nonces, ¬ GoodNonce s b n) : s.grantNonce b = none := by
  unfold State.grantNonce
  rw [List.find?_eq_none]
  intro n hn hgood
  rw [Bool.and_eq_true, decide_eq_true_eq] at hgood
  exact hnone n hn hgood

end

theorem grantWord_bits {w id : Nat} (hw : w < 4) (hid : id < 2 ^ 16) :
    bits ((2 ^ 63 + bits w 1 1 * 2 ^ 62 + id) % 2 ^ 64) 63 63 = 1 ∧ bits ((2 ^ 63 + bits w 1 1 * 2 ^ 62 + id) % 2 ^ 64) 62 62 = w / 2 := by
  simp only [bits, Nat.shiftRight_eq_div_pow]
  omega

section
variable {s : State} {b : Mbx} (hb : 24 ≤ b.val) (hasked : Asked s b.val 0x61) (hfields : GrantFields s b.val)
include hb hasked hfields

/-- R104: a request that verifies with one nonce begins a grant, and uses that nonce up. -/
theorem gives_slGrant {n : Nonce} (hn : n ∈ s.ward.nonces) (hgood : GoodNonce s b.val n)
    (hone : ∀ m ∈ s.ward.nonces, m ≠ n → ¬ GoodNonce s b.val m) : Gives (.slGrant b) s fun t =>
      t.grantActive = true ∧ t.flag (boltPg 6) R.SL_GRANT_WRITE = (s.mbxIn b.val 1 == 3) ∧
      t.reg (boltPg 6 + 0x108) = (s.tb + s.mbxIn b.val 2 * 25000000) % 2 ^ 64 ∧ n ∉ t.ward.nonces ∧
      (∀ m ∈ s.ward.nonces, m ≠ n → m ∈ t.ward.nonces) ∧ Published s t b.val 0 [w64 (s.ward.grantNext % 2 ^ 16)] := by
  refine gives_served (exec_slGrant b s) hasked ?_
  have hpg : boltPg 6 = 0x40686000 := by decide
  have hbase := mbxPg_eq b.val
  have hlen : [w64 (s.ward.grantNext % 2 ^ 16)].length < 2 ^ 8 := by simp
  rw [State.mbxSlGrant_checked hfields, State.grantNonce_some hn hgood hone]
  dsimp only
  have hnotes := NotesOnly.ofRecord (pg := boltPg 6) ((s.grantBegun b.val n).draw 14).2 (((s.grantBegun b.val n).draw 14).1.toNat / 2 ^ 12)
    (0xA000 + ((s.grantBegun b.val n).draw 14).1.toNat % 2 ^ 12) 0 0 false (by decide)
  generalize State.record ((s.grantBegun b.val n).draw 14).2 _ _ _ _ _ _ = u at hnotes ⊢
  obtain ⟨hrest, hreg⟩ := hnotes
  have hnonces : u.ward.nonces = s.ward.nonces.filter (· != n) := (congrArg (fun u => u.ward.nonces) hrest :)
  obtain ⟨hbegun, hends, hbelow⟩ := s.reg_grantBegun b.val n
  have hgrant := (hreg (boltPg 6 + 0x100) (by unfold OffNotes; omega)).trans ((State.reg_draw ..).trans hbegun)
  have hexpiry := (hreg (boltPg 6 + 0x108) (by unfold OffNotes; omega)).trans ((State.reg_draw ..).trans hends)
  have hcmd := (hreg (mbxPg b.val + 0x200) (by unfold OffNotes; omega)).trans ((State.reg_draw ..).trans (hbelow _ (by omega)))
  have hkept : ∀ off, (u.mbxFinish b.val RES_OK 0 [w64 (s.ward.grantNext % 2 ^ 16)]).reg (boltPg 6 + off) = u.reg (boltPg 6 + off) := fun off =>
    State.reg_mbxFinish_off b.isLt hlen (.inr (by omega))
  obtain ⟨hactive, hwrite⟩ := grantWord_bits (id := s.ward.grantNext % 2 ^ 16) hfields.2.1 (Nat.mod_lt _ (by decide))
  refine ⟨?_, ?_, (hkept _).trans hexpiry, ?_, fun m hm hne => ?_, State.mbxFinish_publishes hcmd (.inr (by omega)) (by decide) hlen⟩
  · unfold State.grantActive State.flag State.fld
    simp only [R.SL_GRANT_ACTIVE, hkept, hgrant, hactive, beq_self_eq_true]
  · obtain ⟨hodd, h4, -⟩ := hfields
    unfold State.flag State.fld
    simp only [R.SL_GRANT_WRITE, hkept, hgrant, hwrite]
    rw [Bool.eq_iff_iff, beq_iff_eq, beq_iff_eq]
    omega
  · rw [State.mbxFinish_nonces, hnonces]
    simp
  · rw [State.mbxFinish_nonces, hnonces]
    simp [hm, hne]

theorem gives_slGrant_unsigned (hnone : ∀ n ∈ s.ward.nonces, ¬ GoodNonce s b.val n) : Gives (.slGrant b) s fun t =>
    Published s t b.val 8 [] ∧ t.grantActive = s.grantActive := by
  refine gives_served (exec_slGrant b s) hasked ?_
  rw [State.mbxSlGrant_checked hfields, State.grantNonce_none hnone]
  exact ⟨State.mbxFinish_publishes (State.reg_withWard ..) (.inr (by omega)) (by decide) (by decide),
    State.grantActive_congr (State.reg_mbxFinish_off b.isLt (by decide) offMailboxes_grant)⟩

end

/-- R103: a grant ends at its expiry. -/
theorem gives_slGrantEnd {s : State} (hactive : s.grantActive = true) : Gives .slGrantEnd s fun t => t.grantActive = false ∧
    t.flag (boltPg 6) R.SL_GRANT_WRITE = false ∧ t.now = max s.now (96 * s.reg (boltPg 6 + 0x108)) ∧ { t with now := s.now, regs := s.regs } = s := by
  refine ⟨_, exec_slGrantEnd s, ?_⟩
  rw [if_pos hactive]
  generalize hu : s.toAclk (s.reg (boltPg 6 + 0x108)) = u
  have hactive' : u.grantActive = true := by rw [← hu]; exact hactive
  have hregs := u.endGrant_regs
  refine ⟨u.grantActive_endGrant, ?_, ?_, ?_⟩
  · unfold State.endGrant
    rw [if_pos hactive', State.flag_setFld _ _ _ _ rfl (by decide)]
    decide
  · generalize u.endGrant = t at hregs ⊢
    rw [(congrArg State.now hregs :), ← hu]
    rfl
  · generalize u.endGrant = t at hregs ⊢
    calc ({ t with now := s.now, regs := s.regs } : State) = { ({ t with regs := u.regs } : State) with now := s.now, regs := s.regs } := rfl
      _ = s := by rw [hregs, ← hu]; rfl

/-- Settles O30, request by request. -/
theorem keysBoltsAndGrants : Obligations.KeysBoltsAndGrants := by
  unfold Obligations.KeysBoltsAndGrants
  refine ⟨fun s b k hb hk h0 h4096 => ?_, fun s b hb => ?_, fun s p h hward hset => gives_bolt h hward hset, fun s b hb => ?_,
    fun s hactive => gives_slGrantEnd hactive⟩
  · subst hk
    refine ⟨fun hasked hidle => gives_keyGen hb hasked h0 h4096 hidle.1 hidle.2, fun hasked hnamed => gives_keyGen_named hb hasked h0 h4096 hnamed,
      fun hasked hidle => gives_keyErase hb hasked h0 h4096 hidle.1 hidle.2, fun hasked hcalm hcached => gives_keyGen_cached hasked h0 h4096 hcalm hcached,
      fun hasked hslot hwritten htype => ⟨fun v hidle hkey => ?_, fun hkey => gives_keyImport_fails hb hasked hslot hwritten htype hkey⟩⟩
    exact gives_keyImport hb hasked hslot hwritten htype h0 h4096 hidle.1 hidle.2 hkey
  · refine ⟨fun hasked hi htype hopen hfree => gives_otpProvision hb hasked hi htype hopen hfree,
      fun hasked hi htype hclosed => gives_otpProvision_bolted hb hasked hi htype hclosed, fun hasked => gives_boltNow hb hasked,
      fun hasked hi hfree => ⟨gives_holdRelease hb hasked hi (State.carvedStop_none hfree), gives_holdRelease_denied hb hasked hi (Bool.or_true _)⟩,
      fun m j c hasked hi hm hj hcarved => gives_holdRelease_denied hb hasked hi ?_⟩
    rw [State.carvedStop_some hm hj hcarved, Bool.true_or]
  · exact ⟨fun hasked => gives_slNonce hb hasked,
      fun n hn hasked hodd h4 hpos hday hgood hone => gives_slGrant hb hasked ⟨hodd, h4, hpos, hday⟩ hn hgood hone,
      fun hasked hodd h4 hpos hday hnone => gives_slGrant_unsigned hb hasked ⟨hodd, h4, hpos, hday⟩ hnone⟩

end Sys2Proof.Machine

/-! The sideband (R527 to R529): I3C common commands, MCTP messages and the BMC's mailbox requests. -/

namespace Sys2Proof.Machine
open Safety

/-- A command that gives one state is settled by what holds of that state. -/
theorem gives_next {c : Instr} {s t : State} {P : State → Prop} (h : exec c s = .next t) (hP : P t) : Gives c s P := ⟨t, h, hP⟩

/-- A clause of the I3C target: what a common command makes of the sideband, and nothing else moves. -/
theorem gives_i3c {c : Instr} {s : State} {f : Sideband → Sideband} (h : exec c s = .next (s.i3c f)) {x : Sideband} (hx : f s.sideband = x) :
    Gives c s fun t => t = { s with sideband := x } := gives_next h (hx ▸ rfl)

-- common command codes (R527)

section
variable (s : State) (v : Word)

theorem exec_enec : exec (.enec v) s = .next (if bitN v.toNat 0 then s.i3c (fun b => { b with events := true }) else s) := rfl
theorem exec_disec : exec (.disec v) s = .next (if bitN v.toNat 0 then s.i3c (fun b => { b with events := false }) else s) := rfl

theorem gives_events (h : v.toNat.testBit 0 = true) :
    (Gives (.enec v) s fun t => t = { s with sideband := { s.sideband with events := true } }) ∧
    (Gives (.disec v) s fun t => t = { s with sideband := { s.sideband with events := false } }) :=
  ⟨gives_next ((exec_enec s v).trans (congrArg _ (if_pos h))) rfl, gives_next ((exec_disec s v).trans (congrArg _ (if_pos h))) rfl⟩

theorem gives_events_kept (h : v.toNat.testBit 0 = false) :
    (Gives (.enec v) s fun t => t = { s with sideband := s.sideband }) ∧ (Gives (.disec v) s fun t => t = { s with sideband := s.sideband }) :=
  have hno : ¬ bitN v.toNat 0 = true := by simp [bitN, h]
  ⟨gives_next ((exec_enec s v).trans (congrArg _ (if_neg hno))) rfl, gives_next ((exec_disec s v).trans (congrArg _ (if_neg hno))) rfl⟩

/-- ENTDAA gives an address to a target that has none. -/
theorem gives_entdaa {x : Sideband} (hx : (if s.sideband.dynamic.isNone then { s.sideband with dynamic := some (v.toNat % 128) } else s.sideband) = x) :
    Gives (.entdaa v) s fun t => t = { s with sideband := x } :=
  gives_i3c (f := fun b => if b.dynamic.isNone then { b with dynamic := some (v.toNat % 128) } else b) rfl hx

theorem gives_getpid : Gives (.getpid v) s fun t =>
    t.sideband.reply % 2 ^ 32 = bits Config.partSerial.toNat 31 0 ∧ { t with sideband := s.sideband, free := s.free } = s := by
  refine gives_next rfl ⟨?_, rfl⟩
  have hlt := bits_lt Config.partSerial.toNat 31 0
  change ((Config.freeValue 16 s.free).toNat <<< 32 + bits Config.partSerial.toNat 31 0) % 2 ^ 32 = _
  rw [Nat.shiftLeft_eq]
  omega

end

-- messages (R528)

section
variable {s : State} {m : List Byte}

theorem State.bmcServed_iff : s.bmcServed = true ↔ 2 ≤ s.boot.done ∧ s.power.off = false := by
  simp [State.bmcServed]

theorem exec_mctpControlMessage (m : List Byte) (s : State) : exec (.mctpControlMessage m) s = .next (if s.bmcServed then s.mctpControl m else s) := rfl
theorem exec_mctpSpdmMessage (m : List Byte) (s : State) : exec (.mctpSpdmMessage m) s = .next (if s.bmcServed then s.mctpSpdm m else s) := rfl
theorem exec_bmcMbxRequest (m : List Byte) (s : State) : exec (.bmcMbxRequest m) s = .next (if s.bmcServed then s.bmcMbx m else s) := rfl
theorem exec_pldmMessage (m : List Byte) (s : State) : exec (.pldmMessage m) s =
    .next (if s.bmcServed && m.headD 0 == 1 && decide ((m.getD 1 0).toNat < 128) && (m.getD 2 0).toNat % 64 == 2 && m.getD 3 0 == 0x0A
      then s.setFld (rasPg 0) R.RAS_HEALTH_PLDMPEND 0 else s) := rfl

/-- Before the Ward runs, no message is served. -/
theorem gives_unserved (h : s.boot.done < 2) (m : List Byte) :
    (Gives (.mctpControlMessage m) s fun t => t = s) ∧ (Gives (.pldmMessage m) s fun t => t = s) ∧ (Gives (.mctpSpdmMessage m) s fun t => t = s) ∧
      Gives (.bmcMbxRequest m) s fun t => t = s := by
  have hno : s.bmcServed = false := by
    rw [← Bool.not_eq_true, State.bmcServed_iff]
    omega
  refine ⟨gives_next (exec_mctpControlMessage m s) ?_, gives_next (exec_pldmMessage m s) ?_, gives_next (exec_mctpSpdmMessage m s) ?_,
    gives_next (exec_bmcMbxRequest m s) ?_⟩ <;> simp [hno]

variable (hserved : s.bmcServed = true)
include hserved

/-- Set Endpoint ID. -/
theorem gives_setEid {i : Nat} {e : Byte} (hi : 128 ≤ i) (hi' : i < 256) (h0 : e ≠ 0) (hff : e ≠ 0xFF) :
    Gives (.mctpControlMessage [0x00, BitVec.ofNat 8 i, 0x01, 0x00, e]) s fun t => t.sideband.eid = e.toNat ∧
      t.sideband.out = s.sideband.out ++ [[0x00, BitVec.ofNat 8 (i % 32), 0x01, 0x00, 0x00, e, 0x00]] ∧ { t with sideband := s.sideband } = s := by
  have hservedAs : s.mctpControl [0x00, BitVec.ofNat 8 i, 0x01, 0x00, e] =
      (s.i3c (fun b => { b with eid := e.toNat })).toBmc [0x00, BitVec.ofNat 8 (i % 32), 0x01, 0x00, 0x00, BitVec.ofNat 8 e.toNat, 0x00] := by
    have h0' : e.toNat ≠ 0 := fun h => h0 (BitVec.eq_of_toNat_eq h)
    have hff' : e.toNat ≠ 0xFF := fun h => hff (BitVec.eq_of_toNat_eq h)
    simp [State.mctpControl, h0', hff', Nat.mod_eq_of_lt hi', Nat.not_lt.mpr hi]
  refine gives_next ((exec_mctpControlMessage ..).trans (congrArg _ ((if_pos hserved).trans hservedAs))) ⟨rfl, ?_, rfl⟩
  rw [BitVec.ofNat_toNat, BitVec.setWidth_eq]
  rfl

/-- Get Message Type Support. -/
theorem gives_getTypes {i : Nat} (hi : 128 ≤ i) (hi' : i < 256) : Gives (.mctpControlMessage [0x00, BitVec.ofNat 8 i, 0x05]) s fun t =>
    t.sideband.out = s.sideband.out ++ [[0x00, BitVec.ofNat 8 (i % 32), 0x05, 0x00, 0x03, 0x01, 0x05, 0x7E]] ∧ { t with sideband := s.sideband } = s := by
  have hservedAs : s.mctpControl [0x00, BitVec.ofNat 8 i, 0x05] =
      s.toBmc [0x00, BitVec.ofNat 8 (i % 32), 0x05, 0x00, 0x03, 0x01, 0x05, 0x7E] := by
    simp [State.mctpControl, Nat.mod_eq_of_lt hi', Nat.not_lt.mpr hi]
  exact gives_next ((exec_mctpControlMessage ..).trans (congrArg _ ((if_pos hserved).trans hservedAs))) ⟨rfl, rfl⟩

/-- The BMC's response to the health event. -/
theorem gives_pldmResponse {i : Nat} (hi : i < 128) (rest : List Byte) : Gives (.pldmMessage ([0x01, BitVec.ofNat 8 i, 0x02, 0x0A] ++ rest)) s fun t =>
    t.flag (rasPg 0) R.RAS_HEALTH_PLDMPEND = false ∧ { t with regs := s.regs } = s := by
  refine gives_next ((exec_pldmMessage ..).trans (congrArg _ (if_pos ?_))) ⟨State.flag_setFld _ _ _ _ rfl (by decide), State.setFld_regs_frame ..⟩
  simp [hserved, hi, Nat.mod_eq_of_lt (show i < 256 by omega)]

end

end Sys2Proof.Machine

/-! Requests of the BMC and SPDM messages on the Ward's mailboxes (R86, R87, R528, R529). -/

namespace Sys2Proof.Machine
open Safety

-- a request's words

theorem State.setReg_w64 (s : State) (a v : Nat) : s.setReg a (w64 v).toNat = s.setReg a v := by
  unfold State.setReg w64
  rw [BitVec.ofNat_toNat, BitVec.setWidth_eq]

theorem State.putIn_eq (s : State) (b : Nat) (ws : List Nat) : s.putIn b ws = s.storeWords (mbxPg b + 0x200) 0 (ws.map w64) := by
  unfold State.putIn State.storeWords
  rw [List.length_map, List.range_eq_range', List.zip_map_left, List.foldl_map]
  refine congrArg (fun f => List.foldl f s _) (funext fun t => funext fun x => ?_)
  exact (t.setReg_w64 _ _).symm

theorem State.putIn_frame (s : State) (b : Nat) (ws : List Nat) : { s.putIn b ws with regs := s.regs } = s := by
  rw [State.putIn_eq]
  exact s.storeWords_frame ..

/-- Only the IN registers change. -/
theorem State.reg_putIn_out (s : State) {b a : Nat} (ws : List Nat) (ha : a < mbxPg b + 0x200) :
    (s.putIn b ws).reg a = s.reg a := by
  have hbase := mbxPg_eq b
  rw [State.putIn_eq]
  exact s.reg_storeWords_out _ (.inl (by omega))

theorem State.reg_putIn (s : State) {b j v : Nat} {ws : List Nat} (hj : ws[j]? = some v) :
    (s.putIn b ws).reg (mbxPg b + 0x200 + 8 * j) = v % 2 ^ 64 := by
  have hbase := mbxPg_eq b
  have hword : (ws.map w64)[j]? = some (w64 v) := by rw [List.getElem?_map, hj, Option.map_some]
  rw [State.putIn_eq, ← Nat.zero_add j, s.reg_storeWords (by omega) hword, w64, BitVec.toNat_ofNat]

theorem leValue_lt (l : List Byte) : leValue l < 256 ^ l.length := by
  induction l with
  | nil => exact Nat.one_pos
  | cons b l ih =>
    have hb := b.isLt
    rw [leValue, List.length_cons, pow_succ]
    omega

theorem leValue_word_lt (l : List Byte) : leValue (l.take 8) < 2 ^ 64 :=
  (leValue_lt _).trans_le (show 256 ^ (l.take 8).length ≤ 256 ^ 8 from Nat.pow_le_pow_right (by decide) (List.length_take_le 8 l))

theorem getElem?_wordsOf {n j : Nat} (hj : j < n) (m : List Byte) : (wordsOf n m)[j]? = some (leValue ((m.drop (8 * j)).take 8)) := by
  induction n generalizing m j with
  | zero => exact absurd hj (Nat.not_lt_zero j)
  | succ n ih =>
    rw [wordsOf]
    cases j with
    | zero => rfl
    | succ j => rw [List.getElem?_cons_succ, ih (by omega), List.drop_drop, show 8 + 8 * j = 8 * (j + 1) by omega]

-- the doorbell

section
variable {s : State} {b : Mbx} (h1 : s.fld (mbxPg b.val) R.WARD_MBX_STATUS_STATE ≠ 1) (h2 : s.fld (mbxPg b.val) R.WARD_MBX_STATUS_STATE ≠ 2)
include h1 h2

theorem State.fld_mbxDoorbell (v : Nat) : (s.mbxDoorbell b.val v).fld (mbxPg b.val) R.WARD_MBX_STATUS_STATE = 1 ∧
    (s.mbxDoorbell b.val v).fld (mbxPg b.val) R.WARD_MBX_STATUS_SEQ = v % 2 ^ 16 := by
  rw [State.mbxDoorbell_pending h1 h2]
  generalize mbxPg b.val = pg
  refine ⟨?_, ?_⟩
  · rw [fld_setMbxState, State.fld_setFld_apart (f := R.WARD_MBX_STATUS_SEQ) (f' := R.WARD_MBX_STATUS_STATE) _ _ _ rfl (by decide)
      (by decide) (by decide) (by decide), State.fld_setFld _ _ _ _ (by decide) (by decide)]
    rfl
  · rw [fld_setMbxState, State.fld_setFld _ _ _ _ (by decide) (by decide)]
    simp [bits, R.WARD_MBX_STATUS_SEQ]

theorem State.reg_mbxDoorbell_in (v : Nat) {a : Nat} (ha : mbxPg b.val + 0x200 ≤ a) : (s.mbxDoorbell b.val v).reg a = s.reg a := by
  rw [State.mbxDoorbell_pending h1 h2]
  generalize mbxPg b.val = pg at ha
  rw [reg_setMbxState, State.reg_setFld_ne, State.reg_setFld_ne]
  · simp only [R.WARD_MBX_STATUS_STATE]
    omega
  · simp only [R.WARD_MBX_STATUS_SEQ]
    omega

theorem State.sideband_mbxDoorbell (v : Nat) : (s.mbxDoorbell b.val v).sideband = s.sideband := by
  rw [State.mbxDoorbell_pending h1 h2]
  simp

end

-- a request put in a free mailbox

section
variable {s : State} {b : Mbx} {ws : List Nat}

theorem State.fld_putIn_status (s : State) (b : Nat) (ws : List Nat) :
    (s.putIn b ws).fld (mbxPg b) R.WARD_MBX_STATUS_STATE = s.fld (mbxPg b) R.WARD_MBX_STATUS_STATE := by
  unfold State.fld
  rw [State.reg_putIn_out]
  simp [R.WARD_MBX_STATUS_STATE]

theorem State.mbxFree_iff : s.mbxFree b.val = true ↔ s.flag (mbxPg b.val) R.WARD_MBX_ASSIGN_EN = true ∧
    s.fld (mbxPg b.val) R.WARD_MBX_STATUS_STATE ≠ 1 ∧ s.fld (mbxPg b.val) R.WARD_MBX_STATUS_STATE ≠ 2 := by
  simp [State.mbxFree, and_assoc]

/-- A request stands PENDING in mailbox b under its SEQ, with its words in the IN registers. -/
def RequestPut (t : State) (b seq : Nat) (ws : List Nat) : Prop :=
  t.fld (mbxPg b) R.WARD_MBX_STATUS_STATE = 1 ∧ t.fld (mbxPg b) R.WARD_MBX_STATUS_SEQ = seq % 2 ^ 16 ∧
  ∀ j w, ws[j]? = some w → t.reg (mbxPg b + 0x200 + 8 * j) = w % 2 ^ 64

theorem State.requestPut (h1 : s.fld (mbxPg b.val) R.WARD_MBX_STATUS_STATE ≠ 1) (h2 : s.fld (mbxPg b.val) R.WARD_MBX_STATUS_STATE ≠ 2)
    {u : State} (hu : ∀ a, u.reg a = (s.putIn b.val ws).reg a) (v : Nat) :
    RequestPut (u.mbxDoorbell b.val v) b.val v ws ∧ (u.mbxDoorbell b.val v).sideband = u.sideband := by
  have hstate : u.fld (mbxPg b.val) R.WARD_MBX_STATUS_STATE = s.fld (mbxPg b.val) R.WARD_MBX_STATUS_STATE :=
    (congrArg (bits · _ _) (hu _)).trans (s.fld_putIn_status b.val ws)
  rw [← hstate] at h1 h2
  obtain ⟨hst, hseq⟩ := State.fld_mbxDoorbell h1 h2 v
  refine ⟨⟨hst, hseq, fun j w hj => ?_⟩, State.sideband_mbxDoorbell h1 h2 v⟩
  rw [State.reg_mbxDoorbell_in h1 h2 v (by omega), hu, State.reg_putIn _ hj]

theorem State.sideband_putIn (s : State) (b : Nat) (ws : List Nat) : (s.putIn b ws).sideband = s.sideband :=
  (congrArg State.sideband (s.putIn_frame b ws) :)

end

-- SPDM (R528)

section
variable {s : State} {x : List Byte}

/-- The request in mailbox b of words `ws`, under a SEQ that is free. -/
def State.freeSeqRequest (s : State) (b : Nat) (ws : List Nat) : State :=
  ((s.putIn b ws).draw 16).2.mbxDoorbell b ((s.putIn b ws).draw 16).1.toNat

/-- The words of an SPDM message as a request. -/
def spdmWords (x : List Byte) : List Nat := (0x0090 <<< 48 + ceilDiv x.length 8 <<< 40) :: wordsOf (ceilDiv x.length 8) x

theorem State.mctpSpdm_free {i : Nat} (h0 : 0 < x.length) (h248 : x.length ≤ 248) (hi : i < 4) (hnext : s.sideband.spdmNext = i)
    (hfree : s.mbxFree (24 + i) = true) : s.mctpSpdm (5 :: x) =
      (s.freeSeqRequest (24 + i) (spdmWords x)).i3c (fun b => { b with spdmNext := (i + 1) % 4, bmcBusy := b.bmcBusy ++ [32 + (24 + i)] }) := by
  have hwords : ¬ ((5 :: x).headD 0 ≠ 5 ∨ ceilDiv ((5 :: x).drop 1).length 8 = 0 ∨ 31 < ceilDiv ((5 :: x).drop 1).length 8) := by
    simp only [List.headD_cons, List.drop_succ_cons, List.drop_zero, ceilDiv, ne_eq, not_true_eq_false, false_or]
    omega
  have hfind : ((List.range 4).map (fun j => (s.sideband.spdmNext + j) % 4)).find? (fun j => s.mbxFree (24 + j)) = some i := by
    have hhead : (i + 0) % 4 = i := Nat.mod_eq_of_lt hi
    rw [hnext, List.range_succ_eq_map, List.map_cons, hhead, List.find?_cons, hfree]
  unfold State.mctpSpdm
  extract_lets body n
  rw [if_neg hwords, hfind]
  rfl

theorem gives_mctpSpdm (hserved : s.bmcServed = true) {i : Nat} (h0 : 0 < x.length) (h248 : x.length ≤ 248) (hi : i < 4)
    (hnext : s.sideband.spdmNext = i) (hfree : s.mbxFree (24 + i) = true) : Gives (.mctpSpdmMessage (5 :: x)) s fun t =>
      t.fld (mbxPg (24 + i)) R.WARD_MBX_STATUS_STATE = 1 ∧ t.mbxCmd (24 + i) = 0x90 ∧ t.mbxLen (24 + i) = ceilDiv x.length 8 ∧
      t.sideband.spdmNext = (i + 1) % 4 := by
  refine gives_next ((exec_mctpSpdmMessage ..).trans (congrArg _ ((if_pos hserved).trans (State.mctpSpdm_free h0 h248 hi hnext hfree)))) ?_
  have hwords : ceilDiv x.length 8 < 2 ^ 8 := by
    unfold ceilDiv
    omega
  obtain ⟨-, h1, h2⟩ := (State.mbxFree_iff (b := ⟨24 + i, by omega⟩)).mp hfree
  obtain ⟨⟨hst, -, hin⟩, -⟩ := State.requestPut h1 h2 (u := ((s.putIn (24 + i) (spdmWords x)).draw 16).2) (fun a => State.reg_draw _ _ a)
    ((s.putIn (24 + i) (spdmWords x)).draw 16).1.toNat
  have hword := hin 0 _ rfl
  generalize ceilDiv x.length 8 = n at hword hwords ⊢
  refine ⟨hst, ?_, ?_, rfl⟩
  · change bits ((s.freeSeqRequest (24 + i) (spdmWords x)).reg (mbxPg (24 + i) + 0x200 + 8 * 0)) 63 48 = 0x90
    rw [State.freeSeqRequest, hword]
    simp only [bits, Nat.shiftLeft_eq, Nat.shiftRight_eq_div_pow]
    omega
  · change bits ((s.freeSeqRequest (24 + i) (spdmWords x)).reg (mbxPg (24 + i) + 0x200 + 8 * 0)) 47 40 = n
    rw [State.freeSeqRequest, hword]
    simp only [bits, Nat.shiftLeft_eq, Nat.shiftRight_eq_div_pow]
    omega

end

-- the BMC's requests (R529)

section
variable {s : State} {b seq : Nat} {ws : List Byte}

/-- A vendor-defined message that asks something of mailbox b. -/
def bmcMessage (b seq : Nat) (ws : List Byte) : List Byte := [0x7E, 0x1D, 0x4E, BitVec.ofNat 8 b, 0x01] ++ leBytes 2 seq ++ ws

/-- The number of words after the first that a request's header word names. -/
def bmcLen (ws : List Byte) : Nat := bits (leValue (ws.take 8)) 47 40

theorem leValue_leBytes_two (hseq : seq < 2 ^ 16) : leValue (leBytes 2 seq) = seq := by
  simp only [leBytes, leValue, BitVec.toNat_ofNat, Nat.shiftRight_eq_div_pow]
  omega

/-- The state in which a request is refused for one outstanding, and the BMC is told so under `head` with the status. -/
def State.mbxRejected (s : State) (pg : Nat) (head : List Byte) : State :=
  (s.setFld pg R.WARD_MBX_STATUS_REJECT 1).toBmc (head ++ leBytes 8 ((s.setFld pg R.WARD_MBX_STATUS_REJECT 1).reg (pg + 0x100)))

/-- What the BMC's request for mailbox b of words `ws` does. -/
def State.bmcAsks (s : State) (b seq : Nat) (ws : List Byte) : State :=
  if b < 24 ∨ 27 < b then s.toBmc (bmcHeader b 0x83 seq)
  else if !(ws.length == 8 * (bmcLen ws + 1) && decide (bmcLen ws ≤ 31)) || !s.flag (mbxPg b) R.WARD_MBX_ASSIGN_EN then s.toBmc (bmcHeader b 0x83 seq)
  else if !s.mbxFree b then
    s.mbxRejected (mbxPg b) (bmcHeader b 0x82 seq)
  else ((s.putIn b (wordsOf (bmcLen ws + 1) ws)).mbxDoorbell b seq).i3c (fun x => { x with bmcBusy := x.bmcBusy ++ [b] })

theorem State.bmcMbx_asks {m : List Byte} (hhead : ¬ (m.take 3 ≠ [0x7E, 0x1D, 0x4E] ∨ m.length < 7 ∨ m.getD 4 0 ≠ 0x01)) :
    s.bmcMbx m = s.bmcAsks (m.getD 3 0).toNat (leValue ((m.drop 5).take 2)) (m.drop 7) := by
  unfold State.bmcMbx
  extract_lets b seq ws n fits
  rw [if_neg hhead]
  rfl

section
variable (hb : b < 256) (hseq : seq < 2 ^ 16)
include hb hseq

theorem State.bmcMbx_message : s.bmcMbx (bmcMessage b seq ws) = s.bmcAsks b seq ws := by
  have hmbx : ((bmcMessage b seq ws).getD 3 0).toNat = b := (BitVec.toNat_ofNat ..).trans (Nat.mod_eq_of_lt hb)
  have hsent : leValue (((bmcMessage b seq ws).drop 5).take 2) = seq := leValue_leBytes_two hseq
  have hrest : (bmcMessage b seq ws).drop 7 = ws := rfl
  rw [State.bmcMbx_asks (by simp [bmcMessage, length_leBytes]), hmbx, hsent, hrest]

theorem gives_bmcMbxRequest (hserved : s.bmcServed = true) {P : State → Prop} (hP : P (s.bmcAsks b seq ws)) :
    Gives (.bmcMbxRequest (bmcMessage b seq ws)) s P :=
  gives_next ((exec_bmcMbxRequest ..).trans (congrArg _ ((if_pos hserved).trans (State.bmcMbx_message hb hseq)))) hP

end

theorem State.bmcAsks_denied (h : b < 24 ∨ 27 < b ∨ ws.length ≠ 8 * (bmcLen ws + 1)) : s.bmcAsks b seq ws = s.toBmc (bmcHeader b 0x83 seq) := by
  unfold State.bmcAsks
  split
  · rfl
  · rw [if_pos]
    simp only [Bool.or_eq_true, Bool.not_eq_true', Bool.and_eq_false_iff, beq_eq_false_iff_ne]
    exact .inl (.inl (by omega))

end

section
variable {s : State} {b : Mbx} {seq : Nat} {ws : List Byte} (h24 : 24 ≤ b.val) (h27 : b.val ≤ 27) (hlen : ws.length = 8 * (bmcLen ws + 1)) (hmax : bmcLen ws ≤ 31)
  (hen : s.flag (mbxPg b.val) R.WARD_MBX_ASSIGN_EN = true)
include h24 h27 hlen hmax hen

theorem State.bmcAsks_admitted : s.bmcAsks b.val seq ws = if !s.mbxFree b.val then s.mbxRejected (mbxPg b.val) (bmcHeader b.val 0x82 seq)
    else ((s.putIn b.val (wordsOf (bmcLen ws + 1) ws)).mbxDoorbell b.val seq).i3c (fun x => { x with bmcBusy := x.bmcBusy ++ [b.val] }) := by
  unfold State.bmcAsks
  rw [if_neg (by omega), if_neg]
  simp only [hen, hlen, hmax, beq_self_eq_true, decide_true, Bool.and_self, Bool.not_true, Bool.or_self, Bool.false_eq_true, not_false_eq_true]

theorem State.bmcAsks_rejected (hst : s.fld (mbxPg b.val) R.WARD_MBX_STATUS_STATE = 1 ∨ s.fld (mbxPg b.val) R.WARD_MBX_STATUS_STATE = 2) :
    s.bmcAsks b.val seq ws = s.mbxRejected (mbxPg b.val) (bmcHeader b.val 0x82 seq) := by
  have hbusy : ¬ s.mbxFree b.val = true := fun hfree => by
    obtain ⟨-, h1, h2⟩ := State.mbxFree_iff.mp hfree
    exact hst.elim h1 h2
  rw [State.bmcAsks_admitted h24 h27 hlen hmax hen, if_pos (by simpa using hbusy)]

theorem State.bmcAsks_taken (h1 : s.fld (mbxPg b.val) R.WARD_MBX_STATUS_STATE ≠ 1) (h2 : s.fld (mbxPg b.val) R.WARD_MBX_STATUS_STATE ≠ 2) :
    s.bmcAsks b.val seq ws =
      ((s.putIn b.val (wordsOf (bmcLen ws + 1) ws)).mbxDoorbell b.val seq).i3c (fun x => { x with bmcBusy := x.bmcBusy ++ [b.val] }) := by
  rw [State.bmcAsks_admitted h24 h27 hlen hmax hen, if_neg (by simpa using State.mbxFree_iff.mpr ⟨hen, h1, h2⟩)]

end

section
variable {s : State} {b : Mbx}

theorem State.reg_toBmc (s : State) (m : List Byte) (a : Nat) : (s.toBmc m).reg a = s.reg a := rfl
theorem State.fld_toBmc (s : State) (m : List Byte) (pg : Nat) (f : Field) : (s.toBmc m).fld pg f = s.fld pg f := rfl
theorem State.flag_toBmc (s : State) (m : List Byte) (pg : Nat) (f : Field) : (s.toBmc m).flag pg f = s.flag pg f := rfl
theorem State.out_toBmc (s : State) (m : List Byte) : (s.toBmc m).sideband.out = s.sideband.out ++ [m] := rfl
theorem State.sideband_setFld (s : State) (pg : Nat) (f : Field) (v : Nat) : (s.setFld pg f v).sideband = s.sideband := rfl

/-- A refused request leaves REJECT set, and STATE and the IN registers as they were. -/
theorem State.mbxRejected_spec (s : State) (pg : Nat) (head : List Byte) :
    (s.mbxRejected pg head).flag pg R.WARD_MBX_STATUS_REJECT = true ∧
    (s.mbxRejected pg head).fld pg R.WARD_MBX_STATUS_STATE = s.fld pg R.WARD_MBX_STATUS_STATE ∧
    (s.mbxRejected pg head).sideband.out = s.sideband.out ++ [head ++ leBytes 8 ((s.mbxRejected pg head).reg (pg + 0x100))] ∧
    ∀ j, (s.mbxRejected pg head).reg (pg + 0x200 + 8 * j) = s.reg (pg + 0x200 + 8 * j) := by
  unfold State.mbxRejected
  refine ⟨?_, ?_, ?_, fun j => ?_⟩
  · rw [State.flag_toBmc, State.flag_setFld _ _ _ _ rfl (by decide)]
    rfl
  · rw [State.fld_toBmc, State.fld_setFld_apart (f := R.WARD_MBX_STATUS_REJECT) (f' := R.WARD_MBX_STATUS_STATE) _ _ _ rfl (by decide) (by decide)
      (by decide) (by decide)]
  · rw [State.out_toBmc, State.sideband_setFld, State.reg_toBmc]
  · rw [State.reg_toBmc, State.reg_setFld_ne]
    simp only [R.WARD_MBX_STATUS_REJECT]
    omega

/-- A request taken. -/
theorem State.taken_spec {n seq : Nat} {ws : List Byte} (hseq : seq < 2 ^ 16) (h1 : s.fld (mbxPg b.val) R.WARD_MBX_STATUS_STATE ≠ 1)
    (h2 : s.fld (mbxPg b.val) R.WARD_MBX_STATUS_STATE ≠ 2) {t : State}
    (ht : t = ((s.putIn b.val (wordsOf (n + 1) ws)).mbxDoorbell b.val seq).i3c (fun x => { x with bmcBusy := x.bmcBusy ++ [b.val] })) :
    t.fld (mbxPg b.val) R.WARD_MBX_STATUS_STATE = 1 ∧ t.fld (mbxPg b.val) R.WARD_MBX_STATUS_SEQ = seq ∧
    (∀ j, j ≤ n → t.reg (mbxPg b.val + 0x200 + 8 * j) = leValue ((ws.drop (8 * j)).take 8)) ∧ b.val ∈ t.sideband.bmcBusy ∧
    t.sideband.out = s.sideband.out := by
  obtain ⟨⟨hst, hnum, hin⟩, hside⟩ := State.requestPut (ws := wordsOf (n + 1) ws) h1 h2 (fun _ => rfl) seq
  rw [State.sideband_putIn] at hside
  subst ht
  refine ⟨hst, hnum.trans (Nat.mod_eq_of_lt hseq), fun j hj => ?_, List.mem_append_right _ List.mem_cons_self, (congrArg Sideband.out hside :)⟩
  exact (hin j _ (getElem?_wordsOf (by omega) ws)).trans (Nat.mod_eq_of_lt (leValue_word_lt _))

end

end Sys2Proof.Machine

/-! The JTAG TAP (R530): boundary scan, identity, halting and reading harts through DMI, and Safelight's page access; O57. -/

namespace Sys2Proof.Machine
open Safety

-- the CSRs of a hart

theorem Arch.getCsr_putCsr (a : Arch) (n v : Nat) : (a.putCsr n v).getCsr n = v % 2 ^ 64 := by
  unfold Arch.getCsr Arch.putCsr
  dsimp only
  rw [Tab.get_set_self, w64, BitVec.toNat_ofNat]

theorem Arch.getCsr_putCsr_ne (a : Arch) {n m : Nat} (v : Nat) (h : n ≠ m) : (a.putCsr n v).getCsr m = a.getCsr m := by
  unfold Arch.getCsr Arch.putCsr
  dsimp only
  rw [Tab.get_set_ne _ _ _ _ h]

theorem hpmOne_pc (ev um n : Nat) (precise : Bool) (a : Arch) (i : Nat) : (hpmOne ev um n precise a i).pc = a.pc := by
  unfold hpmOne
  extract_lets sel umask v a1 quiet a2 a3
  have h2 : a2.pc = a.pc := by
    simp only [a2]
    split <;> rfl
  split
  · split
    · rfl
    · split <;> exact h2
  · rfl

theorem Arch.hpmAdd_pc (a : Arch) (ev um n : Nat) (precise : Bool) : (a.hpmAdd ev um n precise).pc = a.pc := by
  unfold Arch.hpmAdd
  split
  · exact List.foldlRecOn (motive := fun b => b.pc = a.pc) _ _ rfl fun b hb i _ => (hpmOne_pc ev um n precise b _).trans hb
  · rfl

theorem Arch.ranFor_pc (a : Arch) (n : Nat) : (a.ranFor n).pc = a.pc := by
  unfold Arch.ranFor
  dsimp only
  rw [Arch.hpmAdd_pc]
  split <;> rfl

-- halting a hart

/-- From `s` to `t` only hart h, but not its pc, and registers have moved as far as a debugger sees. -/
structure PcKept (h : Nat) (s t : State) : Prop where
  tap : t.tap = s.tap
  pc : (t.hart h).a.pc = (s.hart h).a.pc
  others : ∀ g, g ≠ h → t.hart g = s.hart g

namespace PcKept

variable {h : Nat} {s t u : State}

theorem refl (h : Nat) (s : State) : PcKept h s s := ⟨rfl, rfl, fun _ _ => rfl⟩

theorem trans (h1 : PcKept h s t) (h2 : PcKept h t u) : PcKept h s u :=
  ⟨h2.tap.trans h1.tap, h2.pc.trans h1.pc, fun g hg => (h2.others g hg).trans (h1.others g hg)⟩

theorem setHart (s : State) (h : Nat) {v : HartState} (hpc : v.a.pc = (s.hart h).a.pc) : PcKept h s (s.setHart h v) :=
  ⟨by simp, by simpa using hpc, fun _ hg => State.hart_setHart_ne s v (Ne.symm hg)⟩

theorem setFld (h : Nat) (s : State) (pg : Nat) (f : Field) (v : Nat) : PcKept h s (s.setFld pg f v) := ⟨by simp, by simp, fun _ _ => by simp⟩

theorem fold {α : Type} {f : State → α → State} (hf : ∀ s a, PcKept h s (f s a)) (l : List α) (s : State) : PcKept h s (l.foldl f s) :=
  List.foldlRecOn (motive := PcKept h s) l f (refl h s) fun _ ht a _ => ht.trans (hf _ a)

theorem tick (s : State) (h : Nat) : PcKept h s (s.tick h) := by
  unfold State.tick State.tickAt
  dsimp only
  split
  · exact setHart s h (Arch.ranFor_pc ..)
  · exact refl h s

theorem hpm (s : State) (h ev um : Nat) (precise : Bool) : PcKept h s (s.hpm h ev um precise) := setHart s h (Arch.hpmAdd_pc ..)

theorem abandon (s : State) (h : Nat) : PcKept h s (s.abandon h) :=
  fold (fun t _ => (hpm t h _ _ _).trans (fold (fun u _ => hpm u h _ _ _) _ _)) _ _

theorem closeEpoch (s : State) (h cause : Nat) : PcKept h s (s.closeEpoch h cause) := by
  rcases hopen : (s.hart h).epoch with _ | e
  · rw [State.closeEpoch_none _ _ hopen]
    exact refl h s
  · rw [State.closeEpoch_open _ _ hopen]
    exact PcKept.trans (setHart s h (v := { s.hart h with epoch := none, closed := _ }) rfl) (setFld h _ _ _ _)

end PcKept

section
variable {s : State} {h : Nat}

/-- What halting a running hart leaves: the hart halted with its pc in dpc and no epoch open, and every other hart as it was. -/
theorem State.haltHart_spec (hstarted : (s.hart h).started = true) (hruns : (s.hart h).halted = false) (hio : (s.hart h).io = none) :
    (s.haltHart h).tap = s.tap ∧ ((s.haltHart h).hart h).halted = true ∧ ((s.haltHart h).hart h).a.getCsr 0x7B1 = (s.hart h).a.pc.toNat ∧
    ((s.haltHart h).hart h).epoch = none ∧ ∀ g, g ≠ h → (s.haltHart h).hart g = s.hart g := by
  have hkept : PcKept h s (((s.tick h).abandon h).closeEpoch h 6) := ((PcKept.tick s h).trans (.abandon _ h)).trans (.closeEpoch _ h 6)
  have hepoch := State.epoch_closeEpoch ((s.tick h).abandon h) h 6
  unfold State.haltHart
  rw [if_neg (by simp [hstarted, hruns, hio])]
  generalize ((s.tick h).abandon h).closeEpoch h 6 = u at hkept hepoch ⊢
  obtain ⟨htap, hpc, hothers⟩ := hkept
  extract_lets u' v d
  refine ⟨(by simpa using htap), by simp, ?_, by simpa [v] using hepoch, fun g hg => ?_⟩
  · have hpc' : v.a.pc = (s.hart h).a.pc := hpc
    rw [State.hart_setHart, Arch.getCsr_putCsr_ne _ _ (by decide), Arch.getCsr_putCsr, hpc', Nat.mod_eq_of_lt (BitVec.isLt _)]
  · rw [State.hart_setHart_ne _ _ (Ne.symm hg), hothers g hg]

end

-- DMI (R530)

section
variable {s : State} {v : Nat}

theorem State.dmBusDone_none (h : s.resps = []) : s.dmBusDone = s := by
  unfold State.dmBusDone
  rw [h]
  rfl

/-- The state in which a DMI operation is performed. -/
def State.dmiShown (s : State) : State := s.jtag 0x11 s.tap.dmi id

theorem exec_dmi_none (h : s.resps = []) (hv : v % 4 = 0) : exec (.dmi v) s = .next s.dmiShown := by
  change execDmi v s = _
  unfold execDmi
  dsimp only
  rw [State.dmBusDone_none h, hv]
  rfl

/-- The state with what an operation through DMI is captured as. -/
def State.withDmi (s : State) (d : Nat) : State := { s with tap := { s.tap with dmi := d } }

theorem exec_dmi_write (h : s.resps = []) (hv : v % 4 = 2) : exec (.dmi v) s =
    .next ((s.dmiShown.dmWrite (bits v 40 34) (bits v 33 2)).withDmi (bits v 40 34 <<< 34 + bits v 33 2 <<< 2)) := by
  change execDmi v s = _
  unfold execDmi
  dsimp only
  rw [State.dmBusDone_none h, hv]
  rfl

theorem State.withDmi_tap (s : State) (d : Nat) : (s.withDmi d).tap.ir = s.tap.ir ∧ (s.withDmi d).tap.tdo = s.tap.tdo := ⟨rfl, rfl⟩
theorem State.dm_withDmi (s : State) (d n : Nat) : (s.withDmi d).dm n = s.dm n := rfl
theorem State.tap_setDm (s : State) (n v : Nat) : (s.setDm n v).tap.ir = s.tap.ir ∧ (s.setDm n v).tap.tdo = s.tap.tdo := ⟨rfl, rfl⟩

theorem State.dm_setDm (s : State) (n v : Nat) : (s.setDm n v).dm n = v % 2 ^ 32 := by
  unfold State.dm State.setDm
  dsimp only
  rw [Tab.get_set_self, w64, BitVec.toNat_ofNat]
  omega

theorem State.dm_setDm_ne (s : State) {n m : Nat} (v : Nat) (h : n ≠ m) : (s.setDm n v).dm m = s.dm m := by
  unfold State.dm State.setDm
  dsimp only
  rw [Tab.get_set_ne _ _ _ _ h]

/-- dmcontrol's write with haltreq for hart h. -/
theorem State.dmWrite_halt {h : Nat} (hh : h < 384) : s.dmWrite 0x10 (2 ^ 31 + h <<< 16) = (s.setDm 0x10 (h <<< 16)).haltHart h := by
  have hput : putBits (2 ^ 31 + h <<< 16) 31 30 0 = h <<< 16 := by
    simp only [putBits, bits, Nat.shiftLeft_eq, Nat.shiftRight_eq_div_pow]
    omega
  have hhart : (s.setDm 0x10 (h <<< 16)).dmHart = h := by
    unfold State.dmHart
    rw [State.dm_setDm]
    simp only [bits, Nat.shiftLeft_eq, Nat.shiftRight_eq_div_pow]
    omega
  have hreq : bitN (2 ^ 31 + h <<< 16) 31 = true := by
    rw [bitN, testBit_eq_bits, beq_iff_eq]
    simp only [bits, Nat.shiftLeft_eq, Nat.shiftRight_eq_div_pow]
    omega
  unfold State.dmWrite
  dsimp only
  rw [if_pos rfl, hput, hhart, if_neg (by omega), if_pos hreq]

/-- A DMI write of value w to register n. -/
theorem gives_dmiWrite {n w : Nat} (hv : v = n <<< 34 + w <<< 2 + 2) (hn : n < 2 ^ 7) (hw : w < 2 ^ 32) (hresps : s.resps = []) {P : State → Prop}
    (hP : ∀ d, P ((s.dmiShown.dmWrite n w).withDmi d)) : Gives (.dmi v) s P := by
  rw [Nat.shiftLeft_eq, Nat.shiftLeft_eq] at hv
  have hreg : bits v 40 34 = n := by
    simp only [bits, Nat.shiftRight_eq_div_pow]
    omega
  have hval : bits v 33 2 = w := by
    simp only [bits, Nat.shiftRight_eq_div_pow]
    omega
  refine gives_next (exec_dmi_write hresps (by omega)) ?_
  rw [hreg, hval]
  exact hP _

theorem gives_dmi_halt {h : Nat} (hh : h < 384) (hv : v = 0x10 <<< 34 + (2 ^ 31 + h <<< 16) <<< 2 + 2) (hresps : s.resps = [])
    (hstarted : (s.hart h).started = true) (hruns : (s.hart h).halted = false) (hio : (s.hart h).io = none) : Gives (.dmi v) s fun t =>
      t.tap.ir = 0x11 ∧ t.tap.tdo = s.tap.dmi ∧ (t.hart h).halted = true ∧ (t.hart h).a.getCsr 0x7B1 = (s.hart h).a.pc.toNat ∧
      (t.hart h).epoch = none ∧ ∀ g, g ≠ h → t.hart g = s.hart g := by
  have hw : 2 ^ 31 + h <<< 16 < 2 ^ 32 := by
    rw [Nat.shiftLeft_eq]
    omega
  refine gives_dmiWrite hv (by decide) hw hresps fun d => ?_
  rw [State.dmWrite_halt hh]
  obtain ⟨htap, hhalted, hpc, hepoch, hothers⟩ := State.haltHart_spec (s := s.dmiShown.setDm 0x10 (h <<< 16)) hstarted hruns hio
  generalize (s.dmiShown.setDm 0x10 (h <<< 16)).haltHart h = u at *
  rw [(u.withDmi_tap d).1, (u.withDmi_tap d).2, htap, (State.tap_setDm ..).1, (State.tap_setDm ..).2]
  exact ⟨rfl, rfl, hhalted, hpc, hepoch, hothers⟩

-- an abstract command that reads mhartid

theorem State.readCsr_mhartid (s : State) (h : Nat) : s.readCsr h 0xF14 = h := by
  unfold State.readCsr
  simp [CSR_MIP]

/-- The abstract command that reads mhartid, of 64 bits. -/
def readHartId : Nat := 3 <<< 20 + 2 ^ 17 + 0xF14

theorem State.dmCommand_mhartid (hh : s.dmHart < 384) (hhalted : (s.hart s.dmHart).halted = true) (herr : bits (s.dm 0x16) 10 8 = 0) :
    s.dmCommand readHartId = (s.setDm 0x04 s.dmHart).setDm 0x05 (s.dmHart >>> 32) := by
  have hplain : dmCsrFails 0xF14 false = false := by decide
  have hn : bits readHartId 15 0 = 0xF14 := by decide
  have hsize : bits readHartId 22 20 = 3 := by decide
  have hkind : bits readHartId 31 24 = 0 := by decide
  have h16 : bitN readHartId 16 = false := by decide
  have h17 : bitN readHartId 17 = true := by decide
  have h18 : bitN readHartId 18 = false := by decide
  unfold State.dmCommand
  simp [hn, hsize, hkind, h16, h17, h18, herr, hplain, hhalted, hh, State.readCsr_mhartid]

theorem gives_dmi_mhartid {h : Nat} (hh : h < 384) (hv : v = 0x17 <<< 34 + readHartId <<< 2 + 2) (hresps : s.resps = []) (hsel : s.dmHart = h)
    (hhalted : (s.hart h).halted = true) (herr : bits (s.dm 0x16) 10 8 = 0) : Gives (.dmi v) s fun t => t.dm 0x04 = h ∧ t.dm 0x05 = 0 ∧ t.harts = s.harts := by
  refine gives_dmiWrite hv (by decide) (by decide) hresps fun d => ?_
  have hsel' : s.dmiShown.dmHart = h := hsel
  have hcommand : s.dmiShown.dmWrite 0x17 readHartId = (s.dmiShown.setDm 0x04 h).setDm 0x05 (h >>> 32) := by
    rw [← hsel'] at hh hhalted ⊢
    exact State.dmCommand_mhartid hh hhalted herr
  have hhigh : h >>> 32 = 0 := Nat.shiftRight_eq_zero h 32 (by omega)
  rw [hcommand, hhigh, State.dm_withDmi, State.dm_withDmi, State.dm_setDm_ne _ _ (by decide), State.dm_setDm, State.dm_setDm]
  exact ⟨Nat.mod_eq_of_lt (by omega), rfl, rfl⟩

-- scans

/-- The free value of a boundary-scan capture apart, only the TAP moves. -/
theorem State.boundaryScan_spec (s : State) (ir v : Nat) : (s.boundaryScan ir v).tap.ir = ir ∧ (s.boundaryScan ir v).tap.boundary = v % 2 ^ 2653 ∧
    { s.boundaryScan ir v with tap := s.tap, free := s.free } = s := by
  unfold State.boundaryScan
  generalize (2 : Nat) ^ 2653 = m
  exact ⟨rfl, rfl, rfl⟩

theorem gives_dtmcs (s : State) (v : Nat) : Gives (.dtmcs v) s fun t => t.tap.ir = 0x10 ∧ t.tap.tdo % 2 ^ 12 = 0x71 ∧ t.tap.dtmcs = v % 2 ^ 32 ∧
    { t with tap := s.tap, free := s.free } = s := by
  refine gives_next (t := (s.draw 3).2.jtag 0x10 ((s.draw 3).1.toNat <<< 12 + 0x71) (fun t => { t with dtmcs := v % 2 ^ 32 })) rfl ⟨rfl, ?_, rfl, rfl⟩
  change ((s.draw 3).1.toNat <<< 12 + 0x71) % 2 ^ 12 = 0x71
  rw [Nat.shiftLeft_eq]
  omega

-- Safelight's page access

/-- The access that SL_ADDR starts. -/
def State.slAccess (s : State) (v : Nat) : PageReq :=
  ⟨safelightReq, BitVec.ofNat 52 v, if v.testBit 52 then .store else .load, 8, w64 s.tap.slData, s.tb, 0⟩

/-- The state in which SL_ADDR is captured. -/
def State.slShown (s : State) (v : Nat) : State := s.jtag 0x40 s.tap.slAddr (fun t => { t with slAddr := v % 2 ^ 53, slResult := 0 })

theorem exec_slAddr (h : s.resps = []) : exec (.slAddr v) s = .next ((s.slShown v).rootRequest (s.slAccess v)) := by
  have hnone : ({ s.slShown v with resps := (s.slShown v).resps.filter (fun r => !(r.who == safelightReq && r.tag == 0)) } : State) = s.slShown v := by
    have hshown : (s.slShown v).resps = [] := h
    rw [hshown]
    exact congrArg (fun l => ({ s.slShown v with resps := l } : State)) hshown.symm
  exact congrArg (fun t => Host.Outcome.next (State.rootRequest t (s.slAccess v))) hnone

theorem gives_slAddr {n : Nat} (hstop : pageStop (v % 2 ^ 52) = some n) (hresps : s.resps = []) : Gives (.slAddr v) s fun t =>
    t.tap.ir = 0x40 ∧ t.tap.slResult = 0 ∧ (t.hinge n).rootQ = (s.hinge n).rootQ ++ [(kclkEdge s.now + 6 * keywayLeg n, s.slAccess v)] := by
  have hsent := State.rootRequest_stop (s := s.slShown v) (p := s.slAccess v) (n := n) ((congrArg pageStop (BitVec.toNat_ofNat v 52)).trans hstop)
  refine gives_next ((exec_slAddr hresps).trans (congrArg _ hsent)) ⟨rfl, rfl, ?_⟩
  rw [State.hinge_setHinge]
  have hleg : (if (s.slAccess v).who.path = .safelight then 0 else 3) + keywayLeg n = keywayLeg n := Nat.zero_add _
  rw [hleg]
  rfl

theorem exec_slData (v : Nat) (s : State) : exec (.slData v) s = .next (s.slDone.jtag 0x41 s.slDone.tap.slResult (fun t => { t with slData := v % 2 ^ 64 })) := rfl

theorem gives_slData (hresps : s.resps = []) : Gives (.slData v) s fun t =>
    t.tap = { s.tap with ir := 0x41, tdo := s.tap.slResult, slData := v % 2 ^ 64 } ∧ { t with tap := s.tap } = s := by
  have hdone : s.slDone = s := by
    unfold State.slDone
    rw [hresps]
    rfl
  refine gives_next (exec_slData v s) ?_
  rw [hdone]
  exact ⟨rfl, rfl⟩

theorem gives_slData_come {r : Resp} (hresps : s.resps = [r]) (hwho : r.who = safelightReq) (htag : r.tag = 0) : Gives (.slData v) s fun t =>
    t.resps = [] ∧ t.now = max s.now r.at_ ∧ t.tap.tdo = 2 ^ 65 + (if r.err then 2 ^ 64 else 0) + r.data.toNat := by
  have htake : takeFirst (fun r => r.who == safelightReq && r.tag == 0) s.resps = some (r, []) := by
    rw [hresps, takeFirst_singleton]
    simp [hwho, htag]
  have hdone : s.slDone = { (s.toMclk r.at_) with resps := [], tap := { s.tap with slResult := 2 ^ 65 + b01 r.err <<< 64 + r.data.toNat } } := by
    unfold State.slDone
    rw [htake]
  refine gives_next (exec_slData v s) ?_
  rw [hdone]
  refine ⟨rfl, rfl, ?_⟩
  change 2 ^ 65 + b01 r.err <<< 64 + r.data.toNat = _
  cases r.err <;> rfl

end

/-- Settles O57: each clause is a rule above, for the common command codes, the messages and mailbox requests of the BMC, and the instructions of the
TAP. -/
theorem bmcAndTapAreServed : Obligations.BmcAndTapAreServed := by
  unfold Obligations.BmcAndTapAreServed
  refine ⟨fun s v => ?_, fun s m => ⟨fun hdone => gives_unserved hdone m, fun hdone hon => ?_⟩, fun s v => ?_⟩
  · refine ⟨fun h => gives_events s v h, fun h => gives_events_kept s v h, gives_i3c rfl rfl, gives_i3c rfl rfl, gives_i3c rfl rfl,
      fun h => gives_entdaa s v (by rw [h]; rfl), fun h => gives_entdaa s v (if_neg (by simpa using h)), gives_i3c rfl rfl, gives_i3c rfl rfl,
      gives_i3c rfl rfl, gives_i3c rfl rfl, gives_i3c rfl rfl, gives_i3c rfl rfl, gives_i3c rfl rfl, gives_getpid s v,
      gives_next rfl ⟨_, rfl⟩⟩
  · have hserved : s.bmcServed = true := State.bmcServed_iff.mpr ⟨hdone, hon⟩
    refine ⟨fun i e hi hi' h0 hff hm => hm ▸ gives_setEid hserved hi hi' h0 hff, fun i hi hi' hm => hm ▸ gives_getTypes hserved hi hi',
      fun i rest hi hm => hm ▸ gives_pldmResponse hserved hi rest,
      fun x i hm h0 h248 hi hnext hfree => hm ▸ gives_mctpSpdm hserved h0 h248 hi hnext hfree, fun b seq ws hb hseq hm => ?_⟩
    obtain rfl : m = bmcMessage b seq ws := hm
    refine ⟨fun hno => gives_bmcMbxRequest hb hseq hserved ?_, fun h24 h27 hlen hmax hen => ⟨fun hst => gives_bmcMbxRequest hb hseq hserved ?_,
      fun h1 h2 => gives_bmcMbxRequest hb hseq hserved ?_⟩⟩
    · rw [State.bmcAsks_denied hno]
      exact ⟨rfl, rfl⟩
    · rw [State.bmcAsks_rejected (b := ⟨b, by omega⟩) h24 h27 hlen hmax hen hst]
      obtain ⟨hflag, hstate, hout, hin⟩ := s.mbxRejected_spec (mbxPg b) (bmcHeader b 0x82 seq)
      exact ⟨hflag, hstate, hout, fun j _ => hin j⟩
    · exact State.taken_spec (b := ⟨b, by omega⟩) hseq h1 h2 (State.bmcAsks_taken (b := ⟨b, by omega⟩) h24 h27 hlen hmax hen h1 h2)
  · refine ⟨gives_next rfl (s.boundaryScan_spec 0x00 v), gives_next rfl (s.boundaryScan_spec 0x01 v), gives_next rfl rfl, gives_next rfl rfl,
      gives_next rfl rfl, gives_next rfl rfl, gives_next rfl rfl, gives_dtmcs s v, fun hv hresps => gives_next (exec_dmi_none hresps hv) rfl,
      fun h hh hv hresps => gives_dmi_halt hh hv hresps, fun h hh hv hresps => gives_dmi_mhartid hh hv hresps,
      fun n hstop hresps => gives_slAddr hstop hresps, gives_slData, fun r hresps hwho htag => gives_slData_come hresps hwho htag⟩

end Sys2Proof.Machine

/-! Completion records, joins, spill rings and refills of a task queue (R325 to R331), and O16. -/

namespace Sys2Proof.Machine
open Safety

-- a reply to a completion

/-- The state with another mesh. -/
def State.onMesh (s : State) (m : Mesh) : State := { s with mesh := m }

/-- Taking a message off its stop moves the mesh alone. -/
theorem State.taken_mesh (s : State) (f : Flit) : ∃ m, s.taken f = s.onMesh m := by
  refine ⟨(s.taken f).mesh, ?_⟩
  have hframe := s.taken_only f
  generalize s.taken f = t at hframe ⊢
  exact (congrArg (fun u : State => ({ u with mesh := t.mesh } : State)) hframe :)

theorem toTile {e : Tile} {n : Nat} (h : n = e.val + 12) : ¬ (stopTile? n).isNone = true ∧ n - 12 = e.val := by
  subst h
  have hstop := stopTile_tileStop e
  simp only [tileStop] at hstop
  exact ⟨by simp [hstop.1], by omega⟩

theorem State.queueMessage_tile {s : State} {f : Flit} {e : Tile} {act : State → Nat → State} (hdst : f.dst.val = e.val + 12) :
    s.queueMessage f act = .next (act s e.val) := by
  obtain ⟨hstop, htile⟩ := toTile hdst
  unfold State.queueMessage
  rw [if_neg hstop, htile]

section
variable {s : State} {e : Tile} {f : Flit} {x : Compl}

theorem State.complOf_one {p : ComplPhase} {t : State} (hcompl : (t.queue e.val).compl = [x]) (htag : x.tag = f.tag.val) (hphase : x.phase = p) :
    t.complOf e.val f p = some x := by
  unfold State.complOf
  rw [hcompl, List.find?_cons, htag, hphase]
  simp

/-- The reply to the access of the one completion that waits. -/
theorem State.complReply_access (hdst : f.dst.val = e.val + 12) (hcompl : (s.queue e.val).compl = [x]) (htag : x.tag = f.tag.val) (hdue : x.due = .access)
    {p : ComplPhase} (hphase : x.phase = p) {act : State → Nat → Compl → State} {m : Mesh} (hm : s.taken f = s.onMesh m) :
    s.complReply f p act = .next (act (s.onMesh m) e.val x) := by
  have hfound : (s.onMesh m).complOf e.val f p = some x := State.complOf_one hcompl htag hphase
  unfold State.complReply
  rw [State.queueMessage_tile hdst]
  dsimp only
  rw [hm, hfound]
  dsimp only
  rw [if_pos hdue]

theorem State.queue_dropCompl {s : State} {e : Nat} (hcompl : (s.queue e).compl = [x]) : (s.dropCompl e x.tag).queue e = { s.queue e with compl := [] } := by
  unfold State.dropCompl
  dsimp only
  rw [State.queue_setQueue, hcompl]
  simp

theorem State.queue_putCompl {s : State} {e : Nat} {y : Compl} (hcompl : (s.queue e).compl = [x]) (htag : y.tag = x.tag) :
    ((s.putCompl e y).queue e).compl = [y] := by
  unfold State.putCompl
  dsimp only
  rw [State.queue_setQueue, hcompl]
  simp [htag]

end

theorem exec_taskComplete (f : Flit) (s : State) : exec (.taskComplete f) s =
    s.complReply f .write (fun s c x => (if replyFails f then s.complFails c x (dCrec x.desc) else s).completed c x s.now) := rfl

theorem exec_joinDecrement (f : Flit) (s : State) : exec (.joinDecrement f) s = s.complReply f .join (fun s c x =>
    if replyFails f || f.poison then (s.dropCompl c x.tag).complFails c x (dJblk x.desc)
    else if lineWord f.data 0 = 1 then s.startCont c x s.now
    else s.dropCompl c x.tag) := rfl

theorem exec_continuationRead (f : Flit) (s : State) : exec (.continuationRead f) s = s.complReply f .cont (fun s c x =>
    let s1 := s.dropCompl c x.tag
    if replyFails f || f.poison then s1.complFails c x (dJblk x.desc + 64)
    else if dValid f.data then ((s1.laneOwner c x.cls.val).doorbellSubmit c f.data x.ctx x.tenant x.cls).1
    else s1) := rfl

-- the record's write (R327)

theorem State.freeEngine_spec (s : State) (c : Nat) : ((s.freeEngine c).engine c).task = none ∧
    ((s.freeEngine c).engine c).st = (if (s.engine c).st = .halted then .halted else .idle) ∧ (s.freeEngine c).queue c = { s.queue c with running := none } ∧
    { s.freeEngine c with engines := s.engines, queues := s.queues } = s := by
  have hfreed : ∃ v : Engine, v.task = none ∧ v.st = (if (s.engine c).st = .halted then .halted else .idle) ∧
      s.freeEngine c = (s.setEngine c v).setQueue c { (s.setEngine c v).queue c with running := none } := ⟨_, rfl, rfl, rfl⟩
  have hset (v : Engine) : (s.setEngine c v).engine c = v ∧ (s.setEngine c v).queue c = s.queue c ∧ { s.setEngine c v with engines := s.engines } = s :=
    ⟨State.engine_setEngine .., rfl, rfl⟩
  obtain ⟨v, htask, hst, heq⟩ := hfreed
  obtain ⟨hengine, hqueue, hframe⟩ := hset v
  rw [heq]
  generalize s.setEngine c v = u at hengine hqueue hframe ⊢
  rw [hqueue]
  have hsame : (u.setQueue c { s.queue c with running := none }).engine c = v := hengine
  rw [hsame]
  exact ⟨htask, hst, State.queue_setQueue .., congrArg (fun w : State => ({ w with queues := s.queues } : State)) hframe⟩

section
variable {s : State} {e : Tile} {f : Flit} {x : Compl} (hdst : f.dst.val = e.val + 12) (hok : replyFails f = false) (hclean : f.poison = false)
  (hcompl : (s.queue e.val).compl = [x]) (htag : x.tag = f.tag.val) (hdue : x.due = .access)
include hdst hok hcompl htag hdue

theorem gives_taskComplete (hphase : x.phase = .write) (hjoins : x.joins = false) (hfrees : x.frees = true) (hst : (s.engine e.val).st = .task) :
    Gives (.taskComplete f) s fun t => (t.queue e.val).compl = [] ∧ (t.engine e.val).task = none ∧ (t.engine e.val).st = .idle ∧
      (t.queue e.val).running = none ∧ { t with engines := s.engines, queues := s.queues, mesh := s.mesh } = s := by
  obtain ⟨m, hm⟩ := s.taken_mesh f
  have hdone (u : State) : u.completed e.val x u.now = (u.freeEngine e.val).dropCompl e.val x.tag := by
    unfold State.completed State.startJoin
    rw [if_pos hfrees, if_pos (by simp [hjoins])]
  refine gives_next (t := ((s.onMesh m).freeEngine e.val).dropCompl e.val x.tag) ?_ ?_
  · rw [exec_taskComplete, State.complReply_access hdst hcompl htag hdue hphase hm, if_neg (by simp [hok])]
    exact congrArg _ (hdone _)
  obtain ⟨htask, hidle, hqueue, hframe⟩ := (s.onMesh m).freeEngine_spec e.val
  have hstay : (if ((s.onMesh m).engine e.val).st = .halted then EngSt.halted else .idle) = .idle :=
    if_neg (fun h => by cases hst.symm.trans h)
  rw [hstay] at hidle
  generalize (s.onMesh m).freeEngine e.val = u at htask hidle hqueue hframe ⊢
  have hone : (u.queue e.val).compl = [x] := by
    rw [hqueue]
    exact hcompl
  rw [State.queue_dropCompl hone, hqueue]
  exact ⟨rfl, htask, hidle, rfl, (congrArg (fun t : State => ({ t with mesh := s.mesh } : State)) hframe :)⟩

-- the join's decrement (R329)

include hclean

theorem gives_joinDecrement_ends (hphase : x.phase = .join) (hmore : lineWord f.data 0 ≠ 1) : Gives (.joinDecrement f) s fun t =>
    (t.queue e.val).compl = [] ∧ { t with queues := s.queues, mesh := s.mesh } = s := by
  obtain ⟨m, hm⟩ := s.taken_mesh f
  refine gives_next (t := (s.onMesh m).dropCompl e.val x.tag) ?_ ?_
  · rw [exec_joinDecrement, State.complReply_access hdst hcompl htag hdue hphase hm, if_neg (by simp [hok, hclean]), if_neg hmore]
  · rw [State.queue_dropCompl (s := s.onMesh m) hcompl]
    exact ⟨rfl, rfl⟩

/-- The last decrement goes on to read the continuation. -/
theorem gives_joinDecrement_last (hphase : x.phase = .join) (hone : lineWord f.data 0 = 1) {P : State → Prop}
    (hP : ∀ m, P ((s.onMesh m).startCont e.val x s.now)) : Gives (.joinDecrement f) s P := by
  obtain ⟨m, hm⟩ := s.taken_mesh f
  refine gives_next (t := (s.onMesh m).startCont e.val x s.now) ?_ (hP m)
  rw [exec_joinDecrement, State.complReply_access hdst hcompl htag hdue hphase hm, if_neg (by simp [hok, hclean]), if_pos hone]
  rfl

end

-- the continuation's read (R329)

section
variable {s : State} {e a pa m : Nat} {x : Compl} (hok : s.tenantOk x.tenant.val = true)
include hok

theorem State.startCont_asks (hctx : x.ctx = none) (haddr : s.ctxAddr x.tenant.val = some a) : s.startCont e x m =
    (s.putCompl e { x with phase := .cont, due := .context }).sendAt (max s.now m) (s.contextRead (tileStop e) 3 x.tag x.tenant.val a) := by
  unfold State.startCont State.complReach
  dsimp only
  rw [if_neg (by simp [hok]), hctx, haddr]

theorem State.startCont_reads {cx : Option Line} (hctx : x.ctx = some cx) (hdue : x.due = .access)
    (hreached : (s.ctxTranslate cx x.lines (dJblk x.desc + 64) false).reached = .pa pa) (hmem : s.mainMemory pa = true) : s.startCont e x m =
    (s.putCompl e { x with phase := .cont, lines := [] }).queueSend m e OP_BRD x.cls x.tag pa x.tenant (s.tenantKey x.tenant.val) 0 := by
  unfold State.startCont State.complReach
  dsimp only
  rw [if_neg (by simp [hok]), hctx]
  dsimp only [Option.getD_some]
  rw [hreached]
  dsimp only
  rw [if_pos hmem, ← hctx, ← hdue]

end

section
variable {s : State} {e : Tile} {f : Flit} {x : Compl} (hdst : f.dst.val = e.val + 12) (hok : replyFails f = false) (hclean : f.poison = false)
  (hcompl : (s.queue e.val).compl = [x]) (htag : x.tag = f.tag.val) (hdue : x.due = .access)
include hdst hok hclean hcompl htag hdue

omit hdst hok hclean hcompl htag hdue in
theorem State.contextRead_spec (s : State) (stop port tag t pa : Nat) : (s.contextRead stop port tag t pa).op = OP_BRD ∧
    (s.contextRead stop port tag t pa).addr = BitVec.ofNat 52 (lineBase pa) ∧ (s.contextRead stop port tag t pa).tag = Fin.ofNat 2048 tag := ⟨rfl, rfl, rfl⟩

theorem gives_joinDecrement_asks {a : Nat} (hphase : x.phase = .join) (hone : lineWord f.data 0 = 1) (hctx : x.ctx = none)
    (haddr : s.ctxAddr x.tenant.val = some a) (htenant : s.tenantOk x.tenant.val = true) : Gives (.joinDecrement f) s fun t =>
      (∃ m, t.out = s.out ++ [m] ∧ m.flit.op = OP_BRD ∧ m.flit.addr.toNat / 64 = a / 64 % 2 ^ 46 ∧ m.flit.tag.val = x.tag) ∧
      (t.queue e.val).compl = [{ x with phase := .cont, due := .context }] := by
  refine gives_joinDecrement_last hdst hok hclean hcompl htag hdue hphase hone fun m => ?_
  rw [State.startCont_asks (s := s.onMesh m) htenant hctx haddr]
  obtain ⟨hop, haddr, hsent⟩ := (s.onMesh m).contextRead_spec (tileStop e.val) 3 x.tag x.tenant.val a
  refine ⟨⟨_, State.out_sendAt .., hop, ?_, ?_⟩, State.queue_putCompl (s := s.onMesh m) hcompl rfl⟩
  · rw [haddr, BitVec.toNat_ofNat]
    unfold lineBase
    omega
  · rw [hsent, Fin.val_ofNat, htag]
    exact Nat.mod_eq_of_lt f.tag.isLt

theorem gives_joinDecrement_reads {cx : Option Line} {pa : Nat} (hphase : x.phase = .join) (hone : lineWord f.data 0 = 1) (hctx : x.ctx = some cx)
    (htenant : s.tenantOk x.tenant.val = true) (hreached : (s.ctxTranslate cx x.lines (dJblk x.desc + 64) false).reached = .pa pa)
    (hmem : s.mainMemory pa = true) : Gives (.joinDecrement f) s fun t =>
      (∃ m, t.out = s.out ++ [m] ∧ m.flit.op = OP_BRD ∧ m.flit.addr = BitVec.ofNat 52 pa ∧ m.flit.cls = x.cls) ∧
      (t.queue e.val).compl = [{ x with phase := .cont, lines := [] }] := by
  refine gives_joinDecrement_last hdst hok hclean hcompl htag hdue hphase hone fun m => ?_
  rw [State.startCont_reads (s := s.onMesh m) htenant hctx hdue hreached hmem]
  exact ⟨⟨_, rfl, rfl, rfl, rfl⟩, State.queue_putCompl (s := s.onMesh m) hcompl rfl⟩

end

-- a descriptor pushed (R317, R318)

theorem lineWord_toNat (l : Line) : (lineWord l 0).toNat = bits l.toNat 63 0 := by
  unfold lineWord bits
  rw [BitVec.toNat_setWidth]
  simp

theorem dWord_setLineWord (l : Line) (w : Word) : dWord (setLineWord l 0 w) 0 = w.toNat := by
  have hlt : putBits l.toNat 63 0 w.toNat < 2 ^ 512 := putBits_lt _ _ _ _ 512 (by decide) l.isLt (by decide)
  unfold dWord setLineWord
  rw [lineWord_toNat, BitVec.toNat_ofNat, Nat.mod_eq_of_lt hlt, bits_putBits _ _ _ _ (by decide)]
  exact Nat.mod_eq_of_lt w.isLt

/-- The clamp of a priority leaves the class. -/
theorem State.dClass_clampPriority (s : State) (d : Line) : dClass (s.clampPriority d) = dClass d := by
  have hlt (v : Nat) : putBits (dWord d 0) 60 58 v < 2 ^ 64 := putBits_lt _ _ _ _ 64 (by decide) (BitVec.isLt _) (by decide)
  unfold State.clampPriority dClass
  rw [dWord_setLineWord, w64, BitVec.toNat_ofNat, Nat.mod_eq_of_lt (hlt _), bits_putBits_apart (by decide) (by decide) (by decide)]

theorem Queue.entries_setEntries (q : Queue) (k : Nat) (l : List Line) : (q.setEntries k l).entries k = l := Tab.get_set_self ..

theorem CountsOnly.queues {pg : Nat} {s t : State} (h : CountsOnly pg s t) : t.queues = s.queues := (congrArg State.queues h.rest :)

theorem State.clampPriority_withQueues (s : State) (q : Tab Queue) (d : Line) : ({ s with queues := q } : State).clampPriority d = s.clampPriority d := rfl
theorem State.taskCheck_withQueues (s : State) (q : Tab Queue) (c : Nat) (d : Line) (t : Tenant) (k : Cls) :
    ({ s with queues := q } : State).taskCheck c d t k = s.taskCheck c d t k := rfl
theorem State.queueShare_withQueues (s : State) (q : Tab Queue) (c k : Nat) : ({ s with queues := q } : State).queueShare c k = s.queueShare c k := rfl

/-- What a push leaves: its class's entries, and of the rest of the queue neither completions nor refills. -/
theorem State.pushed_spec (s : State) (c k : Nat) (l : List Line) (m : Nat) :
    ((s.pushed c k l m).queue c).entries k = l ∧ ((s.pushed c k l m).queue c).compl = (s.queue c).compl ∧
    ((s.pushed c k l m).queue c).refills = (s.queue c).refills ∧ CountsOnly (enginePg c) { s with queues := (s.pushed c k l m).queues } (s.pushed c k l m) ∧
    (s.pushed c k l m).wires = s.wires := by
  unfold State.pushed
  extract_lets q on
  have hwatch (u : State) : CountsOnly (enginePg c) u (u.watch (enginePg c)) := by
    unfold State.watch
    split
    · exact (CountsOnly.refl _ u).blind (pageBase_mod8 ..)
    · exact .refl _ u
  have hqueues (u : State) : (u.watch (enginePg c)).queues = u.queues := (hwatch u).queues
  have hwires (u : State) : (u.watch (enginePg c)).wires = u.wires := by
    unfold State.watch State.blind
    split
    · simp
    · rfl
  have hqueue (u : State) : (u.watch (enginePg c)).queue c = u.queue c := by
    unfold State.queue
    rw [hqueues]
  rw [hqueue, hqueues, State.queue_setQueue]
  exact ⟨Queue.entries_setEntries .., rfl, rfl, hwatch _, hwires _⟩

/-- Entering a lane leaves the queue's entries, completions and refills, and everything outside the queues. -/
theorem State.laneEnter_spec (s : State) (c k m : Nat) : ((s.laneEnter c k m).1.queue c).deque = (s.queue c).deque ∧
    ((s.laneEnter c k m).1.queue c).compl = (s.queue c).compl ∧ ((s.laneEnter c k m).1.queue c).refills = (s.queue c).refills ∧
    ((s.laneEnter c k m).1.queue c).retired = (s.queue c).retired ∧ { (s.laneEnter c k m).1 with queues := s.queues } = s := by
  unfold State.laneEnter
  dsimp only
  rw [State.queue_setQueue]
  exact ⟨rfl, rfl, rfl, rfl, rfl⟩

/-- A checked descriptor with room in its class is pushed on top. -/
theorem State.doorbellSubmit_pushed {s : State} {c : Nat} {d : Line} {ctx : Option (Option Line)} {t : Tenant} {k : Cls}
    (hkept : (s.queue c).retired = false) (hcheck : s.taskCheck c d t k = true) (hroom : ((s.queue c).entries k.val).length < s.queueShare c k.val) :
    ((s.doorbellSubmit c d ctx t k).1.queue c).entries k.val = (s.queue c).entries k.val ++ [s.clampPriority d] ∧
    ((s.doorbellSubmit c d ctx t k).1.queue c).compl = (s.queue c).compl := by
  have hcls : dClass d = k := by
    simp only [State.taskCheck, Bool.and_eq_true, beq_iff_eq] at hcheck
    exact hcheck.1.1.1.1.2
  obtain ⟨hdeque, hcompl, -, hretired, hframe⟩ := s.laneEnter_spec c k.val s.now
  unfold State.doorbellSubmit State.submitRecorded State.offer State.pushTop
  dsimp only
  generalize s.laneEnter c k.val s.now = en at hdeque hcompl hretired hframe ⊢
  have hentries : (en.1.queue c).entries k.val = (s.queue c).entries k.val := congrArg (Tab.get [] · k.val) hdeque
  have hclamp : en.1.clampPriority d = s.clampPriority d := by rw [← en.1.clampPriority_withQueues s.queues, hframe]
  have hcheck' : en.1.taskCheck c d t k = true := by rw [← en.1.taskCheck_withQueues s.queues, hframe, hcheck]
  have hshare : en.1.queueShare c k.val = s.queueShare c k.val := by rw [← en.1.queueShare_withQueues s.queues, hframe]
  rw [hretired, hkept, hcheck', hclamp, State.dClass_clampPriority, hcls, hentries, hshare, if_neg (by simp), if_neg (by simp), if_pos hroom,
    if_neg (by simp)]
  obtain ⟨hpushed, hkeep, -⟩ := en.1.pushed_spec c k.val ((s.queue c).entries k.val ++ [s.clampPriority d]) (en.2 + 3)
  dsimp only
  exact ⟨hpushed, hkeep.trans hcompl⟩

theorem State.nextTask_setQueue {s : State} {c : Nat} {q : Queue} (hdeque : q.deque = (s.queue c).deque) (hready : q.ready = (s.queue c).ready) :
    (s.setQueue c q).nextTask c = s.nextTask c := by
  have hfree : (s.setQueue c q).engineFree c = s.engineFree c := rfl
  have horder : (s.setQueue c q).classOrder c = s.classOrder c := rfl
  have hengine : (s.setQueue c q).engine c = s.engine c := rfl
  unfold State.nextTask Queue.entries
  rw [hfree, horder, hengine, State.queue_setQueue, hdeque, hready]

theorem State.nextTask_dropCompl (s : State) (c tag : Nat) : (s.dropCompl c tag).nextTask c = s.nextTask c := State.nextTask_setQueue rfl rfl

theorem gives_continuationRead {s : State} {e : Tile} {f : Flit} {x : Compl} (hdst : f.dst.val = e.val + 12) (hok : replyFails f = false)
    (hclean : f.poison = false) (hcompl : (s.queue e.val).compl = [x]) (htag : x.tag = f.tag.val) (hdue : x.due = .access) (hphase : x.phase = .cont)
    (hvalid : dValid f.data = true) (hquiet : LaneQuiet s e.val x.cls.val) (hkept : (s.queue e.val).retired = false)
    (hcheck : s.taskCheck e.val f.data x.tenant x.cls = true) (hroom : ((s.queue e.val).entries x.cls.val).length < s.queueShare e.val x.cls.val) :
    Gives (.continuationRead f) s fun t => (t.queue e.val).entries x.cls.val = (s.queue e.val).entries x.cls.val ++ [s.clampPriority f.data] ∧
      (t.queue e.val).compl = [] := by
  have hstays : s.taken f = s.onMesh s.mesh := by rw [s.taken_none f hquiet.1]; rfl
  refine gives_next (t := ((s.dropCompl e.val x.tag).doorbellSubmit e.val f.data x.ctx x.tenant x.cls).1) ?_ ?_
  · have hlane : (s.dropCompl e.val x.tag).laneOwner e.val x.cls.val = s.dropCompl e.val x.tag := State.laneOwner_quiet ⟨hquiet.1, fun m hm =>
      hquiet.2 m ((State.nextTask_dropCompl s e.val x.tag).symm.trans hm)⟩
    rw [exec_continuationRead, State.complReply_access hdst hcompl htag hdue hphase hstays]
    dsimp only
    rw [if_neg (by simp [hok, hclean]), if_pos hvalid]
    exact congrArg (fun u : State => Host.Outcome.next (u.doorbellSubmit e.val f.data x.ctx x.tenant x.cls).1) hlane
  · have hqueue := State.queue_dropCompl hcompl
    have hentries : ((s.dropCompl e.val x.tag).queue e.val).entries x.cls.val = (s.queue e.val).entries x.cls.val := by rw [hqueue]; rfl
    have hpushed := State.doorbellSubmit_pushed (s := s.dropCompl e.val x.tag) (c := e.val) (d := f.data) (ctx := x.ctx) (t := x.tenant) (k := x.cls)
      (by rw [hqueue]; exact hkept) hcheck (by rw [hentries]; exact hroom)
    rw [hentries, hqueue] at hpushed
    exact hpushed

-- spills and refills (R330, R331)

section
variable {s : State} {e : Tile} {f : Flit}

theorem exec_spillWriteAck (hdst : f.dst.val = e.val + 12) (hok : replyFails f = false) {m : Mesh} (hm : s.taken f = s.onMesh m) {k : Cls} {n : Nat}
    (hspills : (s.queue e.val).spills = [(k, n)]) (htag : f.tag.val = 512 + 32 * k.val + n % 32) :
    exec (.spillWriteAck f) s = .next ((s.onMesh m).setQueue e.val { s.queue e.val with spills := [] }) := by
  obtain ⟨hstop, htile⟩ := toTile hdst
  have htake : takeFirst (fun e : Cls × Nat => 512 + 32 * e.1.val + e.2 % 32 == f.tag.val) ((s.onMesh m).queue e.val).spills = some ((k, n), []) := by
    change takeFirst _ (s.queue e.val).spills = _
    rw [hspills, takeFirst_singleton]
    simp [htag]
  change execSpillWriteAck f s = _
  unfold execSpillWriteAck
  dsimp only
  rw [hm, if_neg hstop, htile, htake]
  dsimp only
  rw [if_neg (by simp [hok])]
  rfl

theorem gives_spillWriteAck (hdst : f.dst.val = e.val + 12) (hok : replyFails f = false) {k : Cls} {n : Nat}
    (hspills : (s.queue e.val).spills = [(k, n)]) (htag : f.tag.val = 512 + 32 * k.val + n % 32) : Gives (.spillWriteAck f) s fun t =>
      (t.queue e.val).spills = [] ∧ { t with queues := s.queues, mesh := s.mesh } = s := by
  obtain ⟨m, hm⟩ := s.taken_mesh f
  refine gives_next (exec_spillWriteAck hdst hok hm hspills htag) ⟨?_, rfl⟩
  rw [State.queue_setQueue]

/-- A message of the queue is one more on its way, and nothing else moves. -/
theorem State.queueSend_spec (s : State) (m c : Nat) (op : Fin 32) (k : Cls) (tag pa : Nat) (t : Tenant) (key : KeyIx) (data : Line) :
    (∃ o, (s.queueSend m c op k tag pa t key data).out = s.out ++ [o] ∧ o.flit.op = op ∧ o.flit.addr = BitVec.ofNat 52 pa) ∧
    (s.queueSend m c op k tag pa t key data).queues = s.queues := ⟨⟨_, rfl, rfl, rfl⟩, rfl⟩

theorem State.queues_setFld (s : State) (pg : Nat) (f : Field) (v : Nat) : (s.setFld pg f v).queues = s.queues ∧ (s.setFld pg f v).out = s.out := ⟨rfl, rfl⟩

theorem State.spillHead_setFld (s : State) (c k : Nat) {v : Nat} (hv : v < 2 ^ 32) :
    (s.setFld (queuePg c) (R.TQ_SPILL_HEAD_INDEX.nth k) v).spillHead c k = v :=
  (State.fld_setFld s _ _ v (Nat.zero_le 31) (by decide : (31 : Nat) < 64)).trans (Nat.mod_eq_of_lt hv)

theorem gives_spillRefill {k : Cls} (hmay : s.mayRefill e.val k.val = true) (hlast : s.spillHead e.val k.val + 1 < 2 ^ 32) :
    Gives (.spillRefill e k) s fun t => t.spillHead e.val k.val = s.spillHead e.val k.val + 1 ∧
      (∃ m, t.out = s.out ++ [m] ∧ m.flit.op = OP_BRD ∧ m.flit.addr = BitVec.ofNat 52 (s.spillAddr e.val k.val (s.spillHead e.val k.val))) ∧
      (t.queue e.val).deque = (s.queue e.val).deque := by
  refine gives_next (c := .spillRefill e k) (t := s.refill e.val k.val) rfl ?_
  unfold State.refill
  rw [if_pos hmay]
  extract_lets n q tag s1
  have hsent := s1.queueSend_spec s.now e.val OP_BRD (Fin.ofNat 16 k.val) tag (s.spillAddr e.val k.val n) 0 (s.spillKey e.val k.val) 0
  have hqueue : (s1.queue e.val).deque = q.deque := by
    simp only [s1, State.queue_setQueue]
  have hout : s1.out = s.out := by simp [s1]
  generalize s1.queueSend s.now e.val OP_BRD (Fin.ofNat 16 k.val) tag (s.spillAddr e.val k.val n) 0 (s.spillKey e.val k.val) 0 = u at hsent ⊢
  rw [hout] at hsent
  obtain ⟨hout, hqueues⟩ := hsent
  obtain ⟨hset, hsetOut⟩ := u.queues_setFld (queuePg e.val) (R.TQ_SPILL_HEAD_INDEX.nth k.val) (n + 1)
  refine ⟨State.spillHead_setFld u _ _ hlast, by rwa [hsetOut], ?_⟩
  unfold State.queue
  rw [hset, hqueues]
  exact hqueue

/-- What the arrival of a sound refill does. -/
theorem State.refillArrive_sound (hok : replyFails f = false) (hclean : f.poison = false) {r : Refill} {c : Nat}
    (hrefills : (s.queue c).refills = [r]) (htag : r.tag = f.tag.val) :
    s.refillArrive c f = ((s.setQueue c { s.queue c with refills := [] }).laneEnter c r.cls.val s.now).1.pushBottom c f.data
      (((s.setQueue c { s.queue c with refills := [] }).laneEnter c r.cls.val s.now).2 + 3) := by
  have htake : takeFirst (fun r : Refill => r.tag == f.tag.val) (s.queue c).refills = some (r, []) := by
    rw [hrefills, takeFirst_singleton]
    simp [htag]
  unfold State.refillArrive
  dsimp only
  rw [htake]
  dsimp only
  rw [if_neg (by simp [hok]), if_neg (by simp [hclean])]
  rfl

theorem exec_refillArrival (f : Flit) (s : State) : exec (.refillArrival f) s = s.queueMessage f (fun s c => (s.taken f).refillArrive c f) := rfl

/-- The counters of an engine's page are what `ButCounts` lets move. -/
theorem CountsOnly.butCounts {t u : State} {c : Nat} (h : CountsOnly (enginePg c) t u) (hwires : u.wires = t.wires)
    (ht : { t with queues := s.queues, mesh := s.mesh } = s) : ButCounts s { u with queues := s.queues, mesh := s.mesh } c := by
  have hraised : u.wires = s.wires := hwires.trans (congrArg State.wires ht :)
  refine ⟨?_, fun a ha => (h.reg a ha).trans ?_, fun w hw => hraised ▸ hw, fun w hw => .inl (hraised ▸ hw)⟩
  · have hcounts := congrArg (fun v : State => ({ v with queues := s.queues, mesh := s.mesh, regs := s.regs, wires := s.wires } : State)) h.rest
    have hstays := congrArg (fun v : State => ({ v with regs := s.regs, wires := s.wires } : State)) ht
    exact hcounts.trans hstays
  · have hregs : t.regs = s.regs := (congrArg State.regs ht :)
    unfold State.reg
    rw [hregs]

/-- A push of descriptor d after its lane is entered. -/
theorem State.pushBottom_spec (s : State) (c k m n : Nat) (d : Line) :
    (((s.laneEnter c k m).1.pushBottom c d n).queue c).entries (dClass d).val = d :: (s.queue c).entries (dClass d).val ∧
    (((s.laneEnter c k m).1.pushBottom c d n).queue c).refills = (s.queue c).refills ∧
    ∃ t, CountsOnly (enginePg c) t ((s.laneEnter c k m).1.pushBottom c d n) ∧ ((s.laneEnter c k m).1.pushBottom c d n).wires = t.wires ∧
      { t with queues := s.queues } = s := by
  obtain ⟨hdeque, -, hrefills, -, hframe⟩ := s.laneEnter_spec c k m
  generalize (s.laneEnter c k m).1 = u at hdeque hrefills hframe ⊢
  have hentries : (u.queue c).entries (dClass d).val = (s.queue c).entries (dClass d).val := congrArg (Tab.get [] · (dClass d).val) hdeque
  obtain ⟨hpushed, -, hkept, hcounts, hwires⟩ := u.pushed_spec c (dClass d).val (d :: (u.queue c).entries (dClass d).val) n
  unfold State.pushBottom
  rw [hentries] at hpushed hkept hcounts hwires ⊢
  exact ⟨hpushed, hkept.trans hrefills, _, hcounts, hwires, hframe⟩

theorem gives_refillArrival (hdst : f.dst.val = e.val + 12) (hok : replyFails f = false) (hclean : f.poison = false) {r : Refill}
    (hrefills : (s.queue e.val).refills = [r]) (htag : r.tag = f.tag.val) : Gives (.refillArrival f) s fun t =>
      (t.queue e.val).entries (dClass f.data).val = f.data :: (s.queue e.val).entries (dClass f.data).val ∧ (t.queue e.val).refills = [] ∧
      ButCounts s { t with queues := s.queues, mesh := s.mesh } e.val := by
  obtain ⟨m, hm⟩ := s.taken_mesh f
  have harrives := State.refillArrive_sound (s := s.onMesh m) (c := e.val) hok hclean hrefills htag
  refine gives_next ((exec_refillArrival f s).trans (State.queueMessage_tile hdst)) ?_
  rw [hm, harrives]
  have hqueue : ((s.onMesh m).setQueue e.val { (s.onMesh m).queue e.val with refills := [] }).queue e.val = { s.queue e.val with refills := [] } :=
    State.queue_setQueue ..
  have hframe : { (s.onMesh m).setQueue e.val { (s.onMesh m).queue e.val with refills := [] } with queues := s.queues, mesh := s.mesh } = s := rfl
  generalize (s.onMesh m).setQueue e.val { (s.onMesh m).queue e.val with refills := [] } = u at hqueue hframe ⊢
  obtain ⟨hentries, hnone, t, hcounts, hwires, hrest⟩ := u.pushBottom_spec e.val r.cls.val (s.onMesh m).now
    ((u.laneEnter e.val r.cls.val (s.onMesh m).now).2 + 3) f.data
  rw [hqueue] at hentries hnone
  refine ⟨hentries, hnone, hcounts.butCounts hwires ?_⟩
  exact (congrArg (fun v : State => ({ v with queues := s.queues, mesh := s.mesh } : State)) hrest).trans hframe

end

/-- Settles O16: each clause is the rule above for its reply: the completion's access, the join, the continuation, the spill ring. -/
theorem completionsJoinsAndSpills : Obligations.CompletionsJoinsAndSpills := by
  unfold Obligations.CompletionsJoinsAndSpills
  intro s e f x hdst hok hclean hcompl htag hdue
  exact ⟨gives_taskComplete hdst hok hcompl htag hdue, gives_joinDecrement_ends hdst hok hclean hcompl htag hdue,
    fun a => gives_joinDecrement_asks hdst hok hclean hcompl htag hdue,
    fun cx pa hphase hone hctx => gives_joinDecrement_reads hdst hok hclean hcompl htag hdue hphase hone hctx,
    gives_continuationRead hdst hok hclean hcompl htag hdue, fun k n => gives_spillWriteAck hdst hok, fun k => gives_spillRefill,
    fun r => gives_refillArrival hdst hok hclean⟩

end Sys2Proof.Machine

/-! Trap entries of a hart (R121 to R123), and what the counters of its cycles and events leave alone (R498 to R501). -/

namespace Sys2Proof.Machine
open Safety

-- counting

/-- The CSR numbers that counting writes: mip, the sampled pc, and the counters with their events. -/
def countCsr (n : Nat) : Bool :=
  n == CSR_MIP || n == CSR_XNRSAMPLEPC || (decide (0xB00 ≤ n) && decide (n ≤ 0xB0A)) || (decide (0x323 ≤ n) && decide (n ≤ 0x32A))

/-- From `a` to `b` only CSRs that count have moved. -/
structure Counted (a b : Arch) : Prop where
  pc : b.pc = a.pc
  x : b.x = a.x
  priv : b.priv = a.priv
  virt : b.virt = a.virt
  csr : ∀ n, countCsr n = false → b.getCsr n = a.getCsr n

namespace Counted

variable {a b c : Arch}

theorem refl (a : Arch) : Counted a a := ⟨rfl, rfl, rfl, rfl, fun _ _ => rfl⟩

theorem trans (h : Counted a b) (h' : Counted b c) : Counted a c :=
  ⟨h'.pc.trans h.pc, h'.x.trans h.x, h'.priv.trans h.priv, h'.virt.trans h.virt, fun n hn => (h'.csr n hn).trans (h.csr n hn)⟩

theorem putCsr (a : Arch) {n : Nat} (v : Nat) (hn : countCsr n = true) : Counted a (a.putCsr n v) :=
  ⟨rfl, rfl, rfl, rfl, fun m hm => Arch.getCsr_putCsr_ne _ _ fun heq => by rw [heq, hm] at hn; cases hn⟩

theorem hpmOne (ev um n : Nat) (precise : Bool) (a : Arch) {i : Nat} (hlo : 3 ≤ i) (hhi : i ≤ 10) : Counted a (hpmOne ev um n precise a i) := by
  have hcounter : countCsr (CSR_MHPMCOUNTER + i) = true := by
    interval_cases i <;> rfl
  have hevent : countCsr (CSR_MHPMEVENT + i) = true := by
    interval_cases i <;> rfl
  unfold Machine.hpmOne
  extract_lets sel umask v a1 quiet a2 a3
  have h1 : Counted a a1 := putCsr a _ hcounter
  have h2 : Counted a a2 := by
    simp only [a2]
    split
    · exact h1
    · exact h1.trans (putCsr a1 _ rfl)
  have h3 : Counted a a3 := h2.trans (putCsr a2 _ hevent)
  clear_value a1 a2 a3
  split
  · split
    · exact h1
    · split
      · exact h3.trans (putCsr a3 _ rfl)
      · exact h3
  · exact refl a

theorem hpmAdd (a : Arch) (ev um n : Nat) (precise : Bool) : Counted a (a.hpmAdd ev um n precise) := by
  unfold Arch.hpmAdd
  split
  · refine List.foldlRecOn (motive := Counted a) _ _ (refl a) fun b hb i hi => hb.trans (hpmOne ev um n precise b (by omega) ?_)
    have := List.mem_range.mp hi
    omega
  · exact refl a

theorem ranFor (a : Arch) (n : Nat) : Counted a (a.ranFor n) := by
  unfold Arch.ranFor
  extract_lets a1
  have h1 : Counted a a1 := by
    simp only [a1]
    split
    · exact refl a
    · exact putCsr a _ rfl
  exact h1.trans (hpmAdd a1 ..)

theorem target (h : Counted a b) (c : Nat) (intr : Bool) : trapTarget b c intr = trapTarget a c intr := by
  unfold trapTarget
  rw [h.priv, h.virt]
  cases intr
  · rw [h.csr _ rfl, h.csr _ rfl]
  · rw [h.csr _ rfl, h.csr _ rfl]

end Counted

/-- From `s` to `t` only the counters of hart h have moved. -/
structure CountsHart (h : Nat) (s t : State) : Prop where
  only : { t with harts := s.harts } = s
  others : ∀ g, g ≠ h → t.hart g = s.hart g
  hart : ∃ a r, t.hart h = { s.hart h with a := a, ran := r } ∧ Counted (s.hart h).a a

namespace CountsHart

variable {h : Nat} {s t u : State}

theorem refl (h : Nat) (s : State) : CountsHart h s s := ⟨rfl, fun _ _ => rfl, _, _, rfl, .refl _⟩

theorem trans (h1 : CountsHart h s t) (h2 : CountsHart h t u) : CountsHart h s u := by
  obtain ⟨a, r, hhart, hcount⟩ := h1.hart
  obtain ⟨b, r', hhart', hcount'⟩ := h2.hart
  refine ⟨?_, fun g hg => (h2.others g hg).trans (h1.others g hg), b, r', by rw [hhart', hhart], hcount.trans ?_⟩
  · calc ({ u with harts := s.harts } : State) = { ({ u with harts := t.harts } : State) with harts := s.harts } := rfl
      _ = s := by rw [h2.only, h1.only]
  · rwa [hhart] at hcount'

theorem setHart (s : State) (h : Nat) {a : Arch} (r : Nat) (ha : Counted (s.hart h).a a) :
    CountsHart h s (s.setHart h { s.hart h with a := a, ran := r }) :=
  ⟨rfl, fun _ hg => State.hart_setHart_ne s _ (Ne.symm hg), a, r, State.hart_setHart .., ha⟩

theorem tick (s : State) (h : Nat) : CountsHart h s (s.tick h) := by
  unfold State.tick State.tickAt
  extract_lets v n
  split
  · exact setHart s h _ (.ranFor ..)
  · exact refl h s

theorem hpm (s : State) (h ev um : Nat) (precise : Bool) : CountsHart h s (s.hpm h ev um precise) := setHart s h (s.hart h).ran (.hpmAdd ..)

theorem now (h1 : CountsHart h s t) : t.now = s.now := (congrArg State.now h1.only :)
theorem mem (h1 : CountsHart h s t) : t.mem = s.mem := (congrArg State.mem h1.only :)
theorem tct (h1 : CountsHart h s t) : t.tct = s.tct := (congrArg State.tct h1.only :)
theorem regs (h1 : CountsHart h s t) : t.regs = s.regs := (congrArg State.regs h1.only :)

end CountsHart

-- epochs

section
variable {s : State} {h : Nat}

/-- An epoch that begins (R124): it begins now, and the hart's closed ones wait on. -/
theorem State.openEpoch_begins (hnone : (s.hart h).epoch = none) (io : Bool) :
    (∃ e, ((s.openEpoch h io).hart h).epoch = some e) ∧ ((s.openEpoch h io).hart h).closed = (s.hart h).closed := by
  unfold State.openEpoch
  extract_lets v k s1 s2
  have hv : v.epoch = none := hnone
  rw [hv]
  dsimp only
  rw [State.hart_setHart]
  exact ⟨⟨_, rfl⟩, rfl⟩

theorem State.abandon_none (hnone : (s.hart h).misses = []) : s.abandon h = s := by
  unfold State.abandon
  rw [hnone]
  rfl

end

-- a trap entry (R121 to R123)

section
variable {s : State} {h : Nat}

/-- The trap of a hart none of whose epochs is uncommitted: its handler's fetch issues at cycle 31, in an epoch begun at cycle 8. -/
theorem State.takeTrap_clear (hclear : HartClear s h) (x : Trap) (tinst : Nat) (intr : Bool) :
    (∃ a, Counted (s.hart h).a a ∧ ((s.takeTrap h x tinst intr).hart h).a = a.trap x tinst intr) ∧
    (s.takeTrap h x tinst intr).now = max s.now (s.ccycAt (s.coreOf h) s.now 31) ∧ (s.takeTrap h x tinst intr).mem = s.mem ∧
    (∃ e, ((s.takeTrap h x tinst intr).hart h).epoch = some e ∧ e.begun = s.ccycAt (s.coreOf h) s.now 8) ∧
    ∀ k, k ≠ h → (s.takeTrap h x tinst intr).hart k = s.hart k := by
  obtain ⟨⟨-, -, -, -, hmisses, -, -⟩, hepoch, hclosed⟩ := hclear
  have htick := CountsHart.tick s h
  have hcounts : CountsHart h s (((s.tick h).abandon h).hpm h 0x40 (if intr then 1 else 2) false) := by
    have hidle : ((s.tick h).hart h).misses = [] := by
      obtain ⟨a, r, hhart, -⟩ := htick.hart
      rw [hhart]
      exact hmisses
    rw [State.abandon_none hidle]
    exact htick.trans (.hpm ..)
  unfold State.takeTrap
  extract_lets k s0 s1 v s2 bad older s3 s4 w s5 s6
  have hs0 : HartOnly h s s0 := ⟨hcounts.now, hcounts.mem, (congrArg State.queues hcounts.only :), hcounts.others⟩
  obtain ⟨a, r, hhart, hcount⟩ := hcounts.hart
  -- the open epoch: there is none, and nothing waits for commit
  have hs1 : s1 = s0 := State.closeEpoch_none _ _ ((congrArg HartState.epoch hhart).trans hepoch)
  have hv : v = { s.hart h with a := a, ran := r } := (congrArg (State.hart · h) hs1).trans hhart
  have hs2 : s2.hart h = { v with misses := [], shadow := [], bypass := [], head := none, wait := none, fenceWait := false } := State.hart_setHart ..
  have honly2 : HartOnly h s s2 := (hs1 ▸ hs0).trans (.setHart s1 h _)
  rw [hv] at hs2
  have holder : ¬ older = true := by simp [older, hs2, hclosed]
  have hs3 : s3 = s2 := if_neg holder
  rw [if_neg fun hboth => holder (Bool.and_eq_true_iff.mp hboth).1]
  -- the handler's epoch
  have hset : (s3.withArch h (fun a => a.trap x tinst intr)).hart h = { s2.hart h with a := a.trap x tinst intr } := by
    rw [hs3, State.hart_withArch, hs2]
  obtain ⟨⟨e, hopen⟩, hwait⟩ := State.openEpoch_begins (s := s3.withArch h (fun a => a.trap x tinst intr)) (h := h) (by rw [hset, hs2]; exact hepoch) false
  have harch : w.a = a.trap x tinst intr := ((State.openEpoch_same _ h false).1).trans (by rw [hset])
  have honly4 : HartOnly h s s4 := ((hs3 ▸ honly2).trans (.withArch s3 h _)).trans (State.openEpoch_only _ h false)
  have hs5 : s5.hart h = { w with epoch := w.epoch.map (fun e => { e with begun := s.ccycAt k s.now 8 }) } := State.hart_setHart ..
  have honly5 : HartOnly h s s5 := honly4.trans (.setHart s4 h _)
  have hidle : (s5.hart h).closed.isEmpty = true := by
    have hempty : w.closed = [] := hwait.trans (by rw [hset, hs2]; exact hclosed)
    rw [hs5, hempty]
    rfl
  rw [if_pos hidle]
  have hw : w.epoch = some e := hopen
  clear_value s6 s5 w
  refine ⟨⟨a, hcount, (congrArg HartState.a hs5).trans harch⟩, ?_, honly5.mem, ⟨{ e with begun := s.ccycAt k s.now 8 }, ?_, rfl⟩, honly5.others⟩
  · rw [State.now_toMclk, honly5.now]
  · exact (congrArg HartState.epoch hs5).trans (by rw [hw]; rfl)

end

end Sys2Proof.Machine

/-! What a trap entry writes for each mode it goes to (R122), and the clause of O35 on trap entries. -/

namespace Sys2Proof.Machine
open Safety

theorem Arch.getCsr_mode (a : Arch) (p : Nat) (v : Bool) (pc : Word) (n : Nat) : ({ a with priv := p, virt := v, pc := pc } : Arch).getCsr n = a.getCsr n := rfl

/-- What a trap saves under the CSR numbers of its mode: the pc, the cause and the value. -/
def Saves (a b : Arch) (epc cause tval code val : Nat) : Prop := b.getCsr epc = a.pc.toNat ∧ b.getCsr cause = code ∧ b.getCsr tval = val

section
variable {a : Arch} {x : Trap} {intr : Bool} (tinst : Nat)

theorem Arch.trap_x : (a.trap x tinst intr).x = a.x := by
  unfold Arch.trap
  dsimp only
  split <;> simp only [Arch.putCsr_x]

/-- The value of a cause register. -/
def causeOf (c : Nat) (intr : Bool) : Nat := c + if intr then 2 ^ 63 else 0

theorem causeOf_lt {c : Nat} (hc : c < 64) (intr : Bool) : causeOf c intr < 2 ^ 64 := by
  unfold causeOf
  split <;> omega

/-- mstatus as a trap to M-mode leaves it. -/
def trapStatus (a : Arch) (gva : Nat) : Nat :=
  let st := a.getCsr CSR_MSTATUS
  putBits (putBits (putBits (putBits (putBits st 7 7 (bits st 3 3)) 3 3 0) 12 11 a.priv) 39 39 (b01 a.virt)) 38 38 gva

theorem bits_trapStatus (a : Arch) (gva : Nat) : bits (trapStatus a gva) 3 3 = 0 ∧ bits (trapStatus a gva) 7 7 = bits (a.getCsr CSR_MSTATUS) 3 3 ∧
    bits (trapStatus a gva) 12 11 = a.priv % 4 ∧ trapStatus a gva < 2 ^ 64 := by
  have hst : a.getCsr CSR_MSTATUS < 2 ^ 64 := BitVec.isLt _
  have hbit : bits (a.getCsr CSR_MSTATUS) 3 3 < 2 := bits_lt ..
  unfold trapStatus
  dsimp only
  refine ⟨?_, ?_, ?_, ?_⟩
  · rw [bits_putBits_apart (by decide) (by decide) (by decide), bits_putBits_apart (by decide) (by decide) (by decide),
      bits_putBits_apart (by decide) (by decide) (by decide), bits_putBits _ _ _ _ (by decide), Nat.zero_mod]
  · rw [bits_putBits_apart (by decide) (by decide) (by decide), bits_putBits_apart (by decide) (by decide) (by decide),
      bits_putBits_apart (by decide) (by decide) (by decide), bits_putBits_apart (by decide) (by decide) (by decide), bits_putBits _ _ _ _ (by decide)]
    exact Nat.mod_eq_of_lt hbit
  · rw [bits_putBits_apart (by decide) (by decide) (by decide), bits_putBits_apart (by decide) (by decide) (by decide), bits_putBits _ _ _ _ (by decide)]
    rfl
  · refine putBits_lt _ _ _ _ 64 (by decide) (putBits_lt _ _ _ _ 64 (by decide) (putBits_lt _ _ _ _ 64 (by decide) (putBits_lt _ _ _ _ 64 (by decide)
      (putBits_lt _ _ _ _ 64 (by decide) hst (by decide)) (by decide)) (by decide)) (by decide)) (by decide)

theorem Arch.trap_toMachine (htarget : trapTarget a x.cause intr = 3) : ∃ gva, a.trap x tinst intr =
    { ((((((a.putCsr CSR_MSTATUS (trapStatus a gva)).putCsr CSR_MEPC a.pc.toNat).putCsr CSR_MCAUSE (causeOf x.cause intr)).putCsr CSR_MTVAL x.tval).putCsr
      CSR_MTVAL2 x.tval2).putCsr CSR_MTINST tinst) with priv := 3, virt := false, pc := w64 (vectorOf (a.getCsr CSR_MTVEC) x.cause intr) } := by
  unfold Arch.trap
  dsimp only
  rw [htarget]
  exact ⟨_, rfl⟩

theorem Arch.trap_toSupervisor (htarget : trapTarget a x.cause intr = 1) : ∃ st hs, a.trap x tinst intr =
    { (((((((a.putCsr CSR_MSTATUS st).putCsr CSR_HSTATUS hs).putCsr CSR_SEPC a.pc.toNat).putCsr CSR_SCAUSE (causeOf x.cause intr)).putCsr CSR_STVAL
      x.tval).putCsr CSR_HTVAL x.tval2).putCsr CSR_HTINST tinst) with priv := 1, virt := false, pc := w64 (vectorOf (a.getCsr CSR_STVEC) x.cause intr) } := by
  unfold Arch.trap
  dsimp only
  rw [htarget]
  exact ⟨_, _, rfl⟩

theorem Arch.trap_toGuest (htarget : trapTarget a x.cause intr = 0) : ∃ st pc, a.trap x tinst intr =
    { ((((a.putCsr CSR_VSSTATUS st).putCsr CSR_VSEPC a.pc.toNat).putCsr CSR_VSCAUSE (causeOf (if intr then x.cause - 1 else x.cause) intr)).putCsr CSR_VSTVAL
      x.tval) with priv := 1, virt := true, pc := pc } := by
  unfold Arch.trap
  dsimp only
  rw [htarget]
  exact ⟨_, _, rfl⟩

theorem Arch.trap_machine (htarget : trapTarget a x.cause intr = 3) (hc : x.cause < 64) (hval : x.tval < 2 ^ 64) :
    Saves a (a.trap x tinst intr) CSR_MEPC CSR_MCAUSE CSR_MTVAL (causeOf x.cause intr) x.tval ∧
    (a.trap x tinst intr).priv = 3 ∧ (a.trap x tinst intr).virt = false ∧
    (a.trap x tinst intr).pc = w64 (vectorOf (a.getCsr CSR_MTVEC) x.cause intr) ∧ ∃ gva, (a.trap x tinst intr).getCsr CSR_MSTATUS = trapStatus a gva := by
  have hcode := causeOf_lt hc intr
  obtain ⟨gva, heq⟩ := Arch.trap_toMachine tinst htarget
  unfold Saves
  rw [heq]
  refine ⟨⟨?_, ?_, ?_⟩, rfl, rfl, rfl, gva, ?_⟩
  · rw [Arch.getCsr_mode, Arch.getCsr_putCsr_ne _ _ (by decide), Arch.getCsr_putCsr_ne _ _ (by decide), Arch.getCsr_putCsr_ne _ _ (by decide),
      Arch.getCsr_putCsr_ne _ _ (by decide), Arch.getCsr_putCsr, Nat.mod_eq_of_lt (BitVec.isLt _)]
  · rw [Arch.getCsr_mode, Arch.getCsr_putCsr_ne _ _ (by decide), Arch.getCsr_putCsr_ne _ _ (by decide), Arch.getCsr_putCsr_ne _ _ (by decide),
      Arch.getCsr_putCsr]
    exact Nat.mod_eq_of_lt hcode
  · rw [Arch.getCsr_mode, Arch.getCsr_putCsr_ne _ _ (by decide), Arch.getCsr_putCsr_ne _ _ (by decide), Arch.getCsr_putCsr, Nat.mod_eq_of_lt hval]
  · rw [Arch.getCsr_mode, Arch.getCsr_putCsr_ne _ _ (by decide), Arch.getCsr_putCsr_ne _ _ (by decide), Arch.getCsr_putCsr_ne _ _ (by decide),
      Arch.getCsr_putCsr_ne _ _ (by decide), Arch.getCsr_putCsr_ne _ _ (by decide), Arch.getCsr_putCsr]
    exact Nat.mod_eq_of_lt (bits_trapStatus a _).2.2.2

theorem Arch.trap_supervisor (htarget : trapTarget a x.cause intr = 1) (hc : x.cause < 64) (hval : x.tval < 2 ^ 64) :
    Saves a (a.trap x tinst intr) CSR_SEPC CSR_SCAUSE CSR_STVAL (causeOf x.cause intr) x.tval ∧
    (a.trap x tinst intr).priv = 1 ∧ (a.trap x tinst intr).virt = false ∧
    (a.trap x tinst intr).pc = w64 (vectorOf (a.getCsr CSR_STVEC) x.cause intr) := by
  have hcode := causeOf_lt hc intr
  obtain ⟨st, hs, heq⟩ := Arch.trap_toSupervisor tinst htarget
  unfold Saves
  rw [heq]
  refine ⟨⟨?_, ?_, ?_⟩, rfl, rfl, rfl⟩
  · rw [Arch.getCsr_mode, Arch.getCsr_putCsr_ne _ _ (by decide), Arch.getCsr_putCsr_ne _ _ (by decide), Arch.getCsr_putCsr_ne _ _ (by decide),
      Arch.getCsr_putCsr_ne _ _ (by decide), Arch.getCsr_putCsr, Nat.mod_eq_of_lt (BitVec.isLt _)]
  · rw [Arch.getCsr_mode, Arch.getCsr_putCsr_ne _ _ (by decide), Arch.getCsr_putCsr_ne _ _ (by decide), Arch.getCsr_putCsr_ne _ _ (by decide),
      Arch.getCsr_putCsr]
    exact Nat.mod_eq_of_lt hcode
  · rw [Arch.getCsr_mode, Arch.getCsr_putCsr_ne _ _ (by decide), Arch.getCsr_putCsr_ne _ _ (by decide), Arch.getCsr_putCsr, Nat.mod_eq_of_lt hval]

theorem Arch.trap_guest (htarget : trapTarget a x.cause intr = 0) (hc : x.cause < 64) (hval : x.tval < 2 ^ 64) :
    Saves a (a.trap x tinst intr) CSR_VSEPC CSR_VSCAUSE CSR_VSTVAL (causeOf (if intr then x.cause - 1 else x.cause) intr) x.tval ∧
    (a.trap x tinst intr).priv = 1 ∧ (a.trap x tinst intr).virt = true := by
  have hcode : causeOf (if intr then x.cause - 1 else x.cause) intr < 2 ^ 64 := causeOf_lt (by split <;> omega) intr
  obtain ⟨st, pc, heq⟩ := Arch.trap_toGuest tinst htarget
  unfold Saves
  rw [heq]
  refine ⟨⟨?_, ?_, ?_⟩, rfl, rfl⟩
  · rw [Arch.getCsr_mode, Arch.getCsr_putCsr_ne _ _ (by decide), Arch.getCsr_putCsr_ne _ _ (by decide), Arch.getCsr_putCsr,
      Nat.mod_eq_of_lt (BitVec.isLt _)]
  · rw [Arch.getCsr_mode, Arch.getCsr_putCsr_ne _ _ (by decide), Arch.getCsr_putCsr]
    exact Nat.mod_eq_of_lt hcode
  · rw [Arch.getCsr_mode, Arch.getCsr_putCsr, Nat.mod_eq_of_lt hval]

end

-- the command

section
variable {s : State} {h : HartId} {exc : Option (Fin 64)} {tval : Word} {c : Nat} (hclear : HartClear s h.val)
include hclear

theorem exec_trapEntry (hexc : ∀ x, exc = some x → c = x.val) (hintr : exc = none → s.recognised h.val = some c) :
    exec (.trapEntry h exc tval) s = .next (s.takeTrap h.val ⟨c, if exc.isNone then 0 else tval.toNat, 0⟩ 0 exc.isNone) := by
  obtain ⟨⟨hon, -, hio, -⟩, -⟩ := hclear
  change execTrapEntry h exc tval s = _
  unfold execTrapEntry
  rw [if_neg (by simp [hon, hio])]
  cases exc with
  | none =>
    rw [hintr rfl]
    rfl
  | some x =>
    rw [hexc x rfl]
    rfl

theorem gives_trapEntry (hexc : ∀ x, exc = some x → c = x.val) (hintr : exc = none → s.recognised h.val = some c) :
    let a := (s.hart h.val).a
    let intr := exc.isNone
    let code := c + (if intr then 2 ^ 63 else 0)
    let val := if intr then 0 else tval.toNat
    Gives (.trapEntry h exc tval) s fun t =>
      let b := (t.hart h.val).a
      t.now = max s.now (s.ccycAt (s.coreOf h.val) s.now 31) ∧ b.x = a.x ∧ t.mem = s.mem ∧
      (∃ e, (t.hart h.val).epoch = some e ∧ e.begun = s.ccycAt (s.coreOf h.val) s.now 8) ∧
      (∀ k, k ≠ h.val → t.hart k = s.hart k) ∧
      (trapTarget a c intr = 3 → c < 64 → b.getCsr CSR_MEPC = a.pc.toNat ∧ b.getCsr CSR_MCAUSE = code ∧ b.getCsr CSR_MTVAL = val ∧ b.priv = 3 ∧ b.virt = false ∧
        b.pc = w64 (vectorOf (a.getCsr CSR_MTVEC) c intr) ∧ bitN (b.getCsr CSR_MSTATUS) 3 = false ∧
        bitN (b.getCsr CSR_MSTATUS) 7 = bitN (a.getCsr CSR_MSTATUS) 3 ∧ bits (b.getCsr CSR_MSTATUS) 12 11 = a.priv % 4) ∧
      (trapTarget a c intr = 1 → c < 64 → b.getCsr CSR_SEPC = a.pc.toNat ∧ b.getCsr CSR_SCAUSE = code ∧ b.getCsr CSR_STVAL = val ∧ b.priv = 1 ∧ b.virt = false ∧
        b.pc = w64 (vectorOf (a.getCsr CSR_STVEC) c intr)) ∧
      (trapTarget a c intr = 0 → 1 ≤ c → c < 64 → b.getCsr CSR_VSEPC = a.pc.toNat ∧ b.getCsr CSR_VSTVAL = val ∧ b.priv = 1 ∧ b.virt = true ∧
        b.getCsr CSR_VSCAUSE = (if intr then c - 1 + 2 ^ 63 else c)) := by
  intro a intr code val
  have hval : val < 2 ^ 64 := by
    simp only [val]
    split
    · decide
    · exact tval.isLt
  obtain ⟨⟨a', hcount, htrap⟩, hnow, hmem, hepoch, hothers⟩ := State.takeTrap_clear hclear ⟨c, val, 0⟩ 0 intr
  refine gives_next (exec_trapEntry hclear hexc hintr) ?_
  change let b := ((s.takeTrap h.val ⟨c, val, 0⟩ 0 intr).hart h.val).a; _
  generalize s.takeTrap h.val ⟨c, val, 0⟩ 0 intr = t at htrap hnow hmem hepoch hothers ⊢
  dsimp only
  rw [htrap]
  refine ⟨hnow, (Arch.trap_x 0).trans hcount.x, hmem, hepoch, hothers, fun htarget hc => ?_, fun htarget hc => ?_, fun htarget h1 hc => ?_⟩
  · rw [← hcount.target] at htarget
    obtain ⟨⟨hpc, hcause, htv⟩, hpriv, hvirt, hvec, gva, hst⟩ := Arch.trap_machine (x := ⟨c, val, 0⟩) 0 htarget hc hval
    obtain ⟨h3, h7, hmpp, -⟩ := bits_trapStatus a' gva
    rw [hst, bitN, bitN, bitN, testBit_eq_bits, testBit_eq_bits, testBit_eq_bits, h3, h7, hmpp, hcount.csr _ rfl, hcount.priv]
    exact ⟨hpc.trans (by rw [hcount.pc]), hcause, htv, hpriv, hvirt, hvec.trans (by rw [hcount.csr _ rfl]), rfl, rfl, rfl⟩
  · rw [← hcount.target] at htarget
    obtain ⟨⟨hpc, hcause, htv⟩, hpriv, hvirt, hvec⟩ := Arch.trap_supervisor (x := ⟨c, val, 0⟩) 0 htarget hc hval
    exact ⟨hpc.trans (by rw [hcount.pc]), hcause, htv, hpriv, hvirt, hvec.trans (by rw [hcount.csr _ rfl])⟩
  · rw [← hcount.target] at htarget
    obtain ⟨⟨hpc, hcause, htv⟩, hpriv, hvirt⟩ := Arch.trap_guest (x := ⟨c, val, 0⟩) 0 htarget hc hval
    refine ⟨hpc.trans (by rw [hcount.pc]), htv, hpriv, hvirt, hcause.trans ?_⟩
    unfold causeOf
    cases intr <;> rfl

end

end Sys2Proof.Machine

/-! Writes of xnrtenant and xnrctl (R67, R116, R117), the timer compare (R120) and error injection (R119); O35. -/

namespace Sys2Proof.Machine
open Safety

theorem State.issueAlone_goes {s : State} {h : Nat} (hgoes : HartGoes s h) (f : State → State) : s.issueAlone h f = f (issueOf s h) := by
  have hissue := State.hartIssue_goes hgoes
  obtain ⟨-, -, -, -, hmisses, -⟩ := hgoes
  unfold State.issueAlone
  rw [hissue]
  dsimp only
  rw [if_neg (by rw [hmisses]; exact Bool.false_ne_true)]
  rfl

-- exceptions of the two CSRs (R116, R117)

section
variable {a : Arch} (insn : Nat)

theorem csrTrap_xnrctl (hpriv : a.priv = 3) : csrTrap a CSR_XNRCTL insn true = none := by
  unfold csrTrap
  dsimp only
  rw [if_neg (by decide), if_pos hpriv]

theorem csrTrap_xnrctl_low (hpriv : a.priv ≠ 3) : csrTrap a CSR_XNRCTL insn true = some (illegal insn) := by
  unfold csrTrap
  dsimp only
  rw [if_neg (by decide), if_neg hpriv, if_pos (by decide)]
  rfl

theorem csrTrap_xnrtenant (hpriv : 1 ≤ a.priv) (hvirt : a.virt = false) : csrTrap a CSR_XNRTENANT insn true = none := by
  unfold csrTrap
  dsimp only
  rw [if_neg (by decide)]
  by_cases h3 : a.priv = 3
  · rw [if_pos h3]
  · rw [if_neg h3, if_neg (by decide), if_pos (.inl rfl), if_neg (by simp [hvirt]), if_neg (by omega)]

theorem csrTrap_xnrtenant_user (hpriv : a.priv = 0) (hvirt : a.virt = false) : csrTrap a CSR_XNRTENANT insn true = some (illegal insn) := by
  unfold csrTrap
  dsimp only
  rw [if_neg (by decide), if_neg (by omega), if_neg (by decide), if_pos (.inl rfl), if_neg (by simp [hvirt]), if_pos hpriv]
  rfl

theorem csrTrap_xnrtenant_guest (hpriv : a.priv = 1) (hvirt : a.virt = true) : csrTrap a CSR_XNRTENANT insn true = some ⟨22, insn, 0⟩ := by
  unfold csrTrap
  dsimp only
  rw [if_neg (by decide), if_neg (by omega), if_neg (by decide), if_pos (.inl rfl), if_pos hvirt, if_pos hpriv]

end

theorem State.doCsrWrite_traps {s : State} {h n value insn : Nat} {i : Instr} {x : Trap} (htrap : csrTrap (s.hart h).a n insn true = some x)
    (after : State → State) : s.doCsrWrite h i n value insn after = s.trapOn h x i 0 := by
  unfold State.doCsrWrite
  rw [htrap]

theorem State.doCsrWrite_serial {s : State} {h n value insn : Nat} {i : Instr} (htrap : csrTrap (s.hart h).a n insn true = none) (hserial : csrSerial n = true)
    (after : State → State) : s.doCsrWrite h i n value insn after = ((after ((s.openEpoch h false).writeCsr h n value)).retire h).closeEpoch h 5 := by
  unfold State.doCsrWrite
  rw [htrap]
  dsimp only
  rw [if_pos hserial]

-- what an instruction that retires leaves of its hart

/-- From `s` to `t` only hart h runs on; neither memory nor another hart changes, nor its predictions. -/
structure RunsOn (h : Nat) (s t : State) : Prop where
  mem : t.mem = s.mem
  others : ∀ g, g ≠ h → t.hart g = s.hart g

namespace RunsOn

variable {h : Nat} {s t u : State}

theorem trans (h1 : RunsOn h s t) (h2 : RunsOn h t u) : RunsOn h s u := ⟨h2.mem.trans h1.mem, fun g hg => (h2.others g hg).trans (h1.others g hg)⟩

theorem ofHart (h1 : HartOnly h s t) : RunsOn h s t := ⟨h1.mem, h1.others⟩

end RunsOn

section
variable (s : State) (h : Nat)

theorem State.predictor_openEpoch (io : Bool) : ((s.openEpoch h io).hart h).predictor = (s.hart h).predictor := by
  unfold State.openEpoch
  extract_lets v k s1 co s2
  split
  · rfl
  · rw [State.hart_setHart]

theorem State.predictor_closeEpoch (cause : Nat) : ((s.closeEpoch h cause).hart h).predictor = (s.hart h).predictor := by
  rcases hopen : (s.hart h).epoch with _ | e
  · rw [State.closeEpoch_none _ _ hopen]
  · rw [State.closeEpoch_open _ _ hopen]
    simp

theorem State.predictor_installShadow : ((s.installShadow h).hart h).predictor = (s.hart h).predictor := by
  unfold State.installShadow
  extract_lets c v s1
  have hcaches : CachesOnly s1 (v.shadow.foldl (fun s e => if v.bypass.contains e.1 || (Tab.at? (s.cluster c).l2 e.1).isSome then s else s.installL2 c e.1 e.2) s1) := by
    refine .fold (fun t e => ?_) _ s1
    split
    · exact .refl t
    · exact t.installL2_caches c _ _
  rw [hcaches.hart]
  simp [s1, v]

/-- R117, R124: retirement counts, and its hart's predictions and other CSRs stay. -/
theorem State.retire_keeps : ((s.retire h).hart h).predictor = (s.hart h).predictor ∧
    ∀ n, countCsr n = false → ((s.retire h).hart h).a.getCsr n = (s.hart h).a.getCsr n := by
  obtain ⟨ha, -⟩ := s.retiring_same h
  have hpred : ((((s.openEpoch h false).installShadow h).fillL1I h).hart h).predictor = (s.hart h).predictor := by
    rw [(State.fillL1I_caches ((s.openEpoch h false).installShadow h) h).hart, State.predictor_installShadow, State.predictor_openEpoch]
  unfold State.retire
  extract_lets s1 v a1 counted a2 n s2
  have h1 : Counted v.a a1 := by
    simp only [a1]
    split
    · exact .refl v.a
    · exact .putCsr v.a _ rfl
  have hcsr : ∀ m, countCsr m = false → a2.getCsr m = (s.hart h).a.getCsr m := fun m hm =>
    ((h1.trans (.hpmAdd a1 ..)).csr m hm).trans (congrArg (Arch.getCsr · m) ha)
  have hs2 : (s2.hart h).predictor = (s.hart h).predictor ∧ (s2.hart h).a = a2 := by
    simp only [s2, State.hart_setHart, and_true]
    exact hpred
  clear_value s2 a2
  obtain ⟨hpred2, ha2⟩ := hs2
  split
  · rw [State.predictor_closeEpoch, ((s2.closeEpoch_same h 0).1 : ((s2.closeEpoch h 0).hart h).a = (s2.hart h).a), ha2]
    exact ⟨hpred2, hcsr⟩
  · rw [ha2]
    exact ⟨hpred2, hcsr⟩

end

/-- A write's own part: CSR n of the hart holds w, and counters apart the hart and the part stand as they did. -/
structure CsrPut (h n w : Nat) (s t : State) : Prop where
  runs : RunsOn h s t
  pc : (t.hart h).a.pc = (s.hart h).a.pc
  x : (t.hart h).a.x = (s.hart h).a.x
  csr : (t.hart h).a.getCsr n = w % 2 ^ 64

/-- A write of a CSR that retires (R124): it is an epoch's last instruction. -/
theorem CsrPut.retires {h n w : Nat} {s t : State} (hput : CsrPut h n w s t) (hn : countCsr n = false) :
    Retires s ((t.retire h).closeEpoch h 5) h 0 0 ∧ (((t.retire h).closeEpoch h 5).hart h).a.getCsr n = w % 2 ^ 64 ∧
    (((t.retire h).closeEpoch h 5).hart h).epoch = none ∧ (((t.retire h).closeEpoch h 5).hart h).predictor = (t.hart h).predictor := by
  obtain ⟨hpc, hx, -, hepoch, hend⟩ := t.retireClose h 5
  obtain ⟨hpred, hcsr⟩ := t.retire_keeps h
  have hclose : (((t.retire h).closeEpoch h 5).hart h).a = ((t.retire h).hart h).a := ((t.retire h).closeEpoch_same h 5).1
  refine ⟨⟨hpc.trans (by rw [hput.pc]), ?_, fun r _ => Arch.getX_congr (hx.trans hput.x) r, hend.mem.trans hput.runs.mem,
    fun k hk => (hend.others k hk).trans (hput.runs.others k hk)⟩, ?_, hepoch, ((t.retire h).predictor_closeEpoch h 5).trans hpred⟩
  · rfl
  · rw [hclose, hcsr n hn, hput.csr]

section
variable {s : State} {h : Nat}

theorem State.openEpoch_stays (s : State) (h : Nat) (io : Bool) : (s.openEpoch h io).tct = s.tct ∧ (s.openEpoch h io).regs = s.regs := by
  unfold State.openEpoch
  extract_lets v k s1 co s2
  split
  · exact ⟨rfl, rfl⟩
  · have hcaches : CachesOnly s s2 := (s.writeNegative_caches h _).trans (.setCore s1 _ _)
    exact ⟨(congrArg State.tct hcaches.rest :), (congrArg State.regs hcaches.rest :)⟩

theorem State.tenantRefused_congr {s t : State} (htct : t.tct = s.tct) (hregs : t.regs = s.regs) (v : Nat) : t.tenantRefused v = s.tenantRefused v := by
  unfold State.tenantRefused State.secureClass State.tctEntry State.reg
  rw [htct, hregs]

/-- A plain CSR write (R106): the hart's cycles are counted first. -/
def State.csrPut (s : State) (h n w : Nat) : State := (s.tick h).withArch h (fun a => a.putCsr n w)

theorem State.writeCsr_xnrtenant {v : Nat} (hok : s.tenantRefused v = false) : s.writeCsr h CSR_XNRTENANT v = s.csrPut h CSR_XNRTENANT (v % 2 ^ 16) := by
  have htick := CountsHart.tick s h
  have hok' : (s.tick h).tenantRefused v = false := by rw [State.tenantRefused_congr htick.tct htick.regs, hok]
  unfold State.writeCsr State.csrPut
  simp [CSR_XNRTENANT, CSR_MISA, CSR_FCSR, CSR_MSTATUS, CSR_VSSTATUS, CSR_HSTATUS, CSR_MIE, CSR_MIP, CSR_HVIP, CSR_MIDELEG, CSR_HIDELEG, CSR_HGEIE,
    CSR_MTVEC, CSR_STVEC, CSR_VSTVEC, CSR_MEPC, CSR_SEPC, CSR_VSEPC, CSR_SATP, CSR_VSATP, CSR_HGATP, CSR_MCOUNTINHIBIT, bits, hok']

theorem State.writeCsr_xnrctl {v : Nat} : s.writeCsr h CSR_XNRCTL v =
    s.csrPut h CSR_XNRCTL (xnrctlWritten (((s.tick h).hart h).a.getCsr CSR_XNRCTL) v) := by
  unfold State.writeCsr State.csrPut
  simp [CSR_XNRTENANT, CSR_XNRCTL, CSR_MISA, CSR_FCSR, CSR_MSTATUS, CSR_VSSTATUS, CSR_HSTATUS, CSR_MIE, CSR_MIP, CSR_HVIP, CSR_MIDELEG, CSR_HIDELEG,
    CSR_HGEIE, CSR_MTVEC, CSR_STVEC, CSR_VSTVEC, CSR_MEPC, CSR_SEPC, CSR_VSEPC, CSR_SATP, CSR_VSATP, CSR_HGATP, CSR_MCOUNTINHIBIT, bits]

theorem State.csrPut_spec (s : State) (h n w : Nat) : CsrPut h n w s (s.csrPut h n w) ∧ ((s.csrPut h n w).hart h).predictor = (s.hart h).predictor := by
  have htick := CountsHart.tick s h
  obtain ⟨a, r, hhart, hcount⟩ := htick.hart
  have hset : (s.csrPut h n w).hart h = { (s.tick h).hart h with a := ((s.tick h).hart h).a.putCsr n w } := State.hart_withArch ..
  have hruns : RunsOn h s (s.csrPut h n w) := (RunsOn.mk htick.mem htick.others).trans (.ofHart (.withArch _ h _))
  rw [hhart] at hset
  generalize s.csrPut h n w = t at hset hruns ⊢
  refine ⟨⟨hruns, ?_, ?_, ?_⟩, ?_⟩
  · rw [hset]
    exact hcount.pc
  · rw [hset]
    exact hcount.x
  · rw [hset]
    exact Arch.getCsr_putCsr ..
  · rw [hset]

/-- An instruction's CSR write begins in its epoch. -/
theorem CsrPut.opened {n w : Nat} {t : State} (hput : CsrPut h n w (s.openEpoch h false) t) : CsrPut h n w s t := by
  have hsame : ((s.openEpoch h false).hart h).a = (s.hart h).a := (s.openEpoch_same h false).1
  exact ⟨(RunsOn.ofHart (s.openEpoch_only h false)).trans hput.runs, hput.pc.trans (by rw [hsame]), hput.x.trans (by rw [hsame]), hput.csr⟩

/-- What follows a write and leaves its hart's registers. -/
theorem CsrPut.then {n w : Nat} {t u : State} (hput : CsrPut h n w s t) (hruns : RunsOn h t u) (ha : (u.hart h).a = (t.hart h).a) : CsrPut h n w s u :=
  ⟨hput.runs.trans hruns, by rw [ha, hput.pc], by rw [ha, hput.x], by rw [ha, hput.csr]⟩

theorem NotesOnly.harts {pg : Nat} {s t : State} (h : NotesOnly pg s t) : t.harts = s.harts := (congrArg State.harts h.rest :)

theorem State.checkShare_hart (s : State) (h : Nat) (before : Bool) : (s.checkShare h before).mem = s.mem ∧ ∀ g, (s.checkShare h before).hart g = s.hart g := by
  unfold State.checkShare
  extract_lets k a b
  split
  · have hnotes := NotesOnly.ofRecord (pg := corePg k) s 0 0x4025 0 (s.coreDetail h 0 k) false (pageBase_mod8 ..)
    refine ⟨hnotes.mem, fun g => ?_⟩
    unfold State.hart
    rw [hnotes.harts]
  · exact ⟨rfl, fun _ => rfl⟩

theorem State.pbFlush_hart (s : State) (h : Nat) : RunsOn h s (s.pbFlush h) ∧ (s.pbFlush h).hart h = { s.hart h with predictor := [] } :=
  ⟨⟨rfl, fun _ hg => State.hart_setHart_ne s _ (Ne.symm hg)⟩, State.hart_setHart ..⟩

end

end Sys2Proof.Machine

/-! The clauses of O35 on CSR writes, the timer and error injection. -/

namespace Sys2Proof.Machine
open Safety

-- the new value of xnrctl (R117)

theorem bits_xnrctlWritten (old v : Nat) :
    let new := xnrctlWritten old v
    bits new 63 63 = bits v 63 63 ∧ bits new 27 24 = bits v 27 24 ∧ bits new 17 16 = bits v 17 16 ∧
    bits new 15 12 = (if 7 ≤ bits v 15 12 ∧ bits v 15 12 ≤ 11 then bits v 15 12 else bits old 15 12) ∧
    bits new 11 8 = (if 6 ≤ bits v 11 8 ∧ bits v 11 8 ≤ 10 then bits v 11 8 else bits old 11 8) ∧
    bits new 62 28 = 0 ∧ bits new 23 18 = 0 ∧ bits new 7 0 = 0 ∧ new < 2 ^ 64 := by
  have hbounds : bits v 63 63 < 2 ^ 1 ∧ bits v 27 24 < 2 ^ 4 ∧ bits v 17 16 < 2 ^ 2 := ⟨bits_lt .., bits_lt .., bits_lt ..⟩
  have hepc : (if 7 ≤ bits v 15 12 ∧ bits v 15 12 ≤ 11 then bits v 15 12 else bits old 15 12) < 2 ^ 4 := by
    split <;> exact bits_lt ..
  have hepi : (if 6 ≤ bits v 11 8 ∧ bits v 11 8 ≤ 10 then bits v 11 8 else bits old 11 8) < 2 ^ 4 := by
    split <;> exact bits_lt ..
  unfold xnrctlWritten
  dsimp only
  generalize (if 7 ≤ bits v 15 12 ∧ bits v 15 12 ≤ 11 then bits v 15 12 else bits old 15 12) = epc at hepc ⊢
  generalize (if 6 ≤ bits v 11 8 ∧ bits v 11 8 ≤ 10 then bits v 11 8 else bits old 11 8) = epi at hepi ⊢
  obtain ⟨h63, h24, h16⟩ := hbounds
  generalize bits v 63 63 = a at h63 ⊢
  generalize bits v 27 24 = b at h24 ⊢
  generalize bits v 17 16 = c at h16 ⊢
  simp only [bits, Nat.shiftLeft_eq, Nat.shiftRight_eq_div_pow]
  omega

-- CSR writes

/-- Whether the two harts of hart h's core stand in different classes (R427). -/
def State.sharesApart (s : State) (h : Nat) : Bool :=
  s.flag (corePg (s.coreOf h)) R.CORE_RUN_SHARED &&
    (s.hart (s.fld (corePg (s.coreOf h)) R.CORE_RUN_HART0)).a.cls != (s.hart (s.fld (corePg (s.coreOf h)) R.CORE_RUN_HART1)).a.cls

/-- What xnrtenant's write brings beside the value. -/
def State.tenantFollows (s : State) (h : Nat) (changed before : Bool) (u : State) : State :=
  (if changed && bitN ((s.hart h).a.getCsr CSR_XNRCTL) 63 then u.pbFlush h else u).checkShare h before

theorem State.tenantFollows_spec (s : State) (h : Nat) (changed before : Bool) (u : State) : RunsOn h u (s.tenantFollows h changed before u) ∧
    ((s.tenantFollows h changed before u).hart h).a = (u.hart h).a ∧
    (changed = true → bitN ((s.hart h).a.getCsr CSR_XNRCTL) 63 = true → ((s.tenantFollows h changed before u).hart h).predictor = []) := by
  unfold State.tenantFollows
  by_cases hflush : (changed && bitN ((s.hart h).a.getCsr CSR_XNRCTL) 63) = true
  · obtain ⟨hmem, hharts⟩ := (u.pbFlush h).checkShare_hart h before
    obtain ⟨hruns, hhart⟩ := u.pbFlush_hart h
    rw [if_pos hflush, hharts h, hhart]
    exact ⟨hruns.trans ⟨hmem, fun g _ => hharts g⟩, rfl, fun _ _ => rfl⟩
  · obtain ⟨hmem, hharts⟩ := u.checkShare_hart h before
    rw [if_neg hflush, hharts h]
    exact ⟨⟨hmem, fun g _ => hharts g⟩, rfl, fun hc hbit => absurd (Bool.and_eq_true_iff.mpr ⟨hc, hbit⟩) hflush⟩

section
variable {s : State} {h : HartId} {value : Word} {insn : BitVec 32} (hgoes : HartGoes s h.val)
include hgoes

theorem exec_xnrctlWrite : exec (.xnrctlWrite h value insn) s =
    .next ((issueOf s h.val).doCsrWrite h.val (.xnrctlWrite h value insn) CSR_XNRCTL value.toNat insn.toNat id) :=
  congrArg Host.Outcome.next (State.issueAlone_goes hgoes _)

omit hgoes in
theorem State.tenantRefused_issueOf (s : State) (h v : Nat) : (issueOf s h).tenantRefused v = s.tenantRefused v := State.tenantRefused_congr rfl rfl v

theorem exec_xnrtenantWrite : exec (.xnrtenantWrite h value insn) s =
    .next (if (csrTrap (s.hart h.val).a CSR_XNRTENANT insn.toNat true).isNone && s.tenantRefused value.toNat
      then (issueOf s h.val).trapOn h.val (illegal insn.toNat) (.xnrtenantWrite h value insn) 0
      else (issueOf s h.val).doCsrWrite h.val (.xnrtenantWrite h value insn) CSR_XNRTENANT value.toNat insn.toNat
        (s.tenantFollows h.val ((s.hart h.val).a.getCsr CSR_XNRTENANT != value.toNat % 2 ^ 16) ((issueOf s h.val).sharesApart h.val))) := by
  have ha : ((issueOf s h.val).hart h.val).a = (s.hart h.val).a := by rw [hart_issueOf]
  refine (congrArg Host.Outcome.next (State.issueAlone_goes hgoes _)).trans (congrArg Host.Outcome.next ?_)
  dsimp only
  rw [ha, State.tenantRefused_issueOf]
  rfl

/-- A refused write of xnrtenant traps as its mode or the value says. -/
theorem gives_xnrtenant_illegal (hvirt : (s.hart h.val).a.virt = false) (hno : (s.hart h.val).a.priv = 0 ∨ s.tenantRefused value.toNat = true) :
    Gives (.xnrtenantWrite h value insn) s fun t => t = (issueOf s h.val).trapOn h.val (illegal insn.toNat) (.xnrtenantWrite h value insn) 0 := by
  have ha : ((issueOf s h.val).hart h.val).a = (s.hart h.val).a := by rw [hart_issueOf]
  refine gives_next (exec_xnrtenantWrite hgoes) ?_
  by_cases hpriv : (s.hart h.val).a.priv = 0
  · have htrap := csrTrap_xnrtenant_user insn.toNat hpriv hvirt
    rw [htrap, if_neg (by simp), State.doCsrWrite_traps (ha ▸ htrap)]
  · rw [csrTrap_xnrtenant insn.toNat (by omega) hvirt, hno.resolve_left hpriv, if_pos (by rfl)]

theorem gives_xnrtenant_virtual (hvirt : (s.hart h.val).a.virt = true) (hpriv : (s.hart h.val).a.priv = 1) :
    Gives (.xnrtenantWrite h value insn) s fun t => t = (issueOf s h.val).trapOn h.val ⟨22, insn.toNat, 0⟩ (.xnrtenantWrite h value insn) 0 := by
  have ha : ((issueOf s h.val).hart h.val).a = (s.hart h.val).a := by rw [hart_issueOf]
  have htrap := csrTrap_xnrtenant_guest insn.toNat hpriv hvirt
  refine gives_next (exec_xnrtenantWrite hgoes) ?_
  rw [htrap, if_neg (by simp), State.doCsrWrite_traps (ha ▸ htrap)]

theorem gives_xnrctl_illegal (hpriv : (s.hart h.val).a.priv ≠ 3) : Gives (.xnrctlWrite h value insn) s fun t =>
    t = (issueOf s h.val).trapOn h.val (illegal insn.toNat) (.xnrctlWrite h value insn) 0 := by
  have ha : ((issueOf s h.val).hart h.val).a = (s.hart h.val).a := by rw [hart_issueOf]
  exact gives_next (exec_xnrctlWrite hgoes) (State.doCsrWrite_traps (by rw [ha]; exact csrTrap_xnrctl_low _ hpriv) _)

omit hgoes in
/-- An instruction's write is seen from the state in which it issued. -/
theorem CsrPut.issued {n w : Nat} {t : State} (hput : CsrPut h.val n w (issueOf s h.val) t) : CsrPut h.val n w s t := by
  have ha : ((issueOf s h.val).hart h.val).a = (s.hart h.val).a := by rw [hart_issueOf]
  have hruns : RunsOn h.val s (issueOf s h.val) := .ofHart (.setHart s h.val _)
  exact ⟨hruns.trans hput.runs, hput.pc.trans (by rw [ha]), hput.x.trans (by rw [ha]), hput.csr⟩

theorem gives_xnrctl (hpriv : (s.hart h.val).a.priv = 3) : Gives (.xnrctlWrite h value insn) s fun t => Retires s t h.val 0 0 ∧
    (t.hart h.val).a.getCsr CSR_XNRCTL = xnrctlWritten ((s.hart h.val).a.getCsr CSR_XNRCTL) value.toNat ∧ (t.hart h.val).epoch = none := by
  have ha : ((issueOf s h.val).hart h.val).a = (s.hart h.val).a := by rw [hart_issueOf]
  have hwrite := State.doCsrWrite_serial (s := issueOf s h.val) (h := h.val) (value := value.toNat) (i := .xnrctlWrite h value insn)
    (by rw [ha]; exact csrTrap_xnrctl insn.toNat hpriv) rfl id
  rw [State.writeCsr_xnrctl] at hwrite
  have hold : ((((issueOf s h.val).openEpoch h.val false).tick h.val).hart h.val).a.getCsr CSR_XNRCTL = (s.hart h.val).a.getCsr CSR_XNRCTL := by
    obtain ⟨a, r, hhart, hcount⟩ := (CountsHart.tick ((issueOf s h.val).openEpoch h.val false) h.val).hart
    rw [hhart]
    exact (hcount.csr _ rfl).trans (by rw [(State.openEpoch_same _ h.val false).1, ha])
  rw [hold] at hwrite
  have hput := (CsrPut.opened (State.csrPut_spec _ h.val CSR_XNRCTL (xnrctlWritten ((s.hart h.val).a.getCsr CSR_XNRCTL) value.toNat)).1).issued (s := s)
  obtain ⟨hretires, hcsr, hepoch, -⟩ := hput.retires rfl
  refine gives_next ((exec_xnrctlWrite hgoes).trans (congrArg _ hwrite)) ⟨hretires, ?_, hepoch⟩
  exact hcsr.trans (Nat.mod_eq_of_lt (bits_xnrctlWritten _ _).2.2.2.2.2.2.2.2)

theorem gives_xnrtenant (hpriv : 1 ≤ (s.hart h.val).a.priv) (hvirt : (s.hart h.val).a.virt = false) (hok : s.tenantRefused value.toNat = false) :
    Gives (.xnrtenantWrite h value insn) s fun t => Retires s t h.val 0 0 ∧ (t.hart h.val).a.getCsr CSR_XNRTENANT = value.toNat % 2 ^ 16 ∧
      (t.hart h.val).epoch = none ∧ ((s.hart h.val).a.getCsr CSR_XNRTENANT ≠ value.toNat % 2 ^ 16 → bitN ((s.hart h.val).a.getCsr CSR_XNRCTL) 63 = true →
        (t.hart h.val).predictor = []) := by
  have ha : ((issueOf s h.val).hart h.val).a = (s.hart h.val).a := by rw [hart_issueOf]
  have htrap := csrTrap_xnrtenant insn.toNat hpriv hvirt
  have hopened : ((issueOf s h.val).openEpoch h.val false).tenantRefused value.toNat = false := by
    obtain ⟨htct, hregs⟩ := (issueOf s h.val).openEpoch_stays h.val false
    rw [State.tenantRefused_congr htct hregs, State.tenantRefused_issueOf, hok]
  have hwrite := State.doCsrWrite_serial (s := issueOf s h.val) (h := h.val) (value := value.toNat) (i := .xnrtenantWrite h value insn) (ha ▸ htrap) rfl
    (s.tenantFollows h.val ((s.hart h.val).a.getCsr CSR_XNRTENANT != value.toNat % 2 ^ 16) ((issueOf s h.val).sharesApart h.val))
  rw [State.writeCsr_xnrtenant hopened] at hwrite
  have hput := (CsrPut.opened (State.csrPut_spec _ h.val CSR_XNRTENANT (value.toNat % 2 ^ 16)).1).issued (s := s)
  generalize ((issueOf s h.val).openEpoch h.val false).csrPut h.val CSR_XNRTENANT (value.toNat % 2 ^ 16) = u at hwrite hput
  generalize hchanged : ((s.hart h.val).a.getCsr CSR_XNRTENANT != value.toNat % 2 ^ 16) = changed at hwrite
  generalize hbefore : (issueOf s h.val).sharesApart h.val = before at hwrite
  obtain ⟨hruns, hkept, hflushed⟩ := s.tenantFollows_spec h.val changed before u
  obtain ⟨hretires, hcsr, hepoch, hpred⟩ := (hput.then hruns hkept).retires rfl
  refine gives_next (exec_xnrtenantWrite hgoes) ?_
  rw [htrap, hok, if_neg (by simp), hchanged, hbefore, hwrite]
  refine ⟨hretires, hcsr.trans (by omega), hepoch, fun hne hbit => hpred.trans (hflushed ?_ hbit)⟩
  rw [← hchanged]
  exact bne_iff_ne.mpr hne

end

-- the timer (R120)

theorem exec_mtimecmpReached (h : HartId) (s : State) : exec (.mtimecmpReached h) s = .next (s.toAclk (s.hart h.val).cmp.toNat) := rfl

theorem State.mip_timer {s : State} {h : Nat} (hdue : (s.hart h).cmp.toNat ≤ s.tb) : bitN (s.mip h) 7 = true := by
  have hb (b : Bool) : b01 b ≤ 1 := by cases b <;> decide
  have hone : b01 (decide ((s.hart h).cmp.toNat ≤ s.tb)) = 1 := by rw [decide_eq_true hdue]; rfl
  rw [bitN, testBit_eq_bits, beq_iff_eq]
  unfold State.mip
  extract_lets v st hv stip vstip vgein vseip
  rw [hone]
  have h1 := hb (bitN st 1)
  have h2 := hb (bitN hv 2)
  have h5 := hb stip
  have h6 := hb vstip
  simp only [bits, Nat.shiftLeft_eq, Nat.shiftRight_eq_div_pow]
  omega

theorem gives_mtimecmpReached (s : State) (h : HartId) : Gives (.mtimecmpReached h) s fun t =>
    t.now = max s.now (96 * (s.hart h.val).cmp.toNat) ∧ bitN (t.mip h.val) 7 = true ∧ { t with now := s.now } = s := by
  refine gives_next (exec_mtimecmpReached h s) ⟨rfl, State.mip_timer ?_, rfl⟩
  change (s.hart h.val).cmp.toNat ≤ max s.now (96 * (s.hart h.val).cmp.toNat) / 96
  omega

-- the core's page (R119, R120)

section
variable {s : State} {p : PageReq} {k : CoreId} (hwho : wardOrM p.who = true)
include hwho

theorem gives_coreInject (hstores : Stores s p (corePage k.val) 0x118) (h1 : 1 ≤ p.data.toNat % 16) (h4 : p.data.toNat % 16 ≤ 4) :
    Gives (.coreInject p) s fun t => Answered s t p 0 ∧ (t.core k.val).inject = p.data.toNat % 16 ∧ { t with resps := s.resps, cores := s.cores } = s := by
  have hbits : bits p.data.toNat 3 0 = p.data.toNat % 16 := by simp [bits]
  have hinject : s.coreInject k.val p.data.toNat = s.setCore k.val { s.core k.val with inject := p.data.toNat % 16 } := by
    unfold State.coreInject
    rw [hbits, if_pos ⟨h1, h4⟩]
  have heffect : s.regEffect (corePage k.val) 0x118 p.who (s.keptValue (corePage k.val) 0x118 p.data.toNat) =
    { admitted := wardOrM p.who, act := .ok (s.coreInject k.val p.data.toNat) } := rfl
  have hdone : s.accessNow p = (s.coreInject k.val p.data.toNat).respond (pageAnswer s p 0 false) :=
    State.accessNow_stores hstores (by rw [heffect]) (by rw [heffect]; exact hwho) (by rw [heffect])
  have hexec : exec (.coreInject p) s = .next (s.regCommand p true (· == .core) (fun o _ => o == 0x118)) := rfl
  refine gives_next (hexec.trans (congrArg _ ((State.regCommand_names hstores.1 (writes_store hstores.2.1) rfl rfl).trans hdone))) ?_
  rw [hinject]
  refine ⟨answered_respond, ?_, rfl⟩
  exact congrArg CoreState.inject (State.core_setCore ..)

theorem gives_mtimecmpWrite {j : Nat} (hj : j < 2)
    (hhart : s.runHart k.val j = some (s.fld (corePg k.val) (if j = 0 then R.CORE_RUN_HART0 else R.CORE_RUN_HART1)))
    (hstores : Stores s p (corePage k.val) (0x120 + 8 * j)) : Gives (.mtimecmpWrite p) s fun t => Answered s t p 0 ∧
      (t.hart (s.fld (corePg k.val) (if j = 0 then R.CORE_RUN_HART0 else R.CORE_RUN_HART1))).cmp = p.data ∧ { t with resps := s.resps, harts := s.harts } = s := by
  generalize s.fld (corePg k.val) (if j = 0 then R.CORE_RUN_HART0 else R.CORE_RUN_HART1) = h at hhart ⊢
  have hwrite : s.mtimecmpWrite k.val j p.data.toNat = s.setHart h { s.hart h with cmp := p.data } := by
    unfold State.mtimecmpWrite
    rw [hhart, w64, BitVec.ofNat_toNat, BitVec.setWidth_eq]
  have heffect : s.regEffect (corePage k.val) (0x120 + 8 * j) p.who (s.keptValue (corePage k.val) (0x120 + 8 * j) p.data.toNat) =
      { admitted := wardOrM p.who, act := .ok (s.mtimecmpWrite k.val j p.data.toNat) } := by
    interval_cases j <;> rfl
  have hdone : s.accessNow p = (s.mtimecmpWrite k.val j p.data.toNat).respond (pageAnswer s p 0 false) :=
    State.accessNow_stores hstores (by rw [heffect]) (by rw [heffect]; exact hwho) (by rw [heffect])
  have hexec : exec (.mtimecmpWrite p) s = .next (s.regCommand p true (· == .core) (fun o _ => o == 0x120 || o == 0x128)) := rfl
  have hnames : (0x120 + 8 * j == 0x120 || 0x120 + 8 * j == 0x128) = true := by
    interval_cases j <;> rfl
  refine gives_next (hexec.trans (congrArg _ ((State.regCommand_names hstores.1 (writes_store hstores.2.1) rfl hnames).trans hdone))) ?_
  rw [hwrite]
  refine ⟨answered_respond, ?_, rfl⟩
  exact congrArg HartState.cmp (State.hart_setHart ..)

end

/-- Settles O35: the CSR writes by their exceptions and what they put, the trap entry by what it saves in each mode, and the core's page. -/
theorem hartTrapsCsrsAndTimer : Obligations.HartTrapsCsrsAndTimer := by
  unfold Obligations.HartTrapsCsrsAndTimer
  refine ⟨fun s h value insn hgoes => ?_, fun s h exc tval c hclear hexc hintr => gives_trapEntry hclear hexc hintr, gives_mtimecmpReached,
    fun s p k hwho => ⟨fun j hhart hj hstores => gives_mtimecmpWrite hwho hj hhart hstores, gives_coreInject hwho⟩⟩
  have hfields : s.tenantRefused value.toNat = true ↔ s.secureClass (bits value.toNat 15 12) = true ∨
      tctValid (s.tctEntry (value.toNat % 2 ^ 12)) = false ∨ tctClass (s.tctEntry (value.toNat % 2 ^ 12)) ≠ bits value.toNat 15 12 := by
    have hlow : bits value.toNat 11 0 = value.toNat % 2 ^ 12 := by simp [bits]
    simp [State.tenantRefused, hlow, or_assoc]
  refine ⟨fun hpriv hvirt hsecure hvalid hclass => gives_xnrtenant hgoes hpriv hvirt ?_, fun hvirt hno => gives_xnrtenant_illegal hgoes hvirt
    (hno.imp_right hfields.mpr), gives_xnrtenant_virtual hgoes, fun hpriv => ?_, gives_xnrctl_illegal hgoes⟩
  · rw [← Bool.not_eq_true, hfields, hsecure, hvalid, hclass]
    simp
  · obtain ⟨t, ht, hretires, hnew, hepoch⟩ := gives_xnrctl (value := value) (insn := insn) hgoes hpriv
    obtain ⟨h63, h24, h16, h12, h8, hz62, hz18, hz0, -⟩ := bits_xnrctlWritten ((s.hart h.val).a.getCsr CSR_XNRCTL) value.toNat
    rw [← hnew] at h63 h24 h16 h12 h8 hz62 hz18 hz0
    exact ⟨t, ht, hretires, h63, h24, h16, h12, h8, hz62, hz18, hz0, hepoch⟩

end Sys2Proof.Machine

/-! O47: a window's command issue in a state that lists one bank twice, once as the running window left it and once as an earlier window did.
The bank reads as the first entry, so the window has the read's row open; but the guard that ended the earlier window finds the second entry
and closes the bank, and the window issues an ACT where the statement has it issue the RD. -/

namespace Sys2Proof.Machine
open Safety

/-- A read of the first line of DRAM by class 0 from tile 0, at controller 0. -/
def firstLineRead : Flit := mkFlit .req (tileStop 0) 0 (mcStop 0) 1 0 OP_RD 0 dramBase

/-- Controller 0 with that read queued, its frame 0 at dclk 0, and bank 0 listed twice: with row 0 open in window 0 of the second frame
(occurrence 33), and with row 0 open in window 0 of the first. -/
def bankListedTwice : State where
  mcs := [(0, { frame0 := some 0, cmdFrom := 5000, reads := [⟨firstLineRead, 0, false, false⟩],
                banks := [(0, { row := some 0, win := 33 }), (0, { row := some 0, win := 1 })] })]

theorem exec_mcCommandIssue (m : McId) (sub : Fin 2) (win : Nat) (s : State) :
    exec (.mcCommandIssue m sub win) s = .next (s.mcIssue m sub win) := rfl

/-- The window issues no RD: the read stays queued. -/
theorem reads_mcIssue_bankListedTwice : ((bankListedTwice.mcIssue 0 0 0).mc 0).reads ≠ [] := by
  decide +kernel

/-- Refutes O47: `bankListedTwice` meets the hypotheses of the RD clause of the command issue, and the read is not issued. The tables of a
state need not be canonical in the statement; where they are, keys rise and no bank is listed twice. -/
theorem not_memoryControllersServe : ¬ Obligations.MemoryControllersServe := by
  unfold Obligations.MemoryControllersServe
  rintro ⟨-, -, hissue, -, -⟩
  obtain ⟨-, hserve⟩ := hissue bankListedTwice 0 0 0 0 rfl (by decide) (by decide +kernel) (by decide +kernel) rfl
  obtain ⟨hreads, -⟩ := hserve firstLineRead (by decide +kernel) (by decide +kernel) rfl
  obtain ⟨-, -, hrd⟩ := hreads 0 rfl rfl
  obtain ⟨t, ht, hnone, -⟩ := hrd (by decide +kernel) (by decide +kernel) (by decide +kernel)
  rw [exec_mcCommandIssue] at ht
  cases ht
  exact reads_mcIssue_bankListedTwice hnone

end Sys2Proof.Machine

/-! What the operations of a fabric port's links leave and change (R402 to R410): registers of other pages, events, the requests of the fabric
manager that wait, and the Ward's maintenance of the slices. -/

namespace Sys2Proof.Machine
open Safety

-- registers of different pages

/-- Registers of two pages differ. -/
theorem block_apart {n m b c x y : Nat} (hb : b < 256) (hc : c < 256) (hne : n ≠ m ∨ b ≠ c) (hx : x < 0x1000) (hy : y < 0x1000) :
    (pageBase n b + x) / 8 ≠ (pageBase m c + y) / 8 := by
  have hn := pageBase_eq n b
  have hm := pageBase_eq m c
  omega

theorem State.linkSecure_congr {s t : State} {p l : Nat} (h : t.reg (boltPg 0 + (0x140 + 8 * p)) = s.reg (boltPg 0 + (0x140 + 8 * p))) :
    t.linkSecure p l = s.linkSecure p l := by
  unfold State.linkSecure
  rw [Nat.add_assoc, h]

theorem State.reg_setLink (s : State) (p l : Nat) (v : Link) (a : Nat) : (s.setLink p l v).reg a = s.reg a := rfl

theorem State.fld_setLink (s : State) (p l : Nat) (v : Link) (pg : Nat) (f : Field) : (s.setLink p l v).fld pg f = s.fld pg f := rfl

/-- From `s` to `t` nothing has changed but the register at `b`. -/
structure RegOnly (b : Nat) (s t : State) : Prop where
  rest : { t with regs := s.regs } = s
  reg : ∀ a, b / 8 ≠ a / 8 → t.reg a = s.reg a

namespace RegOnly

variable {b : Nat} {s t : State}

theorem refl (b : Nat) (s : State) : RegOnly b s s := ⟨rfl, fun _ _ => rfl⟩

theorem setFld {pg : Nat} {f : Field} (h : RegOnly b s t) (v : Nat) (hb : pg + f.off = b) : RegOnly b s (t.setFld pg f v) := by
  refine ⟨?_, fun a ha => (State.reg_setFld_ne _ _ (by rwa [hb])).trans (h.reg a ha)⟩
  calc ({ t.setFld pg f v with regs := s.regs } : State) = { t with regs := s.regs } := rfl
    _ = s := h.rest

/-- A field stored before a link's state is. -/
theorem relinked {pg p l : Nat} {f : Field} (s : State) (v : Nat) (w : Link) (hb : pg + f.off = b) :
    RegOnly b (s.setLink p l w) ((s.setFld pg f v).setLink p l w) :=
  ⟨rfl, fun a ha => State.reg_setFld_ne s v (by rwa [hb])⟩

theorem ports (h : RegOnly b s t) : t.ports = s.ports := (congrArg State.ports h.rest :)
theorem links (h : RegOnly b s t) : t.links = s.links := (congrArg State.links h.rest :)

theorem port (h : RegOnly b s t) (p : Nat) : t.port p = s.port p := by
  unfold State.port
  rw [h.ports]

theorem link (h : RegOnly b s t) (p l : Nat) : t.link p l = s.link p l := by
  unfold State.link
  rw [h.links]

end RegOnly

/-- A field of a register stays when another field of the register is stored. -/
theorem State.fld_setFld_beside (s : State) (pg : Nat) (f g : Field) (v : Nat) (hoff : f.off = g.off) (h : f.lo ≤ f.hi) (h64 : f.hi < 64)
    (h' : g.lo ≤ g.hi) (hapart : f.hi < g.lo ∨ g.hi < f.lo) : (s.setFld pg f v).fld pg g = s.fld pg g :=
  State.fld_setFld_apart s pg v hoff h h64 h' hapart

-- events (R410)

/-- The event queue takes an event of the link, and nothing else changes but the port's source of events. -/
structure Queued (s t : State) (p : PortId) (l : LinkId) (kind : Nat) : Prop where
  rest : { t with ports := s.ports, wires := s.wires } = s
  queues : Queues s t p l kind
  raised : ∃ u, (u, 1664 + 8 * p.val) ∈ t.wires

namespace Queued

variable {s t : State} {p : PortId} {l : LinkId} {kind : Nat}

theorem regs (h : Queued s t p l kind) : t.regs = s.regs := (congrArg State.regs h.rest :)
theorem links (h : Queued s t p l kind) : t.links = s.links := (congrArg State.links h.rest :)
theorem out (h : Queued s t p l kind) : t.out = s.out := (congrArg State.out h.rest :)

theorem reg (h : Queued s t p l kind) (a : Nat) : t.reg a = s.reg a := by
  unfold State.reg
  rw [h.regs]

theorem link (h : Queued s t p l kind) (q k : Nat) : t.link q k = s.link q k := by
  unfold State.link
  rw [h.links]

end Queued

theorem queues_congr {s u t v : State} {p : PortId} {l : LinkId} {kind : Nat} (h : Queues u t p l kind) (hs : (u.port p).events = (s.port p).events)
    (ht : v.port p = t.port p) : Queues s v p l kind := by
  unfold Queues at h ⊢
  rwa [ht, ← hs]

theorem firstRid_le (s : State) (p l : Nat) : s.firstRid p l ≤ 65535 := by
  have hfold : ∀ (fs : List (BitVec 16)) (m : Nat), fs.foldl (fun m f => min m f.toNat) m ≤ m := fun fs => by
    induction fs with
    | nil => exact fun m => le_refl m
    | cons f fs ih => exact fun m => (ih _).trans (min_le_left _ _)
  unfold State.firstRid
  split
  · rename_i x _
    refine (hfold _ _).trans ?_
    split <;> omega
  · omega

/-- The word an event is queued as (R410). -/
def State.eventWord (s : State) (p l kind win : Nat) : Word := w64 (2 ^ 63 + kind <<< 58 + l <<< 56 + win <<< 52 + s.firstRid p l <<< 16)

/-- R410: an event of a link that is not secure finds room in the queue. -/
theorem State.fabEvent_queued (s : State) (p : PortId) (l : LinkId) {kind win : Nat} (hsec : s.linkSecure p l = false)
    (hroom : (s.port p).events.length < 32) (hkind : kind < 16) (hwin : win < 16) : Queued s (s.fabEvent p l kind win) p l kind := by
  have hrid := firstRid_le s p l
  have hl := l.isLt
  have hevent : s.fabEvent p l kind win = (s.setPort p { s.port p with events := (s.port p).events ++ [s.eventWord p l kind win] }).fabSource p 0 := by
    unfold State.fabEvent
    dsimp only
    rw [if_neg (by simp [hsec]), if_neg (by omega)]
    rfl
  rw [hevent]
  refine ⟨?_, ⟨s.eventWord p l kind win, ?_, ?_⟩, State.pulse_raises _ _⟩
  · unfold State.fabSource State.pulse
    split <;> rfl
  · rw [State.fabSource, (NotesOnly.ofPulse 0 _ _).port, State.port_setPort]
  · simp only [State.eventWord, w64, BitVec.toNat_ofNat, bits, Nat.shiftLeft_eq, Nat.shiftRight_eq_div_pow]
    refine ⟨?_, ?_, ?_⟩ <;> omega

-- requests of the fabric manager that complete (R407)

/-- From `s` to `t` nothing has changed but mailboxes and what their replies raise. -/
structure MbxOnly (s t : State) : Prop where
  rest : { t with regs := s.regs, wires := s.wires, sideband := s.sideband, ward := s.ward } = s
  reg : ∀ a, OffMailboxes a → t.reg a = s.reg a

namespace MbxOnly

variable {s t u : State}

theorem refl (s : State) : MbxOnly s s := ⟨rfl, fun _ _ => rfl⟩

theorem trans (h : MbxOnly s t) (h' : MbxOnly t u) : MbxOnly s u := by
  obtain ⟨hrest, hreg⟩ := h
  obtain ⟨hrest', hreg'⟩ := h'
  refine ⟨?_, fun a ha => (hreg' a ha).trans (hreg a ha)⟩
  calc ({ u with regs := s.regs, wires := s.wires, sideband := s.sideband, ward := s.ward } : State)
      = { ({ u with regs := t.regs, wires := t.wires, sideband := t.sideband, ward := t.ward } : State) with
          regs := s.regs, wires := s.wires, sideband := s.sideband, ward := s.ward } := rfl
    _ = s := by rw [hrest', hrest]

theorem ofFinish (s : State) {b result fixed : Nat} {out : List Word} (hb : b < 32) (hlen : out.length < 2 ^ 8) :
    MbxOnly s (s.mbxFinish b result fixed out) := ⟨State.mbxFinish_frame.1, fun _ ha => State.reg_mbxFinish_off hb hlen ha⟩

theorem ports (h : MbxOnly s t) : t.ports = s.ports := (congrArg State.ports h.rest :)
theorem links (h : MbxOnly s t) : t.links = s.links := (congrArg State.links h.rest :)

theorem port (h : MbxOnly s t) (p : Nat) : t.port p = s.port p := by
  unfold State.port
  rw [h.ports]

theorem link (h : MbxOnly s t) (p l : Nat) : t.link p l = s.link p l := by
  unfold State.link
  rw [h.links]

end MbxOnly

/-- A register of a fabric port is none of a mailbox. -/
theorem offMailboxes_port {n b off : Nat} (hb : b < 0x40) (hoff : off < 0x1000) : OffMailboxes (pageBase n b + off) := by
  have hbase := pageBase_eq n b
  unfold OffMailboxes
  omega

theorem State.fmComplete_only (s : State) (cmd p l : Nat) : MbxOnly s (s.fmComplete cmd p l) := by
  have hfold : ∀ (bs : List Nat), (∀ b ∈ bs, b < 32) → ∀ u : State,
      MbxOnly u (bs.foldl (fun s b => s.mbxFinish b RES_OK 0 [s.lnkWord p l]) u) := fun bs => by
    induction bs with
    | nil => exact fun _ u => .refl u
    | cons b bs ih =>
      intro hbs u
      exact (MbxOnly.ofFinish u (hbs b (List.mem_cons_self ..)) (by simp)).trans (ih (fun k hk => hbs k (List.mem_cons_of_mem _ hk)) _)
  exact hfold _ (fun b hb => List.mem_range.mp (List.mem_of_mem_filter hb)) s

/-- No request waits. -/
theorem State.fmComplete_idle {s : State} (h : ∀ b, b < 32 → s.fld (mbxPg b) R.WARD_MBX_STATUS_STATE ≠ 2) (cmd p l : Nat) :
    s.fmComplete cmd p l = s := by
  have hnone : s.fmWaiting cmd p l = [] := by
    refine List.filter_eq_nil_iff.mpr fun b hb => ?_
    simp [h b (List.mem_range.mp hb)]
  unfold State.fmComplete
  rw [hnone]
  rfl

end Sys2Proof.Machine

/-! R402: the arrival of a link's partner, from its training to its enumeration and service. -/

namespace Sys2Proof.Machine
open Safety

theorem exec_linkArrival (p : PortId) (l : LinkId) (x : Partner) (s : State) : exec (.linkArrival p l x) s = .next (s.linkArrives p.val l.val x) := rfl

section
variable {s : State} {p : PortId} {l : LinkId} {x : Partner}

-- training

/-- The link as its partner arrives, before it trains. -/
def State.partnerSeen (s : State) (p l : Nat) (x : Partner) : State :=
  (s.setFld (linkPg p l) R.FP_LNK_STATUS_PRESENT 0).setLink p l { s.link p l with partner := some x, dpc := false }

/-- The link in training with a partner of flit mode. -/
def State.linkTrains (s : State) (p l : Nat) (x : Partner) : State :=
  ((((((s.partnerSeen p l x).setLnkState p l LNK_TRAINING).setFld (linkPg p l) R.FP_LNK_STATUS_WIDTH (min x.width.val (s.splitWidth p l))).setFld
    (linkPg p l) R.FP_LNK_STATUS_RATE x.rate.val).setFld (linkPg p l) R.FP_LNK_STATUS_CXL (b01 x.cxl)).setFld (linkPg p l) R.FP_LNK_STATUS_DEVTYPE
      (if x.cxl then x.devType.val else 0))

theorem State.splitWidth_le (s : State) (p l : Nat) : s.splitWidth p l ≤ 5 := by
  unfold State.splitWidth
  split
  · split <;> omega
  · split <;> omega
  · omega

theorem State.partnerSeen_only (s : State) (p l : Nat) (x : Partner) :
    RegOnly (linkPg p l + 0x100) (s.setLink p l { s.link p l with partner := some x, dpc := false }) (s.partnerSeen p l x) :=
  .relinked s 0 _ rfl

/-- Training changes the link's status register, its partner and no more. -/
theorem State.linkTrains_only (s : State) (p l : Nat) (x : Partner) :
    RegOnly (linkPg p l + 0x100) (s.setLink p l { s.link p l with partner := some x, dpc := false }) (s.linkTrains p l x) := by
  unfold State.linkTrains State.setLnkState
  exact (((((s.partnerSeen_only p l x).setFld _ rfl).setFld _ rfl).setFld _ rfl).setFld _ rfl).setFld _ rfl

/-- What the status register shows of a link in training. -/
theorem State.linkTrains_status (s : State) (p l : Nat) (x : Partner) : (s.linkTrains p l x).lnkState p l = LNK_TRAINING ∧
    (s.linkTrains p l x).fld (linkPg p l) R.FP_LNK_STATUS_WIDTH = min x.width.val (s.splitWidth p l) ∧
    (s.linkTrains p l x).fld (linkPg p l) R.FP_LNK_STATUS_RATE = x.rate.val := by
  have hwidth := s.splitWidth_le p l
  have hrate := x.rate.isLt
  unfold State.lnkState State.linkTrains State.setLnkState
  generalize s.partnerSeen p l x = u
  refine ⟨?_, ?_, ?_⟩
  · rw [State.fld_setFld_beside _ _ R.FP_LNK_STATUS_DEVTYPE R.FP_LNK_STATUS_STATE _ rfl (by decide) (by decide) (by decide) (by decide),
      State.fld_setFld_beside _ _ R.FP_LNK_STATUS_CXL R.FP_LNK_STATUS_STATE _ rfl (by decide) (by decide) (by decide) (by decide),
      State.fld_setFld_beside _ _ R.FP_LNK_STATUS_RATE R.FP_LNK_STATUS_STATE _ rfl (by decide) (by decide) (by decide) (by decide),
      State.fld_setFld_beside _ _ R.FP_LNK_STATUS_WIDTH R.FP_LNK_STATUS_STATE _ rfl (by decide) (by decide) (by decide) (by decide),
      State.fld_setFld _ _ _ _ (by decide) (by decide)]
    rfl
  · rw [State.fld_setFld_beside _ _ R.FP_LNK_STATUS_DEVTYPE R.FP_LNK_STATUS_WIDTH _ rfl (by decide) (by decide) (by decide) (by decide),
      State.fld_setFld_beside _ _ R.FP_LNK_STATUS_CXL R.FP_LNK_STATUS_WIDTH _ rfl (by decide) (by decide) (by decide) (by decide),
      State.fld_setFld_beside _ _ R.FP_LNK_STATUS_RATE R.FP_LNK_STATUS_WIDTH _ rfl (by decide) (by decide) (by decide) (by decide),
      State.fld_setFld _ _ _ _ (by decide) (by decide)]
    exact Nat.mod_eq_of_lt (by simp only [R.FP_LNK_STATUS_WIDTH]; omega)
  · rw [State.fld_setFld_beside _ _ R.FP_LNK_STATUS_DEVTYPE R.FP_LNK_STATUS_RATE _ rfl (by decide) (by decide) (by decide) (by decide),
      State.fld_setFld_beside _ _ R.FP_LNK_STATUS_CXL R.FP_LNK_STATUS_RATE _ rfl (by decide) (by decide) (by decide) (by decide),
      State.fld_setFld _ _ _ _ (by decide) (by decide)]
    exact Nat.mod_eq_of_lt (by simp only [R.FP_LNK_STATUS_RATE]; omega)

-- the link comes up

theorem State.watch_notes (s : State) {pg : Nat} (hpg : pg % 8 = 0) : NotesOnly pg s (s.watch pg) := by
  unfold State.watch
  split
  · exact .ofCounts ((CountsOnly.refl pg s).blind hpg)
  · exact .refl pg s

/-- R402: with no request of the fabric manager, the link is UP, its arrival is queued, and of the registers only its state and the port's counters
have changed. -/
theorem State.arriveUp_spec (hidle : ∀ b, b < 32 → s.fld (mbxPg b) R.WARD_MBX_STATUS_STATE ≠ 2) (hsec : s.linkSecure p l = false)
    (hroom : (s.port p).events.length < 32) : (s.arriveUp p l).lnkState p l = LNK_UP ∧ Queues s (s.arriveUp p l) p l EV_ARRIVED ∧
    (∃ u, (u, 1664 + 8 * p.val) ∈ (s.arriveUp p l).wires) ∧
    (∀ a, OffNotes (portPg p) a → (linkPg p l + 0x100) / 8 ≠ a / 8 → (s.arriveUp p l).reg a = s.reg a) ∧
    ∀ f : Field, f.off = 0x100 → f.lo ≤ f.hi → f.hi < 61 → (s.arriveUp p l).fld (linkPg p l) f = s.fld (linkPg p l) f := by
  have hnotes : NotesOnly (portPg p) (s.setLnkState p l LNK_UP) ((s.setLnkState p l LNK_UP).watch (portPg p)) := State.watch_notes _ (portPg_mod8 _)
  have hstate : RegOnly (linkPg p l + 0x100) s (s.setLnkState p l LNK_UP) := (RegOnly.refl _ s).setFld _ rfl
  have hoff : ∀ a, (linkPg p l + 0x100) / 8 ≠ a / 8 → (s.setLnkState p l LNK_UP).reg a = s.reg a := hstate.reg
  have hport : ((s.setLnkState p l LNK_UP).watch (portPg p)).port p = s.port p := (hnotes.port p).trans (hstate.port p)
  have hnear : ∀ {n b off : Nat}, b < 256 → b ≠ 0x10 → off < 0x1000 → n ≠ fpStop p ∨ b ≠ 0x11 + l.val →
      ((s.setLnkState p l LNK_UP).watch (portPg p)).reg (pageBase n b + off) = s.reg (pageBase n b + off) := fun hb hne hlt hapart =>
    (hnotes.reg _ (offNotes_block hb hne hlt)).trans (hoff _ (block_apart (by omega) hb (hapart.imp (Ne.symm) (Ne.symm)) (by decide) hlt))
  have hlink : ∀ f : Field, f.off = 0x100 → ((s.setLnkState p l LNK_UP).watch (portPg p)).fld (linkPg p l) f =
      (s.setLnkState p l LNK_UP).fld (linkPg p l) f := fun f hf => hnotes.linkFld l.isLt (by omega)
  have hregs : ∀ a, OffNotes (portPg p) a → ((s.setLnkState p l LNK_UP).watch (portPg p)).reg a = (s.setLnkState p l LNK_UP).reg a := hnotes.reg
  unfold State.arriveUp
  generalize (s.setLnkState p l LNK_UP).watch (portPg p) = u at hport hnear hlink hregs ⊢
  have hidle' : ∀ b, b < 32 → u.fld (mbxPg b) R.WARD_MBX_STATUS_STATE ≠ 2 := fun b hb => by
    unfold State.fld mbxPg
    rw [hnear (by omega) (by omega) (by decide) (.inr (by omega))]
    exact hidle b hb
  have hqueued : Queued (u.setLink p l { s.link p l with waitsKey := false })
      ((u.setLink p l { s.link p l with waitsKey := false }).fabEvent p l EV_ARRIVED 0) p l EV_ARRIVED := by
    refine State.fabEvent_queued _ p l ?_ (by rwa [State.port_setLink, hport]) (by decide) (by decide)
    rw [State.linkSecure_congr ((State.reg_setLink ..).trans (hnear (by decide) (by decide) (by omega) (.inr (by omega)))), hsec]
  generalize { s.link p l with waitsKey := false } = v at hqueued ⊢
  rw [State.fmComplete_idle (fun b hb => by rw [State.fld, hqueued.reg]; exact hidle' b hb)]
  have hfld : ∀ f, ((u.setLink p l v).fabEvent p l EV_ARRIVED 0).fld (linkPg p l) f = u.fld (linkPg p l) f := fun f => by
    rw [State.fld, hqueued.reg]
    rfl
  refine ⟨?_, queues_congr hqueued.queues (congrArg (·.events) hport) rfl, hqueued.raised, fun a ha hne => ?_, fun f hf hle hhi => ?_⟩
  · rw [State.lnkState, hfld, hlink _ rfl, State.setLnkState, State.fld_setFld _ _ _ _ (by decide) (by decide)]
    rfl
  · rw [hqueued.reg, State.reg_setLink, hregs a ha, hoff a hne]
  · rw [hfld, hlink f hf]
    exact State.fld_setFld_apart _ _ _ hf.symm (by decide) (by decide) hle (.inr hhi)

end

end Sys2Proof.Machine

/-! R402: what a partner's enumeration finds, and the outcomes of an arrival. -/

namespace Sys2Proof.Machine
open Safety

-- registers far from the ports

/-- The registers of pages from block 0x20 on are as they were: those of the Ward among them. -/
def SameBeyondPorts (s t : State) : Prop :=
  ∀ ⦃n b off : Nat⦄, 0x20 ≤ b → b < 256 → off < 0x1000 → t.reg (pageBase n b + off) = s.reg (pageBase n b + off)

namespace SameBeyondPorts

variable {s t u : State}

theorem trans (h : SameBeyondPorts s t) (h' : SameBeyondPorts t u) : SameBeyondPorts s u := fun _ _ _ hlo hhi hoff => (h' hlo hhi hoff).trans (h hlo hhi hoff)

theorem ofRegs (h : ∀ a, t.reg a = s.reg a) : SameBeyondPorts s t := fun _ _ _ _ _ _ => h _

theorem setReg (s : State) {n b off : Nat} (v : Nat) (hb : b < 0x20) (hoff : off < 0x1000) : SameBeyondPorts s (s.setReg (pageBase n b + off) v) :=
  fun _ _ _ _ hhi hlt => State.reg_setReg_ne _ _ (block_apart (by omega) hhi (.inr (by omega)) hoff hlt)

theorem ofRegOnly {n b off : Nat} (h : RegOnly (pageBase n b + off) s t) (hb : b < 0x20) (hoff : off < 0x1000) : SameBeyondPorts s t :=
  fun _ _ _ _ hhi hlt => h.reg _ (block_apart (by omega) hhi (.inr (by omega)) hoff hlt)

theorem linkSecure (h : SameBeyondPorts s t) (p : PortId) (l : Nat) : t.linkSecure p l = s.linkSecure p l := by
  have hp := p.isLt
  exact State.linkSecure_congr (h (by decide) (by decide) (by omega))

theorem mbxState (h : SameBeyondPorts s t) {b : Nat} (hb : b < 32) :
    t.fld (mbxPg b) R.WARD_MBX_STATUS_STATE = s.fld (mbxPg b) R.WARD_MBX_STATUS_STATE := by
  unfold State.fld mbxPg
  rw [h (by omega) (by omega) (by decide)]

end SameBeyondPorts

-- functions (R402, R403)

/-- Enumeration touches, beside registers, only ports, links and reads that leave, and neither the port's events nor the link's key. -/
structure Enumerates (p l : Nat) (s t : State) : Prop where
  rest : { t with ports := s.ports, links := s.links, out := s.out } = s
  events : (t.port p).events = (s.port p).events
  ideKey : (t.link p l).ideKey = (s.link p l).ideKey

namespace Enumerates

variable {p l : Nat} {s t u : State}

theorem refl (p l : Nat) (s : State) : Enumerates p l s s := ⟨rfl, rfl, rfl⟩

theorem trans (h : Enumerates p l s t) (h' : Enumerates p l t u) : Enumerates p l s u := by
  refine ⟨?_, h'.events.trans h.events, h'.ideKey.trans h.ideKey⟩
  calc ({ u with ports := s.ports, links := s.links, out := s.out } : State)
      = { ({ u with ports := t.ports, links := t.links, out := t.out } : State) with ports := s.ports, links := s.links, out := s.out } := rfl
    _ = s := by rw [h'.rest, h.rest]

theorem regs (h : Enumerates p l s t) : t.regs = s.regs := (congrArg State.regs h.rest :)

theorem reg (h : Enumerates p l s t) (a : Nat) : t.reg a = s.reg a := by
  unfold State.reg
  rw [h.regs]

theorem setLink (s : State) {v : Link} (hv : v.ideKey = (s.link p l).ideKey) : Enumerates p l s (s.setLink p l v) :=
  ⟨rfl, rfl, by rw [State.link_setLink, hv]⟩

theorem fabTag_events (s : State) (p : Nat) : ((s.fabTag p).2.port p).events = (s.port p).events := by
  unfold State.fabTag
  simp

theorem portRead (s : State) (m : Nat) (what : PortRead) (f : Nat → Flit) : Enumerates p l s (s.portRead p l m what f) := by
  have hlink := State.link_portRead (s := s) (p := p) (l := l) (what := what) (f := f) m
  exact ⟨State.sent_frame s p p l _ _ _ _ _ _ _, fabTag_events s p, by rw [hlink]⟩

theorem addBar (s : State) (rid size : Nat) : Enumerates p l s (s.addBar p l rid size) := by
  unfold State.addBar
  dsimp only
  split
  · exact refl p l s
  · split
    · exact refl p l s
    · exact setLink s rfl

theorem addBars (rid : Nat) : ∀ (bars : List (BitVec 16 × Nat)) (s : State),
    Enumerates p l s (bars.foldl (fun s b => s.addBar p l rid b.2) s)
  | [], s => refl p l s
  | b :: bars, s => (addBar s rid b.2).trans (addBars rid bars _)

theorem readFnCtx (s : State) (n : Nat) : Enumerates p l s (s.readFnCtx p l n) := by
  unfold State.readFnCtx
  extract_lets t v put s1
  have hput : ∀ c, Enumerates p l s (put c) := fun c => setLink s rfl
  split
  · exact hput none
  · have hs1 : Enumerates p l s s1 := hput _
    clear_value s1
    split
    · exact hs1.trans (portRead ..)
    · exact hs1

end Enumerates

/-- R402: a function of a link that is not secure takes the lowest free entry, with the boot tenant. -/
theorem State.addFunction_enumerates {s : State} {p l n rid : Nat} {x : Partner} (hsec : s.linkSecure p l = false) (hn : n < 256)
    (hfree : s.fnFld p l n R.FP_FN_VALID = 0) (hbelow : ∀ j, j < n → s.fnFld p l j R.FP_FN_VALID = 1) :
    Enumerates p l (s.setReg (State.fnReg p l n) (2 ^ 63 + rid)) (s.addFunction p l x rid) := by
  have hfind : (List.range 256).find? (fun n => s.fnFld p l n R.FP_FN_VALID == 0) = some n := by
    rw [List.find?_range_eq_some]
    exact ⟨by rw [hfree]; rfl, List.mem_range.mpr hn, fun j hj => by rw [hbelow j hj]; rfl⟩
  unfold State.addFunction
  simp only [hsec, hfind, Bool.false_eq_true, if_false, Nat.zero_shiftLeft, Nat.add_zero]
  exact (Enumerates.readFnCtx _ n).trans (Enumerates.addBars _ _ _)

-- windows (R31, R402)

/-- The fields of a window as the Ward writes it. -/
theorem State.putWindow_fields (s : State) {p l w a b : Nat} (hdmdb : Bool) (hl : l < 4) (ha : a < 2 ^ 24) (hb : b < 2 ^ 24) :
    (s.putWindow p l w a b hdmdb).fld (portPg p) (R.FP_WIN_BASE_EN.nth w) = 1 ∧ (s.putWindow p l w a b hdmdb).fld (portPg p) (R.FP_WIN_BASE_LINK.nth w) = l ∧
    (s.putWindow p l w a b hdmdb).fld (portPg p) (R.FP_WIN_BASE_BASE.nth w) = a ∧
    (s.putWindow p l w a b hdmdb).fld (portPg p) (R.FP_WIN_LIMIT_LIMIT.nth w) = b := by
  have hdb : b01 hdmdb ≤ 1 := by
    cases hdmdb <;> decide
  have hpg := portPg_mod8 p
  have hbase : (s.putWindow p l w a b hdmdb).reg (portPg p + 0x200 + 16 * w) = (2 ^ 63 + b01 hdmdb <<< 60 + l <<< 58 + a <<< 28) % 2 ^ 64 := by
    unfold State.putWindow
    rw [State.reg_setReg_ne _ _ (by omega), State.reg_setReg]
  have hlimit : (s.putWindow p l w a b hdmdb).reg (portPg p + 0x208 + 16 * w) = b <<< 28 % 2 ^ 64 := State.reg_setReg _ _ _
  have hat : ∀ f : Field, f.off = 0x200 → f.stride = 0x10 → (s.putWindow p l w a b hdmdb).fld (portPg p) (f.nth w) =
      bits ((2 ^ 63 + b01 hdmdb <<< 60 + l <<< 58 + a <<< 28) % 2 ^ 64) f.hi f.lo := fun f hoff hstride => by
    rw [← hbase, State.fld, Field.nth, hoff, hstride, Nat.add_assoc]
  have hlim : (s.putWindow p l w a b hdmdb).fld (portPg p) (R.FP_WIN_LIMIT_LIMIT.nth w) = bits (b <<< 28 % 2 ^ 64) 51 28 := by
    rw [← hlimit, Nat.add_assoc]
    rfl
  rw [hat R.FP_WIN_BASE_EN rfl rfl, hat R.FP_WIN_BASE_LINK rfl rfl, hat R.FP_WIN_BASE_BASE rfl rfl, hlim]
  simp only [R.FP_WIN_BASE_EN, R.FP_WIN_BASE_LINK, R.FP_WIN_BASE_BASE, bits, Nat.shiftLeft_eq, Nat.shiftRight_eq_div_pow]
  omega

/-- Writing a window touches its two registers. -/
theorem State.putWindow_frame (s : State) {p w : Nat} (l a b : Nat) (hdmdb : Bool) : { s.putWindow p l w a b hdmdb with regs := s.regs } = s ∧
    ∀ c, (portPg p + 0x200 + 16 * w) / 8 ≠ c / 8 → (portPg p + 0x208 + 16 * w) / 8 ≠ c / 8 → (s.putWindow p l w a b hdmdb).reg c = s.reg c := by
  refine ⟨State.setReg_setReg_frame .., fun c h200 h208 => ?_⟩
  unfold State.putWindow
  rw [State.reg_setReg_ne _ _ h208, State.reg_setReg_ne _ _ h200]

/-- R204: INV of a range touches caches alone. -/
theorem State.invUnits_purges (s : State) (a b : Nat) : PurgesOnly s (s.invUnits a b) := by
  unfold State.invUnits
  dsimp only
  refine PurgesOnly.trans (.fold (fun t c => .fold (fun u k => u.pullLine_purges c k) _ t) _ s) (.fold (fun t c => ?_) _ _)
  exact .setSlice ..

theorem State.freeUnits_lt {s : State} {n a : Nat} (h : s.freeUnits n = some a) : a + n ≤ 0x800000 := by
  unfold State.freeUnits at h
  extract_lets ends ok at h
  have hok : ∀ b ∈ ok, b + n ≤ 0x800000 := fun b hb => by
    have hb' := (List.mem_filter.mp hb).2
    simp only [Bool.and_eq_true, decide_eq_true_eq] at hb'
    exact hb'.1.2
  have hfold : ∀ (t : List Nat), (∀ b ∈ t, b + n ≤ 0x800000) → ∀ b, b + n ≤ 0x800000 → t.foldl min b + n ≤ 0x800000 := fun t => by
    induction t with
    | nil => exact fun _ b hb => hb
    | cons c t ih =>
      intro ht b hb
      refine ih (fun d hd => ht d (List.mem_cons_of_mem _ hd)) _ ?_
      have := ht c (List.mem_cons_self ..)
      omega
  clear_value ok
  cases ok with
  | nil => cases h
  | cons b t =>
    cases h
    exact hfold t (fun c hc => hok c (List.mem_cons_of_mem _ hc)) b (hok b (List.mem_cons_self ..))

/-- What addresses are free depends on the windows alone. -/
theorem State.freeUnits_congr {s t : State} (h : ∀ (p off : Nat), 0x200 ≤ off → off < 0x300 → t.reg (portPg p + off) = s.reg (portPg p + off)) (n : Nat) :
    t.freeUnits n = s.freeUnits n := by
  have hfld : ∀ (p w : Nat) (f : Field), w < 16 → 0x200 ≤ f.off → f.off < 0x210 → f.stride = 0x10 →
      t.fld (portPg p) (f.nth w) = s.fld (portPg p) (f.nth w) := fun p w f hw hlo hhi hstride => by
    unfold State.fld
    rw [h p _ (by simp only [Field.nth]; omega) (by simp only [Field.nth, hstride]; omega)]
  have hends : ((List.range 8).flatMap fun p => (List.range 16).map fun w => t.fld (portPg p) (R.FP_WIN_LIMIT_LIMIT.nth w) + 1) =
      (List.range 8).flatMap fun p => (List.range 16).map fun w => s.fld (portPg p) (R.FP_WIN_LIMIT_LIMIT.nth w) + 1 := by
    refine congrArg (fun g => (List.range 8).flatMap g) (funext fun p => List.map_congr_left fun w hw => ?_)
    rw [hfld p w _ (List.mem_range.mp hw) (by decide) (by decide) rfl]
  have htaken : ∀ a b, t.unitsTaken a b = s.unitsTaken a b := fun a b => by
    unfold State.unitsTaken State.flag
    refine congrArg (fun g => (List.range 8).any g) (funext fun p => ?_)
    rw [Bool.eq_iff_iff, List.any_eq_true, List.any_eq_true]
    refine exists_congr fun w => and_congr_right fun hw => ?_
    have hw' := List.mem_range.mp hw
    rw [hfld p w R.FP_WIN_BASE_EN hw' (by decide) (by decide) rfl, hfld p w R.FP_WIN_BASE_BASE hw' (by decide) (by decide) rfl,
      hfld p w R.FP_WIN_LIMIT_LIMIT hw' (by decide) (by decide) rfl]
  unfold State.freeUnits
  dsimp only
  rw [hends]
  simp only [htaken]

/-- R402: a range of device memory takes the lowest free window, and its lines leave the caches. -/
theorem State.addRange_puts {s : State} {p l w a : Nat} {r : HdmRange} (hfree : s.freeUnits r.units = some a) (hunits : 0 < r.units) (hw : w < 16)
    (hoff : s.fld (portPg p) (R.FP_WIN_BASE_EN.nth w) = 0) (hbelow : ∀ j, j < w → s.fld (portPg p) (R.FP_WIN_BASE_EN.nth j) = 1) :
    ∃ u, PurgesOnly s u ∧ s.addRange p l r = u.putWindow p l w a (a + r.units - 1) r.hdmdb := by
  have hfind : (List.range 16).find? (fun w => !s.flag (portPg p) (R.FP_WIN_BASE_EN.nth w)) = some w := by
    rw [List.find?_range_eq_some]
    unfold State.flag
    exact ⟨by rw [hoff]; rfl, List.mem_range.mpr hw, fun j hj => by rw [hbelow j hj]; rfl⟩
  refine ⟨_, s.invUnits_purges a (a + r.units - 1), ?_⟩
  unfold State.addRange
  rw [hfree, hfind]
  exact if_neg (by omega)

end Sys2Proof.Machine

/-! R402: the outcomes of an arrival. -/

namespace Sys2Proof.Machine
open Safety

section
variable {s : State} {p : PortId} {l : LinkId} {x : Partner}

/-- The link after the enumeration of a partner's functions and ranges. -/
def State.enumerated (s : State) (p l : Nat) (x : Partner) : State :=
  if x.cxl && decide (2 ≤ x.devType.val) then
    x.ranges.foldl (fun s r => s.addRange p l r) ((x.functions.foldl (fun t f => insertUp f.toNat t) []).foldl (fun s r => s.addFunction p l x r) s)
  else (x.functions.foldl (fun t f => insertUp f.toNat t) []).foldl (fun s r => s.addFunction p l x r) s

theorem State.enumerated_none (hf : x.functions = []) (hr : x.cxl = false ∨ x.devType.val < 2) (s : State) (p l : Nat) : s.enumerated p l x = s := by
  unfold State.enumerated
  rw [hf, if_neg (by rcases hr with h | h <;> simp [h])]
  rfl

theorem State.enumerated_function {rid : BitVec 16} (hf : x.functions = [rid]) (hr : x.cxl = false ∨ x.devType.val < 2) (s : State) (p l : Nat) :
    s.enumerated p l x = s.addFunction p l x rid.toNat := by
  unfold State.enumerated
  rw [hf, if_neg (by rcases hr with h | h <;> simp [h])]
  rfl

theorem State.enumerated_range {r : HdmRange} (hf : x.functions = []) (hcxl : x.cxl = true) (htype : 2 ≤ x.devType.val) (hr : x.ranges = [r])
    (s : State) (p l : Nat) : s.enumerated p l x = s.addRange p l r := by
  unfold State.enumerated
  rw [hf, hr, if_pos (by simp [hcxl, htype])]
  rfl

/-- R402: with the Ward down the presence is latched. -/
theorem State.linkArrives_down (hrun : s.ward.running = false) (p l : Nat) :
    s.linkArrives p l x = (s.setFld (linkPg p l) R.FP_LNK_STATUS_PRESENT 1).setLink p l { s.link p l with partner := some x } := by
  unfold State.linkArrives
  exact if_pos (by rw [hrun]; rfl)

/-- A partner can arrive at the link: it is part of the port's split, held by no reset, and DOWN. -/
structure Expects (s : State) (p : PortId) (l : LinkId) : Prop where
  running : s.ward.running = true
  split : s.splitWidth p l ≠ 0
  link : s.flag (linkPg p l) R.PG_RESET_HOLDRST = false
  port : s.flag (portPg p) R.PG_RESET_HOLDRST = false
  perst : (s.link p l).perst = true
  down : s.lnkState p l = LNK_DOWN

namespace Expects

theorem admits (h : Expects s p l) : ¬(s.splitWidth p l = 0 ∨ (s.flag (linkPg p l) R.PG_RESET_HOLDRST || s.flag (portPg p) R.PG_RESET_HOLDRST) = true ∨
    (!(s.link p l).perst) = true ∨ (s.lnkState p l ≠ LNK_DOWN ∧ s.lnkState p l ≠ LNK_NOFLIT)) := by
  obtain ⟨-, hsplit, hlink, hport, hperst, hdown⟩ := h
  simp [hsplit, hlink, hport, hperst, hdown]

theorem trains (h : Expects s p l) (hflit : x.flitMode = true) (hrate : x.rate ≠ 0) (hwidth : x.width ≠ 0) : s.linkArrives p l x =
    if x.ide && (((s.linkTrains p l x).enumerated p l x).link p l).ideKey.isNone then
      ((s.linkTrains p l x).enumerated p l x).setLink p l { ((s.linkTrains p l x).enumerated p l x).link p l with waitsKey := true }
    else ((s.linkTrains p l x).enumerated p l x).arriveUp p l := by
  unfold State.linkArrives
  dsimp only
  rw [if_neg (by rw [h.running]; simp), if_neg h.admits, if_neg (by simp [hflit, hrate, hwidth])]
  rfl

theorem noFlit (h : Expects s p l) (hflit : x.flitMode = false) : s.linkArrives p l x =
    (((s.partnerSeen p l x).setLnkState p l LNK_NOFLIT).fabEvent p l EV_NOFLIT 0).fmComplete 0x100 p l := by
  unfold State.linkArrives
  dsimp only
  rw [if_neg (by rw [h.running]; simp), if_neg h.admits, if_pos (by simp [hflit])]
  rfl

/-- A partner that needs no key, or whose key the link has, is served at once. -/
theorem up (h : Expects s p l) (hflit : x.flitMode = true) (hrate : x.rate ≠ 0) (hwidth : x.width ≠ 0)
    (hide : x.ide = false ∨ (s.link p l).ideKey.isSome = true)
    (hkey : (((s.linkTrains p l x).enumerated p l x).link p l).ideKey = (s.link p l).ideKey) :
    s.linkArrives p l x = ((s.linkTrains p l x).enumerated p l x).arriveUp p l := by
  rw [h.trains hflit hrate hwidth, hkey, if_neg]
  rcases hide with hide | hide
  · simp [hide]
  · simp [Option.isSome_iff_ne_none.mp hide]

end Expects

-- training leaves

theorem linkTrains_ports (s : State) (p q : Nat) (l : Nat) (x : Partner) : (s.linkTrains p l x).port q = s.port q := (s.linkTrains_only p l x).port q

theorem linkTrains_link (s : State) (p l : Nat) (x : Partner) : (s.linkTrains p l x).link p l = { s.link p l with partner := some x, dpc := false } :=
  ((s.linkTrains_only p l x).link p l).trans (State.link_setLink ..)

theorem linkTrains_reg (s : State) (p l : Nat) (x : Partner) {a : Nat} (ha : (linkPg p l + 0x100) / 8 ≠ a / 8) :
    (s.linkTrains p l x).reg a = s.reg a := (s.linkTrains_only p l x).reg a ha

theorem linkTrains_beyond (s : State) (p : Nat) (l : LinkId) (x : Partner) : SameBeyondPorts s (s.linkTrains p l x) := fun _ _ _ _ hhi hoff =>
  linkTrains_reg s p l x (block_apart (by omega) hhi (.inr (by omega)) (by decide) hoff)

/-- R402: with the Ward down. -/
theorem gives_linkArrival_latched (hrun : s.ward.running = false) (hdown : s.lnkState p l = LNK_DOWN) : Gives (.linkArrival p l x) s fun t =>
    t.lnkState p l = LNK_DOWN ∧ t.flag (linkPg p l) R.FP_LNK_STATUS_PRESENT = true ∧ t.ports = s.ports := by
  refine gives_next (exec_linkArrival p l x s) ?_
  rw [State.linkArrives_down hrun]
  refine ⟨?_, ?_, by simp⟩
  · rw [State.lnkState, State.fld_setLink, State.fld_setFld_beside _ _ R.FP_LNK_STATUS_PRESENT R.FP_LNK_STATUS_STATE _ rfl (by decide) (by decide) (by decide)
      (by decide)]
    exact hdown
  · rw [State.flag, State.fld_setLink]
    exact State.flag_setFld _ _ _ _ rfl (by decide)

/-- R402: the partner of a link without its key waits for it. -/
theorem gives_linkArrival_waits (h : Expects s p l) (hflit : x.flitMode = true) (hrate : x.rate ≠ 0) (hwidth : x.width ≠ 0)
    (hide : x.ide = true) (hkey : (s.link p l).ideKey = none) (hf : x.functions = []) (hr : x.cxl = false ∨ x.devType.val < 2) :
    Gives (.linkArrival p l x) s fun t => t.lnkState p l = LNK_TRAINING ∧ (t.link p l).waitsKey = true ∧ (t.port p).events = (s.port p).events := by
  have hstatus := (s.linkTrains_status p l x).1
  have hports := linkTrains_ports s p p l x
  have hlink := linkTrains_link s p l x
  refine gives_next (exec_linkArrival p l x s) ?_
  rw [h.trains hflit hrate hwidth, State.enumerated_none hf hr]
  generalize s.linkTrains p l x = u at hstatus hports hlink ⊢
  rw [if_pos (by rw [hlink]; simp [hide, hkey])]
  exact ⟨hstatus, by rw [State.link_setLink], by rw [State.port_setLink, hports]⟩

/-- R402: a partner without flit mode. -/
theorem gives_linkArrival_noFlit (h : Expects s p l) (hflit : x.flitMode = false) (hsec : s.linkSecure p l = false)
    (hroom : (s.port p).events.length < 32) : Gives (.linkArrival p l x) s fun t => t.lnkState p l = LNK_NOFLIT ∧ Queues s t p l EV_NOFLIT := by
  refine gives_next (exec_linkArrival p l x s) ?_
  rw [h.noFlit hflit]
  have hseen : RegOnly (linkPg p l + 0x100) (s.setLink p l { s.link p l with partner := some x, dpc := false })
      ((s.partnerSeen p l x).setLnkState p l LNK_NOFLIT) := (s.partnerSeen_only p l x).setFld _ rfl
  have hstate : ((s.partnerSeen p l x).setLnkState p l LNK_NOFLIT).lnkState p l = LNK_NOFLIT :=
    (State.fld_setFld _ _ _ _ (by decide) (by decide)).trans rfl
  have hports : ((s.partnerSeen p l x).setLnkState p l LNK_NOFLIT).port p = s.port p := hseen.port p
  have hbeyond : SameBeyondPorts s ((s.partnerSeen p l x).setLnkState p l LNK_NOFLIT) :=
    (SameBeyondPorts.ofRegs (State.reg_setLink s p l _)).trans
      (SameBeyondPorts.ofRegOnly (n := fpStop p) (b := 0x11 + l) (off := 0x100) hseen (by omega) (by decide))
  generalize (s.partnerSeen p l x).setLnkState p l LNK_NOFLIT = u at hstate hports hbeyond ⊢
  have hqueued : Queued u (u.fabEvent p l EV_NOFLIT 0) p l EV_NOFLIT :=
    State.fabEvent_queued u p l (by rw [hbeyond.linkSecure, hsec]) (by rwa [hports]) (by decide) (by decide)
  have hdone := (u.fabEvent p l EV_NOFLIT 0).fmComplete_only 0x100 p l
  refine ⟨?_, queues_congr hqueued.queues (congrArg (·.events) hports) (hdone.port p)⟩
  rw [State.lnkState, State.fld, linkPg, hdone.reg _ (offMailboxes_port (by omega) (by decide)), hqueued.reg]
  exact hstate

/-- R402: a partner that is up. -/
theorem gives_linkArrival_up (h : Expects s p l) (hflit : x.flitMode = true) (hrate : x.rate ≠ 0) (hwidth : x.width ≠ 0)
    (hide : x.ide = false ∨ (s.link p l).ideKey.isSome = true) (hf : x.functions = []) (hr : x.cxl = false ∨ x.devType.val < 2)
    (hidle : ∀ b, b < 32 → s.fld (mbxPg b) R.WARD_MBX_STATUS_STATE ≠ 2) (hsec : s.linkSecure p l = false) (hroom : (s.port p).events.length < 32) :
    Gives (.linkArrival p l x) s fun t => t.lnkState p l = LNK_UP ∧ Queues s t p l EV_ARRIVED ∧
      t.fld (linkPg p l) R.FP_LNK_STATUS_WIDTH = min x.width.val (s.splitWidth p l) ∧ t.fld (linkPg p l) R.FP_LNK_STATUS_RATE = x.rate.val ∧
      ∃ u, (u, 1664 + 8 * p.val) ∈ t.wires := by
  obtain ⟨-, hw, hra⟩ := s.linkTrains_status p l x
  have hports := linkTrains_ports s p p l x
  have hbeyond := linkTrains_beyond s p l x
  refine gives_next (exec_linkArrival p l x s) ?_
  rw [h.up hflit hrate hwidth hide (by rw [State.enumerated_none hf hr, linkTrains_link]), State.enumerated_none hf hr]
  generalize s.linkTrains p l x = u at hw hra hports hbeyond ⊢
  obtain ⟨hup, hqueues, hraised, -, hfields⟩ := State.arriveUp_spec (s := u) (p := p) (l := l) (fun b hb => by rw [hbeyond.mbxState hb]; exact hidle b hb)
    (by rw [hbeyond.linkSecure, hsec]) (by rwa [hports])
  exact ⟨hup, queues_congr hqueues (congrArg (·.events) hports) rfl, (hfields _ rfl (by decide) (by decide)).trans hw,
    (hfields _ rfl (by decide) (by decide)).trans hra, hraised⟩

end

end Sys2Proof.Machine

/-! R402: the arrival of a partner with a function, and of one with a range of device memory. -/

namespace Sys2Proof.Machine
open Safety

section
variable {s : State} {p : PortId} {l : LinkId} {x : Partner}

theorem State.link_setReg (s : State) (a v p l : Nat) : (s.setReg a v).link p l = s.link p l := rfl

theorem State.port_setReg (s : State) (a v p : Nat) : (s.setReg a v).port p = s.port p := rfl

/-- The register of a function entry is not the link's status. -/
theorem fnReg_apart (p l : Nat) {n : Nat} (hn : n < 256) {off : Nat} (hoff : off < 0x400) : (linkPg p l + off) / 8 ≠ State.fnReg p l n / 8 := by
  have hpg : linkPg p l % 8 = 0 := pageBase_mod8 ..
  unfold State.fnReg
  omega

theorem State.fnFld_eq (s : State) (p l n : Nat) {f : Field} (hoff : f.off = 0x400) (hstride : f.stride = 8) :
    s.fnFld p l n f = bits (s.reg (State.fnReg p l n)) f.hi f.lo := by
  unfold State.fnFld State.fld State.fnReg Field.nth
  rw [hoff, hstride, Nat.add_assoc]

theorem offNotes_fn (p : Nat) {l n : Nat} (hl : l < 4) (hn : n < 256) : OffNotes (portPg p) (State.fnReg p l n) := by
  unfold State.fnReg
  rw [Nat.add_assoc]
  exact offNotes_link hl (by omega)

theorem linkTrains_fnFld (s : State) (p l : Nat) (x : Partner) {n : Nat} (hn : n < 256) :
    (s.linkTrains p l x).fnFld p l n R.FP_FN_VALID = s.fnFld p l n R.FP_FN_VALID := by
  rw [State.fnFld_eq _ _ _ _ rfl rfl, State.fnFld_eq _ _ _ _ rfl rfl, linkTrains_reg _ _ _ _ (fnReg_apart p l hn (by decide))]

/-- R402: a function's entry holds its requester ID and the boot tenant. -/
theorem gives_linkArrival_function (h : Expects s p l) (hflit : x.flitMode = true) (hrate : x.rate ≠ 0) (hwidth : x.width ≠ 0)
    (hide : x.ide = false ∨ (s.link p l).ideKey.isSome = true) {rid : BitVec 16} {n : Nat} (hf : x.functions = [rid])
    (hr : x.cxl = false ∨ x.devType.val < 2) (hn : n < 256) (hfree : s.fnFld p l n R.FP_FN_VALID = 0)
    (hbelow : ∀ j, j < n → s.fnFld p l j R.FP_FN_VALID = 1)
    (hidle : ∀ b, b < 32 → s.fld (mbxPg b) R.WARD_MBX_STATUS_STATE ≠ 2) (hsec : s.linkSecure p l = false) (hroom : (s.port p).events.length < 32) :
    Gives (.linkArrival p l x) s fun t => t.lnkState p l = LNK_UP ∧ t.fnFld p l n R.FP_FN_VALID = 1 ∧ t.fnFld p l n R.FP_FN_RID = rid.toNat ∧
      t.fnFld p l n R.FP_FN_TENANT = 0 ∧ t.fnFld p l n R.FP_FN_ATS = 0 := by
  have hports := linkTrains_ports s p p l x
  have hbeyond : SameBeyondPorts s (s.linkTrains p l x) := linkTrains_beyond s p l x
  have hlink := linkTrains_link s p l x
  have hadds := State.addFunction_enumerates (s := s.linkTrains p l x) (p := p) (l := l) (n := n) (rid := rid.toNat) (x := x)
    (by rw [hbeyond.linkSecure, hsec]) hn (by rw [linkTrains_fnFld _ _ _ _ hn, hfree])
    (fun j hj => by rw [linkTrains_fnFld _ _ _ _ (by omega), hbelow j hj])
  have henum := State.enumerated_function hf hr (s.linkTrains p l x) p l
  refine gives_next (exec_linkArrival p l x s) ?_
  rw [h.up hflit hrate hwidth hide (by rw [henum, hadds.ideKey, State.link_setReg, hlink]), henum]
  have hput : SameBeyondPorts (s.linkTrains p l x) ((s.linkTrains p l x).setReg (State.fnReg p l n) (2 ^ 63 + rid.toNat)) := by
    unfold State.fnReg
    rw [Nat.add_assoc]
    exact .setReg _ _ (by omega) (by omega)
  have hsame := (hbeyond.trans hput).trans (.ofRegs hadds.reg)
  have hevents : (((s.linkTrains p l x).addFunction p l x rid.toNat).port p).events = (s.port p).events := hadds.events.trans (congrArg Port.events ((State.port_setReg ..).trans hports))
  have hentry : ((s.linkTrains p l x).addFunction p l x rid.toNat).reg (State.fnReg p l n) = (2 ^ 63 + rid.toNat) % 2 ^ 64 :=
    (hadds.reg _).trans (State.reg_setReg ..)
  generalize (s.linkTrains p l x).addFunction p l x rid.toNat = u at hsame hevents hentry ⊢
  obtain ⟨hup, -, -, hregs, -⟩ := State.arriveUp_spec (s := u) (p := p) (l := l) (fun b hb => by rw [hsame.mbxState hb]; exact hidle b hb)
    (by rw [hsame.linkSecure, hsec]) (by rwa [hevents])
  have hkept := (hregs _ (offNotes_fn p l.isLt hn) (fnReg_apart p l hn (by decide))).trans hentry
  have hrid := rid.isLt
  rw [State.fnFld_eq _ _ _ _ rfl rfl, State.fnFld_eq _ _ _ _ rfl rfl, State.fnFld_eq _ _ _ _ rfl rfl, State.fnFld_eq _ _ _ _ rfl rfl, hkept]
  refine ⟨hup, ?_⟩
  simp only [R.FP_FN_VALID, R.FP_FN_RID, R.FP_FN_TENANT, R.FP_FN_ATS, bits, Nat.shiftRight_eq_div_pow]
  omega

theorem PurgesOnly.regs {s t : State} (h : PurgesOnly s t) : t.regs = s.regs := (congrArg State.regs h :)
theorem PurgesOnly.ports {s t : State} (h : PurgesOnly s t) : t.ports = s.ports := (congrArg State.ports h :)
theorem PurgesOnly.links {s t : State} (h : PurgesOnly s t) : t.links = s.links := (congrArg State.links h :)

theorem PurgesOnly.reg {s t : State} (h : PurgesOnly s t) (a : Nat) : t.reg a = s.reg a := by
  unfold State.reg
  rw [h.regs]

/-- Writing a window leaves pages that are no port's. -/
theorem State.putWindow_beyond (s : State) {p w : Nat} (l a b : Nat) (hdmdb : Bool) (hw : w < 16) : SameBeyondPorts s (s.putWindow p l w a b hdmdb) :=
  fun _ _ _ _ hhi hoff => (s.putWindow_frame l a b hdmdb).2 _ (by
    rw [Nat.add_assoc]
    exact block_apart (by decide) hhi (.inr (by omega)) (by omega) hoff) (by
    rw [Nat.add_assoc]
    exact block_apart (by decide) hhi (.inr (by omega)) (by omega) hoff)

theorem linkTrains_portFld (s : State) (p q : Nat) (l : LinkId) (x : Partner) {f : Field} (hf : f.off < 0x1000) :
    (s.linkTrains p l x).fld (portPg q) f = s.fld (portPg q) f := by
  unfold State.fld portPg
  rw [linkTrains_reg _ _ _ _ (block_apart (by omega) (by decide) (.inr (by omega)) (by decide) hf)]

/-- R402: a range of device memory has a window of its own once its link is up. -/
theorem gives_linkArrival_range (h : Expects s p l) (hflit : x.flitMode = true) (hrate : x.rate ≠ 0) (hwidth : x.width ≠ 0)
    (hide : x.ide = false ∨ (s.link p l).ideKey.isSome = true) {r : HdmRange} {a w : Nat} (hf : x.functions = []) (hcxl : x.cxl = true)
    (htype : 2 ≤ x.devType.val) (hr : x.ranges = [r]) (hunits : 0 < r.units) (hfree : s.freeUnits r.units = some a) (hw : w < 16)
    (hoff : s.fld (portPg p) (R.FP_WIN_BASE_EN.nth w) = 0) (hbelow : ∀ j, j < w → s.fld (portPg p) (R.FP_WIN_BASE_EN.nth j) = 1)
    (hidle : ∀ b, b < 32 → s.fld (mbxPg b) R.WARD_MBX_STATUS_STATE ≠ 2) (hsec : s.linkSecure p l = false) (hroom : (s.port p).events.length < 32) :
    Gives (.linkArrival p l x) s fun t => t.lnkState p l = LNK_UP ∧ t.fld (portPg p) (R.FP_WIN_BASE_EN.nth w) = 1 ∧
      t.fld (portPg p) (R.FP_WIN_BASE_LINK.nth w) = l ∧ t.fld (portPg p) (R.FP_WIN_BASE_BASE.nth w) = a ∧
      t.fld (portPg p) (R.FP_WIN_LIMIT_LIMIT.nth w) = a + r.units - 1 := by
  have hports := linkTrains_ports s p p l x
  have hbeyond : SameBeyondPorts s (s.linkTrains p l x) := linkTrains_beyond s p l x
  have hlink := linkTrains_link s p l x
  have hlast := State.freeUnits_lt hfree
  have hfree' : (s.linkTrains p l x).freeUnits r.units = some a := by
    rw [State.freeUnits_congr fun q off _ hhi => linkTrains_reg _ _ _ _ (block_apart (by omega) (by decide) (.inr (by omega)) (by decide) (by omega)), hfree]
  obtain ⟨v, hpurges, hadds⟩ := State.addRange_puts (s := s.linkTrains p l x) (p := p) (l := l) hfree' hunits hw
    (by rw [linkTrains_portFld _ _ _ _ _ (by simp only [Field.nth, R.FP_WIN_BASE_EN]; omega), hoff])
    (fun j hj => by rw [linkTrains_portFld _ _ _ _ _ (by simp only [Field.nth, R.FP_WIN_BASE_EN]; omega), hbelow j hj])
  have henum := (State.enumerated_range hf hcxl htype hr (s.linkTrains p l x) p l).trans hadds
  have hframe := (v.putWindow_frame (p := p) (w := w) l a (a + r.units - 1) r.hdmdb).1
  have hfields := v.putWindow_fields (p := p) (w := w) (a := a) (b := a + r.units - 1) r.hdmdb l.isLt (by omega) (by omega)
  have hput := (hbeyond.trans (.ofRegs hpurges.reg)).trans (v.putWindow_beyond (p := p) (w := w) l a (a + r.units - 1) r.hdmdb hw)
  generalize v.putWindow p l w a (a + r.units - 1) r.hdmdb = u at henum hframe hfields hput
  have hul : u.links = v.links := (congrArg State.links hframe :)
  have hup : u.ports = v.ports := (congrArg State.ports hframe :)
  have hlinks : u.link p l = (s.linkTrains p l x).link p l := by
    rw [State.link, State.link, hul, hpurges.links]
  have hevents : u.port p = s.port p := by
    rw [← hports, State.port, State.port, hup, hpurges.ports]
  refine gives_next (exec_linkArrival p l x s) ?_
  rw [h.up hflit hrate hwidth hide (by rw [henum, hlinks, hlink]), henum]
  obtain ⟨hup, -, -, hregs, -⟩ := State.arriveUp_spec (s := u) (p := p) (l := l) (fun b hb => by rw [hput.mbxState hb]; exact hidle b hb)
    (by rw [hput.linkSecure, hsec]) (by rwa [hevents])
  have hkept : ∀ f : Field, 0x200 ≤ f.off → f.off < 0x210 → f.stride = 0x10 →
      (u.arriveUp p l).fld (portPg p) (f.nth w) = u.fld (portPg p) (f.nth w) := fun f hlo hhi hstride => by
    have hoff : (f.nth w).off < 0x1000 := by simp only [Field.nth, hstride]; omega
    unfold State.fld
    rw [hregs _ (offNotes_port (by simp only [Field.nth]; omega) (by simp only [Field.nth, hstride]; omega))
      (block_apart (by omega) (by decide) (.inr (by omega)) (by decide) hoff)]
  obtain ⟨hen, hlnk, hbase, hlimit⟩ := hfields
  exact ⟨hup, (hkept _ (by decide) (by decide) rfl).trans hen, (hkept _ (by decide) (by decide) rfl).trans hlnk,
    (hkept _ (by decide) (by decide) rfl).trans hbase, (hkept _ (by decide) (by decide) rfl).trans hlimit⟩

end

end Sys2Proof.Machine

/-! R404, R405: the Ward's operation over a window on every slice, and the steps of a departure. -/

namespace Sys2Proof.Machine
open Safety

-- the Ward's operation (R202, R404)

/-- The Ward's operation runs in a slice, over the range from an address. -/
def WardRuns (op addr : Nat) (sl : Slice) : Prop :=
  ∃ r, Tab.at? sl.maint 15 = some r ∧ r.op = op ∧ r.scope = 1 ∧ r.addr = addr ∧ r.ward = true

/-- From `s` to `t` nothing has changed but slices and their pages. -/
structure SlicesOnly (s t : State) : Prop where
  rest : { t with regs := s.regs, slices := s.slices } = s
  reg : ∀ n b off, b < 256 → b ≠ 8 → off < 0x1000 → t.reg (pageBase n b + off) = s.reg (pageBase n b + off)

namespace SlicesOnly

variable {s t u : State}

theorem refl (s : State) : SlicesOnly s s := ⟨rfl, fun _ _ _ _ _ _ => rfl⟩

theorem trans (h : SlicesOnly s t) (h' : SlicesOnly t u) : SlicesOnly s u := by
  refine ⟨?_, fun n b off hb hne hoff => (h'.reg n b off hb hne hoff).trans (h.reg n b off hb hne hoff)⟩
  calc ({ u with regs := s.regs, slices := s.slices } : State)
      = { ({ u with regs := t.regs, slices := t.slices } : State) with regs := s.regs, slices := s.slices } := rfl
    _ = s := by rw [h'.rest, h.rest]

theorem setSlice (s : State) (c : Nat) (v : Slice) : SlicesOnly s (s.setSlice c v) := ⟨rfl, fun _ _ _ _ _ _ => rfl⟩

theorem ofSetFld (s : State) (pg : Nat) (f : Field) (v : Nat)
    (h : ∀ n b off, b < 256 → b ≠ 8 → off < 0x1000 → (pg + f.off) / 8 ≠ (pageBase n b + off) / 8) : SlicesOnly s (s.setFld pg f v) :=
  ⟨rfl, fun n b off hb hne hoff => State.reg_setFld_ne s v (h n b off hb hne hoff)⟩

theorem setFld (s : State) (c v : Nat) (f : Field) (hf : f.off < 0x1000) : SlicesOnly s (s.setFld (slicePg c) f v) := by
  refine ofSetFld s _ f v fun n b off hb hne hoff => ?_
  unfold slicePg
  exact block_apart (by decide) hb (.inr (Ne.symm hne)) hf hoff

theorem links (h : SlicesOnly s t) : t.links = s.links := (congrArg State.links h.rest :)

end SlicesOnly

/-- What the Ward writes to one slice. -/
def State.wardOp (op addr lines : Nat) (s : State) (c : Nat) : State :=
  let pg := slicePg c
  let r : MaintRun := ⟨op, 1, addr, lines, 0, 0, 0, 0, true, s.now, 0, false, 0, 0, s.now, s.now⟩
  let s1 := s.setFld pg (R.SLC_MAINT_STAT_BUSY.nth 15) 1
  (s1.setSlice c { s1.slice c with maint := Tab.ins 15 r (s1.slice c).maint }).sliceBusy c

theorem State.slice_setFld (s : State) (pg : Nat) (f : Field) (v c : Nat) : (s.setFld pg f v).slice c = s.slice c := rfl

theorem State.wardOp_spec (op addr lines : Nat) (s : State) (c : Nat) : SlicesOnly s (s.wardOp op addr lines c) ∧
    WardRuns op addr ((s.wardOp op addr lines c).slice c) ∧ ∀ k, k ≠ c → (s.wardOp op addr lines c).slice k = s.slice k := by
  unfold State.wardOp State.sliceBusy
  extract_lets pg r s1 sl
  have h1 : SlicesOnly s s1 := .setFld s c 1 _ (by decide)
  have hs1 : ∀ k, s1.slice k = s.slice k := fun k => State.slice_setFld ..
  have hr : r.op = op ∧ r.scope = 1 ∧ r.addr = addr ∧ r.ward = true := ⟨rfl, rfl, rfl, rfl⟩
  clear_value s1 r sl
  refine ⟨(h1.trans (.setSlice ..)).trans (.setFld _ c _ _ (by decide)), ?_, fun k hk => ?_⟩
  · rw [State.slice_setFld, State.slice_setSlice]
    exact ⟨r, Tab.at?_ins_self .., hr⟩
  · rw [State.slice_setFld, State.slice_setSlice_ne _ _ (Ne.symm hk), hs1]

theorem State.wardOp_foldl (op addr lines : Nat) (cs : List Nat) (s : State) : SlicesOnly s (cs.foldl (State.wardOp op addr lines) s) ∧
    ∀ c, (c ∈ cs ∨ WardRuns op addr (s.slice c)) → WardRuns op addr ((cs.foldl (State.wardOp op addr lines) s).slice c) := by
  induction cs generalizing s with
  | nil => exact ⟨.refl s, fun c hc => hc.resolve_left (List.not_mem_nil)⟩
  | cons b cs ih =>
    obtain ⟨hone, hruns, hothers⟩ := State.wardOp_spec op addr lines s b
    rw [List.foldl_cons]
    obtain ⟨hrest, hall⟩ := ih (s.wardOp op addr lines b)
    refine ⟨hone.trans hrest, fun c hc => hall c ?_⟩
    by_cases hcb : c = b
    · subst hcb
      exact .inr hruns
    · rw [hothers c hcb]
      exact hc.imp_left fun h => (List.mem_cons.mp h).resolve_left hcb

theorem State.wardMaint_eq (s : State) (op addr lines : Nat) : s.wardMaint op addr lines = (List.range 96).foldl (State.wardOp op addr lines) s := by
  unfold State.wardMaint
  refine congrArg (fun g => List.foldl g s (List.range 96)) ?_
  funext t c
  unfold State.wardOp
  rfl

/-- R404: the Ward's operation runs in every slice. -/
theorem State.wardMaint_spec (s : State) (op addr lines : Nat) : SlicesOnly s (s.wardMaint op addr lines) ∧
    ∀ c : Tile, WardRuns op addr ((s.wardMaint op addr lines).slice c) := by
  obtain ⟨honly, hruns⟩ := State.wardOp_foldl op addr lines (List.range 96) s
  rw [State.wardMaint_eq]
  exact ⟨honly, fun c => hruns c (.inl (List.mem_range.mpr c.isLt))⟩

-- the next window of a departure (R404, R405)

/-- From `s` to `t` the Ward went on with the departure of a link, at most; the link is as it was but for what is left of its departure. -/
structure GoesOn (p l : Nat) (s t : State) : Prop where
  rest : { t with regs := s.regs, slices := s.slices, links := s.links } = s
  reg : ∀ n b off, b < 256 → b ≠ 8 → off < 0x1000 → t.reg (pageBase n b + off) = s.reg (pageBase n b + off)
  link : ∃ todo : Departure → List Nat, t.link p l = { s.link p l with depart := (s.link p l).depart.map fun d => { d with todo := todo d } }

namespace GoesOn

variable {p l : Nat} {s t : State} (h : GoesOn p l s t)
include h

theorem fld {n b : Nat} {f : Field} (hb : b < 256) (hne : b ≠ 8) (hoff : f.off < 0x1000) : t.fld (pageBase n b) f = s.fld (pageBase n b) f := by
  unfold State.fld
  rw [h.reg n b _ hb hne hoff]

theorem now : t.now = s.now := (congrArg State.now h.rest :)
theorem ports : t.ports = s.ports := (congrArg State.ports h.rest :)
theorem out : t.out = s.out := (congrArg State.out h.rest :)
theorem wires : t.wires = s.wires := (congrArg State.wires h.rest :)

theorem depart {d : Departure} (hd : (s.link p l).depart = some d) : ∃ e, (t.link p l).depart = some e ∧ e.phase = d.phase := by
  obtain ⟨todo, hlink⟩ := h.link
  rw [hlink]
  exact ⟨{ d with todo := todo d }, by simp [hd], rfl⟩

end GoesOn

theorem State.departNext_goes (s : State) (p l : Nat) : GoesOn p l s (s.departNext p l) := by
  have hstays : GoesOn p l s s := ⟨rfl, fun _ _ _ _ _ _ => rfl, fun d => d.todo, by
    cases h : (s.link p l).depart <;> simp [← h]⟩
  unfold State.departNext
  dsimp only
  split
  · rename_i d hd
    split
    · exact hstays
    · rename_i w t hw
      split
      · exact hstays
      · generalize hv : ({ s.link p l with depart := some { d with todo := t } } : Link) = v
        obtain ⟨honly, -⟩ := (s.setLink p l v).wardMaint_spec (if d.phase = 3 then 0 else 2)
          (s.fld (portPg p) (R.FP_WIN_BASE_BASE.nth w) <<< 28)
          ((s.fld (portPg p) (R.FP_WIN_LIMIT_LIMIT.nth w) + 1 - s.fld (portPg p) (R.FP_WIN_BASE_BASE.nth w)) * 2 ^ 22)
        generalize (s.setLink p l v).wardMaint _ _ _ = u at honly ⊢
        refine ⟨?_, honly.reg, fun _ => t, ?_⟩
        · calc ({ u with regs := s.regs, slices := s.slices, links := s.links } : State)
              = { ({ u with regs := (s.setLink p l v).regs, slices := (s.setLink p l v).slices } : State) with links := s.links } := rfl
            _ = s := by rw [honly.rest]; rfl
        · rw [State.link, honly.links, ← State.link, State.link_setLink, ← hv, hd]
          rfl
  · exact hstays

/-- R404, R405: with no operation of the Ward running, the next window's begins in every slice. -/
theorem State.departNext_runs {s : State} {p l w : Nat} {ws : List Nat} {d : Departure} (hd : (s.link p l).depart = some d) (hw : d.todo = w :: ws)
    (hbusy : s.wardMaintBusy = false) (c : Tile) :
    WardRuns (if d.phase = 3 then 0 else 2) (s.fld (portPg p) (R.FP_WIN_BASE_BASE.nth w) <<< 28) ((s.departNext p l).slice c) := by
  unfold State.departNext
  simp only [hd, hw, hbusy, Bool.false_eq_true, if_false]
  exact (State.wardMaint_spec _ _ _ _).2 c

end Sys2Proof.Machine

/-! R404: a planned departure, from its start to its end. -/

namespace Sys2Proof.Machine
open Safety

theorem exec_plannedDeparture (p : PortId) (l : LinkId) (s : State) : exec (.plannedDeparture p l) s = .next (s.departGo p.val l.val) := rfl
theorem exec_releaseTimeout (p : PortId) (l : LinkId) (s : State) : exec (.releaseTimeout p l) s = .next (s.releaseTimeout p.val l.val) := rfl
theorem exec_surpriseInvDone (p : PortId) (l : LinkId) (s : State) : exec (.surpriseInvDone p l) s = .next (s.surpriseDone p.val l.val) := rfl

-- windows of a link (R404, R410)

/-- A field of an FP_WIN_BASE register. -/
structure BaseField (f : Field) : Prop where
  off : f.off = 0x200
  stride : f.stride = 0x10
  bits : f.lo ≤ f.hi
  word : f.hi < 64

theorem baseField_en : BaseField R.FP_WIN_BASE_EN := ⟨rfl, rfl, by decide, by decide⟩
theorem baseField_gone : BaseField R.FP_WIN_BASE_GONE := ⟨rfl, rfl, by decide, by decide⟩
theorem baseField_hold : BaseField R.FP_WIN_BASE_HOLD := ⟨rfl, rfl, by decide, by decide⟩
theorem baseField_link : BaseField R.FP_WIN_BASE_LINK := ⟨rfl, rfl, by decide, by decide⟩
theorem baseField_base : BaseField R.FP_WIN_BASE_BASE := ⟨rfl, rfl, by decide, by decide⟩

/-- A flag set in each of some windows. -/
def State.flagWindows (s : State) (p : Nat) (f : Field) (ws : List Nat) : State := ws.foldl (fun s w => s.setFld (portPg p) (f.nth w) 1) s

theorem State.flagWindows_cons (s : State) (p : Nat) (f : Field) (w : Nat) (ws : List Nat) :
    s.flagWindows p f (w :: ws) = (s.setFld (portPg p) (f.nth w) 1).flagWindows p f ws := rfl

theorem State.flagWindows_frame (s : State) (p : Nat) (f : Field) (ws : List Nat) : { s.flagWindows p f ws with regs := s.regs } = s := by
  induction ws generalizing s with
  | nil => rfl
  | cons w ws ih =>
    have htail := ih (s.setFld (portPg p) (f.nth w) 1)
    rw [State.flagWindows_cons]
    generalize (s.setFld (portPg p) (f.nth w) 1).flagWindows p f ws = t at htail ⊢
    calc ({ t with regs := s.regs } : State)
        = { ({ t with regs := (s.setFld (portPg p) (f.nth w) 1).regs } : State) with regs := s.regs } := rfl
      _ = s := by rw [htail, State.setFld_regs_frame]

section
variable {p : Nat} {f : Field} (hf : BaseField f)
include hf

/-- Registers that are no window's are not touched. -/
theorem State.reg_flagWindows_out {a : Nat} (ws : List Nat) (ha : ∀ w ∈ ws, (portPg p + (0x200 + 16 * w)) / 8 ≠ a / 8) (s : State) :
    (s.flagWindows p f ws).reg a = s.reg a := by
  induction ws generalizing s with
  | nil => rfl
  | cons w ws ih =>
    rw [State.flagWindows_cons, ih (fun v hv => ha v (List.mem_cons_of_mem _ hv)), State.reg_setFld_ne]
    simp only [Field.nth, hf.off, hf.stride]
    exact ha w (List.mem_cons_self ..)

/-- Nor are the other fields of the windows. -/
theorem State.fld_flagWindows_beside {g : Field} (hg : BaseField g) (hapart : f.hi < g.lo ∨ g.hi < f.lo) (v : Nat) (ws : List Nat) (s : State) :
    (s.flagWindows p f ws).fld (portPg p) (g.nth v) = s.fld (portPg p) (g.nth v) := by
  have hpg := portPg_mod8 p
  induction ws generalizing s with
  | nil => rfl
  | cons w ws ih =>
    rw [State.flagWindows_cons, ih]
    by_cases hwv : w = v
    · subst hwv
      exact State.fld_setFld_beside s _ (f.nth w) (g.nth w) 1 (by simp only [Field.nth, hf.off, hg.off, hf.stride, hg.stride]) hf.bits hf.word hg.bits hapart
    · refine State.fld_setFld_other s 1 ?_
      simp only [Field.nth, hf.off, hg.off, hf.stride, hg.stride]
      omega

/-- The flag is set in each of the windows. -/
theorem State.fld_flagWindows (hone : f.hi = f.lo) {v : Nat} (ws : List Nat) (s : State) (hv : v ∈ ws ∨ s.fld (portPg p) (f.nth v) = 1) :
    (s.flagWindows p f ws).fld (portPg p) (f.nth v) = 1 := by
  have hpg := portPg_mod8 p
  induction ws generalizing s with
  | nil => exact hv.resolve_left List.not_mem_nil
  | cons w ws ih =>
    rw [State.flagWindows_cons]
    refine ih _ ?_
    by_cases hwv : v = w
    · subst hwv
      right
      rw [State.fld_setFld _ _ (f.nth v) _ hf.bits hf.word]
      simp only [Field.nth, hone, Nat.add_sub_cancel_left]
      decide
    · refine hv.imp (fun h => (List.mem_cons.mp h).resolve_left hwv) fun h => ?_
      rw [State.fld_setFld_other s 1 ?_, h]
      simp only [Field.nth, hf.off, hf.stride]
      omega

end

theorem State.linkWindows_lt {s : State} {p l w : Nat} (hw : w ∈ s.linkWindows p l) : w < 16 := List.mem_range.mp (List.mem_of_mem_filter hw)

theorem State.linkWindows_congr {s t : State} {p : Nat}
    (hen : ∀ w, w < 16 → t.fld (portPg p) (R.FP_WIN_BASE_EN.nth w) = s.fld (portPg p) (R.FP_WIN_BASE_EN.nth w))
    (hlink : ∀ w, w < 16 → t.fld (portPg p) (R.FP_WIN_BASE_LINK.nth w) = s.fld (portPg p) (R.FP_WIN_BASE_LINK.nth w)) (l : Nat) :
    t.linkWindows p l = s.linkWindows p l := by
  unfold State.linkWindows State.flag
  refine List.filter_congr fun w hw => ?_
  rw [hen w (List.mem_range.mp hw), hlink w (List.mem_range.mp hw)]

/-- The windows of a port are as they were. -/
def SameWindows (p : Nat) (s t : State) : Prop := ∀ w off, w < 16 → off = 0x200 ∨ off = 0x208 → t.reg (portPg p + (off + 16 * w)) = s.reg (portPg p + (off + 16 * w))

namespace SameWindows

variable {p : Nat} {s t : State} (h : SameWindows p s t)
include h

theorem base {f : Field} (hf : BaseField f) {w : Nat} (hw : w < 16) : t.fld (portPg p) (f.nth w) = s.fld (portPg p) (f.nth w) := by
  have hreg := h w 0x200 hw (.inl rfl)
  unfold State.fld Field.nth
  rw [hf.off, hf.stride, hreg]

theorem linkWindows (l : Nat) : t.linkWindows p l = s.linkWindows p l :=
  State.linkWindows_congr (fun _ hw => h.base baseField_en hw) (fun _ hw => h.base baseField_link hw) l

end SameWindows

/-- A register of another page is no window's. -/
theorem sameWindows_setReg (s : State) {p n b off : Nat} (v : Nat) (hb : b < 256) (hne : b ≠ 0x10) (hoff : off < 0x1000) :
    SameWindows p s (s.setReg (pageBase n b + off) v) := fun w x hw hx =>
  State.reg_setReg_ne _ _ (block_apart hb (by decide) (.inr hne) hoff (by omega))

theorem sameWindows_setFld (s : State) (p : Nat) {n b : Nat} (v : Nat) {f : Field} (hb : b < 256) (hne : b ≠ 0x10) (hoff : f.off < 0x1000) :
    SameWindows p s (s.setFld (pageBase n b) f v) := sameWindows_setReg s _ hb hne hoff

-- the hold (R404)

/-- A departing link is held: its windows hold fills, and the first of them is flushed from every slice. -/
def Held (s t : State) (p l : Nat) : Prop :=
  t.lnkState p l = LNK_HOLD ∧ (∀ w, w ∈ s.linkWindows p l → t.fld (portPg p) (R.FP_WIN_BASE_HOLD.nth w) = 1) ∧
  (∃ e, (t.link p l).depart = some e ∧ e.phase = 2) ∧ ∀ w ws (c : Tile), s.linkWindows p l = w :: ws → s.wardMaintBusy = false →
    WardRuns 2 (s.fld (portPg p) (R.FP_WIN_BASE_BASE.nth w) <<< 28) (t.slice c)

theorem State.wardMaintBusy_congr {s t : State} (h : t.slices = s.slices) : t.wardMaintBusy = s.wardMaintBusy := by
  unfold State.wardMaintBusy State.slice
  rw [h]

theorem Held.congr {s u t : State} {p l : Nat} (h : Held u t p l) (hwin : SameWindows p s u) (hslices : u.slices = s.slices) : Held s t p l := by
  obtain ⟨hstate, hhold, hphase, hruns⟩ := h
  rw [hwin.linkWindows] at hhold
  refine ⟨hstate, hhold, hphase, fun w ws c hw hbusy => ?_⟩
  have hlt : w < 16 := State.linkWindows_lt (s := s) (p := p) (l := l) (hw ▸ List.mem_cons_self ..)
  rw [← hwin.base baseField_base hlt]
  exact hruns w ws c ((hwin.linkWindows l).trans hw) ((State.wardMaintBusy_congr hslices).trans hbusy)

/-- The link in HOLD with its windows, before the Ward's first operation. -/
def State.heldLink (s : State) (p l : Nat) : State :=
  ((s.setLnkState p l LNK_HOLD).markWindows p l R.FP_WIN_BASE_HOLD).setFld (linkPg p l) R.FP_LNK_CTL_RELEASE 0

theorem State.heldLink_spec (s : State) (p : Nat) {l : Nat} (hl : l < 4) : (s.heldLink p l).slices = s.slices ∧ (s.heldLink p l).now = s.now ∧
    (s.heldLink p l).lnkState p l = LNK_HOLD ∧ (s.heldLink p l).linkWindows p l = s.linkWindows p l ∧
    (∀ w, w ∈ s.linkWindows p l → (s.heldLink p l).fld (portPg p) (R.FP_WIN_BASE_HOLD.nth w) = 1) ∧
    ∀ w, w < 16 → (s.heldLink p l).fld (portPg p) (R.FP_WIN_BASE_BASE.nth w) = s.fld (portPg p) (R.FP_WIN_BASE_BASE.nth w) := by
  have h1 : SameWindows p s (s.setLnkState p l LNK_HOLD) := sameWindows_setFld s p _ (by omega) (by omega) (by decide)
  have hstate : (s.setLnkState p l LNK_HOLD).lnkState p l = LNK_HOLD := (State.fld_setFld _ _ _ _ (by decide) (by decide)).trans rfl
  have hframe : { s.setLnkState p l LNK_HOLD with regs := s.regs } = s := State.setFld_regs_frame ..
  unfold State.heldLink State.markWindows
  rw [← State.flagWindows, h1.linkWindows]
  generalize s.setLnkState p l LNK_HOLD = u at h1 hstate hframe ⊢
  have hmarked := u.flagWindows_frame p R.FP_WIN_BASE_HOLD (s.linkWindows p l)
  have hbeside : ∀ {g : Field}, BaseField g → (R.FP_WIN_BASE_HOLD.hi < g.lo ∨ g.hi < R.FP_WIN_BASE_HOLD.lo) → ∀ w,
      (u.flagWindows p R.FP_WIN_BASE_HOLD (s.linkWindows p l)).fld (portPg p) (g.nth w) = u.fld (portPg p) (g.nth w) := fun hg hapart w =>
    State.fld_flagWindows_beside baseField_hold hg hapart w _ u
  have hset : ∀ w, w ∈ s.linkWindows p l → (u.flagWindows p R.FP_WIN_BASE_HOLD (s.linkWindows p l)).fld (portPg p) (R.FP_WIN_BASE_HOLD.nth w) = 1 :=
    fun w hw => State.fld_flagWindows baseField_hold rfl _ u (.inl hw)
  have hstatus : (u.flagWindows p R.FP_WIN_BASE_HOLD (s.linkWindows p l)).lnkState p l = u.lnkState p l := by
    have hout : ∀ w ∈ s.linkWindows p l, (portPg p + (0x200 + 16 * w)) / 8 ≠ (linkPg p l + 0x100) / 8 := fun w hw => by
      have := State.linkWindows_lt hw
      exact block_apart (by decide) (by omega) (.inr (by omega)) (by omega) (by decide)
    have hreg := State.reg_flagWindows_out baseField_hold (s.linkWindows p l) hout u
    unfold State.lnkState State.fld
    exact congrArg (fun x => bits x 63 61) hreg
  generalize u.flagWindows p R.FP_WIN_BASE_HOLD (s.linkWindows p l) = v at hmarked hbeside hset hstatus ⊢
  have h2 : SameWindows p v (v.setFld (linkPg p l) R.FP_LNK_CTL_RELEASE 0) := sameWindows_setFld v p _ (by omega) (by omega) (by decide)
  have hus : u.slices = s.slices := (congrArg State.slices hframe :)
  have hun : u.now = s.now := (congrArg State.now hframe :)
  have hvs : v.slices = u.slices := (congrArg State.slices hmarked :)
  have hvn : v.now = u.now := (congrArg State.now hmarked :)
  refine ⟨?_, ?_, ?_, ?_, fun w hw => ?_, fun w hw => ?_⟩
  · simp [hvs, hus]
  · simp [hvn, hun]
  · rw [State.lnkState, State.fld_setFld_other, ← State.lnkState, hstatus, hstate]
    have : linkPg p l % 8 = 0 := pageBase_mod8 ..
    simp only [R.FP_LNK_CTL_RELEASE, R.FP_LNK_STATUS_STATE]
    omega
  · rw [h2.linkWindows, State.linkWindows_congr (fun w _ => hbeside baseField_en (by decide) w) (fun w _ => hbeside baseField_link (by decide) w) l, h1.linkWindows]
  · rw [h2.base baseField_hold (State.linkWindows_lt hw), hset w hw]
  · rw [h2.base baseField_base hw, hbeside baseField_base (by decide), h1.base baseField_base hw]

theorem State.departHold_spec (s : State) (p : Nat) {l : Nat} (hl : l < 4) (d : Departure) : Held s (s.departHold p l d) p l ∧ (s.departHold p l d).now = s.now := by
  obtain ⟨hslices, hnow, hstate, hwindows, hhold, hbase⟩ := s.heldLink_spec p hl
  have heq : s.departHold p l d = ((s.heldLink p l).setLink p l { (s.heldLink p l).link p l with
      depart := some { d with phase := 2, todo := (s.heldLink p l).linkWindows p l } }).departNext p l := by
    unfold State.departHold
    rfl
  rw [heq]
  generalize s.heldLink p l = u at hslices hnow hstate hwindows hhold hbase ⊢
  generalize hv : ({ u.link p l with depart := some { d with phase := 2, todo := u.linkWindows p l } } : Link) = v
  have hdepart : ((u.setLink p l v).link p l).depart = some { d with phase := 2, todo := u.linkWindows p l } := by
    rw [State.link_setLink, ← hv]
  have hgoes := (u.setLink p l v).departNext_goes p l
  have hruns := fun w ws (c : Tile) (hw : u.linkWindows p l = w :: ws) hbusy => State.departNext_runs (w := w) (ws := ws) hdepart hw hbusy c
  generalize (u.setLink p l v).departNext p l = t at hgoes hruns ⊢
  have hsl : (u.setLink p l v).slices = s.slices := by simp [hslices]
  have hsame := State.wardMaintBusy_congr hsl
  refine ⟨⟨?_, fun w hw => ?_, hgoes.depart hdepart, fun w ws c hw hbusy => ?_⟩, by simp [hgoes.now, hnow]⟩
  · rw [State.lnkState, linkPg, hgoes.fld (by omega) (by omega) (by decide), State.fld_setLink]
    exact hstate
  · have hlt := State.linkWindows_lt hw
    rw [portPg, hgoes.fld (by decide) (by decide) (by simp only [Field.nth, R.FP_WIN_BASE_HOLD]; omega), State.fld_setLink]
    exact hhold w hw
  · have hlt : w < 16 := State.linkWindows_lt (s := s) (p := p) (l := l) (hw ▸ List.mem_cons_self ..)
    have hrun := hruns w ws c (hwindows.trans hw) (hsame.trans hbusy)
    rwa [State.fld_setLink, hbase w hlt] at hrun

end Sys2Proof.Machine

/-! R404: RELEASE and its timeout, the start of a departure and its end. -/

namespace Sys2Proof.Machine
open Safety

theorem exec_release (q : PageReq) (s : State) : exec (.release q) s = .next (s.regCommand q true (· == .fpl) (fun o v => o == 0x108 && bitN v 1)) := rfl

section
variable {s : State} {p : PortId} {l : LinkId} {d : Departure}

-- RELEASE (R404)

theorem State.regEffect_lnkCtl (s : State) (p l : Nat) (who : Requester) (v : Nat) : s.regEffect (linkPage p l) 0x108 who v =
    { locked := (s.secureClass (bits v 11 8) && bits v 11 8 != s.fld (linkPg p l) R.FP_LNK_CTL_CLASS) && !s.writesSecure who
      admitted := wardOrM who
      act := s.lnkCtlWrite p l v } := rfl

/-- The link's control register as a write of RELEASE leaves it, before the Ward acts. -/
def State.released (s : State) (p l v : Nat) : State :=
  (s.setFld (linkPg p l) R.FP_LNK_CTL_CLASS (bits v 11 8)).setFld (linkPg p l) R.FP_LNK_CTL_RELEASE 1

theorem SameWindows.trans {p : Nat} {s t u : State} (h : SameWindows p s t) (h' : SameWindows p t u) : SameWindows p s u :=
  fun w off hw hoff => (h' w off hw hoff).trans (h w off hw hoff)

theorem State.released_spec (s : State) (p : Nat) {l : Nat} (hl : l < 4) (v : Nat) : SameWindows p s (s.released p l v) ∧
    (s.released p l v).slices = s.slices ∧ (s.released p l v).link p l = s.link p l ∧ (s.released p l v).now = s.now := by
  unfold State.released
  refine ⟨?_, by simp, by simp, by simp⟩
  exact (sameWindows_setFld s p _ (by omega) (by omega) (by decide)).trans (sameWindows_setFld _ p _ (by omega) (by omega) (by decide))

theorem State.releaseActs_departs (hd : (s.link p l).depart = some d) (hphase : d.phase = 1) : s.releaseActs p l = s.departHold p l d := by
  unfold State.releaseActs
  rw [hd]
  exact if_pos hphase

theorem State.lnkCtlWrite_release {v : Nat} (hd : (s.link p l).depart = some d) (hphase : d.phase = 1) (h0 : bitN v 0 = false) (h1 : bitN v 1 = true)
    (hclass : bits v 11 8 = s.fld (linkPg p l) R.FP_LNK_CTL_CLASS) : s.lnkCtlWrite p l v = .ok ((s.released p l v).departHold p l d) := by
  obtain ⟨-, -, hlink, -⟩ := s.released_spec p l.isLt v
  have hlink' : (s.setFld (linkPg p l) R.FP_LNK_CTL_CLASS (bits v 11 8)).link p l = s.link p l := by simp
  rw [← State.releaseActs_departs (hlink.symm ▸ hd) hphase]
  unfold State.lnkCtlWrite State.released
  dsimp only
  rw [if_neg (by simp [hclass, h0])]
  simp only [h0, h1, Bool.false_eq_true, if_false, hlink', hd, Option.any_some, hphase, beq_self_eq_true, Bool.true_or, Bool.and_self, Bool.not_false,
    if_true]

theorem Held.respond {t : State} {p l : Nat} (h : Held s t p l) (r : Resp) : Held s (t.respond r) p l := by
  obtain ⟨hstate, hhold, hphase, hruns⟩ := h
  refine ⟨?_, fun w hw => ?_, ?_, fun w ws c hw hbusy => ?_⟩
  · rw [State.lnkState, fld_respond]
    exact hstate
  · rw [fld_respond]
    exact hhold w hw
  · simpa using hphase
  · simpa using hruns w ws c hw hbusy

/-- R404: software releases the departing link. -/
theorem gives_release {q : PageReq} (hd : (s.link p l).depart = some d) (hphase : d.phase = 1) (h : Stores s q (linkPage p l) 0x108)
    (hadm : wardOrM q.who = true) (h0 : bitN q.data.toNat 0 = false) (h1 : bitN q.data.toNat 1 = true)
    (hclass : bits q.data.toNat 11 8 = s.fld (linkPg p l) R.FP_LNK_CTL_CLASS) :
    Gives (.release q) s fun t => Answered s t q 0 ∧ Held s t p l := by
  obtain ⟨hwin, hslices, -, -⟩ := s.released_spec p l.isLt q.data.toNat
  have hheld := ((s.released p l q.data.toNat).departHold_spec p l.isLt d).1.congr hwin hslices
  have hkept : s.keptValue (linkPage p l) 0x108 q.data.toNat = q.data.toNat := rfl
  have hstores := State.accessNow_stores (t := (s.released p l q.data.toNat).departHold p l d) h
    (by rw [hkept, State.regEffect_lnkCtl, hclass]; simp) (by rw [hkept, State.regEffect_lnkCtl]; exact hadm)
    (by rw [hkept, State.regEffect_lnkCtl]; exact State.lnkCtlWrite_release hd hphase h0 h1 hclass)
  have hwrites : q.kind.writes = true := by
    rw [h.2.1]
    rfl
  refine gives_next (exec_release q s) ?_
  rw [State.regCommand_names h.1 hwrites rfl (by rw [h1]; rfl), hstores]
  generalize (s.released p l q.data.toNat).departHold p l d = t at hheld ⊢
  exact ⟨answered_respond, hheld.respond _⟩

/-- R404: 10 s without RELEASE. -/
theorem gives_releaseTimeout (hd : (s.link p l).depart = some d) (hphase : d.phase = 1) : Gives (.releaseTimeout p l) s fun t =>
    t.now = max s.now (96 * (d.since + 250000000)) ∧ Held s t p l := by
  have heq : s.releaseTimeout p l = (s.toAclk (d.since + 250000000)).departHold p l d := by
    unfold State.releaseTimeout
    rw [hd]
    exact if_pos hphase
  obtain ⟨hheld, hnow⟩ := (s.toAclk (d.since + 250000000)).departHold_spec p l.isLt d
  refine gives_next (exec_releaseTimeout p l s) ?_
  rw [heq]
  exact ⟨hnow, hheld.congr (s := s) (fun _ _ _ _ => rfl) rfl⟩

-- the start (R404)

/-- The departure of a link that is UP begins. -/
theorem State.departStart_queued (hup : s.lnkState p l = LNK_UP) (hnone : (s.link p l).depart = none) (hsec : s.linkSecure p l = false)
    (hroom : (s.port p).events.length < 32) :
    Queued (s.setLink p l { s.link p l with depart := some { phase := 1, since := s.tb } }) (s.departStart p l) p l EV_DEPART_REQ := by
  unfold State.departStart
  rw [if_pos ⟨hup, hnone⟩]
  exact State.fabEvent_queued _ p l hsec hroom (by decide) (by decide)

theorem State.departStart_spec (hup : s.lnkState p l = LNK_UP) (hnone : (s.link p l).depart = none) (hsec : s.linkSecure p l = false)
    (hroom : (s.port p).events.length < 32) : ((s.departStart p l).link p l).depart = some { phase := 1, since := s.tb } ∧
    Queues s (s.departStart p l) p l EV_DEPART_REQ ∧ ∀ a, (s.departStart p l).reg a = s.reg a := by
  have hqueued := State.departStart_queued hup hnone hsec hroom
  refine ⟨?_, queues_congr hqueued.queues rfl rfl, fun a => (hqueued.reg a).trans (State.reg_setLink ..)⟩
  rw [hqueued.link, State.link_setLink]

/-- R404: DEPART. -/
theorem gives_departRequested (hup : s.lnkState p l = LNK_UP) (hnone : (s.link p l).depart = none) (hflag : s.flag (linkPg p l) R.FP_LNK_CTL_DEPART = true)
    (hsec : s.linkSecure p l = false) (hroom : (s.port p).events.length < 32) : Gives (.plannedDeparture p l) s fun t =>
      t.lnkState p l = LNK_UP ∧ (t.link p l).depart = some { phase := 1, since := s.tb } ∧ Queues s t p l EV_DEPART_REQ := by
  obtain ⟨hdepart, hqueues, hreg⟩ := State.departStart_spec hup hnone hsec hroom
  have heq : s.departGo p l = s.departStart p l := by
    unfold State.departGo
    rw [hnone]
    exact if_pos (by rw [hflag]; rfl)
  refine gives_next (exec_plannedDeparture p l s) ?_
  rw [heq]
  refine ⟨?_, hdepart, hqueues⟩
  rw [State.lnkState, State.fld, hreg]
  exact hup

end

-- the end (R404, R405)

/-- Registers cleared one after another. -/
def State.clearRegs (s : State) (as : List Nat) : State := as.foldl (fun s a => s.setReg a 0) s

theorem State.clearRegs_cons (s : State) (a : Nat) (as : List Nat) : s.clearRegs (a :: as) = (s.setReg a 0).clearRegs as := rfl

theorem State.clearRegs_frame (s : State) (as : List Nat) : { s.clearRegs as with regs := s.regs } = s := by
  induction as generalizing s with
  | nil => rfl
  | cons a as ih =>
    have htail := ih (s.setReg a 0)
    rw [State.clearRegs_cons]
    generalize (s.setReg a 0).clearRegs as = t at htail ⊢
    calc ({ t with regs := s.regs } : State) = { ({ t with regs := (s.setReg a 0).regs } : State) with regs := s.regs } := rfl
      _ = s := by rw [htail, State.setReg_regs_frame]

theorem State.reg_clearRegs_out {a : Nat} (as : List Nat) (ha : ∀ b ∈ as, b / 8 ≠ a / 8) (s : State) : (s.clearRegs as).reg a = s.reg a := by
  induction as generalizing s with
  | nil => rfl
  | cons b as ih =>
    rw [State.clearRegs_cons, ih (fun c hc => ha c (List.mem_cons_of_mem _ hc)), State.reg_setReg_ne _ _ (ha b (List.mem_cons_self ..))]

theorem State.reg_clearRegs {a : Nat} (as : List Nat) (hal : ∀ b ∈ as, b % 8 = 0) (h8 : a % 8 = 0) (s : State) (ha : a ∈ as ∨ s.reg a = 0) :
    (s.clearRegs as).reg a = 0 := by
  induction as generalizing s with
  | nil => exact ha.resolve_left List.not_mem_nil
  | cons b as ih =>
    rw [State.clearRegs_cons]
    refine ih (fun c hc => hal c (List.mem_cons_of_mem _ hc)) _ ?_
    by_cases hab : a = b
    · subst hab
      exact .inr ((State.reg_setReg ..).trans (Nat.zero_mod _))
    · have hb := hal b (List.mem_cons_self ..)
      refine ha.imp (fun h => (List.mem_cons.mp h).resolve_left hab) fun h => ?_
      rw [State.reg_setReg_ne _ _ (by omega), h]

end Sys2Proof.Machine

/-! R404, R405: the end of a departure: the link's function and window entries are cleared, and the link is DOWN. -/

namespace Sys2Proof.Machine
open Safety

section
variable {s : State} {p : PortId} {l : LinkId} {d : Departure}

/-- The window and function entries of a link cleared. -/
def State.entriesCleared (s : State) (p l : Nat) : State :=
  (s.clearRegs ((s.linkWindows p l).flatMap fun w => [portPg p + 0x200 + 16 * w, portPg p + 0x208 + 16 * w])).clearRegs
    ((List.range 256).map (State.fnReg p l))

theorem State.port_clearRegs (s : State) (as : List Nat) (q : Nat) : (s.clearRegs as).port q = s.port q := by
  have hports : (s.clearRegs as).ports = s.ports := (congrArg State.ports (s.clearRegs_frame as) :)
  unfold State.port
  rw [hports]

theorem State.entriesCleared_port (s : State) (p l q : Nat) : (s.entriesCleared p l).port q = s.port q := by
  unfold State.entriesCleared
  rw [State.port_clearRegs, State.port_clearRegs]

/-- R404: no window of the link is left. -/
theorem State.entriesCleared_window {w : Nat} (hw : w ∈ s.linkWindows p l) : (s.entriesCleared p l).reg (portPg p + (0x200 + 16 * w)) = 0 := by
  have hlt := State.linkWindows_lt hw
  have hpg := portPg_mod8 p
  unfold State.entriesCleared
  rw [State.reg_clearRegs_out]
  · refine State.reg_clearRegs _ (fun b hb => ?_) (by omega) s (.inl ?_)
    · obtain ⟨v, -, hv⟩ := List.mem_flatMap.mp hb
      simp only [List.mem_cons, List.not_mem_nil, or_false] at hv
      omega
    · exact List.mem_flatMap.mpr ⟨w, hw, by simp [Nat.add_assoc]⟩
  · intro b hb
    obtain ⟨n, hn, rfl⟩ := List.mem_map.mp hb
    have hn' := List.mem_range.mp hn
    unfold State.fnReg
    rw [Nat.add_assoc]
    exact block_apart (by omega) (by decide) (.inr (by omega)) (by omega) (by omega)

/-- R404: no function entry of the link is left. -/
theorem State.entriesCleared_function (s : State) (p l : Nat) {n : Nat} (hn : n < 256) : (s.entriesCleared p l).reg (State.fnReg p l n) = 0 := by
  have hpg : linkPg p l % 8 = 0 := pageBase_mod8 ..
  unfold State.entriesCleared
  refine State.reg_clearRegs _ (fun b hb => ?_) ?_ _ (.inl (List.mem_map.mpr ⟨n, List.mem_range.mpr hn, rfl⟩))
  · obtain ⟨k, -, rfl⟩ := List.mem_map.mp hb
    unfold State.fnReg
    omega
  · unfold State.fnReg
    omega

/-- The link DOWN, once its entries are cleared. -/
def State.linkDown (s : State) (p l : Nat) (again : Bool) : State :=
  ((s.setLink p l { partner := if (s.link p l).dpc || again then (s.link p l).partner else none, dpc := (s.link p l).dpc }).setReg (linkPg p l + 0x100)
    (if again then 2 ^ 54 else 0)).setFld (linkPg p l) R.FP_LNK_CTL_DEPART 0

theorem State.linkDown_spec (s : State) (p l : Nat) (again : Bool) : (∀ q, (s.linkDown p l again).port q = s.port q) ∧ (s.linkDown p l again).lnkState p l = LNK_DOWN ∧
    ∀ a, (linkPg p l + 0x100) / 8 ≠ a / 8 → (linkPg p l + 0x108) / 8 ≠ a / 8 → (s.linkDown p l again).reg a = s.reg a := by
  have hpg : linkPg p l % 8 = 0 := pageBase_mod8 ..
  unfold State.linkDown
  generalize ({ partner := if (s.link p l).dpc || again then (s.link p l).partner else none, dpc := (s.link p l).dpc } : Link) = v
  refine ⟨fun q => by simp, ?_, fun a h100 h108 => ?_⟩
  · rw [State.lnkState, State.fld_setFld_other, State.fld]
    · have hreg := (s.setLink p l v).reg_setReg (linkPg p l + 0x100) (if again then 2 ^ 54 else 0)
      rw [show R.FP_LNK_STATUS_STATE.off = 0x100 from rfl, hreg]
      cases again <;> decide
    · simp only [R.FP_LNK_CTL_DEPART, R.FP_LNK_STATUS_STATE]
      omega
  · rw [State.reg_setFld_ne _ _ h108, State.reg_setReg_ne _ _ h100, State.reg_setLink]

theorem State.departEnd_eq (s : State) (p l : Nat) (d : Departure) :
    s.departEnd p l d = (((s.fabEvent p l EV_DEPARTED 0).entriesCleared p l).linkDown p l d.again).fmComplete 0x101 p l := by
  have hwindows : ∀ (u : State) (ws : List Nat), ws.foldl (fun s w => (s.setReg (portPg p + 0x200 + 16 * w) 0).setReg (portPg p + 0x208 + 16 * w) 0) u =
      u.clearRegs (ws.flatMap fun w => [portPg p + 0x200 + 16 * w, portPg p + 0x208 + 16 * w]) := fun u ws => by
    unfold State.clearRegs
    rw [List.foldl_flatMap]
    rfl
  have hfunctions : ∀ u : State, (List.range 256).foldl (fun s n => s.setReg (State.fnReg p l n) 0) u =
      u.clearRegs ((List.range 256).map (State.fnReg p l)) := fun u => by
    unfold State.clearRegs
    rw [List.foldl_map]
  unfold State.departEnd State.entriesCleared State.linkDown
  simp only [hwindows, hfunctions]

/-- The link is DOWN and has no entry. -/
def Cleared (s t : State) (p l : Nat) : Prop := t.lnkState p l = LNK_DOWN ∧ (∀ n, n < 256 → t.fnFld p l n R.FP_FN_VALID = 0) ∧
  ∀ w, w ∈ s.linkWindows p l → t.fld (portPg p) (R.FP_WIN_BASE_EN.nth w) = 0

/-- R404, R405: the link goes down. -/
theorem State.departEnd_cleared (hsec : s.linkSecure p l = false) (hroom : (s.port p).events.length < 32) (d : Departure) :
    Cleared s (s.departEnd p l d) p l ∧ Queues s (s.departEnd p l d) p l EV_DEPARTED := by
  have hqueued := s.fabEvent_queued p l (kind := EV_DEPARTED) (win := 0) hsec hroom (by decide) (by decide)
  have hwindows : (s.fabEvent p l EV_DEPARTED 0).linkWindows p l = s.linkWindows p l :=
    SameWindows.linkWindows (s := s) (fun _ _ _ _ => hqueued.reg _) l
  rw [State.departEnd_eq]
  have hqueues := hqueued.queues
  generalize s.fabEvent p l EV_DEPARTED 0 = u at hwindows hqueues ⊢
  have hport := u.entriesCleared_port p l p
  have hcleared := fun w (hw : w ∈ u.linkWindows p l) => State.entriesCleared_window hw
  have hfunctions := fun n (hn : n < 256) => u.entriesCleared_function p l hn
  generalize u.entriesCleared p l = v at hport hcleared hfunctions ⊢
  obtain ⟨hports, hstate, hreg⟩ := v.linkDown_spec p l d.again
  generalize v.linkDown p l d.again = x at hports hstate hreg ⊢
  have hdone := x.fmComplete_only 0x101 p l
  generalize x.fmComplete 0x101 p l = t at hdone ⊢
  refine ⟨⟨?_, fun n hn => ?_, fun w hw => ?_⟩, queues_congr hqueues rfl ((hdone.port p).trans ((hports p).trans hport))⟩
  · rw [State.lnkState, State.fld, linkPg, hdone.reg _ (offMailboxes_port (by omega) (by decide))]
    exact hstate
  · rw [State.fnFld_eq _ _ _ _ rfl rfl, State.fnReg, linkPg, Nat.add_assoc, hdone.reg _ (offMailboxes_port (by omega) (by omega)), ← Nat.add_assoc, ← linkPg,
      ← State.fnReg, hreg _ (fnReg_apart p l hn (by decide)) (fnReg_apart p l hn (by decide)), hfunctions n hn]
    rfl
  · have hlt := State.linkWindows_lt hw
    have hoff : (R.FP_WIN_BASE_EN.nth w).off = 0x200 + 16 * w := rfl
    rw [State.fld, hoff, portPg, hdone.reg _ (offMailboxes_port (by decide) (by omega)), hreg _ (block_apart (by omega) (by decide) (.inr (by omega)) (by decide) (by omega))
      (block_apart (by omega) (by decide) (.inr (by omega)) (by decide) (by omega)), ← portPg, hcleared w (hwindows ▸ hw)]
    rfl

/-- R404: the flushes and the link's requests have completed. -/
theorem gives_departed (hd : (s.link p l).depart = some d) (hphase : d.phase = 2) (htodo : d.todo = []) (hbusy : s.wardMaintBusy = false)
    (hout : (s.link p l).outstanding = []) (hin : (s.link p l).inbound = []) (hwaits : (s.link p l).waits = []) (hsec : s.linkSecure p l = false)
    (hroom : (s.port p).events.length < 32) : Gives (.plannedDeparture p l) s fun t => Cleared s t p l ∧ Queues s t p l EV_DEPARTED := by
  have heq : s.departGo p l = s.departEnd p l d := by
    unfold State.departGo
    simp [hd, hphase, htodo, hbusy, hout, hin, hwaits]
  refine gives_next (exec_plannedDeparture p l s) ?_
  rw [heq]
  exact State.departEnd_cleared hsec hroom d

/-- R405: INV has completed over every window. -/
theorem gives_surpriseInvDone (hd : (s.link p l).depart = some d) (hphase : d.phase = 3) (htodo : d.todo = []) (hbusy : s.wardMaintBusy = false)
    (hsec : s.linkSecure p l = false) (hroom : (s.port p).events.length < 32) :
    Gives (.surpriseInvDone p l) s fun t => Cleared s t p l ∧ Queues s t p l EV_DEPARTED := by
  have heq : s.surpriseDone p l = s.departEnd p l d := by
    unfold State.surpriseDone
    simp [hd, hphase, htodo, hbusy]
  refine gives_next (exec_surpriseInvDone p l s) ?_
  rw [heq]
  exact State.departEnd_cleared hsec hroom d

end

end Sys2Proof.Machine

/-! R405, R406, R408, R409: surprise departures, DPC, integrity failures and AER errors. -/

namespace Sys2Proof.Machine
open Safety

theorem exec_surpriseDeparture (p : PortId) (l : LinkId) (dpc : Bool) (s : State) :
    exec (.surpriseDeparture p l dpc) s = .next (s.surprise p.val l.val (if dpc then 0x8030 else 0x8020) false) := rfl
theorem exec_ideIntegrityCheckFailed (p : PortId) (l : LinkId) (s : State) : exec (.ideIntegrityCheckFailed p l) s =
    .next (if s.lnkState p.val l.val = LNK_UP ∨ s.lnkState p.val l.val = LNK_HOLD then
      (s.fabRecord p.val l.val 2 0x8050 0 (s.firstRid p.val l.val) 0).surprise p.val l.val 0x8020 false else s) := rfl
theorem exec_dpcClear (q : PageReq) (s : State) : exec (.dpcClear q) s = .next (s.dpcClear q) := rfl
theorem exec_perstRelease (p : PortId) (l : LinkId) (s : State) :
    exec (.perstRelease p l) s = .next (s.setLink p.val l.val { s.link p.val l.val with perst := true }) := rfl
theorem exec_aerError (p : PortId) (l : LinkId) (unc : Bool) (rid : BitVec 16) (status : BitVec 32) (s : State) :
    exec (.aerError p l unc rid status) s = .next (s.aer p.val l.val unc rid.toNat status.toNat) := rfl

-- the requests of a departed link (R405)

/-- The reply to a request of a link whose partner has gone. -/
def goneReply (o : Outbound) : Flit := fabReply o.f 0 (fabReads o.f)

/-- From `s` to `t` requests of a departed link have been answered, with notes of the port and nothing else. -/
structure Answers (p : Nat) (os : List Outbound) (s t : State) : Prop where
  rest : { t with regs := s.regs, wires := s.wires, reports := s.reports, reported := s.reported, out := s.out } = s
  reg : ∀ a, OffNotes (portPg p) a → t.reg a = s.reg a
  flits : t.out.map (fun x => x.flit) = s.out.map (fun x => x.flit) ++ os.map goneReply

namespace Answers

variable {p : Nat} {os : List Outbound} {s t : State}

theorem ports (h : Answers p os s t) : t.ports = s.ports := (congrArg State.ports h.rest :)

theorem port (h : Answers p os s t) (q : Nat) : t.port q = s.port q := by
  unfold State.port
  rw [h.ports]

/-- A reply handed out after notes of the port. -/
theorem ofSent {u : State} {o : Outbound} {f : Flit} (hnotes : NotesOnly (portPg p) s u) (hf : f = goneReply o) (m : Nat) :
    Answers p [o] s (u.sendAt m f) := by
  have hout := hnotes.out
  have hrest : ({ u with regs := s.regs, wires := s.wires, reports := s.reports, reported := s.reported, out := s.out } : State) = s := by
    rw [← hout]
    exact hnotes.rest
  refine ⟨hrest, hnotes.reg, ?_⟩
  rw [State.out_sendAt, hout, hf, List.map_append]
  rfl

theorem one (s : State) (p l : Nat) (o : Outbound) : Answers p [o] s (s.departAnswer p l o) := by
  unfold State.departAnswer State.fabAnswer
  exact ofSent (s.fabRecord_notes ..) rfl _

theorem cons {o : Outbound} {u : State} (h : Answers p [o] s t) (h' : Answers p os t u) : Answers p (o :: os) s u := by
  refine ⟨?_, fun a ha => (h'.reg a ha).trans (h.reg a ha), ?_⟩
  · calc ({ u with regs := s.regs, wires := s.wires, reports := s.reports, reported := s.reported, out := s.out } : State)
        = { ({ u with regs := t.regs, wires := t.wires, reports := t.reports, reported := t.reported, out := t.out } : State) with
            regs := s.regs, wires := s.wires, reports := s.reports, reported := s.reported, out := s.out } := rfl
      _ = s := by rw [h'.rest, h.rest]
  · rw [h'.flits, h.flits, List.append_assoc]
    rfl

theorem all (p l : Nat) (os : List Outbound) (s : State) : Answers p os s (os.foldl (fun s o => s.departAnswer p l o) s) := by
  induction os generalizing s with
  | nil => exact ⟨rfl, fun _ _ => rfl, by simp⟩
  | cons o os ih =>
    rw [List.foldl_cons]
    exact (one s p l o).cons (ih _)

end Answers

-- GONE (R405)

/-- The link in GONE with its windows. -/
def State.goneLink (s : State) (p l : Nat) : State := (s.setLnkState p l LNK_GONE).markWindows p l R.FP_WIN_BASE_GONE

theorem State.markWindows_eq (s : State) (p l : Nat) (f : Field) : s.markWindows p l f = s.flagWindows p f (s.linkWindows p l) := rfl

theorem State.goneLink_spec (s : State) (p : Nat) {l : Nat} (hl : l < 4) : { s.goneLink p l with regs := s.regs } = s ∧
    (s.goneLink p l).lnkState p l = LNK_GONE ∧ (∀ w, w ∈ s.linkWindows p l → (s.goneLink p l).fld (portPg p) (R.FP_WIN_BASE_GONE.nth w) = 1) ∧
    SameBeyondPorts s (s.goneLink p l) := by
  have h1 : SameWindows p s (s.setLnkState p l LNK_GONE) := sameWindows_setFld s p _ (by omega) (by omega) (by decide)
  have hstate : (s.setLnkState p l LNK_GONE).lnkState p l = LNK_GONE := (State.fld_setFld _ _ _ _ (by decide) (by decide)).trans rfl
  have honly : RegOnly (linkPg p l + 0x100) s (s.setLnkState p l LNK_GONE) := (RegOnly.refl _ s).setFld _ rfl
  have hbeyond : SameBeyondPorts s (s.setLnkState p l LNK_GONE) :=
    SameBeyondPorts.ofRegOnly (n := fpStop p) (b := 0x11 + l) (off := 0x100) honly (by omega) (by decide)
  have hframe := honly.rest
  unfold State.goneLink
  rw [State.markWindows_eq, h1.linkWindows]
  generalize s.setLnkState p l LNK_GONE = u at h1 hstate hframe hbeyond ⊢
  have hmarked := u.flagWindows_frame p R.FP_WIN_BASE_GONE (s.linkWindows p l)
  have hset : ∀ w, w ∈ s.linkWindows p l → (u.flagWindows p R.FP_WIN_BASE_GONE (s.linkWindows p l)).fld (portPg p) (R.FP_WIN_BASE_GONE.nth w) = 1 :=
    fun w hw => State.fld_flagWindows baseField_gone rfl _ u (.inl hw)
  have hout : ∀ {n b off : Nat}, b < 256 → b ≠ 0x10 → off < 0x1000 →
      (u.flagWindows p R.FP_WIN_BASE_GONE (s.linkWindows p l)).reg (pageBase n b + off) = u.reg (pageBase n b + off) := fun hb hne hoff =>
    State.reg_flagWindows_out baseField_gone (s.linkWindows p l) (fun w hw => by
      have := State.linkWindows_lt hw
      exact block_apart (by decide) hb (.inr (Ne.symm hne)) (by omega) hoff) u
  generalize u.flagWindows p R.FP_WIN_BASE_GONE (s.linkWindows p l) = v at hmarked hset hout ⊢
  refine ⟨?_, ?_, hset, hbeyond.trans fun _ _ _ hlo hhi hoff => hout hhi (by omega) hoff⟩
  · calc ({ v with regs := s.regs } : State) = { ({ v with regs := u.regs } : State) with regs := s.regs } := rfl
      _ = s := by rw [hmarked, hframe]
  · rw [State.lnkState, State.fld, linkPg, hout (by omega) (by omega) (by decide)]
    exact hstate

end Sys2Proof.Machine

/-! R405, R406, R409: a surprise departure: the link is GONE, its requests are answered, and its port tells of it. -/

namespace Sys2Proof.Machine
open Safety

theorem framed_ports {s u : State} (h : { u with regs := s.regs } = s) : u.ports = s.ports := (congrArg State.ports h :)
theorem framed_out {s u : State} (h : { u with regs := s.regs } = s) : u.out = s.out := (congrArg State.out h :)

section
variable {s t u : State} {p : PortId} {l : LinkId} {code : Nat}

/-- From `s` to `t` a link went: it is GONE with its windows, and its outstanding requests have been answered. -/
structure Goes (s t : State) (p : PortId) (l : LinkId) : Prop where
  state : t.lnkState p l = LNK_GONE
  windows : ∀ w, w ∈ s.linkWindows p l → t.fld (portPg p) (R.FP_WIN_BASE_GONE.nth w) = 1
  flits : t.out.map (fun x => x.flit) = s.out.map (fun x => x.flit) ++ (s.link p l).outstanding.map goneReply

/-- What follows in other pages, without a message, leaves the link gone. -/
theorem Goes.congr (h : Goes s t p l) (hreg : ∀ n b off, b < 256 → b ≠ 8 → off < 0x1000 → u.reg (pageBase n b + off) = t.reg (pageBase n b + off))
    (hout : u.out = t.out) : Goes s u p l := by
  have hl := l.isLt
  obtain ⟨hstate, hwindows, hflits⟩ := h
  refine ⟨?_, fun w hw => ?_, by rw [hout, hflits]⟩
  · rw [State.lnkState, State.fld, linkPg, hreg _ _ _ (by omega) (by omega) (by decide)]
    exact hstate
  · have hlt := State.linkWindows_lt hw
    rw [State.fld, portPg, hreg _ _ _ (by decide) (by decide) (by simp only [Field.nth, R.FP_WIN_BASE_GONE]; omega)]
    exact hwindows w hw

/-- The link gone and the departure recorded: the surprise before its events. -/
def State.goneRecorded (s : State) (p l code : Nat) : State :=
  ((s.link p l).outstanding.foldl (fun s o => s.departAnswer p l o) (s.goneLink p l)).fabRecord p l 2 code 0 (s.firstRid p l) 0

theorem State.goneRecorded_spec (hcode : code < 2 ^ 16) : Goes s (s.goneRecorded p l code) p l ∧ PortLogs (s.goneRecorded p l code) p code ∧
    (s.goneRecorded p l code).port p = s.port p ∧ (s.goneRecorded p l code).linkSecure p l = s.linkSecure p l := by
  obtain ⟨hframe, hstate, hwindows, hbeyond⟩ := s.goneLink_spec p l.isLt
  unfold State.goneRecorded
  generalize s.goneLink p l = u at hframe hstate hwindows hbeyond ⊢
  have hanswers := Answers.all p l (s.link p l).outstanding u
  have hsec := hbeyond.linkSecure p l
  have hports : u.ports = s.ports := framed_ports hframe
  have hout : u.out = s.out := framed_out hframe
  generalize (s.link p l).outstanding.foldl (fun s o => s.departAnswer p l o) u = v at hanswers ⊢
  have hnotes := v.fabRecord_notes p l 2 code 0 (s.firstRid p l) 0
  have hlogs : PortLogs (v.fabRecord p l 2 code 0 (s.firstRid p l) 0) p code := State.fabRecord_logs v p (by decide) hcode
  generalize v.fabRecord p l 2 code 0 (s.firstRid p l) 0 = t at hnotes hlogs ⊢
  have hreg : ∀ a, OffNotes (portPg p) a → t.reg a = u.reg a := fun a ha => (hnotes.reg a ha).trans (hanswers.reg a ha)
  refine ⟨⟨?_, fun w hw => ?_, ?_⟩, hlogs, ?_, ?_⟩
  · rw [State.lnkState, State.fld, hreg _ (offNotes_link l.isLt (by decide))]
    exact hstate
  · have hlt := State.linkWindows_lt hw
    rw [State.fld, hreg _ (offNotes_port (by simp only [Field.nth, R.FP_WIN_BASE_GONE]; omega) (by simp only [Field.nth, R.FP_WIN_BASE_GONE]; omega))]
    exact hwindows w hw
  · rw [hnotes.out, hanswers.flits, hout]
  · rw [hnotes.port, hanswers.port, State.port, hports, ← State.port]
  · have hbolt : t.reg (boltPg 0 + (0x140 + 8 * p)) = u.reg (boltPg 0 + (0x140 + 8 * p)) := hreg _ (offNotes_bolt (by decide) (by omega))
    exact (State.linkSecure_congr hbolt).trans hsec

/-- The events of a departure: SURPRISE, and with DPC its own event and the port's source 2. -/
def State.goneTold (s : State) (p l : Nat) (dpc : Bool) : State :=
  if dpc then ((s.fabEvent p l EV_SURPRISE 0).fabEvent p l EV_DPC 0).fabSource p 2 else s.fabEvent p l EV_SURPRISE 0

theorem State.goneTold_spec (hsec : s.linkSecure p l = false) (hroom : (s.port p).events.length < 31) (dpc : Bool) :
    (∀ a, (s.goneTold p l dpc).reg a = s.reg a) ∧ (s.goneTold p l dpc).out = s.out ∧ (dpc = false → Queues s (s.goneTold p l dpc) p l EV_SURPRISE) ∧
    (dpc = true → ∃ u, (u, 1664 + 8 * p.val + 2) ∈ (s.goneTold p l dpc).wires) := by
  have h1 := s.fabEvent_queued p l (kind := EV_SURPRISE) (win := 0) hsec (by omega) (by decide) (by decide)
  cases dpc with
  | false => exact ⟨h1.reg, h1.out, fun _ => h1.queues, by simp⟩
  | true =>
    obtain ⟨e, hevents, -⟩ := h1.queues
    unfold State.goneTold
    rw [if_pos rfl]
    have hsec1 : (s.fabEvent p l EV_SURPRISE 0).linkSecure p l = false := (State.linkSecure_congr (h1.reg _)).trans hsec
    generalize s.fabEvent p l EV_SURPRISE 0 = u at h1 hevents hsec1 ⊢
    have h2 := u.fabEvent_queued p l (kind := EV_DPC) (win := 0) hsec1 (by rw [hevents, List.length_append]; simp; omega) (by decide) (by decide)
    generalize u.fabEvent p l EV_DPC 0 = v at h2 ⊢
    have hpulse := NotesOnly.ofPulse 0 v (1664 + 8 * p + 2)
    refine ⟨fun a => ?_, ?_, by simp, fun _ => State.pulse_raises _ _⟩
    · rw [State.fabSource, State.reg_pulse, h2.reg, h1.reg]
    · rw [State.fabSource, hpulse.out, h2.out, h1.out]

/-- A link whose partner has gone: what is left of it, and its departure. -/
def State.leftLink (s : State) (p l : Nat) (dpc again : Bool) : Link where
  partner := (s.link p l).partner
  bars := (s.link p l).bars
  ctx := (s.link p l).ctx
  dpc := dpc
  perst := (s.link p l).perst
  depart := some { phase := 3, since := s.tb, todo := s.linkWindows p l, again := again }

theorem State.leftLink_spec (s : State) (p l : Nat) (dpc again : Bool) : (s.leftLink p l dpc again).outstanding = [] ∧
    (s.leftLink p l dpc again).dpc = dpc ∧ ∃ d, (s.leftLink p l dpc again).depart = some d ∧ d.phase = 3 := ⟨rfl, rfl, _, rfl, rfl⟩

theorem State.surprise_eq (hup : s.lnkState p l = LNK_UP ∨ s.lnkState p l = LNK_HOLD) (code : Nat) (again : Bool) :
    s.surprise p l code again =
      let s5 := (s.goneRecorded p l code).goneTold p l (code == 0x8030)
      (s5.setLink p l (s5.leftLink p l (code == 0x8030) again)).departNext p l := by
  unfold State.surprise
  rw [if_neg (by omega)]
  unfold State.goneRecorded State.goneTold State.leftLink State.goneLink
  dsimp only

/-- R405: the link of a partner that has gone. -/
def Gone (s t : State) (p : PortId) (l : LinkId) : Prop :=
  t.lnkState p l = LNK_GONE ∧ (∀ w, w ∈ s.linkWindows p l → t.fld (portPg p) (R.FP_WIN_BASE_GONE.nth w) = 1) ∧ (t.link p l).outstanding = [] ∧
  (∃ e, (t.link p l).depart = some e ∧ e.phase = 3) ∧
  t.out.map (fun x => x.flit) = s.out.map (fun x => x.flit) ++ (s.link p l).outstanding.map (fun o => fabReply o.f 0 (fabReads o.f))

/-- R405, R406: what a surprise does. -/
theorem State.surprise_spec (hup : s.lnkState p l = LNK_UP ∨ s.lnkState p l = LNK_HOLD) (hsec : s.linkSecure p l = false)
    (hroom : (s.port p).events.length < 31) (hcode : code < 2 ^ 16) (again : Bool) :
    Gone s (s.surprise p l code again) p l ∧ PortLogs (s.surprise p l code again) p code ∧ ((s.surprise p l code again).link p l).dpc = (code == 0x8030) ∧
    ((code == 0x8030) = false → Queues s (s.surprise p l code again) p l EV_SURPRISE) ∧
    ((code == 0x8030) = true → ∃ u, (u, 1664 + 8 * p.val + 2) ∈ (s.surprise p l code again).wires) := by
  obtain ⟨hgoes, hlogs, hport, hsec'⟩ := State.goneRecorded_spec (s := s) (p := p) (l := l) hcode
  rw [State.surprise_eq hup]
  generalize s.goneRecorded p l code = u at hgoes hlogs hport hsec' ⊢
  obtain ⟨hreg, hout, hqueues, hraised⟩ := State.goneTold_spec (s := u) (p := p) (l := l) (hsec'.trans hsec) (by rwa [hport]) (code == 0x8030)
  generalize u.goneTold p l (code == 0x8030) = x at hreg hout hqueues hraised ⊢
  dsimp only
  have hv := x.leftLink_spec p l (code == 0x8030) again
  generalize x.leftLink p l (code == 0x8030) again = v at hv ⊢
  obtain ⟨hvout, hvdpc, d, hvdepart, hphase⟩ := hv
  have hgoes' := (x.setLink p l v).departNext_goes p l
  have hlink := (State.link_setLink x p l v)
  generalize (x.setLink p l v).departNext p l = t at hgoes' ⊢
  have hregs : ∀ n b off, b < 256 → b ≠ 8 → off < 0x1000 → t.reg (pageBase n b + off) = u.reg (pageBase n b + off) := fun n b off hb hne hoff => by
    rw [hgoes'.reg n b off hb hne hoff, State.reg_setLink, hreg]
  have houts : t.out = u.out := by
    rw [hgoes'.out, State.out_setLink, hout]
  have hports : t.port p = x.port p := by
    rw [State.port, hgoes'.ports, ← State.port, State.port_setLink]
  obtain ⟨todo, htodo⟩ := hgoes'.link
  rw [hlink] at htodo
  obtain ⟨hstate, hwindows, hflits⟩ := hgoes.congr hregs houts
  obtain ⟨e, he, hephase⟩ := hgoes'.depart (hlink ▸ hvdepart)
  refine ⟨⟨hstate, hwindows, by rw [htodo, hvout], ⟨e, he, hephase.trans hphase⟩, hflits⟩, ?_, by rw [htodo, hvdpc], fun h => ?_, fun h => ?_⟩
  · exact portLogs_congr hlogs (hregs _ _ _ (by decide) (by decide) (by decide))
  · exact queues_congr (hqueues h) (by rw [hport]) hports
  · simpa [hgoes'.wires] using hraised h

end

end Sys2Proof.Machine

/-! R405, R406, R408, R409: the clauses of surprise departures, DPC, integrity failures, PERST and AER errors. -/

namespace Sys2Proof.Machine
open Safety

section
variable {s : State} {p : PortId} {l : LinkId}

-- surprise departures and integrity failures (R405, R409)

/-- R405: the partner disappears. -/
theorem gives_surpriseDeparture (hup : s.lnkState p l = LNK_UP ∨ s.lnkState p l = LNK_HOLD) (hsec : s.linkSecure p l = false)
    (hroom : (s.port p).events.length < 31) :
    Gives (.surpriseDeparture p l false) s fun t => Gone s t p l ∧ Queues s t p l EV_SURPRISE ∧ PortLogs t p 0x8020 := by
  obtain ⟨hgone, hlogs, -, hqueues, -⟩ := State.surprise_spec (code := 0x8020) hup hsec hroom (by decide) false
  exact gives_next (exec_surpriseDeparture p l false s) ⟨hgone, hqueues rfl, hlogs⟩

/-- R406: DPC. -/
theorem gives_surpriseDeparture_dpc (hup : s.lnkState p l = LNK_UP ∨ s.lnkState p l = LNK_HOLD) (hsec : s.linkSecure p l = false)
    (hroom : (s.port p).events.length < 31) : Gives (.surpriseDeparture p l true) s fun t =>
      Gone s t p l ∧ (t.link p l).dpc = true ∧ PortLogs t p 0x8030 ∧ ∃ u, (u, 1664 + 8 * p.val + 2) ∈ t.wires := by
  obtain ⟨hgone, hlogs, hdpc, -, hraised⟩ := State.surprise_spec (code := 0x8030) hup hsec hroom (by decide) false
  exact gives_next (exec_surpriseDeparture p l true s) ⟨hgone, hdpc, hlogs, hraised rfl⟩

theorem sameWindows_notes {p : Nat} {s t : State} (h : NotesOnly (portPg p) s t) : SameWindows p s t := fun _ _ _ _ =>
  h.reg _ (offNotes_port (by omega) (by omega))

theorem Gone.ofNotes {s u t : State} {p : PortId} {l : LinkId} (hnotes : NotesOnly (portPg p) s u) (h : Gone u t p l) : Gone s t p l := by
  unfold Gone at h ⊢
  rwa [(sameWindows_notes hnotes).linkWindows, hnotes.out, hnotes.link] at h

/-- R409: an IDE integrity failure. -/
theorem gives_ideIntegrityCheckFailed (hup : s.lnkState p l = LNK_UP ∨ s.lnkState p l = LNK_HOLD) (hsec : s.linkSecure p l = false)
    (hroom : (s.port p).events.length < 31) : Gives (.ideIntegrityCheckFailed p l) s fun t => Gone s t p l := by
  refine gives_next (exec_ideIntegrityCheckFailed p l s) ?_
  rw [if_pos hup]
  have hnotes := s.fabRecord_notes p l 2 0x8050 0 (s.firstRid p l) 0
  generalize s.fabRecord p l 2 0x8050 0 (s.firstRid p l) 0 = u at hnotes ⊢
  obtain ⟨hgone, -⟩ := State.surprise_spec (s := u) (p := p) (l := l) (code := 0x8020) (by rwa [hnotes.lnkState l.isLt])
    ((State.linkSecure_congr (hnotes.reg _ (offNotes_bolt (by decide) (by omega)))).trans hsec) (by rwa [hnotes.port]) (by decide) false
  exact hgone.ofNotes hnotes

-- PERST and DPC (R406)

/-- R402: the root port releases PERST. -/
theorem gives_perstRelease (s : State) (p : PortId) (l : LinkId) : Gives (.perstRelease p l) s fun t => (t.link p l).perst = true := by
  refine gives_next (exec_perstRelease p l s) ?_
  rw [State.link_setLink]

theorem find_rootRid (p : Nat) (l : LinkId) : (List.range 4).find? (fun k => rootRid p k == rootRid p l) = some l.val := by
  rw [List.find?_range_eq_some]
  refine ⟨by simp, List.mem_range.mpr l.isLt, fun j hj => ?_⟩
  unfold rootRid
  simp
  omega

/-- R406: the Ward clears a DPC trigger. -/
theorem gives_dpcClear {q : PageReq} (hregion : region q.addr.toNat = .ecam) (hdest : (ioDest q.addr.toNat).1 = fpStop p)
    (hrid : bits q.addr.toNat 27 12 = rootRid p l) (hwrites : q.kind.writes = true) (hward : q.who.path = .ward) (hdpc : (s.link p l).dpc = true)
    (hnone : (s.link p l).depart = none) : Gives (.dpcClear q) s fun t =>
      (t.link p l).dpc = false ∧ t.flag (linkPg p l) R.FP_LNK_STATUS_PRESENT = true := by
  have heq : s.dpcClear q = ((s.respond ⟨q.who, q.tag, q.addr, true, 0, false, s.now⟩).setLink p l { s.link p l with dpc := false }).setFld
      (linkPg p l) R.FP_LNK_STATUS_PRESENT 1 := by
    unfold State.dpcClear
    simp only [hdest, stopFp_fpStop, hregion, hrid, find_rootRid, hwrites, hward, hdpc, hnone]
    rfl
  refine gives_next (exec_dpcClear q s) ?_
  rw [heq]
  generalize s.respond ⟨q.who, q.tag, q.addr, true, 0, false, s.now⟩ = u
  have hlink : (((u.setLink p l { s.link p l with dpc := false }).setFld (linkPg p l) R.FP_LNK_STATUS_PRESENT 1).link p l) = { s.link p l with dpc := false } := by
    simp
  refine ⟨by rw [hlink], ?_⟩
  rw [State.flag, State.fld_setFld _ _ _ _ (by decide) (by decide)]
  rfl

-- AER errors (R408, R409)

/-- A corrected event is the newest record of its page: a record of its own, or one more of the newest. -/
theorem State.bits_record_corrected (s : State) {pg code : Nat} {g : Page} (addr detail : Nat) (secure : Bool) (hat : pageAt pg = some g)
    (hcode : code < 2 ^ 16) : bits ((s.record pg 0 code addr detail secure).reg (pg + 0x40)) 31 16 = code := by
  unfold State.record
  split
  · rename_i hnone
    cases hat.symm.trans hnone
  · extract_lets sec s0 old same n r s1 s2
    have hnew : bits (s2.reg (pg + 0x40)) 31 16 = code := by
      rw [(State.reg_withReports s1 _ _ _).trans (State.reg_putRec _ _ _ _)]
      exact bits_recWord0 hcode (by decide)
    split
    · rename_i hsame
      have hold : bits old.w0.toNat 31 16 = code := by
        simp only [same, Bool.and_eq_true, beq_iff_eq] at hsame
        obtain ⟨⟨⟨⟨⟨-, hcode⟩, -⟩, -⟩, -⟩, -⟩ := hsame
        exact hcode
      rw [State.reg_putRec, w64, BitVec.toNat_ofNat, Nat.mod_eq_of_lt (putBits_lt _ _ _ _ _ (by decide) old.w0.isLt (by decide)),
        bits_putBits_apart (by decide) (by decide) (by decide), hold]
    · split
      · rw [State.reg_pulse, hnew]
      · rw [hnew]

/-- R408: a correctable error. -/
theorem gives_aerError_correctable (s : State) (p : PortId) (l : LinkId) (rid : BitVec 16) (st : BitVec 32) :
    Gives (.aerError p l false rid st) s fun t => PortLogs t p 0x8001 ∧ ∃ u, (u, 1664 + 8 * p.val + 1) ∈ t.wires := by
  have hlogs : PortLogs (s.fabRecord p l 0 0x8001 0 rid.toNat st.toNat) p 0x8001 := s.bits_record_corrected _ _ _ (pageAt_portPg p.isLt) (by decide)
  have hcounted := portLogs_counts hlogs (CountsOnly.count (portPg_mod8 p) 0x05 (2 ^ l.val) none)
  refine gives_next (exec_aerError p l false rid st s) ?_
  unfold State.aer State.fabSource
  rw [if_neg Bool.false_ne_true]
  generalize (s.fabRecord p l 0 0x8001 0 rid.toNat st.toNat).count (portPg p) 0x05 none (2 ^ l.val) = u at hcounted ⊢
  exact ⟨portLogs_congr hcounted (u.reg_pulse ..), u.pulse_raises _⟩

/-- R408: an uncorrectable error. -/
theorem gives_aerError_uncorrectable (s : State) (p : PortId) (l : LinkId) (rid : BitVec 16) (st : BitVec 32) :
    Gives (.aerError p l true rid st) s fun t => t.regs = s.regs ∧ ∃ u, (u, 1664 + 8 * p.val + 2) ∈ t.wires := by
  refine gives_next (exec_aerError p l true rid st s) ⟨?_, State.pulse_raises _ _⟩
  show (s.pulse (1664 + 8 * p.val + 2)).regs = s.regs
  unfold State.pulse
  split <;> rfl

end

end Sys2Proof.Machine

/-! R398, R404: dynamic capacity: ranges that are added and released. -/

namespace Sys2Proof.Machine
open Safety

theorem exec_dcdEvent (p : PortId) (l : LinkId) (add : Bool) (w : Fin 16) (r : HdmRange) (s : State) :
    exec (.dcdEvent p l add w r) s = .next (s.dcdEvent p.val l.val add w.val r) := rfl

/-- Window w of a port is enabled and leads to link l, which is UP. -/
structure Leads (s : State) (p : PortId) (l : LinkId) (w : Fin 16) : Prop where
  up : s.lnkState p l = LNK_UP
  enabled : s.fld (portPg p) (R.FP_WIN_BASE_EN.nth w) = 1
  link : s.fld (portPg p) (R.FP_WIN_BASE_LINK.nth w) = l

section
variable {s : State} {p : PortId} {l : LinkId} {w : Fin 16} {r : HdmRange}

theorem State.windowBase_lt (s : State) (p w : Nat) : s.fld (portPg p) (R.FP_WIN_BASE_BASE.nth w) < 2 ^ 24 := by
  unfold State.fld
  exact bits_lt _ 51 28

namespace Leads

/-- R398: a range is added at the end of a window. -/
theorem dcdEvent_add (h : Leads s p l w) (hunits : 1 ≤ r.units)
    (hfree : s.unitsTaken (s.fld (portPg p) (R.FP_WIN_LIMIT_LIMIT.nth w) + 1) (s.fld (portPg p) (R.FP_WIN_LIMIT_LIMIT.nth w) + r.units) = false)
    (hfits : s.fld (portPg p) (R.FP_WIN_LIMIT_LIMIT.nth w) + r.units < 0x800000) : ∃ u hdmdb, PurgesOnly s u ∧
      s.dcdEvent p l true w r = (u.putWindow p l w (s.fld (portPg p) (R.FP_WIN_BASE_BASE.nth w))
        (s.fld (portPg p) (R.FP_WIN_LIMIT_LIMIT.nth w) + r.units) hdmdb).fabEvent p l EV_DCD_ADD w := by
  obtain ⟨hup, hen, hlink⟩ := h
  refine ⟨_, s.fld (portPg p) (R.FP_WIN_BASE_HDMDB.nth w) == 1, s.invUnits_purges (s.fld (portPg p) (R.FP_WIN_LIMIT_LIMIT.nth w) + 1)
    (s.fld (portPg p) (R.FP_WIN_LIMIT_LIMIT.nth w) + r.units), ?_⟩
  unfold State.dcdEvent State.flag
  simp only [hup, hen, hlink, hfree]
  rw [if_neg (by simp; omega), if_pos trivial, if_pos (by simp), if_neg (by simp; omega)]

/-- R398: a device asks for the end of a window. -/
theorem dcdEvent_release (h : Leads s p l w) (hunits : 1 ≤ r.units) (hnone : (s.link p l).dcd = none)
    (hfits : s.fld (portPg p) (R.FP_WIN_BASE_BASE.nth w) + r.units ≤ s.fld (portPg p) (R.FP_WIN_LIMIT_LIMIT.nth w) + 1) :
    s.dcdEvent p l false w r = (s.setLink p l { s.link p l with
      dcd := some { win := w, keep := s.fld (portPg p) (R.FP_WIN_LIMIT_LIMIT.nth w) - r.units, since := s.tb } }).fabEvent p l EV_DCD_RELEASE w := by
  obtain ⟨hup, hen, hlink⟩ := h
  unfold State.dcdEvent State.flag
  simp only [hup, hen, hlink, hnone]
  rw [if_neg (by simp; omega), if_neg Bool.false_ne_true, if_neg (by simp; omega)]

/-- R398: the flush of a released range has completed. -/
theorem dcdEvent_flushed (h : Leads s p l w) (hunits : 1 ≤ r.units) {d : DcdRelease} (hd : (s.link p l).dcd = some d) (hwin : d.win = w)
    (hflushing : d.flushing = true) (hbusy : s.wardMaintBusy = false) : ∃ hdmdb, s.dcdEvent p l false w r =
      if d.keep < s.fld (portPg p) (R.FP_WIN_BASE_BASE.nth w) then
        ((s.setLink p l { s.link p l with dcd := none }).setReg (portPg p + 0x200 + 16 * w) 0).setReg (portPg p + 0x208 + 16 * w) 0
      else (s.setLink p l { s.link p l with dcd := none }).putWindow p l w (s.fld (portPg p) (R.FP_WIN_BASE_BASE.nth w)) d.keep hdmdb := by
  obtain ⟨hup, hen, hlink⟩ := h
  refine ⟨s.fld (portPg p) (R.FP_WIN_BASE_HDMDB.nth w) == 1, ?_⟩
  unfold State.dcdEvent State.flag
  simp only [hup, hen, hlink, hd, hwin, hflushing, hbusy]
  rw [if_neg (by simp; omega), if_neg Bool.false_ne_true, if_neg (by simp)]

theorem gives_add (h : Leads s p l w) (hunits : 1 ≤ r.units) (hsec : s.linkSecure p l = false) (hroom : (s.port p).events.length < 32)
    (hfree : s.unitsTaken (s.fld (portPg p) (R.FP_WIN_LIMIT_LIMIT.nth w) + 1) (s.fld (portPg p) (R.FP_WIN_LIMIT_LIMIT.nth w) + r.units) = false)
    (hfits : s.fld (portPg p) (R.FP_WIN_LIMIT_LIMIT.nth w) + r.units < 0x800000) : Gives (.dcdEvent p l true w r) s fun t =>
      t.fld (portPg p) (R.FP_WIN_BASE_EN.nth w) = 1 ∧
      t.fld (portPg p) (R.FP_WIN_BASE_BASE.nth w) = s.fld (portPg p) (R.FP_WIN_BASE_BASE.nth w) ∧
      t.fld (portPg p) (R.FP_WIN_LIMIT_LIMIT.nth w) = s.fld (portPg p) (R.FP_WIN_LIMIT_LIMIT.nth w) + r.units ∧ Queues s t p l EV_DCD_ADD := by
  obtain ⟨u, hdmdb, hpurges, heq⟩ := h.dcdEvent_add hunits hfree hfits
  have hbase := s.windowBase_lt p w
  generalize s.fld (portPg p) (R.FP_WIN_BASE_BASE.nth w) = a at heq hbase ⊢
  generalize s.fld (portPg p) (R.FP_WIN_LIMIT_LIMIT.nth w) + r.units = b at hfits heq ⊢
  obtain ⟨hen, -, hput, hlimit⟩ := u.putWindow_fields (p := p) (w := w) hdmdb l.isLt hbase (by omega : b < 2 ^ 24)
  have hports := framed_ports (u.putWindow_frame (p := p) (w := w) l a b hdmdb).1
  have hbeyond := (SameBeyondPorts.ofRegs hpurges.reg).trans (u.putWindow_beyond (p := p) l a b hdmdb w.isLt)
  refine gives_next (exec_dcdEvent p l true w r s) ?_
  rw [heq]
  generalize u.putWindow p l w a b hdmdb = v at hen hput hlimit hports hbeyond ⊢
  have hport : v.port p = s.port p := by
    rw [State.port, hports, hpurges.ports, ← State.port]
  have hqueued := v.fabEvent_queued p l (kind := EV_DCD_ADD) (win := w) (by rw [hbeyond.linkSecure, hsec]) (by rwa [hport]) (by decide) w.isLt
  generalize v.fabEvent p l EV_DCD_ADD w = t at hqueued ⊢
  refine ⟨?_, ?_, ?_, queues_congr hqueued.queues (by rw [hport]) rfl⟩
  · rwa [State.fld, hqueued.reg]
  · rwa [State.fld, hqueued.reg]
  · rwa [State.fld, hqueued.reg]

theorem gives_releaseAsked (h : Leads s p l w) (hunits : 1 ≤ r.units) (hsec : s.linkSecure p l = false) (hroom : (s.port p).events.length < 32)
    (hnone : (s.link p l).dcd = none)
    (hfits : s.fld (portPg p) (R.FP_WIN_BASE_BASE.nth w) + r.units ≤ s.fld (portPg p) (R.FP_WIN_LIMIT_LIMIT.nth w) + 1) :
    Gives (.dcdEvent p l false w r) s fun t => t.regs = s.regs ∧ Queues s t p l EV_DCD_RELEASE ∧
      ∃ d, (t.link p l).dcd = some d ∧ d.win = w ∧ d.flushing = false ∧ d.since = s.tb := by
  refine gives_next (exec_dcdEvent p l false w r s) ?_
  rw [h.dcdEvent_release hunits hnone hfits]
  generalize hd : ({ win := w, keep := s.fld (portPg p) (R.FP_WIN_LIMIT_LIMIT.nth w) - r.units, since := s.tb } : DcdRelease) = d
  have hqueued := (s.setLink p l { s.link p l with dcd := some d }).fabEvent_queued p l (kind := EV_DCD_RELEASE) (win := w) hsec
    (by rwa [State.port_setLink]) (by decide) w.isLt
  refine ⟨hqueued.regs, queues_congr hqueued.queues rfl rfl, d, ?_, by rw [← hd], by rw [← hd], by rw [← hd]⟩
  rw [hqueued.link, State.link_setLink]

theorem gives_flushed (h : Leads s p l w) (hunits : 1 ≤ r.units) {d : DcdRelease} (hd : (s.link p l).dcd = some d) (hwin : d.win = w)
    (hflushing : d.flushing = true) (hbusy : s.wardMaintBusy = false) : Gives (.dcdEvent p l false w r) s fun t => (t.link p l).dcd = none ∧
      (d.keep < s.fld (portPg p) (R.FP_WIN_BASE_BASE.nth w) → t.fld (portPg p) (R.FP_WIN_BASE_EN.nth w) = 0) ∧
      (s.fld (portPg p) (R.FP_WIN_BASE_BASE.nth w) ≤ d.keep → d.keep < 2 ^ 24 →
        t.fld (portPg p) (R.FP_WIN_LIMIT_LIMIT.nth w) = d.keep ∧ t.fld (portPg p) (R.FP_WIN_BASE_EN.nth w) = 1) := by
  obtain ⟨hdmdb, heq⟩ := h.dcdEvent_flushed hunits hd hwin hflushing hbusy
  have hpg := portPg_mod8 p
  have hbase := s.windowBase_lt p w
  refine gives_next (exec_dcdEvent p l false w r s) ?_
  rw [heq]
  have hlink := s.link_setLink p l { s.link p l with dcd := none }
  generalize s.setLink p l { s.link p l with dcd := none } = u at hlink ⊢
  split
  · refine ⟨?_, fun _ => ?_, fun hle => absurd hle (by omega)⟩
    · rw [State.link_setReg, State.link_setReg, hlink]
    · have hoff : (R.FP_WIN_BASE_EN.nth w).off = 0x200 + 16 * w := rfl
      rw [State.fld, hoff, ← Nat.add_assoc, State.reg_setReg_ne _ _ (by omega), State.reg_setReg]
      rfl
  · rename_i hkeep
    refine ⟨?_, fun hlt => absurd hlt hkeep, fun _ hlt => ?_⟩
    · unfold State.putWindow
      rw [State.link_setReg, State.link_setReg, hlink]
    · obtain ⟨hen, -, -, hlimit⟩ := u.putWindow_fields (p := p) (w := w) hdmdb l.isLt hbase hlt
      exact ⟨hlimit, hen⟩

end Leads

end

end Sys2Proof.Machine

/-! R407: the messages of the fabric manager. -/

namespace Sys2Proof.Machine
open Safety

section
variable {s : State} {b : Nat}

theorem exec_fmBind (p : PortId) (l : LinkId) (device : Nat) (seq : BitVec 16) (s : State) :
    exec (.fmBind p l device seq) s = .next (s.fmMessage 0x100 [p.val, l.val, device] seq.toNat) := rfl
theorem exec_fmUnbind (p : PortId) (l : LinkId) (seq : BitVec 16) (s : State) :
    exec (.fmUnbind p l seq) s = .next (s.fmMessage 0x101 [p.val, l.val] seq.toNat) := rfl
theorem exec_fmIdeKey (p : PortId) (l : LinkId) (stream slot : Nat) (wrapped : BitVec 640) (seq : BitVec 16) (s : State) :
    exec (.fmIdeKey p l stream slot wrapped seq) s = .next (s.fmMessage 0x102
      ([p.val, l.val, stream, slot] ++ (List.range 10).map (fun j => wrapped.toNat >>> (64 * j) % 2 ^ 64)) seq.toNat) := rfl
theorem exec_fmStatus (p : PortId) (opcode : BitVec 16) (seq : BitVec 16) (s : State) :
    exec (.fmStatus p opcode seq) s = .next (s.fmOpcode p.val opcode.toNat seq.toNat) := rfl

/-- The first of the fabric manager's mailboxes without a request outstanding. -/
structure FirstFree (s : State) (b : Nat) : Prop where
  low : 28 ≤ b
  high : b < 32
  free : s.fld (mbxPg b) R.WARD_MBX_STATUS_STATE = 0 ∨ s.fld (mbxPg b) R.WARD_MBX_STATUS_STATE = 3
  below : ∀ j, 28 ≤ j → j < b → s.fld (mbxPg j) R.WARD_MBX_STATUS_STATE = 1 ∨ s.fld (mbxPg j) R.WARD_MBX_STATUS_STATE = 2

theorem FirstFree.find (h : FirstFree s b) : (List.range 32).find? (fun b => decide (28 ≤ b) &&
    s.fld (mbxPg b) R.WARD_MBX_STATUS_STATE != 1 && s.fld (mbxPg b) R.WARD_MBX_STATUS_STATE != 2) = some b := by
  obtain ⟨hlow, hhigh, hfree, hbelow⟩ := h
  rw [List.find?_range_eq_some]
  refine ⟨?_, List.mem_range.mpr hhigh, fun j hj => ?_⟩
  · rcases hfree with h | h <;> simp [hlow, h]
  · by_cases h28 : 28 ≤ j
    · rcases hbelow j h28 hj with h | h <;> simp [h]
    · simp [h28]

/-- The words of a request of the fabric manager. -/
def fmWords (cmd : Nat) (args : List Nat) : List Nat := (cmd <<< 48 + args.length <<< 40) :: args

theorem State.putIn_cons (s : State) (b w : Nat) (args : List Nat) : s.putIn b (w :: args) =
    (args.zip (List.range args.length)).foldl (fun s x => s.setReg (mbxPg b + 0x208 + 8 * x.2) x.1) (s.setReg (mbxPg b + 0x200) w) := by
  unfold State.putIn
  rw [List.length_cons, List.range_succ_eq_map, List.zip_cons_cons, List.foldl_cons, List.zip_map_right, List.foldl_map]
  refine congrArg (fun f => List.foldl f _ _) (funext fun t => funext fun x => ?_)
  have hoff : mbxPg b + 0x200 + 8 * (x.2 + 1) = mbxPg b + 0x208 + 8 * x.2 := by omega
  exact congrArg (fun a => t.setReg a x.1) hoff

theorem FirstFree.message (h : FirstFree s b) (hen : s.flag (mbxPg b) R.WARD_MBX_ASSIGN_EN = true) (cmd : Nat) (args : List Nat) (seq : Nat) :
    s.fmMessage cmd args seq = (s.putIn b (fmWords cmd args)).mbxDoorbell b seq := by
  unfold State.fmMessage fmWords
  rw [h.find, State.putIn_cons]
  simp only [hen, Bool.not_true, Bool.false_eq_true, if_false]

theorem FirstFree.discards (h : FirstFree s b) (hen : s.flag (mbxPg b) R.WARD_MBX_ASSIGN_EN = false) (cmd : Nat) (args : List Nat) (seq : Nat) :
    s.fmMessage cmd args seq = s.record (portPg 0) 0 0x8070 0 0 false := by
  unfold State.fmMessage
  rw [h.find]
  simp only [hen, Bool.not_false, if_true]

/-- A request of the fabric manager stands PENDING in mailbox b with its command and its words. -/
def Asks (b : Nat) (seq : BitVec 16) (cmd : Nat) (args : List Nat) (t : State) : Prop :=
  t.fld (mbxPg b) R.WARD_MBX_STATUS_STATE = 1 ∧ t.fld (mbxPg b) R.WARD_MBX_STATUS_SEQ = seq.toNat ∧ t.mbxCmd b = cmd ∧
  ∀ i a, args[i]? = some a → t.mbxIn b (i + 1) = a

theorem FirstFree.asks (h : FirstFree s b) (hen : s.flag (mbxPg b) R.WARD_MBX_ASSIGN_EN = true) {cmd : Nat} {args : List Nat} (seq : BitVec 16)
    (hcmd : cmd < 2 ^ 16) (hlen : args.length < 2 ^ 8) (hargs : ∀ a ∈ args, a < 2 ^ 64) : Asks b seq cmd args (s.fmMessage cmd args seq.toNat) := by
  obtain ⟨-, hhigh, hfree, -⟩ := id h
  rw [h.message hen]
  obtain ⟨⟨hstate, hseq, hin⟩, -⟩ := State.requestPut (s := s) (b := ⟨b, hhigh⟩) (ws := fmWords cmd args) (by dsimp only; omega) (by dsimp only; omega)
    (u := s.putIn b (fmWords cmd args)) (fun _ => rfl) seq.toNat
  dsimp only at hstate hseq hin
  generalize (s.putIn b (fmWords cmd args)).mbxDoorbell b seq.toNat = t at hstate hseq hin ⊢
  refine ⟨hstate, by rw [hseq, Nat.mod_eq_of_lt seq.isLt], ?_, fun i a hi => ?_⟩
  · have hword := hin 0 _ rfl
    unfold State.mbxCmd State.mbxIn
    rw [hword]
    simp only [bits, Nat.shiftLeft_eq, Nat.shiftRight_eq_div_pow]
    omega
  · have hword := hin (i + 1) a hi
    unfold State.mbxIn
    rw [hword, Nat.mod_eq_of_lt (hargs a (List.mem_of_getElem? hi))]

end

section
variable {s : State} {b : Nat} {p : PortId} {l : LinkId} {seq : BitVec 16}

/-- A mailbox keeps its registers when a port takes a record. -/
theorem record_mbx {b q off : Nat} (s : State) (code : Nat) (hb : b < 32) (hoff : off < 0x1000) :
    (s.record (portPg q) 0 code 0 0 false).reg (mbxPg b + off) = s.reg (mbxPg b + off) := by
  have hnotes := NotesOnly.ofRecord (pg := portPg q) s 0 code 0 0 false (portPg_mod8 q)
  exact hnotes.reg _ (offNotes_block (by omega) (by omega) hoff)

/-- R407: a message for a mailbox that is not assigned is discarded. -/
theorem gives_fmUnbind_discarded (h : FirstFree s b) (hen : s.flag (mbxPg b) R.WARD_MBX_ASSIGN_EN = false) : Gives (.fmUnbind p l seq) s fun t =>
    bits (t.reg (portPg 0 + 0x40)) 31 16 = 0x8070 ∧ t.fld (mbxPg b) R.WARD_MBX_STATUS_STATE = s.fld (mbxPg b) R.WARD_MBX_STATUS_STATE := by
  refine gives_next (exec_fmUnbind p l seq s) ?_
  rw [h.discards hen]
  refine ⟨s.bits_record_corrected _ _ _ (pageAt_portPg (by decide)) (by decide), ?_⟩
  unfold State.fld
  rw [record_mbx s 0x8070 h.high (by decide)]

theorem gives_fmBind (h : FirstFree s b) (hen : s.flag (mbxPg b) R.WARD_MBX_ASSIGN_EN = true) {dev : Nat} (hdev : dev < 2 ^ 64) :
    Gives (.fmBind p l dev seq) s (Asks b seq 0x100 [p.val, l.val, dev]) := by
  have hp := p.isLt
  have hl := l.isLt
  refine gives_next (exec_fmBind p l dev seq s) (h.asks hen seq (by decide) (by simp) fun a ha => ?_)
  simp only [List.mem_cons, List.not_mem_nil, or_false] at ha
  omega

theorem gives_fmUnbind (h : FirstFree s b) (hen : s.flag (mbxPg b) R.WARD_MBX_ASSIGN_EN = true) :
    Gives (.fmUnbind p l seq) s (Asks b seq 0x101 [p.val, l.val]) := by
  have hp := p.isLt
  have hl := l.isLt
  refine gives_next (exec_fmUnbind p l seq s) (h.asks hen seq (by decide) (by simp) fun a ha => ?_)
  simp only [List.mem_cons, List.not_mem_nil, or_false] at ha
  omega

theorem gives_fmIdeKey (h : FirstFree s b) (hen : s.flag (mbxPg b) R.WARD_MBX_ASSIGN_EN = true) {stream slot : Nat} (wrapped : BitVec 640)
    (hstream : stream < 2 ^ 64) (hslot : slot < 2 ^ 64) : Gives (.fmIdeKey p l stream slot wrapped seq) s
      (Asks b seq 0x102 ([p.val, l.val, stream, slot] ++ (List.range 10).map (fun j => wrapped.toNat / 2 ^ (64 * j) % 2 ^ 64))) := by
  have hp := p.isLt
  have hl := l.isLt
  refine gives_next (exec_fmIdeKey p l stream slot wrapped seq s) ?_
  simp only [Nat.shiftRight_eq_div_pow]
  refine h.asks hen seq (by decide) (by simp) fun a ha => ?_
  rcases List.mem_append.mp ha with ha | ha
  · simp only [List.mem_cons, List.not_mem_nil, or_false] at ha
    omega
  · obtain ⟨j, -, rfl⟩ := List.mem_map.mp ha
    exact Nat.mod_lt _ (by decide)

theorem gives_fmStatus (h : FirstFree s b) (hen : s.flag (mbxPg b) R.WARD_MBX_ASSIGN_EN = true) :
    Gives (.fmStatus p 0xC103 seq) s (Asks b seq 0x103 [p.val]) := by
  have hp := p.isLt
  refine gives_next (exec_fmStatus p 0xC103 seq s) (h.asks hen seq (by decide) (by simp) fun a ha => ?_)
  simp only [List.mem_cons, List.not_mem_nil, or_false] at ha
  omega

/-- R407: a message with another opcode is discarded. -/
theorem gives_fmStatus_discarded (hb : b < 32) {op : BitVec 16} (h1 : op ≠ 0xC001) (h2 : op ≠ 0xC103) :
    Gives (.fmStatus p op seq) s fun t => PortLogs t p 0x8070 ∧ t.mbxCmd b = s.mbxCmd b := by
  have hne : ∀ {n : Nat} (hn : n < 2 ^ 16), op ≠ BitVec.ofNat 16 n → op.toNat ≠ n := fun hn hne heq =>
    hne (BitVec.eq_of_toNat_eq (by rw [heq, BitVec.toNat_ofNat, Nat.mod_eq_of_lt hn]))
  have heq : s.fmOpcode p op.toNat seq.toNat = s.record (portPg p) 0 0x8070 0 0 false := by
    unfold State.fmOpcode
    rw [if_neg (hne (by decide) h1), if_neg (hne (by decide) h2)]
  refine gives_next (exec_fmStatus p op seq s) ?_
  rw [heq]
  refine ⟨s.bits_record_corrected _ _ _ (pageAt_portPg p.isLt) (by decide), ?_⟩
  unfold State.mbxCmd State.mbxIn
  rw [Nat.add_assoc, record_mbx s 0x8070 hb (by decide)]

end

end Sys2Proof.Machine

/-! R88, R407: the Ward serves the fabric manager's requests. -/

namespace Sys2Proof.Machine
open Safety

section
variable {s : State} {b : Mbx} {p : PortId} {l : LinkId}

/-- What a running Ward takes a request in: its mailbox's STATUS and its own record of the request change, and nothing else. -/
structure Takes (s u : State) (b : Nat) : Prop where
  links : u.links = s.links
  ports : u.ports = s.ports
  now : u.now = s.now
  otp : u.ward.otp = s.ward.otp
  reg : ∀ a, (mbxPg b + 0x100) / 8 ≠ a / 8 → u.reg a = s.reg a
  busy : u.fld (mbxPg b) R.WARD_MBX_STATUS_STATE = 2

theorem State.otp_setMbxState (s : State) (b : Nat) (m : MbxState) : (s.setMbxState b m).ward.otp = s.ward.otp := rfl

theorem State.mbxTaken_takes (hrun : s.ward.running = true) (b : Nat) : Takes s (s.mbxTaken b) b := by
  have hbusy := State.fld_mbxTaken_state (s := s) (b := b)
  have heq : ∃ m, s.mbxTaken b = (s.setFld (mbxPg b) R.WARD_MBX_STATUS_STATE 2).setMbxState b m := by
    unfold State.mbxTaken
    rw [State.wardRestarts_running hrun]
    exact ⟨_, rfl⟩
  obtain ⟨m, heq⟩ := heq
  rw [heq] at hbusy ⊢
  refine ⟨?_, ?_, ?_, ?_, fun a ha => ?_, hbusy⟩
  · simp
  · simp
  · simp
  · rw [State.otp_setMbxState, State.ward_setFld]
  · rw [reg_setMbxState, State.reg_setFld_ne _ _ ha]

namespace Takes

variable {u : State} {b : Nat} (h : Takes s u b)
include h

theorem mbxIn (i : Nat) : u.mbxIn b i = s.mbxIn b i := by
  have hbase := mbxPg_eq b
  exact h.reg _ (by omega)

theorem mbxCmd : u.mbxCmd b = s.mbxCmd b := by
  unfold State.mbxCmd
  rw [h.mbxIn]

theorem inBytes (i n : Nat) : u.inBytes b i n = s.inBytes b i n := by
  unfold State.inBytes
  simp only [h.mbxIn]

theorem otpSlot (i : Nat) : u.otpSlot i = s.otpSlot i := by
  unfold State.otpSlot
  rw [h.otp]

theorem link (p l : Nat) : u.link p l = s.link p l := by
  unfold State.link
  rw [h.links]

theorem port (p : Nat) : u.port p = s.port p := by
  unfold State.port
  rw [h.ports]

theorem page {n c off : Nat} (hc : c < 256) (hb : b < 32) (hne : c ≠ 0x40 + b) (hoff : off < 0x1000) : u.reg (pageBase n c + off) = s.reg (pageBase n c + off) :=
  h.reg _ (block_apart (by omega) hc (.inr (Ne.symm hne)) (by decide) hoff)

theorem lnkState (hb : b < 32) (p : Nat) (l : LinkId) : u.lnkState p l = s.lnkState p l := by
  unfold State.lnkState State.fld linkPg
  rw [h.page (by omega) hb (by omega) (by decide)]

theorem linkSecure (hb : b < 32) (p : PortId) (l : Nat) : u.linkSecure p l = s.linkSecure p l :=
  State.linkSecure_congr (h.page (by decide) hb (by omega) (by omega))

theorem lnkWord (hb : b < 32) (p : PortId) {l : Nat} (hl : l < 4) : u.lnkWord p l = s.lnkWord p l := by
  unfold State.lnkWord linkPg
  rw [h.linkSecure hb, h.page (by omega) hb (by omega) (by decide)]

theorem command : u.reg (mbxPg b + 0x200) = s.reg (mbxPg b + 0x200) := h.reg _ (by omega)

end Takes

/-- A request of the fabric manager that the Ward takes, and then serves. -/
structure FmRequest (s : State) (b : Mbx) (cmd len : Nat) : Prop where
  high : 28 ≤ b.val
  running : s.ward.running = true
  pending : s.fld (mbxPg b.val) R.WARD_MBX_STATUS_STATE = 1
  command : s.mbxCmd b.val = cmd
  length : s.mbxLen b.val = len

namespace FmRequest

variable {cmd len : Nat} (h : FmRequest s b cmd len)
include h

/-- The Ward serves what it takes. -/
theorem gives {P : State → Prop} {f : Nat → Bool} (hc : mbxCommands.find? (fun c => c.1 == cmd) = some (cmd, f, some len)) (hf : f b.val = true)
    (hP : ∀ u, Takes s u b → P (u.fmServe b)) : Gives (.mbxAcknowledge b) s P := by
  refine gives_mbxAcknowledge h.pending ?_
  rw [State.mbxAck_known h.pending (by rw [h.command]; exact hc) hf (by rw [h.length])]
  exact hP _ (State.mbxTaken_takes h.running b)

end FmRequest

theorem Takes.fmServe {u : State} (h : Takes s u b) (hb : 28 ≤ b.val) : ¬ (b.val < 28 ∨ u.fld (mbxPg b.val) R.WARD_MBX_STATUS_STATE ≠ 2) := by
  rw [h.busy]
  omega

/-- R407: FM_BIND of a link that is DOWN. -/
theorem gives_bindServed (h : FmRequest s b 0x100 3) (hp : s.mbxIn b 1 = p.val) (hl : s.mbxIn b 2 = l.val)
    (hdown : s.lnkState p l = LNK_DOWN ∨ s.lnkState p l = LNK_NOFLIT) : Gives (.mbxAcknowledge b) s fun t =>
      t.flag (linkPg p l) R.FP_LNK_STATUS_PRESENT = true ∧ t.fld (mbxPg b) R.WARD_MBX_STATUS_STATE = 2 := by
  have hpl := p.isLt
  have hll := l.isLt
  have hbl := b.isLt
  refine h.gives rfl (decide_eq_true h.high) fun u hu => ?_
  have hserve : u.fmServe b = u.setFld (linkPg p l) R.FP_LNK_STATUS_PRESENT 1 := by
    have hstate := hu.lnkState hbl p l
    unfold State.fmServe
    simp only [hu.mbxIn, hu.mbxCmd, h.command, hp, hl, hstate]
    rw [if_neg (hu.fmServe h.high), if_neg (by omega), if_neg (by omega)]
  rw [hserve]
  refine ⟨?_, ?_⟩
  · rw [State.flag, State.fld_setFld _ _ _ _ (by decide) (by decide)]
    rfl
  · rw [State.fld_setFld_other, hu.busy]
    exact block_apart (by omega) (by omega) (.inr (by omega)) (by decide) (by decide)

/-- R407: FM_UNBIND of a link that is UP. -/
theorem gives_unbindServed (h : FmRequest s b 0x101 2) (hp : s.mbxIn b 1 = p.val) (hl : s.mbxIn b 2 = l.val) (hup : s.lnkState p l = LNK_UP)
    (hnone : (s.link p l).depart = none) (hsec : s.linkSecure p l = false) (hroom : (s.port p).events.length < 32) :
    Gives (.mbxAcknowledge b) s fun t => (t.link p l).depart = some { phase := 1, since := s.tb } ∧ Queues s t p l EV_DEPART_REQ ∧
      t.fld (mbxPg b) R.WARD_MBX_STATUS_STATE = 2 := by
  have hpl := p.isLt
  have hll := l.isLt
  have hbl := b.isLt
  refine h.gives rfl (decide_eq_true h.high) fun u hu => ?_
  have hstate : u.lnkState p l = LNK_UP := (hu.lnkState hbl p l).trans hup
  have hserve : u.fmServe b = u.departStart p l := by
    unfold State.fmServe
    simp only [hu.mbxIn, hu.mbxCmd, h.command, hp, hl, hstate]
    rw [if_neg (hu.fmServe h.high), if_neg (by omega), if_neg (by simp)]
  obtain ⟨hdepart, hqueues, hreg⟩ := State.departStart_spec (s := u) (p := p) (l := l) hstate (by rw [hu.link, hnone]) (by rw [hu.linkSecure hbl, hsec])
    (by rwa [hu.port])
  have htb : u.tb = s.tb := by
    unfold State.tb
    rw [hu.now]
  rw [hserve]
  generalize u.departStart p l = t at hdepart hqueues hreg ⊢
  refine ⟨by rw [hdepart, htb], queues_congr hqueues (by rw [hu.port]) rfl, ?_⟩
  rw [State.fld, hreg]
  exact hu.busy

/-- R407: FM_IDE_KEY with a key wrapped under a WRAP slot. -/
theorem gives_ideKeyServed (h : FmRequest s b 0x102 14) (hp : s.mbxIn b 1 = p.val) (hl : s.mbxIn b 2 = l.val) (hslot : s.mbxIn b 4 < 8)
    (hwritten : (s.otpSlot (s.mbxIn b 4)).written = true) (htype : (s.otpSlot (s.mbxIn b 4)).type = 2) {k : List Nat}
    (hkey : keyUnwrap (s.otpSlot (s.mbxIn b 4)).key 9 (s.inBytes b 5 10) = some k) (hwaits : (s.link p l).waitsKey = false) :
    Gives (.mbxAcknowledge b) s fun t => Published s t b 0 [] ∧ (t.link p l).ideKey = some (BitVec.ofNat 576 (bytesNat k)) := by
  have hpl := p.isLt
  have hll := l.isLt
  have hbl := b.isLt
  have hbh := h.high
  refine h.gives rfl (decide_eq_true h.high) fun u hu => ?_
  have hserve : u.fmServe b = (u.setLink p l { s.link p l with ideKey := some (BitVec.ofNat 576 (bytesNat k)) }).mbxFinish b RES_OK 0 [] := by
    unfold State.fmServe
    simp only [hu.mbxIn, hu.mbxCmd, hu.otpSlot, hu.inBytes, hu.link, h.command, hp, hl, hkey, hwaits, hwritten, htype]
    rw [if_neg (hu.fmServe h.high), if_neg (by simp; omega), if_neg Bool.false_ne_true]
  rw [hserve]
  generalize hv : ({ s.link p l with ideKey := some (BitVec.ofNat 576 (bytesNat k)) } : Link) = v
  refine ⟨State.mbxFinish_publishes ?_ (.inr (by omega)) (by decide) (by decide), ?_⟩
  · rw [State.reg_setLink, hu.command]
  · rw [(MbxOnly.ofFinish (u.setLink p l v) hbl (by decide)).link, State.link_setLink, ← hv]

/-- R407: FM_STATUS. -/
theorem gives_statusServed (h : FmRequest s b 0x103 1) (hp : s.mbxIn b 1 = p.val) :
    Gives (.mbxAcknowledge b) s fun t => Published s t b 0 ((List.range 4).map (fun k => s.lnkWord p k)) := by
  have hpl := p.isLt
  have hbl := b.isLt
  have hbh := h.high
  refine h.gives rfl (decide_eq_true h.high) fun u hu => ?_
  have hwords : (List.range 4).map (fun k => u.lnkWord p k) = (List.range 4).map (fun k => s.lnkWord p k) :=
    List.map_congr_left fun k hk => hu.lnkWord hbl p (List.mem_range.mp hk)
  have hserve : u.fmServe b = u.mbxFinish b RES_OK 0 ((List.range 4).map (fun k => s.lnkWord p k)) := by
    unfold State.fmServe
    simp only [hu.mbxIn, hu.mbxCmd, h.command, hp, hwords]
    rw [if_neg (hu.fmServe h.high), if_neg (by omega)]
  rw [hserve]
  exact State.mbxFinish_publishes hu.command (.inr (by omega)) (by decide) (by simp)

end

end Sys2Proof.Machine

/-! O51: what happens to the links of a fabric port. -/

namespace Sys2Proof.Machine
open Safety

/-- Settles O51: each command of a link, in the case its clause names. -/
theorem linksComeAndGo : Obligations.LinksComeAndGo := by
  unfold Obligations.LinksComeAndGo
  intro s p l
  dsimp only
  refine ⟨?_, ?_, ?_, ?_, ?_, ?_, ?_, gives_perstRelease s p l,
    fun rid st => ⟨gives_aerError_correctable s p l rid st, gives_aerError_uncorrectable s p l rid st⟩, ?_, ?_, ?_⟩
  · rintro x hflit hrate hwidth ⟨hsec, hroom⟩ hsplit hlink hport hperst hdown hidle
    have hexpects (hrun : s.ward.running = true) : Expects s p l := ⟨hrun, hsplit, hlink, hport, hperst, hdown⟩
    refine ⟨fun hrun => gives_linkArrival_latched hrun hdown, fun hrun hide hkey hf hcxl => ?_, fun r a w hrun hide hf hcxl htype hr hunits hfree hw hoff hbelow => ?_,
      fun hrun hide hr hf => ?_, fun rid n hrun hide hr hf hn hfree hbelow => ?_⟩
    · exact gives_linkArrival_waits (hexpects hrun) hflit hrate hwidth hide hkey hf (.inl hcxl)
    · exact gives_linkArrival_range (hexpects hrun) hflit hrate hwidth hide hf hcxl htype hr hunits hfree hw hoff hbelow hidle hsec hroom
    · exact gives_linkArrival_up (hexpects hrun) hflit hrate hwidth hide hf hr hidle hsec hroom
    · exact gives_linkArrival_function (hexpects hrun) hflit hrate hwidth hide hf hr hn hfree hbelow hidle hsec hroom
  · rintro x hflit ⟨hsec, hroom⟩ hrun hsplit hlink hport hperst hdown
    exact gives_linkArrival_noFlit ⟨hrun, hsplit, hlink, hport, hperst, hdown⟩ hflit hsec hroom
  · rintro hup hnone hflag ⟨hsec, hroom⟩
    exact gives_departRequested hup hnone hflag hsec hroom
  · intro d hd
    refine ⟨fun q hphase hstores hadm h0 h1 hclass => gives_release hd hphase hstores hadm h0 h1 hclass,
      fun hphase => gives_releaseTimeout hd hphase, ?_, ?_⟩
    · rintro hphase htodo hbusy hout hin hwaits ⟨hsec, hroom⟩
      exact gives_departed hd hphase htodo hbusy hout hin hwaits hsec hroom
    · rintro hphase htodo hbusy ⟨hsec, hroom⟩
      exact gives_surpriseInvDone hd hphase htodo hbusy hsec hroom
  · intro hup hsec hroom
    exact ⟨gives_surpriseDeparture hup hsec hroom, gives_surpriseDeparture_dpc hup hsec hroom, gives_ideIntegrityCheckFailed hup hsec hroom⟩
  · intro q hregion hdest hrid hwrites hward hdpc hnone
    exact gives_dpcClear hregion hdest hrid hwrites hward hdpc hnone
  · rintro w r hup hen hlink hunits ⟨hsec, hroom⟩
    have hleads : Leads s p l w := ⟨hup, hen, hlink⟩
    exact ⟨fun hfree hfits => hleads.gives_add hunits hsec hroom hfree hfits, fun hnone hfits => hleads.gives_releaseAsked hunits hsec hroom hnone hfits,
      fun d hd hwin hflushing hbusy => hleads.gives_flushed hunits hd hwin hflushing hbusy⟩
  · intro b hb hrun hpending hp
    have hrequest {cmd len : Nat} (hcmd : s.mbxCmd b = cmd) (hlen : s.mbxLen b = len) : FmRequest s b cmd len := ⟨hb, hrun, hpending, hcmd, hlen⟩
    refine ⟨fun hcmd hlen hl hdown => gives_bindServed (hrequest hcmd hlen) hp hl hdown, ?_, fun k hcmd hlen hl hslot hwritten htype hkey hwaits => ?_,
      fun hcmd hlen => gives_statusServed (hrequest hcmd hlen) hp⟩
    · rintro hcmd hlen hl hup hnone ⟨hsec, hroom⟩
      exact gives_unbindServed (hrequest hcmd hlen) hp hl hup hnone hsec hroom
    · exact gives_ideKeyServed (hrequest hcmd hlen) hp hl hslot hwritten htype hkey hwaits
  · intro b seq hlow hhigh hen hfree hbelow
    exact gives_fmUnbind_discarded ⟨hlow, hhigh, hfree, hbelow⟩ hen
  · intro b seq hlow hhigh hen hfree hbelow
    have hfirst : FirstFree s b := ⟨hlow, hhigh, hfree, hbelow⟩
    exact ⟨fun dev hdev => gives_fmBind hfirst hen hdev, gives_fmUnbind hfirst hen,
      fun stream slot wrapped hstream hslot => gives_fmIdeKey hfirst hen wrapped hstream hslot, gives_fmStatus hfirst hen,
      fun op h1 h2 => gives_fmStatus_discarded hhigh h1 h2⟩

end Sys2Proof.Machine
